-- ==== Sys2Proof/Word.lean ====
section
/-! DEFINITION. The words the spec moves about: a 32-bit parameter word (R135), a byte of a message, and the plainest
arithmetic on them. -/

namespace Sys2Proof

/-- One 32-bit parameter word, the form every parameter value travels in (R135). -/
abbrev Word := BitVec 32

/-- One byte of a message or of a store. -/
abbrev Byte := BitVec 8

/-- The signed value of a parameter word (R135: two's complement). -/
def sval (w : Word) : Int := w.toInt

/-- The word that carries a natural number (R135: right-aligned, the upper bits 0). -/
def nw (n : Nat) : Word := BitVec.ofNat 32 n

/-- The word that carries a signed number (R135: two's complement, sign-extended). -/
def iw (i : Int) : Word := BitVec.ofInt 32 i

/-- The word of a flag. -/
def bw (b : Bool) : Word := if b then 1 else 0

/-- Bits `hi` down to `lo` of a word, as a number. -/
def bitsOf (w : Word) (hi lo : Nat) : Nat := (w.toNat >>> lo) % 2 ^ (hi + 1 - lo)

/-- Bit `k` of a word. -/
def bitOf (w : Word) (k : Nat) : Bool := w.toNat.testBit k

end Sys2Proof
end

