-- ==== Sys2Proof/Syntax.lean ====
section
/-! DEFINITION. The commands the block takes: one constructor per row of spec/opcode_table.json, and the operands they
carry. The table spells no bits, so a command has no word. -/

namespace Sys2Proof

/-- A host-to-device message as it arrives (Table 4-4): its header fields, its payload, its CMAC. -/
structure HostMsg where
  kind : Byte
  flags : Byte
  tag : BitVec 16
  opcode : BitVec 16
  length : BitVec 16
  fresh : Word
  unit : Word
  timeout : BitVec 16
  atTime : BitVec 48
  payload : List Byte
  mac : BitVec 64
  deriving DecidableEq, Repr

/-- An entry of an image's CAN object table (chapter CAN FD Controllers): controller, object number, configuration word,
identifier, mask, period in ms, and the items a transmit object sends. -/
structure CanEntry where
  controller : Nat
  object : Nat
  cfg : Word
  ident : Word
  mask : Word
  period : Nat
  items : List Word
  deriving DecidableEq, Repr

/-- What the body of an image slot sets: its parameter items and its CAN object table. The body's bytes stand in the store (R66), but their
layout is Lumxon's and not in the spec. DESIGN CHOICE: assumption log 9. -/
structure ImageBody where
  items : List (Nat × Word)
  objects : List CanEntry
  deriving DecidableEq, Repr

/-- What the steps of Table 3-4 measure on one leg: the rails of its two domains in mV (step 1); which of the four test levels its
comparators tripped on and released after (step 2; bit 0 and 1 the desaturation comparators of the high and low side, 2 the
over-current comparator, 3 the shoot-through interlock); its own link and the highest and lowest midpoint over the window of step 3 in
V; the charges of its gate loops in nC (step 4); Lnn.CS in mV and Lnn.TS in 0.1 °C (step 5). -/
structure LegProof where
  leg : Nat
  posHs : Int
  negHs : Int
  posLs : Int
  negLs : Int
  trips : BitVec 4
  releases : BitVec 4
  link : Nat
  midMax : Nat
  midMin : Nat
  qgHs : Nat
  qgLs : Nat
  cs : Nat
  ts : Int
  deriving DecidableEq, Repr

/-- What the off-state checks of Table 6-4 measure on one leg: its gates in mV, Lnn.CS in mV, its midpoint and the sheaf's link in V,
which desaturation comparators and whether an over-current comparator is active, Lnn.TS in 0.1 °C. -/
structure OffCheck where
  gateHs : Int
  gateLs : Int
  cs : Nat
  mid : Int
  link : Nat
  desatHs : Bool
  desatLs : Bool
  oc : Bool
  ts : Int
  deriving DecidableEq, Repr

/-- What step 3 measures on one leg when it is run before a start (R75): its link and its highest midpoint in V. -/
structure MidCheck where
  leg : Nat
  link : Nat
  mid : Nat
  deriving DecidableEq, Repr

/-- What the check of a DC-link sense channel measures, in mV (R244): the channel on its internal test level, then the fast reading and
the supervisor's comparator path on the link. -/
structure LinkCheck where
  test : Int
  fast : Int
  sup : Int
  deriving DecidableEq, Repr

/-- One sample of an analogue port (R250, R251): the levels of its contacts in mV, and in RESOLVER mode the envelopes that its demodulation
gives, in mV. -/
structure PortSample where
  aP : Int
  aN : Int
  bP : Int
  bN : Int
  sin : Int
  cos : Int
  deriving DecidableEq, Repr

/-- What the presence checks of a port measure (Table 9-5): the supply and excitation currents in mA, the samples of 20 ms, the
excitation phase in 0.1°, the pairs found in wire disagreement (bit 0 A, 1 B, 2 Z), the Hall levels that stood for 10 ms, and of 8 SSI
frames how many were accepted and by how many counts their positions differed. -/
structure Presence where
  supply : Nat
  excitation : Nat
  samples : List PortSample
  phase : Int
  wires : BitVec 3
  hall : Option (Fin 8)
  frames : Nat
  jump : Nat
  deriving DecidableEq, Repr

/-- The islands of Table 1-2. -/
inductive Island where
  | leg (n : Nat)
  | pulse | engine | measurement | ports | shell | supervisor
  deriving DecidableEq, Repr

/-- A CAN frame as it stands on the bus (Table 18-1): its identifier, its format bits, the error state indicator, its data. -/
structure CanFrame where
  ident : Nat
  ide : Bool
  fdf : Bool
  brs : Bool
  rtr : Bool
  esi : Bool
  data : List Byte
  deriving DecidableEq, Repr

/-- The memories of Table 16-4, with the unit they belong to. -/
inductive Memory where
  | supervisor
  | leg (n : Nat)
  | sheaf (n : Nat)
  | lane (n : Nat)
  | generator (n : Nat)
  | fast (n : Nat)
  | slow (n : Nat)
  | port (n : Nat)
  | shell
  /-- A word of the parameter mirror, with the item it holds. -/
  | mirror (addr : Nat)
  /-- A command record of the mailbox memory. -/
  | mailbox (slot index : Nat)
  /-- A message object of a CAN controller (R479). -/
  | message (controller object : Nat)
  /-- Image slot A (0) or B (1). -/
  | store (slot : Nat)
  deriving DecidableEq, Repr

/-- A word as it is read from a memory (R40): the address used, the stored address-parity bit after correction, and how many of
its 276 bits were wrong. -/
structure MemRead where
  address : Nat
  parity : Bool
  wrong : Nat
  deriving DecidableEq, Repr

/-- What one phase of the mains gives over a window (R236): RMS of the voltage and of the current at their taps in µV,
and the mean of their product in µV². -/
structure PhaseMeans where
  vRms : Nat
  iRms : Nat
  product : Int
  deriving DecidableEq, Repr

/-- What an integrating converter accumulated over a window: the mean codes of its inputs (input, 24-bit code), the three phases of a mains
window, and by how many ppm its internal reference deviates (Table 8-8). -/
structure WindowMeans where
  means : List (Nat × Int)
  phases : List PhaseMeans
  refPpm : Int
  deriving DecidableEq, Repr

/-- What a test cycle of a safety output reads (Table 15-4), in mV: VSO, and SOnP and SOnN at the end of the pulse of its high-side
switch and of that of its low-side switch. -/
structure PulseTest where
  vso : Nat
  hsP : Nat
  hsN : Nat
  lsP : Nat
  lsN : Nat
  deriving DecidableEq, Repr

/-- What the shutdown-path test observes (Table 15-6): whether every leg island read the block line, and the ASC select line, asserted and
then released; after how many ns the slowest leg reported the release signal absent; how many µs the slowest traction domain took into
lockout and back into regulation; which path responded to which STO channel (bit 0 channel A on path A, 1 A on B, 2 B on A, 3 B on B); how
long the test took in µs. -/
structure PathTest where
  blockRead : Bool
  ascRead : Bool
  absentNs : Nat
  lockoutUs : Nat
  regulateUs : Nat
  drives : BitVec 4
  us : Nat
  deriving DecidableEq, Repr

/-- What a self-test measures (Tables 6-5, 8-6, 9-6, R227, R297, R436, R496). Of a leg: which comparators of Table 6-11 tripped on their test level
and released after it, the charges of the gate loops in nC, the link and the highest midpoint of step 3 in V; the off-state checks of
legs. Of a converter input: its codes on each test level, and its code while 50 µA flow; of a converter the codes of its references, or
by how many ppm each reference window deviates. Of a port: which pairs read their internal levels right (A, B, Z, X), the deviations of
its converters in mV, its presence checks. Of lanes: which stored vectors came out bit for bit. Of a CAN controller: the frames looped
back, each as sent and as received with its stamp. Of an output: what its test cycle found. At last how long the test took in µs. -/
structure SelftestFinding where
  trips : BitVec 7
  releases : BitVec 7
  qgHs : Nat
  qgLs : Nat
  link : Nat
  midMax : Nat
  offs : List (Nat × OffCheck)
  levels : List (List Int)
  injected : Int
  low : BitVec 14
  high : BitVec 14
  windows : List Int
  pairs : BitVec 4
  converters : List Int
  presence : Presence
  vectors : List (Nat × BitVec 16)
  loops : List (CanFrame × CanFrame × Nat)
  pulse : PulseTest
  us : Nat
  deriving DecidableEq, Repr

/-- What the hardware shows to a command that starts work on it: deferred proof steps, whether a CAN controller integrates (its recovery
action), what a self-test measures, the load of a new stream in kbit/s (R129). -/
structure Finding where
  checks : List MidCheck
  ok : Bool
  test : SelftestFinding
  load : Nat
  deriving DecidableEq, Repr

/-- The commands: one constructor per row of spec/opcode_table.json. An event row carries what the device meets
(which unit, what was measured, how a test came out); a host row names the tag record whose command runs. -/
inductive Instr where
  /-- VSUP_START (R52): VSUP rising through 8.6 V takes the device out of reset into POWERUP with device time at 0. -/
  | vsupStart
  /-- VSUP_LOW_OPERATION (R52): VSUP held between 8.2 and 9.0 V for the 100 µs filter raises a class-W supply warning.
  -/
  | vsupLowOperation (mv : Nat)
  /-- VSUP_HIGH_OPERATION (R52): VSUP held between 60.0 and 64.0 V for the 100 µs filter raises a class-W supply
  warning. -/
  | vsupHighOperation (mv : Nat)
  /-- VSUP_OVER_VOLTAGE (R52): VSUP above 64.0 V for 20 µs puts every sheaf in its safe state and switches the safety
  outputs off. -/
  | vsupOverVoltage (mv : Nat)
  /-- SUPPLY_LOSS (R55): VSUP below 8.2 V for 20 µs brings every sheaf to OPEN and every safety output off, writes the
  last fault record and resets the device. -/
  | supplyLoss
  /-- NPOR_RESET (R54): nPOR held low for 10 ms or more resets the whole device, LOCKED included, as a supply loss
  followed by a start. -/
  | nporReset
  /-- START_TESTS_END (R53): The supervisor ends its start tests; on a pass it releases nFAULT and nSAFE, on a
  lockstep or memory failure the device enters LOCKED. -/
  | startTestsEnd (lockstepOk : Bool) (memoryOk : Bool) (clockOk : Bool)
  /-- FIRMWARE_START_TIMEOUT (R507): Booted firmware that has not reached running within 100 ms of reset causes a
  reset and is rejected. -/
  | firmwareStartTimeout
  /-- POWERUP_END (R81): At the end of POWERUP the device enters PROOF, STANDBY or SAFE as Table 3-6 decides and
  enables the host ports. -/
  | powerupEnd (a : ImageBody) (b : ImageBody)
  /-- PROOF_END (R80): When every proving sheaf has left PROVING and the shutdown-path test has ended, the device goes
  to STANDBY or SAFE and releases the commands held during PROOF. -/
  | proofEnd
  /-- SHUTDOWN_PATH_TEST_END (R427): The shutdown-path test ends; a single failed path is class L and puts the device
  in SAFE, a failure of both paths is class G. -/
  | shutdownPathTestEnd (test : PathTest)
  /-- SHEAF_PROOF_END (R78): A sheaf proof ends and the sheaf goes to READY or WINNOWED, with its failed legs winnowed
  under class-L faults. -/
  | sheafProofEnd (unit : Nat) (legs : List LegProof) (link : LinkCheck) (presence : Presence)
  /-- WAKE (R387): WAKE high for 10 ms with the LVSW latch open closes the latch and, in TRANSPORT, starts POWERUP
  without resetting device time. -/
  | wake (elapsed : Nat) (ms : Nat)
  /-- SHIP_HOLD_10S (R385): SHIP held low for 10 s removes the AUXB edges and opens the LVSW latch for the 2 s reset
  of the 12 V net. -/
  | shipHold10s
  /-- SHIP_RESET_END (R385): At the end of the 2 s open phase the LVSW latch recloses and AUXB makes a start attempt.
  -/
  | shipResetEnd
  /-- SHIP_HOLD_20S (R85): SHIP held low for 20 s enters TRANSPORT from STANDBY or SAFE, and in any other state raises
  a class-W warning and is ignored. -/
  | shipHold20s
  /-- DEBUG_HALT (R450): A debug halt on a TH9648-AD0 counts as loss of the shell processor clock and puts every
  affected sheaf in its safe state. -/
  | debugHalt
  /-- DEBUG_RESUME (R450): When the halted processor resumes, the SAFE cause ends and the device fault status returns
  to idle. -/
  | debugResume
  /-- ISLAND_CLOCK_LOSS (R28): An island clock declared lost puts the sheaves of Table 1-4 in their safe state within
  2 µs and raises the device or leg fault. -/
  | islandClockLoss (island : Island) (gap : Nat) (edges : Nat)
  /-- FABRIC_CLOCK_STOP (R218): With no fabric clock edge for 20 ns every edge line falls to off without that clock.
  -/
  | fabricClockStop
  /-- TIME_REALIGN (R30): Every 1,024 ns the time keeper realigns each island's replica of device time over the
  dedicated time line. -/
  | timeRealign
  /-- MEMORY_SCRUB (R41): The background scrubber reads, corrects and writes back a memory word, and poisons a word
  with an uncorrectable error. -/
  | memoryScrub (memory : Memory) (word : MemRead)
  /-- PARAM_CRC_COMPARE (R155): Every 100 ms the shell processor compares each island's parameter CRC with its mirror
  and raises a parameter-integrity fault after two mismatches. -/
  | paramCrcCompare (unit : Nat) (held : List (Nat × Word))
  /-- PARAM_CRC_UPDATE (R158): The device updates DEV.PARAM_CRC_ACT and DEV.PARAM_CRC_SHD after a change that affects
  them. -/
  | paramCrcUpdate
  /-- DISCOVER (R102): A DISCOVER broadcast on Ethernet is answered with an ADVERTISE within 1 ms. -/
  | discover (port : Fin 3)
  /-- HOST_ATTACH (R103): HOST_ATTACH with operation attach verifies the slot's root key and freshness, chooses a
  slot, derives the session key and returns the attach result. -/
  | hostAttach (port : Fin 8) (msg : HostMsg)
  /-- HOST_DETACH (R111): HOST_ATTACH with operation detach detaches the matching slot, holding its completions and
  claims for 2 s. -/
  | hostDetach (port : Fin 8) (msg : HostMsg)
  /-- LINK_DOWN (R110): An Ethernet link that goes down detaches every slot attached through it. -/
  | linkDown (port : Fin 3)
  /-- LINK_UP (R524): An Ethernet port completes link training and counts as linked from then on. -/
  | linkUp (port : Fin 3)
  /-- HOST_IDLE_TIMEOUT (R110): A slot with no authenticated message for HOST[n].IDLE_MAX is detached. -/
  | hostIdleTimeout (slot : Fin 8)
  /-- SLOT_HOLD_EXPIRY (R112): When a held slot is not re-attached within 2 s, the device discards its completions,
  releases its claims and frees the slot. -/
  | slotHoldExpiry (slot : Fin 8)
  /-- COMMAND_ACCEPT (R113): A host-to-device message is checked for length, tag and credits and written into its
  tag's record, or discarded and counted. -/
  | commandAccept (port : Fin 8) (msg : HostMsg)
  /-- COLLECT (R114): A COLLECT message frees the records of the tags set in its bitmap and keeps the slot alive. -/
  | collect (port : Fin 8) (msg : HostMsg)
  /-- COMPLETION_RESEND (R114): Every 10 ms the device resends each completion that has not been collected. -/
  | completionResend (slot : Fin 8)
  /-- CREDIT_SEND (R116): The device sends a CREDIT message when returned credits have waited 1 ms, and at least every
  10 ms while the slot is attached. -/
  | creditSend (slot : Fin 8)
  /-- SEQUENCE_START (R37): A waiting sequence command starts when a sequence context and its unit become free. -/
  | sequenceStart (slot : Fin 8) (index : Fin 64) (finding : Finding)
  /-- COMMAND_TIMEOUT (R125): A command that reaches its timeout completes with TIMEOUT, and a running sequence is
  stopped by its abort action. -/
  | commandTimeout (slot : Fin 8) (index : Fin 64)
  /-- AT_START (R126): A command with a valid AT field starts at AT, or completes with LATE when it reaches execution
  beyond AT_TOL. -/
  | atStart (slot : Fin 8) (index : Fin 64) (finding : Finding)
  /-- STORE_CLAIM_EXPIRY (R96): Ten seconds without a further NV_COMMIT from the claiming slot end the image-store
  claim and discard the held header. -/
  | storeClaimExpiry
  /-- TIME_QUERY (R131): TIME_QUERY returns device time, vehicle time, the offset, the rate adjustment and the servo
  state. -/
  | timeQuery (slot : Fin 8) (index : Fin 64)
  /-- PARAM_READ (R152): PARAM_READ returns the active or shadow value and a status for each of up to 64 addresses. -/
  | paramRead (slot : Fin 8) (index : Fin 64)
  /-- PARAM_WRITE (R123): PARAM_WRITE checks every item in the order of Table 5-3 and then writes all items or none,
  each taking effect by its change class. -/
  | paramWrite (slot : Fin 8) (index : Fin 64)
  /-- SWAP (R89): SWAP checks the class-O items against closed loops and exchanges the active and shadow sets of a
  sheaf, or of every sheaf, at each sheaf's next reload. -/
  | swap (slot : Fin 8) (index : Fin 64)
  /-- CLAIM_TAKE (R119): CLAIM with operation take gives the slot the CONTROL claim on every sheaf of its mask, all or
  none. -/
  | claimTake (slot : Fin 8) (index : Fin 64)
  /-- CLAIM_RELEASE (R112): CLAIM with operation release leaves the sheaves of its mask without a CONTROL holder. -/
  | claimRelease (slot : Fin 8) (index : Fin 64)
  /-- PROVE (R79): PROVE runs the proof steps on a leg, traction set, sheaf or the device, as the target's state
  allows. -/
  | prove (slot : Fin 8) (index : Fin 64)
  /-- SHEAF_START (R76): SHEAF_START runs any deferred step 3 and takes a READY sheaf to RUN where Table 3-9 permits
  it. -/
  | sheafStart (slot : Fin 8) (index : Fin 64) (checks : List MidCheck)
  /-- SHEAF_STOP_READY (R124): SHEAF_STOP with option 0 performs the sheaf's orderly stop to READY, ending any waiting
  start, proof or self-test of it. -/
  | sheafStopReady (slot : Fin 8) (index : Fin 64)
  /-- SHEAF_STOP_OFF (R124): SHEAF_STOP with option 1 performs the orderly stop and takes the sheaf to OFF, disabling
  its gate supplies. -/
  | sheafStopOff (slot : Fin 8) (index : Fin 64)
  /-- WINNOW (R499): WINNOW fences a unit by command, which returns to service only on RESTORE. -/
  | winnow (slot : Fin 8) (index : Fin 64)
  /-- RESTORE (R531): RESTORE runs the unit's targeted self-test and recovery action as its fault state requires,
  returning it to service on a pass. -/
  | restore (slot : Fin 8) (index : Fin 64) (finding : SelftestFinding) (integrated : Bool)
  /-- SELFTEST (R187): SELFTEST runs the numbered test of the addressed unit and returns the result word. -/
  | selftest (slot : Fin 8) (index : Fin 64) (finding : SelftestFinding)
  /-- FORCE (R456): FORCE sets force bits that inject conditions into a unit's real detection paths. -/
  | force (slot : Fin 8) (index : Fin 64)
  /-- MOVE_DETENT (R394): MOVE with operation 1 moves an actuator to a defined detent after the start checks of Table
  14-2. -/
  | moveDetent (slot : Fin 8) (index : Fin 64)
  /-- MOVE_POSITION (R394): MOVE with operation 2 moves an actuator to a position within POS_MIN to POS_MAX. -/
  | movePosition (slot : Fin 8) (index : Fin 64)
  /-- MOVE_HOME (R392): MOVE with operation 3 runs a homing sequence to the end stop and then moves to POS_0. -/
  | moveHome (slot : Fin 8) (index : Fin 64)
  /-- MOVE_LEARN (R393): MOVE with operation 4 homes, drives to the opposite stop, stores the span and moves to POS_0;
  it is accepted only in SERVICE. -/
  | moveLearn (slot : Fin 8) (index : Fin 64)
  /-- CHARGE_SET (R335): CHARGE_SET checks and writes the settings and battery-limit fields selected by its VALID bits
  and restarts the charger watchdog. -/
  | chargeSet (slot : Fin 8) (index : Fin 64)
  /-- CHARGE_ARM (R345): CHARGE_ARM with operation 1 runs the arm sequence of Table 12-7 and starts a charge session.
  -/
  | chargeArm (slot : Fin 8) (index : Fin 64)
  /-- CHARGE_DISARM (R349): CHARGE_ARM with operation 2 ends power flow with cause DISARM through the hand-over. -/
  | chargeDisarm (slot : Fin 8) (index : Fin 64)
  /-- CHARGE_ARM_AFTER_TIMER (R344): CHARGE_ARM with operation 3 clears the TIMER latch and arms. -/
  | chargeArmAfterTimer (slot : Fin 8) (index : Fin 64)
  /-- NV_COMMIT_CHUNK (R97): NV_COMMIT carrying data writes a chunk into the image slot not booted from, holding
  header bytes for the seal. -/
  | nvCommitChunk (slot : Fin 8) (index : Fin 64)
  /-- NV_COMMIT_SEAL (R98): A seal NV_COMMIT checks the target image slot and writes its header words 1 to 3 before
  word 0. -/
  | nvCommitSeal (slot : Fin 8) (index : Fin 64)
  /-- NV_COMMIT_FW_CHUNK (R506): NV_COMMIT with offset bit 31 set writes a chunk into the firmware slot that is not
  running. -/
  | nvCommitFwChunk (slot : Fin 8) (index : Fin 64)
  /-- NV_COMMIT_FW_SEAL (R506): A firmware seal checks the firmware slot under R505 and, when it is valid, sets the
  slot PENDING. -/
  | nvCommitFwSeal (slot : Fin 8) (index : Fin 64)
  /-- STREAM_OPEN (R129): STREAM_OPEN opens a stream of sampled sources to the host within the stream and bandwidth
  limits. -/
  | streamOpen (slot : Fin 8) (index : Fin 64) (load : Nat)
  /-- STREAM_CLOSE (R129): STREAM_CLOSE closes the named stream. -/
  | streamClose (slot : Fin 8) (index : Fin 64)
  /-- STREAM_FRAME_SEND (R130): A STREAM frame is sent when the next row would overflow it or 1 ms after its first
  row, and is dropped when not sent within 2 ms of its last row. -/
  | streamFrameSend (slot : Fin 8) (number : Fin 64) (late : Bool)
  /-- MODE_REQ_DRIVE (R81): A write of DRIVE to DEV.MODE_REQ takes the device from STANDBY to DRIVE when the
  conditions of Table 3-6 hold. -/
  | modeReqDrive (slot : Fin 8) (index : Fin 64)
  /-- MODE_REQ_CHARGE (R81): A write of CHARGE to DEV.MODE_REQ takes the device from STANDBY to CHARGE when the park
  lock is proved and the other conditions hold. -/
  | modeReqCharge (slot : Fin 8) (index : Fin 64)
  /-- MODE_REQ_SERVICE (R500): A write of SERVICE to DEV.MODE_REQ by an SVC_CLAIM slot takes the device from STANDBY
  to SERVICE. -/
  | modeReqService (slot : Fin 8) (index : Fin 64)
  /-- MODE_REQ_STANDBY (R81): A write of STANDBY to DEV.MODE_REQ leaves DRIVE, CHARGE, SERVICE or SAFE after the
  orderly stop or hand-over the transition requires. -/
  | modeReqStandby (slot : Fin 8) (index : Fin 64)
  /-- HV_CONNECT (R420): A write of 1 to DEV.HV_REQ runs the battery-connection step and completes when it ends. -/
  | hvConnect (slot : Fin 8) (index : Fin 64)
  /-- HV_DISCONNECT (R420): A write of 0 to DEV.HV_REQ requests SO0 and SO1 off. -/
  | hvDisconnect (slot : Fin 8) (index : Fin 64)
  /-- SO_USER_WRITE (R421): A write of DEV.SO_USER requests each HOST-owned safety output on or off. -/
  | soUserWrite (slot : Fin 8) (index : Fin 64)
  /-- DIR_PERMIT_WRITE (R414): A write of DEV.DIR_PERMIT sets the permitted direction, which comes into force at once
  or at standstill. -/
  | dirPermitWrite (slot : Fin 8) (index : Fin 64)
  /-- URG_REQ (R237): A write of ADCI[n].URG_REQ starts one fixed window on an input when no window runs, and is
  otherwise dropped. -/
  | urgReq (slot : Fin 8) (index : Fin 64)
  /-- SW_TRIG (R226): A write of ADCF[n].SW_TRIG triggers the named sequence as any trigger. -/
  | swTrig (slot : Fin 8) (index : Fin 64)
  /-- LANE_CLOSE (R289): A write of LOOP[n].CLOSE = 1 requests that the lane close, held during a pending swap. -/
  | laneClose (slot : Fin 8) (index : Fin 64)
  /-- LANE_OPEN (R291): A write of LOOP[n].CLOSE = 0 opens the lane only when it is at rest or its group has no active
  leg. -/
  | laneOpen (slot : Fin 8) (index : Fin 64)
  /-- HOST_CMP_WRITE (R205): A PARAM_WRITE of PWM[n].HOST_CMP_p items forms one group-write per touched leg group,
  moved into the shadows at the sheaf reload. -/
  | hostCmpWrite (slot : Fin 8) (index : Fin 64)
  /-- SHOOT_CLEAR (R181): A write of 0 to LEG[n].SHOOT clears the shoot-through flag. -/
  | shootClear (slot : Fin 8) (index : Fin 64)
  /-- BO_RECOVER (R484): A write of 1 to CAN[n].BO_RECOVER starts bus-off recovery of a controller in BUS_OFF. -/
  | boRecover (slot : Fin 8) (index : Fin 64)
  /-- IDCLASH_CLEAR (R486): A write of 0 to CAN[n].IDCLASH clears the identifier-clash flag. -/
  | idclashClear (slot : Fin 8) (index : Fin 64)
  /-- OBJ_SEL (R483): A write of CAN[n].OBJ_SEL copies the selected message object whole into the window items. -/
  | objSel (slot : Fin 8) (index : Fin 64)
  /-- JRN_SEL (R454): A write of FLT.JRN_SEL selects the journal record shown in JRN_W0 to JRN_W4. -/
  | jrnSel (slot : Fin 8) (index : Fin 64)
  /-- LOG_SEL (R510): A write of SVC.LOG_SEL selects the service-log entry shown in LOG_W0 to LOG_W3. -/
  | logSel (slot : Fin 8) (index : Fin 64)
  /-- FW_CONFIRM (R508): A write of 1 to SVC.FW_CONFIRM makes the running TRIAL firmware ACTIVE and raises the
  firmware floor. -/
  | fwConfirm (slot : Fin 8) (index : Fin 64)
  /-- FW_SELECT (R508): A write of 1 to SVC.FW_SELECT makes a valid SPARE firmware slot PENDING. -/
  | fwSelect (slot : Fin 8) (index : Fin 64)
  /-- SERVICE_HOST_DETACHED (R501): A SERVICE host detached for 2 s makes the device stop the sheaves not permitted in
  STANDBY, enter STANDBY and release the SVC_CLAIM claims. -/
  | serviceHostDetached
  /-- SD_QUERY (R503): An SD_QUERY on E2 whose prefix matches the device number schedules one SD_REPLY after a random
  delay. -/
  | sdQuery (bits : Fin 262144) (length : Fin 19) (window : Nat) (nonce : BitVec 64)
  /-- SD_REPLY (R503): At the end of its random delay the device sends the scheduled SD_REPLY. -/
  | sdReply
  /-- SD_QUIET (R503): An SD_QUIET addressed to the device quiets it for queries with that nonce and is acknowledged
  with an SD_REPLY. -/
  | sdQuiet (nonce : BitVec 64) (own : Bool)
  /-- SPI_WRITE (R525): An SPI transaction with command 0x01 delivers one host-to-device message, or is discarded when
  it ends early. -/
  | spiWrite (msg : HostMsg) (whole : Bool)
  /-- SPI_READ (R525): An SPI transaction with command 0x02 reads the waiting device-to-host message whole, or 32 zero
  bytes. -/
  | spiRead (whole : Bool)
  /-- SPI_STATUS (R525): An SPI transaction with command 0x03 reads a snapshot of the waiting and free byte counts. -/
  | spiStatus
  /-- SPI_OTHER (R525): An SPI transaction with any other command byte returns zero bytes and is ignored. -/
  | spiOther (length : Nat)
  /-- PTP_SYNC (R131): An IEEE 802.1AS sync updates the servo that adjusts the rate of device time and its lock state.
  -/
  | ptpSync (residual : Nat) (offset : Int) (rate : Int)
  /-- PTP_HOLDOVER (R131): TIME.HOLDOVER_N missed syncs in a row put the servo into HOLDOVER with the last rate kept.
  -/
  | ptpHoldover
  /-- SHEAF_RELOAD (R195): At a sheaf period start the sheaf-owned values change and, in a timed carrier, the period
  word is taken. -/
  | sheafReload (sheaf : Fin 12) (slew : Nat)
  /-- GROUP_RELOAD (R202): At a group reload the group's compare shadow is sampled, with short-pulse handling of each
  leg's compare. -/
  | groupReload (sheaf : Fin 12) (group : Fin 8)
  /-- GROUP_WRITE (R201): A group-write arriving whole from a lane replaces the words of its kind and position in the
  group's compare shadow. -/
  | groupWrite (sheaf : Fin 12) (group : Fin 8) (tick : Nat)
  /-- LEG_EDGE (R206): The fabric turns a switch on or off at a placed edge, with dead time, passing through the leg's
  interlock to its driver. -/
  | legEdge (leg : Fin 48) (high : Bool) (on : Bool) (plateau : Nat) (phases : Nat) (level : Int)
  /-- INTERPOLATOR_RECAL (R192): Every 100 µs while a sheaf runs the fabric recalibrates the interpolator against the
  tick. -/
  | interpolatorRecal
  /-- TRIGGER_EVENT (R212): A trigger generator issues its event to a converter or port at its reference instant plus
  offset, or counts a skip. -/
  | triggerEvent (sheaf : Fin 12) (generator : Fin 8)
  /-- SHEAF_RUN_STOP (R216): When a stop word reaches the fabric, both switches of every leg turn off at once and
  triggers cease. -/
  | sheafRunStop (sheaf : Fin 12)
  /-- SYNCIN_EDGE (R363): A rising SYNCIN edge advances acquisition toward lock, or starts the next AUXB period while
  LOCKED. -/
  | syncinEdge (tick : Nat)
  /-- SYNCIN_LOSS (R364): Four expected SYNCIN periods without an edge return the fabric to its own period and raise a
  class-W fault. -/
  | syncinLoss
  /-- PROFILE_WORD (R167): On each leg-island cycle the leg forms and sends each driver's profile word from its band
  and current band. -/
  | profileWord (leg : Fin 48) (cs : Nat) (delay : Fin 16) (goodHs : Bool) (goodLs : Bool)
  /-- DESATURATION (R174): A desaturation at or after the end of blanking starts soft turn-off, latches the leg off
  and raises a class-F fault. -/
  | desaturation (leg : Fin 48) (high : Bool) (mv : Int)
  /-- OVER_CURRENT (R175): Lnn.CS leaving an over-current threshold removes both on commands and starts soft turn-off
  of any switch that is on. -/
  | overCurrent (leg : Fin 48) (mv : Int) (sat : Option Bool)
  /-- SOFT_TURN_OFF_END (R176): A switch in soft turn-off whose gate falls below VOFF + MILLER_V engages the Miller
  clamp. -/
  | softTurnOffEnd (leg : Fin 48)
  /-- SHOOT_THROUGH (R181): Both edge lines commanding on together hold both switches off to the next period start and
  count the conflict. -/
  | shootThrough (leg : Fin 48)
  /-- PROFILE_TIMING_FAULT (R171): A profile-timing fault completes the edge at the fall-back current and uses the
  fall-back profile to the next reload. -/
  | profileTimingFault (leg : Fin 48) (high : Bool) (level : Int)
  /-- GATE_SUPPLY_UNDERVOLTAGE (R184): A gate-supply rail in lockout outside PROVING raises a class-F fault of the
  leg. -/
  | gateSupplyUndervoltage (leg : Fin 48) (high : Bool) (pos : Int) (neg : Int) (foldback : Bool)
  /-- OFF_STATE_DIAG (R185): Every OFFDIAG_PERIOD a non-switching leg with supplies enabled runs the off-state checks
  and raises the class stated. -/
  | offStateDiag (leg : Fin 48) (check : OffCheck)
  /-- CYCLE_LIMIT (R365): Current band I3 sampled with the high side on sends a limit word that ends that period's
  high-side pulse. -/
  | cycleLimit (leg : Fin 48) (tick : Nat)
  /-- ZERO_CURRENT (R373): In diode emulation, band I0 sampled after ZCD_BLANK turns the buck phase's low side off to
  the next period start. -/
  | zeroCurrent (leg : Fin 48) (tick : Nat)
  /-- CONVERSION_DONE (R221): A fast-converter result becomes ready and is sent to the control engine; the converter
  starts its oldest queued trigger when free. -/
  | conversionDone (converter : Fin 16) (code : BitVec 14)
  /-- CONVERTER_TRIGGER (R222): A trigger reaching a fast converter starts its sequence, is queued, or is dropped with
  a missed marker. -/
  | converterTrigger (converter : Fin 16) (sequence : Fin 8)
  /-- BACKGROUND_SLOT (R224): Every BG_PERIOD a free, idle converter starts a background conversion of the next input
  of its mask. -/
  | backgroundSlot (converter : Fin 16)
  /-- BACKGROUND_STARVE (R225): A background input without a completed conversion for BG_STARVE raises a class-W
  starvation fault. -/
  | backgroundStarve (converter : Fin 16) (input : Fin 8)
  /-- CONVERTER_CALIBRATION (R227): Every CAL_PERIOD a fast converter converts its internal references and updates its
  gain and offset corrections. -/
  | converterCalibration (converter : Fin 16) (low : BitVec 14) (high : BitVec 14)
  /-- OPEN_WIRE_CHECK (R242): Every OW_PERIOD an input in OW_MASK is checked with an injected 50 µA current and
  flagged open after two failures. -/
  | openWireCheck (input : Fin 192) (code : Int)
  /-- MAINS_CROSSING (R235): A positive-going mains zero crossing advances mains lock or ends a mains-locked window.
  -/
  | mainsCrossing (phase : Fin 3) (time : Nat) (swing : Nat) (rms : Nat)
  /-- MAINS_UNLOCK_TIMEOUT (R235): No valid crossing within 44.44 ms unlocks the mains and starts fixed windows. -/
  | mainsUnlockTimeout
  /-- WINDOW_END (R236): At the end of an integrating window the converter publishes the means, mains quantities and
  energy within 200 µs. -/
  | windowEnd (converter : Fin 2) (w : WindowMeans)
  /-- ISO_STATE_END (R238): At the end of a switched-reference state the insulation monitor changes the switched path
  after its 10 ms gap. -/
  | isoStateEnd (mp : List Int) (mn : List Int)
  /-- ISO_CYCLE_END (R239): At the end of a P and N cycle the monitor computes the insulation of each pole and raises
  any warning. -/
  | isoCycleEnd
  /-- LATCH_EVENT (R260): A latch event captures a port's position and sends the latch result to the control engine.
  -/
  | latchEvent (port : Fin 4) (slot : Fin 8)
  /-- PORT_EDGE (R254): A filtered input edge of an ABZ, HALL or SSI port is stamped and counted, with quadrature,
  Hall and Z checks. -/
  | portEdge (port : Fin 4) (levels : Fin 8) (tick : Nat) (stable : Nat)
  /-- OBSERVER_UPDATE (R250): Every 625 ns an analogue port updates its tracking observer angle and speed and checks
  amplitude and common mode. -/
  | observerUpdate (port : Fin 4) (sample : PortSample)
  /-- EXCITATION_PERIOD (R252): Each excitation period the resolver port checks its peak excitation current. -/
  | excitationPeriod (port : Fin 4) (peak : Nat)
  /-- WIRE_DISAGREEMENT (R253): A pair in wire disagreement for WIRE_T raises a class-F fault of the port. -/
  | wireDisagreement (port : Fin 4) (pair : Fin 3) (vP : Nat) (vN : Nat) (ticks : Nat)
  /-- SSI_FRAME (R258): Every SSI_PERIOD the port clocks an SSI frame and accepts or rejects it. -/
  | ssiFrame (port : Fin 4) (word : BitVec 40) (lowBefore : Bool) (release : Nat)
  /-- SPEED_COMPUTE (R263): Every SPD_PERIOD the port computes its speed with plausibility and standstill checks. -/
  | speedCompute (port : Fin 4)
  /-- COMPARE_EVENT (R268): A port compare unit issues one event when the position crosses a grid point in an enabled
  direction. -/
  | compareEvent (port : Fin 4) (c : Fin 2)
  /-- LANE_SET_COMPLETE (R279): A lane's sample set completes and the lane starts its computation, or skips it when a
  slot is missed. -/
  | laneSetComplete (lane : Fin 32)
  /-- LANE_SET_TIMEOUT (R277): WAIT_TMO after a sample set opened, the set completes with any slot not joined counted
  as missed. -/
  | laneSetTimeout (lane : Fin 32)
  /-- LANE_TIMER (R278): A lane without WAIT slots starts a computation every TS_NOM on the engine's timer. -/
  | laneTimer (lane : Fin 32)
  /-- LANE_COMPUTE_END (R279): A lane computation ends and its group-write or outputs leave on that cycle. -/
  | laneComputeEnd (lane : Fin 32)
  /-- PROFILE_STEP (R293): Every PROF[n].TS a profile generator computes its next position, velocity and acceleration.
  -/
  | profileStep (generator : Fin 4)
  /-- TRC_REQUEST_TIMEOUT (R309): No setpoint or generator write for REQ_TMO ramps the traction torque to 0 and raises
  a class-W fault. -/
  | trcRequestTimeout
  /-- TRC_LIMIT_TIMEOUT (R305): No battery-limit write for LIM_TMO switches traction to the fall-back power limits. -/
  | trcLimitTimeout
  /-- TRC_WINNOW_RAMP_END (R318): At the end of the share ramp of a commanded winnow the set is winnowed and the
  WINNOW completes. -/
  | trcWinnowRampEnd (set : Fin 6)
  /-- TRC_STOP_RAMP_END (R323): When the traction reference reaches 0 or STOP_TMAX passes, the orderly stop sends its
  stop word. -/
  | trcStopRampEnd
  /-- AUX_POWER_LIMIT (R361): Every 1 ms the device estimates the AUXI input power and slews the 48 V setpoint against
  the input limit. -/
  | auxPowerLimit
  /-- AUXB_CURRENT_LIMIT (R372): The device slews the 12 V setpoint against the per-phase output current limit. -/
  | auxbCurrentLimit
  /-- SOFT_START_END (R368): A start attempt succeeds at the end of its ramp, or fails on limited periods or after 10
  ms. -/
  | softStartEnd (buck : Bool)
  /-- RUNNING_HICCUP (R369): HICCUP_N consecutive limited periods in RUN end the run with a hiccup and a class-W
  fault. -/
  | runningHiccup (buck : Bool)
  /-- HICCUP_PAUSE_END (R370): At the end of a hiccup pause the sheaf makes a new start attempt. -/
  | hiccupPauseEnd (buck : Bool)
  /-- AUX_AUTO_START (R378): A READY auxiliary sheaf starts by itself once its input has stood at its minimum for 100
  ms. -/
  | auxAutoStart (buck : Bool) (ms : Nat) (checks : List MidCheck)
  /-- AUX_INPUT_LOW (R380): An auxiliary input below its minimum for 1 ms stops the sheaf to READY with a class-W
  fault. -/
  | auxInputLow (buck : Bool) (us : Nat)
  /-- AUX_OUTPUT_OV (R381): An output above its over-voltage level for 10 µs stops the sheaf with a class-F fault. -/
  | auxOutputOv (buck : Bool) (us : Nat)
  /-- PILOT_STATE (R327): A pilot state held for PILOT_FILT is taken, with its duty and current limit. -/
  | pilotState (plus : Int) (minus : Int) (periods : List (Nat × Nat)) (ms : Nat)
  /-- PROXIMITY_CHANGE (R329): A change of the PPS reading updates the cable current or reports no cable. -/
  | proximityChange (mv : Nat)
  /-- CHARGER_UPDATE (R339): Every 10 ms firmware forms the charge request, target, limits and step advance of the
  session. -/
  | chargerUpdate (checks : List MidCheck)
  /-- CHARGER_WATCHDOG (R340): CHG.WDT without a restart while armed applies the watchdog fallback. -/
  | chargerWatchdog
  /-- SAFETY_TIMER_EXPIRY (R343): The charge step's weighted or wall-clock safety timer expiring stops the session
  with cause TIMER. -/
  | safetyTimerExpiry
  /-- MAINS_LOSS (R348): Line amplitude below the loss level for LOSS_T on every phase in use stops the session with
  cause MAINS. -/
  | mainsLoss (amps : List Nat) (ms : Nat)
  /-- PLUG_DEBOUNCE_END (R346): The pilot held in state B or C for PLUG_DEBOUNCE lets a waiting arm proceed. -/
  | plugDebounceEnd
  /-- HANDOVER (R349): Every end of power flow runs the hand-over of Table 12-9 with its recorded stop cause. -/
  | handover
  /-- RELAY_WAIT_END (R349): The RELAY_T wait of an arm or hand-over step ends. -/
  | relayWaitEnd
  /-- LINK_MATCH (R352): The DC0 and DC2 match of a connection completes, or fails at MATCH_TMAX. -/
  | linkMatch
  /-- CHGD0_STOP_RESYNC (R326): CHGD0 leaving RUN restarts CHGD1 alone on its own period. -/
  | chgd0StopResync (checks : List MidCheck)
  /-- CHARGE_BURST_PAUSE (R468): While throttled the charger holds its derating at 0 for CHG_PAUSE after each
  CHG_BURST of power flow. -/
  | chargeBurstPause
  /-- MOVE_PAUSE_END (R396): The pause between moves ends and a waiting MOVE proceeds. -/
  | movePauseEnd (actuator : Fin 2)
  /-- LATCH_WAIT_END (R395): The LATCH_T wait of a park-lock move ends. -/
  | latchWaitEnd (actuator : Fin 2)
  /-- GENERATOR_DONE (R294): A generator reaches its target and sets DONE. -/
  | generatorDone (generator : Fin 4)
  /-- MOVE_SETTLED (R395): On the 1 ms tick the move's settling condition held for SETTLE_T ends steps 5 and 6 of the
  MOVE. -/
  | moveSettled (actuator : Fin 2)
  /-- MOVE_TORQUE_CHECK (R395): Every 1 ms during a drum move the traction torque is re-checked against SHIFT_T_MAX.
  -/
  | moveTorqueCheck (actuator : Fin 2)
  /-- ACTUATOR_STALL (R397): A stall held for STALL_T backs the actuator off and retries, or declares a jam. -/
  | actuatorStall (actuator : Fin 2)
  /-- FOLLOWING_ERROR (R398): A following error above FOLLOW_MAX stops the generator and fails the MOVE. -/
  | followingError (actuator : Fin 2)
  /-- HOMING_STOP (R392): ERR_A above HOME_ERR for 10 ms declares the end stop and assigns HOME_POS. -/
  | homingStop (actuator : Fin 2)
  /-- HOMING_TIMEOUT (R392): No end stop found within HOME_TMAX fails the homing. -/
  | homingTimeout (actuator : Fin 2)
  /-- PARK_PROOF_LOST (R401): Loss of the park-lock proof without a running MOVE raises a class-W fault and stops a
  charge session. -/
  | parkProofLost (actuator : Fin 2)
  /-- STO_REQUEST (R406): nSTOA or nSTOB low beyond the filter blocks the traction gates, removes their supplies and
  raises the STO demand. -/
  | stoRequest (a : Bool) (b : Bool) (ns : Nat)
  /-- STO_RELEASE (R407): Both STO inputs high together for 10 ms clear the STO latch. -/
  | stoRelease
  /-- STO_DISCREPANCY (R408): The two STO inputs differing beyond STO_DISC_T raise a class-W discrepancy fault. -/
  | stoDiscrepancy
  /-- TORQUE_MONITOR (R409): Every 50 µs the supervisor compares its torque estimate with the shared torque and raises
  the unintended-torque demand. -/
  | torqueMonitor (angle : BitVec 16) (mv : List Nat)
  /-- SUPERVISOR_SPEED_EVAL (R411): Every 125 µs the supervisor evaluates the port signals and raises the SLS, SDI,
  SLP or speed-evaluation demand. -/
  | supervisorSpeedEval (port : Fin 4) (faults : BitVec 3) (speed : Int) (pos : Int)
  /-- SPEED_CROSS_CHECK (R411): Every 1 ms the supervisor compares its speed with the port's and raises a class-F
  fault after three differences. -/
  | speedCrossCheck (port : Fin 4)
  /-- CHANNEL_TEST (R410): Every CMP_TEST_PERIOD the supervisor tests one current channel against an internal level.
  -/
  | channelTest (ok : Bool)
  /-- OUTPUT_REQUEST (R419): An owner request or off cause switches a safety output on or off. -/
  | outputRequest (output : Fin 8) (on : Bool)
  /-- TEST_PULSE_CYCLE (R422): Every TEST_INTERVAL a safety output runs its two test pulses and checks its switches.
  -/
  | testPulseCycle (output : Fin 8) (outcome : Option PulseTest)
  /-- TEST_CYCLE_MISSING (R424): No completed test cycle for twice or four times TEST_INTERVAL raises a class-W or
  class-F fault. -/
  | testCycleMissing (output : Fin 8)
  /-- PATH_AGE_EXCEEDED (R433): SAFE.PATH_AGE exceeding PATH_AGE_MAX raises a class-W fault. -/
  | pathAgeExceeded
  /-- GRAVE_FAULT (R448): A class-G detection stops every release signal, removes gate supplies, switches the outputs
  off and enters LOCKED. -/
  | graveFault (source : Fin 4)
  /-- SELFTEST_RESULT (R440): A unit's targeted self-test after a detection ends and the unit enters resting or
  lasting. -/
  | selftestResult (unit : Nat) (finding : SelftestFinding)
  /-- REST_END (R443): At the end of its rest a unit runs its recovery action and returns to service or becomes
  lasting. -/
  | restEnd (unit : Nat) (integrated : Bool) (presence : Presence)
  /-- DEPENDENT_REPROOF (R445): A sheaf winnowed by another unit proves again by itself when every causing unit has
  recovered. -/
  | dependentReproof (sheaf : Fin 12)
  /-- TEMP_ESTIMATE (R458): Every 1 ms firmware forms each leg's temperature estimate and the derating factors, and
  sends the estimate to the leg island. -/
  | tempEstimate (dies : List Int) (vsup : Nat) (vso : Nat)
  /-- TEMP_RATE_EVAL (R464): Every 100 ms the device evaluates each leg's rate of rise and adjusts each set's rate
  factor. -/
  | tempRateEval
  /-- THERMAL_STOP (R466): A leg estimate reaching THM.STOP starts the orderly stop of its unit and a T-A hold. -/
  | thermalStop (leg : Fin 48)
  /-- THERMAL_HOLD_RELEASE (R467): Every leg of a held unit below THM.RESUME ends the T-A hold. -/
  | thermalHoldRelease (unit : Nat)
  /-- TB_CUT (R461): A die passing 165 °C cuts power to the sheaves it acts on without firmware. -/
  | tbCut (cut : Fin 6) (temp : Int) (readings : List Nat)
  /-- TB_RELEASE (R462): A die below 140 °C releases its cut and the affected sheaves prove again. -/
  | tbRelease (cut : Fin 6) (temp : Int) (readings : List Nat)
  /-- CAN_FRAME_RECEIVED (R479): A frame received without error is stamped and stored in the first matching receive
  object, or counted as unmatched. -/
  | canFrameReceived (controller : Fin 4) (frame : CanFrame) (sof : Nat)
  /-- CAN_FRAME_SENT (R485): A transmit frame sent without error clears its pending request. -/
  | canFrameSent (controller : Fin 4) (sof : Nat)
  /-- CAN_TX_CHOICE (R480): At intermission or bus idle the controller chooses the pending frame that wins
  arbitration. -/
  | canTxChoice (controller : Fin 4) (time : Nat)
  /-- CAN_SIGNAL_PERIOD (R482): Each period a transmit signal object forms its frame from its listed items. -/
  | canSignalPeriod (controller : Fin 4) (object : Fin 128)
  /-- CAN_ERROR (R484): A protocol error moves the error counters, rate detection and clash counts. -/
  | canError (controller : Fin 4) (code : Fin 7) (transmitting : Bool) (after : Bool) (excepted : Bool) (dataPhase : Bool) (dataField : Bool)
  /-- CAN_BUS_OFF (R484): The transmit error counter above 255 enters bus-off and starts recovery under BO_AUTO. -/
  | canBusOff (controller : Fin 4)
  /-- CAN_RECOVERY_END (R484): 128 counted recessive sequences end bus-off recovery into NORMAL. -/
  | canRecoveryEnd (controller : Fin 4)
  /-- CAN_RATE_LOCK (R474): A frame received without error in DETECT locks the controller on that rate entry. -/
  | canRateLock (controller : Fin 4) (frame : CanFrame) (sof : Nat)
  /-- CAN_DOMINANT_TIMEOUT (R487): CkRX dominant for DOM_MAX raises a class-F fault of the controller. -/
  | canDominantTimeout (controller : Fin 4) (us : Nat)
  /-- CAN_HOST_HEARTBEAT (R492): A host heartbeat with an accepted identity moves the controller from LISTEN to
  NORMAL. -/
  | canHostHeartbeat (controller : Fin 4) (slot : Fin 8) (frame : CanFrame) (sof : Nat)
  /-- CAN_HEARTBEAT_TIMEOUT (R492): No host heartbeat for HB_TMO detaches the slot and raises a class-W fault. -/
  | canHeartbeatTimeout (controller : Fin 4) (slot : Fin 8)
  /-- CAN_DEVICE_HEARTBEAT (R492): Every HB_PERIOD in NORMAL the device sends its heartbeat for each attached or held
  slot. -/
  | canDeviceHeartbeat (controller : Fin 4)
  /-- COMPACT_MESSAGE (R489): A compact CAN mailbox frame is reconstructed into a full header and then handled as a
  host message. -/
  | compactMessage (controller : Fin 4) (slot : Fin 8) (frame : CanFrame) (sof : Nat)
  /-- NPOR_RELEASE (R54): nPOR returning high after a reset, with VSUP above 8.6 V, brings the module out of reset
  into POWERUP. -/
  | nporRelease
  /-- SHIP_LEVEL_CHANGE (R385): SHIP going low starts the hold timer, and SHIP going high restarts it from 0 and,
  after a wake, arms it. -/
  | shipLevelChange (low : Bool) (ms : Nat)
  /-- VSUP_OVER_VOLTAGE_END (R52): VSUP below 61.0 V for 10 ms after an over-voltage ends that SAFE cause. -/
  | vsupOverVoltageEnd (mv : Nat)
  /-- GATE_POWER_WARNING (R58): The 100 ms average of total gate power rising above DEV.GATE_PWR_WARN raises the
  class-W device warning, source 19. -/
  | gatePowerWarning (powers : List Nat)
  /-- SUPPLY_OUTPUT_SHORT (R65): A short or out-of-window current on VIO, VREFO or a PkSUP raises a class-W fault of
  the owning unit. -/
  | supplyOutputShort (output : Fin 6) (short : Bool) (ma : Nat)
  /-- EVSE_TIMEOUT (R345): No mains at MVA within CHG.EVSE_TMO after state C fails the arm with NO_MAINS and runs the
  hand-over. -/
  | evseTimeout
  /-- INRUSH_TIMEOUT (R345): DC1 short of its inrush level at CHG.INRUSH_T after SO4 closes fails the arm with INRUSH
  and runs the hand-over. -/
  | inrushTimeout
  /-- NV_PAUSE_END (R468): The THM.NV_PAUSE wait between image writes ends, and a waiting NV_COMMIT starts. -/
  | nvPauseEnd
  /-- READBACK_FAULT (R425): The continuous readback showing a safety-output switch conducting while commanded off
  raises a class-L fault and holds both switches off. -/
  | readbackFault (output : Fin 8) (vP : Nat) (vN : Nat) (mA : Nat)
  deriving DecidableEq, Repr

end Sys2Proof
end

