-- ==== Sys2Proof/Machine/Crypto.lean ====
section
/-! DEFINITION. The algorithms that the spec names and does not write out: SHA-256 and ECDSA over P-256 (R66, R505), AES-128, AES-CMAC and
the key derivation of SP 800-108 (R104 to R106), as their own standards give them. PRESUMED: assumption log 5. -/

namespace Sys2Proof.Machine

/-! ## SHA-256 -/

/-- The round constants of SHA-256. -/
def Crypto.shaK : List Word :=
  [0x428A2F98, 0x71374491, 0xB5C0FBCF, 0xE9B5DBA5, 0x3956C25B, 0x59F111F1, 0x923F82A4, 0xAB1C5ED5] ++
  [0xD807AA98, 0x12835B01, 0x243185BE, 0x550C7DC3, 0x72BE5D74, 0x80DEB1FE, 0x9BDC06A7, 0xC19BF174] ++
  [0xE49B69C1, 0xEFBE4786, 0x0FC19DC6, 0x240CA1CC, 0x2DE92C6F, 0x4A7484AA, 0x5CB0A9DC, 0x76F988DA] ++
  [0x983E5152, 0xA831C66D, 0xB00327C8, 0xBF597FC7, 0xC6E00BF3, 0xD5A79147, 0x06CA6351, 0x14292967] ++
  [0x27B70A85, 0x2E1B2138, 0x4D2C6DFC, 0x53380D13, 0x650A7354, 0x766A0ABB, 0x81C2C92E, 0x92722C85] ++
  [0xA2BFE8A1, 0xA81A664B, 0xC24B8B70, 0xC76C51A3, 0xD192E819, 0xD6990624, 0xF40E3585, 0x106AA070] ++
  [0x19A4C116, 0x1E376C08, 0x2748774C, 0x34B0BCB5, 0x391C0CB3, 0x4ED8AA4A, 0x5B9CCA4F, 0x682E6FF3] ++
  [0x748F82EE, 0x78A5636F, 0x84C87814, 0x8CC70208, 0x90BEFFFA, 0xA4506CEB, 0xBEF9A3F7, 0xC67178F2]

/-- The eight working words of SHA-256. -/
structure Sha where
  a : Word
  b : Word
  c : Word
  d : Word
  e : Word
  f : Word
  g : Word
  h : Word
  deriving DecidableEq, Repr

/-- The initial hash value of SHA-256, and the words of one as a list. -/
def Sha.init : Sha := { a := 0x6A09E667, b := 0xBB67AE85, c := 0x3C6EF372, d := 0xA54FF53A,
                        e := 0x510E527F, f := 0x9B05688C, g := 0x1F83D9AB, h := 0x5BE0CD19 }
def Sha.words (x : Sha) : List Word := [x.a, x.b, x.c, x.d, x.e, x.f, x.g, x.h]

/-- One round of SHA-256 with its constant and message word. -/
def Sha.round (x : Sha) (k w : Word) : Sha :=
  let s1 := x.e.rotateRight 6 ^^^ x.e.rotateRight 11 ^^^ x.e.rotateRight 25
  let ch := (x.e &&& x.f) ^^^ (~~~x.e &&& x.g)
  let t1 := x.h + s1 + ch + k + w
  let s0 := x.a.rotateRight 2 ^^^ x.a.rotateRight 13 ^^^ x.a.rotateRight 22
  let maj := (x.a &&& x.b) ^^^ (x.a &&& x.c) ^^^ (x.b &&& x.c)
  { a := t1 + s0 + maj, b := x.a, c := x.b, d := x.c, e := x.d + t1, f := x.e, g := x.f, h := x.g }

/-- The message word that follows sixteen others in the schedule. -/
def Crypto.shaNext (w : List Word) : Word :=
  let x := w.getD 1 0
  let y := w.getD 14 0
  (y.rotateRight 17 ^^^ y.rotateRight 19 ^^^ (y >>> 10)) + w.getD 9 0 + (x.rotateRight 7 ^^^ x.rotateRight 18 ^^^ (x >>> 3)) + w.getD 0 0

/-- The rounds of one block over the sliding window of its schedule. -/
def Sha.rounds : List Word → List Word → Sha → Sha
  | [], _, x => x
  | k :: ks, w, x => Sha.rounds ks (w.drop 1 ++ [Crypto.shaNext w]) (x.round k (w.getD 0 0))

/-- One block taken into the hash. -/
def Sha.block (x : Sha) (w : List Word) : Sha :=
  let y := Sha.rounds Crypto.shaK w x
  { a := x.a + y.a, b := x.b + y.b, c := x.c + y.c, d := x.d + y.d, e := x.e + y.e, f := x.f + y.f, g := x.g + y.g, h := x.h + y.h }

/-- The blocks of a padded message, one after the other. -/
def Sha.blocks : Nat → List Word → Sha → Sha
  | 0, _, x => x
  | n + 1, w, x => Sha.blocks n (w.drop 16) (x.block (w.take 16))

/-- Bytes as big-endian words; what does not fill a word is dropped. -/
def Crypto.words : List Byte → List Word
  | a :: b :: c :: d :: t => (a ++ b ++ c ++ d) :: Crypto.words t
  | _ => []

/-- The bytes of a word, and the low `n` bytes of a number, most significant first. -/
def Crypto.bytes (w : Word) : List Byte := [w.extractLsb' 24 8, w.extractLsb' 16 8, w.extractLsb' 8 8, w.extractLsb' 0 8]
def Crypto.number : Nat → Nat → List Byte
  | 0, _ => []
  | n + 1, v => BitVec.ofNat 8 (v / 256 ^ n) :: Crypto.number n v

/-- The number of big-endian bytes. -/
def Crypto.value (l : List Byte) : Nat := l.foldl (fun a b => a * 256 + b.toNat) 0

/-- SHA-256 of a message, 32 bytes. -/
def Crypto.sha256 (m : List Byte) : List Byte :=
  let p := m ++ [0x80] ++ List.replicate ((119 - m.length % 64) % 64) 0 ++ Crypto.number 8 (8 * m.length)
  (Sha.blocks (p.length / 64) (Crypto.words p) Sha.init).words.flatMap Crypto.bytes

/-! ## ECDSA over P-256 -/

/-- The field, the order and the base point of P-256. -/
abbrev Crypto.p256 : Nat := 0xFFFFFFFF00000001000000000000000000000000FFFFFFFFFFFFFFFFFFFFFFFF
abbrev Crypto.p256Order : Nat := 0xFFFFFFFF00000000FFFFFFFFFFFFFFFFBCE6FAADA7179E84F3B9CAC2FC632551
abbrev Crypto.p256Base : Nat × Nat :=
  (0x6B17D1F2E12C4247F8BCE6E563A440F277037D812DEB33A0F4A13945D898C296,
   0x4FE342E2FE1A7F9B8EE7EB4A7C0F9E162BCE33576B315ECECBB6406837BF51F5)

/-- A power modulo `m`, over the low `n` bits of the exponent. -/
def Crypto.pow (m : Nat) : Nat → Nat → Nat → Nat
  | 0, _, _ => 1 % m
  | n + 1, b, e => let h := Crypto.pow m n (b * b % m) (e / 2); if e % 2 = 1 then b * h % m else h

/-- The inverse modulo a prime of 256 bits. -/
def Crypto.inv (m b : Nat) : Nat := Crypto.pow m 256 b (m - 2)

/-- The sum of two points of P-256; none is the point at infinity. -/
def Crypto.add : Option (Nat × Nat) → Option (Nat × Nat) → Option (Nat × Nat)
  | none, q => q
  | p, none => p
  | some (x1, y1), some (x2, y2) =>
    let m := Crypto.p256
    if x1 = x2 ∧ (y1 + y2) % m = 0 then none
    else
      let l := if x1 = x2 then (3 * x1 * x1 + (m - 3)) * Crypto.inv m (2 * y1 % m) % m
        else (y2 + (m - y1)) * Crypto.inv m ((x2 + (m - x1)) % m) % m
      let x3 := (l * l + 2 * m - x1 - x2) % m
      some (x3, (l * (x1 + (m - x3)) + (m - y1)) % m)

/-- A multiple of a point, over the low `n` bits of the factor. -/
def Crypto.mul : Nat → Nat → Option (Nat × Nat) → Option (Nat × Nat)
  | 0, _, _ => none
  | n + 1, k, p => let h := Crypto.mul n (k / 2) (Crypto.add p p); if k % 2 = 1 then Crypto.add p h else h

/-- Whether (r, s) is an ECDSA P-256 signature over the SHA-256 of a message under a public key. -/
def Crypto.ecdsaOk (key : Nat × Nat) (m : List Byte) (r s : Nat) : Bool :=
  let n := Crypto.p256Order
  let w := Crypto.inv n s
  let u1 := Crypto.value (Crypto.sha256 m) * w % n
  let u2 := r * w % n
  decide (1 ≤ r) && decide (r < n) && decide (1 ≤ s) && decide (s < n)
    && (match Crypto.add (Crypto.mul 256 u1 (some Crypto.p256Base)) (Crypto.mul 256 u2 (some key)) with
        | some (x, _) => decide (x % n = r)
        | none => false)

/-! ## AES-128 and AES-CMAC -/

/-- The substitution box of AES, sixteen bytes a row. -/
def Crypto.sboxRows : List Nat :=
  [0x637C777BF26B6FC53001672BFED7AB76,
   0xCA82C97DFA5947F0ADD4A2AF9CA472C0,
   0xB7FD9326363FF7CC34A5E5F171D83115,
   0x04C723C31896059A071280E2EB27B275,
   0x09832C1A1B6E5AA0523BD6B329E32F84,
   0x53D100ED20FCB15B6ACBBE394A4C58CF,
   0xD0EFAAFB434D338545F9027F503C9FA8,
   0x51A3408F929D38F5BCB6DA2110FFF3D2,
   0xCD0C13EC5F974417C4A77E3D645D1973,
   0x60814FDC222A908846EEB814DE5E0BDB,
   0xE0323A0A4906245CC2D3AC629195E479,
   0xE7C8376D8DD54EA96C56F4EA657AAE08,
   0xBA78252E1CA6B4C6E8DD741F4BBD8B8A,
   0x703EB5664803F60E613557B986C11D9E,
   0xE1F8981169D98E949B1E87E9CE5528DF,
   0x8CA1890DBFE6426841992D0FB054BB16]

/-- The substitution of a byte. -/
def Crypto.sbox (b : Byte) : Byte :=
  BitVec.ofNat 8 ((Crypto.sboxRows.getD (b.toNat / 16) 0) >>> (8 * (15 - b.toNat % 16)))

/-- Twice a byte in the field of AES. -/
def Crypto.xtime (b : Byte) : Byte := (b <<< 1) ^^^ (if b.msb then 0x1B else 0)

/-- Two byte strings combined by exclusive or. -/
def Crypto.xor (a b : List Byte) : List Byte := List.zipWith (· ^^^ ·) a b

/-- The next round key, with its round constant. -/
def Crypto.nextKey (k : List Byte) (rc : Byte) : List Byte :=
  let t := [(Crypto.sbox (k.getD 13 0)) ^^^ rc, Crypto.sbox (k.getD 14 0), Crypto.sbox (k.getD 15 0), Crypto.sbox (k.getD 12 0)]
  let w0 := Crypto.xor (k.take 4) t
  let w1 := Crypto.xor ((k.drop 4).take 4) w0
  let w2 := Crypto.xor ((k.drop 8).take 4) w1
  w0 ++ w1 ++ w2 ++ Crypto.xor (k.drop 12) w2

/-- The rows of the state shifted: its bytes stand column by column. -/
def Crypto.shiftRows (s : List Byte) : List Byte := [0, 5, 10, 15, 4, 9, 14, 3, 8, 13, 2, 7, 12, 1, 6, 11].map (fun k => s.getD k 0)

/-- The columns of the state mixed. -/
def Crypto.mixColumns : List Byte → List Byte
  | a :: b :: c :: d :: t =>
    let x := a ^^^ b ^^^ c ^^^ d
    (a ^^^ x ^^^ Crypto.xtime (a ^^^ b)) :: (b ^^^ x ^^^ Crypto.xtime (b ^^^ c)) :: (c ^^^ x ^^^ Crypto.xtime (c ^^^ d))
      :: (d ^^^ x ^^^ Crypto.xtime (d ^^^ a)) :: Crypto.mixColumns t
  | _ => []

/-- The rounds of AES-128 over the round constants that are left; the last round mixes no columns. -/
def Crypto.aesRounds : List Byte → List Byte → List Byte → List Byte
  | [], _, s => s
  | rc :: t, k, s =>
    let k1 := Crypto.nextKey k rc
    let s1 := Crypto.shiftRows (s.map Crypto.sbox)
    Crypto.aesRounds t k1 (Crypto.xor (if t = [] then s1 else Crypto.mixColumns s1) k1)

/-- AES-128 of one block of 16 bytes. -/
def Crypto.aes (key block : List Byte) : List Byte :=
  Crypto.aesRounds [0x01, 0x02, 0x04, 0x08, 0x10, 0x20, 0x40, 0x80, 0x1B, 0x36] key (Crypto.xor block key)

/-- A block doubled, as AES-CMAC forms its subkeys. -/
def Crypto.double (b : List Byte) : List Byte :=
  let v := Crypto.value b
  Crypto.number 16 (((v * 2) % 2 ^ 128) ^^^ (if 2 ^ 127 ≤ v then 0x87 else 0))

/-- The chain of AES-CMAC over the blocks of a message, the last one combined with its subkey. -/
def Crypto.cmacChain (key k1 k2 : List Byte) : Nat → List Byte → List Byte → List Byte
  | 0, m, c =>
    let last := if m.length = 16 then Crypto.xor m k1 else Crypto.xor (m ++ [0x80] ++ List.replicate (15 - m.length) 0) k2
    Crypto.aes key (Crypto.xor last c)
  | n + 1, m, c => Crypto.cmacChain key k1 k2 n (m.drop 16) (Crypto.aes key (Crypto.xor (m.take 16) c))

/-- AES-CMAC of a message under a key of 16 bytes. -/
def Crypto.cmac (key m : List Byte) : List Byte :=
  let k1 := Crypto.double (Crypto.aes key (List.replicate 16 0))
  Crypto.cmacChain key k1 (Crypto.double k1) ((m.length - 1) / 16) m (List.replicate 16 0)

/-- Its leftmost 64 bits, as a message carries them (Table 4-4). -/
def Crypto.mac (key : BitVec 128) (m : List Byte) : BitVec 64 :=
  BitVec.ofNat 64 (Crypto.value ((Crypto.cmac (Crypto.number 16 key.toNat) m).take 8))

/-- The key derivation of SP 800-108 in counter mode with AES-CMAC, for one key of 128 bits: counter and length of 32 bits, the label, a
zero byte, the context. -/
def Crypto.derive (key : BitVec 128) (label context : List Byte) : BitVec 128 :=
  BitVec.ofNat 128 (Crypto.value (Crypto.cmac (Crypto.number 16 key.toNat)
    (Crypto.number 4 1 ++ label ++ [0] ++ context ++ Crypto.number 4 128)))

end Sys2Proof.Machine
end

