-- ==== Sys2Proof/Machine/F32.lean ====
section
/-! DEFINITION. IEEE 754 binary32 arithmetic on parameter words, as the control engine computes (chapter *Control
Engine*: "Its arithmetic is IEEE 754 binary32 throughout"). Results round to nearest, ties to even (IEEE 754's default;
the spec names no other: assumption log 12). A finite number is held exactly, as a whole number of units of 2^-149. -/

namespace Sys2Proof.Machine

/-- What a binary32 word stands for; `units` counts 2^-149. -/
inductive F32Value where
  | nan
  | inf (neg : Bool)
  | fin (neg : Bool) (units : Nat)
  deriving DecidableEq, Repr

/-- Reading a binary32 word. -/
def F32.value (w : Word) : F32Value :=
  let n := w.toNat
  let neg := n.testBit 31
  let e := (n >>> 23) % 256
  let m := n % 2 ^ 23
  if e = 255 then (if m = 0 then .inf neg else .nan)
  else if e = 0 then .fin neg m
  else .fin neg ((m + 2 ^ 23) * 2 ^ (e - 1))

/-- The quiet not-a-number word. -/
def F32.nan : Word := 0x7FC00000

/-- The word of an infinity. -/
def F32.inf (neg : Bool) : Word := if neg then 0xFF800000 else 0x7F800000

/-- The word of a zero. -/
def F32.zero (neg : Bool) : Word := if neg then 0x80000000 else 0

/-- Rounding `num / den` units of 2^-149 to the nearest binary32, ties to even. DEDUCED: assumption log 12. -/
def F32.round (neg : Bool) (num den : Nat) : Word :=
  let q := num / den
  let sh := if q < 2 ^ 24 then 0 else Nat.log2 q - 23
  let d := den * 2 ^ sh
  let m := num / d
  let r := num % d
  let m' := if 2 * r < d then m else if d < 2 * r then m + 1 else m + m % 2
  let bits := sh * 2 ^ 23 + m'
  if bits ≥ 0x7F800000 then F32.inf neg
  else if neg then BitVec.ofNat 32 (bits + 2 ^ 31) else BitVec.ofNat 32 bits

/-- The binary32 nearest a rational number. -/
def F32.ofRat (p : Int) (q : Nat) : Word := F32.round (decide (p < 0)) (p.natAbs * 2 ^ 149) q

/-- The binary32 nearest a whole number. -/
def F32.ofInt (p : Int) : Word := F32.ofRat p 1

/-- The signed units of a finite value. -/
def F32.signed (neg : Bool) (u : Nat) : Int := if neg then -(u : Int) else u

/-- Rounding signed units over a denominator; a zero takes the sign given. -/
def F32.pack (zneg : Bool) (num : Int) (den : Nat) : Word :=
  if num = 0 then F32.zero zneg else F32.round (decide (num < 0)) num.natAbs den

/-- Addition. -/
def F32.add (a b : Word) : Word :=
  match F32.value a, F32.value b with
  | .nan, _ => F32.nan
  | _, .nan => F32.nan
  | .inf s, .inf t => if s = t then F32.inf s else F32.nan
  | .inf s, _ => F32.inf s
  | _, .inf t => F32.inf t
  | .fin s u, .fin t v => F32.pack (s && t) (F32.signed s u + F32.signed t v) 1

/-- Negation. -/
def F32.neg (a : Word) : Word := a ^^^ 0x80000000

/-- Magnitude. -/
def F32.abs (a : Word) : Word := a &&& 0x7FFFFFFF

/-- Subtraction. -/
def F32.sub (a b : Word) : Word := F32.add a (F32.neg b)

/-- Multiplication. -/
def F32.mul (a b : Word) : Word :=
  match F32.value a, F32.value b with
  | .nan, _ => F32.nan
  | _, .nan => F32.nan
  | .inf s, .inf t => F32.inf (s != t)
  | .inf s, .fin t v => if v = 0 then F32.nan else F32.inf (s != t)
  | .fin s u, .inf t => if u = 0 then F32.nan else F32.inf (s != t)
  | .fin s u, .fin t v => F32.round (s != t) (u * v) (2 ^ 149)

/-- Division. -/
def F32.div (a b : Word) : Word :=
  match F32.value a, F32.value b with
  | .nan, _ => F32.nan
  | _, .nan => F32.nan
  | .inf _, .inf _ => F32.nan
  | .inf s, .fin t _ => F32.inf (s != t)
  | .fin s _, .inf t => F32.zero (s != t)
  | .fin s u, .fin t v =>
    if v = 0 then (if u = 0 then F32.nan else F32.inf (s != t))
    else F32.round (s != t) (u * 2 ^ 149) v

/-- Square root, from the integer root of the scaled value (two more bits decide the rounding). -/
def F32.sqrt (a : Word) : Word :=
  match F32.value a with
  | .nan => F32.nan
  | .inf s => if s then F32.nan else F32.inf false
  | .fin s u =>
    if u = 0 then F32.zero s
    else if s then F32.nan
    else
      let x := u * 2 ^ 149 * 2 ^ 64
      let r := Nat.sqrt x
      F32.round false (2 * r + (if r * r = x then 0 else 1)) (2 ^ 33)

/-- A finite word. -/
def F32.finite (a : Word) : Bool :=
  match F32.value a with
  | .fin _ _ => true
  | _ => false

/-- The ordering key of a word that is not a not-a-number: infinities beyond every finite value. -/
def F32.key (a : Word) : Option Int :=
  match F32.value a with
  | .nan => none
  | .inf s => some (if s then -(2 ^ 300) else 2 ^ 300)
  | .fin s u => some (F32.signed s u)

/-- a < b (false where either is a not-a-number). -/
def F32.lt (a b : Word) : Bool :=
  match F32.key a, F32.key b with
  | some x, some y => decide (x < y)
  | _, _ => false

/-- a ≤ b (false where either is a not-a-number). -/
def F32.le (a b : Word) : Bool :=
  match F32.key a, F32.key b with
  | some x, some y => decide (x ≤ y)
  | _, _ => false

/-- The smaller of two. -/
def F32.min (a b : Word) : Word := if F32.lt b a then b else a

/-- The larger of two. -/
def F32.max (a b : Word) : Word := if F32.lt a b then b else a

/-- A value held between two bounds. -/
def F32.clamp (lo hi x : Word) : Word := F32.max lo (F32.min hi x)

/-- A value times `num / den`, to the nearest whole number, ties away from zero; 0 where the value is not finite. -/
def F32.toIntScaled (a : Word) (num den : Nat) : Int :=
  match F32.value a with
  | .fin s u =>
    let d := den * 2 ^ 149
    let n := u * num
    F32.signed s ((2 * n + d) / (2 * d))
  | _ => 0

/-- A value to the nearest whole number. -/
def F32.toInt (a : Word) : Int := F32.toIntScaled a 1 1

/-- A whole number of `1/q` as binary32. -/
def F32.ofNatOver (n q : Nat) : Word := F32.ofRat n q

end Sys2Proof.Machine
end

