-- ==== Sys2Proof/Config.lean ====
section
/-! DEFINITION. What one device fixes and the spec leaves open: factory data (serial number, keys, trims), and the free
values, constants without a body that nothing can evaluate (assumption logs 3 and 4). -/

namespace Sys2Proof

/-- The device serial number (R102). -/
opaque Config.serial : BitVec 64

/-- The device-unique service root key, word `k` of it, as every slot holds it until its own key is loaded. -/
opaque Config.serviceRootKey : Nat → Word

/-- The factory trim words of a leg and of its drivers, and the stored CRC of the former. -/
opaque Config.legTrim : Nat → Nat → Word
opaque Config.gateTrim : Nat → Nat → Word
opaque Config.legTrimCrc : Nat → Word

/-- The public keys of the device's key table (R66, R505): the point of entry `k` on curve P-256. -/
opaque Config.keyTable : Nat → Nat × Nat

/-- A free word: what the spec leaves open, one value for each count of uses. -/
opaque Config.freeWord : Nat → Word

/-- A device nonce, fresh for each attachment (R103). -/
opaque Config.deviceNonce : Nat → BitVec 128

/-- The word of a function of the spec that is stated without a formula: which function, and its operands. -/
opaque Config.unstated : Nat → List Word → Word

/-- The binary32 sine and cosine of an angle in 1/65,536 turn, whose last bits the spec does not state. -/
opaque Config.sin16 : Nat → Word
opaque Config.cos16 : Nat → Word

/-- The binary32 natural logarithm, whose last bits the spec does not state (R457). -/
opaque Config.ln : Word → Word

end Sys2Proof
end

