-- ==== Sys2Proof/Machine/Items.lean ====
section
/-! DEFINITION. The addresses of the parameter items (R9: group code in bits [23:16], instance in [15:10], item number in
[9:0]), one name per row of the spec's parameter tables. An instanced item takes its instance n first, an item array
its index k last. -/

namespace Sys2Proof.Machine

/-- The address of an item (R9). -/
abbrev Item.addr (group inst item : Nat) : Nat := group * 0x10000 + inst * 0x400 + item

/-- The group code of an address word (bits [23:16]). -/
def Item.group (a : Nat) : Nat := a / 0x10000 % 0x100
/-- The instance number of an address word (bits [15:10]). -/
def Item.inst (a : Nat) : Nat := a / 0x400 % 64
/-- The item number of an address word (bits [9:0]). -/
def Item.num (a : Nat) : Nat := a % 0x400

abbrev Item.DEV.STATE : Nat := Item.addr 0x01 0 0x001
abbrev Item.DEV.MODE_REQ : Nat := Item.addr 0x01 0 0x002
abbrev Item.DEV.AUTO_PROOF : Nat := Item.addr 0x01 0 0x003
abbrev Item.DEV.MODE_REASON : Nat := Item.addr 0x01 0 0x004
abbrev Item.DEV.BOOT_CAUSE : Nat := Item.addr 0x01 0 0x005
abbrev Item.DEV.FW_IFACE : Nat := Item.addr 0x01 0 0x006
abbrev Item.DEV.VSUP_MV : Nat := Item.addr 0x01 0 0x020
abbrev Item.DEV.VSO_MV : Nat := Item.addr 0x01 0 0x021
abbrev Item.DEV.GATE_PWR : Nat := Item.addr 0x01 0 0x022
abbrev Item.DEV.GATE_PWR_WARN : Nat := Item.addr 0x01 0 0x023
abbrev Item.DEV.PARAM_CRC_ACT : Nat := Item.addr 0x01 0 0x030
abbrev Item.DEV.PARAM_CRC_SHD : Nat := Item.addr 0x01 0 0x031
abbrev Item.DEV.PARAM_CRC_BOOT : Nat := Item.addr 0x01 0 0x032
abbrev Item.DEV.PARAM_MISMATCH : Nat := Item.addr 0x01 0 0x033
abbrev Item.DEV.PARAM_WR_CNT : Nat := Item.addr 0x01 0 0x034
abbrev Item.DEV.HV_REQ : Nat := Item.addr 0x01 0 0x040
abbrev Item.DEV.DIR_PERMIT : Nat := Item.addr 0x01 0 0x041
abbrev Item.DEV.SO_USER : Nat := Item.addr 0x01 0 0x042
abbrev Item.DEV.FAULT_STATUS : Nat := Item.addr 0x01 0 0x050

abbrev Item.HOST.ROLE (n : Nat) : Nat := Item.addr 0x02 n 0x001
abbrev Item.HOST.RIGHTS (n : Nat) : Nat := Item.addr 0x02 n 0x002
abbrev Item.HOST.PORTS (n : Nat) : Nat := Item.addr 0x02 n 0x003
abbrev Item.HOST.IDENT (n : Nat) : Nat := Item.addr 0x02 n 0x004
abbrev Item.HOST.CREDIT_INIT (n : Nat) : Nat := Item.addr 0x02 n 0x005
abbrev Item.HOST.IDLE_MAX (n : Nat) : Nat := Item.addr 0x02 n 0x006
abbrev Item.HOST.AT_TOL (n : Nat) : Nat := Item.addr 0x02 n 0x007
abbrev Item.HOST.EVENT_MASK (n : Nat) : Nat := Item.addr 0x02 n 0x008
abbrev Item.HOST.STATUS (n : Nat) : Nat := Item.addr 0x02 n 0x009
abbrev Item.HOST.PORT_NOW (n : Nat) : Nat := Item.addr 0x02 n 0x00A
abbrev Item.HOST.CLAIMS (n : Nat) : Nat := Item.addr 0x02 n 0x00B
abbrev Item.HOST.AUTH_FAIL (n : Nat) : Nat := Item.addr 0x02 n 0x00C
abbrev Item.HOST.CREDIT_VIOL (n : Nat) : Nat := Item.addr 0x02 n 0x00D
abbrev Item.HOST.TAG_ERR (n : Nat) : Nat := Item.addr 0x02 n 0x00E
abbrev Item.HOST.LEN_ERR (n : Nat) : Nat := Item.addr 0x02 n 0x00F
abbrev Item.HOST.KEY (n k : Nat) : Nat := Item.addr 0x02 n (0x010 + k)

abbrev Item.IMG.BOOT_SLOT : Nat := Item.addr 0x03 0 0x001
abbrev Item.IMG.SEQ_A : Nat := Item.addr 0x03 0 0x002
abbrev Item.IMG.SEQ_B : Nat := Item.addr 0x03 0 0x003
abbrev Item.IMG.STATUS_A : Nat := Item.addr 0x03 0 0x004
abbrev Item.IMG.STATUS_B : Nat := Item.addr 0x03 0 0x005
abbrev Item.IMG.SEQ_FLOOR : Nat := Item.addr 0x03 0 0x006
abbrev Item.IMG.COMMIT_CNT : Nat := Item.addr 0x03 0 0x007

abbrev Item.TIME.PTP_PORT : Nat := Item.addr 0x04 0 0x001
abbrev Item.TIME.PTP_DOMAIN : Nat := Item.addr 0x04 0 0x002
abbrev Item.TIME.SYNC_STATE : Nat := Item.addr 0x04 0 0x003
abbrev Item.TIME.LOCK_NS : Nat := Item.addr 0x04 0 0x004
abbrev Item.TIME.HOLDOVER_N : Nat := Item.addr 0x04 0 0x005
abbrev Item.TIME.RATE_PPB : Nat := Item.addr 0x04 0 0x006

abbrev Item.SHEAF.STATE (n : Nat) : Nat := Item.addr 0x08 n 0x001
abbrev Item.SHEAF.TYPE (n : Nat) : Nat := Item.addr 0x08 n 0x002
abbrev Item.SHEAF.FIRST_LEG (n : Nat) : Nat := Item.addr 0x08 n 0x003
abbrev Item.SHEAF.LEG_COUNT (n : Nat) : Nat := Item.addr 0x08 n 0x004
abbrev Item.SHEAF.AUTO_PROOF (n : Nat) : Nat := Item.addr 0x08 n 0x005
abbrev Item.SHEAF.PROOF_VMIN (n : Nat) : Nat := Item.addr 0x08 n 0x006
abbrev Item.SHEAF.PROOF_RESULT (n : Nat) : Nat := Item.addr 0x08 n 0x007
abbrev Item.SHEAF.PROOF_TIME (n : Nat) : Nat := Item.addr 0x08 n 0x008
abbrev Item.SHEAF.SWAP_PEND (n : Nat) : Nat := Item.addr 0x08 n 0x009
abbrev Item.SHEAF.FAULT_STATUS (n : Nat) : Nat := Item.addr 0x08 n 0x00A
abbrev Item.SHEAF.RECOV (n : Nat) : Nat := Item.addr 0x08 n 0x00B

abbrev Item.LEG.STATE (n : Nat) : Nat := Item.addr 0x09 n 0x001
abbrev Item.LEG.SHEAF (n : Nat) : Nat := Item.addr 0x09 n 0x002
abbrev Item.LEG.ROLE (n : Nat) : Nat := Item.addr 0x09 n 0x003
abbrev Item.LEG.STATUS (n : Nat) : Nat := Item.addr 0x09 n 0x004
abbrev Item.LEG.BAND (n : Nat) : Nat := Item.addr 0x09 n 0x005
abbrev Item.LEG.BAND_FAILSAFE (n : Nat) : Nat := Item.addr 0x09 n 0x006
abbrev Item.LEG.DESAT_V (n : Nat) : Nat := Item.addr 0x09 n 0x007
abbrev Item.LEG.DESAT_BLANK (n : Nat) : Nat := Item.addr 0x09 n 0x008
abbrev Item.LEG.OC_POS (n : Nat) : Nat := Item.addr 0x09 n 0x009
abbrev Item.LEG.OC_NEG (n : Nat) : Nat := Item.addr 0x09 n 0x00A
abbrev Item.LEG.IL_TIME (n : Nat) : Nat := Item.addr 0x09 n 0x00B
abbrev Item.LEG.SHOOT (n : Nat) : Nat := Item.addr 0x09 n 0x00C
abbrev Item.LEG.SHOOT_CNT (n : Nat) : Nat := Item.addr 0x09 n 0x00D
abbrev Item.LEG.SHOOT_RUN (n : Nat) : Nat := Item.addr 0x09 n 0x00E
abbrev Item.LEG.DESAT_CNT_HS (n : Nat) : Nat := Item.addr 0x09 n 0x00F
abbrev Item.LEG.DESAT_CNT_LS (n : Nat) : Nat := Item.addr 0x09 n 0x010
abbrev Item.LEG.OC_CNT (n : Nat) : Nat := Item.addr 0x09 n 0x011
abbrev Item.LEG.PROF_FAULT_CNT (n : Nat) : Nat := Item.addr 0x09 n 0x012
abbrev Item.LEG.PROF_FAULT_MAX (n : Nat) : Nat := Item.addr 0x09 n 0x013
abbrev Item.LEG.CS_ZERO (n : Nat) : Nat := Item.addr 0x09 n 0x014
abbrev Item.LEG.CURBAND (n : Nat) : Nat := Item.addr 0x09 n 0x015
abbrev Item.LEG.TEMP_EST (n : Nat) : Nat := Item.addr 0x09 n 0x016
abbrev Item.LEG.MID_V (n : Nat) : Nat := Item.addr 0x09 n 0x017
abbrev Item.LEG.OFFDIAG_PERIOD (n : Nat) : Nat := Item.addr 0x09 n 0x018
abbrev Item.LEG.OFFDIAG_RESULT (n : Nat) : Nat := Item.addr 0x09 n 0x019
abbrev Item.LEG.UV_CNT (n : Nat) : Nat := Item.addr 0x09 n 0x01A
abbrev Item.LEG.EDGE_CNT (n : Nat) : Nat := Item.addr 0x09 n 0x01B
abbrev Item.LEG.SELFTEST_RESULT (n : Nat) : Nat := Item.addr 0x09 n 0x01C
abbrev Item.LEG.FORCE (n : Nat) : Nat := Item.addr 0x09 n 0x01D
abbrev Item.LEG.FAULT_STATUS (n : Nat) : Nat := Item.addr 0x09 n 0x01E
abbrev Item.LEG.WINNOW_CAUSE (n : Nat) : Nat := Item.addr 0x09 n 0x01F
abbrev Item.LEG.FLT_LOG (n k : Nat) : Nat := Item.addr 0x09 n (0x020 + k)
abbrev Item.LEG.TRIM (n k : Nat) : Nat := Item.addr 0x09 n (0x040 + k)
abbrev Item.LEG.TRIM_CRC (n : Nat) : Nat := Item.addr 0x09 n 0x060
abbrev Item.LEG.RECOV (n : Nat) : Nat := Item.addr 0x09 n 0x061

abbrev Item.GATE.VON (n : Nat) : Nat := Item.addr 0x0A n 0x001
abbrev Item.GATE.VOFF (n : Nat) : Nat := Item.addr 0x0A n 0x002
abbrev Item.GATE.PRECHG_I_ON (n : Nat) : Nat := Item.addr 0x0A n 0x003
abbrev Item.GATE.PRECHG_I_OFF (n : Nat) : Nat := Item.addr 0x0A n 0x004
abbrev Item.GATE.HOLD_I (n : Nat) : Nat := Item.addr 0x0A n 0x005
abbrev Item.GATE.HOLD_DV (n : Nat) : Nat := Item.addr 0x0A n 0x006
abbrev Item.GATE.OFF_END_V (n : Nat) : Nat := Item.addr 0x0A n 0x007
abbrev Item.GATE.PLATEAU_TMAX (n : Nat) : Nat := Item.addr 0x0A n 0x008
abbrev Item.GATE.FB_I (n : Nat) : Nat := Item.addr 0x0A n 0x009
abbrev Item.GATE.SOFT_I (n : Nat) : Nat := Item.addr 0x0A n 0x00A
abbrev Item.GATE.IBAND_1 (n : Nat) : Nat := Item.addr 0x0A n 0x00B
abbrev Item.GATE.IBAND_2 (n : Nat) : Nat := Item.addr 0x0A n 0x00C
abbrev Item.GATE.IBAND_3 (n : Nat) : Nat := Item.addr 0x0A n 0x00D
abbrev Item.GATE.PROFILE_EN (n : Nat) : Nat := Item.addr 0x0A n 0x00E
abbrev Item.GATE.MILLER_V (n : Nat) : Nat := Item.addr 0x0A n 0x00F
abbrev Item.GATE.PRECHG_T_B (n k : Nat) : Nat := Item.addr 0x0A n (0x010 + k)
abbrev Item.GATE.PLATEAU_I_B (n k : Nat) : Nat := Item.addr 0x0A n (0x014 + k)
abbrev Item.GATE.PLATEAU_OFF_B (n k : Nat) : Nat := Item.addr 0x0A n (0x018 + k)
abbrev Item.GATE.QG_HS (n : Nat) : Nat := Item.addr 0x0A n 0x01C
abbrev Item.GATE.QG_LS (n : Nat) : Nat := Item.addr 0x0A n 0x01D
abbrev Item.GATE.EDGE_T_HS (n : Nat) : Nat := Item.addr 0x0A n 0x01E
abbrev Item.GATE.EDGE_T_LS (n : Nat) : Nat := Item.addr 0x0A n 0x01F
abbrev Item.GATE.VON_HS_MEAS (n : Nat) : Nat := Item.addr 0x0A n 0x020
abbrev Item.GATE.VON_LS_MEAS (n : Nat) : Nat := Item.addr 0x0A n 0x021
abbrev Item.GATE.VOFF_HS_MEAS (n : Nat) : Nat := Item.addr 0x0A n 0x022
abbrev Item.GATE.VOFF_LS_MEAS (n : Nat) : Nat := Item.addr 0x0A n 0x023
abbrev Item.GATE.PWR_HS (n : Nat) : Nat := Item.addr 0x0A n 0x024
abbrev Item.GATE.PWR_LS (n : Nat) : Nat := Item.addr 0x0A n 0x025
abbrev Item.GATE.FOLDBACK_CNT (n : Nat) : Nat := Item.addr 0x0A n 0x026
abbrev Item.GATE.WORD_ERR (n : Nat) : Nat := Item.addr 0x0A n 0x027
abbrev Item.GATE.FB_ACTIVE (n : Nat) : Nat := Item.addr 0x0A n 0x028
abbrev Item.GATE.EDGE_STAT (n k : Nat) : Nat := Item.addr 0x0A n (0x030 + k)
abbrev Item.GATE.TRIM (n k : Nat) : Nat := Item.addr 0x0A n (0x040 + k)

abbrev Item.PWM.MODE (n : Nat) : Nat := Item.addr 0x0B n 0x001
abbrev Item.PWM.PERIOD (n : Nat) : Nat := Item.addr 0x0B n 0x002
abbrev Item.PWM.PERIOD_SRC (n : Nat) : Nat := Item.addr 0x0B n 0x003
abbrev Item.PWM.CMP_SRC (n : Nat) : Nat := Item.addr 0x0B n 0x004
abbrev Item.PWM.INTERLEAVE (n : Nat) : Nat := Item.addr 0x0B n 0x005
abbrev Item.PWM.SHORT_POLICY (n : Nat) : Nat := Item.addr 0x0B n 0x006
abbrev Item.PWM.DT_B (n k : Nat) : Nat := Item.addr 0x0B n (0x007 + k)
abbrev Item.PWM.MIN_PULSE (n : Nat) : Nat := Item.addr 0x0B n 0x00B
abbrev Item.PWM.SYNC_SHEAF (n : Nat) : Nat := Item.addr 0x0B n 0x00C
abbrev Item.PWM.SYNC_PHASE (n : Nat) : Nat := Item.addr 0x0B n 0x00D
abbrev Item.PWM.PERIOD_NOW (n : Nat) : Nat := Item.addr 0x0B n 0x00E
abbrev Item.PWM.LEG_EN (n : Nat) : Nat := Item.addr 0x0B n 0x00F
abbrev Item.PWM.LATE_CNT (n : Nat) : Nat := Item.addr 0x0B n 0x010
abbrev Item.PWM.OVERWRITE_CNT (n : Nat) : Nat := Item.addr 0x0B n 0x011
abbrev Item.PWM.SHORT_CNT (n : Nat) : Nat := Item.addr 0x0B n 0x012
abbrev Item.PWM.CARRY_CLIP_CNT (n : Nat) : Nat := Item.addr 0x0B n 0x013
abbrev Item.PWM.TRIG_SKIP_CNT (n : Nat) : Nat := Item.addr 0x0B n 0x014
abbrev Item.PWM.CLAMP_CNT (n : Nat) : Nat := Item.addr 0x0B n 0x015
abbrev Item.PWM.RELOAD_CNT (n : Nat) : Nat := Item.addr 0x0B n 0x016
abbrev Item.PWM.PHASE (n k : Nat) : Nat := Item.addr 0x0B n (0x020 + k)
abbrev Item.PWM.TRIG_REF (n k : Nat) : Nat := Item.addr 0x0B n (0x040 + k)
abbrev Item.PWM.TRIG_OFS (n k : Nat) : Nat := Item.addr 0x0B n (0x048 + k)
abbrev Item.PWM.TRIG_DST (n k : Nat) : Nat := Item.addr 0x0B n (0x050 + k)
abbrev Item.PWM.TRIG_DEC (n k : Nat) : Nat := Item.addr 0x0B n (0x058 + k)
abbrev Item.PWM.HOST_CMP (n k : Nat) : Nat := Item.addr 0x0B n (0x060 + k)
abbrev Item.PWM.CARRY (n k : Nat) : Nat := Item.addr 0x0B n (0x080 + k)
abbrev Item.PWM.CMP_NOW (n k : Nat) : Nat := Item.addr 0x0B n (0x0A0 + k)

abbrev Item.ADCF.SEQ (n k : Nat) : Nat := Item.addr 0x0C n (0x001 + k)
abbrev Item.ADCF.BG_MASK (n : Nat) : Nat := Item.addr 0x0C n 0x009
abbrev Item.ADCF.BG_PERIOD (n : Nat) : Nat := Item.addr 0x0C n 0x00A
abbrev Item.ADCF.BG_STARVE (n : Nat) : Nat := Item.addr 0x0C n 0x00B
abbrev Item.ADCF.RANGE_MASK (n : Nat) : Nat := Item.addr 0x0C n 0x00C
abbrev Item.ADCF.OW_MASK (n : Nat) : Nat := Item.addr 0x0C n 0x00D
abbrev Item.ADCF.OW_PERIOD (n : Nat) : Nat := Item.addr 0x0C n 0x00E
abbrev Item.ADCF.OW_DELTA (n : Nat) : Nat := Item.addr 0x0C n 0x00F
abbrev Item.ADCF.SW_TRIG (n : Nat) : Nat := Item.addr 0x0C n 0x010
abbrev Item.ADCF.OVERRUN (n : Nat) : Nat := Item.addr 0x0C n 0x011
abbrev Item.ADCF.QUEUE_CNT (n : Nat) : Nat := Item.addr 0x0C n 0x012
abbrev Item.ADCF.BG_ABORT_CNT (n : Nat) : Nat := Item.addr 0x0C n 0x013
abbrev Item.ADCF.CAL_PERIOD (n : Nat) : Nat := Item.addr 0x0C n 0x014
abbrev Item.ADCF.CAL_GAIN (n : Nat) : Nat := Item.addr 0x0C n 0x015
abbrev Item.ADCF.CAL_OFS (n : Nat) : Nat := Item.addr 0x0C n 0x016
abbrev Item.ADCF.AUTOZERO (n : Nat) : Nat := Item.addr 0x0C n 0x017
abbrev Item.ADCF.OW_STATUS (n : Nat) : Nat := Item.addr 0x0C n 0x018
abbrev Item.ADCF.FAULT_STATUS (n : Nat) : Nat := Item.addr 0x0C n 0x019
abbrev Item.ADCF.RECOV (n : Nat) : Nat := Item.addr 0x0C n 0x01A
abbrev Item.ADCF.ZERO (n k : Nat) : Nat := Item.addr 0x0C n (0x020 + k)
abbrev Item.ADCF.GAIN (n k : Nat) : Nat := Item.addr 0x0C n (0x028 + k)
abbrev Item.ADCF.RES (n k : Nat) : Nat := Item.addr 0x0C n (0x030 + k)
abbrev Item.ADCF.VAL (n k : Nat) : Nat := Item.addr 0x0C n (0x038 + k)
abbrev Item.ADCF.T_HI (n k : Nat) : Nat := Item.addr 0x0C n (0x040 + k)
abbrev Item.ADCF.T_LO (n k : Nat) : Nat := Item.addr 0x0C n (0x048 + k)
abbrev Item.ADCF.TEST_RESULT (n k : Nat) : Nat := Item.addr 0x0C n (0x050 + k)
abbrev Item.ADCF.LIM_HI (n k : Nat) : Nat := Item.addr 0x0C n (0x058 + k)
abbrev Item.ADCF.LIM_LO (n k : Nat) : Nat := Item.addr 0x0C n (0x060 + k)
abbrev Item.ADCF.IN_FAULT (n k : Nat) : Nat := Item.addr 0x0C n (0x068 + k)

abbrev Item.ADCI.SCAN_MODE (n : Nat) : Nat := Item.addr 0x0D n 0x001
abbrev Item.ADCI.SCAN_PERIOD (n : Nat) : Nat := Item.addr 0x0D n 0x002
abbrev Item.ADCI.SCAN_LEN (n : Nat) : Nat := Item.addr 0x0D n 0x003
abbrev Item.ADCI.SCAN (n k : Nat) : Nat := Item.addr 0x0D n (0x004 + k)
abbrev Item.ADCI.FIX_WIN (n : Nat) : Nat := Item.addr 0x0D n 0x008
abbrev Item.ADCI.RANGE_MASK (n : Nat) : Nat := Item.addr 0x0D n 0x009
abbrev Item.ADCI.OW_MASK (n : Nat) : Nat := Item.addr 0x0D n 0x00A
abbrev Item.ADCI.OW_PERIOD (n : Nat) : Nat := Item.addr 0x0D n 0x00B
abbrev Item.ADCI.OW_DELTA (n : Nat) : Nat := Item.addr 0x0D n 0x00C
abbrev Item.ADCI.OW_STATUS (n : Nat) : Nat := Item.addr 0x0D n 0x00D
abbrev Item.ADCI.URG_REQ (n : Nat) : Nat := Item.addr 0x0D n 0x00E
abbrev Item.ADCI.URG_DROP (n : Nat) : Nat := Item.addr 0x0D n 0x00F
abbrev Item.ADCI.URG_RESULT (n : Nat) : Nat := Item.addr 0x0D n 0x010
abbrev Item.ADCI.FAULT_STATUS (n : Nat) : Nat := Item.addr 0x0D n 0x011
abbrev Item.ADCI.RECOV (n : Nat) : Nat := Item.addr 0x0D n 0x012
abbrev Item.ADCI.MAINS_EN (n : Nat) : Nat := Item.addr 0x0D n 0x018
abbrev Item.ADCI.MAINS_REF (n : Nat) : Nat := Item.addr 0x0D n 0x019
abbrev Item.ADCI.MAINS_MIN (n : Nat) : Nat := Item.addr 0x0D n 0x01A
abbrev Item.ADCI.MV_GAIN (n : Nat) : Nat := Item.addr 0x0D n 0x01B
abbrev Item.ADCI.MI_GAIN (n : Nat) : Nat := Item.addr 0x0D n 0x01C
abbrev Item.ADCI.MAINS_STATE (n : Nat) : Nat := Item.addr 0x0D n 0x01D
abbrev Item.ADCI.MAINS_FREQ (n : Nat) : Nat := Item.addr 0x0D n 0x01E
abbrev Item.ADCI.VRMS (n k : Nat) : Nat := Item.addr 0x0D n (0x01F + k)
abbrev Item.ADCI.IRMS (n k : Nat) : Nat := Item.addr 0x0D n (0x022 + k)
abbrev Item.ADCI.P (n k : Nat) : Nat := Item.addr 0x0D n (0x025 + k)
abbrev Item.ADCI.E_IMP_HI (n : Nat) : Nat := Item.addr 0x0D n 0x028
abbrev Item.ADCI.E_IMP_LO (n : Nat) : Nat := Item.addr 0x0D n 0x029
abbrev Item.ADCI.E_EXP_HI (n : Nat) : Nat := Item.addr 0x0D n 0x02A
abbrev Item.ADCI.E_EXP_LO (n : Nat) : Nat := Item.addr 0x0D n 0x02B
abbrev Item.ADCI.ISO_EN (n : Nat) : Nat := Item.addr 0x0D n 0x030
abbrev Item.ADCI.ISO_RREF (n : Nat) : Nat := Item.addr 0x0D n 0x031
abbrev Item.ADCI.ISO_RNET (n : Nat) : Nat := Item.addr 0x0D n 0x032
abbrev Item.ADCI.ISO_RATIO (n : Nat) : Nat := Item.addr 0x0D n 0x033
abbrev Item.ADCI.ISO_SETTLE (n : Nat) : Nat := Item.addr 0x0D n 0x034
abbrev Item.ADCI.ISO_AVG (n : Nat) : Nat := Item.addr 0x0D n 0x035
abbrev Item.ADCI.ISO_VMIN (n : Nat) : Nat := Item.addr 0x0D n 0x036
abbrev Item.ADCI.ISO_WARN (n : Nat) : Nat := Item.addr 0x0D n 0x037
abbrev Item.ADCI.ISO_LIMIT (n : Nat) : Nat := Item.addr 0x0D n 0x038
abbrev Item.ADCI.ISO_RP (n : Nat) : Nat := Item.addr 0x0D n 0x039
abbrev Item.ADCI.ISO_RN (n : Nat) : Nat := Item.addr 0x0D n 0x03A
abbrev Item.ADCI.ISO_STATUS (n : Nat) : Nat := Item.addr 0x0D n 0x03B
abbrev Item.ADCI.VAL (n k : Nat) : Nat := Item.addr 0x0D n (0x040 + k)
abbrev Item.ADCI.IN_FAULT (n k : Nat) : Nat := Item.addr 0x0D n (0x060 + k)

abbrev Item.POS.MODE (n : Nat) : Nat := Item.addr 0x0E n 0x001
abbrev Item.POS.SHEAF (n : Nat) : Nat := Item.addr 0x0E n 0x002
abbrev Item.POS.SUP_V (n : Nat) : Nat := Item.addr 0x0E n 0x003
abbrev Item.POS.SENSOR_CYC (n : Nat) : Nat := Item.addr 0x0E n 0x004
abbrev Item.POS.CPR (n : Nat) : Nat := Item.addr 0x0E n 0x005
abbrev Item.POS.POLE_PAIRS (n : Nat) : Nat := Item.addr 0x0E n 0x006
abbrev Item.POS.EL_OFS (n : Nat) : Nat := Item.addr 0x0E n 0x007
abbrev Item.POS.DIR (n : Nat) : Nat := Item.addr 0x0E n 0x008
abbrev Item.POS.EXC_FREQ (n : Nat) : Nat := Item.addr 0x0E n 0x009
abbrev Item.POS.EXC_AMP (n : Nat) : Nat := Item.addr 0x0E n 0x00A
abbrev Item.POS.EXC_PHASE (n : Nat) : Nat := Item.addr 0x0E n 0x00B
abbrev Item.POS.EXC_IMIN (n : Nat) : Nat := Item.addr 0x0E n 0x00C
abbrev Item.POS.EXC_IMAX (n : Nat) : Nat := Item.addr 0x0E n 0x00D
abbrev Item.POS.AMP_NOM (n : Nat) : Nat := Item.addr 0x0E n 0x00E
abbrev Item.POS.AMP_LO (n : Nat) : Nat := Item.addr 0x0E n 0x00F
abbrev Item.POS.AMP_HI (n : Nat) : Nat := Item.addr 0x0E n 0x010
abbrev Item.POS.CM_NOM (n : Nat) : Nat := Item.addr 0x0E n 0x011
abbrev Item.POS.CM_TOL (n : Nat) : Nat := Item.addr 0x0E n 0x012
abbrev Item.POS.OBS_BW (n : Nat) : Nat := Item.addr 0x0E n 0x013
abbrev Item.POS.WIRE_VTH (n : Nat) : Nat := Item.addr 0x0E n 0x014
abbrev Item.POS.WIRE_T (n : Nat) : Nat := Item.addr 0x0E n 0x015
abbrev Item.POS.WIRE_MAX (n : Nat) : Nat := Item.addr 0x0E n 0x016
abbrev Item.POS.EDGE_FILT (n : Nat) : Nat := Item.addr 0x0E n 0x017
abbrev Item.POS.HALL_PULLUP (n : Nat) : Nat := Item.addr 0x0E n 0x018
abbrev Item.POS.Z_EN (n : Nat) : Nat := Item.addr 0x0E n 0x019
abbrev Item.POS.Z_TOL (n : Nat) : Nat := Item.addr 0x0E n 0x01A
abbrev Item.POS.Z_POS (n : Nat) : Nat := Item.addr 0x0E n 0x01B
abbrev Item.POS.INTERP (n : Nat) : Nat := Item.addr 0x0E n 0x01C
abbrev Item.POS.SSI_BITS (n : Nat) : Nat := Item.addr 0x0E n 0x01D
abbrev Item.POS.SSI_STAT (n : Nat) : Nat := Item.addr 0x0E n 0x01E
abbrev Item.POS.SSI_ERRMASK (n : Nat) : Nat := Item.addr 0x0E n 0x01F
abbrev Item.POS.SSI_RATE (n : Nat) : Nat := Item.addr 0x0E n 0x020
abbrev Item.POS.SSI_CODE (n : Nat) : Nat := Item.addr 0x0E n 0x021
abbrev Item.POS.SSI_PERIOD (n : Nat) : Nat := Item.addr 0x0E n 0x022
abbrev Item.POS.SSI_TMO (n : Nat) : Nat := Item.addr 0x0E n 0x023
abbrev Item.POS.SSI_DELAY (n : Nat) : Nat := Item.addr 0x0E n 0x024
abbrev Item.POS.SSI_JUMP (n : Nat) : Nat := Item.addr 0x0E n 0x025
abbrev Item.POS.SPD_PERIOD (n : Nat) : Nat := Item.addr 0x0E n 0x026
abbrev Item.POS.SPD_WIN (n : Nat) : Nat := Item.addr 0x0E n 0x027
abbrev Item.POS.SPD_ZERO (n : Nat) : Nat := Item.addr 0x0E n 0x028
abbrev Item.POS.SPD_MAX (n : Nat) : Nat := Item.addr 0x0E n 0x029
abbrev Item.POS.ACC_MAX (n : Nat) : Nat := Item.addr 0x0E n 0x02A
abbrev Item.POS.EXTRAP_MAX (n : Nat) : Nat := Item.addr 0x0E n 0x02B
abbrev Item.POS.SUP_IMIN (n : Nat) : Nat := Item.addr 0x0E n 0x02C
abbrev Item.POS.SUP_IMAX (n : Nat) : Nat := Item.addr 0x0E n 0x02D
abbrev Item.POS.CMP_ORIGIN (n c : Nat) : Nat := Item.addr 0x0E n (0x030 + 8 * c)
abbrev Item.POS.CMP_STEP (n c : Nat) : Nat := Item.addr 0x0E n (0x031 + 8 * c)
abbrev Item.POS.CMP_HYST (n c : Nat) : Nat := Item.addr 0x0E n (0x032 + 8 * c)
abbrev Item.POS.CMP_DIR (n c : Nat) : Nat := Item.addr 0x0E n (0x033 + 8 * c)
abbrev Item.POS.CMP_DST (n c : Nat) : Nat := Item.addr 0x0E n (0x034 + 8 * c)
abbrev Item.POS.CMP_CNT (n c : Nat) : Nat := Item.addr 0x0E n (0x035 + 8 * c)
abbrev Item.POS.CMP_SKIP (n c : Nat) : Nat := Item.addr 0x0E n (0x036 + 8 * c)
abbrev Item.POS.CMP_T (n c : Nat) : Nat := Item.addr 0x0E n (0x037 + 8 * c)
abbrev Item.POS.STATUS (n : Nat) : Nat := Item.addr 0x0E n 0x040
abbrev Item.POS.ANGLE_M (n : Nat) : Nat := Item.addr 0x0E n 0x041
abbrev Item.POS.ANGLE_E (n : Nat) : Nat := Item.addr 0x0E n 0x042
abbrev Item.POS.SPEED (n : Nat) : Nat := Item.addr 0x0E n 0x043
abbrev Item.POS.TURNS (n : Nat) : Nat := Item.addr 0x0E n 0x044
abbrev Item.POS.COUNT (n : Nat) : Nat := Item.addr 0x0E n 0x045
abbrev Item.POS.AMP (n : Nat) : Nat := Item.addr 0x0E n 0x046
abbrev Item.POS.SUP_I (n : Nat) : Nat := Item.addr 0x0E n 0x047
abbrev Item.POS.EXC_I (n : Nat) : Nat := Item.addr 0x0E n 0x048
abbrev Item.POS.WIRE_CNT (n : Nat) : Nat := Item.addr 0x0E n 0x049
abbrev Item.POS.QUAD_ERR_CNT (n : Nat) : Nat := Item.addr 0x0E n 0x04A
abbrev Item.POS.Z_ERR_CNT (n : Nat) : Nat := Item.addr 0x0E n 0x04B
abbrev Item.POS.SSI_ERR_CNT (n : Nat) : Nat := Item.addr 0x0E n 0x04C
abbrev Item.POS.LATCH_OVR (n : Nat) : Nat := Item.addr 0x0E n 0x04D
abbrev Item.POS.EDGE_T (n : Nat) : Nat := Item.addr 0x0E n 0x04E
abbrev Item.POS.SELFTEST_RESULT (n : Nat) : Nat := Item.addr 0x0E n 0x04F
abbrev Item.POS.FORCE (n : Nat) : Nat := Item.addr 0x0E n 0x050
abbrev Item.POS.FAULT_STATUS (n : Nat) : Nat := Item.addr 0x0E n 0x051
abbrev Item.POS.RECOV (n : Nat) : Nat := Item.addr 0x0E n 0x052

abbrev Item.LOOP.TYPE (n : Nat) : Nat := Item.addr 0x10 n 0x001
abbrev Item.LOOP.SHEAF (n : Nat) : Nat := Item.addr 0x10 n 0x002
abbrev Item.LOOP.GROUP (n : Nat) : Nat := Item.addr 0x10 n 0x003
abbrev Item.LOOP.STATE (n : Nat) : Nat := Item.addr 0x10 n 0x004
abbrev Item.LOOP.CLOSE (n : Nat) : Nat := Item.addr 0x10 n 0x005
abbrev Item.LOOP.OPEN_ACTION (n : Nat) : Nat := Item.addr 0x10 n 0x006
abbrev Item.LOOP.OPEN_BAND (n : Nat) : Nat := Item.addr 0x10 n 0x007
abbrev Item.LOOP.SRC (n k : Nat) : Nat := Item.addr 0x10 n (0x008 + k)
abbrev Item.LOOP.IN_SCALE (n k : Nat) : Nat := Item.addr 0x10 n (0x010 + k)
abbrev Item.LOOP.TS_NOM (n : Nat) : Nat := Item.addr 0x10 n 0x018
abbrev Item.LOOP.WAIT_TMO (n : Nat) : Nat := Item.addr 0x10 n 0x019
abbrev Item.LOOP.SKEW_MAX (n : Nat) : Nat := Item.addr 0x10 n 0x01A
abbrev Item.LOOP.AGE_MAX (n : Nat) : Nat := Item.addr 0x10 n 0x01B
abbrev Item.LOOP.MISS_MAX (n : Nat) : Nat := Item.addr 0x10 n 0x01C
abbrev Item.LOOP.KP (n : Nat) : Nat := Item.addr 0x10 n 0x020
abbrev Item.LOOP.KI (n : Nat) : Nat := Item.addr 0x10 n 0x021
abbrev Item.LOOP.KP_B (n : Nat) : Nat := Item.addr 0x10 n 0x022
abbrev Item.LOOP.KI_B (n : Nat) : Nat := Item.addr 0x10 n 0x023
abbrev Item.LOOP.KAW (n : Nat) : Nat := Item.addr 0x10 n 0x024
abbrev Item.LOOP.KD (n : Nat) : Nat := Item.addr 0x10 n 0x025
abbrev Item.LOOP.TF (n : Nat) : Nat := Item.addr 0x10 n 0x026
abbrev Item.LOOP.KFF_V (n : Nat) : Nat := Item.addr 0x10 n 0x027
abbrev Item.LOOP.KFF_A (n : Nat) : Nat := Item.addr 0x10 n 0x028
abbrev Item.LOOP.LD (n : Nat) : Nat := Item.addr 0x10 n 0x029
abbrev Item.LOOP.LQ (n : Nat) : Nat := Item.addr 0x10 n 0x02A
abbrev Item.LOOP.PSI (n : Nat) : Nat := Item.addr 0x10 n 0x02B
abbrev Item.LOOP.DELAY_COMP (n : Nat) : Nat := Item.addr 0x10 n 0x02C
abbrev Item.LOOP.PLL_BW (n : Nat) : Nat := Item.addr 0x10 n 0x02D
abbrev Item.LOOP.OUT_MAX (n : Nat) : Nat := Item.addr 0x10 n 0x030
abbrev Item.LOOP.OUT_MIN (n : Nat) : Nat := Item.addr 0x10 n 0x031
abbrev Item.LOOP.OUT_MODE (n : Nat) : Nat := Item.addr 0x10 n 0x032
abbrev Item.LOOP.ON_T (n : Nat) : Nat := Item.addr 0x10 n 0x033
abbrev Item.LOOP.SETPT_A (n : Nat) : Nat := Item.addr 0x10 n 0x034
abbrev Item.LOOP.SETPT_B (n : Nat) : Nat := Item.addr 0x10 n 0x035
abbrev Item.LOOP.REF_SLEW (n : Nat) : Nat := Item.addr 0x10 n 0x036
abbrev Item.LOOP.MEMBERS (n : Nat) : Nat := Item.addr 0x10 n 0x037
abbrev Item.LOOP.SHARE (n k : Nat) : Nat := Item.addr 0x10 n (0x038 + k)
abbrev Item.LOOP.MEMBER_LIM (n : Nat) : Nat := Item.addr 0x10 n 0x040
abbrev Item.LOOP.TRIM_LANE (n : Nat) : Nat := Item.addr 0x10 n 0x041
abbrev Item.LOOP.BAL_K (n : Nat) : Nat := Item.addr 0x10 n 0x042
abbrev Item.LOOP.BAL_LIM (n : Nat) : Nat := Item.addr 0x10 n 0x043
abbrev Item.LOOP.STEP_TH (n : Nat) : Nat := Item.addr 0x10 n 0x044
abbrev Item.LOOP.SAT_WARN (n : Nat) : Nat := Item.addr 0x10 n 0x045
abbrev Item.LOOP.Y (n k : Nat) : Nat := Item.addr 0x10 n (0x050 + k)
abbrev Item.LOOP.ERR_A (n : Nat) : Nat := Item.addr 0x10 n 0x058
abbrev Item.LOOP.ERR_B (n : Nat) : Nat := Item.addr 0x10 n 0x059
abbrev Item.LOOP.INT_A (n : Nat) : Nat := Item.addr 0x10 n 0x05A
abbrev Item.LOOP.INT_B (n : Nat) : Nat := Item.addr 0x10 n 0x05B
abbrev Item.LOOP.CALC_CNT (n : Nat) : Nat := Item.addr 0x10 n 0x05C
abbrev Item.LOOP.MISS_CNT (n : Nat) : Nat := Item.addr 0x10 n 0x05D
abbrev Item.LOOP.OVR_CNT (n : Nat) : Nat := Item.addr 0x10 n 0x05E
abbrev Item.LOOP.SAT_CNT (n : Nat) : Nat := Item.addr 0x10 n 0x05F
abbrev Item.LOOP.LAT_MAX (n : Nat) : Nat := Item.addr 0x10 n 0x060
abbrev Item.LOOP.SELFTEST_RESULT (n : Nat) : Nat := Item.addr 0x10 n 0x061
abbrev Item.LOOP.FORCE (n : Nat) : Nat := Item.addr 0x10 n 0x062
abbrev Item.LOOP.FAULT_STATUS (n : Nat) : Nat := Item.addr 0x10 n 0x063
abbrev Item.LOOP.RECOV (n : Nat) : Nat := Item.addr 0x10 n 0x064

abbrev Item.PROF.SHEAF (n : Nat) : Nat := Item.addr 0x11 n 0x001
abbrev Item.PROF.MODE (n : Nat) : Nat := Item.addr 0x11 n 0x002
abbrev Item.PROF.TARGET (n : Nat) : Nat := Item.addr 0x11 n 0x003
abbrev Item.PROF.V_SET (n : Nat) : Nat := Item.addr 0x11 n 0x004
abbrev Item.PROF.VMAX (n : Nat) : Nat := Item.addr 0x11 n 0x005
abbrev Item.PROF.AMAX (n : Nat) : Nat := Item.addr 0x11 n 0x006
abbrev Item.PROF.DMAX (n : Nat) : Nat := Item.addr 0x11 n 0x007
abbrev Item.PROF.JMAX (n : Nat) : Nat := Item.addr 0x11 n 0x008
abbrev Item.PROF.TS (n : Nat) : Nat := Item.addr 0x11 n 0x009
abbrev Item.PROF.POS_TOL (n : Nat) : Nat := Item.addr 0x11 n 0x00A
abbrev Item.PROF.VEL_TOL (n : Nat) : Nat := Item.addr 0x11 n 0x00B
abbrev Item.PROF.CMD (n : Nat) : Nat := Item.addr 0x11 n 0x00C
abbrev Item.PROF.INIT_SRC (n : Nat) : Nat := Item.addr 0x11 n 0x00D
abbrev Item.PROF.X (n : Nat) : Nat := Item.addr 0x11 n 0x00E
abbrev Item.PROF.V (n : Nat) : Nat := Item.addr 0x11 n 0x00F
abbrev Item.PROF.A (n : Nat) : Nat := Item.addr 0x11 n 0x010
abbrev Item.PROF.STATUS (n : Nat) : Nat := Item.addr 0x11 n 0x011

abbrev Item.TRC.MODE : Nat := Item.addr 0x12 0 0x001
abbrev Item.TRC.SETS_ACTIVE : Nat := Item.addr 0x12 0 0x002
abbrev Item.TRC.SET_SAFE : Nat := Item.addr 0x12 0 0x003
abbrev Item.TRC.ASC_SPEED : Nat := Item.addr 0x12 0 0x004
abbrev Item.TRC.ASC_HYST : Nat := Item.addr 0x12 0 0x005
abbrev Item.TRC.READY_ASC : Nat := Item.addr 0x12 0 0x006
abbrev Item.TRC.MIN_SETS : Nat := Item.addr 0x12 0 0x007
abbrev Item.TRC.T_MAX_MOT : Nat := Item.addr 0x12 0 0x008
abbrev Item.TRC.T_MAX_GEN : Nat := Item.addr 0x12 0 0x009
abbrev Item.TRC.P_MOT_LIM : Nat := Item.addr 0x12 0 0x00A
abbrev Item.TRC.P_GEN_LIM : Nat := Item.addr 0x12 0 0x00B
abbrev Item.TRC.I_DC_MOT_LIM : Nat := Item.addr 0x12 0 0x00C
abbrev Item.TRC.I_DC_GEN_LIM : Nat := Item.addr 0x12 0 0x00D
abbrev Item.TRC.LIM_TMO : Nat := Item.addr 0x12 0 0x00E
abbrev Item.TRC.P_MOT_FB : Nat := Item.addr 0x12 0 0x00F
abbrev Item.TRC.P_GEN_FB : Nat := Item.addr 0x12 0 0x010
abbrev Item.TRC.EFF : Nat := Item.addr 0x12 0 0x011
abbrev Item.TRC.W_MIN_RPM : Nat := Item.addr 0x12 0 0x012
abbrev Item.TRC.SPD_MAX_FWD : Nat := Item.addr 0x12 0 0x013
abbrev Item.TRC.SPD_MAX_REV : Nat := Item.addr 0x12 0 0x014
abbrev Item.TRC.SPD_LIM_BAND : Nat := Item.addr 0x12 0 0x015
abbrev Item.TRC.STOP_SLEW : Nat := Item.addr 0x12 0 0x016
abbrev Item.TRC.STOP_TMAX : Nat := Item.addr 0x12 0 0x017
abbrev Item.TRC.REQ_TMO : Nat := Item.addr 0x12 0 0x018
abbrev Item.TRC.WINNOW_RAMP : Nat := Item.addr 0x12 0 0x019
abbrev Item.TRC.CREEP_VMAX : Nat := Item.addr 0x12 0 0x01A
abbrev Item.TRC.BENCH_VMAX : Nat := Item.addr 0x12 0 0x01B
abbrev Item.TRC.FW_VREF : Nat := Item.addr 0x12 0 0x01C
abbrev Item.TRC.FW_SPD (k : Nat) : Nat := Item.addr 0x12 0 (0x020 + k)
abbrev Item.TRC.FW_ID (k : Nat) : Nat := Item.addr 0x12 0 (0x028 + k)
abbrev Item.TRC.DRAG_SPD (k : Nat) : Nat := Item.addr 0x12 0 (0x030 + k)
abbrev Item.TRC.DRAG_T (k : Nat) : Nat := Item.addr 0x12 0 (0x038 + k)
abbrev Item.TRC.DERATE (k : Nat) : Nat := Item.addr 0x12 0 (0x040 + k)
abbrev Item.TRC.T_LIM_POS : Nat := Item.addr 0x12 0 0x046
abbrev Item.TRC.T_LIM_NEG : Nat := Item.addr 0x12 0 0x047
abbrev Item.TRC.LIMIT_CAUSE : Nat := Item.addr 0x12 0 0x048
abbrev Item.TRC.RECOV_WAIT : Nat := Item.addr 0x12 0 0x049
abbrev Item.TRC.REBAL_CNT : Nat := Item.addr 0x12 0 0x04A
abbrev Item.TRC.SET_WINNOW_CNT (k : Nat) : Nat := Item.addr 0x12 0 (0x04B + k)

abbrev Item.CHG.STATE : Nat := Item.addr 0x13 0 0x001
abbrev Item.CHG.STOP_CAUSE : Nat := Item.addr 0x13 0 0x002
abbrev Item.CHG.FLAGS : Nat := Item.addr 0x13 0 0x003
abbrev Item.CHG.PILOT_STATE : Nat := Item.addr 0x13 0 0x004
abbrev Item.CHG.PILOT_DUTY : Nat := Item.addr 0x13 0 0x005
abbrev Item.CHG.PILOT_I : Nat := Item.addr 0x13 0 0x006
abbrev Item.CHG.PP_I : Nat := Item.addr 0x13 0 0x007
abbrev Item.CHG.I_IN_LIM : Nat := Item.addr 0x13 0 0x008
abbrev Item.CHG.ZONE : Nat := Item.addr 0x13 0 0x009
abbrev Item.CHG.STEP : Nat := Item.addr 0x13 0 0x00A
abbrev Item.CHG.TIMER_NOM : Nat := Item.addr 0x13 0 0x00B
abbrev Item.CHG.TIMER_WALL : Nat := Item.addr 0x13 0 0x00C
abbrev Item.CHG.I_TGT : Nat := Item.addr 0x13 0 0x00D
abbrev Item.CHG.I_REQ : Nat := Item.addr 0x13 0 0x00E
abbrev Item.CHG.DERATE : Nat := Item.addr 0x13 0 0x00F
abbrev Item.CHG.I_IN_MAX : Nat := Item.addr 0x13 0 0x010
abbrev Item.CHG.P_IN_MAX : Nat := Item.addr 0x13 0 0x011
abbrev Item.CHG.P_EXP_LIM : Nat := Item.addr 0x13 0 0x012
abbrev Item.CHG.EFF : Nat := Item.addr 0x13 0 0x013
abbrev Item.CHG.V_CEIL : Nat := Item.addr 0x13 0 0x014
abbrev Item.CHG.V_DC1 : Nat := Item.addr 0x13 0 0x015
abbrev Item.CHG.WDT : Nat := Item.addr 0x13 0 0x016
abbrev Item.CHG.PLUG_DEBOUNCE : Nat := Item.addr 0x13 0 0x017
abbrev Item.CHG.PILOT_FILT : Nat := Item.addr 0x13 0 0x018
abbrev Item.CHG.PWM_FOLLOW : Nat := Item.addr 0x13 0 0x019
abbrev Item.CHG.RAMP_UP : Nat := Item.addr 0x13 0 0x01A
abbrev Item.CHG.RAMP_DOWN_T : Nat := Item.addr 0x13 0 0x01B
abbrev Item.CHG.EVSE_TMO : Nat := Item.addr 0x13 0 0x01C
abbrev Item.CHG.INRUSH_T : Nat := Item.addr 0x13 0 0x01D
abbrev Item.CHG.RELAY_T : Nat := Item.addr 0x13 0 0x01E
abbrev Item.CHG.MATCH_TOL : Nat := Item.addr 0x13 0 0x01F
abbrev Item.CHG.MATCH_TMAX : Nat := Item.addr 0x13 0 0x020
abbrev Item.CHG.HO_AUX_P : Nat := Item.addr 0x13 0 0x021
abbrev Item.CHG.VLOSS : Nat := Item.addr 0x13 0 0x022
abbrev Item.CHG.LOSS_T : Nat := Item.addr 0x13 0 0x023
abbrev Item.CHG.I_TERM : Nat := Item.addr 0x13 0 0x024
abbrev Item.CHG.TERM_T : Nat := Item.addr 0x13 0 0x025
abbrev Item.CHG.STEP_DWELL : Nat := Item.addr 0x13 0 0x026
abbrev Item.CHG.ZONE_T (k : Nat) : Nat := Item.addr 0x13 0 (0x027 + k)
abbrev Item.CHG.ZONE_HYST : Nat := Item.addr 0x13 0 0x02A
abbrev Item.CHG.V2L_VRMS : Nat := Item.addr 0x13 0 0x02B
abbrev Item.CHG.V2L_FREQ : Nat := Item.addr 0x13 0 0x02C
abbrev Item.CHG.STEP_I (k : Nat) : Nat := Item.addr 0x13 0 (0x030 + k)
abbrev Item.CHG.STEP_V (k : Nat) : Nat := Item.addr 0x13 0 (0x040 + k)
abbrev Item.CHG.TIMER (k : Nat) : Nat := Item.addr 0x13 0 (0x050 + k)
abbrev Item.CHG.BAT_V_MAX : Nat := Item.addr 0x13 0 0x060
abbrev Item.CHG.BAT_I_MAX : Nat := Item.addr 0x13 0 0x061
abbrev Item.CHG.BAT_I_DIS_MAX : Nat := Item.addr 0x13 0 0x062
abbrev Item.CHG.BAT_TEMP : Nat := Item.addr 0x13 0 0x063
abbrev Item.CHG.SET_MODE : Nat := Item.addr 0x13 0 0x068
abbrev Item.CHG.SET_PHASES : Nat := Item.addr 0x13 0 0x069
abbrev Item.CHG.SET_I_IN : Nat := Item.addr 0x13 0 0x06A
abbrev Item.CHG.SET_I_BAT : Nat := Item.addr 0x13 0 0x06B
abbrev Item.CHG.SET_V_BAT : Nat := Item.addr 0x13 0 0x06C
abbrev Item.CHG.SET_P_EXP : Nat := Item.addr 0x13 0 0x06D
abbrev Item.CHG.WDT_CNT : Nat := Item.addr 0x13 0 0x070
abbrev Item.CHG.HO_CNT : Nat := Item.addr 0x13 0 0x071
abbrev Item.CHG.HO_RESULT : Nat := Item.addr 0x13 0 0x072
abbrev Item.CHG.HO_TIME : Nat := Item.addr 0x13 0 0x073
abbrev Item.CHG.SESSION : Nat := Item.addr 0x13 0 0x074

abbrev Item.AUX.I_STATE : Nat := Item.addr 0x14 0 0x001
abbrev Item.AUX.V48_REF : Nat := Item.addr 0x14 0 0x002
abbrev Item.AUX.V48_MIN : Nat := Item.addr 0x14 0 0x003
abbrev Item.AUX.P_IN_LIM : Nat := Item.addr 0x14 0 0x004
abbrev Item.AUX.EFF_I : Nat := Item.addr 0x14 0 0x005
abbrev Item.AUX.PLIM_SLEW : Nat := Item.addr 0x14 0 0x006
abbrev Item.AUX.P_IN_EST : Nat := Item.addr 0x14 0 0x007
abbrev Item.AUX.I_SS_T : Nat := Item.addr 0x14 0 0x008
abbrev Item.AUX.I_HICCUP_N : Nat := Item.addr 0x14 0 0x009
abbrev Item.AUX.I_HICCUP_OFF : Nat := Item.addr 0x14 0 0x00A
abbrev Item.AUX.I_VIN_MIN : Nat := Item.addr 0x14 0 0x00B
abbrev Item.AUX.V48_OV : Nat := Item.addr 0x14 0 0x00C
abbrev Item.AUX.I_AUTO_START : Nat := Item.addr 0x14 0 0x00D
abbrev Item.AUX.I_CBC_EN : Nat := Item.addr 0x14 0 0x00E
abbrev Item.AUX.I_FAILSTART_RUN : Nat := Item.addr 0x14 0 0x00F
abbrev Item.AUX.I_FAILSTART_CNT : Nat := Item.addr 0x14 0 0x010
abbrev Item.AUX.I_HICCUP_CNT : Nat := Item.addr 0x14 0 0x011
abbrev Item.AUX.I_LIMIT_CNT : Nat := Item.addr 0x14 0 0x012
abbrev Item.AUX.I_LIMIT_CAUSE : Nat := Item.addr 0x14 0 0x013
abbrev Item.AUX.I_FORCE : Nat := Item.addr 0x14 0 0x014
abbrev Item.AUX.B_STATE : Nat := Item.addr 0x14 0 0x040
abbrev Item.AUX.V12_REF : Nat := Item.addr 0x14 0 0x041
abbrev Item.AUX.B_SS_T : Nat := Item.addr 0x14 0 0x042
abbrev Item.AUX.HICCUP_N : Nat := Item.addr 0x14 0 0x043
abbrev Item.AUX.HICCUP_OFF : Nat := Item.addr 0x14 0 0x044
abbrev Item.AUX.B_VIN_MIN : Nat := Item.addr 0x14 0 0x045
abbrev Item.AUX.V12_OV : Nat := Item.addr 0x14 0 0x046
abbrev Item.AUX.B_AUTO_START : Nat := Item.addr 0x14 0 0x047
abbrev Item.AUX.B_CBC_EN : Nat := Item.addr 0x14 0 0x048
abbrev Item.AUX.DE_MODE : Nat := Item.addr 0x14 0 0x049
abbrev Item.AUX.DE_I : Nat := Item.addr 0x14 0 0x04A
abbrev Item.AUX.ZCD_BLANK : Nat := Item.addr 0x14 0 0x04B
abbrev Item.AUX.SHED_EN : Nat := Item.addr 0x14 0 0x04C
abbrev Item.AUX.SHED_I_PH : Nat := Item.addr 0x14 0 0x04D
abbrev Item.AUX.SHED_HYST : Nat := Item.addr 0x14 0 0x04E
abbrev Item.AUX.SHED_MIN : Nat := Item.addr 0x14 0 0x04F
abbrev Item.AUX.SHED_DWELL : Nat := Item.addr 0x14 0 0x050
abbrev Item.AUX.SHED_HOLD : Nat := Item.addr 0x14 0 0x051
abbrev Item.AUX.MIN_PHASES : Nat := Item.addr 0x14 0 0x052
abbrev Item.AUX.I12_PH_MAX : Nat := Item.addr 0x14 0 0x053
abbrev Item.AUX.SYNC_TOL : Nat := Item.addr 0x14 0 0x054
abbrev Item.AUX.SYNC_STATE : Nat := Item.addr 0x14 0 0x055
abbrev Item.AUX.SYNC_LOSS_CNT : Nat := Item.addr 0x14 0 0x056
abbrev Item.AUX.PHASES_ON : Nat := Item.addr 0x14 0 0x057
abbrev Item.AUX.SHED_CNT : Nat := Item.addr 0x14 0 0x058
abbrev Item.AUX.SHED_ABORT_CNT : Nat := Item.addr 0x14 0 0x059
abbrev Item.AUX.B_FAILSTART_RUN : Nat := Item.addr 0x14 0 0x05A
abbrev Item.AUX.B_FAILSTART_CNT : Nat := Item.addr 0x14 0 0x05B
abbrev Item.AUX.B_HICCUP_CNT : Nat := Item.addr 0x14 0 0x05C
abbrev Item.AUX.B_LIMIT_CNT : Nat := Item.addr 0x14 0 0x05D
abbrev Item.AUX.LVSW_STATE : Nat := Item.addr 0x14 0 0x05E
abbrev Item.AUX.SHIP_T : Nat := Item.addr 0x14 0 0x05F
abbrev Item.AUX.LVSW_RESET_CNT : Nat := Item.addr 0x14 0 0x060
abbrev Item.AUX.B_FORCE : Nat := Item.addr 0x14 0 0x061

abbrev Item.ACT.STATE (n : Nat) : Nat := Item.addr 0x15 n 0x001
abbrev Item.ACT.FUNC (n : Nat) : Nat := Item.addr 0x15 n 0x002
abbrev Item.ACT.HOME_MODE (n : Nat) : Nat := Item.addr 0x15 n 0x003
abbrev Item.ACT.AUTO_HOME (n : Nat) : Nat := Item.addr 0x15 n 0x004
abbrev Item.ACT.HOME_DIR (n : Nat) : Nat := Item.addr 0x15 n 0x005
abbrev Item.ACT.HOME_V (n : Nat) : Nat := Item.addr 0x15 n 0x006
abbrev Item.ACT.HOME_ERR (n : Nat) : Nat := Item.addr 0x15 n 0x007
abbrev Item.ACT.HOME_POS (n : Nat) : Nat := Item.addr 0x15 n 0x008
abbrev Item.ACT.HOME_TMAX (n : Nat) : Nat := Item.addr 0x15 n 0x009
abbrev Item.ACT.POS (n k : Nat) : Nat := Item.addr 0x15 n (0x010 + k)
abbrev Item.ACT.POS_MIN (n : Nat) : Nat := Item.addr 0x15 n 0x018
abbrev Item.ACT.POS_MAX (n : Nat) : Nat := Item.addr 0x15 n 0x019
abbrev Item.ACT.VMAX (n : Nat) : Nat := Item.addr 0x15 n 0x01A
abbrev Item.ACT.AMAX (n : Nat) : Nat := Item.addr 0x15 n 0x01B
abbrev Item.ACT.JMAX (n : Nat) : Nat := Item.addr 0x15 n 0x01C
abbrev Item.ACT.POS_BAND (n : Nat) : Nat := Item.addr 0x15 n 0x01D
abbrev Item.ACT.SETTLE_T (n : Nat) : Nat := Item.addr 0x15 n 0x01E
abbrev Item.ACT.FOLLOW_MAX (n : Nat) : Nat := Item.addr 0x15 n 0x01F
abbrev Item.ACT.STALL_V (n : Nat) : Nat := Item.addr 0x15 n 0x020
abbrev Item.ACT.STALL_FRAC (n : Nat) : Nat := Item.addr 0x15 n 0x021
abbrev Item.ACT.STALL_T (n : Nat) : Nat := Item.addr 0x15 n 0x022
abbrev Item.ACT.RETRY_N (n : Nat) : Nat := Item.addr 0x15 n 0x023
abbrev Item.ACT.BACKOFF (n : Nat) : Nat := Item.addr 0x15 n 0x024
abbrev Item.ACT.PAUSE_MIN (n : Nat) : Nat := Item.addr 0x15 n 0x025
abbrev Item.ACT.ENGAGE_RPM (n : Nat) : Nat := Item.addr 0x15 n 0x026
abbrev Item.ACT.LATCH_T (n : Nat) : Nat := Item.addr 0x15 n 0x027
abbrev Item.ACT.SHIFT_T_MAX (n : Nat) : Nat := Item.addr 0x15 n 0x028
abbrev Item.ACT.SPAN_MIN (n : Nat) : Nat := Item.addr 0x15 n 0x029
abbrev Item.ACT.SPAN_MAX (n : Nat) : Nat := Item.addr 0x15 n 0x02A
abbrev Item.ACT.POS_NOW (n : Nat) : Nat := Item.addr 0x15 n 0x030
abbrev Item.ACT.TARGET_NOW (n : Nat) : Nat := Item.addr 0x15 n 0x031
abbrev Item.ACT.PARK_STATE (n : Nat) : Nat := Item.addr 0x15 n 0x032
abbrev Item.ACT.DETENT (n : Nat) : Nat := Item.addr 0x15 n 0x033
abbrev Item.ACT.PAUSE_LEFT (n : Nat) : Nat := Item.addr 0x15 n 0x034
abbrev Item.ACT.SPAN_MEAS (n : Nat) : Nat := Item.addr 0x15 n 0x035
abbrev Item.ACT.MOVE_CNT (n : Nat) : Nat := Item.addr 0x15 n 0x036
abbrev Item.ACT.STALL_CNT (n : Nat) : Nat := Item.addr 0x15 n 0x037
abbrev Item.ACT.JAM_CNT (n : Nat) : Nat := Item.addr 0x15 n 0x038
abbrev Item.ACT.FORCE (n : Nat) : Nat := Item.addr 0x15 n 0x039
abbrev Item.ACT.FAULT_STATUS (n : Nat) : Nat := Item.addr 0x15 n 0x03A
abbrev Item.ACT.RECOV (n : Nat) : Nat := Item.addr 0x15 n 0x03B

abbrev Item.SAFE.STATE : Nat := Item.addr 0x18 0 0x001
abbrev Item.SAFE.STO_TP_TOL : Nat := Item.addr 0x18 0 0x002
abbrev Item.SAFE.STO_DISC_T : Nat := Item.addr 0x18 0 0x003
abbrev Item.SAFE.SLS_LIMIT : Nat := Item.addr 0x18 0 0x004
abbrev Item.SAFE.SLS_CREEP : Nat := Item.addr 0x18 0 0x005
abbrev Item.SAFE.SLS_BENCH : Nat := Item.addr 0x18 0 0x006
abbrev Item.SAFE.SDI_TOL : Nat := Item.addr 0x18 0 0x007
abbrev Item.SAFE.SDI_STILL : Nat := Item.addr 0x18 0 0x008
abbrev Item.SAFE.SLP_TRC_FWD : Nat := Item.addr 0x18 0 0x009
abbrev Item.SAFE.SLP_TRC_REV : Nat := Item.addr 0x18 0 0x00A
abbrev Item.SAFE.SLP_BENCH : Nat := Item.addr 0x18 0 0x00B
abbrev Item.SAFE.KT : Nat := Item.addr 0x18 0 0x00C
abbrev Item.SAFE.KR : Nat := Item.addr 0x18 0 0x00D
abbrev Item.SAFE.UT_MARGIN : Nat := Item.addr 0x18 0 0x00E
abbrev Item.SAFE.UT_T : Nat := Item.addr 0x18 0 0x00F
abbrev Item.SAFE.CS_GAIN : Nat := Item.addr 0x18 0 0x010
abbrev Item.SAFE.CMP_TEST_PERIOD : Nat := Item.addr 0x18 0 0x011
abbrev Item.SAFE.SPD_INV_T : Nat := Item.addr 0x18 0 0x012
abbrev Item.SAFE.XCHK_TOL : Nat := Item.addr 0x18 0 0x013
abbrev Item.SAFE.SLP_ACT_MIN (k : Nat) : Nat := Item.addr 0x18 0 (0x014 + k)
abbrev Item.SAFE.SLP_ACT_MAX (k : Nat) : Nat := Item.addr 0x18 0 (0x016 + k)
abbrev Item.SAFE.PARK_WIN_LO : Nat := Item.addr 0x18 0 0x018
abbrev Item.SAFE.PARK_WIN_HI : Nat := Item.addr 0x18 0 0x019
abbrev Item.SAFE.SLP_XTOL : Nat := Item.addr 0x18 0 0x01A
abbrev Item.SAFE.PATH_AGE_MAX : Nat := Item.addr 0x18 0 0x01B
abbrev Item.SAFE.PATH_RESULT : Nat := Item.addr 0x18 0 0x020
abbrev Item.SAFE.PATH_AGE : Nat := Item.addr 0x18 0 0x021
abbrev Item.SAFE.SPEED : Nat := Item.addr 0x18 0 0x022
abbrev Item.SAFE.T_SUP : Nat := Item.addr 0x18 0 0x023
abbrev Item.SAFE.DIR_NOW : Nat := Item.addr 0x18 0 0x024
abbrev Item.SAFE.ACT_POS (k : Nat) : Nat := Item.addr 0x18 0 (0x025 + k)
abbrev Item.SAFE.DEMAND_CNT : Nat := Item.addr 0x18 0 0x027
abbrev Item.SAFE.FORCE : Nat := Item.addr 0x18 0 0x028
abbrev Item.SAFE.FAULT_STATUS : Nat := Item.addr 0x18 0 0x029
abbrev Item.SAFE.CRC : Nat := Item.addr 0x18 0 0x02A

abbrev Item.SOUT.STATE (n : Nat) : Nat := Item.addr 0x19 n 0x001
abbrev Item.SOUT.OWNER (n : Nat) : Nat := Item.addr 0x19 n 0x002
abbrev Item.SOUT.PERMIT (n : Nat) : Nat := Item.addr 0x19 n 0x003
abbrev Item.SOUT.OFF_MASK (n : Nat) : Nat := Item.addr 0x19 n 0x004
abbrev Item.SOUT.TEST_INTERVAL (n : Nat) : Nat := Item.addr 0x19 n 0x005
abbrev Item.SOUT.TP_LEN (n : Nat) : Nat := Item.addr 0x19 n 0x006
abbrev Item.SOUT.TP_RETRY (n : Nat) : Nat := Item.addr 0x19 n 0x007
abbrev Item.SOUT.OPEN_DET (n : Nat) : Nat := Item.addr 0x19 n 0x008
abbrev Item.SOUT.I_MEAS (n : Nat) : Nat := Item.addr 0x19 n 0x009
abbrev Item.SOUT.V_P (n : Nat) : Nat := Item.addr 0x19 n 0x00A
abbrev Item.SOUT.V_N (n : Nat) : Nat := Item.addr 0x19 n 0x00B
abbrev Item.SOUT.TEST_AGE (n : Nat) : Nat := Item.addr 0x19 n 0x00C
abbrev Item.SOUT.TEST_CNT (n : Nat) : Nat := Item.addr 0x19 n 0x00D
abbrev Item.SOUT.TEST_ABORT_CNT (n : Nat) : Nat := Item.addr 0x19 n 0x00E
abbrev Item.SOUT.ON_CNT (n : Nat) : Nat := Item.addr 0x19 n 0x00F
abbrev Item.SOUT.FORCE (n : Nat) : Nat := Item.addr 0x19 n 0x010
abbrev Item.SOUT.FAULT_STATUS (n : Nat) : Nat := Item.addr 0x19 n 0x011
abbrev Item.SOUT.RECOV (n : Nat) : Nat := Item.addr 0x19 n 0x012

abbrev Item.FLT.RECOV_WIN : Nat := Item.addr 0x1A 0 0x001
abbrev Item.FLT.W_EVT_GAP : Nat := Item.addr 0x1A 0 0x002
abbrev Item.FLT.JRN_COUNT : Nat := Item.addr 0x1A 0 0x003
abbrev Item.FLT.JRN_SEL : Nat := Item.addr 0x1A 0 0x004
abbrev Item.FLT.JRN_W (k : Nat) : Nat := Item.addr 0x1A 0 (0x005 + k)
abbrev Item.FLT.GRAVE_CNT : Nat := Item.addr 0x1A 0 0x00A
abbrev Item.FLT.REST (k : Nat) : Nat := Item.addr 0x1A 0 (0x010 + k)
abbrev Item.FLT.RECOV_MAX (k : Nat) : Nat := Item.addr 0x1A 0 (0x020 + k)
abbrev Item.FLT.AUTO_RECOV (k : Nat) : Nat := Item.addr 0x1A 0 (0x030 + k)

abbrev Item.THM.WARN : Nat := Item.addr 0x1B 0 0x001
abbrev Item.THM.STOP : Nat := Item.addr 0x1B 0 0x002
abbrev Item.THM.RESUME : Nat := Item.addr 0x1B 0 0x003
abbrev Item.THM.DERATE_T : Nat := Item.addr 0x1B 0 0x004
abbrev Item.THM.DTDT_MAX : Nat := Item.addr 0x1B 0 0x005
abbrev Item.THM.DTDT_STEP : Nat := Item.addr 0x1B 0 0x006
abbrev Item.THM.DTDT_FLOOR : Nat := Item.addr 0x1B 0 0x007
abbrev Item.THM.AGE_MAX : Nat := Item.addr 0x1B 0 0x008
abbrev Item.THM.NTC_BETA : Nat := Item.addr 0x1B 0 0x009
abbrev Item.THM.STOP_RAMP : Nat := Item.addr 0x1B 0 0x00A
abbrev Item.THM.ACT_PAUSE : Nat := Item.addr 0x1B 0 0x00B
abbrev Item.THM.CHG_BURST : Nat := Item.addr 0x1B 0 0x00C
abbrev Item.THM.CHG_PAUSE : Nat := Item.addr 0x1B 0 0x00D
abbrev Item.THM.NV_T : Nat := Item.addr 0x1B 0 0x00E
abbrev Item.THM.NV_PAUSE : Nat := Item.addr 0x1B 0 0x00F
abbrev Item.THM.THROTTLE : Nat := Item.addr 0x1B 0 0x010
abbrev Item.THM.TA_HOLD : Nat := Item.addr 0x1B 0 0x011
abbrev Item.THM.TB_STATE : Nat := Item.addr 0x1B 0 0x012
abbrev Item.THM.TB_CNT : Nat := Item.addr 0x1B 0 0x013
abbrev Item.THM.TA_CNT : Nat := Item.addr 0x1B 0 0x014
abbrev Item.THM.DIE_T (k : Nat) : Nat := Item.addr 0x1B 0 (0x018 + k)
abbrev Item.THM.RTH (k : Nat) : Nat := Item.addr 0x1B 0 (0x020 + k)
abbrev Item.THM.TAU (k : Nat) : Nat := Item.addr 0x1B 0 (0x028 + k)
abbrev Item.THM.KC (k : Nat) : Nat := Item.addr 0x1B 0 (0x030 + k)
abbrev Item.THM.KS (k : Nat) : Nat := Item.addr 0x1B 0 (0x038 + k)

abbrev Item.CAN.STATE (n : Nat) : Nat := Item.addr 0x1C n 0x001
abbrev Item.CAN.ENABLE (n : Nat) : Nat := Item.addr 0x1C n 0x002
abbrev Item.CAN.NBT (n : Nat) : Nat := Item.addr 0x1C n 0x003
abbrev Item.CAN.DBT (n : Nat) : Nat := Item.addr 0x1C n 0x004
abbrev Item.CAN.TDC (n : Nat) : Nat := Item.addr 0x1C n 0x005
abbrev Item.CAN.ARD_EN (n : Nat) : Nat := Item.addr 0x1C n 0x006
abbrev Item.CAN.ARD_LOCK (n : Nat) : Nat := Item.addr 0x1C n 0x007
abbrev Item.CAN.ARD (n k : Nat) : Nat := Item.addr 0x1C n (0x008 + k)
abbrev Item.CAN.MAP_BASE (n : Nat) : Nat := Item.addr 0x1C n 0x010
abbrev Item.CAN.HB_PERIOD (n : Nat) : Nat := Item.addr 0x1C n 0x011
abbrev Item.CAN.HB_TMO (n : Nat) : Nat := Item.addr 0x1C n 0x012
abbrev Item.CAN.BO_AUTO (n : Nat) : Nat := Item.addr 0x1C n 0x013
abbrev Item.CAN.BO_RECOVER (n : Nat) : Nat := Item.addr 0x1C n 0x014
abbrev Item.CAN.BO_MAX (n : Nat) : Nat := Item.addr 0x1C n 0x015
abbrev Item.CAN.DOM_MAX (n : Nat) : Nat := Item.addr 0x1C n 0x016
abbrev Item.CAN.ERR (n : Nat) : Nat := Item.addr 0x1C n 0x017
abbrev Item.CAN.BO_CNT (n : Nat) : Nat := Item.addr 0x1C n 0x018
abbrev Item.CAN.IDCLASH (n : Nat) : Nat := Item.addr 0x1C n 0x019
abbrev Item.CAN.IDCLASH_CNT (n : Nat) : Nat := Item.addr 0x1C n 0x01A
abbrev Item.CAN.TX_CNT (n : Nat) : Nat := Item.addr 0x1C n 0x01B
abbrev Item.CAN.RX_CNT (n : Nat) : Nat := Item.addr 0x1C n 0x01C
abbrev Item.CAN.RX_UNMATCHED (n : Nat) : Nat := Item.addr 0x1C n 0x01D
abbrev Item.CAN.RX_LOST (n : Nat) : Nat := Item.addr 0x1C n 0x01E
abbrev Item.CAN.ERR_FRAME_CNT (n : Nat) : Nat := Item.addr 0x1C n 0x01F
abbrev Item.CAN.OBJ_SEL (n : Nat) : Nat := Item.addr 0x1C n 0x020
abbrev Item.CAN.OBJ_CFG (n : Nat) : Nat := Item.addr 0x1C n 0x021
abbrev Item.CAN.OBJ_ID (n : Nat) : Nat := Item.addr 0x1C n 0x022
abbrev Item.CAN.OBJ_MASK (n : Nat) : Nat := Item.addr 0x1C n 0x023
abbrev Item.CAN.OBJ_STAT (n : Nat) : Nat := Item.addr 0x1C n 0x024
abbrev Item.CAN.OBJ_T (n : Nat) : Nat := Item.addr 0x1C n 0x025
abbrev Item.CAN.OBJ_PERIOD (n : Nat) : Nat := Item.addr 0x1C n 0x026
abbrev Item.CAN.OBJ_D (n k : Nat) : Nat := Item.addr 0x1C n (0x028 + k)
abbrev Item.CAN.SELFTEST_RESULT (n : Nat) : Nat := Item.addr 0x1C n 0x030
abbrev Item.CAN.FORCE (n : Nat) : Nat := Item.addr 0x1C n 0x031
abbrev Item.CAN.FAULT_STATUS (n : Nat) : Nat := Item.addr 0x1C n 0x032
abbrev Item.CAN.RECOV (n : Nat) : Nat := Item.addr 0x1C n 0x033

abbrev Item.ETH.ENABLE (n : Nat) : Nat := Item.addr 0x1D n 0x001
abbrev Item.ETH.PHY_ROLE (n : Nat) : Nat := Item.addr 0x1D n 0x002
abbrev Item.ETH.VLAN (n : Nat) : Nat := Item.addr 0x1D n 0x003
abbrev Item.ETH.LINK (n : Nat) : Nat := Item.addr 0x1D n 0x004
abbrev Item.ETH.RX_DROP (n : Nat) : Nat := Item.addr 0x1D n 0x005

abbrev Item.SVC.DEV_NUM : Nat := Item.addr 0x1E 0 0x001
abbrev Item.SVC.SD_EN : Nat := Item.addr 0x1E 0 0x002
abbrev Item.SVC.SD_QUIET_T : Nat := Item.addr 0x1E 0 0x003
abbrev Item.SVC.SD_CNT : Nat := Item.addr 0x1E 0 0x004
abbrev Item.SVC.FW_RUN : Nat := Item.addr 0x1E 0 0x010
abbrev Item.SVC.FW_STATE_A : Nat := Item.addr 0x1E 0 0x011
abbrev Item.SVC.FW_STATE_B : Nat := Item.addr 0x1E 0 0x012
abbrev Item.SVC.FW_VER_A : Nat := Item.addr 0x1E 0 0x013
abbrev Item.SVC.FW_VER_B : Nat := Item.addr 0x1E 0 0x014
abbrev Item.SVC.FW_FLOOR : Nat := Item.addr 0x1E 0 0x015
abbrev Item.SVC.FW_CONFIRM : Nat := Item.addr 0x1E 0 0x016
abbrev Item.SVC.FW_SELECT : Nat := Item.addr 0x1E 0 0x017
abbrev Item.SVC.FW_FALLBACK_CNT : Nat := Item.addr 0x1E 0 0x018
abbrev Item.SVC.LOG_COUNT : Nat := Item.addr 0x1E 0 0x020
abbrev Item.SVC.LOG_SEL : Nat := Item.addr 0x1E 0 0x021
abbrev Item.SVC.LOG_W (k : Nat) : Nat := Item.addr 0x1E 0 (0x022 + k)

end Sys2Proof.Machine
end

