-- ==== Sys2Proof/Machine/Catalogue.lean ====
section
/-! DEFINITION. The catalogue of parameter items: for every row of the spec's parameter tables its change class (R10),
its access, the range its written values must lie in (R136, R527) and its factory default (R68, R528). Items that the
spec counts in Table 5-1 but defines in none of its tables are not in the catalogue (assumption log 6). -/

namespace Sys2Proof.Machine

/-- The change classes of Table 0-6. -/
inductive ChangeClass where
  | L | S | O | B
  deriving DecidableEq, Repr

/-- Who may touch an item: read and write, read only, write only. -/
inductive Access where
  | rw | ro | wo
  deriving DecidableEq, Repr

/-- The ranges of R136, in the raw words of R527. -/
inductive ItemRange where
  /-- Every 32-bit word. -/
  | any
  /-- Unsigned, between two bounds, a whole number of steps from zero. -/
  | u (lo hi step : Nat)
  /-- Signed, between two bounds. -/
  | i (lo hi : Int)
  /-- One of a list of codes. -/
  | codes (l : List Nat)
  /-- One code of its own, or a range. -/
  | uOr (code lo hi : Nat)
  /-- Every bit outside the mask 0. -/
  | mask (m : Nat)
  /-- Four bytes, each between two bounds. -/
  | bytes (lo hi : Nat)
  /-- Two halves, each between two bounds. -/
  | halves (lo hi : Nat)
  /-- binary32 between two bounds. -/
  | f32 (lo hi : Word)
  /-- PWM.LEG_EN: no bit at or above LEG_COUNT. -/
  | legEn
  /-- PWM.TRIG_REF: a code of Table 7-6, a position below LEG_COUNT for codes 2 to 4. -/
  | trigRef
  /-- PWM.TRIG_DST. -/
  | trigDst
  /-- POS.CMP_DST: as TRIG_DST, destinations 0 and 1. -/
  | cmpDst
  /-- ADCF.SEQ: entry count 0 to 8, reserved bits 0. -/
  | seqWord
  /-- ADCF.RANGE_MASK: bit 7, and bit 6 for converters 3 to 15. -/
  | rangeMask
  /-- ADCI.SCAN: at most 8 bits set, bits 31 and 30 0. -/
  | scanMask
  /-- A mask of IIN inputs of an integrating converter. -/
  | iinMask
  /-- ADCI.MAINS_EN: 0 for converter 1. -/
  | mainsEn
  /-- ADCI.ISO_EN: 0 for converter 0. -/
  | isoEn
  /-- POS.CPR: a multiple of 4 from 16, or of 6 from 6 to 192. -/
  | cpr
  /-- POS.SSI_ERRMASK: no bit at or above SSI_STAT. -/
  | ssiErrMask
  /-- A source word of Table 10-3. -/
  | srcWord
  /-- FLT.REST: 0 for types 0, 1, 6 and 7, 1 to 60,000 for the others. -/
  | restRange
  /-- CAN.ARD. -/
  | ardWord
  /-- CAN.MAP_BASE. -/
  | mapBase
  deriving DecidableEq, Repr

/-- How a row gives its factory default. -/
inductive ItemDefault where
  /-- One word. -/
  | c (w : Word)
  /-- One word per sheaf type, in the order TRC, CHGF, CHGD, AUXI, AUXB, ACT (R528: TRC's for an unbound instance). -/
  | byType (l : List Word)
  /-- One word per instance. -/
  | byInst (l : List Word)
  /-- One word per index of the item array. -/
  | byIdx (l : List Word)
  /-- GATE.VON and GATE.VOFF: by sheaf type, the AUXI primary legs apart. -/
  | vonDef | voffDef
  /-- PWM.DT_B, PWM.LEG_EN, PWM.PHASE. -/
  | dtDef | legEnDef | phaseDef
  /-- ADCF.GAIN. -/
  | adcGain
  /-- LOOP.SRC: the factory binding per role. -/
  | srcDef
  /-- LOOP.TS_NOM: the sheaf period at boot. -/
  | tsNom
  /-- ACT.POS. -/
  | detentDef
  /-- HOST.KEY: the service root key. -/
  | rootKey
  /-- SVC.DEV_NUM: serial number bits [17:0]. -/
  | devNum
  /-- Factory trim words. -/
  | legTrim | gateTrim | legTrimCrc
  deriving DecidableEq, Repr

/-- One row of a parameter table: item numbers `lo` to `hi` of a group. -/
structure ItemDef where
  lo : Nat
  hi : Nat
  cls : ChangeClass
  acc : Access
  rng : ItemRange
  dfl : ItemDefault
  deriving DecidableEq, Repr

/-- The applied mapping of a boot (R6, R19): per sheaf its type code, first leg and leg count; per lane and generator
the sheaf it is bound to (15 none). -/
structure Bind where
  types : List Nat
  first : List Nat
  count : List Nat
  loopSheaf : List Nat
  profSheaf : List Nat
  deriving DecidableEq, Repr

/-- Table 0-2 and Table 10-2, the factory mapping. -/
def Bind.factory : Bind where
  types := [1, 2, 3, 3, 4, 5, 6, 6, 0, 0, 0, 0]
  first := [0, 18, 22, 26, 30, 34, 42, 45, 0, 0, 0, 0]
  count := [18, 4, 4, 4, 4, 8, 3, 3, 0, 0, 0, 0]
  loopSheaf := [0, 0, 0, 0, 0, 0, 0, 1, 1, 2, 3, 2, 4, 5, 5, 15, 15, 15, 15, 15, 15, 15, 15, 15, 15, 15, 15, 15, 6, 6, 7, 7]
  profSheaf := [6, 7, 0, 15]

/-- The type code of a sheaf (0 NONE). -/
def Bind.typeOf (b : Bind) (sheaf : Nat) : Nat := b.types.getD sheaf 0

/-- The first leg of a sheaf. -/
def Bind.firstOf (b : Bind) (sheaf : Nat) : Nat := b.first.getD sheaf 0

/-- The number of legs a sheaf binds (0 for TYPE NONE, R159). -/
def Bind.countOf (b : Bind) (sheaf : Nat) : Nat := if b.typeOf sheaf = 0 then 0 else b.count.getD sheaf 0

/-- Whether a sheaf holds a leg. -/
def Bind.holds (b : Bind) (sheaf leg : Nat) : Bool :=
  decide (b.firstOf sheaf ≤ leg) && decide (leg < b.firstOf sheaf + b.countOf sheaf)

/-- The sheaf that holds a leg, if any (R20). -/
def Bind.sheafOfLeg (b : Bind) (leg : Nat) : Option Nat := (List.range 12).find? (fun n => b.holds n leg)

/-- The legs of a sheaf, in ascending order. -/
def Bind.legsOf (b : Bind) (sheaf : Nat) : List Nat := (List.range (b.countOf sheaf)).map (· + b.firstOf sheaf)

/-- The lowest sheaf of a type, if any. -/
def Bind.sheafOfType (b : Bind) (t : Nat) : Option Nat := (List.range 12).find? (fun n => b.typeOf n = t)

/-- The sheaves of a type, ascending. -/
def Bind.sheavesOfType (b : Bind) (t : Nat) : List Nat := (List.range 12).filter (fun n => b.typeOf n = t)

/-- The type code that governs the default of an item (R528: 1, TRC, for what is unbound). -/
def Bind.defaultType (b : Bind) (group inst : Nat) : Nat :=
  let t :=
    if group = 0x08 ∨ group = 0x0B then b.typeOf inst
    else if group = 0x09 ∨ group = 0x0A then ((b.sheafOfLeg inst).map b.typeOf).getD 1
    else if group = 0x10 then b.typeOf (b.loopSheaf.getD inst 15)
    else if group = 0x11 then b.typeOf (b.profSheaf.getD inst 15)
    else 1
  if t = 0 then 1 else t

/-- The position of a leg within its sheaf. -/
def Bind.position (b : Bind) (leg : Nat) : Nat :=
  match b.sheafOfLeg leg with
  | some n => leg - b.firstOf n
  | none => 0

/-- The items of group 0x01, DEV. -/
def Catalogue.gDEV : List ItemDef :=
  [
    ⟨0x001, 0x001, .L, .ro, .u 0 8 1, .c 0⟩,
    ⟨0x002, 0x002, .L, .rw, .codes [2, 3, 4, 5], .c 0⟩,
    ⟨0x003, 0x003, .B, .rw, .u 0 1 1, .c 1⟩,
    ⟨0x004, 0x004, .L, .ro, .any, .c 0⟩,
    ⟨0x005, 0x005, .L, .ro, .u 0 3 1, .c 0⟩,
    ⟨0x006, 0x006, .L, .ro, .mask 0xFFFF, .c 0x0302⟩,
    ⟨0x020, 0x020, .L, .ro, .u 0 70000 1, .c 0⟩,
    ⟨0x021, 0x021, .L, .ro, .u 0 70000 1, .c 0⟩,
    ⟨0x022, 0x022, .L, .ro, .u 0 40000 1, .c 0⟩,
    ⟨0x023, 0x023, .L, .rw, .u 10000 30000 100, .c 0x7530⟩,
    ⟨0x030, 0x030, .L, .ro, .any, .c 0⟩,
    ⟨0x031, 0x031, .L, .ro, .any, .c 0⟩,
    ⟨0x032, 0x032, .L, .ro, .any, .c 0⟩,
    ⟨0x033, 0x033, .L, .ro, .any, .c 0⟩,
    ⟨0x034, 0x034, .L, .ro, .any, .c 0⟩,
    ⟨0x040, 0x040, .L, .rw, .codes [0, 1], .c 0⟩,
    ⟨0x041, 0x041, .L, .rw, .codes [0, 1, 2], .c 0⟩,
    ⟨0x042, 0x042, .L, .rw, .mask 0xFF, .c 0⟩,
    ⟨0x050, 0x050, .L, .ro, .any, .c 0⟩]

/-- The items of group 0x02, HOST. -/
def Catalogue.gHOST : List ItemDef :=
  [
    ⟨0x001, 0x001, .B, .rw, .codes [0, 1, 2, 3, 4], .byInst [0, 0, 1, 1, 2, 3, 3, 4]⟩,
    ⟨0x002, 0x002, .B, .rw, .mask 0x1FFF, .byInst [2559, 2559, 49, 49, 129, 7939, 7939, 49]⟩,
    ⟨0x003, 0x003, .B, .rw, .mask 0xFF, .byInst [3, 3, 8, 16, 32, 4, 7, 128]⟩,
    ⟨0x004, 0x004, .B, .rw, .any, .c 0⟩,
    ⟨0x005, 0x005, .B, .rw, .u 8 256 1, .c 32⟩,
    ⟨0x006, 0x006, .L, .rw, .u 100 10000 1, .c 1000⟩,
    ⟨0x007, 0x007, .L, .rw, .u 0 10000 1, .c 100⟩,
    ⟨0x008, 0x008, .L, .rw, .mask 7, .c 0x7⟩,
    ⟨0x009, 0x009, .L, .ro, .u 0 2 1, .c 0⟩,
    ⟨0x00A, 0x00A, .L, .ro, .codes [0, 1, 2, 4, 8, 16, 32, 64, 128], .c 0⟩,
    ⟨0x00B, 0x00B, .L, .ro, .mask 0xFFF, .c 0⟩,
    ⟨0x00C, 0x00C, .L, .ro, .any, .c 0⟩,
    ⟨0x00D, 0x00D, .L, .ro, .any, .c 0⟩,
    ⟨0x00E, 0x00E, .L, .ro, .any, .c 0⟩,
    ⟨0x00F, 0x00F, .L, .ro, .any, .c 0⟩,
    ⟨0x010, 0x010, .L, .wo, .any, .rootKey⟩,
    ⟨0x011, 0x013, .L, .wo, .any, .rootKey⟩]

/-- The items of group 0x03, IMG. -/
def Catalogue.gIMG : List ItemDef :=
  [
    ⟨0x001, 0x001, .L, .ro, .u 0 2 1, .c 0⟩,
    ⟨0x002, 0x002, .L, .ro, .any, .c 0⟩,
    ⟨0x003, 0x003, .L, .ro, .any, .c 0⟩,
    ⟨0x004, 0x004, .L, .ro, .mask 0xFF, .c 0⟩,
    ⟨0x005, 0x005, .L, .ro, .mask 0xFF, .c 0⟩,
    ⟨0x006, 0x006, .L, .ro, .any, .c 0⟩,
    ⟨0x007, 0x007, .L, .ro, .any, .c 0⟩]

/-- The items of group 0x04, TIME. -/
def Catalogue.gTIME : List ItemDef :=
  [
    ⟨0x001, 0x001, .B, .rw, .codes [0, 1, 2], .c 1⟩,
    ⟨0x002, 0x002, .B, .rw, .u 0 127 1, .c 0⟩,
    ⟨0x003, 0x003, .L, .ro, .u 0 3 1, .c 0⟩,
    ⟨0x004, 0x004, .L, .rw, .u 20 10000 1, .c 100⟩,
    ⟨0x005, 0x005, .L, .rw, .u 2 16 1, .c 3⟩,
    ⟨0x006, 0x006, .L, .ro, .i (-200000) 200000, .c 0⟩]

/-- The items of group 0x08, SHEAF. -/
def Catalogue.gSHEAF : List ItemDef :=
  [
    ⟨0x001, 0x001, .L, .ro, .u 0 5 1, .c 0⟩,
    ⟨0x002, 0x002, .B, .rw, .codes [0, 1, 2, 3, 4, 5, 6], .byInst [1, 2, 3, 3, 4, 5, 6, 6, 0, 0, 0, 0]⟩,
    ⟨0x003, 0x003, .B, .rw, .u 0 47 1, .byInst [0, 18, 22, 26, 30, 34, 42, 45, 0, 0, 0, 0]⟩,
    ⟨0x004, 0x004, .B, .rw, .u 0 18 1, .byInst [18, 4, 4, 4, 4, 8, 3, 3, 0, 0, 0, 0]⟩,
    ⟨0x005, 0x005, .B, .rw, .u 0 1 1, .c 1⟩,
    ⟨0x006, 0x006, .O, .rw, .u 10 200 1, .byType [60, 60, 60, 60, 20, 20]⟩,
    ⟨0x007, 0x007, .L, .ro, .any, .c 0⟩,
    ⟨0x008, 0x008, .L, .ro, .u 0 100000 1, .c 0⟩,
    ⟨0x009, 0x009, .L, .ro, .u 0 1 1, .c 0⟩,
    ⟨0x00A, 0x00A, .L, .ro, .any, .c 0⟩,
    ⟨0x00B, 0x00B, .L, .ro, .any, .c 0⟩]

/-- The items of group 0x09, LEG. -/
def Catalogue.gLEG : List ItemDef :=
  [
    ⟨0x001, 0x001, .L, .ro, .u 0 6 1, .c 0⟩,
    ⟨0x002, 0x002, .L, .ro, .uOr 15 0 11, .c 15⟩,
    ⟨0x003, 0x003, .L, .ro, .mask 0xFFFF, .c 0⟩,
    ⟨0x004, 0x004, .L, .ro, .mask 0xFF3F, .c 0⟩,
    ⟨0x005, 0x005, .L, .ro, .mask 0x8303, .c 0⟩,
    ⟨0x006, 0x006, .S, .rw, .u 0 3 1, .c 3⟩,
    ⟨0x007, 0x007, .S, .rw, .u 12 40 1, .c 24⟩,
    ⟨0x008, 0x008, .S, .rw, .bytes 3 60, .byType [0x12100E14, 0x12100E14, 0x07060608, 0x07060608, 0x05040405, 0x12100E14]⟩,
    ⟨0x009, 0x009, .S, .rw, .u 100 2000 10, .c 1800⟩,
    ⟨0x00A, 0x00A, .S, .rw, .u 100 2000 10, .c 1800⟩,
    ⟨0x00B, 0x00B, .O, .rw, .u 20 500 5, .byType [50, 50, 20, 20, 20, 50]⟩,
    ⟨0x00C, 0x00C, .L, .rw, .u 0 0 1, .c 0⟩,
    ⟨0x00D, 0x00D, .L, .ro, .any, .c 0⟩,
    ⟨0x00E, 0x00E, .L, .ro, .u 0 3 1, .c 0⟩,
    ⟨0x00F, 0x00F, .L, .ro, .any, .c 0⟩,
    ⟨0x010, 0x010, .L, .ro, .any, .c 0⟩,
    ⟨0x011, 0x011, .L, .ro, .any, .c 0⟩,
    ⟨0x012, 0x012, .L, .ro, .any, .c 0⟩,
    ⟨0x013, 0x013, .L, .rw, .u 1 255 1, .c 16⟩,
    ⟨0x014, 0x014, .L, .ro, .u 2250 2750 1, .c 2500⟩]
  ++ [
    ⟨0x015, 0x015, .L, .ro, .mask 0xFF, .c 0⟩,
    ⟨0x016, 0x016, .L, .ro, .i (-550) 1750, .c 0⟩,
    ⟨0x017, 0x017, .L, .ro, .u 0 1100 1, .c 0⟩,
    ⟨0x018, 0x018, .L, .rw, .u 1 1000 1, .c 10⟩,
    ⟨0x019, 0x019, .L, .ro, .mask 0x7F, .c 0⟩,
    ⟨0x01A, 0x01A, .L, .ro, .any, .c 0⟩,
    ⟨0x01B, 0x01B, .L, .ro, .any, .c 0⟩,
    ⟨0x01C, 0x01C, .L, .ro, .any, .c 0⟩,
    ⟨0x01D, 0x01D, .L, .ro, .mask 0x3FFF, .c 0⟩,
    ⟨0x01E, 0x01E, .L, .ro, .any, .c 0⟩,
    ⟨0x01F, 0x01F, .L, .ro, .u 0 4 1, .c 0⟩,
    ⟨0x020, 0x03F, .L, .ro, .any, .c 0⟩,
    ⟨0x040, 0x05F, .L, .ro, .any, .legTrim⟩,
    ⟨0x060, 0x060, .L, .ro, .any, .legTrimCrc⟩,
    ⟨0x061, 0x061, .L, .ro, .any, .c 0⟩]

/-- The items of group 0x0A, GATE. -/
def Catalogue.gGATE : List ItemDef :=
  [
    ⟨0x001, 0x001, .O, .rw, .u 30 40 1, .vonDef⟩,
    ⟨0x002, 0x002, .O, .rw, .i (-10) (-4), .voffDef⟩,
    ⟨0x003, 0x003, .S, .rw, .u 2 24 1, .c 16⟩,
    ⟨0x004, 0x004, .S, .rw, .u 2 24 1, .c 16⟩,
    ⟨0x005, 0x005, .S, .rw, .u 2 24 1, .c 16⟩,
    ⟨0x006, 0x006, .S, .rw, .u 4 24 1, .c 12⟩,
    ⟨0x007, 0x007, .S, .rw, .i (-20) (32), .c 8⟩,
    ⟨0x008, 0x008, .S, .rw, .u 50 2000 10, .c 1000⟩,
    ⟨0x009, 0x009, .S, .rw, .u 0 15 1, .c 9⟩,
    ⟨0x00A, 0x00A, .S, .rw, .u 0 15 1, .c 3⟩,
    ⟨0x00B, 0x00B, .S, .rw, .u 0 2000 10, .c 200⟩,
    ⟨0x00C, 0x00C, .S, .rw, .u 0 2000 10, .c 600⟩,
    ⟨0x00D, 0x00D, .S, .rw, .u 0 2000 10, .c 1200⟩,
    ⟨0x00E, 0x00E, .S, .rw, .codes [0, 1], .c 1⟩,
    ⟨0x00F, 0x00F, .O, .rw, .u 4 16 1, .c 8⟩,
    ⟨0x010, 0x013, .S, .rw, .halves 0 1000, .c 0⟩,
    ⟨0x014, 0x017, .S, .rw, .bytes 4 64, .c 0x10101010⟩,
    ⟨0x018, 0x01B, .S, .rw, .bytes 4 64, .c 0x10101010⟩,
    ⟨0x01C, 0x01C, .L, .ro, .u 0 2000 1, .c 0⟩,
    ⟨0x01D, 0x01D, .L, .ro, .u 0 2000 1, .c 0⟩]
  ++ [
    ⟨0x01E, 0x01E, .L, .ro, .u 0 4000 1, .c 0⟩,
    ⟨0x01F, 0x01F, .L, .ro, .u 0 4000 1, .c 0⟩,
    ⟨0x020, 0x020, .L, .ro, .any, .c 0⟩,
    ⟨0x021, 0x021, .L, .ro, .any, .c 0⟩,
    ⟨0x022, 0x022, .L, .ro, .any, .c 0⟩,
    ⟨0x023, 0x023, .L, .ro, .any, .c 0⟩,
    ⟨0x024, 0x024, .L, .ro, .u 0 2000 1, .c 0⟩,
    ⟨0x025, 0x025, .L, .ro, .u 0 2000 1, .c 0⟩,
    ⟨0x026, 0x026, .L, .ro, .any, .c 0⟩,
    ⟨0x027, 0x027, .L, .ro, .any, .c 0⟩,
    ⟨0x028, 0x028, .L, .ro, .u 0 3 1, .c 0⟩,
    ⟨0x030, 0x03F, .L, .ro, .any, .c 0⟩,
    ⟨0x040, 0x07F, .L, .ro, .any, .gateTrim⟩]

/-- The items of group 0x0B, PWM. -/
def Catalogue.gPWM : List ItemDef :=
  [
    ⟨0x001, 0x001, .O, .rw, .u 0 2 1, .byType [0, 0, 1, 1, 1, 0]⟩,
    ⟨0x002, 0x002, .S, .rw, .u 10667 3200000 1, .byType [640000, 160000, 64000, 64000, 32000, 640000]⟩,
    ⟨0x003, 0x003, .O, .rw, .codes [0, 1, 2], .byType [0, 0, 0, 0, 2, 0]⟩,
    ⟨0x004, 0x004, .O, .rw, .codes [0, 1], .c 0⟩,
    ⟨0x005, 0x005, .S, .rw, .codes [0, 1], .byType [0, 0, 0, 0, 1, 0]⟩,
    ⟨0x006, 0x006, .S, .rw, .codes [0, 1, 2], .byType [0, 2, 2, 2, 2, 0]⟩,
    ⟨0x007, 0x00A, .S, .rw, .halves 256 64000, .dtDef⟩,
    ⟨0x00B, 0x00B, .S, .rw, .any, .byType [0x50505050, 0x50505050, 0x14141414, 0x14141414, 0x08080808, 0x50505050]⟩,
    ⟨0x00C, 0x00C, .O, .rw, .uOr 15 0 11, .byInst [15, 15, 15, 2, 15, 15, 15, 15, 15, 15, 15, 15]⟩,
    ⟨0x00D, 0x00D, .S, .rw, .u 0 65535 1, .byInst [0, 0, 0, 0x4000, 0, 0, 0, 0, 0, 0, 0, 0]⟩,
    ⟨0x00E, 0x00E, .L, .ro, .any, .c 0⟩,
    ⟨0x00F, 0x00F, .L, .rw, .legEn, .legEnDef⟩,
    ⟨0x010, 0x010, .L, .ro, .any, .c 0⟩,
    ⟨0x011, 0x011, .L, .ro, .any, .c 0⟩,
    ⟨0x012, 0x012, .L, .ro, .any, .c 0⟩,
    ⟨0x013, 0x013, .L, .ro, .any, .c 0⟩,
    ⟨0x014, 0x014, .L, .ro, .any, .c 0⟩,
    ⟨0x015, 0x015, .L, .ro, .any, .c 0⟩,
    ⟨0x016, 0x016, .L, .ro, .any, .c 0⟩,
    ⟨0x020, 0x031, .S, .rw, .u 0 65535 1, .phaseDef⟩]
  ++ [
    ⟨0x040, 0x047, .S, .rw, .trigRef, .c 0⟩,
    ⟨0x048, 0x04F, .L, .rw, .i (-32768) (32767), .c 0⟩,
    ⟨0x050, 0x057, .S, .rw, .trigDst, .c 0⟩,
    ⟨0x058, 0x05F, .S, .rw, .u 1 256 1, .c 1⟩,
    ⟨0x060, 0x071, .L, .rw, .mask 0x07FFFFFF, .c 0xFFFFFFFF⟩,
    ⟨0x080, 0x091, .L, .ro, .any, .c 0⟩,
    ⟨0x0A0, 0x0B1, .L, .ro, .any, .c 0xFFFFFFFF⟩]

/-- The items of group 0x0C, ADCF. -/
def Catalogue.gADCF : List ItemDef :=
  [
    ⟨0x001, 0x008, .B, .rw, .seqWord, .byIdx [0x1000000, 0x1000001, 0x1000002, 0x1000006, 0x1000007, 0, 0, 0]⟩,
    ⟨0x009, 0x009, .L, .rw, .mask 0xFF, .c 0xF8⟩,
    ⟨0x00A, 0x00A, .L, .rw, .u 1 1000 1, .c 100⟩,
    ⟨0x00B, 0x00B, .L, .rw, .u 1 100 1, .c 10⟩,
    ⟨0x00C, 0x00C, .B, .rw, .rangeMask, .c 0⟩,
    ⟨0x00D, 0x00D, .L, .rw, .mask 0xFF, .c 0⟩,
    ⟨0x00E, 0x00E, .L, .rw, .u 10 10000 1, .c 100⟩,
    ⟨0x00F, 0x00F, .L, .rw, .u 50 2000 10, .c 500⟩,
    ⟨0x010, 0x010, .L, .wo, .u 0 7 1, .c 0⟩,
    ⟨0x011, 0x011, .L, .ro, .any, .c 0⟩,
    ⟨0x012, 0x012, .L, .ro, .any, .c 0⟩,
    ⟨0x013, 0x013, .L, .ro, .any, .c 0⟩,
    ⟨0x014, 0x014, .L, .rw, .u 10 1000 1, .c 100⟩,
    ⟨0x015, 0x015, .L, .ro, .any, .c 0⟩,
    ⟨0x016, 0x016, .L, .ro, .any, .c 0⟩,
    ⟨0x017, 0x017, .L, .rw, .mask 7, .c 0x7⟩,
    ⟨0x018, 0x018, .L, .ro, .mask 0xFF, .c 0⟩,
    ⟨0x019, 0x019, .L, .ro, .any, .c 0⟩,
    ⟨0x01A, 0x01A, .L, .ro, .any, .c 0⟩,
    ⟨0x020, 0x027, .S, .rw, .i (-5000000) (5000000), .c 0⟩]
  ++ [
    ⟨0x028, 0x02F, .S, .rw, .any, .adcGain⟩,
    ⟨0x030, 0x037, .L, .ro, .any, .c 0⟩,
    ⟨0x038, 0x03F, .L, .ro, .any, .c 0⟩,
    ⟨0x040, 0x047, .L, .ro, .mask 0xFFFF, .c 0⟩,
    ⟨0x048, 0x04F, .L, .ro, .any, .c 0⟩,
    ⟨0x050, 0x057, .L, .ro, .any, .c 0⟩,
    ⟨0x058, 0x05F, .L, .rw, .any, .c 0x7FFFFFFF⟩,
    ⟨0x060, 0x067, .L, .rw, .any, .c 0x80000000⟩,
    ⟨0x068, 0x06F, .L, .ro, .any, .c 0⟩]

/-- The items of group 0x0D, ADCI. -/
def Catalogue.gADCI : List ItemDef :=
  [
    ⟨0x001, 0x001, .L, .rw, .codes [0, 1], .c 0⟩,
    ⟨0x002, 0x002, .L, .rw, .u 50 10000 1, .c 1000⟩,
    ⟨0x003, 0x003, .L, .rw, .u 1 4 1, .c 1⟩,
    ⟨0x004, 0x007, .L, .rw, .scanMask, .byIdx [255, 0, 0, 0]⟩,
    ⟨0x008, 0x008, .L, .rw, .u 0 1 1, .c 1⟩,
    ⟨0x009, 0x009, .B, .rw, .iinMask, .c 0⟩,
    ⟨0x00A, 0x00A, .L, .rw, .iinMask, .c 0⟩,
    ⟨0x00B, 0x00B, .L, .rw, .u 100 10000 1, .c 1000⟩,
    ⟨0x00C, 0x00C, .L, .rw, .u 50 2000 10, .c 500⟩,
    ⟨0x00D, 0x00D, .L, .ro, .any, .c 0⟩,
    ⟨0x00E, 0x00E, .L, .wo, .u 0 29 1, .c 0⟩,
    ⟨0x00F, 0x00F, .L, .ro, .any, .c 0⟩,
    ⟨0x010, 0x010, .L, .ro, .any, .c 0⟩,
    ⟨0x011, 0x011, .L, .ro, .any, .c 0⟩,
    ⟨0x012, 0x012, .L, .ro, .any, .c 0⟩,
    ⟨0x018, 0x018, .B, .rw, .mainsEn, .byInst [1, 0]⟩,
    ⟨0x019, 0x019, .L, .rw, .codes [0, 1, 2], .c 0⟩,
    ⟨0x01A, 0x01A, .L, .rw, .u 500 2000 1, .c 850⟩,
    ⟨0x01B, 0x01B, .S, .rw, .any, .c 0x00023333⟩,
    ⟨0x01C, 0x01C, .S, .rw, .any, .c 0x00004000⟩]
  ++ [
    ⟨0x01D, 0x01D, .L, .ro, .u 0 2 1, .c 0⟩,
    ⟨0x01E, 0x01E, .L, .ro, .uOr 0 45000 65000, .c 0⟩,
    ⟨0x01F, 0x021, .L, .ro, .any, .c 0⟩,
    ⟨0x022, 0x024, .L, .ro, .any, .c 0⟩,
    ⟨0x025, 0x027, .L, .ro, .any, .c 0⟩,
    ⟨0x028, 0x029, .L, .ro, .any, .c 0⟩,
    ⟨0x02A, 0x02B, .L, .ro, .any, .c 0⟩,
    ⟨0x030, 0x030, .L, .rw, .isoEn, .c 0⟩,
    ⟨0x031, 0x031, .B, .rw, .u 100 2000 1, .c 400⟩,
    ⟨0x032, 0x032, .B, .rw, .u 500 20000 1, .c 2000⟩,
    ⟨0x033, 0x033, .B, .rw, .u 100 1000 1, .c 400⟩,
    ⟨0x034, 0x034, .L, .rw, .u 100 5000 1, .c 500⟩,
    ⟨0x035, 0x035, .L, .rw, .u 1 50 1, .c 5⟩,
    ⟨0x036, 0x036, .L, .rw, .u 50 500 1, .c 100⟩,
    ⟨0x037, 0x037, .L, .rw, .u 100 2000 1, .c 500⟩,
    ⟨0x038, 0x038, .L, .rw, .u 50 1000 1, .c 100⟩,
    ⟨0x039, 0x039, .L, .ro, .uOr 0xFFFFFFFF 0 100000, .c 0xFFFFFFFF⟩,
    ⟨0x03A, 0x03A, .L, .ro, .uOr 0xFFFFFFFF 0 100000, .c 0xFFFFFFFF⟩,
    ⟨0x03B, 0x03B, .L, .ro, .mask 0x3F, .c 0⟩,
    ⟨0x040, 0x05F, .L, .ro, .any, .c 0⟩]
  ++ [
    ⟨0x060, 0x07F, .L, .ro, .any, .c 0⟩]

/-- The items of group 0x0E, POS. -/
def Catalogue.gPOS : List ItemDef :=
  [
    ⟨0x001, 0x001, .B, .rw, .codes [0, 1, 2, 3, 4, 5], .byInst [1, 5, 4, 0]⟩,
    ⟨0x002, 0x002, .B, .rw, .uOr 15 0 11, .byInst [0, 6, 7, 15]⟩,
    ⟨0x003, 0x003, .B, .rw, .codes [0, 1, 2], .byInst [0, 1, 1, 0]⟩,
    ⟨0x004, 0x004, .B, .rw, .u 1 16 1, .byInst [4, 1, 1, 1]⟩,
    ⟨0x005, 0x005, .B, .rw, .cpr, .byInst [4096, 4096, 24, 4096]⟩,
    ⟨0x006, 0x006, .B, .rw, .u 1 32 1, .c 4⟩,
    ⟨0x007, 0x007, .L, .rw, .u 0 65535 1, .c 0⟩,
    ⟨0x008, 0x008, .B, .rw, .codes [0, 1], .c 0⟩,
    ⟨0x009, 0x009, .B, .rw, .u 4000 20000 100, .c 0x2710⟩,
    ⟨0x00A, 0x00A, .B, .rw, .u 20 70 1, .c 40⟩,
    ⟨0x00B, 0x00B, .L, .ro, .i (-1800) 1800, .c 0⟩,
    ⟨0x00C, 0x00C, .L, .rw, .u 0 200 1, .c 10⟩,
    ⟨0x00D, 0x00D, .L, .rw, .u 0 200 1, .c 180⟩,
    ⟨0x00E, 0x00E, .B, .rw, .u 200 4000 1, .c 2000⟩,
    ⟨0x00F, 0x00F, .L, .rw, .u 10 100 1, .c 50⟩,
    ⟨0x010, 0x010, .L, .rw, .u 100 200 1, .c 130⟩,
    ⟨0x011, 0x011, .B, .rw, .u 0 5000 1, .c 2500⟩,
    ⟨0x012, 0x012, .L, .rw, .u 100 2000 10, .c 500⟩,
    ⟨0x013, 0x013, .L, .rw, .u 200 5000 1, .c 1500⟩,
    ⟨0x014, 0x014, .L, .rw, .u 8 40 1, .byInst [25, 25, 15, 25]⟩]
  ++ [
    ⟨0x015, 0x015, .L, .rw, .u 200 10000 100, .c 1000⟩,
    ⟨0x016, 0x016, .L, .rw, .u 1 255 1, .c 8⟩,
    ⟨0x017, 0x017, .L, .rw, .u 0 800 1, .byInst [20, 20, 400, 20]⟩,
    ⟨0x018, 0x018, .B, .rw, .u 0 1 1, .c 1⟩,
    ⟨0x019, 0x019, .B, .rw, .u 0 1 1, .c 0⟩,
    ⟨0x01A, 0x01A, .L, .rw, .u 0 16 1, .c 2⟩,
    ⟨0x01B, 0x01B, .L, .ro, .any, .c 0⟩,
    ⟨0x01C, 0x01C, .L, .rw, .u 0 1 1, .c 1⟩,
    ⟨0x01D, 0x01D, .B, .rw, .u 8 32 1, .c 25⟩,
    ⟨0x01E, 0x01E, .B, .rw, .u 0 8 1, .c 2⟩,
    ⟨0x01F, 0x01F, .L, .rw, .ssiErrMask, .c 0x03⟩,
    ⟨0x020, 0x020, .B, .rw, .u 100 4000 100, .c 1000⟩,
    ⟨0x021, 0x021, .B, .rw, .codes [0, 1], .c 1⟩,
    ⟨0x022, 0x022, .L, .rw, .u 10 1000 1, .c 50⟩,
    ⟨0x023, 0x023, .B, .rw, .u 1 64 1, .c 20⟩,
    ⟨0x024, 0x024, .L, .rw, .u 0 2000 5, .c 0⟩,
    ⟨0x025, 0x025, .L, .rw, .u 1 1048576 1, .c 64⟩,
    ⟨0x026, 0x026, .L, .rw, .u 10 1000 1, .c 50⟩,
    ⟨0x027, 0x027, .L, .rw, .u 100 1000000 1, .c 2000⟩,
    ⟨0x028, 0x028, .L, .rw, .u 1 10000 1, .c 100⟩]
  ++ [
    ⟨0x029, 0x029, .L, .rw, .u 100 40000 1, .c 0x4e20⟩,
    ⟨0x02A, 0x02A, .L, .rw, .u 1000 1000000 1, .c 0x186a0⟩,
    ⟨0x02B, 0x02B, .L, .rw, .u 1 1000 1, .c 100⟩,
    ⟨0x02C, 0x02C, .L, .rw, .u 0 150 1, .c 2⟩,
    ⟨0x02D, 0x02D, .L, .rw, .u 1 150 1, .c 140⟩,
    ⟨0x030, 0x030, .L, .rw, .any, .c 0⟩,
    ⟨0x031, 0x031, .L, .rw, .u 0 0x1000000 1, .c 0⟩,
    ⟨0x032, 0x032, .L, .rw, .u 0 0x800000 1, .c 0⟩,
    ⟨0x033, 0x033, .L, .rw, .codes [0, 1, 2, 3], .c 0⟩,
    ⟨0x034, 0x034, .L, .rw, .cmpDst, .c 0⟩,
    ⟨0x035, 0x035, .L, .ro, .any, .c 0⟩,
    ⟨0x036, 0x036, .L, .ro, .any, .c 0⟩,
    ⟨0x037, 0x037, .L, .ro, .any, .c 0⟩,
    ⟨0x038, 0x038, .L, .rw, .any, .c 0⟩,
    ⟨0x039, 0x039, .L, .rw, .u 0 0x1000000 1, .c 0⟩,
    ⟨0x03A, 0x03A, .L, .rw, .u 0 0x800000 1, .c 0⟩,
    ⟨0x03B, 0x03B, .L, .rw, .codes [0, 1, 2, 3], .c 0⟩,
    ⟨0x03C, 0x03C, .L, .rw, .cmpDst, .c 0⟩,
    ⟨0x03D, 0x03D, .L, .ro, .any, .c 0⟩,
    ⟨0x03E, 0x03E, .L, .ro, .any, .c 0⟩]
  ++ [
    ⟨0x03F, 0x03F, .L, .ro, .any, .c 0⟩,
    ⟨0x040, 0x040, .L, .ro, .mask 0xFFF0, .c 0⟩,
    ⟨0x041, 0x041, .L, .ro, .mask 0xFFFFFF, .c 0⟩,
    ⟨0x042, 0x042, .L, .ro, .mask 0xFFFF, .c 0⟩,
    ⟨0x043, 0x043, .L, .ro, .any, .c 0⟩,
    ⟨0x044, 0x044, .L, .ro, .any, .c 0⟩,
    ⟨0x045, 0x045, .L, .ro, .any, .c 0⟩,
    ⟨0x046, 0x046, .L, .ro, .any, .c 0⟩,
    ⟨0x047, 0x047, .L, .ro, .any, .c 0⟩,
    ⟨0x048, 0x048, .L, .ro, .any, .c 0⟩,
    ⟨0x049, 0x049, .L, .ro, .any, .c 0⟩,
    ⟨0x04A, 0x04A, .L, .ro, .any, .c 0⟩,
    ⟨0x04B, 0x04B, .L, .ro, .any, .c 0⟩,
    ⟨0x04C, 0x04C, .L, .ro, .any, .c 0⟩,
    ⟨0x04D, 0x04D, .L, .ro, .any, .c 0⟩,
    ⟨0x04E, 0x04E, .L, .ro, .any, .c 0⟩,
    ⟨0x04F, 0x04F, .L, .ro, .any, .c 0⟩,
    ⟨0x050, 0x050, .L, .ro, .mask 0x3F, .c 0⟩,
    ⟨0x051, 0x051, .L, .ro, .any, .c 0⟩,
    ⟨0x052, 0x052, .L, .ro, .any, .c 0⟩]

/-- The items of group 0x10, LOOP. -/
def Catalogue.gLOOP : List ItemDef :=
  [
    ⟨0x001, 0x001, .B, .rw, .codes [0, 1, 2, 3, 4, 5, 6, 7, 8], .byInst [1, 1, 1, 1, 1, 1, 7, 4, 3, 5, 5, 7, 3, 3, 8, 0, 0, 0, 0, 0, 0, 0, 0, 0, 0, 0, 0, 0, 1, 6, 1, 6]⟩,
    ⟨0x002, 0x002, .B, .rw, .uOr 15 0 11, .byInst [0, 0, 0, 0, 0, 0, 0, 1, 1, 2, 3, 2, 4, 5, 5, 15, 15, 15, 15, 15, 15, 15, 15, 15, 15, 15, 15, 15, 6, 6, 7, 7]⟩,
    ⟨0x003, 0x003, .B, .rw, .uOr 15 0 5, .byInst [0, 1, 2, 3, 4, 5, 15, 0, 15, 0, 0, 15, 0, 0, 15, 15, 15, 15, 15, 15, 15, 15, 15, 15, 15, 15, 15, 15, 0, 15, 0, 15]⟩,
    ⟨0x004, 0x004, .L, .ro, .u 0 4 1, .c 0⟩,
    ⟨0x005, 0x005, .L, .rw, .codes [0, 1], .byInst [1, 1, 1, 1, 1, 1, 1, 1, 1, 1, 1, 1, 1, 1, 1, 0, 0, 0, 0, 0, 0, 0, 0, 0, 0, 0, 0, 0, 1, 1, 1, 1]⟩,
    ⟨0x006, 0x006, .S, .rw, .codes [0, 1], .c 0⟩,
    ⟨0x007, 0x007, .L, .rw, .f32 0 0x7F7FFFFF, .c 0x3F000000⟩,
    ⟨0x008, 0x00F, .B, .rw, .srcWord, .srcDef⟩,
    ⟨0x010, 0x017, .O, .rw, .any, .c 0x3F800000⟩,
    ⟨0x018, 0x018, .B, .rw, .u 800 10000000 1, .tsNom⟩,
    ⟨0x019, 0x019, .L, .rw, .u 100 100000 1, .c 1000⟩,
    ⟨0x01A, 0x01A, .L, .rw, .u 0 800 1, .c 100⟩,
    ⟨0x01B, 0x01B, .L, .rw, .u 1 100000 1, .c 1000⟩,
    ⟨0x01C, 0x01C, .L, .rw, .u 1 255 1, .c 4⟩,
    ⟨0x020, 0x021, .O, .rw, .any, .c 0x00000000⟩,
    ⟨0x022, 0x023, .O, .rw, .any, .c 0x00000000⟩,
    ⟨0x024, 0x024, .O, .rw, .f32 0 0x7F7FFFFF, .c 0x00000000⟩,
    ⟨0x025, 0x025, .O, .rw, .any, .c 0x00000000⟩,
    ⟨0x026, 0x026, .O, .rw, .f32 0 0x7F7FFFFF, .c 0x00000000⟩,
    ⟨0x027, 0x028, .O, .rw, .any, .c 0x00000000⟩,
    ⟨0x029, 0x02B, .O, .rw, .any, .c 0x00000000⟩]
  ++ [
    ⟨0x02C, 0x02C, .O, .rw, .u 0 1000000 1, .c 0⟩,
    ⟨0x02D, 0x02D, .O, .rw, .u 1 200 1, .c 30⟩,
    ⟨0x030, 0x030, .O, .rw, .any, .c 0x3F800000⟩,
    ⟨0x031, 0x031, .O, .rw, .any, .c 0xBF800000⟩,
    ⟨0x032, 0x032, .O, .rw, .u 0 2 1, .byInst [0, 0, 0, 0, 0, 0, 0, 0, 0, 0, 0, 0, 1, 1, 0, 0, 0, 0, 0, 0, 0, 0, 0, 0, 0, 0, 0, 0, 0, 0, 0, 0]⟩,
    ⟨0x033, 0x033, .S, .rw, .u 256 3200000 1, .c 0x3200⟩,
    ⟨0x034, 0x035, .L, .rw, .any, .c 0x00000000⟩,
    ⟨0x036, 0x036, .L, .rw, .any, .c 0x00000000⟩,
    ⟨0x037, 0x037, .B, .rw, .any, .byInst [0, 0, 0, 0, 0, 0, 63, 0, 0, 0, 0, 1536, 0, 0, 0, 0, 0, 0, 0, 0, 0, 0, 0, 0, 0, 0, 0, 0, 0, 0, 0, 0]⟩,
    ⟨0x038, 0x03F, .S, .rw, .f32 0x00000000 0x3F800000, .c 0x3F800000⟩,
    ⟨0x040, 0x040, .S, .rw, .f32 0 0x7F7FFFFF, .c 0x00000000⟩,
    ⟨0x041, 0x041, .B, .rw, .uOr 255 0 31, .byInst [255, 255, 255, 255, 255, 255, 255, 255, 255, 255, 255, 255, 255, 14, 255, 255, 255, 255, 255, 255, 255, 255, 255, 255, 255, 255, 255, 255, 255, 255, 255, 255]⟩,
    ⟨0x042, 0x043, .O, .rw, .any, .c 0x00000000⟩,
    ⟨0x044, 0x044, .L, .rw, .any, .c 0⟩,
    ⟨0x045, 0x045, .L, .rw, .u 1 65535 1, .c 1000⟩,
    ⟨0x050, 0x057, .L, .ro, .any, .c 0⟩,
    ⟨0x058, 0x05B, .L, .ro, .any, .c 0⟩,
    ⟨0x05C, 0x05F, .L, .ro, .any, .c 0⟩,
    ⟨0x060, 0x060, .L, .ro, .any, .c 0⟩,
    ⟨0x061, 0x061, .L, .ro, .any, .c 0⟩]
  ++ [
    ⟨0x062, 0x062, .L, .ro, .mask 0xF, .c 0⟩,
    ⟨0x063, 0x063, .L, .ro, .any, .c 0⟩,
    ⟨0x064, 0x064, .L, .ro, .any, .c 0⟩]

/-- The items of group 0x11, PROF. -/
def Catalogue.gPROF : List ItemDef :=
  [
    ⟨0x001, 0x001, .B, .rw, .uOr 15 0 11, .byInst [6, 7, 0, 15]⟩,
    ⟨0x002, 0x002, .L, .rw, .codes [0, 1, 2], .c 0⟩,
    ⟨0x003, 0x003, .L, .rw, .any, .c 0x00000000⟩,
    ⟨0x004, 0x004, .L, .rw, .any, .c 0x00000000⟩,
    ⟨0x005, 0x008, .L, .rw, .f32 1 0x7F7FFFFF, .byIdx [0x3F800000, 0x41200000, 0x41200000, 0x42C80000]⟩,
    ⟨0x009, 0x009, .B, .rw, .u 10 10000 1, .c 100⟩,
    ⟨0x00A, 0x00B, .L, .rw, .f32 0 0x7F7FFFFF, .byIdx [0x3A83126F, 0x3C23D70A]⟩,
    ⟨0x00C, 0x00C, .L, .rw, .codes [0, 1], .c 0⟩,
    ⟨0x00D, 0x00D, .B, .rw, .srcWord, .byInst [0x20001008, 0x20001010, 0x20001000, 0]⟩,
    ⟨0x00E, 0x010, .L, .ro, .any, .c 0x00000000⟩,
    ⟨0x011, 0x011, .L, .ro, .mask 0xF, .c 0⟩]

/-- The items of group 0x12, TRC. -/
def Catalogue.gTRC : List ItemDef :=
  [
    ⟨0x001, 0x001, .O, .rw, .codes [0, 1, 2, 3], .c 0⟩,
    ⟨0x002, 0x002, .L, .ro, .mask 0x3F, .c 0⟩,
    ⟨0x003, 0x003, .L, .ro, .mask 0xBF3F, .c 0⟩,
    ⟨0x004, 0x004, .B, .rw, .u 500 20000 10, .c 6000⟩,
    ⟨0x005, 0x005, .B, .rw, .u 100 2000 10, .c 500⟩,
    ⟨0x006, 0x006, .B, .rw, .u 0 1 1, .c 1⟩,
    ⟨0x007, 0x007, .B, .rw, .u 1 6 1, .c 2⟩,
    ⟨0x008, 0x008, .L, .rw, .f32 0 0x7F7FFFFF, .c 0x00000000⟩,
    ⟨0x009, 0x009, .L, .rw, .f32 0 0x7F7FFFFF, .c 0x00000000⟩,
    ⟨0x00A, 0x00A, .L, .rw, .u 0 600000 1, .c 0⟩,
    ⟨0x00B, 0x00B, .L, .rw, .u 0 600000 1, .c 0⟩,
    ⟨0x00C, 0x00C, .L, .rw, .u 0 1000 1, .c 0⟩,
    ⟨0x00D, 0x00D, .L, .rw, .u 0 1000 1, .c 0⟩,
    ⟨0x00E, 0x00E, .L, .rw, .uOr 0 10 10000, .c 0⟩,
    ⟨0x00F, 0x00F, .L, .rw, .u 0 600000 1, .c 0⟩,
    ⟨0x010, 0x010, .L, .rw, .u 0 600000 1, .c 0⟩,
    ⟨0x011, 0x011, .L, .rw, .f32 0x3F000000 0x3F800000, .c 0x3F733333⟩,
    ⟨0x012, 0x012, .L, .rw, .u 100 5000 1, .c 500⟩,
    ⟨0x013, 0x013, .L, .rw, .u 100 20000 1, .c 0x3e80⟩,
    ⟨0x014, 0x014, .L, .rw, .u 100 20000 1, .c 3000⟩]
  ++ [
    ⟨0x015, 0x015, .L, .rw, .u 50 2000 1, .c 300⟩,
    ⟨0x016, 0x016, .L, .rw, .f32 1 0x7F7FFFFF, .c 0x459C4000⟩,
    ⟨0x017, 0x017, .L, .rw, .u 10 200 1, .c 200⟩,
    ⟨0x018, 0x018, .L, .rw, .uOr 0 10 1000, .c 100⟩,
    ⟨0x019, 0x019, .L, .rw, .u 0 100 1, .c 20⟩,
    ⟨0x01A, 0x01A, .L, .rw, .u 1 200 1, .c 30⟩,
    ⟨0x01B, 0x01B, .L, .rw, .u 100 20000 1, .c 3000⟩,
    ⟨0x01C, 0x01C, .O, .rw, .u 200 1000 1, .c 800⟩,
    ⟨0x020, 0x027, .O, .rw, .u 0 20000 1, .c 0⟩,
    ⟨0x028, 0x02F, .O, .rw, .f32 0xFF7FFFFF 0, .c 0x00000000⟩,
    ⟨0x030, 0x037, .L, .rw, .u 0 20000 1, .c 0⟩,
    ⟨0x038, 0x03F, .L, .rw, .f32 0 0x7F7FFFFF, .c 0x00000000⟩,
    ⟨0x040, 0x045, .L, .ro, .f32 0 0x3F800000, .c 0x3F800000⟩,
    ⟨0x046, 0x046, .L, .ro, .any, .c 0⟩,
    ⟨0x047, 0x047, .L, .ro, .any, .c 0⟩,
    ⟨0x048, 0x048, .L, .ro, .mask 0xFF, .c 0⟩,
    ⟨0x049, 0x049, .L, .ro, .mask 0x3F, .c 0⟩,
    ⟨0x04A, 0x04A, .L, .ro, .any, .c 0⟩,
    ⟨0x04B, 0x050, .L, .ro, .any, .c 0⟩]

/-- The items of group 0x13, CHG. -/
def Catalogue.gCHG : List ItemDef :=
  [
    ⟨0x001, 0x001, .L, .ro, .u 0 3 1, .c 0⟩,
    ⟨0x002, 0x002, .L, .ro, .any, .c 0⟩,
    ⟨0x003, 0x003, .L, .ro, .mask 0xFF, .c 0⟩,
    ⟨0x004, 0x004, .L, .ro, .u 0 6 1, .c 0⟩,
    ⟨0x005, 0x005, .L, .ro, .u 0 1000 1, .c 0⟩,
    ⟨0x006, 0x006, .L, .ro, .uOr 0xFFFF 0 800, .c 0⟩,
    ⟨0x007, 0x007, .L, .ro, .codes [0, 13, 20, 32, 63, 255], .c 0⟩,
    ⟨0x008, 0x008, .L, .ro, .u 0 320 1, .c 0⟩,
    ⟨0x009, 0x009, .L, .ro, .uOr 15 0 3, .c 15⟩,
    ⟨0x00A, 0x00A, .L, .ro, .u 0 3 1, .c 0⟩,
    ⟨0x00B, 0x00B, .L, .ro, .any, .c 0⟩,
    ⟨0x00C, 0x00C, .L, .ro, .any, .c 0⟩,
    ⟨0x00D, 0x00D, .L, .ro, .any, .c 0x00000000⟩,
    ⟨0x00E, 0x00E, .L, .ro, .any, .c 0x00000000⟩,
    ⟨0x00F, 0x00F, .L, .ro, .f32 0 0x3F800000, .c 0x3F800000⟩,
    ⟨0x010, 0x010, .L, .rw, .u 60 320 1, .c 320⟩,
    ⟨0x011, 0x011, .L, .rw, .u 1000 22000 1, .c 0x55f0⟩,
    ⟨0x012, 0x012, .L, .rw, .u 0 11000 1, .c 0x2af8⟩,
    ⟨0x013, 0x013, .L, .rw, .f32 0x3F4CCCCD 0x3F800000, .c 0x3F70A3D7⟩,
    ⟨0x014, 0x014, .B, .rw, .u 0 10000 1, .c 0⟩]
  ++ [
    ⟨0x015, 0x015, .O, .rw, .u 600 900 1, .c 800⟩,
    ⟨0x016, 0x016, .L, .rw, .u 100 10000 1, .c 1000⟩,
    ⟨0x017, 0x017, .L, .rw, .u 1000 30000 1, .c 3000⟩,
    ⟨0x018, 0x018, .L, .rw, .u 5 200 1, .c 20⟩,
    ⟨0x019, 0x019, .L, .rw, .u 100 5000 1, .c 3000⟩,
    ⟨0x01A, 0x01A, .L, .rw, .f32 0x3F000000 0x42C80000, .c 0x41200000⟩,
    ⟨0x01B, 0x01B, .L, .rw, .u 5 200 1, .c 20⟩,
    ⟨0x01C, 0x01C, .L, .rw, .u 500 10000 1, .c 3000⟩,
    ⟨0x01D, 0x01D, .L, .rw, .u 20 1000 1, .c 200⟩,
    ⟨0x01E, 0x01E, .B, .rw, .u 10 200 1, .c 30⟩,
    ⟨0x01F, 0x01F, .L, .rw, .u 5 100 1, .c 30⟩,
    ⟨0x020, 0x020, .L, .rw, .u 100 5000 1, .c 1000⟩,
    ⟨0x021, 0x021, .L, .rw, .u 0 6000 50, .c 300⟩,
    ⟨0x022, 0x022, .L, .rw, .u 50 200 1, .c 120⟩,
    ⟨0x023, 0x023, .L, .rw, .u 2 50 1, .c 10⟩,
    ⟨0x024, 0x024, .L, .rw, .u 1 200 1, .c 10⟩,
    ⟨0x025, 0x025, .L, .rw, .u 1 600 1, .c 60⟩,
    ⟨0x026, 0x026, .L, .rw, .u 1 60 1, .c 5⟩,
    ⟨0x027, 0x029, .L, .rw, .i (-400) (800), .byIdx [0, 100, 450]⟩,
    ⟨0x02A, 0x02A, .L, .rw, .u 5 50 1, .c 20⟩]
  ++ [
    ⟨0x02B, 0x02B, .L, .rw, .u 2000 2400 1, .c 2300⟩,
    ⟨0x02C, 0x02C, .O, .rw, .u 0 1 1, .c 0⟩,
    ⟨0x030, 0x03F, .L, .rw, .u 0 1000 1, .c 0⟩,
    ⟨0x040, 0x04F, .L, .rw, .u 0 10000 1, .c 0⟩,
    ⟨0x050, 0x053, .L, .rw, .u 1 1440 1, .c 360⟩,
    ⟨0x060, 0x060, .L, .rw, .u 0 10000 1, .c 0⟩,
    ⟨0x061, 0x061, .L, .rw, .u 0 1000 1, .c 0⟩,
    ⟨0x062, 0x062, .L, .rw, .u 0 1000 1, .c 0⟩,
    ⟨0x063, 0x063, .L, .rw, .i (-400) 1000, .c 0x80000000⟩,
    ⟨0x068, 0x06D, .L, .ro, .any, .c 0xFFFF⟩,
    ⟨0x070, 0x070, .L, .ro, .any, .c 0⟩,
    ⟨0x071, 0x071, .L, .ro, .any, .c 0⟩,
    ⟨0x072, 0x072, .L, .ro, .u 0 4 1, .c 0⟩,
    ⟨0x073, 0x073, .L, .ro, .any, .c 0⟩,
    ⟨0x074, 0x074, .L, .ro, .any, .c 0⟩]

/-- The items of group 0x14, AUX. -/
def Catalogue.gAUX : List ItemDef :=
  [
    ⟨0x001, 0x001, .L, .ro, .u 0 4 1, .c 0⟩,
    ⟨0x002, 0x002, .L, .rw, .u 400 540 1, .c 480⟩,
    ⟨0x003, 0x003, .L, .rw, .u 360 540 1, .c 420⟩,
    ⟨0x004, 0x004, .L, .rw, .u 100 6600 50, .c 6600⟩,
    ⟨0x005, 0x005, .L, .rw, .f32 0x3F4CCCCD 0x3F800000, .c 0x3F6E147B⟩,
    ⟨0x006, 0x006, .L, .rw, .u 1 50 1, .c 10⟩,
    ⟨0x007, 0x007, .L, .ro, .any, .c 0⟩,
    ⟨0x008, 0x008, .L, .rw, .u 1 100 1, .c 10⟩,
    ⟨0x009, 0x009, .L, .rw, .u 8 1024 1, .c 64⟩,
    ⟨0x00A, 0x00A, .L, .rw, .u 5 1000 1, .c 20⟩,
    ⟨0x00B, 0x00B, .L, .rw, .u 200 900 1, .c 250⟩,
    ⟨0x00C, 0x00C, .L, .rw, .u 500 640 1, .c 580⟩,
    ⟨0x00D, 0x00D, .B, .rw, .u 0 1 1, .c 1⟩,
    ⟨0x00E, 0x00E, .S, .rw, .u 0 1 1, .c 1⟩,
    ⟨0x00F, 0x00F, .L, .ro, .u 0 8 1, .c 0⟩,
    ⟨0x010, 0x010, .L, .ro, .any, .c 0⟩,
    ⟨0x011, 0x011, .L, .ro, .any, .c 0⟩,
    ⟨0x012, 0x012, .L, .ro, .any, .c 0⟩,
    ⟨0x013, 0x013, .L, .ro, .mask 0xF, .c 0⟩,
    ⟨0x014, 0x014, .L, .ro, .mask 0xF, .c 0⟩]
  ++ [
    ⟨0x040, 0x040, .L, .ro, .u 0 4 1, .c 0⟩,
    ⟨0x041, 0x041, .L, .rw, .u 110 155 1, .c 140⟩,
    ⟨0x042, 0x042, .L, .rw, .u 1 100 1, .c 5⟩,
    ⟨0x043, 0x043, .L, .rw, .u 8 1024 1, .c 64⟩,
    ⟨0x044, 0x044, .L, .rw, .u 5 1000 1, .c 20⟩,
    ⟨0x045, 0x045, .L, .rw, .u 200 480 1, .c 360⟩,
    ⟨0x046, 0x046, .L, .rw, .u 130 180 1, .c 160⟩,
    ⟨0x047, 0x047, .B, .rw, .u 0 1 1, .c 1⟩,
    ⟨0x048, 0x048, .S, .rw, .u 0 1 1, .c 1⟩,
    ⟨0x049, 0x049, .S, .rw, .codes [0, 1, 2], .c 2⟩,
    ⟨0x04A, 0x04A, .L, .rw, .u 0 1000 1, .c 100⟩,
    ⟨0x04B, 0x04B, .S, .rw, .u 20 500 5, .c 50⟩,
    ⟨0x04C, 0x04C, .L, .rw, .u 0 1 1, .c 1⟩,
    ⟨0x04D, 0x04D, .L, .rw, .u 50 400 1, .c 200⟩,
    ⟨0x04E, 0x04E, .L, .rw, .u 0 50 1, .c 10⟩,
    ⟨0x04F, 0x04F, .L, .rw, .u 1 8 1, .c 2⟩,
    ⟨0x050, 0x050, .L, .rw, .u 100 100000 1, .c 1000⟩,
    ⟨0x051, 0x051, .L, .rw, .u 100 100000 1, .c 2000⟩,
    ⟨0x052, 0x052, .B, .rw, .u 1 8 1, .c 4⟩,
    ⟨0x053, 0x053, .L, .rw, .u 50 500 1, .c 320⟩]
  ++ [
    ⟨0x054, 0x054, .L, .rw, .u 1 10 1, .c 2⟩,
    ⟨0x055, 0x055, .L, .ro, .u 0 4 1, .c 0⟩,
    ⟨0x056, 0x056, .L, .ro, .any, .c 0⟩,
    ⟨0x057, 0x057, .L, .ro, .mask 0xFFFF, .c 0⟩,
    ⟨0x058, 0x058, .L, .ro, .any, .c 0⟩,
    ⟨0x059, 0x059, .L, .ro, .any, .c 0⟩,
    ⟨0x05A, 0x05A, .L, .ro, .u 0 8 1, .c 0⟩,
    ⟨0x05B, 0x05B, .L, .ro, .any, .c 0⟩,
    ⟨0x05C, 0x05C, .L, .ro, .any, .c 0⟩,
    ⟨0x05D, 0x05D, .L, .ro, .any, .c 0⟩,
    ⟨0x05E, 0x05E, .L, .ro, .mask 0x7, .c 0⟩,
    ⟨0x05F, 0x05F, .L, .ro, .u 0 65535 1, .c 0⟩,
    ⟨0x060, 0x060, .L, .ro, .any, .c 0⟩,
    ⟨0x061, 0x061, .L, .ro, .mask 0xF, .c 0⟩]

/-- The items of group 0x15, ACT. -/
def Catalogue.gACT : List ItemDef :=
  [
    ⟨0x001, 0x001, .L, .ro, .u 0 7 1, .c 0⟩,
    ⟨0x002, 0x002, .B, .rw, .codes [0, 1], .byInst [0, 1]⟩,
    ⟨0x003, 0x003, .B, .rw, .codes [0, 1], .byInst [0, 1]⟩,
    ⟨0x004, 0x004, .B, .rw, .u 0 1 1, .c 1⟩,
    ⟨0x005, 0x005, .B, .rw, .codes [0, 1], .c 0⟩,
    ⟨0x006, 0x006, .L, .rw, .f32 0x3DCCCCCD 0x41200000, .c 0x40000000⟩,
    ⟨0x007, 0x007, .L, .rw, .f32 0x3D4CCCCD 0x40000000, .c 0x3E800000⟩,
    ⟨0x008, 0x008, .B, .rw, .any, .c 0x00000000⟩,
    ⟨0x009, 0x009, .L, .rw, .u 100 10000 1, .c 3000⟩,
    ⟨0x010, 0x017, .L, .rw, .any, .detentDef⟩,
    ⟨0x018, 0x018, .L, .rw, .any, .byInst [0xBF000000, 0x3DCCCCCD]⟩,
    ⟨0x019, 0x019, .L, .rw, .any, .byInst [0x41080000, 0x40D00000]⟩,
    ⟨0x01A, 0x01A, .L, .rw, .f32 1 0x7F7FFFFF, .c 0x41A00000⟩,
    ⟨0x01B, 0x01B, .L, .rw, .f32 1 0x7F7FFFFF, .c 0x43C80000⟩,
    ⟨0x01C, 0x01C, .L, .rw, .f32 1 0x7F7FFFFF, .c 0x469C4000⟩,
    ⟨0x01D, 0x01D, .L, .rw, .f32 0x3BA3D70A 0x3F800000, .c 0x3D4CCCCD⟩,
    ⟨0x01E, 0x01E, .L, .rw, .u 1 1000 1, .c 20⟩,
    ⟨0x01F, 0x01F, .L, .rw, .f32 0x3D4CCCCD 0x40A00000, .c 0x3F000000⟩,
    ⟨0x020, 0x020, .L, .rw, .any, .c 0x3E4CCCCD⟩,
    ⟨0x021, 0x021, .L, .rw, .f32 0x3F000000 0x3F800000, .c 0x3F666666⟩]
  ++ [
    ⟨0x022, 0x022, .L, .rw, .u 5 500 1, .c 30⟩,
    ⟨0x023, 0x023, .L, .rw, .u 0 5 1, .c 2⟩,
    ⟨0x024, 0x024, .L, .rw, .f32 0x3D4CCCCD 0x40A00000, .c 0x3F000000⟩,
    ⟨0x025, 0x025, .L, .rw, .u 0 10000 1, .c 50⟩,
    ⟨0x026, 0x026, .L, .rw, .u 1 200 1, .c 10⟩,
    ⟨0x027, 0x027, .L, .rw, .u 5 200 1, .c 30⟩,
    ⟨0x028, 0x028, .L, .rw, .f32 0 0x7F7FFFFF, .c 0x41A00000⟩,
    ⟨0x029, 0x029, .L, .rw, .any, .byInst [0x41000000, 0x40C00000]⟩,
    ⟨0x02A, 0x02A, .L, .rw, .any, .byInst [0x41180000, 0x40E00000]⟩,
    ⟨0x030, 0x030, .L, .ro, .any, .c 0⟩,
    ⟨0x031, 0x031, .L, .ro, .any, .c 0⟩,
    ⟨0x032, 0x032, .L, .ro, .u 0 4 1, .c 0⟩,
    ⟨0x033, 0x033, .L, .ro, .uOr 15 0 7, .c 15⟩,
    ⟨0x034, 0x034, .L, .ro, .any, .c 0⟩,
    ⟨0x035, 0x035, .L, .ro, .any, .c 0x00000000⟩,
    ⟨0x036, 0x036, .L, .ro, .any, .c 0⟩,
    ⟨0x037, 0x037, .L, .ro, .any, .c 0⟩,
    ⟨0x038, 0x038, .L, .ro, .any, .c 0⟩,
    ⟨0x039, 0x039, .L, .ro, .mask 0xF, .c 0⟩,
    ⟨0x03A, 0x03A, .L, .ro, .any, .c 0⟩]
  ++ [
    ⟨0x03B, 0x03B, .L, .ro, .any, .c 0⟩]

/-- The items of group 0x18, SAFE. -/
def Catalogue.gSAFE : List ItemDef :=
  [
    ⟨0x001, 0x001, .L, .ro, .any, .c 0⟩,
    ⟨0x002, 0x002, .B, .rw, .u 0 1000 10, .c 0⟩,
    ⟨0x003, 0x003, .B, .rw, .u 1 1000 1, .c 10⟩,
    ⟨0x004, 0x004, .B, .rw, .u 500 25000 10, .c 0x4268⟩,
    ⟨0x005, 0x005, .B, .rw, .u 1 500 1, .c 40⟩,
    ⟨0x006, 0x006, .B, .rw, .u 100 25000 10, .c 3500⟩,
    ⟨0x007, 0x007, .B, .rw, .u 10 1000 1, .c 50⟩,
    ⟨0x008, 0x008, .B, .rw, .u 5 100 1, .c 10⟩,
    ⟨0x009, 0x009, .B, .rw, .u 0 100000 1, .c 5000⟩,
    ⟨0x00A, 0x00A, .B, .rw, .u 0 100000 1, .c 5000⟩,
    ⟨0x00B, 0x00B, .B, .rw, .u 100 1000000 1, .c 0x30d40⟩,
    ⟨0x00C, 0x00C, .B, .rw, .u 0 10000 1, .c 0⟩,
    ⟨0x00D, 0x00D, .B, .rw, .i (-10000) (10000), .c 0⟩,
    ⟨0x00E, 0x00E, .B, .rw, .u 1 500 1, .c 40⟩,
    ⟨0x00F, 0x00F, .B, .rw, .u 1 20 1, .c 5⟩,
    ⟨0x010, 0x010, .B, .rw, .u 1 10000 1, .c 100⟩,
    ⟨0x011, 0x011, .B, .rw, .u 10 1000 1, .c 100⟩,
    ⟨0x012, 0x012, .B, .rw, .u 100 10000 1, .c 500⟩,
    ⟨0x013, 0x013, .B, .rw, .u 10 2000 1, .c 100⟩,
    ⟨0x014, 0x015, .B, .rw, .any, .byIdx [0xFFFFFC18, 0xFFFFFE70]⟩]
  ++ [
    ⟨0x016, 0x017, .B, .rw, .any, .byIdx [9000, 7000]⟩,
    ⟨0x018, 0x018, .B, .rw, .any, .c 0⟩,
    ⟨0x019, 0x019, .B, .rw, .any, .c 500⟩,
    ⟨0x01A, 0x01A, .B, .rw, .u 10 1000 1, .c 100⟩,
    ⟨0x01B, 0x01B, .B, .rw, .u 1 168 1, .c 24⟩,
    ⟨0x020, 0x020, .L, .ro, .mask 0xFFFF831F, .c 0⟩,
    ⟨0x021, 0x021, .L, .ro, .any, .c 0⟩,
    ⟨0x022, 0x022, .L, .ro, .any, .c 0⟩,
    ⟨0x023, 0x023, .L, .ro, .any, .c 0⟩,
    ⟨0x024, 0x024, .L, .ro, .u 0 2 1, .c 0⟩,
    ⟨0x025, 0x026, .L, .ro, .any, .c 0⟩,
    ⟨0x027, 0x027, .L, .ro, .any, .c 0⟩,
    ⟨0x028, 0x028, .L, .ro, .mask 0x3F, .c 0⟩,
    ⟨0x029, 0x029, .L, .ro, .any, .c 0⟩,
    ⟨0x02A, 0x02A, .L, .ro, .any, .c 0⟩]

/-- The items of group 0x19, SOUT. -/
def Catalogue.gSOUT : List ItemDef :=
  [
    ⟨0x001, 0x001, .L, .ro, .u 0 4 1, .c 0⟩,
    ⟨0x002, 0x002, .B, .rw, .u 0 3 1, .byInst [0, 0, 0, 3, 1, 2, 3, 3]⟩,
    ⟨0x003, 0x003, .B, .rw, .mask 0x1FF, .byInst [124, 124, 124, 48, 48, 60, 60, 60]⟩,
    ⟨0x004, 0x004, .B, .rw, .mask 0x3F, .byInst [24, 24, 31, 31, 31, 63, 28, 28]⟩,
    ⟨0x005, 0x005, .B, .rw, .u 1 600 1, .c 10⟩,
    ⟨0x006, 0x006, .B, .rw, .u 50 1000 10, .c 200⟩,
    ⟨0x007, 0x007, .B, .rw, .u 10 10000 1, .c 100⟩,
    ⟨0x008, 0x008, .B, .rw, .u 0 1 1, .c 1⟩,
    ⟨0x009, 0x009, .L, .ro, .any, .c 0⟩,
    ⟨0x00A, 0x00B, .L, .ro, .any, .c 0⟩,
    ⟨0x00C, 0x00C, .L, .ro, .any, .c 0⟩,
    ⟨0x00D, 0x00D, .L, .ro, .any, .c 0⟩,
    ⟨0x00E, 0x00E, .L, .ro, .any, .c 0⟩,
    ⟨0x00F, 0x00F, .L, .ro, .any, .c 0⟩,
    ⟨0x010, 0x010, .L, .ro, .mask 0x7, .c 0⟩,
    ⟨0x011, 0x011, .L, .ro, .any, .c 0⟩,
    ⟨0x012, 0x012, .L, .ro, .any, .c 0⟩]

/-- The items of group 0x1A, FLT. -/
def Catalogue.gFLT : List ItemDef :=
  [
    ⟨0x001, 0x001, .L, .rw, .u 1 3600 1, .c 60⟩,
    ⟨0x002, 0x002, .L, .rw, .u 0 10000 1, .c 100⟩,
    ⟨0x003, 0x003, .L, .ro, .any, .c 0⟩,
    ⟨0x004, 0x004, .L, .rw, .u 0 1023 1, .c 0⟩,
    ⟨0x005, 0x009, .L, .ro, .any, .c 0⟩,
    ⟨0x00A, 0x00A, .L, .ro, .any, .c 0⟩,
    ⟨0x010, 0x01C, .L, .rw, .restRange, .byIdx [0, 0, 50, 1000, 10, 100, 0, 0, 100, 10, 1000, 1000, 100]⟩,
    ⟨0x020, 0x02C, .L, .rw, .u 1 255 1, .c 8⟩,
    ⟨0x030, 0x03C, .L, .rw, .u 0 1 1, .c 1⟩]

/-- The items of group 0x1B, THM. -/
def Catalogue.gTHM : List ItemDef :=
  [
    ⟨0x001, 0x001, .L, .rw, .u 100 170 1, .c 150⟩,
    ⟨0x002, 0x002, .L, .rw, .u 110 175 1, .c 165⟩,
    ⟨0x003, 0x003, .L, .rw, .u 80 165 1, .c 140⟩,
    ⟨0x004, 0x004, .L, .rw, .u 80 170 1, .c 140⟩,
    ⟨0x005, 0x005, .L, .rw, .u 1 100 1, .c 20⟩,
    ⟨0x006, 0x006, .L, .rw, .f32 0x3C23D70A 0x3F000000, .c 0x3D4CCCCD⟩,
    ⟨0x007, 0x007, .L, .rw, .f32 0x00000000 0x3F800000, .c 0x3F000000⟩,
    ⟨0x008, 0x008, .L, .rw, .u 10 1000 1, .c 50⟩,
    ⟨0x009, 0x009, .B, .rw, .u 2500 5000 1, .c 3435⟩,
    ⟨0x00A, 0x00A, .L, .rw, .u 10 200 1, .c 100⟩,
    ⟨0x00B, 0x00B, .L, .rw, .u 0 10000 1, .c 500⟩,
    ⟨0x00C, 0x00C, .L, .rw, .u 1 600 1, .c 10⟩,
    ⟨0x00D, 0x00D, .L, .rw, .u 100 60000 1, .c 2000⟩,
    ⟨0x00E, 0x00E, .L, .rw, .u 80 160 1, .c 130⟩,
    ⟨0x00F, 0x00F, .L, .rw, .u 1 50 1, .c 10⟩,
    ⟨0x010, 0x010, .L, .ro, .mask 0x3F0F, .c 0⟩,
    ⟨0x011, 0x011, .L, .ro, .mask 0x0FFF003F, .c 0⟩,
    ⟨0x012, 0x012, .L, .ro, .mask 0x3F, .c 0⟩,
    ⟨0x013, 0x013, .L, .ro, .any, .c 0⟩,
    ⟨0x014, 0x014, .L, .ro, .any, .c 0⟩]
  ++ [
    ⟨0x018, 0x01C, .L, .ro, .i (-550) 1750, .c 0⟩,
    ⟨0x020, 0x025, .L, .rw, .f32 0x3A83126F 0x41200000, .c 0x3DCCCCCD⟩,
    ⟨0x028, 0x02D, .L, .rw, .u 1 10000 1, .c 100⟩,
    ⟨0x030, 0x035, .L, .rw, .f32 0 0x7F7FFFFF, .c 0x00000000⟩,
    ⟨0x038, 0x03D, .L, .rw, .f32 0 0x7F7FFFFF, .c 0x00000000⟩]

/-- The items of group 0x1C, CAN. -/
def Catalogue.gCAN : List ItemDef :=
  [
    ⟨0x001, 0x001, .L, .ro, .u 0 6 1, .c 0⟩,
    ⟨0x002, 0x002, .B, .rw, .u 0 1 1, .byInst [1, 1, 1, 0]⟩,
    ⟨0x003, 0x003, .B, .rw, .mask 0xFFFFFFE0, .c 0x03F1F3E0⟩,
    ⟨0x004, 0x004, .B, .rw, .mask 0xFFFFC000, .c 0x07264000⟩,
    ⟨0x005, 0x005, .B, .rw, .mask 0x807F, .c 0x0000801E⟩,
    ⟨0x006, 0x006, .B, .rw, .u 0 1 1, .c 1⟩,
    ⟨0x007, 0x007, .L, .ro, .mask 0xC0070000, .c 0⟩,
    ⟨0x008, 0x00F, .B, .rw, .ardWord, .byIdx [0x1f407d0, 0x1f41388, 0x3e80fa0, 0xfa03e8, 0x3e81f40, 0, 0, 0]⟩,
    ⟨0x010, 0x010, .B, .rw, .mapBase, .c 0x00000700⟩,
    ⟨0x011, 0x011, .L, .rw, .u 10 1000 1, .c 100⟩,
    ⟨0x012, 0x012, .L, .rw, .u 30 10000 1, .c 300⟩,
    ⟨0x013, 0x013, .L, .rw, .u 0 1 1, .c 1⟩,
    ⟨0x014, 0x014, .L, .wo, .u 1 1 1, .c 0⟩,
    ⟨0x015, 0x015, .L, .rw, .u 1 255 1, .c 8⟩,
    ⟨0x016, 0x016, .L, .rw, .u 100 100000 1, .c 5000⟩,
    ⟨0x017, 0x017, .L, .ro, .mask 0x03FFFFFF, .c 0⟩,
    ⟨0x018, 0x018, .L, .ro, .any, .c 0⟩,
    ⟨0x019, 0x019, .L, .rw, .u 0 0 1, .c 0⟩,
    ⟨0x01A, 0x01A, .L, .ro, .any, .c 0⟩,
    ⟨0x01B, 0x01B, .L, .ro, .any, .c 0⟩]
  ++ [
    ⟨0x01C, 0x01C, .L, .ro, .any, .c 0⟩,
    ⟨0x01D, 0x01D, .L, .ro, .any, .c 0⟩,
    ⟨0x01E, 0x01E, .L, .ro, .any, .c 0⟩,
    ⟨0x01F, 0x01F, .L, .ro, .any, .c 0⟩,
    ⟨0x020, 0x020, .L, .rw, .u 0 255 1, .c 0⟩,
    ⟨0x021, 0x021, .L, .ro, .mask 0xFF00007F, .c 0⟩,
    ⟨0x022, 0x022, .L, .ro, .mask 0x1FFFFFFF, .c 0⟩,
    ⟨0x023, 0x023, .L, .ro, .mask 0x1FFFFFFF, .c 0⟩,
    ⟨0x024, 0x024, .L, .ro, .mask 0xE803007F, .c 0⟩,
    ⟨0x025, 0x025, .L, .ro, .any, .c 0⟩,
    ⟨0x026, 0x026, .L, .ro, .u 0 10000 1, .c 0⟩,
    ⟨0x028, 0x02F, .L, .ro, .any, .c 0⟩,
    ⟨0x030, 0x030, .L, .ro, .any, .c 0⟩,
    ⟨0x031, 0x031, .L, .ro, .mask 0x1F, .c 0⟩,
    ⟨0x032, 0x032, .L, .ro, .any, .c 0⟩,
    ⟨0x033, 0x033, .L, .ro, .any, .c 0⟩]

/-- The items of group 0x1D, ETH. -/
def Catalogue.gETH : List ItemDef :=
  [
    ⟨0x001, 0x001, .B, .rw, .u 0 1 1, .c 1⟩,
    ⟨0x002, 0x002, .B, .rw, .codes [0, 1], .byInst [0, 0, 1]⟩,
    ⟨0x003, 0x003, .B, .rw, .u 0 4094 1, .c 0⟩,
    ⟨0x004, 0x004, .L, .ro, .u 0 1 1, .c 0⟩,
    ⟨0x005, 0x005, .L, .ro, .any, .c 0⟩]

/-- The items of group 0x1E, SVC. -/
def Catalogue.gSVC : List ItemDef :=
  [
    ⟨0x001, 0x001, .B, .rw, .u 0 262143 1, .devNum⟩,
    ⟨0x002, 0x002, .B, .rw, .u 0 1 1, .c 1⟩,
    ⟨0x003, 0x003, .L, .rw, .u 1 3600 1, .c 60⟩,
    ⟨0x004, 0x004, .L, .ro, .any, .c 0⟩,
    ⟨0x010, 0x010, .L, .ro, .u 0 1 1, .c 0⟩,
    ⟨0x011, 0x012, .L, .ro, .u 0 6 1, .c 0⟩,
    ⟨0x013, 0x014, .L, .ro, .any, .c 0⟩,
    ⟨0x015, 0x015, .L, .ro, .any, .c 0⟩,
    ⟨0x016, 0x016, .L, .wo, .u 1 1 1, .c 0⟩,
    ⟨0x017, 0x017, .L, .wo, .u 1 1 1, .c 0⟩,
    ⟨0x018, 0x018, .L, .ro, .any, .c 0⟩,
    ⟨0x020, 0x020, .L, .ro, .any, .c 0⟩,
    ⟨0x021, 0x021, .L, .rw, .u 0 4095 1, .c 0⟩,
    ⟨0x022, 0x025, .L, .ro, .any, .c 0⟩]
/-- The instance counts of Table 5-1 (0: no such group). -/
def Catalogue.instances (group : Nat) : Nat :=
  match group with
  | 0x01 => 1 | 0x02 => 8 | 0x03 => 1 | 0x04 => 1 | 0x08 => 12 | 0x09 => 48 | 0x0A => 48 | 0x0B => 12
  | 0x0C => 16 | 0x0D => 2 | 0x0E => 4 | 0x10 => 32 | 0x11 => 4 | 0x12 => 1 | 0x13 => 1 | 0x14 => 1
  | 0x15 => 2 | 0x18 => 1 | 0x19 => 8 | 0x1A => 1 | 0x1B => 1 | 0x1C => 4 | 0x1D => 3 | 0x1E => 1
  | _ => 0

/-- The item counts of Table 5-1, which a descriptor reports (R133). -/
def Catalogue.itemCount (group : Nat) : Nat :=
  match group with
  | 0x01 => 48 | 0x02 => 24 | 0x03 => 16 | 0x04 => 12 | 0x08 => 40 | 0x09 => 100 | 0x0A => 120 | 0x0B => 150
  | 0x0C => 112 | 0x0D => 120 | 0x0E => 90 | 0x10 => 110 | 0x11 => 40 | 0x12 => 140 | 0x13 => 130 | 0x14 => 110
  | 0x15 => 60 | 0x18 => 90 | 0x19 => 24 | 0x1A => 60 | 0x1B => 50 | 0x1C => 50 | 0x1D => 12 | 0x1E => 40
  | _ => 0

/-- The rows of a group. -/
def Catalogue.rows (group : Nat) : List ItemDef :=
  match group with
  | 0x01 => Catalogue.gDEV | 0x02 => Catalogue.gHOST | 0x03 => Catalogue.gIMG | 0x04 => Catalogue.gTIME
  | 0x08 => Catalogue.gSHEAF | 0x09 => Catalogue.gLEG | 0x0A => Catalogue.gGATE | 0x0B => Catalogue.gPWM
  | 0x0C => Catalogue.gADCF | 0x0D => Catalogue.gADCI | 0x0E => Catalogue.gPOS | 0x10 => Catalogue.gLOOP
  | 0x11 => Catalogue.gPROF | 0x12 => Catalogue.gTRC | 0x13 => Catalogue.gCHG | 0x14 => Catalogue.gAUX
  | 0x15 => Catalogue.gACT | 0x18 => Catalogue.gSAFE | 0x19 => Catalogue.gSOUT | 0x1A => Catalogue.gFLT
  | 0x1B => Catalogue.gTHM | 0x1C => Catalogue.gCAN | 0x1D => Catalogue.gETH | 0x1E => Catalogue.gSVC
  | _ => []

/-- The row of an item, if the address names one (R132): the group exists, the instance is below its count, the item is
defined. A descriptor (R133) is no row. -/
def Catalogue.find (a : Nat) : Option ItemDef :=
  if a < 0x1000000 ∧ Item.inst a < Catalogue.instances (Item.group a) then
    (Catalogue.rows (Item.group a)).find? (fun d => decide (d.lo ≤ Item.num a) && decide (Item.num a ≤ d.hi))
  else none

/-- The descriptor word of a group instance (R133). -/
def Catalogue.descriptor (group : Nat) : Word :=
  nw (group * 0x1000000 + Catalogue.instances group * 0x10000 + Catalogue.itemCount group)

/-- Whether an address is a descriptor (R133). -/
def Catalogue.isDescriptor (a : Nat) : Bool :=
  decide (a < 0x1000000) && decide (Item.num a = 0) && decide (Item.inst a < Catalogue.instances (Item.group a))

/-- A source word (Table 10-3). -/
def srcWord (kind : Nat) (wait : Bool) (field index : Nat) : Word :=
  nw (kind * 0x10000000 + (if wait then 0x8000000 else 0) + field * 0x1000 + index)

/-- The number of the fast input of a leg's current sense (Table 8-1: leg n is input n div 16 of converter n mod 16). -/
def csInput (leg : Nat) : Nat := 8 * (leg % 16) + leg / 16

/-- The factory sources of lane slots (LOOP.SRC_j: "Factory binding per role"): Tables 11-1 and 13-3, R299, R324 and R390
where they name them, the roles of Table 10-1 for the lanes of the actuators and the charger; a slot that none of these
names takes no source (assumption log 7). -/
def Catalogue.srcDefault (lane slot : Nat) : Word :=
  let foc (leg port dRef : Nat) (d : Bool) (qRef vin : Nat) : Word :=
    match slot with
    | 3 => srcWord 2 true 0 (port * 8)
    | 4 => srcWord 2 false 2 (port * 8)
    | 5 => if d then srcWord 3 false 0 dRef else 0
    | 6 => srcWord 3 false 0 qRef
    | 7 => srcWord 1 false 0 vin
    | j => srcWord 1 true 0 (csInput (leg + j))
  let posn (port gen : Nat) : Word :=
    match slot with
    | 0 => srcWord 2 true 1 (port * 8)
    | 1 => srcWord 2 false 2 (port * 8)
    | 4 => srcWord 4 false 0 gen
    | 5 => srcWord 4 false 1 gen
    | 6 => srcWord 4 false 2 gen
    | _ => 0
  let vreg (out load vin : Option Nat) : Word :=
    let inp (w : Bool) (x : Option Nat) : Word := match x with | some i => srcWord 1 w 0 i | none => 0
    match slot with
    | 0 => inp true out
    | 1 => inp false load
    | 5 => srcWord 5 false 0 0
    | 7 => inp false vin
    | _ => 0
  match lane with
  | 6 =>
    (match slot with
     | 0 => srcWord 2 true 2 1
     | 4 => srcWord 4 false 1 2
     | 5 => srcWord 5 false 0 0
     | 6 => srcWord 4 false 2 2
     | 7 => srcWord 1 false 0 6
     | _ => 0)
  | 7 =>
    (match slot with
     | 5 => srcWord 3 false 0 64
     | 6 => srcWord 5 false 1 0
     | 7 => srcWord 1 false 0 14
     | j => if j < 3 then srcWord 1 true 0 (csInput (18 + j)) else 0)
  | 8 => vreg (some 14) none none
  | 9 => (match slot with | 5 => srcWord 3 false 0 88 | 6 => srcWord 1 false 0 6 | 7 => srcWord 1 false 0 14 | _ => 0)
  | 10 => (match slot with | 5 => srcWord 3 false 0 89 | 6 => srcWord 1 false 0 6 | 7 => srcWord 1 false 0 14 | _ => 0)
  | 11 => (match slot with | 5 => srcWord 5 false 0 0 | _ => 0)
  | 12 => vreg (some 30) (some 38) (some 6)
  | 13 => vreg (some 46) (some 54) (some 30)
  | 14 => srcWord 1 (decide (slot = 0)) 0 (csInput (34 + slot))
  | 28 => foc 42 1 0 false 232 30
  | 29 => posn 1 0
  | 30 => foc 45 2 0 false 248 30
  | 31 => posn 2 1
  | n => if n < 6 then foc (3 * n) 0 54 true (48 + n) 6 else 0

/-- The factory default of a row at an instance and index (R68, R528). -/
def ItemDef.default (d : ItemDef) (b : Bind) (a : Nat) : Word :=
  let n := Item.inst a
  let k := Item.num a - d.lo
  let t := b.defaultType (Item.group a) n
  match d.dfl with
  | .c w => w
  | .byType l => l.getD (t - 1) 0
  | .byInst l => l.getD n 0
  | .byIdx l => l.getD k 0
  | .vonDef => if t ≤ 3 ∨ (t = 4 ∧ b.position n < 2) then 36 else 30
  | .voffDef => if t ≤ 3 ∨ (t = 4 ∧ b.position n < 2) then iw (-8) else iw (-4)
  | .dtDef =>
    if t = 1 ∨ t = 2 ∨ t = 6 then (if k = 0 then 0x14001400 else 0x0F000F00)
    else if t = 5 then 0x01800180 else 0x05000500
  | .legEnDef => nw (2 ^ b.countOf n - 1)
  | .phaseDef => if t = 1 then ([0, 10923, 21845, 32768, 43691, 54613] : List Word).getD (k / 3) 0 else 0
  | .adcGain => if n ≤ 2 ∧ k = 6 then 0x00028000 else 0x00010000
  | .srcDef => Catalogue.srcDefault n k
  | .tsNom => ([50000, 12500, 5000, 5000, 2500, 50000] : List Word).getD (t - 1) 0
  | .detentDef =>
    if n = 0 then ([0, 0x40800000, 0x41000000] : List Word).getD k 0x7FC00000
    else ([0x3E800000, 0x40C80000] : List Word).getD k 0x7FC00000
  | .rootKey => Config.serviceRootKey k
  | .devNum => nw (Config.serial.toNat % 2 ^ 18)
  | .legTrim => Config.legTrim n k
  | .gateTrim => Config.gateTrim n k
  | .legTrimCrc => Config.legTrimCrc n

/-- What an item reads as when nothing has been written to it: its factory default; 0 where no row defines the address. -/
def Catalogue.default (b : Bind) (a : Nat) : Word :=
  match Catalogue.find a with
  | some d => d.default b a
  | none => 0

end Sys2Proof.Machine
end

