-- ==== Sys2Proof/Machine/KMap.lean ====
section
/-! DEFINITION. Sparse maps from numbers to values: a list of (key, value) pairs, keys strictly rising, in which no
entry equals what an unlisted key reads as. Register files, stores and tables of units are held in this one form, so
that equal contents are equal data. -/

namespace Sys2Proof.Machine

/-- A sparse map: (key, value) pairs in rising key order. DESIGN CHOICE: assumption log 102. -/
abbrev KMap (α : Type) := List (Nat × α)

/-- The listed value of a key. -/
def KMap.find {α : Type} : KMap α → Nat → Option α
  | [], _ => none
  | (a, x) :: t, k => if a = k then some x else KMap.find t k

/-- The value of a key: the listed one, or what `d` gives an unlisted key. -/
def KMap.get {α : Type} (d : Nat → α) (m : KMap α) (k : Nat) : α := (KMap.find m k).getD (d k)

/-- The map with one key listed. -/
def KMap.ins {α : Type} : KMap α → Nat → α → KMap α
  | [], k, v => [(k, v)]
  | (a, x) :: t, k, v =>
    if k < a then (k, v) :: (a, x) :: t
    else if a = k then (k, v) :: t
    else (a, x) :: KMap.ins t k v

/-- The map with one key no longer listed. -/
def KMap.del {α : Type} : KMap α → Nat → KMap α
  | [], _ => []
  | (a, x) :: t, k => if a = k then KMap.del t k else (a, x) :: KMap.del t k

/-- Writing a key; writing the value an unlisted key reads as removes the entry. -/
def KMap.put {α : Type} [DecidableEq α] (d : Nat → α) (m : KMap α) (k : Nat) (v : α) : KMap α :=
  if v = d k then KMap.del m k else KMap.ins m k v

/-- Keys strictly rising from a bound. -/
def KMap.rising {α : Type} : Nat → KMap α → Bool
  | _, [] => true
  | n, (a, _) :: t => decide (n ≤ a) && KMap.rising (a + 1) t

/-- The canonical form: keys strictly rising, no entry equal to what an unlisted key reads as. -/
def KMap.wf {α : Type} [DecidableEq α] (d : Nat → α) (m : KMap α) : Bool :=
  KMap.rising 0 m && m.all (fun p => decide (p.2 ≠ d p.1))

/-- Writing consecutive keys. -/
def KMap.puts {α : Type} [DecidableEq α] (d : Nat → α) (m : KMap α) (k : Nat) : List α → KMap α
  | [] => m
  | v :: vs => KMap.puts d (KMap.put d m k v) (k + 1) vs

end Sys2Proof.Machine
end

