-- ==== Sys2Proof/Machine/State.lean ====
section
/-! DEFINITION. The state of the TH9648 as the spec gives it, as plain data: the parameter registers by address, and,
beside them, the state that no parameter item shows whole. Tables of units (legs, sheaves, lanes, slots ...) are sparse
maps: a unit not listed stands as its `init` value says. -/

namespace Sys2Proof.Machine

/-- No command of this model faults: the spec gives every row of the table an effect or lets it pass without one. The
constructor is raised by no meaning (safe). -/
inductive Fault where
  /-- Raised by nothing. -/
  | never
  deriving DecidableEq, Repr

/-- The refusals of a step. -/
inductive Refusal where
  /-- Raised by an arm of exec whose command has no meaning yet (safe: the machine stops). No arm of the finished model does. -/
  | notModelled (mnemonic : String)
  deriving DecidableEq, Repr

/-- The device states of Table 0-8. -/
inductive DevState where
  | powerup | proof | standby | drive | charge | service | safe | locked | transport
  deriving DecidableEq, Repr

/-- The code of DEV.STATE (Table 3-10). -/
def DevState.code : DevState → Nat
  | .powerup => 0 | .proof => 1 | .standby => 2 | .drive => 3 | .charge => 4 | .service => 5 | .safe => 6
  | .locked => 7 | .transport => 8

/-- The sheaf states of Table 0-9. -/
inductive SheafState where
  | off | proving | ready | run | winnowed | safe
  deriving DecidableEq, Repr

/-- The code of SHEAF.STATE (Table 3-12). -/
def SheafState.code : SheafState → Nat
  | .off => 0 | .proving => 1 | .ready => 2 | .run => 3 | .winnowed => 4 | .safe => 5

/-- The fault status states of Table 16-3. -/
inductive Handling where
  | idle | handling | resting | lasting
  deriving DecidableEq, Repr

/-- The code in bits [31:24] of a fault status (Table 16-3). -/
def Handling.code : Handling → Nat
  | .idle => 0 | .handling => 1 | .resting => 2 | .lasting => 3

/-- The fault classes (Table 0-7), coded as R455 codes them; 0 is none. -/
inductive FaultClass where
  | none | W | F | L | G
  deriving DecidableEq, Repr

/-- The class code of R455. -/
def FaultClass.code : FaultClass → Nat
  | .none => 0 | .W => 1 | .F => 2 | .L => 3 | .G => 4

/-- The SAFE causes of R532. -/
inductive SafeCause where
  | sto | sls | sdi | slp | torque | path | island | shellWord | overVoltage | debugHalt
  deriving DecidableEq, Repr

/-- A fault record of four words (R190), newest first where records are listed. -/
structure FaultRec where
  time : Nat
  source : Word
  context : Word
  deriving DecidableEq, Repr

/-- A journal record: the UNIT word and the record (R454). -/
structure JournalRec where
  unit : Word
  record : FaultRec
  deriving DecidableEq, Repr

/-- What every unit keeps of its own errors (R435): fault status, recoveries, force bits, and whether a WINNOW command
holds it out of service. -/
structure UnitRec where
  state : Handling
  cls : FaultClass
  src : Nat
  /-- R444 holds for the detection in handling: the unit goes lasting whatever its self-test says. -/
  atLimit : Bool
  /-- The unit was winnowed by WINNOW (R499). -/
  commanded : Bool
  /-- Completion times of the recoveries still inside FLT.RECOV_WIN (R444). -/
  recovered : List Nat
  /-- Recoveries since POWERUP (RECOV [31:16]). -/
  total : Nat
  /-- When the present rest ends (R440). -/
  restEnd : Nat
  /-- Force bits set (R456), and those of them whose one-time effect is still to come. -/
  force : Word
  forceArmed : Word
  /-- Class-W sources and when each last sent an event (R455). -/
  lastEvent : KMap Nat
  /-- When the unit last made a record of a detection, and of which source (R438). -/
  edge : Option (Nat × Nat)
  deriving DecidableEq, Repr

/-- A unit that has met no error. -/
def UnitRec.init : UnitRec where
  state := .idle
  cls := .none
  src := 0
  atLimit := false
  commanded := false
  recovered := []
  total := 0
  restEnd := 0
  force := 0
  forceArmed := 0
  lastEvent := []
  edge := none

/-- A command record of a tag (R113, R114): waiting, in execution, or completed and not yet collected. -/
inductive RecState where
  | waiting | running | done
  deriving DecidableEq, Repr

/-- What a tag's record holds. -/
structure CmdRec where
  state : RecState
  msg : HostMsg
  /-- Acceptance order across all slots (R36). -/
  order : Nat
  accepted : Nat
  /-- The device time a valid AT field names (R126). -/
  start : Option Nat
  code : Nat
  reason : Nat
  result : List Byte
  /-- When it completed (TIME of Table 4-5), and when its completion was last sent (R114). -/
  completed : Nat
  sent : Nat
  deriving DecidableEq, Repr

/-- A device-to-host message as sent (Table 4-5), with its CMAC. -/
structure OutMsg where
  slot : Nat
  port : Nat
  kind : Nat
  code : Nat
  index : Nat
  opcode : Nat
  reason : Nat
  fresh : Nat
  credits : Nat
  time : Nat
  payload : List Byte
  mac : BitVec 64
  deriving DecidableEq, Repr

/-- The states of a host slot (HOST.STATUS). -/
inductive SlotStatus where
  | free | attached | held
  deriving DecidableEq, Repr

/-- The code of HOST.STATUS (Table 4-13). -/
def SlotStatus.code : SlotStatus → Nat
  | .free => 0 | .attached => 1 | .held => 2

/-- A host slot (chapter Hosts and Mailboxes). -/
structure HostSlot where
  status : SlotStatus
  /-- Port of the present attachment: 0-2 E0-E2, 3-6 C0-C3, 7 SPI. -/
  port : Nat
  ident : Word
  /-- The session key (R105). -/
  key : BitVec 128
  freshIn : Nat
  freshOut : Nat
  credits : Nat
  /-- Credits returned and not yet reported (R116), and since when. -/
  owed : Nat
  lastCredit : Nat
  /-- Consecutive messages that failed R106 or R107 (R109). -/
  fails : Nat
  lastHeard : Nat
  heldAt : Nat
  claims : BitVec 12
  /-- The claims of these taken under SVC_CLAIM (R120). -/
  svcClaims : BitVec 12
  /-- The completion of a re-attach that waits for tag record 0 (R112; assumption log 117). -/
  later : Option CmdRec
  deriving DecidableEq, Repr

/-- A free slot. -/
def HostSlot.init : HostSlot where
  status := .free
  port := 0
  ident := 0
  key := 0
  freshIn := 0
  freshOut := 0
  credits := 0
  owed := 0
  lastCredit := 0
  fails := 0
  lastHeard := 0
  heldAt := 0
  claims := 0
  svcClaims := 0
  later := none

/-- What a running sequence does (R37). -/
inductive SeqKind where
  | prove | start | stop | winnow | restore | selftest | move | arm | disarm | commit | hvConnect | mode | write
  deriving DecidableEq, Repr

/-- An open stream (R129, R130): its sources in order, and the frame being filled. -/
structure Stream where
  slot : Nat
  number : Nat
  port : Nat
  decimation : Nat
  sources : List Word
  /-- Its load in kbit/s (R129). -/
  load : Nat
  /-- Frame sequence number, triggers seen since the last sampled one, rows held, time of the first and last row. -/
  seq : Nat
  skipped : Nat
  rows : List (List Word)
  first : Nat
  last : Nat
  deriving DecidableEq, Repr

/-- A sequence context in use: the units it occupies (UNIT words), the command's slot and tag index, its number. -/
structure Sequence where
  kind : SeqKind
  units : List Nat
  slot : Nat
  index : Nat
  /-- The operation's own number: stop option, self-test number, MOVE operation, target state. -/
  arg : Nat
  started : Nat
  deriving DecidableEq, Repr

/-- A proof in progress (R73): who asked, for what unit, and what the sheaf or legs return to. -/
structure ProofRun where
  unit : Nat
  sheaf : Nat
  legs : List Nat
  started : Nat
  /-- The target keeps its state (R79: OFF or WINNOWED targets report only). -/
  report : Bool
  /-- Recovery action of a unit (R443, R447) rather than a PROVE. -/
  recovery : Bool
  /-- Running form of steps for a set of a running sheaf (R320). -/
  running : Bool
  deriving DecidableEq, Repr

/-- A pending SWAP of one sheaf (R89, R94). -/
structure SwapWait where
  sheaf : Nat
  slot : Nat
  index : Nat
  /-- Device-wide SWAP (R93). -/
  wide : Bool
  /-- The fabric tick on which the swap word completes its crossing (R90). -/
  word : Nat
  deriving DecidableEq, Repr

/-- A value delivered and not yet at its boundary (R144, R152), or held while a SWAP pends (R94). -/
structure PendingWrite where
  addr : Nat
  value : Word
  /-- Also replaces the shadow (class O written directly). -/
  both : Bool
  /-- Lands in the shadow only. -/
  shadow : Bool
  /-- Held until the pending swap of this sheaf (R94). -/
  heldFor : Option Nat
  /-- The tick on which it was delivered (R23, R144). -/
  tick : Nat
  deriving DecidableEq, Repr

/-- Power, reset and mode of the device (chapters Contacts and Supplies, Start-up). -/
structure Dev where
  /-- VSUP has risen through 8.6 V and has not been lost (R52, R55). -/
  powered : Bool
  /-- nPOR is low (R54). -/
  nporLow : Bool
  state : DevState
  /-- The supervisor's start tests have ended (R53). -/
  tested : Bool
  /-- Shutdown paths have passed a test since power-up (Table 3-7, code 8). -/
  pathPassed : Bool
  /-- SAFE causes present (R532), without repeats. -/
  causes : List SafeCause
  /-- The slot that wrote SERVICE (R500). -/
  serviceHost : Option Nat
  /-- When device PROOF began, and the command that asked for it. -/
  proofStart : Nat
  pathTesting : Bool
  /-- The sheaves that the last device PROOF proved (R80). -/
  proved : List Nat
  /-- The firmware has reached running (R507); the boot ROM found a bootable slot. -/
  fwRunning : Bool
  bootable : Bool
  /-- VSUP over-voltage is present (Table 2-5). -/
  vsupOver : Bool
  /-- Debug halt in force (R450). -/
  halted : Bool
  /-- The cause that the next POWERUP reports (R72). -/
  cause : Nat
  /-- A device state that is being left for STANDBY: the slot that asked (0xFF the device itself), and the low half of its
  service-log entry (Table 19-9). -/
  exiting : Option (Nat × Nat)
  /-- The part is a TH9648-AD0 (R4, R5). -/
  partAD0 : Bool
  /-- Next acceptance number (R36), next use of a free value. -/
  nextOrder : Nat
  free : Nat
  deriving DecidableEq, Repr

/-- Device time and its synchronisation (R29-R31, R131). -/
structure Time where
  /-- Device time, 64-bit ns. -/
  now : Nat
  /-- The latest instant that an event of the fabric has fixed, in fine units of 78.125 ps (chapter Pulse Generation). -/
  fine : Nat
  /-- The islands' replicas stand at this time (R30). -/
  replica : Nat
  /-- Vehicle time minus device time. -/
  offset : Int
  lastSync : Option Nat
  goodRun : Nat
  missedRun : Nat
  deriving DecidableEq, Repr

/-- What survives reset and loss of supply: the store and the record region (Table 3-1, Table 2-8). -/
structure Store where
  /-- Image-store bytes of slots A and B (Table 3-1 addresses); an unlisted byte reads 0 (assumption log 8). -/
  bytes : KMap Byte
  /-- Firmware-store bytes: slot number times 2^24 plus offset. -/
  fwBytes : KMap Byte
  journal : List JournalRec
  journalCount : Nat
  graveCount : Nat
  log : List (Nat × Word × Word)
  logCount : Nat
  floor : Nat
  commits : Nat
  /-- Attach counters of the slots (R104). -/
  attach : KMap Nat
  /-- The last fault record written at supply loss (R55). -/
  lastRecord : Option JournalRec
  /-- Firmware slots FA and FB: state code (SVC.FW_STATE_A), version, IFACE of the header (R3, R505); the running one; the firmware
  floor. -/
  fwState : List Nat
  fwVersion : List Nat
  fwIface : List Nat
  fwRun : Nat
  fwFloor : Nat
  fwFallbacks : Nat
  /-- The module has been supplied before (R72, R62). -/
  supplied : Bool
  deriving DecidableEq, Repr

/-- The store claim of NV_COMMIT (R96, R97). -/
structure Commit where
  claim : Option Nat
  last : Nat
  /-- The held header bytes 0x000 to 0x07F received so far. -/
  header : KMap Byte
  /-- Pause between image writes in progress until (R468). -/
  pauseUntil : Nat
  fwClaim : Option Nat
  fwHeader : KMap Byte
  fwLast : Nat
  deriving DecidableEq, Repr

/-- Why a leg is winnowed (LEG.WINNOW_CAUSE). -/
inductive WinnowCause where
  | none | command | own | set | sheaf
  deriving DecidableEq, Repr

/-- The code of LEG.WINNOW_CAUSE. -/
def WinnowCause.code : WinnowCause → Nat
  | .none => 0 | .command => 1 | .own => 2 | .set => 3 | .sheaf => 4

/-- An orderly stop in progress (R124): where it ends, and whether its stop word is on its way (R216). -/
structure StopRun where
  toOff : Bool
  word : Bool
  since : Nat
  deriving DecidableEq, Repr

/-- A sheaf (R17, R87). -/
structure Sheaf where
  state : SheafState
  stop : Option StopRun
  /-- The units whose error put it in WINNOWED (R445), as UNIT words. -/
  causes : List Nat
  /-- Winnowed by a WINNOW of the sheaf. -/
  commanded : Bool
  /-- Two shorts in the sheaf: every leg at OPEN whatever the selection (R180, R312). -/
  forceOpen : Bool
  /-- The start word is on its way; the first reload has not come yet (R215). -/
  starting : Bool
  /-- SHEAF_STOP has stopped it: no automatic start until a SHEAF_START (R378). -/
  held : Bool
  deriving DecidableEq, Repr

/-- A sheaf in OFF. -/
def Sheaf.init : Sheaf where
  state := .off
  stop := none
  causes := []
  commanded := false
  forceOpen := false
  starting := false
  held := false

/-- How a gate is driven along one edge (Table 6-2): the phase-1 current (µA) and its time (ns), the phase-2 current (µA) and the gate
level (mV) that ends it, the phase-3 current (µA) and the level (mV) it drives to. A single stepped current has no phase 1. -/
structure GatePhases where
  preCurrent : Nat
  preTime : Nat
  plateauCurrent : Nat
  plateauEnd : Int
  holdCurrent : Nat
  level : Int
  deriving DecidableEq, Repr

/-- No current. -/
def GatePhases.none : GatePhases where
  preCurrent := 0
  preTime := 0
  plateauCurrent := 0
  plateauEnd := 0
  holdCurrent := 0
  level := 0

/-- A profile word (R167): the leg's band, the current band, the phases of the next turn-on and turn-off, and whether its check is good
(R168). -/
structure ProfileWord where
  band : Nat
  current : Nat
  on : GatePhases
  off : GatePhases
  good : Bool
  /-- The word orders the fall-back profile (R172, force bit FB). -/
  fallback : Bool
  deriving DecidableEq, Repr

/-- No word with a good check. -/
def ProfileWord.none : ProfileWord where
  band := 0
  current := 0
  on := GatePhases.none
  off := GatePhases.none
  good := false
  fallback := false

/-- One switch of a leg with its driver. -/
structure Driver where
  /-- The edge line commands on (R206). -/
  command : Bool
  /-- The gate is on. -/
  on : Bool
  /-- Soft turn-off is running (R176). -/
  soft : Bool
  /-- The active Miller clamp is enabled: it joins the gate to the off rail once the gate is below VOFF + MILLER_V (R166, R176). -/
  miller : Bool
  /-- Desaturation latch (R177). -/
  desat : Bool
  /-- Fall-back profile to the next sheaf reload (R171). -/
  fallback : Bool
  /-- The supply domain is in undervoltage lockout (R57). -/
  uv : Bool
  /-- When the command was last removed (R161), and when the on command that stands was taken (R174). -/
  offAt : Nat
  onAt : Nat
  /-- The profile words on their way or held, newest first, each with the time at which the driver holds it complete (R167). -/
  words : List (Nat × ProfileWord)
  /-- What drives the gate since its last edge (R166, R169, R176). -/
  drive : GatePhases
  /-- The last edge line event taken, in fine units. -/
  edge : Nat
  deriving DecidableEq, Repr

/-- A driver without supply, off. -/
def Driver.init : Driver where
  command := false
  on := false
  soft := false
  miller := false
  desat := false
  fallback := false
  uv := true
  offAt := 0
  onAt := 0
  words := []
  drive := GatePhases.none
  edge := 0

/-- A leg (chapter Legs and Gate Drive). -/
structure Leg where
  cause : WinnowCause
  hs : Driver
  ls : Driver
  /-- Over-current latch (R175, R177). -/
  oc : Bool
  /-- Both switches held off to the next period start (R181). -/
  shootHold : Bool
  /-- A conflict was sampled in the present period (R183); one was sampled on the edge of the coming period start (R182). -/
  shootNow : Bool
  shootNext : Bool
  band : Nat
  /-- A band on its way to the fabric, with the tick on which it is delivered (R165). -/
  bandNext : Option (Nat × Nat)
  /-- The band that its estimate, or BAND_FAILSAFE, gives whatever a force bit says (Table 6-6). -/
  bandOwn : Nat
  /-- The failsafe band is in use (R164). -/
  failsafe : Bool
  /-- The isolated gate supplies are enabled (R56). -/
  supplies : Bool
  /-- The deviation of Lnn.CS from CS_ZERO in mV and its current band as the leg island last sampled them (R167, R190). -/
  dev : Int
  current : Nat
  /-- Supervisor block line without ASC select, and with it (Table 1-3). -/
  block : Bool
  asc : Bool
  /-- Proof step 3 is deferred (R75). -/
  deferred : Bool
  /-- Last eight records, newest first (R190). -/
  log : List FaultRec
  /-- Times of profile-timing faults within the last second (R171). -/
  profFaults : List Nat
  /-- Phase-2 times of the last 256 edges of each kind (GATE.EDGE_STAT_k). -/
  edges : KMap (List Nat)
  deriving DecidableEq, Repr

/-- A leg at rest: no supplies, both switches off. -/
def Leg.init : Leg where
  cause := .none
  hs := Driver.init
  ls := Driver.init
  oc := false
  shootHold := false
  shootNow := false
  shootNext := false
  band := 3
  bandNext := none
  bandOwn := 3
  failsafe := true
  supplies := false
  dev := 0
  current := 0
  block := false
  asc := false
  deferred := false
  log := []
  profFaults := []
  edges := []

/-- The safety supervisor (chapter Safety Functions). -/
structure Supervisor where
  /-- Levels of nSTOA and nSTOB (high true). -/
  stoA : Bool
  stoB : Bool
  /-- STO is latched (R407). -/
  latched : Bool
  /-- Since when the two inputs have differed (R408). -/
  differSince : Option Nat
  /-- A discrepancy was raised; the latch waits for both low, then both high (R408). -/
  discrepancy : Bool
  bothLowSeen : Bool
  /-- Path B holds the traction gate supplies removed (R39, R405). -/
  pathB : Bool
  /-- The selection between ASC and OPEN (R311). -/
  asc : Bool
  /-- Its own evaluation of the TRC port is valid; since when it has not been (R411). -/
  valid : Bool
  invalidSince : Option Nat
  /-- TRC.MODE as it stands for the SLS limit, 0 to 3 (R413). -/
  slsMode : Nat
  /-- Rotor position in 1/2^24 turn, SDI reference, SLP reference (R414, R415). -/
  pos : Int
  sdiRef : Int
  slpRef : Int
  /-- Unintended torque has exceeded its margin since (R409). -/
  torqueSince : Option Nat
  /-- Consecutive cross-check differences of a port (R411). -/
  crossRuns : KMap Nat
  /-- Evaluation of an actuator's port is valid, per actuator (R411). -/
  actValid : KMap Bool
  /-- Its own count of actuator k in 1/2^24 turn, and the reference that turns it into a position (R416). -/
  actCount : KMap Int
  actRef : KMap Int
  /-- Demand of actuator k's SLP is present (SAFE.STATE [6:5]). -/
  slpAct : KMap Bool
  /-- When the path test last passed, and whether its age has been reported (R433). -/
  pathAt : Nat
  pathAgeRaised : Bool
  /-- Since when both STO inputs have been high together (R407). -/
  highSince : Option Nat
  /-- Its own speed of a port in mrpm (R411). -/
  speeds : KMap Int
  /-- The next current channel to test (R410). -/
  channel : Nat
  /-- The release signals of the legs, one a leg (R26, row 1): present once the start tests have passed, absent where the supervisor or
  its clock has stopped. -/
  releases : BitVec 48
  deriving DecidableEq, Repr

/-- The supervisor out of reset: both STO inputs high. -/
def Supervisor.init : Supervisor where
  stoA := true
  stoB := true
  latched := false
  differSince := none
  discrepancy := false
  bothLowSeen := false
  pathB := false
  asc := false
  valid := false
  invalidSince := none
  slsMode := 0
  pos := 0
  sdiRef := 0
  slpRef := 0
  torqueSince := none
  crossRuns := []
  actValid := []
  actCount := []
  actRef := []
  slpAct := []
  pathAt := 0
  pathAgeRaised := false
  highSince := some 0
  speeds := []
  channel := 0
  releases := 0

/-- A safety output (R419 to R425). -/
structure Output where
  on : Bool
  /-- A test cycle is running; its outcome so far. -/
  testing : Bool
  /-- When the last cycle completed, when the next is due (R422, R423). -/
  lastCycle : Nat
  nextCycle : Nat
  /-- The warning of R424 has been raised since the last cycle. -/
  warned : Bool
  /-- When the test cycle in progress began; the edge of the 200 MHz clock that sampled the last demand; an off cause is present (R423). -/
  began : Nat
  demand : Option Nat
  caused : Bool
  deriving DecidableEq, Repr

/-- An output off. -/
def Output.init : Output where
  on := false
  testing := false
  lastCycle := 0
  nextCycle := 0
  warned := false
  began := 0
  demand := none
  caused := false
/-- The always-on part of the module: the LVSW latch and the SHIP timer (chapter Auxiliary Converter and Low-voltage
Path). -/
structure LowVolt where
  /-- The latch is open; it is open for TRANSPORT (R388). -/
  latchOpen : Bool
  transport : Bool
  /-- The 2 s open phase of the 10 s reset runs, since when; it was cut short by a reset (R388). -/
  phase : Bool
  phaseFrom : Nat
  cutShort : Bool
  /-- SHIP is low; the hold timer runs since this time. -/
  shipLow : Bool
  shipFrom : Option Nat
  /-- After a wake the timer starts only once SHIP has been seen high. -/
  armed : Bool
  /-- The 10 s action of this hold is done. -/
  done10 : Bool
  /-- The 20 s action of this hold is done. -/
  done20 : Bool
  deriving DecidableEq, Repr

/-- The latch closed, SHIP high. -/
def LowVolt.init : LowVolt where
  latchOpen := false
  transport := false
  phase := false
  phaseFrom := 0
  cutShort := false
  shipLow := false
  shipFrom := none
  armed := true
  done10 := false
  done20 := false

/-- The start and stop course of an auxiliary sheaf (R368 to R371, R378, R380). -/
structure AuxRun where
  /-- A start attempt runs since; its ramp starts from this output (V) . -/
  attemptFrom : Nat
  rampBase : Word
  /-- Limited periods of this attempt, limited periods in a row, and whether a position was cut in this period. -/
  limited : Nat
  consecutive : Nat
  cut : Bool
  /-- A hiccup pause runs until. -/
  pauseEnd : Option Nat
  /-- The sheaf is in diode emulation by its output current (R373). -/
  emulating : Bool
  /-- The length at which the next on interval of AUXI position 0 is capped (R366). -/
  cap : Option Nat
  deriving DecidableEq, Repr

/-- An auxiliary sheaf at rest. -/
def AuxRun.init : AuxRun where
  attemptFrom := 0
  rampBase := 0
  limited := 0
  consecutive := 0
  cut := false
  pauseEnd := none
  emulating := false
  cap := none


/-- The SYNCIN measurement of the fabric (R363, R364): tick of the last rising edge, the last interval in ticks, agreeing
intervals in a row, expected periods without an edge. -/
structure SyncIn where
  edge : Option Nat
  interval : Nat
  agree : Nat
  missed : Nat
  deriving DecidableEq, Repr

/-- No edge seen. -/
def SyncIn.init : SyncIn where
  edge := none
  interval := 0
  agree := 0
  missed := 0

/-- The shed word on its way to the fabric (R375 to R377). -/
inductive ShedWord where
  | none | begin | complete | restore | addOne | addAll
  deriving DecidableEq, Repr

/-- The shedding sequencer (R374 to R377): the shed positions (a mask), the position being shed with its stage (0 decided,
1 S1, 2 S2), the word on its way, since when the condition holds, until when nothing is shed. -/
structure Shedding where
  mask : Nat
  position : Option Nat
  stage : Nat
  word : ShedWord
  since : Option Nat
  hold : Nat
  deriving DecidableEq, Repr

/-- Every phase switching. -/
def Shedding.init : Shedding where
  mask := 0
  position := none
  stage := 0
  word := .none
  since := none
  hold := 0
/-- The carrier of a sheaf (chapter Pulse Generation): start of the present sheaf period in fine units, periods since the
entry to RUN, the period word waiting, the host batches waiting for the sheaf reload (the tick of their delivery; position, compare),
oldest first, and the tick before which the first reload does not fall (R215). -/
structure Carrier where
  start : Nat
  count : Nat
  periodWord : Option Nat
  host : List (Nat × List (Nat × Nat))
  first : Nat
  /-- By trigger generator: the period of its reference for which it last issued or skipped its event. -/
  fired : KMap Nat
  deriving DecidableEq, Repr

/-- A carrier at rest. -/
def Carrier.init : Carrier where
  start := 0
  count := 0
  periodWord := none
  host := []
  first := 0
  fired := []

/-- The compare shadow of a leg group (R201 to R204): compares and phases by position (no entry: unwritten), the words
written since the last group reload (kind times 8 plus position), the tick of that reload, and the reloads since the entry
to RUN. -/
structure Group where
  cmp : KMap (Option Nat)
  phase : KMap (Option Nat)
  unsampled : List Nat
  reloaded : Nat
  count : Nat
  /-- The start of the group's period that its last reload began, in fine units. -/
  start : Nat
  /-- Group-writes whose crossing completes on or after the tick of the coming reload, oldest first: the tick and the words (R202). -/
  held : List (Nat × List Word)
  deriving DecidableEq, Repr

/-- A group with every word unwritten. -/
def Group.init : Group where
  cmp := []
  phase := []
  unsampled := []
  reloaded := 0
  count := 0
  start := 0
  held := []

/-- The leg period in progress: its start and length in fine units, the effective compare (none: both switches held
off), the dead times of its band, whether the high side stayed on from the period before, whether a limit word has cut
it (R365) and whether the low side is off for the rest of it (R373). -/
structure Pulse where
  start : Nat
  period : Nat
  cmp : Option Nat
  dtHs : Nat
  dtLs : Nat
  carriedHigh : Bool
  cut : Bool
  zcd : Bool
  deriving DecidableEq, Repr

/-- No period yet. -/
def Pulse.init : Pulse where
  start := 0
  period := 0
  cmp := none
  dtHs := 0
  dtLs := 0
  carriedHigh := false
  cut := false
  zcd := false

/-- A group-write crossing from the control engine to the fabric (R201): sheaf, group, its words; the lane that sent it and the
stamp of its sample set. -/
structure GroupWrite where
  sheaf : Nat
  group : Nat
  words : List Word
  lane : Nat
  stamp : Nat
  deriving DecidableEq, Repr

/-- An event on an event line (R25): to a fast converter's sequence, or to a port's latch, with its instant. -/
inductive LineEvent where
  | convert (converter sequence time : Nat)
  | latch (port slot time : Nat)
  deriving DecidableEq, Repr

/-- A sample that has joined a lane's set (R277): slot, value, capture stamp. -/
structure Sample where
  slot : Nat
  value : Word
  stamp : Nat
  deriving DecidableEq, Repr

/-- What a computation of a lane gives, formed at its start and published at its end (R279): the group-write, the outputs Y0 to
Y7, errors, integrators, the outputs of both regulators, derivative and slewed references, the items the lane publishes besides;
whether it was closed, saturated (R282), not finite or out of range (R284), at rest (R291), above STEP_TH, and the load current
of a VREG lane (R374). -/
structure LaneResult where
  words : List Word
  y : List Word
  errors : List Word
  integrals : List Word
  outs : List Word
  derivative : Word
  reference : List Word
  pll : List Word
  items : List (Nat × Word)
  closed : Bool
  saturated : Bool
  bad : Bool
  rest : Bool
  step : Bool
  load : Word
  deriving DecidableEq, Repr

/-- A loop lane beside its registers (chapter Control Engine). -/
structure Lane where
  /-- Held OPEN by a pause of its sheaf (R370, R385). -/
  held : Bool
  /-- Closed at its last computation (R292). -/
  wasClosed : Bool
  /-- The sample set being formed: the stamp that opened it, the samples joined, the slots known missed (a mask). -/
  opened : Option Nat
  joined : List Sample
  missed : Nat
  /-- The computation that runs, its sample stamp and start. -/
  busy : Option LaneResult
  stamp : Nat
  began : Nat
  /-- A completed set that waits for the lane (R280). -/
  waiting : Option (Nat × List Sample)
  /-- The stamp of the last computation; none after an opening, a skip or a discard (R281). -/
  last : Option Nat
  /-- Consecutive missed sets, saturated computations, computations at rest (R278, R282, R291). -/
  missRun : Nat
  satRun : Nat
  restRun : Nat
  /-- Derivative state of the VREG regulator; slewed references; phase-locked loop angle and speed. -/
  derivative : Word
  reference : List Word
  pll : List Word
  /-- Outputs are published as valid (R296); the regulators' last outputs (R292); the last closed computation (R290). -/
  valid : Bool
  lastOut : List Word
  closedLast : Option LaneResult
  /-- Consecutive computations with |e| above STEP_TH. -/
  stepRun : Nat
  /-- The engine cycle of the last publication; the outputs before it, as a start on that cycle still reads them (R279). -/
  published : Option Nat
  before : List Word
  beforeValid : Bool
  deriving DecidableEq, Repr

/-- A lane that has computed nothing. -/
def Lane.init : Lane where
  held := false
  wasClosed := false
  opened := none
  joined := []
  missed := 0
  busy := none
  stamp := 0
  began := 0
  waiting := none
  last := none
  missRun := 0
  satRun := 0
  restRun := 0
  derivative := 0
  reference := []
  pll := []
  valid := true
  lastOut := []
  closedLast := none
  stepRun := 0
  published := none
  before := []
  beforeValid := false


/-- The traction sheaf beside its registers (chapter Traction Inverter): when a battery limit and a request were last written,
whether their timeouts are in force (R305, R309), the sets whose share ramps to 0 with its start and
whether it is a thermal stop (R318, R466), the sets that such a stop has winnowed, the
active members at the last computation of lane 6. -/
structure TracRun where
  limitAt : Nat
  fallback : Bool
  requestAt : Nat
  lost : Bool
  ramps : List (Nat × Nat × Bool)
  thermal : List Nat
  members : Option Nat
  deriving DecidableEq, Repr

/-- Nothing written, nothing in force. -/
def TracRun.init : TracRun where
  limitAt := 0
  fallback := false
  requestAt := 0
  lost := false
  ramps := []
  thermal := []
  members := none

/-- A latch result as sent to the control engine (Table 9-3); `pos` is the extended position in 1/2^24 turn. -/
structure LatchResult where
  pos : Int
  angleE : Nat
  speed : Int
  stamp : Nat
  valid : Bool
  extrap : Bool
  standstill : Bool
  ref : Bool
  wire : Bool
  amp : Bool
  forced : Bool
  deriving DecidableEq, Repr

/-- A grid crossing that a compare unit is to report (R269): the tick of its event, the grid index it leads to, the points passed. -/
structure Crossing where
  tick : Nat
  index : Int
  passed : Nat
  deriving DecidableEq, Repr

/-- A feedback port (chapter Position and Speed Feedback). -/
structure Port where
  /-- Extended sensor position: counts (ABZ, HALL, SSI) or 1/2^24 sensor cycle (analogue modes), since POWERUP. -/
  raw : Int
  /-- What homing added to the mechanical position, in 1/2^24 turn (R392). -/
  home : Int
  /-- Input levels as last counted: bit 0 A or H1, bit 1 B or H2, bit 2 Z or H3. -/
  levels : Nat
  /-- The 64 newest edges, or accepted frames: stamp in 2.5 ns ticks, count (R263). -/
  edges : List (Nat × Int)
  /-- An edge, frame or update has come since power-up; the position is referenced (R248, R256). -/
  seen : Bool
  ref : Bool
  /-- The instant (tick) that the last update refers to or on which the last edge or frame stood, the tick on which the newest frame is
  accepted (R259), and the speed of the observer in mrpm. -/
  updated : Nat
  accepted : Nat
  observed : Int
  /-- The last count went down; a speed has been computed since power-up (R266). -/
  down : Bool
  spoke : Bool
  /-- Flags of STATUS that stay until the port is back in service. -/
  wire : Bool
  amp : Bool
  exc : Bool
  ssi : Bool
  zBad : Bool
  plaus : Bool
  standstill : Bool
  extrap : Bool
  /-- The last result was extrapolated over more than EXTRAP_MAX (R261). -/
  far : Bool
  /-- The excitation is on (R252). -/
  excOn : Bool
  /-- Runs of bad amplitude, common mode of pairs A and B, excitation and frames (R251, R252, R259). -/
  ampRun : Nat
  cmRunA : Nat
  cmRunB : Nat
  excRun : Nat
  rejectRun : Nat
  /-- Times of short disagreements within 100 ms (R253). -/
  shorts : List Nat
  /-- The count learned at the first Z edge (R256). -/
  zLearned : Option Int
  /-- Latch results by slot, and when each is formed (R260). -/
  latches : KMap (Option LatchResult)
  formed : KMap Nat
  /-- The last grid index of each compare unit (R268), and the event it has scheduled (R269). -/
  index : KMap (Option Int)
  planned : KMap (Option Crossing)
  deriving DecidableEq, Repr

/-- A port that has seen nothing. -/
def Port.init : Port where
  raw := 0
  home := 0
  levels := 0
  edges := []
  seen := false
  ref := false
  updated := 0
  accepted := 0
  observed := 0
  down := false
  spoke := false
  wire := false
  amp := false
  exc := false
  ssi := false
  zBad := false
  plaus := false
  standstill := true
  extrap := false
  far := false
  excOn := true
  ampRun := 0
  cmRunA := 0
  cmRunB := 0
  excRun := 0
  rejectRun := 0
  shorts := []
  zLearned := none
  latches := []
  formed := []
  index := []
  planned := []

/-- A fast converter (chapter Measurement). Times are ticks of 2.5 ns. -/
structure Fast where
  /-- The sequence in progress: number, next entry, start tick, whether it came from the queue. -/
  run : Option (Nat × Nat × Nat × Bool)
  /-- Triggers that have come and not started, oldest first: sequence and tick of arrival (R222, R223). -/
  queue : List (Nat × Nat)
  /-- The background conversion in progress: input, start tick; the input last converted or abandoned (R224). -/
  background : Option (Nat × Nat)
  last : Nat
  /-- By input: when background last completed (ns), results with SAT in a row, the last result out of limits, open-wire
  checks failed and passed in a row. -/
  done : KMap Nat
  satRun : KMap Nat
  outside : KMap Bool
  owBad : KMap Nat
  owGood : KMap Nat
  deriving DecidableEq, Repr

/-- A converter at rest. -/
def Fast.init : Fast where
  run := none
  queue := []
  background := none
  last := 7
  done := []
  satRun := []
  outside := []
  owBad := []
  owGood := []

/-- A window that has ended and is to be published (R236): its bounds (ns), whether crossings bound it, the input of an urgent one, the
inputs it covers, and which of inputs 30 and 31 the ninth modulator had. -/
structure Window where
  start : Nat
  stop : Nat
  mains : Bool
  urgent : Option Nat
  mask : Word
  ninth : Nat
  deriving DecidableEq, Repr

/-- An integrating converter (chapter Measurement). -/
structure Slow where
  /-- The window in progress since (ns), whether mains crossings bound it, or an urgent one's input. -/
  window : Option Nat
  mains : Bool
  urgent : Option Nat
  /-- Windows ended and not yet published, oldest first; when the last one ended. -/
  closed : List Window
  ended : Option Nat
  /-- Windows ended, for the scan entry; entries left in the pass of a periodic scan; the ninth modulator takes input 31 next (R234). -/
  index : Nat
  passLeft : Nat
  ninth : Bool
  /-- Mains lock (R235): last crossing, last valid one, good periods in a row. -/
  crossing : Option Nat
  valid : Option Nat
  good : Nat
  /-- Energy imported and exported beyond the whole mWh of the counters (R236), in 1/65,536,000² of 10⁻² W·ns·µV². -/
  impRest : Nat
  expRest : Nat
  owBad : KMap Nat
  owGood : KMap Nat
  satRun : KMap Nat
  /-- The newest 24-bit code of each input (R220, R233). -/
  code : KMap Int
  /-- Insulation monitor (R238): 0 idle, 1 state P, 2 state N; since when its path is on (ns); the voltages of the states, µV. -/
  iso : Nat
  isoFrom : Nat
  upP : Option (Int × Int)
  upN : Option (Int × Int)
  deriving DecidableEq, Repr

/-- A converter at rest. -/
def Slow.init : Slow where
  window := none
  mains := false
  urgent := none
  closed := []
  ended := none
  index := 0
  passLeft := 0
  ninth := false
  crossing := none
  valid := none
  good := 0
  impRest := 0
  expRest := 0
  owBad := []
  owGood := []
  satRun := []
  code := []
  iso := 0
  isoFrom := 0
  upP := none
  upN := none


/-- A message object of a CAN FD controller (R479 to R486): the object table's entry, and the frame it holds. -/
structure CanObj where
  cfg : Word
  ident : Word
  mask : Word
  period : Nat
  items : List Word
  /-- The frame held: its bytes, its stamp (R481), whether it is valid, its ESI bit. -/
  data : List Byte
  stamp : Word
  valid : Bool
  esi : Bool
  /-- A transmit request is pending; the word is poisoned (R479); data-field bit errors in a row (R486). -/
  pending : Bool
  poisoned : Bool
  clash : Nat
  /-- When the pending request was made (R480). -/
  asked : Nat
  deriving DecidableEq, Repr

/-- A disabled object. -/
def CanObj.init : CanObj where
  cfg := 0
  ident := 0
  mask := 0
  period := 0
  items := []
  data := []
  stamp := 0
  valid := false
  esi := false
  pending := false
  poisoned := false
  clash := 0
  asked := 0

/-- A CAN FD controller beside its registers (chapter CAN FD Controllers). -/
structure Can where
  objects : KMap CanObj
  /-- The object whose frame was chosen last and is on its way (R480). -/
  chosen : Option Nat
  /-- The rate entry on trial in DETECT, and whether this pass has met an error (R474). -/
  entry : Nat
  /-- The controller held a lock before it was fenced (R477). -/
  wasLocked : Bool
  /-- Times of the bus-offs within 10 s (R484). -/
  busOffs : List Nat
  /-- Device heartbeat sequence number (R492). -/
  beat : Nat
  /-- Transmit and receive error counters, and the code of the last error (CAN.ERR). -/
  tec : Nat
  rec' : Nat
  lastError : Nat
  /-- When the recovery from bus-off began (R484). -/
  recoverFrom : Nat
  /-- When the host heartbeat of a slot was last heard (R492). -/
  heard : KMap Nat
  /-- Messages of each slot waiting for object 4s + 1, oldest first: tag index and completion, or an event, as they were
  formed (R494). -/
  queue : List OutMsg
  deriving DecidableEq, Repr

/-- A controller that has seen nothing. -/
def Can.init : Can where
  objects := []
  chosen := none
  entry := 0
  wasLocked := false
  busOffs := []
  beat := 0
  tec := 0
  rec' := 0
  lastError := 0
  recoverFrom := 0
  heard := []
  queue := []

/-- An arm sequence in progress (R345, Table 12-7): its step, the stage within it, since when it waits; `late` for operation 3. -/
structure ArmRun where
  step : Nat
  stage : Nat
  since : Nat
  late : Bool
  /-- MODE and PHASES as they stood at the CHARGE_ARM (R336). -/
  mode : Nat
  phases : Nat
  deriving DecidableEq, Repr

/-- A hand-over in progress (R349, Table 12-9): its step, the stop cause (0: the end of an arm that failed), since when it runs and
since when its step waits, whether the contactors were closed, and how the arm that failed completes. -/
structure HandRun where
  step : Nat
  cause : Nat
  began : Nat
  since : Nat
  failure : Option (Nat × Nat)
  deriving DecidableEq, Repr

/-- The charger (chapter On-board Charger) beside its items. -/
structure Charge where
  arm : Option ArmRun
  hand : Option HandRun
  /-- Power flows (CHG.STATE RUNNING). -/
  running : Bool
  /-- The session's mode and phase count (0: none yet); the lane roles of Table 12-5 are those of V2L. -/
  mode : Nat
  phases : Nat
  roles : Bool
  /-- The primary legs of the bridges are held off while their secondary legs charge DC1 (Table 12-7, step 3). -/
  precharge : Bool
  /-- CPSW is closed. -/
  cpsw : Bool
  /-- Flags of CHG.FLAGS: watchdog fallback, TIMER latch, plug debounced, CHGD1 alone. -/
  fallback : Bool
  timerLatch : Bool
  debounced : Bool
  alone : Bool
  /-- The value of PWM[3].SYNC_SHEAF before R326 changed it. -/
  sync : Option Word
  /-- A pilot state with its duty, and a reading of PPS, that came during a hand-over (R351). -/
  pilotNext : Option (Nat × Nat)
  plugNext : Option Nat
  /-- Since when the pilot holds B or C, counted from the end of the last hand-over. -/
  plugSince : Option Nat
  /-- When the watchdog last restarted (R340). -/
  watchdog : Nat
  /-- When the charge step began, its weighted time in ns, when it was last advanced; since when the current has stayed below the
  next step's, or below I_TERM. -/
  stepAt : Nat
  weighted : Nat
  advanced : Nat
  below : Option Nat
  /-- The burst or pause of R468: whether it pauses, since when. -/
  burst : Option (Bool × Nat)
  /-- The voltage ceiling of the present step in 0.1 V, as the last firmware update left it (R336, R338). -/
  ceiling : Nat
  deriving DecidableEq, Repr

/-- No session. -/
def Charge.init : Charge where
  arm := none
  hand := none
  running := false
  mode := 0
  phases := 0
  roles := false
  precharge := false
  cpsw := false
  fallback := false
  timerLatch := false
  debounced := false
  alone := false
  sync := none
  pilotNext := none
  plugNext := none
  plugSince := none
  watchdog := 0
  stepAt := 0
  weighted := 0
  advanced := 0
  below := none
  burst := none
  ceiling := 0

/-- The code of CHG.STATE. -/
def Charge.code (c : Charge) : Nat :=
  if c.hand.isSome then 3 else if c.arm.isSome then 1 else if c.running then 2 else 0

/-- A MOVE in progress (Table 14-3): its operation, target in turns, limits, its step (2 pause, 3 latch lift, 4 moving, 5 settling,
6 latch drop; 10 homing, 11 the other way of a learn, 12 back-off, 13 stopping), since when the step runs, the retries spent, whether
it is the homing without a command, and the code and reason of one that is being ended. -/
structure MoveRun where
  op : Nat
  target : Word
  vmax : Word
  amax : Word
  step : Nat
  since : Nat
  retries : Nat
  auto : Bool
  ending : Option (Nat × Nat)
  deriving DecidableEq, Repr

/-- An actuator (chapter Gearbox Actuators): homed by a homing sequence, the first RUN has passed, the MOVE in progress, the ends of
the two pauses of R396, whether the latch is lifted, whether the sheaf stops once the MOVE has ended (Table 17-3). -/
structure ActRun where
  homed : Bool
  ran : Bool
  move : Option MoveRun
  pauseEnd : Nat
  thermEnd : Nat
  lifted : Bool
  stopAfter : Bool
  bandSince : Option Nat
  errSince : Option Nat
  stallSince : Option Nat
  proved : Bool
  deriving DecidableEq, Repr

/-- Never moved. -/
def ActRun.init : ActRun where
  homed := false
  ran := false
  move := none
  pauseEnd := 0
  thermEnd := 0
  lifted := false
  stopAfter := false
  bandSince := none
  errSince := none
  stallSince := none
  proved := false

/-- The temperature estimate of a leg beside LEG.TEMP_EST (chapter Thermal Management): dT, the sensor temperature, the 5 µA bias, the
validity of the estimate, whether source 19 has been raised and not yet re-armed, the sensor temperatures of the last evaluations of
R464, newest first, and the rate of rise they gave. -/
structure Heat where
  dT : Word
  ts : Word
  low : Bool
  valid : Bool
  /-- The last result of Lnn.TS with VALID = 1 and without SAT: its capture time, its voltage in 1/16,384,000,000 µV, whether 5 µA biased
  the sensor at its capture (R457, R459). -/
  reading : Option (Nat × Int × Bool)
  /-- When Lnn.CS last gave a valid result; the number of its valid results since the last estimate, the sums of their distances from
  CS_ZERO and of the squares, in 1/16,384,000,000 µV (R458, R459). -/
  csSeen : Option Nat
  csCount : Nat
  csAbs : Nat
  csSq : Nat
  warned : Bool
  past : List Word
  rate : Word
  deriving DecidableEq, Repr

/-- No reading yet. -/
def Heat.init : Heat where
  dT := 0
  ts := 0
  low := false
  valid := false
  reading := none
  csSeen := none
  csCount := 0
  csAbs := 0
  csSq := 0
  warned := false
  past := []
  rate := 0

/-- Thermal management: the estimates, the rate factors g_k of the traction sets, die temperatures 3 at the last evaluations with
their rate of rise in 0.1 K/s. -/
structure Thermal where
  heats : KMap Heat
  factors : KMap Word
  diePast : List Int
  dieRate : Int
  deriving DecidableEq, Repr

/-- No reading yet, every factor 1. -/
def Thermal.init : Thermal where
  heats := []
  factors := []
  diePast := []
  dieRate := 0


/-- The service-domain discovery and the SPI port: the nonces quieted and until when (R503), the replies scheduled (due, nonce), the
times of the answers of the last second (R504), and the bytes that the last SPI transaction returned (R525). -/
structure Net where
  quiet : List (Nat × Nat)
  replies : List (Nat × Nat)
  answers : List Nat
  spi : List Byte
  deriving DecidableEq, Repr

/-- Nothing heard. -/
def Net.init : Net where
  quiet := []
  replies := []
  answers := []
  spi := []


/-- The state of the device. -/
structure State where
  dev : Dev
  time : Time
  bind : Bind
  regs : KMap Word
  shd : KMap Word
  waits : List PendingWrite
  /-- Items whose storage word is poisoned (R42), and the unit memories that hold a poisoned word (R453). -/
  poison : List Nat
  badWords : List Memory
  /-- Consecutive mismatches of a unit's parameter CRC (R155). -/
  integrity : KMap Nat
  swaps : List SwapWait
  store : Store
  commit : Commit
  lv : LowVolt
  slots : KMap HostSlot
  recs : KMap (Option CmdRec)
  tx : List OutMsg
  seqs : List Sequence
  streams : List Stream
  proofs : List ProofRun
  units : KMap UnitRec
  sheaves : KMap Sheaf
  legs : KMap Leg
  sup : Supervisor
  outs : KMap Output
  lanes : KMap Lane
  carriers : KMap Carrier
  groups : KMap Group
  pulses : KMap Pulse
  events : List LineEvent
  writes : List GroupWrite
  /-- The fabric clock has stopped (R218). -/
  fabricStopped : Bool
  trac : TracRun
  auxI : AuxRun
  auxB : AuxRun
  syncIn : SyncIn
  shed : Shedding
  charge : Charge
  /-- The connection that DEV.HV_REQ makes (R420): since when it waits, and whether the match is done and the contactor moves. -/
  hv : Option (Nat × Bool)
  acts : KMap ActRun
  therm : Thermal
  net : Net
  ports : KMap Port
  fasts : KMap Fast
  slows : KMap Slow
  cans : KMap Can
  /-- When each periodic work of the device was last done (ns), by its number (`Timer`). -/
  timers : KMap Nat
  pending : List Instr
  deriving DecidableEq, Repr

/-- The machine right after its first reset: supplied, in POWERUP with device time at 0 (R29, Table 2-6), nothing attached,
every unit at rest, every register at its default; an image store with both slots erased, firmware in slot FA (assumption
logs 2 and 15). -/
def State.reset : State where
  dev :=
    { powered := true, nporLow := false, state := .powerup, tested := false, pathPassed := false, causes := [],
      serviceHost := none, proofStart := 0, pathTesting := false, proved := [], fwRunning := false, bootable := true, vsupOver := false,
      halted := false, cause := 0, exiting := none, partAD0 := false, nextOrder := 0, free := 0 }
  time := { now := 0, fine := 0, replica := 0, offset := 0, lastSync := none, goodRun := 0, missedRun := 0 }
  bind := Bind.factory
  regs := []
  shd := []
  waits := []
  poison := []
  badWords := []
  integrity := []
  swaps := []
  store :=
    { bytes := [], fwBytes := [], journal := [], journalCount := 0, graveCount := 0, log := [], logCount := 0, floor := 0,
      commits := 0, attach := [], lastRecord := none, fwState := [2, 0], fwVersion := [0x03020000, 0], fwIface := [0x0302, 0], fwRun := 0,
      fwFloor := 0, fwFallbacks := 0, supplied := true }
  commit := { claim := none, last := 0, header := [], pauseUntil := 0, fwClaim := none, fwHeader := [], fwLast := 0 }
  lv := LowVolt.init
  slots := []
  recs := []
  tx := []
  seqs := []
  streams := []
  proofs := []
  units := []
  sheaves := []
  legs := []
  sup := Supervisor.init
  outs := []
  lanes := []
  carriers := []
  groups := []
  pulses := []
  events := []
  writes := []
  fabricStopped := false
  trac := TracRun.init
  auxI := AuxRun.init
  auxB := AuxRun.init
  syncIn := SyncIn.init
  shed := Shedding.init
  charge := Charge.init
  hv := none
  acts := []
  therm := Thermal.init
  net := Net.init
  ports := []
  fasts := []
  slows := []
  cans := []
  timers := []
  pending := []

end Sys2Proof.Machine
end

