-- ==== Sys2Proof/Machine/Ops.lean ====
section
/-! DEFINITION. The named operations on the state that every meaning uses: registers, units, tables, counters, lists. -/

namespace Sys2Proof.Machine

/-- The unit kinds of Table 4-6 and R436, as the top byte of a UNIT word. -/
abbrev Kind.device : Nat := 0
abbrev Kind.sheaf : Nat := 1
abbrev Kind.leg : Nat := 2
abbrev Kind.set : Nat := 3
abbrev Kind.actuator : Nat := 4
abbrev Kind.fastInput : Nat := 5
abbrev Kind.slowInput : Nat := 6
abbrev Kind.port : Nat := 7
abbrev Kind.output : Nat := 8
abbrev Kind.lane : Nat := 9
abbrev Kind.fast : Nat := 0x0A
abbrev Kind.slow : Nat := 0x0B
abbrev Kind.can : Nat := 0x0C
abbrev Kind.supervisor : Nat := 0x0D

/-- The number of a UNIT word: kind in bits [31:24], index in [23:0] (Table 4-6). -/
abbrev unitOf (kind index : Nat) : Nat := kind * 0x1000000 + index

/-- The kind of a unit number. -/
def unitKind (u : Nat) : Nat := u / 0x1000000

/-- The index of a unit number. -/
def unitIndex (u : Nat) : Nat := u % 0x1000000

/-- The active value of a register item. -/
def State.reg (s : State) (a : Nat) : Word := KMap.get (Catalogue.default s.bind) s.regs a

/-- The number a register item holds. -/
def State.regN (s : State) (a : Nat) : Nat := (s.reg a).toNat

/-- The signed number a register item holds. -/
def State.regI (s : State) (a : Nat) : Int := (s.reg a).toInt

/-- Writing the active value of a register item. -/
def State.setReg (s : State) (a : Nat) (w : Word) : State :=
  { s with regs := KMap.put (Catalogue.default s.bind) s.regs a w }

/-- Writing several register items. -/
def State.setRegs (s : State) : List (Nat × Word) → State
  | [] => s
  | (a, w) :: t => (s.setReg a w).setRegs t

/-- The shadow value of an item of class S or O (R148); the image's value stands in both sets at power-up (R89). -/
def State.shadow (s : State) (a : Nat) : Word := KMap.get (Catalogue.default s.bind) s.shd a

/-- Writing the shadow value of an item. -/
def State.setShadow (s : State) (a : Nat) (w : Word) : State :=
  { s with shd := KMap.put (Catalogue.default s.bind) s.shd a w }

/-- Counting one on a 32-bit counter item. -/
def State.bump (s : State) (a : Nat) : State := s.setReg a (s.reg a + 1)

/-- A unit's own record. -/
def State.unit (s : State) (u : Nat) : UnitRec := KMap.get (fun _ => UnitRec.init) s.units u

/-- Writing a unit's own record. -/
def State.setUnit (s : State) (u : Nat) (r : UnitRec) : State :=
  { s with units := KMap.put (fun _ => UnitRec.init) s.units u r }

/-- A sheaf. -/
def State.sheaf (s : State) (n : Nat) : Sheaf := KMap.get (fun _ => Sheaf.init) s.sheaves n

/-- Writing a sheaf. -/
def State.setSheaf (s : State) (n : Nat) (h : Sheaf) : State :=
  { s with sheaves := KMap.put (fun _ => Sheaf.init) s.sheaves n h }

/-- A leg. -/
def State.leg (s : State) (n : Nat) : Leg := KMap.get (fun _ => Leg.init) s.legs n

/-- Writing a leg. -/
def State.setLeg (s : State) (n : Nat) (l : Leg) : State :=
  { s with legs := KMap.put (fun _ => Leg.init) s.legs n l }

/-- A host slot. -/
def State.slot (s : State) (n : Nat) : HostSlot := KMap.get (fun _ => HostSlot.init) s.slots n

/-- Writing a host slot. -/
def State.setSlot (s : State) (n : Nat) (h : HostSlot) : State :=
  { s with slots := KMap.put (fun _ => HostSlot.init) s.slots n h }

/-- The record of a tag of a slot, if held (R113). -/
def State.cmd (s : State) (slot idx : Nat) : Option CmdRec := KMap.get (fun _ => none) s.recs (slot * 64 + idx)

/-- Writing or freeing the record of a tag. -/
def State.setCmd (s : State) (slot idx : Nat) (r : Option CmdRec) : State :=
  { s with recs := KMap.put (fun _ => none) s.recs (slot * 64 + idx) r }

/-- A safety output. -/
def State.out (s : State) (n : Nat) : Output := KMap.get (fun _ => Output.init) s.outs n

/-- Writing a safety output. -/
def State.setOut (s : State) (n : Nat) (o : Output) : State :=
  { s with outs := KMap.put (fun _ => Output.init) s.outs n o }

/-- A loop lane. -/
def State.lane (s : State) (n : Nat) : Lane := KMap.get (fun _ => Lane.init) s.lanes n

/-- Writing a loop lane. -/
def State.setLane (s : State) (n : Nat) (l : Lane) : State :=
  { s with lanes := KMap.put (fun _ => Lane.init) s.lanes n l }

/-- The carrier of a sheaf. -/
def State.carrier (s : State) (n : Nat) : Carrier := KMap.get (fun _ => Carrier.init) s.carriers n

/-- Writing the carrier of a sheaf. -/
def State.setCarrier (s : State) (n : Nat) (c : Carrier) : State :=
  { s with carriers := KMap.put (fun _ => Carrier.init) s.carriers n c }

/-- The compare shadow of group `g` of a sheaf. -/
def State.group (s : State) (n g : Nat) : Group := KMap.get (fun _ => Group.init) s.groups (n * 8 + g)

/-- Writing the compare shadow of a group. -/
def State.setGroup (s : State) (n g : Nat) (x : Group) : State :=
  { s with groups := KMap.put (fun _ => Group.init) s.groups (n * 8 + g) x }

/-- The period in progress of a leg. -/
def State.pulse (s : State) (leg : Nat) : Pulse := KMap.get (fun _ => Pulse.init) s.pulses leg

/-- Writing the period in progress of a leg. -/
def State.setPulse (s : State) (leg : Nat) (x : Pulse) : State :=
  { s with pulses := KMap.put (fun _ => Pulse.init) s.pulses leg x }

/-- A feedback port. -/
def State.port (s : State) (n : Nat) : Port := KMap.get (fun _ => Port.init) s.ports n

/-- Writing a feedback port. -/
def State.setPort (s : State) (n : Nat) (p : Port) : State :=
  { s with ports := KMap.put (fun _ => Port.init) s.ports n p }

/-- A fast converter. -/
def State.fast (s : State) (n : Nat) : Fast := KMap.get (fun _ => Fast.init) s.fasts n

/-- Writing a fast converter. -/
def State.setFast (s : State) (n : Nat) (c : Fast) : State :=
  { s with fasts := KMap.put (fun _ => Fast.init) s.fasts n c }

/-- An integrating converter. -/
def State.slow (s : State) (n : Nat) : Slow := KMap.get (fun _ => Slow.init) s.slows n

/-- Writing an integrating converter. -/
def State.setSlow (s : State) (n : Nat) (c : Slow) : State :=
  { s with slows := KMap.put (fun _ => Slow.init) s.slows n c }

/-- An actuator. -/
def State.actuator (s : State) (k : Nat) : ActRun := KMap.get (fun _ => ActRun.init) s.acts k

/-- Writing an actuator. -/
def State.setActuator (s : State) (k : Nat) (a : ActRun) : State :=
  { s with acts := KMap.put (fun _ => ActRun.init) s.acts k a }

/-- The temperature estimate of a leg. -/
def State.heat (s : State) (leg : Nat) : Heat := KMap.get (fun _ => Heat.init) s.therm.heats leg

/-- Writing the temperature estimate of a leg. -/
def State.setHeat (s : State) (leg : Nat) (h : Heat) : State :=
  { s with therm := { s.therm with heats := KMap.put (fun _ => Heat.init) s.therm.heats leg h } }

/-- The rate factor g_k of a traction set (R464). -/
def State.rateFactor (s : State) (k : Nat) : Word := KMap.get (fun _ => (0x3F800000 : Word)) s.therm.factors k

/-- A CAN FD controller. -/
def State.can (s : State) (n : Nat) : Can := KMap.get (fun _ => Can.init) s.cans n

/-- Writing a CAN FD controller. -/
def State.setCan (s : State) (n : Nat) (c : Can) : State :=
  { s with cans := KMap.put (fun _ => Can.init) s.cans n c }

/-- Doing one thing for each of a list, in order. -/
def State.forEach {α : Type} (s : State) (l : List α) (f : State → α → State) : State := l.foldl f s

/-- The next free word (assumption log 4): a value nothing constrains, and the counter advanced. -/
def State.freeWord (s : State) : Word := Config.freeWord s.dev.free

/-- The state after one use of a free word. -/
def State.useFree (s : State) : State := { s with dev := { s.dev with free := s.dev.free + 1 } }

/-- Adding to a list what it does not hold yet. -/
def insertNew {α : Type} [DecidableEq α] (x : α) (l : List α) : List α := if x ∈ l then l else l ++ [x]

/-- The bytes of a big-endian number of `n` bytes. -/
def beBytes : Nat → Nat → List Byte
  | 0, _ => []
  | n + 1, v => BitVec.ofNat 8 (v / 256 ^ n) :: beBytes n v

/-- The number of big-endian bytes. -/
def beNat (l : List Byte) : Nat := l.foldl (fun a b => a * 256 + b.toNat) 0

/-- `n` bytes of a list from an offset, as a big-endian number. -/
def beAt (l : List Byte) (off n : Nat) : Nat := beNat ((l.drop off).take n)

/-- The bytes of a word. -/
def wordBytes (w : Word) : List Byte := beBytes 4 w.toNat

/-- The device runs its shell and islands: powered, out of reset, not in TRANSPORT (R52, R54, R86). -/
def State.live (s : State) : Bool :=
  s.dev.powered && !s.dev.nporLow && decide (s.dev.state ≠ .transport)

/-- A command's effect, which only a live device gives. -/
def State.whenLive (s : State) (f : State → State) : State := if s.live then f s else s

/-- The fabric tick (2.5 ns) in which a device time lies, and the time at which a tick begins (Table 1-5).
DESIGN CHOICE: assumption log 101. -/
def tickOf (ns : Nat) : Nat := ns * 2 / 5
def tickTime (tick : Nat) : Nat := tick * 5 / 2

/-- The device time in ns at which a fine unit falls; a tick is 32 fine units. -/
def fineTime (f : Nat) : Nat := f * 5 / 64

/-- Moving device time on to an instant that an event fixes; it never moves back (R29). DESIGN CHOICE: assumption log 16.
DESIGN CHOICE: assumption log 18. -/
def State.reach (s : State) (t : Nat) : State := { s with time := { s.time with now := Nat.max s.time.now t } }

/-- Moving on to an instant of the fabric, in fine units. -/
def State.reachFine (s : State) (f : Nat) : State :=
  { s with time := { s.time with now := Nat.max s.time.now (fineTime f), fine := Nat.max s.time.fine f } }

/-- Moving on to the beginning of a fabric tick. -/
def State.reachTick (s : State) (tick : Nat) : State := s.reachFine (tick * 32)

/-- The fabric tick that has come: device time is held in whole ns, the instants of the fabric are finer. -/
def State.tick (s : State) : Nat := Nat.max (tickOf s.time.now) (s.time.fine / 32)

/-- The tick on which a word sent now completes its crossing to the fabric: 2 to 3 of its cycles on; which of them depends on the phase of
the clocks, which the spec leaves open (R21): a free value. DESIGN CHOICE: assumption log 107. -/
def State.crossTick (s : State) : Nat := s.tick + 2 + s.freeWord.toNat % 2

/-- Whether a force bit of a unit is set. -/
def State.forced (s : State) (u k : Nat) : Bool := bitOf (s.unit u).force k

/-- Whether the one-time effect of a force bit is still to come. DEDUCED: assumption log 28. -/
def State.forceArmed (s : State) (u k : Nat) : Bool := bitOf (s.unit u).forceArmed k

/-- Using up the one-time effect of a force bit; the bit itself stays set (R188). -/
def State.useForce (s : State) (u k : Nat) : State :=
  let r := s.unit u
  s.setUnit u { r with forceArmed := r.forceArmed &&& ~~~(nw (2 ^ k)) }

end Sys2Proof.Machine
end

