-- ==== Sys2Proof/Machine/Report.lean ====
section
/-! DEFINITION. What the device tells its hosts and its journals: messages, completions, events, fault records, service
log entries. -/

namespace Sys2Proof.Machine

/-- Whether a port number names a CAN controller (3 to 6: C0 to C3). -/
def isCanPort (port : Nat) : Bool := decide (3 ≤ port) && decide (port ≤ 6)

/-- The smallest CAN FD data length that holds `n` bytes (R490). -/
def canLength (n : Nat) : Nat := ([0, 1, 2, 3, 4, 5, 6, 7, 8, 12, 16, 20, 24, 32, 48, 64].find? (fun d => decide (n ≤ d))).getD 64

/-- Bytes padded with zeros to a length, or cut to it. -/
def padTo (n : Nat) (l : List Byte) : List Byte := (l ++ List.replicate (n - l.length) 0).take n

/-- A message object of a controller. -/
def Can.object (c : Can) (k : Nat) : CanObj := KMap.get (fun _ => CanObj.init) c.objects k

/-- Writing a message object. -/
def Can.setObject (c : Can) (k : Nat) (o : CanObj) : Can := { c with objects := KMap.put (fun _ => CanObj.init) c.objects k o }

/-- The compact frame of a message (Table 18-5). DEDUCED: assumption log 52. -/
def compactFrame (m : OutMsg) : List Byte :=
  padTo (canLength (16 + m.payload.length))
    ([BitVec.ofNat 8 m.kind, BitVec.ofNat 8 (m.code % 8 * 32 + Nat.min 16 m.credits), BitVec.ofNat 8 (m.index % 64),
      BitVec.ofNat 8 m.opcode, BitVec.ofNat 8 m.payload.length, BitVec.ofNat 8 m.reason] ++ beBytes 2 m.fresh
      ++ beBytes 8 m.mac.toNat ++ m.payload)

/-! ## Authentication -/

/-- Bytes 0x00 to 0x17 of a host-to-device message (Table 4-4). -/
def hostHeader (m : HostMsg) : List Byte :=
  [m.kind, m.flags] ++ beBytes 2 m.tag.toNat ++ beBytes 2 m.opcode.toNat ++ beBytes 2 m.length.toNat ++ wordBytes m.fresh
    ++ wordBytes m.unit ++ beBytes 2 m.timeout.toNat ++ beBytes 6 m.atTime.toNat

/-- Bytes 0x00 to 0x17 of a device-to-host message (Table 4-5); a compact one is reconstructed with TIME 0 (R489). -/
def outHeader (m : OutMsg) : List Byte :=
  [BitVec.ofNat 8 m.kind, BitVec.ofNat 8 m.code] ++ beBytes 2 (m.slot % 8 * 64 + m.index % 64) ++ beBytes 2 m.opcode
    ++ beBytes 2 m.payload.length ++ beBytes 4 m.fresh ++ [BitVec.ofNat 8 m.reason, 0] ++ beBytes 2 m.credits
    ++ beBytes 8 (if isCanPort m.port then 0 else m.time)

/-- Whether a host message carries the CMAC of its header and payload under a key (R104, R106). -/
def authentic (m : HostMsg) (key : BitVec 128) : Bool := decide (m.mac = Crypto.mac key (hostHeader m ++ m.payload))

/-- A device-to-host message with its CMAC under a key (R106). -/
def OutMsg.sign (m : OutMsg) (key : BitVec 128) : OutMsg := { m with mac := Crypto.mac key (outHeader m ++ m.payload) }

/-- The root key of a slot (Table 4-13, KEY0 to KEY3). -/
def State.rootKey (s : State) (slot : Nat) : BitVec 128 :=
  s.reg (Item.HOST.KEY slot 0) ++ s.reg (Item.HOST.KEY slot 1) ++ s.reg (Item.HOST.KEY slot 2) ++ s.reg (Item.HOST.KEY slot 3)

/-- The session key that an attachment derives (R105): label "THS", context slot, device nonce, host nonce. PRESUMED: assumption log 5. -/
def State.sessionKey (s : State) (slot : Nat) (device host : BitVec 128) : BitVec 128 :=
  Crypto.derive (s.rootKey slot) [0x54, 0x48, 0x53] (BitVec.ofNat 8 slot :: (beBytes 16 device.toNat ++ beBytes 16 host.toNat))

/-- The nominal and the data rate of a rate entry in kbit/s (CAN.ARD_k); a nominal rate of 0 ends the table. -/
def State.ardNominal (s : State) (n k : Nat) : Nat := if k < 8 then bitsOf (s.reg (Item.CAN.ARD n k)) 31 16 else 0
def State.ardData (s : State) (n k : Nat) : Nat := bitsOf (s.reg (Item.CAN.ARD n k)) 15 0

/-- The rate entry in use (R474): the one on trial in DETECT, the locked one; none at the configured rates. -/
def State.canEntry (s : State) (n : Nat) : Option Nat :=
  let w := s.reg (Item.CAN.ARD_LOCK n)
  if s.regN (Item.CAN.STATE n) = 1 then some (s.can n).entry else if bitOf w 31 then some (bitsOf w 18 16) else none

/-- Whether a controller runs classic frames only at the rates in use (R472). -/
def State.canClassic (s : State) (n : Nat) : Bool :=
  match s.canEntry n with
  | some k => decide (s.ardData n k = 0)
  | none => decide (s.reg (Item.CAN.DBT n) = 0)

/-- Whether the messages of a controller go out with BRS (R488): its data rate is configured, or verified. -/
def State.canBrs (s : State) (n : Nat) : Bool :=
  !s.canClassic n && (!bitOf (s.reg (Item.CAN.ARD_LOCK n)) 31 || bitOf (s.reg (Item.CAN.ARD_LOCK n)) 30)

/-- An object with a frame to send; its request keeps its place where one is pending (R480, R482). -/
def CanObj.request (o : CanObj) (data : List Byte) (now : Nat) : CanObj :=
  { o with data := data, valid := true, pending := true, asked := if o.pending then o.asked else now }

/-- The next waiting message of a slot goes into its object 4s + 1 once that is free (R488, R494). -/
def State.canLoad (s : State) (n slot : Nat) : State :=
  let c := s.can n
  let o := c.object (4 * slot + 1)
  if o.pending then s
  else
    match c.queue.find? (fun m => decide (m.slot = slot)) with
    | none => s
    | some m =>
      let cfg := (o.cfg &&& 0xF7FFFFFF) ||| (if s.canBrs n then 0x08000000 else 0)
      s.setCan n (c.setObject (4 * slot + 1) ({ o with cfg := cfg }.request (compactFrame m) s.time.now))

/-- A message of a slot attached through a controller joins its queue (R494). -/
def State.canQueue (s : State) (n : Nat) (m : OutMsg) : State :=
  let c := s.can n
  (s.setCan n { c with queue := c.queue ++ [m] }).canLoad n m.slot

/-- Streams of a slot close (R111). -/
def State.closeStreams (s : State) (slot : Nat) : State :=
  { s with streams := s.streams.filter (fun x => decide (x.slot ≠ slot)) }

/-- Detaching a slot (R111): held for 2 s with its completions and claims, its streams closed, its claim of the image
store ended (R96, R97). -/
def State.detachSlot (s : State) (slot : Nat) : State :=
  let h := s.slot slot
  if h.status = .attached then
    let s1 := (s.setSlot slot { h with status := .held, heldAt := s.time.now, fails := 0 }).closeStreams slot
    let s2 := if s1.commit.claim = some slot then { s1 with commit := { s1.commit with claim := none, header := [] } } else s1
    if s2.commit.fwClaim = some slot then { s2 with commit := { s2.commit with fwClaim := none, fwHeader := [] } } else s2
  else s

/-- Putting a message on its way out. -/
def State.emit (s : State) (m : OutMsg) : State :=
  if isCanPort m.port then s.canQueue (m.port - 3) m else { s with tx := s.tx ++ [m] }

/-- Sending one device-to-host message to an attached slot (Table 4-5), with the time it carries: the slot's own freshness counter goes
up (R108), its returned credits go out with the message (R116), and the session key signs it (R106). A slot that is not attached gets
none. DESIGN CHOICE: assumption log 76. -/
def State.sendAt (s : State) (slot kind code index opcode reason time : Nat) (port : Option Nat) (payload : List Byte) : State :=
  let h := s.slot slot
  if h.status = .attached then
    let m : OutMsg :=
      { slot := slot, port := port.getD h.port, kind := kind, code := code, index := index, opcode := opcode, reason := reason,
        fresh := h.freshOut + 1, credits := h.owed, time := time, payload := payload, mac := 0 }
    (s.setSlot slot { h with
      freshOut := h.freshOut + 1, credits := h.credits + h.owed, owed := 0
      lastCredit := if kind = 0x12 then s.time.now else h.lastCredit }).emit (m.sign h.key)
  else s

/-- Sending one device-to-host message of now. -/
def State.send (s : State) (slot kind code index opcode reason : Nat) (payload : List Byte) : State :=
  s.sendAt slot kind code index opcode reason s.time.now none payload

/-- An unaddressed message on a port (DISCOVER answers, SD replies), whose CMAC is zero. -/
def State.sendRaw (s : State) (port kind code index opcode reason : Nat) (payload : List Byte) : State :=
  { s with tx := s.tx ++ [{ slot := 8, port := port, kind := kind, code := code, index := index, opcode := opcode,
                            reason := reason, fresh := 0, credits := 0, time := s.time.now, payload := payload, mac := 0 }] }

/-- The answer to an attach or detach that gives no session: on CAN through the object of the slot that the identifier names. The spec
names no key for it: its CMAC is a free value. DESIGN CHOICE: assumption log 125. -/
def State.reply (s : State) (port : Nat) (only : Option Nat) (code opcode reason : Nat) : State :=
  s.useFree.useFree.emit { slot := only.getD 8, port := port, kind := 0x11, code := code, index := 0, opcode := opcode, reason := reason,
                           fresh := 0, credits := 0, time := s.time.now, payload := [], mac := s.freeWord ++ s.useFree.freeWord }

/-- An EVENT to one slot, where its EVENT_MASK enables the code (R128). -/
def State.eventTo (s : State) (slot code : Nat) (payload : List Byte) : State :=
  if bitOf (s.reg (Item.HOST.EVENT_MASK slot)) (code - 1) then s.send slot 0x14 code 0 0 0 payload else s

/-- An EVENT to every attached slot whose EVENT_MASK enables it (R128). -/
def State.event (s : State) (code : Nat) (payload : List Byte) : State :=
  s.forEach (List.range 8) (fun t n => t.eventTo n code payload)

/-- The FAULT event of a record or recovery (Table 4-10, R455). -/
def State.faultEvent (s : State) (u : Nat) (cls : FaultClass) (src : Nat) : State :=
  s.event 3 (beBytes 4 u ++ [BitVec.ofNat 8 cls.code, BitVec.ofNat 8 src, 0, 0])

/-- The source word of a record (R190): class, source number, forced flag. -/
def sourceWord (cls : FaultClass) (src : Nat) (forced : Bool) : Word :=
  nw (cls.code * 0x1000000 + src % 256 * 0x10000 + (if forced then 1 else 0))

/-- Writing a record to the journal of 1,024 (R454). -/
def State.journalPut (s : State) (j : JournalRec) : State :=
  { s with store := { s.store with journal := (j :: s.store.journal).take 1024, journalCount := s.store.journalCount + 1 } }

/-- Keeping a record in a leg's own log of eight (R190). -/
def State.legLog (s : State) (u : Nat) (r : FaultRec) : State :=
  if unitKind u = Kind.leg then
    let l := s.leg (unitIndex u)
    s.setLeg (unitIndex u) { l with log := (r :: l.log).take 8 }
  else s

/-- Whether a class-W source may send its event now (R455: none within FLT.W_EVT_GAP of its last). DEDUCED: assumption log 103. -/
def State.eventDue (s : State) (u src : Nat) : Bool :=
  match KMap.find (s.unit u).lastEvent src with
  | none => true
  | some t => decide (t + s.regN Item.FLT.W_EVT_GAP * 1000000 ≤ s.time.now)

/-- Noting when a source sent its event. -/
def State.noteEvent (s : State) (u src : Nat) : State :=
  let r := s.unit u
  s.setUnit u { r with lastEvent := KMap.ins r.lastEvent src s.time.now }

/-- The context word of a leg's record (R190): its band, the current band and the deviation of Lnn.CS in mV as the leg island last
sampled them. -/
def Leg.context (l : Leg) : Word := nw (l.band % 4 * 2 ^ 30 + l.current % 4 * 2 ^ 28 + (l.dev % 65536).toNat)

/-- Making a record (R439, R440, R454, R455): leg log, journal for classes F, L and G, FAULT event. -/
def State.record (s : State) (u : Nat) (cls : FaultClass) (src : Nat) (forced : Bool) : State :=
  let r : FaultRec :=
    { time := s.time.now, source := sourceWord cls src forced,
      context := if unitKind u = Kind.leg then (s.leg (unitIndex u)).context else 0 }
  let s1 := s.legLog u r
  match cls with
  | .none => s
  | .W => if s1.eventDue u src then (s1.faultEvent u .W src).noteEvent u src else s1
  | c => (s1.journalPut { unit := nw u, record := r }).faultEvent u c src

/-- Setting what a unit's fault status shows. -/
def State.setFault (s : State) (u : Nat) (st : Handling) (cls : FaultClass) (src : Nat) : State :=
  let r := s.unit u
  s.setUnit u { r with state := st, cls := cls, src := src }

/-- The fault status word of a unit (LEG.FAULT_STATUS). -/
def UnitRec.word (r : UnitRec) : Word := nw (r.state.code * 0x1000000 + r.cls.code * 0x10000 + r.src)

/-- An entry of the service log of 4,096 (R510): event code, slot (0xFF the device itself), low half, detail. -/
def State.serviceLog (s : State) (code slot low : Nat) (detail : Word) : State :=
  { s with store := { s.store with
      log := ((s.time.now, nw (code * 0x1000000 + slot * 0x10000 + low % 0x10000), detail) :: s.store.log).take 4096
      logCount := s.store.logCount + 1 } }

/-- Sending the completion that a record holds; a resend is not queued while a frame of it waits on CAN (R114, R494). -/
def State.sendCompletion (s : State) (slot index : Nat) (r : CmdRec) (again : Bool) : State :=
  let h := s.slot slot
  if again && isCanPort h.port && (s.can (h.port - 3)).queue.any (fun m => decide (m.slot = slot) && decide (m.kind = 0x11)
      && decide (m.index = index) && decide (m.time = r.completed)) then s
  else s.sendAt slot 0x11 r.code index r.msg.opcode.toNat r.reason r.completed none r.result

/-- Completing a command (Table 4-8): its record holds the completion until it is collected (R114), and the COMPLETION
message goes out; a slot that has been freed meanwhile keeps no completion (R112). DEDUCED: assumption log 77. -/
def State.complete (s : State) (slot index code reason : Nat) (result : List Byte) : State :=
  match s.cmd slot index with
  | none => s
  | some c =>
    if (s.slot slot).status = .free then s.setCmd slot index none
    else
      let r := { c with state := .done, code := code, reason := reason, result := result, completed := s.time.now, sent := s.time.now }
      (s.setCmd slot index (some r)).sendCompletion slot index r false

/-- Completion codes of Table 4-8. -/
abbrev Code.ok : Nat := 0
abbrev Code.busyClosed : Nat := 1
abbrev Code.denied : Nat := 2
abbrev Code.invalid : Nat := 3
abbrev Code.dropped : Nat := 4
abbrev Code.timeout : Nat := 5
abbrev Code.aborted : Nat := 6
abbrev Code.late : Nat := 7

/-- Completion reasons of Table 3-7 and Table 4-9. -/
abbrev Reason.none : Nat := 0
abbrev Reason.notReady : Nat := 1
abbrev Reason.sto : Nat := 2
abbrev Reason.cable : Nat := 3
abbrev Reason.park : Nat := 4
abbrev Reason.speed : Nat := 5
abbrev Reason.exclusive : Nat := 6
abbrev Reason.safeCause : Nat := 7
abbrev Reason.pathTest : Nat := 8
abbrev Reason.state : Nat := 9
abbrev Reason.rights : Nat := 10
abbrev Reason.linkLow : Nat := 11
abbrev Reason.hsShort : Nat := 12
abbrev Reason.exitUnplug : Nat := 13
abbrev Reason.exitMains : Nat := 14
abbrev Reason.exitPark : Nat := 15
abbrev Reason.exitTimer : Nat := 16
abbrev Reason.auth : Nat := 32
abbrev Reason.fresh : Nat := 33
abbrev Reason.noRight : Nat := 34
abbrev Reason.noSlot : Nat := 35
abbrev Reason.opcode : Nat := 36
abbrev Reason.unit : Nat := 37
abbrev Reason.range : Nat := 38
abbrev Reason.readOnly : Nat := 39
abbrev Reason.classB : Nat := 40
abbrev Reason.atField : Nat := 41
abbrev Reason.store : Nat := 42
abbrev Reason.streams : Nat := 43
abbrev Reason.forceState : Nat := 44

/-- Completing a running sequence and freeing its context. -/
def State.endSequence (s : State) (q : Sequence) (code reason : Nat) (result : List Byte) : State :=
  { s with seqs := s.seqs.filter (fun x => decide (x ≠ q)) }.complete q.slot q.index code reason result

/-- Completing every running sequence that a test picks. -/
def State.endSequences (s : State) (p : Sequence → Bool) (code reason : Nat) (result : Sequence → List Byte) : State :=
  s.forEach (s.seqs.filter p) (fun t q => t.endSequence q code reason (result q))

end Sys2Proof.Machine
end

