-- ==== Sys2Proof/Machine/Units.lean ====
section
/-! DEFINITION. Which unit holds which: sheaves, sets, phases, actuators; putting units out of service and switching
their legs off; the states that items report for them. -/

namespace Sys2Proof.Machine

/-- Sheaf type codes (SHEAF.TYPE). -/
abbrev SType.none : Nat := 0
abbrev SType.trc : Nat := 1
abbrev SType.chgf : Nat := 2
abbrev SType.chgd : Nat := 3
abbrev SType.auxi : Nat := 4
abbrev SType.auxb : Nat := 5
abbrev SType.act : Nat := 6

/-- The type code of a sheaf. -/
def State.stype (s : State) (n : Nat) : Nat := s.bind.typeOf n

/-- The traction sheaf, if any. -/
def State.trcSheaf (s : State) : Option Nat := s.bind.sheafOfType SType.trc

/-- The number of traction sets of the traction sheaf. -/
def State.setCount (s : State) : Nat :=
  match s.trcSheaf with
  | some n => s.bind.countOf n / 3
  | none => 0

/-- The legs of a traction set (Table 6-1). -/
def State.setLegs (s : State) (k : Nat) : List Nat :=
  match s.trcSheaf with
  | some n => [s.bind.firstOf n + 3 * k, s.bind.firstOf n + 3 * k + 1, s.bind.firstOf n + 3 * k + 2]
  | none => []

/-- A leg out of service. -/
def State.legWinnowed (s : State) (n : Nat) : Bool := decide ((s.leg n).cause ≠ .none)

/-- A traction set out of service: one of its legs is (R300). -/
def State.setWinnowed (s : State) (k : Nat) : Bool := (s.setLegs k).any s.legWinnowed

/-- The traction sets in service. -/
def State.setsActive (s : State) : List Nat := (List.range s.setCount).filter (fun k => !s.setWinnowed k)

/-- The legs of a sheaf in service. -/
def State.legsActive (s : State) (n : Nat) : List Nat := (s.bind.legsOf n).filter (fun l => !s.legWinnowed l)

/-- The sheaf of the k-th actuator: the k-th ACT sheaf in ascending number (Table 5-1). -/
def State.actSheaf (s : State) (k : Nat) : Option Nat := (s.bind.sheavesOfType SType.act)[k]?

/-- The actuator number of an ACT sheaf. -/
def State.actOf (s : State) (n : Nat) : Nat := (s.bind.sheavesOfType SType.act).idxOf n

/-- The port bound to a sheaf (POS.SHEAF), the lowest where several are. -/
def State.portOf (s : State) (n : Nat) : Option Nat :=
  (List.range 4).find? (fun p => decide (s.regN (Item.POS.SHEAF p) = n) && decide (s.regN (Item.POS.MODE p) ≠ 0))

/-- The lanes bound to a sheaf. -/
def State.lanesOf (s : State) (n : Nat) : List Nat := (List.range 32).filter (fun l => decide (s.bind.loopSheaf.getD l 15 = n))

/-- Fall-back step code k drives 0.25 A × 2^(k/3) (R169); the currents of the sixteen codes in µA, as the rule lists them. -/
def stepCurrent (code : Nat) : Nat :=
  [250000, 315000, 397000, 500000, 630000, 794000, 1000000, 1260000, 1590000, 2000000, 2520000, 3170000, 4000000, 5040000, 6350000,
    8000000].getD code 0

/-- The gate-on and gate-off levels of a leg, and the level below which its Miller clamp engages, in mV (Table 6-10). -/
def State.gateOn (s : State) (leg : Nat) : Int := s.regI (Item.GATE.VON leg) * 500
def State.gateOff (s : State) (leg : Nat) : Int := s.regI (Item.GATE.VOFF leg) * 500
def State.millerLevel (s : State) (leg : Nat) : Int := s.gateOff leg + s.regI (Item.GATE.MILLER_V leg) * 250

/-- A byte of a word of four: byte k belongs to current band or temperature band k. -/
def byteOf (w : Word) (k : Nat) : Nat := bitsOf w (8 * k + 7) (8 * k)

/-- The phases of a turn-on and of a turn-off of a leg in a temperature band and a current band (R166, Table 6-2). -/
def State.onPhases (s : State) (leg band current : Nat) : GatePhases where
  preCurrent := s.regN (Item.GATE.PRECHG_I_ON leg) * 500000
  preTime := bitsOf (s.reg (Item.GATE.PRECHG_T_B leg band)) 15 0
  plateauCurrent := byteOf (s.reg (Item.GATE.PLATEAU_I_B leg band)) current * 62500
  plateauEnd := s.gateOn leg - s.regI (Item.GATE.HOLD_DV leg) * 250
  holdCurrent := s.regN (Item.GATE.HOLD_I leg) * 500000
  level := s.gateOn leg
def State.offPhases (s : State) (leg band current : Nat) : GatePhases where
  preCurrent := s.regN (Item.GATE.PRECHG_I_OFF leg) * 500000
  preTime := bitsOf (s.reg (Item.GATE.PRECHG_T_B leg band)) 31 16
  plateauCurrent := byteOf (s.reg (Item.GATE.PLATEAU_OFF_B leg band)) current * 62500
  plateauEnd := s.regI (Item.GATE.OFF_END_V leg) * 250
  holdCurrent := s.regN (Item.GATE.HOLD_I leg) * 500000
  level := s.gateOff leg

/-- One stepped current to a level (R169): the fall-back profile, and soft turn-off. -/
def stepPhases (code : Nat) (level : Int) : GatePhases where
  preCurrent := 0
  preTime := 0
  plateauCurrent := stepCurrent code
  plateauEnd := level
  holdCurrent := stepCurrent code
  level := level

/-- The last profile word that a driver holds complete before an instant; one that becomes complete at that instant is for the next edge
(R167). -/
def Driver.held (d : Driver) (t : Nat) : ProfileWord := ((d.words.find? (fun p => decide (p.1 < t))).map (·.2)).getD ProfileWord.none

/-- Whether a driver uses the fall-back profile for an edge now (R168, R171, R172). -/
def State.onFallback (s : State) (leg : Nat) (d : Driver) : Bool :=
  let w := d.held s.time.now
  d.fallback || w.fallback || !w.good || decide (s.regN (Item.GATE.PROFILE_EN leg) = 0)

/-- What drives the gate of a switch along an edge now: its profile word's phases, or the fall-back current (R166, R171, R172). -/
def State.driveOf (s : State) (leg : Nat) (d : Driver) (on : Bool) : GatePhases :=
  if s.onFallback leg d then stepPhases (s.regN (Item.GATE.FB_I leg)) (if on then s.gateOn leg else s.gateOff leg)
  else if on then (d.held s.time.now).on else (d.held s.time.now).off

/-- The gate of a switch is on: a switch that waits for its interlock time is not (R26, R161). -/
def Driver.lit (d : Driver) (now : Nat) : Bool := d.on && decide (d.onAt ≤ now)

/-- A switch without its on command and off; a soft turn-off that is running goes on (R176). -/
def Driver.off (d : Driver) (now : Nat) : Driver :=
  { d with command := false, on := d.soft && d.on, miller := !d.soft, offAt := if d.command then now else d.offAt }

/-- A switch turned off, along its turn-off phases where it was on. -/
def State.turnOff (s : State) (leg : Nat) (d : Driver) : Driver :=
  { d.off s.time.now with drive := if d.on && !d.soft then s.driveOf leg d false else d.drive }

/-- Both switches of a leg off at once (R216). -/
def State.legOff (s : State) (n : Nat) : State :=
  let l := s.leg n
  s.setLeg n { l with hs := s.turnOff n l.hs, ls := s.turnOff n l.ls }

/-- Every leg of a sheaf off. -/
def State.legsOff (s : State) (n : Nat) : State := s.forEach (s.bind.legsOf n) State.legOff

/-- What ends with RUN besides the edges: the generators of a sheaf go idle and hold x (R295), an auxiliary sheaf is not running
(AUX.I_STATE, AUX.B_STATE; an input found low stays shown), a command's share ramp of a traction set ends, a band change that was waiting
for a reload applies (R165). DEDUCED: assumption log 42. -/
def State.leaveRun (s : State) (n : Nat) : State :=
  let s1 := s.forEach ((List.range 4).filter (fun g => decide (s.bind.profSheaf.getD g 15 = n)))
    (fun t g => t.setRegs [(Item.PROF.MODE g, 0), (Item.PROF.V g, 0), (Item.PROF.A g, 0)])
  let s2 := s1.forEach (s1.bind.legsOf n) (fun t leg =>
    let l := t.leg leg
    t.setLeg leg { l with band := (l.bandNext.map (·.1)).getD l.band, bandNext := none })
  match s.stype n with
  | 1 => { s2 with trac := { s2.trac with ramps := [], lost := false } }
  | 4 => if s2.regN Item.AUX.I_STATE = 4 then s2 else s2.setReg Item.AUX.I_STATE 0
  | 5 => { (if s2.regN Item.AUX.B_STATE = 4 then s2 else s2.setReg Item.AUX.B_STATE 0) with shed := Shedding.init }
  | _ => s2

/-- Whether a T-B cut keeps the gate supplies of a leg disabled (Table 17-2): its driver die, or, for a traction leg, the supervisor
die. -/
def State.legCut (s : State) (n : Nat) : Bool :=
  let w := s.reg Item.THM.TB_STATE
  bitOf w (if n < 24 then 0 else 1)
    || (bitOf w 4 && (match s.bind.sheafOfLeg n with | some m => decide (s.stype m = SType.trc) | none => false))

/-- Whether a T-B cut blocks a leg (Table 17-2): the measurement die's and the shell die's cut every leg, the buck power stage's the AUXB
legs. -/
def State.cutBlocks (s : State) (n : Nat) : Bool :=
  let w := s.reg Item.THM.TB_STATE
  bitOf w 2 || bitOf w 3
    || (bitOf w 5 && (match s.bind.sheafOfLeg n with | some m => decide (s.stype m = SType.auxb) | none => false))

/-- Enabling or disabling the gate supplies of a sheaf's legs (R56); a T-B cut keeps them disabled (R461). -/
def State.supplies (s : State) (legs : List Nat) (on : Bool) : State :=
  s.forEach legs (fun t n =>
    let l := t.leg n
    let up := on && !t.legCut n
    t.setLeg n { l with supplies := up, hs := { l.hs with uv := !up }, ls := { l.ls with uv := !up } })

/-- Clearing the carries of a leg (R210). -/
def State.clearCarry (s : State) (leg : Nat) : State :=
  match s.bind.sheafOfLeg leg with
  | some n => s.setReg (Item.PWM.CARRY n (leg - s.bind.firstOf n)) 0
  | none => s

/-- Putting a leg out of service: its cause, its switches off, its carry cleared (R210). -/
def State.winnowLeg (s : State) (n : Nat) (c : WinnowCause) : State :=
  let s1 := s.legOff n
  let l := s1.leg n
  (s1.setLeg n { l with cause := if l.cause = .none then c else l.cause }).clearCarry n

/-- A leg takes a band (R164, R165), or the one that force bit BAND_OVR gives (Table 6-6): through a crossing and a reload of a running
sheaf, else at once. -/
def State.takeBand (s : State) (leg b : Nat) (failsafe : Bool) : State :=
  let l := { s.leg leg with failsafe := failsafe, bandOwn := b }
  let u := unitOf Kind.leg leg
  let band := if s.forced u 9 then bitsOf (s.unit u).force 11 10 else b
  let running : Bool := match s.bind.sheafOfLeg leg with | some n => decide ((s.sheaf n).state = .run) | none => false
  if !running then s.setLeg leg { l with band := band, bandNext := none }
  else if l.band = band then s.setLeg leg { l with bandNext := none }
  else if l.bandNext.map (·.1) = some band then s.setLeg leg l
  else (s.setLeg leg { l with bandNext := some (band, s.crossTick) }).useFree

/-- A leg's force bits or its BAND_FAILSAFE have changed: it takes the band they now give (R164, Table 6-6). -/
def State.bandAgain (s : State) (leg : Nat) : State :=
  let l := s.leg leg
  s.takeBand leg (if l.failsafe then s.regN (Item.LEG.BAND_FAILSAFE leg) else l.bandOwn) l.failsafe

/-- Force bits of a unit cleared (R188). -/
def State.clearForce (s : State) (u : Nat) : State :=
  let r := s.unit u
  let s1 := s.setUnit u { r with force := 0, forceArmed := 0 }
  if unitKind u = Kind.leg then s1.bandAgain (unitIndex u) else s1

/-- Putting a leg back in service: cause, latches and force bits gone (R177, R188), its carry 0 (R210). -/
def State.restoreLeg (s : State) (n : Nat) : State :=
  let l := s.leg n
  ((s.setLeg n { l with cause := .none, oc := false, hs := { l.hs with desat := false, soft := false },
                        ls := { l.ls with desat := false, soft := false } }).clearForce (unitOf Kind.leg n)).clearCarry n

/-- The code of LEG.STATE (Table 6-9): UNBOUND, WINNOWED where a cause stands, else the sheaf's state. -/
def State.legStateCode (s : State) (n : Nat) : Nat :=
  match s.bind.sheafOfLeg n with
  | none => 0
  | some m =>
    match (s.sheaf m).state with
    | .safe => 6
    | st =>
      if s.legWinnowed n then 5
      else if s.proofs.any (fun p => decide (n ∈ p.legs) && !p.report) then 2
      else
        match st with
        | .off => 1 | .proving => 2 | .ready => 3 | .run => 4 | .winnowed => 5 | .safe => 6

/-- A lane in its bound sheaf: whether it is bound (LOOP.TYPE not NONE, a sheaf). -/
def State.laneBound (s : State) (n : Nat) : Bool :=
  decide (s.regN (Item.LOOP.TYPE n) ≠ 0) && decide (s.bind.loopSheaf.getD n 15 < 12)

/-- A unit out of service: held by WINNOW, or its fault status is not idle. -/
def UnitRec.out (r : UnitRec) : Bool := r.commanded || decide (r.state ≠ .idle)

/-- A leg active under R217: in service, and its bit in LEG_EN set. -/
def State.legActive (s : State) (leg : Nat) : Bool :=
  !s.legWinnowed leg
    && (match s.bind.sheafOfLeg leg with
        | some n => bitOf (s.reg (Item.PWM.LEG_EN n)) (leg - s.bind.firstOf n)
        | none => false)

/-- The legs of group `g` of a sheaf (R194): a traction set, or every leg of another sheaf. -/
def State.groupLegs (s : State) (n g : Nat) : List Nat :=
  if s.stype n = SType.trc then (s.bind.legsOf n).filter (fun l => decide ((l - s.bind.firstOf n) / 3 = g))
  else if g = 0 then s.bind.legsOf n else []

/-- Whether a pending SWAP holds a lane's close request (R150): it carries a class-O item of the lane that differs between the sets. -/
def State.laneSwapHeld (s : State) (n : Nat) : Bool :=
  s.swaps.any (fun w => decide (w.sheaf = s.bind.loopSheaf.getD n 15)) &&
    (s.regs.map (·.1) ++ s.shd.map (·.1)).any (fun a => decide (Item.group a = 0x10) && decide (Item.inst a = n) &&
      (match Catalogue.find a with
       | some d => decide (d.cls = .O)
       | none => false) && decide (s.reg a ≠ s.shadow a))

/-- What a lane needs to be CLOSED besides its own legs or partners (R289): CLOSE set, bound, its sheaf in RUN, no swap
holding it (R150), no pause of its sheaf, not out of service. -/
def State.laneMayClose (s : State) (n : Nat) : Bool :=
  let h := s.bind.loopSheaf.getD n 15
  s.laneBound n && decide (s.regN (Item.LOOP.CLOSE n) = 1) && decide ((s.sheaf h).state = .run)
    && !s.laneSwapHeld n && !(s.lane n).held && !(s.unit (unitOf Kind.lane n)).out

/-- A lane with a group is CLOSED when a leg of the group is active as well (R289). -/
def State.groupLaneClosed (s : State) (n : Nat) : Bool :=
  let g := s.regN (Item.LOOP.GROUP n)
  s.laneMayClose n && decide (g < 15) && (s.groupLegs (s.bind.loopSheaf.getD n 15) g).any s.legActive

/-- Whether lane `m` takes an output of lane `n`, or adds its trims (Table 10-3, R288). -/
def State.consumes (s : State) (m n : Nat) : Bool :=
  (List.range 8).any (fun j =>
    let w := s.reg (Item.LOOP.SRC m j)
    decide (bitsOf w 31 28 = 3) && decide (bitsOf w 11 0 / 8 = n))
  || decide (s.regN (Item.LOOP.TRIM_LANE m) = n)

/-- Whether a lane is CLOSED (R289): a lane without a group needs a member or a consumer that is. -/
def State.laneClosed (s : State) (n : Nat) : Bool :=
  if s.regN (Item.LOOP.GROUP n) < 15 then s.groupLaneClosed n
  else s.laneMayClose n && (List.range 32).any (fun m =>
    s.groupLaneClosed m && (bitOf (s.reg (Item.LOOP.MEMBERS n)) m || s.consumes m n))

/-- The code of LOOP.STATE (Table 10-7). -/
def State.laneStateCode (s : State) (n : Nat) : Nat :=
  let r := s.unit (unitOf Kind.lane n)
  if !s.laneBound n then 0
  else if r.state = .handling then 3
  else if r.out then 4
  else if s.laneClosed n then 2 else 1

/-- The code of SOUT.STATE (Table 15-13): off, on, testing, handling, lasting; a resting output is off. -/
def State.outStateCode (s : State) (n : Nat) : Nat :=
  let r := s.unit (unitOf Kind.output n)
  if r.state = .lasting then 4
  else if r.state = .handling then 3
  else if (s.out n).testing then 2
  else if (s.out n).on then 1 else 0

/-- Whether any leg of a sheaf has a deferred step 3, and the DEFERRED bit of PROOF_RESULT (R75, Table 3-14). -/
def State.anyDeferred (s : State) (n : Nat) : Bool := (s.bind.legsOf n).any (fun l => (s.leg l).deferred)
def State.deferredBit (s : State) (n : Nat) : Nat := if s.anyDeferred n then 0x40 else 0

/-- A switch that is on begins soft turn-off, at GATE.SOFT_I down to the Miller level (R176); one that is off stays off, and a soft turn-off
that is running goes on. -/
def Driver.softOff (d : Driver) (now : Nat) : Driver :=
  let lit := d.lit now || (d.soft && d.on)
  { d with command := false, soft := lit, on := lit, miller := !lit, offAt := if d.command then now else d.offAt }
def State.softOff (s : State) (leg : Nat) (d : Driver) : Driver :=
  { d.softOff s.time.now with
    drive := if d.lit s.time.now then stepPhases (s.regN (Item.GATE.SOFT_I leg)) (s.millerLevel leg) else d.drive }

/-! ## Fast codes -/

/-- Whether a fast input converts in the bipolar range (R220; bit 6 of converters 0 to 2 is ignored). -/
def State.bipolar (s : State) (k i : Nat) : Bool :=
  decide (i = 7 ∨ (i = 6 ∧ 3 ≤ k)) && bitOf (s.reg (Item.ADCF.RANGE_MASK k)) i

/-- The signed code of a fast input. -/
def State.fastCode (s : State) (k i : Nat) (code : BitVec 14) : Int := if s.bipolar k i then code.toInt else (code.toNat : Int)

/-- The calibrated voltage of a fast code in 1/16,384,000,000 µV: its R220 voltage, code × 5,000,000 / 2^14 µV in both ranges, corrected by
CAL_GAIN (ppm) and CAL_OFS (µV) (R227). -/
def State.codeVolts (s : State) (k i : Nat) (code : BitVec 14) : Int :=
  s.fastCode k i code * 5000000 * (1000000 + s.regI (Item.ADCF.CAL_GAIN k)) + s.regI (Item.ADCF.CAL_OFS k) * 16384000000

/-- The voltage at the last result of a fast input, in 1/16,384,000,000 µV. -/
def State.lastVolts (s : State) (k i : Nat) : Int := s.codeVolts k i (BitVec.ofNat 14 (bitsOf (s.reg (Item.ADCF.RES k i)) 13 0))

/-- One volt in the unit of the voltages above. -/
abbrev oneVolt : Int := 16384000000000000

/-- The voltage at the pins of a DC-link sense channel, 250 times that at its fast input (chapter Measurement: 4.400 V for 1,100 V), and
of the 48 V bus behind the divider of AIN00 (Table 13-2). -/
def State.dcVolts (s : State) (channel : Nat) : Int := s.lastVolts channel 6 * 250
def State.busVolts (s : State) : Int := s.lastVolts 3 6 * 16

/-- The link of a leg, with which its proof step 3 and its thermal estimate work (R299, R324, R355, R390). -/
def State.legLink (s : State) (n leg : Nat) : Int :=
  match s.stype n with
  | 1 => s.dcVolts 0
  | 2 => s.dcVolts 1
  | 3 => if s.bind.position leg < 2 then s.dcVolts 1 else s.dcVolts 0
  | 4 => if s.bind.position leg < 2 then s.dcVolts 0 else s.busVolts
  | _ => s.busVolts

end Sys2Proof.Machine
end

