-- ==== Sys2Proof/Machine/Faults.lean ====
section
/-! DEFINITION. The course of an error (chapter Faults and Recovery): detection, handling, fencing; safe demands and the
states they lead to; the safe-state selection of the traction legs; grave faults. Each is one operation that the meanings
share. -/

namespace Sys2Proof.Machine

/-! ## ASC and block lines of the traction legs -/

/-- Whether the supervisor holds a traction leg (R311): a winnowed set of a running sheaf; every set of a sheaf in SAFE
or WINNOWED; every set of a READY sheaf while TRC.READY_ASC = 1. -/
def State.legHeld (s : State) (n k leg : Nat) : Bool :=
  match (s.sheaf n).state with
  | .run => s.setWinnowed k
  | .safe => true
  | .winnowed => true
  | .ready => decide (s.regN Item.TRC.READY_ASC = 1) || s.legWinnowed leg
  | _ => false

/-- Whether ASC reaches a held leg (R311, R312, Table 1-3): its release signal is present, the selection is ASC, path B is closed, the
sheaf has not two shorts, the leg has supplies and no desaturation or over-current latch. -/
def State.ascReaches (s : State) (n leg : Nat) : Bool :=
  let l := s.leg leg
  s.sup.releases.getLsbD leg && s.sup.asc && !s.sup.pathB && !(s.sheaf n).forceOpen && l.supplies && !l.hs.uv && !l.ls.uv
    && !(l.oc || l.hs.desat || l.ls.desat)

/-- ASC select reaches a leg (Table 1-3, row 3): the high-side switch is off, the low-side switch on once the high-side command has been
off for IL_TIME. -/
def State.toAsc (s : State) (leg : Nat) (l : Leg) : Leg :=
  let hs := s.turnOff leg l.hs
  { l with
    asc := true
    hs := hs
    ls := if l.ls.on then l.ls else
      { l.ls with on := true, miller := false, onAt := Nat.max s.time.now (hs.offAt + s.regN (Item.LEG.IL_TIME leg))
                  drive := s.driveOf leg l.ls true } }

/-- Setting the block line and the ASC select of one leg of the traction sheaf (R311 to R313, R179). A leg that a desaturation or
over-current latch takes from ASC select turns its low-side switch off softly. -/
def State.driveHeld (s : State) (n leg : Nat) : State :=
  let l := s.leg leg
  let held := s.legHeld n ((leg - s.bind.firstOf n) / 3) leg
  let asc := held && s.ascReaches n leg
  let l1 := { l with asc := asc, block := held && !asc }
  if asc then s.setLeg leg (s.toAsc leg l1)
  else if held then
    let soft := l.asc && (l.oc || l.ls.desat || l.hs.desat)
    s.setLeg leg { l1 with hs := s.turnOff leg l.hs, ls := if soft then s.softOff leg l.ls else s.turnOff leg l.ls }
  else s.setLeg leg l1

/-- The supervisor applies its selection to every leg it holds (R313). -/
def State.applySelection (s : State) : State :=
  match s.trcSheaf with
  | none => s
  | some n => s.forEach (s.bind.legsOf n) (fun t leg => t.driveHeld n leg)

/-! ## Sheaves out of service -/

/-- Removing the sheaf's proofs, ending the commands that asked for them with ABORTED, and setting ABORTED in its
PROOF_RESULT beside the deferrals that stand (Table 3-14, R75, R405). The gate supplies that a proof in an OFF sheaf had enabled go off
again (R56). -/
def State.abortProofs (s : State) (n : Nat) : State :=
  let ps := s.proofs.filter (fun p => decide (p.sheaf = n))
  if ps = [] then s
  else
    let s0 := { s with proofs := s.proofs.filter (fun p => decide (p.sheaf ≠ n)) }
    let s1 := if (s.sheaf n).state = .off then s0.supplies (ps.flatMap (·.legs)) false else s0
    (s1.setReg (Item.SHEAF.PROOF_RESULT n) (nw (1 + s.deferredBit n))).endSequences
      (fun q => decide (q.kind = .prove ∨ q.kind = .restore) && ps.any (fun p => decide (p.unit ∈ q.units))) Code.aborted Reason.none
      (fun q => if q.kind = .prove then
          beBytes 4 (1 + s.deferredBit n) ++ beBytes 4 ((s.time.now - (ps.map (·.started)).foldl Nat.min s.time.now) / 1000)
        else [])

/-- The units (UNIT words) that belong to a sheaf: the sheaf, its legs, its sets, its actuator (for R37 and R124). -/
def State.unitInSheaf (s : State) (n u : Nat) : Bool :=
  match unitKind u with
  | 1 => decide (unitIndex u = n)
  | 2 => s.bind.holds n (unitIndex u)
  | 3 => decide (s.stype n = SType.trc)
  | 4 => decide (s.actSheaf (unitIndex u) = some n)
  | _ => false

/-- Ending the running sequences of a sheaf with one code and reason. -/
def State.endSheafSequences (s : State) (n : Nat) (kinds : List SeqKind) (code reason : Nat) : State :=
  s.endSequences (fun q => decide (q.kind ∈ kinds) && q.units.any (s.unitInSheaf n)) code reason (fun _ => [])

/-- An actuator sheaf that a fault or a safe demand stops: its MOVE is over (R399). -/
def State.dropMove (s : State) (n : Nat) : State :=
  if s.stype n = SType.act then
    let k := s.actOf n
    s.setActuator k { s.actuator k with move := none, stopAfter := false }
  else s

/-- The sheaf that a carrier follows: another one that SYNC_SHEAF names (R199). -/
def State.reference (s : State) (n : Nat) : Option Nat :=
  let r := s.regN (Item.PWM.SYNC_SHEAF n)
  if r < 12 ∧ r ≠ n then some r else none

/-- A synchronised sheaf runs only while its reference is in RUN (R199): the sheaves that follow one which leaves RUN get their stop
word. -/
def State.stopFollowers (s : State) (n : Nat) : State :=
  s.forEach ((List.range 12).filter (fun m => decide (s.reference m = some n) && decide ((s.sheaf m).state = .run))) (fun t m =>
    let h := t.sheaf m
    t.setSheaf m { h with stop := some { toOff := (match h.stop with | some r => r.toOff | none => false), word := true, since := t.time.now } })

/-- The sheaf leaves RUN or a proof for a state in which nothing switches: its edges cease, its carries clear (R210), its stop and start
end; the sheaves synchronised to a running one stop (R199). -/
def State.quietSheaf (s : State) (n : Nat) (st : SheafState) : State :=
  let s0 := (s.legsOff n).forEach (s.bind.legsOf n) State.clearCarry
  let s1 := (if (s.sheaf n).state = .run then (s0.leaveRun n).stopFollowers n else s0).dropMove n
  s1.setSheaf n { s1.sheaf n with state := st, stop := none, starting := false }

/-- A sheaf that another unit has put in WINNOWED notes that unit, with a class-W record of its own (R445, Table 16-1). -/
def State.blame (s : State) (n u : Nat) : State :=
  let s1 := s.setSheaf n { s.sheaf n with causes := insertNew u (s.sheaf n).causes }
  let s2 := s1.record (unitOf Kind.sheaf n) .W 16 false
  if (s.unit (unitOf Kind.sheaf n)).state = .idle then s2.setFault (unitOf Kind.sheaf n) .idle .W 16 else s2

/-- Putting a sheaf in WINNOWED (Table 3-8: from PROVING, READY or RUN). `cause` is the unit that did it (R445), none
for the sheaf's own error or a WINNOW of it. Its legs in service read cause 4. -/
def State.winnowSheaf (s : State) (n : Nat) (cause : Option Nat) : State :=
  let h := s.sheaf n
  if h.state = .proving ∨ h.state = .ready ∨ h.state = .run then
    let s1 := (s.abortProofs n).quietSheaf n .winnowed
    let s2 := s1.forEach (s1.bind.legsOf n) (fun t l => t.winnowLeg l .sheaf)
    let s3 := s2.endSheafSequences n [.move] Code.invalid 89
    let s4 := s3.endSheafSequences n [.start, .stop] Code.aborted Reason.none
    (match cause with
     | none => s4
     | some u => s4.blame n u).applySelection
  else
    match cause with
    | none => s
    | some u => if h.state = .winnowed then s.setSheaf n { h with causes := insertNew u h.causes } else s

/-- Putting a traction set out of service with the cause of the leg concerned (R300); too few sets left put a READY or
running sheaf in WINNOWED (R301). -/
def State.winnowSet (s : State) (k : Nat) (own : Option Nat) (c : WinnowCause) (cause : Nat) : State :=
  match s.trcSheaf with
  | none => s
  | some n =>
    let fresh := !s.setWinnowed k
    let s1 := s.forEach (s.setLegs k) (fun t l => t.winnowLeg l (if own = some l then c else if own = none then c else .set))
    let s2 := if fresh then s1.bump (Item.TRC.SET_WINNOW_CNT k) else s1
    if s2.setsActive.length < s2.regN Item.TRC.MIN_SETS ∧ ((s.sheaf n).state = .run ∨ (s.sheaf n).state = .ready) then
      s2.winnowSheaf n (some cause)
    else s2.applySelection

/-- Putting a leg out of service for its own error or by command, with what its sheaf does about it (R78, R300, R357). -/
def State.fenceLeg (s : State) (leg : Nat) (c : WinnowCause) : State :=
  match s.bind.sheafOfLeg leg with
  | none => s
  | some n =>
    let u := unitOf Kind.leg leg
    if s.stype n = SType.trc then s.winnowSet ((leg - s.bind.firstOf n) / 3) (some leg) c u
    else
      let s1 := s.winnowLeg leg c
      if s.stype n = SType.auxb then
        if (s1.legsActive n).length < s1.regN Item.AUX.MIN_PHASES ∧ ((s.sheaf n).state = .ready ∨ (s.sheaf n).state = .run) then
          s1.winnowSheaf n (some u)
        else s1
      else s1.winnowSheaf n (some u)

/-- Putting a lane out of service (R317, R399, Table 13-5): a traction set's lane takes its set with it, any other lane of a traction, actuator or auxiliary sheaf its sheaf, the balance lane of AUXB nothing. -/
def State.fenceLane (s : State) (lane : Nat) : State :=
  let n := s.bind.loopSheaf.getD lane 15
  let ty := s.regN (Item.LOOP.TYPE lane)
  let u := unitOf Kind.lane lane
  if n ≥ 12 ∨ ty = 0 then s
  else if s.stype n = SType.trc then
    if ty = 1 then s.winnowSet (s.regN (Item.LOOP.GROUP lane)) none .set u else s.winnowSheaf n (some u)
  else if ty = 8 then s
  else s.winnowSheaf n (some u)

/-- A controller goes to FENCED (Table 18-2, R478, R485): its pending requests clear, and every slot attached through it loses
its link. -/
def State.fenceCan (s : State) (n : Nat) : State :=
  let c := s.can n
  let lock := bitOf (s.reg (Item.CAN.ARD_LOCK n)) 31
  let c1 := c.objects.foldl (fun c p => c.setObject p.1 { p.2 with pending := false, clash := 0 }) c
  let s1 := (s.setCan n { c1 with chosen := none, wasLocked := lock, queue := [] }).setReg (Item.CAN.STATE n) 6
  s1.forEach ((List.range 8).filter (fun k => decide ((s.slot k).port = n + 3))) State.detachSlot

/-- What taking a unit out of service does besides its own status (R440: "the immediate action that its source's rule
states"). -/
def State.fence (s : State) (u : Nat) : State :=
  let i := unitIndex u
  match unitKind u with
  | 1 => s.winnowSheaf i none
  | 2 => s.fenceLeg i .own
  | 4 => (match s.actSheaf i with | some n => s.winnowSheaf n (some u) | none => s)
  | 7 =>
    let n := s.regN (Item.POS.SHEAF i)
    if n < 12 ∧ (s.stype n = SType.trc ∨ s.stype n = SType.act) then s.winnowSheaf n (some u) else s
  | 8 => s.setOut i { s.out i with on := false, testing := false }
  | 9 => s.fenceLane i
  | 12 => s.fenceCan i
  | _ => s

/-! ## Detections -/

/-- The unit type t of Table 16-1 of a kind. -/
def unitType (u : Nat) : Nat :=
  match unitKind u with
  | 0 => 0 | 13 => 1 | 2 => 2 | 1 => 3 | 10 => 4 | 11 => 5 | 5 => 6 | 6 => 7 | 7 => 8 | 9 => 9 | 4 => 10 | 8 => 11 | 12 => 12
  | _ => 0

/-- The recoveries of a unit still inside FLT.RECOV_WIN (R444). -/
def State.windowCount (s : State) (u : Nat) : Nat :=
  ((s.unit u).recovered.filter (fun t => decide (s.time.now ≤ t + s.regN Item.FLT.RECOV_WIN * 1000000000))).length

/-- The edges of a unit's island clock up to a time (Table 1-2, Table 16-1): legs, supervisor and outputs at 200 MHz, converters and their
inputs at 160 MHz, ports at 400 MHz, lanes at 250 MHz, the others at 500 MHz. -/
def islandEdge (u t : Nat) : Nat :=
  match unitKind u with
  | 2 | 8 | 13 => t / 5
  | 5 | 6 | 10 | 11 => t * 4 / 25
  | 7 => t * 2 / 5
  | 9 => t / 4
  | _ => t / 2

/-- Whether a unit has made a record of a lower-numbered source on the present edge of its island clock (R438). -/
def UnitRec.outranks (r : UnitRec) (u now src : Nat) : Bool :=
  match r.edge with
  | some (t, k) => decide (islandEdge u t = islandEdge u now) && decide (k < src)
  | none => false

/-- The record of a detection (R438): of several sources of a unit on one edge of its island clock, only the one with the lowest number
makes a record. DEDUCED: assumption log 121. -/
def State.note (s : State) (u : Nat) (cls : FaultClass) (src : Nat) (forced : Bool) : State :=
  if (s.unit u).outranks u s.time.now src then s
  else (s.record u cls src forced).setUnit u { (s.record u cls src forced).unit u with edge := some (s.time.now, src) }

/-- A class-F or class-L detection that starts handling: the record, the fault status, the fence (R440, R444). -/
def State.startHandling (s : State) (u : Nat) (cls : FaultClass) (src : Nat) (forced : Bool) : State :=
  let limit := decide (cls = .F) && decide (s.regN (Item.FLT.RECOV_MAX (unitType u)) ≤ s.windowCount u)
  let s1 := s.note u cls src forced
  let st := if cls = .L ∧ (unitType u = 0 ∨ unitType u = 1) then Handling.lasting else .handling
  let s2 := s1.setUnit u { (s1.unit u) with state := st, cls := cls, src := src, atLimit := limit }
  s2.fence u

/-- A unit detects one of its sources (R438 to R444, R530). During handling a detection is lost (R441); a lasting unit
only records (R530); a class-W detection starts no handling. Class G is `grave`. -/
def State.detect (s : State) (u : Nat) (cls : FaultClass) (src : Nat) (forced : Bool) : State :=
  match (s.unit u).state, cls with
  | .handling, _ => s
  | _, .none => s
  | _, .G => s
  | .idle, .W =>
    if (s.unit u).outranks u s.time.now src then s else (s.note u .W src forced).setFault u .idle .W src
  | _, .W => s.note u .W src forced
  | .lasting, c => s.note u c src forced
  | _, c => s.startHandling u c src forced

/-- A detection without force. -/
abbrev State.raise (s : State) (u : Nat) (cls : FaultClass) (src : Nat) : State := s.detect u cls src false

/-! ## Safety outputs -/

/-- Whether an off cause of SOUT.OFF_MASK is present for an output (R532, Table 15-13). -/
def State.offCause (s : State) (n : Nat) : Bool :=
  let m := s.reg (Item.SOUT.OFF_MASK n)
  let act := (List.range 2).find? (fun k => decide (s.regN (Item.ACT.FUNC k) = 1))
  let ownerSheaf :=
    match s.regN (Item.SOUT.OWNER n) with
    | 1 => s.bind.sheafOfType SType.chgf
    | 2 => act.bind s.actSheaf
    | _ => none
  (bitOf m 0 && s.sup.latched)
  || (bitOf m 1 && s.dev.causes.any (fun c => decide (c = .sls ∨ c = .sdi ∨ c = .slp ∨ c = .torque)))
  || (bitOf m 2 && decide (s.dev.state = .safe))
  || (bitOf m 5 && (match ownerSheaf with | some h => decide ((s.sheaf h).state = .safe) | none => false))
  || decide (s.dev.state = .locked)
  || !s.dev.powered

/-- Whether the device is in a state that SOUT.PERMIT marks (R419). -/
def State.outPermitted (s : State) (n : Nat) : Bool := bitOf (s.reg (Item.SOUT.PERMIT n)) s.dev.state.code

/-- A demand reaches an output (R423): the edge of the 200 MHz clock that samples it is kept, and a test cycle in progress is abandoned,
counted and due again after TP_RETRY. -/
def State.outDemand (s : State) (n : Nat) : State :=
  let o := s.out n
  let d := some (s.time.now / 5)
  if o.testing then
    (s.bump (Item.SOUT.TEST_ABORT_CNT n)).setOut n { o with
      demand := d, testing := false, nextCycle := s.time.now + s.regN (Item.SOUT.TP_RETRY n) * 1000000 }
  else s.setOut n { o with demand := d }

/-- Switching an output off. -/
def State.outOff (s : State) (n : Nat) : State :=
  let s1 := s.outDemand n
  s1.setOut n { s1.out n with on := false }

/-- Switching off every output that a cause or a state no longer permits on (R419); a cause that has come ends the test pulses of an output
that is off (R423). -/
def State.applyOffCauses (s : State) : State :=
  s.forEach (List.range 8) (fun t n =>
    let bad := t.offCause n || !t.outPermitted n
    let t1 := if bad && ((t.out n).on || ((t.out n).testing && !(t.out n).caused)) then t.outOff n else t
    t1.setOut n { t1.out n with caused := bad })

/-- An owner's request on an output (R419): on where the output is in service, the state permits it and no off cause is
present; off always. -/
def State.outRequest (s : State) (n : Nat) (on : Bool) : State :=
  if on then
    if s.outPermitted n && !s.offCause n && !(s.unit (unitOf Kind.output n)).out then
      let s1 := s.outDemand n
      if (s1.out n).on then s1 else (s1.setOut n { s1.out n with on := true }).bump (Item.SOUT.ON_CNT n)
    else s
  else s.outOff n

/-! ## Device states and safe demands -/

/-- What leaving SERVICE releases (R120): claims taken under SVC_CLAIM. -/
def State.leaveService (s : State) : State :=
  let s1 := s.forEach (List.range 8) (fun t n =>
    let h := t.slot n
    t.setSlot n { h with claims := h.claims &&& ~~~h.svcClaims, svcClaims := 0 })
  { s1 with dev := { s1.dev with serviceHost := none } }

/-- The insulation monitor must be off (R238): ISO_EN clear, the HV bus (link 0) below ISO_VMIN, or SAFE, LOCKED, TRANSPORT.
DEDUCED: assumption log 115. -/
def State.isoOff (s : State) : Bool :=
  decide (s.regN (Item.ADCI.ISO_EN 1) = 0) || decide (s.dev.state = .safe ∨ s.dev.state = .locked ∨ s.dev.state = .transport)
    || decide (s.dcVolts 0 < s.regN (Item.ADCI.ISO_VMIN 1) * oneVolt)

/-- Taking the monitor to a state, its path on from a time. -/
def State.setIso (s : State) (st start : Nat) : State :=
  let c := s.slow 1
  s.setSlow 1 { c with iso := st, isoFrom := start, upP := if st = 0 then none else c.upP, upN := if st = 0 then none else c.upN }

/-- The monitor stops where it must be off. -/
def State.isoCheck (s : State) : State := if (s.slow 1).iso ≠ 0 ∧ s.isoOff then s.setIso 0 0 else s

/-- Changing the device state: STATE event (Table 4-10), the force bits set in the state that is left (R188, R434), the releases of
leaving SERVICE with their service-log entry (R501, Table 19-9), the outputs that the new state no longer permits (R419). -/
def State.enterState (s : State) (t : DevState) : State :=
  if s.dev.state = t then s
  else
    let old := s.dev.state
    let by' := s.dev.exiting.getD (0xFF, 0)
    let s0 := s.forEach s.units (fun u p => u.clearForce p.1)
    let s1 := { s0 with dev := { s0.dev with state := t, exiting := none } }
    let s2 := if old = .service then (s1.leaveService).serviceLog 2 by'.1 by'.2 0 else s1
    let s3 := s2.event 2 [BitVec.ofNat 8 t.code, BitVec.ofNat 8 old.code, BitVec.ofNat 8 (s2.regN Item.DEV.MODE_REASON), 0]
    s3.applyOffCauses.isoCheck

/-- The PARK actuator (R389): the first instance whose FUNC is PARK. -/
def State.parkActuator (s : State) : Option Nat := (List.range 2).find? (fun k => decide (s.regN (Item.ACT.FUNC k) = 1))

/-- SAFE of the park lock's sheaf switches its latch output off (R399). -/
def State.dropLatch (s : State) (n : Nat) : State :=
  match s.parkActuator with
  | some k =>
    if s.stype n = SType.act ∧ s.actSheaf k = some n then
      let s1 := s.setActuator k { s.actuator k with lifted := false }
      s1.forEach ((List.range 8).filter (fun o => decide (s1.regN (Item.SOUT.OWNER o) = 2) && (s1.out o).on)) State.outOff
    else s
  | none => s

/-- Putting one sheaf in SAFE (Table 3-8: from PROVING, READY, RUN or WINNOWED): its proof ends with ABORTED, its
running sequences end ABORTED (Table 4-8), its edges cease. -/
def State.safeSheaf (s : State) (n : Nat) : State :=
  let h := s.sheaf n
  if h.state = .off ∨ h.state = .safe then s
  else
    let s1 := (s.abortProofs n).quietSheaf n .safe
    ((s1.endSheafSequences n [.prove, .start, .stop, .winnow, .restore, .selftest, .move, .arm, .disarm] Code.aborted
      Reason.none).dropLatch n).applySelection

/-- A device demand or another SAFE cause (R405, R532): the cause is present, every sheaf goes to SAFE, and the device
from PROOF, STANDBY, DRIVE, CHARGE or SERVICE to SAFE (Table 3-6). -/
def State.safeDevice (s : State) (c : SafeCause) : State :=
  let s1 := { s with dev := { s.dev with causes := insertNew c s.dev.causes } }
  if s.dev.state = .proof ∨ s.dev.state = .standby ∨ s.dev.state = .drive ∨ s.dev.state = .charge ∨ s.dev.state = .service
      ∨ s.dev.state = .safe then
    let s2 := s1.forEach (List.range 12) State.safeSheaf
    let s3 := s2.endSequences (fun q => decide (q.kind = .mode ∨ q.kind = .hvConnect)
      || (decide (q.kind = .prove) && decide (unitOf Kind.device 0 ∈ q.units))) Code.aborted Reason.none (fun _ => [])
    (s3.enterState .safe).applyOffCauses
  else s1

/-- A SAFE cause that has gone (R532). -/
def State.causeGone (s : State) (c : SafeCause) : State :=
  { s with dev := { s.dev with causes := s.dev.causes.filter (fun x => decide (x ≠ c)) } }

/-- A demand with both shutdown paths (Table 15-1, STO column): path B removes the traction supplies, so every set takes
OPEN. -/
def State.demandBoth (s : State) (c : SafeCause) : State :=
  let s1 := { s with sup := { s.sup with pathB := true } }
  let s2 := match s1.trcSheaf with
    | some n => s1.supplies (s1.bind.legsOf n) false
    | none => s1
  ((s2.bump Item.SAFE.DEMAND_CNT).safeDevice c).applySelection

/-- The release signals stop (Table 1-3, row 1): every leg is at OPEN. -/
def State.stopRelease (s : State) : State :=
  { s with sup := { s.sup with releases := 0 } }.forEach (List.range 48) (fun t n =>
    (t.legOff n).setLeg n { (t.legOff n).leg n with asc := false })

/-- A grave fault (R448, R449): every leg at OPEN with its supplies removed, outputs off, every sheaf that is not OFF in
SAFE, the device LOCKED, the grave record in the journal, its event to every attached slot. -/
def State.grave (s : State) (src : Nat) : State :=
  let u := unitOf Kind.supervisor 0
  let s1 := s.record u .G src false
  let s2 := (s1.setFault u .lasting .G src)
  let s3 := { s2 with store := { s2.store with graveCount := s2.store.graveCount + 1 } }
  let s4 := (s3.forEach (List.range 12) State.safeSheaf).stopRelease
  let s5 := s4.supplies (List.range 48) false
  let s6 := s5.forEach (List.range 8) State.outOff
  let s7 := s6.endSequences (fun _ => true) Code.aborted Reason.none (fun _ => [])
  s7.enterState .locked

/-- Whether a SAFE cause is present (Table 3-6, Table 3-7 code 7). -/
def State.safeCause (s : State) : Bool := s.dev.causes ≠ []

/-- nFAULT low (R451): any unit handling, resting or lasting, LOCKED, or the start tests not yet passed; released in
TRANSPORT and without VSUP. -/
def State.nFaultLow (s : State) : Bool :=
  s.dev.powered && decide (s.dev.state ≠ .transport)
    && (!s.dev.tested || !s.dev.bootable || decide (s.dev.state = .locked) || s.units.any (fun p => decide (p.2.state ≠ .idle)))

/-- nSAFE low (R452): SAFE or LOCKED, any sheaf in SAFE, STO latched, or the start tests not yet passed; released in
TRANSPORT and without VSUP. -/
def State.nSafeLow (s : State) : Bool :=
  s.dev.powered && decide (s.dev.state ≠ .transport)
    && (!s.dev.tested || !s.dev.bootable || decide (s.dev.state = .safe ∨ s.dev.state = .locked)
        || s.sheaves.any (fun p => decide (p.2.state = .safe)) || s.sup.latched)

end Sys2Proof.Machine
end

