-- ==== Sys2Proof/Machine/View.lean ====
section
/-! DEFINITION. What an item reads as: the register itself, or, for an item that reports state held elsewhere, that
state in the encoding of its table. -/

namespace Sys2Proof.Machine

/-- The recovery word (chapter Faults and Recovery, Parameters): recoveries since POWERUP in [31:16], saturating, those
within the window in [7:0]. -/
def State.recovWord (s : State) (u : Nat) : Word :=
  nw (Nat.min (s.unit u).total 65535 * 0x10000 + Nat.min (s.windowCount u) 255)

/-- The role code of a leg by its sheaf's type and its position (Table 6-1). -/
def roleCode (ty p : Nat) : Nat :=
  match ty with
  | 1 => 1 + p % 3
  | 2 => 4 + p
  | 3 => 8 + p
  | 4 => 8 + p
  | 5 => 12
  | 6 => 1 + p
  | _ => 0

/-- LEG.ROLE. -/
def State.legRole (s : State) (n : Nat) : Word :=
  match s.bind.sheafOfLeg n with
  | none => 0
  | some m => nw ((n - s.bind.firstOf m) * 256 + roleCode (s.stype m) (n - s.bind.firstOf m))

/-- Whether a switch is on the fall-back profile whatever its next word says: to the next reload (R171), by PROFILE_EN = 0 (R172), by
force bit FB. -/
def State.onFallbackNow (s : State) (leg : Nat) (d : Driver) : Bool :=
  d.fallback || decide (s.regN (Item.GATE.PROFILE_EN leg) = 0) || s.forced (unitOf Kind.leg leg) 8

/-- LEG.STATUS (Table 6-9). -/
def State.legStatus (s : State) (n : Nat) : Word :=
  let l := s.leg n
  let b (x : Bool) (k : Nat) : Nat := if x then 2 ^ k else 0
  nw (b (s.onFallbackNow n l.hs || s.onFallbackNow n l.ls) 15 + b (l.supplies && l.ls.uv) 14 + b (l.supplies && l.hs.uv) 13 + b l.oc 12
    + b l.ls.desat 11 + b l.hs.desat 10 + b (l.hs.soft || l.ls.soft) 9 + b l.shootHold 8 + l.band * 16
    + b (l.ls.lit s.time.now) 3 + b (l.hs.lit s.time.now) 2 + b l.supplies 1 + b (s.legWinnowed n) 0)

/-- LEG.BAND: failsafe in use, band pending reload, band in use. -/
def State.legBand (s : State) (n : Nat) : Word :=
  let l := s.leg n
  nw ((if l.failsafe then 0x8000 else 0) + ((l.bandNext.map (·.1)).getD l.band) * 256 + l.band)

/-- LEG.FLT_LOG word k: word k mod 4 of record k div 4 (R190). -/
def State.legLogWord (s : State) (n k : Nat) : Word :=
  match (s.leg n).log[k / 4]? with
  | none => 0
  | some r =>
    match k % 4 with
    | 0 => nw (r.time / 2 ^ 32)
    | 1 => nw r.time
    | 2 => r.source
    | _ => r.context

/-- Word w of the selected journal record (R454), 0 where it is empty. -/
def State.journalWord (s : State) (w : Nat) : Word :=
  match s.store.journal[s.regN Item.FLT.JRN_SEL]? with
  | none => 0
  | some j =>
    match w with
    | 0 => j.unit
    | 1 => nw (j.record.time / 2 ^ 32)
    | 2 => nw j.record.time
    | 3 => j.record.source
    | _ => j.record.context

/-- Word w of the selected service-log entry (R510), 0 where it is empty. -/
def State.logWord (s : State) (w : Nat) : Word :=
  match s.store.log[s.regN Item.SVC.LOG_SEL]? with
  | none => 0
  | some (t, e, d) =>
    match w with
    | 0 => nw (t / 2 ^ 32)
    | 1 => nw t
    | 2 => e
    | _ => d

/-- The fault status word of a unit. -/
def State.faultWord (s : State) (kind index : Nat) : Word := (s.unit (unitOf kind index)).word

/-- The interface version of the running firmware (R3, DEV.FW_IFACE): IFACE of its header. -/
def State.runningIface (s : State) : Nat := s.store.fwIface.getD s.store.fwRun 0

/-- DEV items that report other state; DEV.FW_IFACE is the interface version of the running firmware (R3). -/
def State.viewDev (s : State) (i : Nat) : Option Word :=
  match i with
  | 0x001 => some (nw s.dev.state.code)
  | 0x006 => some (nw s.runningIface)
  | 0x050 => some (s.faultWord Kind.device 0)
  | _ => none

/-- HOST items that report other state. HOST.RIGHTS shows its own word also after a boot without a valid image, while R101 has 0x1F03 in
force: the spec does not say which of the two it reads. DESIGN CHOICE: assumption log 123. -/
def State.viewHost (s : State) (n i : Nat) : Option Word :=
  match i with
  | 0x009 => some (nw (s.slot n).status.code)
  | 0x00A => some (if (s.slot n).status = .free then 0 else nw (2 ^ (s.slot n).port))
  | 0x00B => some (nw (s.slot n).claims.toNat)
  | _ => none

/-- IMG items that report the store. -/
def State.viewImg (s : State) (i : Nat) : Option Word :=
  match i with
  | 0x006 => some (nw s.store.floor)
  | 0x007 => some (nw s.store.commits)
  | _ => none

/-- SHEAF items that report other state. -/
def State.viewSheaf (s : State) (n i : Nat) : Option Word :=
  match i with
  | 0x001 => some (nw (s.sheaf n).state.code)
  | 0x009 => some (bw (s.swaps.any (fun w => decide (w.sheaf = n))))
  | 0x00A => some (s.faultWord Kind.sheaf n)
  | 0x00B => some (s.recovWord (unitOf Kind.sheaf n))
  | _ => none

/-- LEG items that report other state. -/
def State.viewLeg (s : State) (n i : Nat) : Option Word :=
  match i with
  | 0x001 => some (nw (s.legStateCode n))
  | 0x002 => some (nw ((s.bind.sheafOfLeg n).getD 15))
  | 0x003 => some (s.legRole n)
  | 0x004 => some (s.legStatus n)
  | 0x005 => some (s.legBand n)
  | 0x01D => some (s.unit (unitOf Kind.leg n)).force
  | 0x01E => some (s.faultWord Kind.leg n)
  | 0x01F => some (nw (s.leg n).cause.code)
  | 0x061 => some (s.recovWord (unitOf Kind.leg n))
  | _ => if 0x020 ≤ i ∧ i ≤ 0x03F then some (s.legLogWord n (i - 0x020)) else none

/-- GATE items that report other state. -/
def State.viewGate (s : State) (n i : Nat) : Option Word :=
  match i with
  | 0x028 => some (nw ((if s.onFallbackNow n (s.leg n).ls then 2 else 0) + (if s.onFallbackNow n (s.leg n).hs then 1 else 0)))
  | _ => none

/-- SAFE.STATE (Table 15-12). -/
def State.safeWord (s : State) : Word :=
  let b (x : Bool) (k : Nat) : Nat := if x then 2 ^ k else 0
  let c (x : SafeCause) : Bool := decide (x ∈ s.dev.causes)
  nw (b s.sup.latched 15 + b s.sup.stoA 14 + b s.sup.stoB 13 + b s.sup.discrepancy 12 + b s.sup.valid 11
    + b (decide (s.regN Item.SAFE.KT ≠ 0)) 10 + b (KMap.get (fun _ => false) s.sup.slpAct 1) 6
    + b (KMap.get (fun _ => false) s.sup.slpAct 0) 5 + b (c .slp) 4 + b (c .sdi) 3 + b (c .sls) 2 + b (c .torque) 1 + b (c .sto) 0)

/-- SAFE items that report other state. -/
def State.viewSafe (s : State) (i : Nat) : Option Word :=
  match i with
  | 0x001 => some s.safeWord
  | 0x021 => some (nw ((s.time.now - s.sup.pathAt) / 60000000000))
  | 0x028 => some (s.unit (unitOf Kind.supervisor 0)).force
  | 0x029 => some (s.faultWord Kind.supervisor 0)
  | _ => none

/-- SOUT items that report other state. -/
def State.viewOut (s : State) (n i : Nat) : Option Word :=
  match i with
  | 0x001 => some (nw (s.outStateCode n))
  | 0x004 => some (s.reg (Item.SOUT.OFF_MASK n) ||| 0x18)
  | 0x00C => some (nw ((s.time.now - (s.out n).lastCycle) / 1000000))
  | 0x010 => some (s.unit (unitOf Kind.output n)).force
  | 0x011 => some (s.faultWord Kind.output n)
  | 0x012 => some (s.recovWord (unitOf Kind.output n))
  | _ => none

/-- FLT items that report the journal. -/
def State.viewFlt (s : State) (i : Nat) : Option Word :=
  match i with
  | 0x003 => some (nw s.store.journalCount)
  | 0x00A => some (nw s.store.graveCount)
  | _ => if 0x005 ≤ i ∧ i ≤ 0x009 then some (s.journalWord (i - 0x005)) else none

/-- SVC items that report the firmware store and the service log. -/
def State.viewSvc (s : State) (i : Nat) : Option Word :=
  match i with
  | 0x010 => some (nw s.store.fwRun)
  | 0x011 => some (nw (s.store.fwState.getD 0 0))
  | 0x012 => some (nw (s.store.fwState.getD 1 0))
  | 0x013 => some (nw (s.store.fwVersion.getD 0 0))
  | 0x014 => some (nw (s.store.fwVersion.getD 1 0))
  | 0x015 => some (nw s.store.fwFloor)
  | 0x018 => some (nw s.store.fwFallbacks)
  | 0x020 => some (nw s.store.logCount)
  | _ => if 0x022 ≤ i ∧ i ≤ 0x025 then some (s.logWord (i - 0x022)) else none

/-- An edge port counts (ABZ, HALL, SSI); the analogue modes turn sensor cycles. -/
def State.portMode (s : State) (p : Nat) : Nat := s.regN (Item.POS.MODE p)

/-- The sign that POS.DIR gives (0 as wired, 1 inverted). -/
def State.portSign (s : State) (p : Nat) : Int := if s.regN (Item.POS.DIR p) = 1 then -1 else 1

/-- The extended position of a raw position, in 1/2^24 turn: counts over CPR, or sensor cycles over SENSOR_CYC,
shifted by what homing assigned (R392). -/
def State.extended (s : State) (p : Nat) (raw : Int) : Int :=
  (if s.portMode p = 1 ∨ s.portMode p = 2 then raw / (Nat.max 1 (s.regN (Item.POS.SENSOR_CYC p)) : Nat)
   else raw * 2 ^ 24 / (Nat.max 1 (s.regN (Item.POS.CPR p)) : Nat)) + (s.port p).home

/-- The extended position x of a port. -/
def State.portX (s : State) (p : Nat) : Int := s.extended p (s.port p).raw

/-- The mechanical angle of an extended position. -/
def angleM (x : Int) : Nat := (x % 2 ^ 24).toNat

/-- ANGLE_E (R249). -/
def State.angleE (s : State) (p : Nat) (x : Int) : Nat :=
  (angleM x * s.regN (Item.POS.POLE_PAIRS p) / 256 + s.regN (Item.POS.EL_OFS p)) % 65536

/-- Whether a port's results are valid but for extrapolation (R262): in service, neither WIRE nor AMP set, and an analogue or SSI port
has had an update or an accepted frame since power-up. -/
def State.portSound (s : State) (p : Nat) : Bool :=
  let r := s.port p
  let m := s.portMode p
  decide (m ≠ 0) && !(s.unit (unitOf Kind.port p)).out && !r.wire && !r.amp && (decide (m = 3 ∨ m = 4) || r.seen)

/-- VALID of a port (R261, R262). -/
def State.portValid (s : State) (p : Nat) : Bool := s.portSound p && !(s.port p).far

/-- POS.STATUS (Table 9-9). -/
def State.portStatus (s : State) (p : Nat) : Word :=
  let r := s.port p
  let b (x : Bool) (k : Nat) : Nat := if x then 2 ^ k else 0
  nw (b (s.portValid p) 15 + b r.ref 14 + b r.extrap 13 + b r.standstill 12
    + b (decide (s.regI (Item.POS.SPEED p) < 0)) 11 + b r.wire 10 + b r.amp 9 + b r.exc 8 + b r.ssi 7 + b r.zBad 6
    + b r.plaus 5 + b (s.unit (unitOf Kind.port p)).out 4)

/-- POS items that report a port. -/
def State.viewPos (s : State) (n i : Nat) : Option Word :=
  match i with
  | 0x040 => some (s.portStatus n)
  | 0x041 => some (nw (angleM (s.portX n)))
  | 0x042 => some (nw (s.angleE n (s.portX n)))
  | 0x044 => some (iw (s.portX n / 2 ^ 24))
  | 0x045 => some (iw (s.port n).raw)
  | 0x050 => some (s.unit (unitOf Kind.port n)).force
  | 0x051 => some (s.faultWord Kind.port n)
  | 0x052 => some (s.recovWord (unitOf Kind.port n))
  | _ => none

/-- The grid index of the present position (R268): the last grid point at or below it. -/
def State.gridIndex (s : State) (p c : Nat) : Int :=
  (s.portX p - s.regI (Item.POS.CMP_ORIGIN p c)) / ((Nat.max 1 (s.regN (Item.POS.CMP_STEP p c)) : Nat) : Int)

/-- A compare unit is on (R268). -/
def State.compareOn (s : State) (p c : Nat) : Bool :=
  decide (s.regN (Item.POS.CMP_STEP p c) ≠ 0) && decide (s.regN (Item.POS.CMP_DIR p c) ≠ 0)

/-- Setting a unit's index from the present position, without an event, when it is enabled or changed (R268). -/
def State.resetIndex (s : State) (p c : Nat) : State :=
  let r := s.port p
  s.setPort p { r with
    index := KMap.put (fun _ => none) r.index c (if s.compareOn p c then some (s.gridIndex p c) else none)
    planned := KMap.put (fun _ => none) r.planned c none }

/-- TRC.SET_SAFE: the supervisor's evaluation invalid, sets held at ASC, sets held in their safe state (R311). -/
def State.setSafeWord (s : State) : Word :=
  match s.trcSheaf with
  | none => 0
  | some n =>
    let bits (f : Nat → Bool) : Nat := (List.range s.setCount).foldl (fun a k => if f k then a + 2 ^ k else a) 0
    nw ((if s.sup.valid then 0 else 0x8000) + bits (fun k => (s.setLegs k).any (fun l => (s.leg l).asc)) * 256
      + bits (fun k => (s.setLegs k).any (fun l => s.legHeld n k l)))

/-- TRC items that report other state: the sets active, the safe states held, the sets whose recovery waits for OPEN (R319). -/
def State.viewTrc (s : State) (i : Nat) : Option Word :=
  match i with
  | 0x002 => some (nw (s.setsActive.foldl (fun a k => a + 2 ^ k) 0))
  | 0x003 => some s.setSafeWord
  | 0x049 =>
    some (nw ((List.range s.setCount).foldl (fun a k =>
      if s.sup.asc && (s.setLegs k).any (fun l =>
          let r := s.unit (unitOf Kind.leg l)
          decide (r.state = .resting) && decide (s.regN (Item.FLT.AUTO_RECOV 2) = 1) && decide (r.restEnd ≤ s.time.now))
      then a + 2 ^ k else a) 0))
  | _ => none

/-- CHG.FLAGS (R326 to R351). -/
def State.chargeFlags (s : State) : Nat :=
  let c := s.charge
  let bit (x : Bool) (v : Nat) : Nat := if x then v else 0
  bit c.alone 128 + bit (decide (c.phases = 1)) 64 + bit c.plugNext.isSome 32 + bit c.pilotNext.isSome 16 + bit c.debounced 8
    + bit c.timerLatch 4 + bit (c.running && F32.lt (s.reg Item.CHG.I_TGT) (s.reg Item.CHG.I_REQ)) 2 + bit c.fallback 1

/-- The session status word (R345). -/
def State.sessionWord (s : State) : Word :=
  nw (s.charge.code * 0x1000000 + s.regN Item.CHG.STOP_CAUSE * 0x10000 + s.charge.phases * 256 + s.chargeFlags)

/-- CHG items that report the session. -/
def State.viewChg (s : State) (i : Nat) : Option Word :=
  match i with
  | 0x001 => some (nw s.charge.code)
  | 0x003 => some (nw s.chargeFlags)
  | 0x074 => some s.sessionWord
  | _ => none

/-- Whether a group of legs is throttled (R468): an estimate above THM.WARN, or a sensor that rises faster than DTDT_MAX. -/
def State.throttled (s : State) (legs : List Nat) : Bool :=
  legs.any (fun l =>
    ((s.heat l).valid && decide (s.regI (Item.LEG.TEMP_EST l) > s.regI Item.THM.WARN * 10))
    || F32.lt (F32.ofInt (s.regI Item.THM.DTDT_MAX)) (s.heat l).rate)

/-- The legs of the charger's sheaves in RUN. -/
def State.chargerLegs (s : State) : List Nat :=
  ((List.range 12).filter (fun n => decide (s.stype n = SType.chgf ∨ s.stype n = SType.chgd) && decide ((s.sheaf n).state = .run))).flatMap
    s.bind.legsOf

/-- Whether image writes are throttled (Table 17-4). -/
def State.writesThrottled (s : State) : Bool :=
  decide (s.regI (Item.THM.DIE_T 3) > s.regI Item.THM.NV_T * 10) || decide (s.therm.dieRate > s.regI Item.THM.DTDT_MAX * 10)

/-- THM items that report throttling (R464, R468). -/
def State.viewThm (s : State) (i : Nat) : Option Word :=
  match i with
  | 0x010 =>
    let act (k : Nat) : Bool := match s.actSheaf k with | some n => s.throttled (s.bind.legsOf n) | none => false
    let g := (List.range 6).foldl (fun a k => if F32.lt (s.rateFactor k) 0x3F800000 then a + 2 ^ k else a) 0
    some (nw (g * 256 + (if s.writesThrottled then 8 else 0) + (if s.throttled s.chargerLegs then 4 else 0)
      + (if act 1 then 2 else 0) + (if act 0 then 1 else 0)))
  | _ => none

/-- AUX items that report the low-voltage path and the force bits of the auxiliary sheaves. -/
def State.viewAux (s : State) (i : Nat) : Option Word :=
  let force (ty : Nat) : Option Word := (s.bind.sheafOfType ty).map (fun n => (s.unit (unitOf Kind.sheaf n)).force)
  match i with
  | 0x014 => force SType.auxi
  | 0x061 => force SType.auxb
  | 0x05E => some (nw ((if s.lv.phase then 4 else 0) + (if s.lv.transport then 2 else 0) + (if s.lv.latchOpen then 1 else 0)))
  | 0x05F =>
    some (match s.lv.shipFrom with
      | some t => nw (Nat.min 65535 ((s.time.now - t) / 1000000))
      | none => 0)
  | _ => none

/-- The port of an actuator, and its measured position in motor turns. -/
def State.actPort (s : State) (k : Nat) : Nat := match s.actSheaf k with | some n => (s.portOf n).getD 4 | none => 4

/-- The measured position of an actuator in turns. -/
def State.actPos (s : State) (k : Nat) : Word := F32.ofRat (s.portX (s.actPort k)) (2 ^ 24)

/-- Whether the port of an actuator gives a VALID result (R262). -/
def State.actPortValid (s : State) (k : Nat) : Bool := s.portValid (s.actPort k)

/-- Whether an actuator is homed (R391). -/
def State.homed (s : State) (k : Nat) : Bool :=
  if s.regN (Item.ACT.HOME_MODE k) = 0 then (s.port (s.actPort k)).ref && s.actPortValid k else (s.actuator k).homed

/-- Whether a position lies within POS_BAND of detent `j`. -/
def State.inBand (s : State) (k j : Nat) : Bool :=
  F32.le (F32.abs (F32.sub (s.actPos k) (s.reg (Item.ACT.POS k j)))) (s.reg (Item.ACT.POS_BAND k))

/-- ACT.STATE (Table 14-7). -/
def State.actStateCode (s : State) (k : Nat) : Nat :=
  match (s.actuator k).move with
  | none => if s.homed k then 1 else 0
  | some m =>
    match m.step with
    | 2 => 2 | 3 => 7 | 6 => 7 | 10 => 5 | 11 => 5 | 12 => 6
    | 5 => if m.op ≥ 3 then 5 else 4
    | _ => if m.op ≥ 3 then 5 else 3

/-- The conditions of R400 but for the switched-off latch output: homed, port VALID, in the band of POS_0, and in the engaged window
by the supervisor's own evaluation (R417). -/
def State.engaged (s : State) (k : Nat) : Bool :=
  let p := s.regI (Item.SAFE.ACT_POS k)
  s.homed k && s.actPortValid k && s.inBand k 0 && KMap.get (fun _ => false) s.sup.actValid k
    && decide (s.regI Item.SAFE.PARK_WIN_LO ≤ p) && decide (p ≤ s.regI Item.SAFE.PARK_WIN_HI)
    && !bitOf (s.unit (unitOf Kind.actuator k)).force 2

/-- Whether a PARK actuator is proved engaged (R400). -/
def State.parkProved (s : State) (k : Nat) : Bool := s.engaged k && !(s.out 5).on

/-- ACT.PARK_STATE (Table 14-7). -/
def State.parkStateCode (s : State) (k : Nat) : Nat :=
  if s.parkActuator ≠ some k then 0
  else if s.parkProved k then 2
  else if !s.homed k ∨ !s.actPortValid k then 0
  else if s.inBand k 0 then 3
  else if s.inBand k 1 then 1
  else 4

/-- When the pause before a move ends (R396): a park-lock move to POS_0 skips the throttling pause. -/
def State.pauseFor (s : State) (k : Nat) (engaging : Bool) : Nat :=
  let a := s.actuator k
  if engaging && decide (s.parkActuator = some k) then a.pauseEnd else Nat.max a.pauseEnd a.thermEnd

/-- ACT items that report an actuator. -/
def State.viewAct (s : State) (k i : Nat) : Option Word :=
  match i with
  | 0x001 => some (nw (s.actStateCode k))
  | 0x030 => some (s.actPos k)
  | 0x031 => some (match (s.actuator k).move with | some m => m.target | none => 0)
  | 0x032 => some (nw (s.parkStateCode k))
  | 0x033 => some (nw (((List.range 8).find? (s.inBand k)).getD 15))
  | 0x034 => some (nw ((s.pauseFor k false - s.time.now + 999999) / 1000000))
  | 0x039 => some (s.unit (unitOf Kind.actuator k)).force
  | 0x03A => some (s.faultWord Kind.actuator k)
  | 0x03B => some (s.recovWord (unitOf Kind.actuator k))
  | _ => none

/-- CAN.ERR: error state, transmit and receive error counters, the last error. -/
def State.canErrWord (s : State) (n : Nat) : Word :=
  let c := s.can n
  let st := s.regN (Item.CAN.STATE n)
  let e := if st = 4 ∨ st = 5 then 2 else if 127 < c.tec ∨ 127 < c.rec' then 1 else 0
  nw (e * 0x1000000 + Nat.min 255 c.tec * 0x10000 + Nat.min 255 c.rec' * 256 + c.lastError)

/-- Converter, port, lane, actuator and CAN items that report a unit's own record. -/
def State.viewUnits (s : State) (g n i : Nat) : Option Word :=
  match g, i with
  | 0x0C, 0x019 => some (s.faultWord Kind.fast n)
  | 0x0C, 0x01A => some (s.recovWord (unitOf Kind.fast n))
  | 0x0D, 0x011 => some (s.faultWord Kind.slow n)
  | 0x0D, 0x012 => some (s.recovWord (unitOf Kind.slow n))
  | 0x0D, 0x03B => some (nw (bitsOf (s.reg (Item.ADCI.ISO_STATUS n)) 3 0
      + (if n = 1 ∧ (s.slow 1).isoFrom ≤ s.time.now then (s.slow 1).iso * 16 else 0)))
  | 0x10, 0x004 => some (nw (s.laneStateCode n))
  | 0x10, 0x062 => some (s.unit (unitOf Kind.lane n)).force
  | 0x10, 0x063 => some (s.faultWord Kind.lane n)
  | 0x10, 0x064 => some (s.recovWord (unitOf Kind.lane n))
  | 0x1C, 0x017 => some (s.canErrWord n)
  | 0x1C, 0x031 => some (s.unit (unitOf Kind.can n)).force
  | 0x1C, 0x032 => some (s.faultWord Kind.can n)
  | 0x1C, 0x033 => some (s.recovWord (unitOf Kind.can n))
  | 0x0C, _ => if 0x068 ≤ i ∧ i ≤ 0x06F then some (s.faultWord Kind.fastInput (8 * n + (i - 0x068))) else none
  | 0x0D, _ => if 0x060 ≤ i ∧ i ≤ 0x07F then some (s.faultWord Kind.slowInput (32 * n + (i - 0x060))) else none
  | _, _ => none

end Sys2Proof.Machine
end

