-- ==== Sys2Proof/Machine/Operands.lean ====
section
/-! DEFINITION. The operand forms of host commands: parameter address words, value ranges (R136), owners and rights
(R138), boundaries (Table 5-5), UNIT fields (Table 4-6). -/

namespace Sys2Proof.Machine

/-- The blocks of Table 5-5. -/
inductive Block where
  | sheaf (n : Nat)
  | lane (n : Nat)
  | gen (n : Nat)
  | fast (n : Nat)
  | slow (n : Nat)
  | port (n : Nat)
  /-- Items the shell processor uses: boundary on delivery. -/
  | shell
  deriving DecidableEq, Repr

/-- A sheaf that exists (not TYPE NONE). -/
def State.realSheaf (s : State) (n : Nat) : Option Nat := if s.stype n = 0 then none else some n

/-- The sheaf that owns an item (Table 5-1), where that sheaf exists (R138). -/
def State.ownerSheaf (s : State) (a : Nat) : Option Nat :=
  let n := Item.inst a
  match Item.group a with
  | 0x08 => s.realSheaf n
  | 0x0B => s.realSheaf n
  | 0x09 => s.bind.sheafOfLeg n
  | 0x0A => s.bind.sheafOfLeg n
  | 0x10 => s.realSheaf (s.bind.loopSheaf.getD n 15)
  | 0x11 => s.realSheaf (s.bind.profSheaf.getD n 15)
  | 0x12 => s.bind.sheafOfType SType.trc
  | 0x13 => s.bind.sheafOfType SType.chgf
  | 0x14 => if Item.num a < 0x040 then s.bind.sheafOfType SType.auxi else s.bind.sheafOfType SType.auxb
  | 0x15 => s.actSheaf n
  | _ => none

/-- The block at whose boundary an item takes effect (Table 5-5). -/
def State.blockOf (s : State) (a : Nat) : Block :=
  let n := Item.inst a
  match Item.group a with
  | 0x0C => .fast n
  | 0x0D => .slow n
  | 0x0E => .port n
  | 0x10 => .lane n
  | 0x11 => .gen n
  | _ =>
    match s.ownerSheaf a with
    | some m => .sheaf m
    | none => .shell

/-- Whether a block runs, so that a value waits for its next boundary (Table 5-4, Table 5-5). -/
def State.blockRunning (s : State) (b : Block) : Bool :=
  let runs (n : Nat) : Bool := decide (n < 12) && decide ((s.sheaf n).state = .run)
  match b with
  | .sheaf n => runs n
  | .lane n => runs (s.bind.loopSheaf.getD n 15)
  | .gen n => runs (s.bind.profSheaf.getD n 15)
  | .fast _ => true
  | .slow _ => true
  | .port n => decide (s.regN (Item.POS.MODE n) ≠ 0)
  | .shell => false

/-- The owner of a class-O item counts as closed (R146): a lane while it is closed; any other owner while its sheaf is
in PROVING or RUN. -/
def State.ownerClosed (s : State) (a : Nat) : Bool :=
  if Item.group a = 0x10 then s.laneClosed (Item.inst a)
  else
    match s.ownerSheaf a with
    | some n => decide ((s.sheaf n).state = .proving ∨ (s.sheaf n).state = .run)
    | none => false

/-- The frequency range of a sheaf type in fine units (Table 7-1). -/
def periodRange (ty : Nat) : Nat × Nat :=
  match ty with
  | 1 => (320000, 3200000)
  | 2 => (91429, 640000)
  | 3 => (25600, 160000)
  | 4 => (25600, 160000)
  | 5 => (10667, 51200)
  | 6 => (256000, 800000)
  | _ => (320000, 3200000)

/-- The number of bits set. -/
def popCount (n : Nat) : Nat := ((List.range 32).filter (fun k => n.testBit k)).length

/-- The bounds of an item that depend on what its block is: the period and carrier of a sheaf by Table 7-1, the source that SYNCIN is, the
limits of a lane by its TYPE (Tables 7-1, 7-7 and 10-7). DEDUCED: assumption log 118. -/
def State.fitsBlock (s : State) (a : Nat) (w : Word) : Bool :=
  let v := w.toNat
  let n := Item.inst a
  let ty := s.stype n
  if a = Item.PWM.PERIOD n then decide ((periodRange ty).1 ≤ v) && decide (v ≤ (periodRange ty).2)
  else if a = Item.PWM.MODE n then decide (v = 0) || (decide (2 ≤ ty) && decide (ty ≤ 6) && decide (s.bind.countOf n ≤ 8))
  else if a = Item.PWM.PERIOD_SRC n then decide (v ≠ 2) || decide (ty = 5)
  else if a = Item.LOOP.OUT_MAX n then
    !decide (s.regN (Item.LOOP.TYPE n) = 1 ∨ s.regN (Item.LOOP.TYPE n) = 4) || (F32.le 0x3F000000 w && F32.le w 0x3F800000)
  else if a = Item.LOOP.OUT_MODE n then decide (v ≠ 2) || decide (s.regN (Item.LOOP.TYPE n) ≠ 7)
  else if a = Item.LOOP.KAW n then F32.le w (F32.ofRat 1000000000 (Nat.max 1 (s.regN (Item.LOOP.TS_NOM n))))
  else true

/-- Whether a word lies in a range (R136). -/
def State.inRange (s : State) (a : Nat) (r : ItemRange) (w : Word) : Bool :=
  let v := w.toNat
  let n := Item.inst a
  s.fitsBlock a w &&
  match r with
  | .any => true
  | .u lo hi step => decide (lo ≤ v) && decide (v ≤ hi) && decide (v % step = 0)
  | .i lo hi => decide (lo ≤ w.toInt) && decide (w.toInt ≤ hi)
  | .codes l => decide (v ∈ l)
  | .uOr c lo hi => decide (v = c) || (decide (lo ≤ v) && decide (v ≤ hi))
  | .mask m => decide (v &&& m = v)
  | .bytes lo hi => [0, 8, 16, 24].all (fun k => decide (lo ≤ bitsOf w (k + 7) k) && decide (bitsOf w (k + 7) k ≤ hi))
  | .halves lo hi => [0, 16].all (fun k => decide (lo ≤ bitsOf w (k + 15) k) && decide (bitsOf w (k + 15) k ≤ hi))
  | .f32 lo hi => F32.le lo w && F32.le w hi
  | .legEn => decide (v < 2 ^ s.bind.countOf n)
  | .trigRef =>
    decide (v &&& 0xF01F = v) && decide (bitsOf w 15 12 ≤ 4)
      && (decide (bitsOf w 15 12 < 2) || decide (bitsOf w 4 0 < s.bind.countOf n))
  | .trigDst =>
    decide (v &&& 0xFF07 = v) && decide (bitsOf w 15 12 ≤ 2) && (decide (bitsOf w 15 12 ≠ 2) || decide (bitsOf w 11 8 < 4))
  | .cmpDst => decide (v &&& 0xFF07 = v) && decide (bitsOf w 15 12 ≤ 1)
  | .seqWord => decide (v < 0x09000000) && decide (bitsOf w 27 24 ≤ 8)
  | .rangeMask => if n < 3 then decide (v &&& 0x80 = v) else decide (v &&& 0xC0 = v)
  | .scanMask => decide (v < 0x40000000) && decide (popCount v ≤ 8)
  | .iinMask => decide (v < 0x40000000) && decide (if n = 0 then v % 256 = 0 else v % 4 = 0)
  | .mainsEn => decide (v ≤ 1) && decide (n = 0 ∨ v = 0)
  | .isoEn => decide (v ≤ 1) && decide (n = 1 ∨ v = 0)
  | .cpr =>
    if s.regN (Item.POS.MODE n) = 4 then decide (6 ≤ v) && decide (v ≤ 192) && decide (v % 6 = 0)
    else decide (16 ≤ v) && decide (v ≤ 1048576) && decide (v % 4 = 0)
  | .ssiErrMask => decide (v < 2 ^ s.regN (Item.POS.SSI_STAT n))
  | .srcWord => decide (bitsOf w 31 28 ≤ 5) && decide (bitsOf w 26 16 = 0)
  | .restRange =>
    if Item.num a - 0x010 ∈ [0, 1, 6, 7] then decide (v = 0) else decide (1 ≤ v) && decide (v ≤ 60000)
  | .ardWord =>
    decide (v = 0) || (decide (125 ≤ bitsOf w 31 16) && decide (bitsOf w 31 16 ≤ 1000)
      && (decide (bitsOf w 15 0 = 0) || (decide (bitsOf w 31 16 ≤ bitsOf w 15 0) && decide (bitsOf w 15 0 ≤ 8000))))
  | .mapBase =>
    decide (bitsOf w 30 29 = 0) && decide (bitsOf w 28 0 % 32 = 0) && (bitOf w 31 || decide (bitsOf w 28 0 ≤ 0x7E0))

/-- The battery-limit items of TRC and CHG, written by right and not by claim (R138). -/
def isBatteryLimit (a : Nat) : Bool :=
  (decide (Item.group a = 0x12) && decide (0x00A ≤ Item.num a) && decide (Item.num a ≤ 0x00D))
  || (decide (Item.group a = 0x13) && decide (0x060 ≤ Item.num a) && decide (Item.num a ≤ 0x063))

/-- The key items (R138). -/
def isKey (a : Nat) : Bool := decide (Item.group a = 0x02) && decide (0x010 ≤ Item.num a) && decide (Item.num a ≤ 0x013)

/-- The rights mask of a slot: HOST.RIGHTS, or 0x1F03 when the device booted without a valid image (R101). -/
def State.rights (s : State) (slot : Nat) : Word :=
  if s.regN Item.IMG.BOOT_SLOT = 2 then 0x1F03 else s.reg (Item.HOST.RIGHTS slot)

/-- Rights mask bits of Table 4-1. -/
abbrev Right.read : Nat := 0
abbrev Right.stream : Nat := 1
abbrev Right.ctrlTrc : Nat := 2
abbrev Right.ctrlChg : Nat := 3
abbrev Right.ctrlAux : Nat := 4
abbrev Right.ctrlAct : Nat := 5
abbrev Right.mode : Nat := 6
abbrev Right.limits : Nat := 7
abbrev Right.test : Nat := 8
abbrev Right.image : Nat := 9
abbrev Right.keys : Nat := 10
abbrev Right.cfg : Nat := 11
abbrev Right.svcClaim : Nat := 12

/-- Whether a slot holds a right. -/
def State.hasRight (s : State) (slot r : Nat) : Bool := bitOf (s.rights slot) r

/-- Whether a slot holds the CONTROL claim of a sheaf (R118). -/
def State.hasClaim (s : State) (slot n : Nat) : Bool := (s.slot slot).claims.toNat.testBit n

/-- The CTRL right of a sheaf type (Table 4-1). -/
def ctrlRight (ty : Nat) : Option Nat :=
  match ty with
  | 1 => some Right.ctrlTrc
  | 2 => some Right.ctrlChg
  | 3 => some Right.ctrlChg
  | 4 => some Right.ctrlAux
  | 5 => some Right.ctrlAux
  | 6 => some Right.ctrlAct
  | _ => none

/-- Check 2 of Table 5-3: the slot holds the item's write right (R138). -/
def State.writeRight (s : State) (slot a : Nat) (w : Word) : Bool :=
  if Item.group a = 0x18 ∨ Item.group a = 0x19 then true
  else if a = Item.DEV.MODE_REQ then
    if (w = 5 ∧ s.dev.state = .standby) ∨ (w = 2 ∧ s.dev.state = .service) then s.hasRight slot Right.svcClaim
    else s.hasRight slot Right.mode
  else if isKey a then s.hasRight slot Right.keys && decide (s.dev.state = .service)
  else if isBatteryLimit a then s.hasRight slot Right.limits
  else
    match s.ownerSheaf a with
    | some _ => true
    | none => s.hasRight slot Right.cfg

/-- Check 3 of Table 5-3: the slot holds the claim, where one is needed (R82, R138). -/
def State.writeClaim (s : State) (slot a : Nat) (w : Word) : Bool :=
  if a = Item.DEV.MODE_REQ then
    let need : Option Nat := if w = 3 then some SType.trc else if w = 4 then some SType.chgf else none
    match need with
    | none => true
    | some ty =>
      match s.bind.sheafOfType ty with
      | some n => s.hasClaim slot n
      | none => false
  else if isBatteryLimit a then true
  else
    match s.ownerSheaf a with
    | some n => s.hasClaim slot n
    | none => true

/-- Whether a UNIT word names a unit that exists (Table 4-6, R436). -/
def State.unitExists (s : State) (u : Nat) : Bool :=
  let i := unitIndex u
  match unitKind u with
  | 0 => decide (i = 0)
  | 1 => decide (i < 12) && decide (s.stype i ≠ 0)
  | 2 => decide (i < 48)
  | 3 => decide (i < s.setCount)
  | 4 => (s.actSheaf i).isSome
  | 5 => decide (i < 128)
  | 6 => decide (i < 64)
  | 7 => decide (i < 4)
  | 8 => decide (i < 8)
  | 9 => decide (i < 32)
  | 10 => decide (i < 16)
  | 11 => decide (i < 2)
  | 12 => decide (i < 4)
  | 13 => decide (i = 0)
  | _ => false

/-- The sheaf whose claim a command to a unit needs (Table 4-3, R497): none for a unit that no sheaf owns. -/
def State.unitSheaf (s : State) (u : Nat) : Option Nat :=
  let i := unitIndex u
  match unitKind u with
  | 1 => s.realSheaf i
  | 2 => s.bind.sheafOfLeg i
  | 3 => s.trcSheaf
  | 4 => s.actSheaf i
  | 9 => s.realSheaf (s.bind.loopSheaf.getD i 15)
  | _ => none

end Sys2Proof.Machine
end

