-- ==== Sys2Proof/Machine/Params.lean ====
section
/-! DEFINITION. Reading, checking and writing parameter items (chapter Parameter Space and Change Rules): the result of a
read (Table 4-7), the checks of Table 5-3, where a written value goes (Table 5-4), what a boundary and a SWAP do, the
configuration CRCs. -/

namespace Sys2Proof.Machine

/-- What an item reads as (R152, R153): a descriptor (R133), state held elsewhere in its encoding, or the register. -/
def State.item (s : State) (a : Nat) : Word :=
  let g := Item.group a
  let n := Item.inst a
  let i := Item.num a
  if Catalogue.isDescriptor a then Catalogue.descriptor g
  else
    let v : Option Word :=
      match g with
      | 0x01 => s.viewDev i
      | 0x02 => s.viewHost n i
      | 0x03 => s.viewImg i
      | 0x08 => s.viewSheaf n i
      | 0x09 => s.viewLeg n i
      | 0x0A => s.viewGate n i
      | 0x0E => s.viewPos n i
      | 0x12 => s.viewTrc i
      | 0x13 => s.viewChg i
      | 0x14 => s.viewAux i
      | 0x15 => s.viewAct n i
      | 0x18 => s.viewSafe i
      | 0x19 => s.viewOut n i
      | 0x1A => s.viewFlt i
      | 0x1B => s.viewThm i
      | 0x1E => s.viewSvc i
      | _ => s.viewUnits g n i
    v.getD (s.reg a)

/-- The status byte and value of one address word of PARAM_READ (Table 4-7, R132, R139). -/
def State.readItem (s : State) (w : Word) : Nat × Word :=
  let a := bitsOf w 23 0
  if bitsOf w 30 24 ≠ 0 then (1, 0)
  else if Catalogue.isDescriptor a then (0, s.item a)
  else
    match Catalogue.find a with
    | none => (1, 0)
    | some d =>
      if d.acc = .wo then (2, 0)
      else if a ∈ s.poison then (3, 0)
      else if bitOf w 31 ∧ (d.cls = .S ∨ d.cls = .O) then (0, s.shadow a)
      else (0, s.item a)

/-- The 8 result bytes of one item: status, address, value (Table 4-3). -/
def State.readBytes (s : State) (w : Word) : List Byte :=
  let r := s.readItem w
  BitVec.ofNat 8 r.1 :: beBytes 3 (bitsOf w 23 0) ++ wordBytes r.2

/-- The 32-bit words of a payload, in order. -/
def payloadWords : List Byte → List Word
  | a :: b :: c :: d :: t => nw (beNat [a, b, c, d]) :: payloadWords t
  | _ => []

/-- The address and value pairs of a PARAM_WRITE payload. -/
def payloadPairs : List Word → List (Word × Word)
  | a :: v :: t => (a, v) :: payloadPairs t
  | _ => []

/-- Whether a SWAP of the sheaf that owns an item is pending (R94, R151). -/
def State.swapHolds (s : State) (a : Nat) : Option Nat :=
  match s.ownerSheaf a with
  | some n => if s.swaps.any (fun w => decide (w.sheaf = n)) then some n else none
  | none => none

/-- Checks 1 to 7 of Table 5-3 for one item; none where all pass. -/
def State.checkItem (s : State) (slot : Nat) (aw w : Word) : Option (Nat × Nat) :=
  let a := bitsOf aw 23 0
  if bitsOf aw 30 24 ≠ 0 then some (Code.invalid, Reason.unit)
  else
    match Catalogue.find a with
    | none =>
      if Catalogue.isDescriptor a then
        if !s.writeRight slot a w then some (Code.denied, Reason.noRight)
        else if !s.writeClaim slot a w then some (Code.denied, Reason.rights)
        else some (Code.invalid, Reason.readOnly)
      else some (Code.invalid, Reason.unit)
    | some d =>
      if !s.writeRight slot a w then some (Code.denied, Reason.noRight)
      else if !s.writeClaim slot a w then some (Code.denied, Reason.rights)
      else if !s.inRange a d.rng w ∧ Item.group a ≠ 0x18 ∧ Item.group a ≠ 0x19 then some (Code.invalid, Reason.range)
      else if d.acc = .ro then some (Code.invalid, Reason.readOnly)
      else if d.cls = .B then some (Code.invalid, Reason.classB)
      else if d.cls = .O ∧ bitOf aw 31 = false ∧ s.ownerClosed a then some (Code.busyClosed, Reason.none)
      else none

/-- The value an item will have in the set a write takes effect in, with the items of the same command applied first
(R137): `sh` picks the shadow set for items of class S and O. Values on their way count as taken. -/
def State.effective (s : State) (items : List (Word × Word)) (sh : Bool) (a : Nat) : Word :=
  let cls := match Catalogue.find a with | some d => d.cls | none => ChangeClass.L
  let hits := items.filter (fun p => decide (bitsOf p.1 23 0 = a)
    && (match cls with
        | .S => sh
        | .O => sh || !bitOf p.1 31
        | _ => true))
  let onWay := s.waits.filter (fun p => decide (p.addr = a) && (if sh then p.shadow || p.both else !p.shadow))
  match hits.getLast? with
  | some p => p.2
  | none =>
    match onWay.getLast? with
    | some p => p.value
    | none => if sh ∧ (cls = .S ∨ cls = .O) then s.shadow a else s.item a

/-- What else happens as an item's value takes effect: a position-compare unit sets its index anew (R268), the insulation monitor begins
or stops (R238), a leg without an estimate changes its band (R164). -/
def State.tookEffect (s : State) (a : Nat) : State :=
  let i := Item.num a
  if Item.group a = 0x0E ∧ 0x030 ≤ i ∧ i < 0x040 ∧ i % 8 < 5 then s.resetIndex (Item.inst a) ((i - 0x030) / 8)
  else if a = Item.ADCI.ISO_EN 1 then
    if s.isoOff then s.setIso 0 0 else if (s.slow 1).iso = 0 then s.setIso 1 s.time.now else s
  else if a = Item.LEG.BAND_FAILSAFE (Item.inst a) then s.bandAgain (Item.inst a)
  else s

/-- Delivering one accepted write (Table 5-4, R94, R144, R148, R151): class L and direct class O at the block's next
boundary where the block runs, else at once; class S and shadow class O into the shadow; class S and O of a sheaf with a
pending SWAP held until it has taken effect. -/
def State.deliver (s : State) (aw w : Word) : State :=
  let a := bitsOf aw 23 0
  match Catalogue.find a with
  | none => s
  | some d =>
    let held := if d.cls = .S ∨ d.cls = .O then s.swapHolds a else none
    let toShadow := decide (d.cls = .S) || (decide (d.cls = .O) && bitOf aw 31)
    let both := decide (d.cls = .O) && !bitOf aw 31
    let p : PendingWrite := { addr := a, value := w, both := both, shadow := toShadow, heldFor := held, tick := s.tick }
    if held.isSome then { s with waits := s.waits ++ [p] }
    else if toShadow then s.setShadow a w
    else
      let s1 := if both then s.setShadow a w else s
      if s1.blockRunning (s1.blockOf a) then { s1 with waits := s1.waits ++ [p] } else (s1.setReg a w).tookEffect a

/-- A value on its way lands: a direct class-O value that a SWAP held in both sets, one that has replaced the shadow already in the
active set alone. -/
def State.land (s : State) (p : PendingWrite) : State :=
  if p.shadow then s.setShadow p.addr p.value
  else
    let s1 := if p.both ∧ p.heldFor.isSome then s.setShadow p.addr p.value else s
    (s1.setReg p.addr p.value).tookEffect p.addr

/-- A block passes a boundary on a tick: every value that was delivered before that tick takes effect, in the order written (R23, R144,
R145). -/
def State.boundary (s : State) (b : Block) (tick : Nat) : State :=
  let due (p : PendingWrite) : Bool := p.heldFor.isNone && decide (s.blockOf p.addr = b) && decide (p.tick < tick)
  let s1 := { s with waits := s.waits.filter (fun p => !due p) }
  s1.forEach (s.waits.filter due) State.land

/-- The class-S and class-O items of a sheaf that differ between the two sets: only these a SWAP moves. -/
def State.swapItems (s : State) (own : State → Nat → Bool) : List Nat :=
  let keys := (s.regs.map (·.1)) ++ (s.shd.map (·.1))
  keys.dedup.filter (fun a => own s a &&
    (match Catalogue.find a with
     | some d => decide (d.cls = .S ∨ d.cls = .O)
     | none => false) && decide (s.reg a ≠ s.shadow a))

/-- Exchanging the active and shadow values of listed items (R89, R149). -/
def State.exchange (s : State) (l : List Nat) : State :=
  s.forEach l (fun t a => ((t.setReg a (s.shadow a)).setShadow a (s.reg a)).tookEffect a)

/-- A sheaf's own items. -/
def ownedBy (n : Nat) (s : State) (a : Nat) : Bool := decide (s.ownerSheaf a = some n)

/-- A SWAP of a sheaf takes effect: the two sets exchange, and the writes held for it land in the new shadow set (R94). -/
def State.swapNow (s : State) (n : Nat) : State :=
  let s1 := s.exchange (s.swapItems (ownedBy n))
  let mine (p : PendingWrite) : Bool := decide (p.heldFor = some n)
  let s2 := { s1 with waits := s1.waits.filter (fun p => !mine p), swaps := s1.swaps.filter (fun w => decide (w.sheaf ≠ n)) }
  s2.forEach (s1.waits.filter mine) (fun t p => t.land p)

/-- Whether the shadow set of a sheaf carries a changed class-O item of a closed owner (R92, R11). -/
def State.swapBlocked (s : State) (own : State → Nat → Bool) : Bool :=
  (s.swapItems own).any (fun a =>
    (match Catalogue.find a with
     | some d => decide (d.cls = .O)
     | none => false) && s.ownerClosed a)

/-- One step of the CRC-32 of IEEE 802.3, reflected (R157): eight shifts of a byte taken in. -/
def crcByte (c : Nat) (b : Byte) : Nat :=
  (List.range 8).foldl (fun x _ => if x % 2 = 1 then (x / 2) ^^^ 0xEDB88320 else x / 2) (c ^^^ b.toNat)

/-- The CRC-32 of bytes (R157: initial value and final XOR 0xFFFF_FFFF). -/
def crc32 (l : List Byte) : Word := nw ((l.foldl crcByte 0xFFFFFFFF) ^^^ 0xFFFFFFFF)

/-- Every configurable item of every instance, in ascending address order (R157): neither read only nor write only. -/
def Catalogue.configurable : List Nat :=
  (List.range 0x20).flatMap (fun g => (List.range (Catalogue.instances g)).flatMap (fun n =>
    (Catalogue.rows g).flatMap (fun d =>
      if d.acc = .rw then (List.range (d.hi + 1 - d.lo)).map (fun k => Item.addr g n (d.lo + k)) else [])))

/-- The 8-byte records of R157 over a list of items. -/
def State.crcOver (s : State) (l : List Nat) (sh : Bool) : Word :=
  crc32 (l.flatMap (fun a => beBytes 4 a ++ wordBytes (if sh then (s.readItem (nw (a + 0x80000000))).2 else s.item a)))

/-- The active and the shadow configuration CRC (R157). -/
def State.crcActive (s : State) : Word := s.crcOver Catalogue.configurable false
def State.crcShadow (s : State) : Word := s.crcOver Catalogue.configurable true

end Sys2Proof.Machine
end

