-- ==== Sys2Proof/Machine/Runs.lean ====
section
/-! DEFINITION. What sheaves do over time, shared by many commands: proofs (Table 3-4), entering RUN, orderly stops,
recoveries of units, and the frame every command keeps. -/

namespace Sys2Proof.Machine

/-! ## The frame of a command -/

/-- What no command changes, whatever else it does: the queue of waiting commands, the part's own marking (R4), and the
rule that a rollback floor is never lowered (R69, R508). DEDUCED: assumption log 10. -/
def State.keep (s t : State) : State :=
  { t with
    pending := s.pending
    dev := { t.dev with partAD0 := s.dev.partAD0 }
    store := { t.store with floor := Nat.max s.store.floor t.store.floor, fwFloor := Nat.max s.store.fwFloor t.store.fwFloor } }

/-- What a live device keeps besides: device time never steps backward (R29), and LOCKED is left only through a reset or
loss of supply (R14). -/
def State.keepLive (s t : State) : State :=
  let u := s.keep t
  { u with
    time := { u.time with now := Nat.max s.time.now u.time.now }
    dev := { u.dev with state := if s.dev.state = .locked then .locked else u.dev.state } }

/-- A command of the supply or reset contacts. -/
def State.always (s : State) (f : State → State) : State := s.keep (f s)

/-! ## Values and swaps on their way -/

/-- The PARAM_WRITE commands whose items were held for the SWAP of a sheaf have landed there; one that waits for no other sheaf
completes (R94, R143). -/
def State.finishWrites (s : State) (n : Nat) : State :=
  let u := unitOf Kind.sheaf n
  let cut : State := { s with seqs := s.seqs.map (fun q =>
    if q.kind = .write then { q with units := q.units.filter (fun x => decide (x ≠ u)) } else q) }
  cut.endSequences (fun q => decide (q.kind = .write) && decide (q.units = [])) Code.ok Reason.none (fun _ => [])

/-- A SWAP of a sheaf takes effect and, when no other sheaf of the same command is left, completes with the device time (R89,
R93); so do the writes held for it. -/
def State.finishSwap (s : State) (n : Nat) : State :=
  let s1 := s.swapNow n
  (s1.forEach (s.swaps.filter (fun w => decide (w.sheaf = n))) (fun t w =>
    if t.swaps.any (fun v => decide (v.slot = w.slot ∧ v.index = w.index)) then t
    else t.complete w.slot w.index Code.ok Reason.none (beBytes 8 t.time.now))).finishWrites n

/-- Whether a session is armed (R340, R342): power flows, or an arm has passed its checks. -/
def State.armed (s : State) : Bool :=
  s.charge.running || (match s.charge.arm with | some a => decide (1 < a.step) | none => false)

/-- A SAFE cause, or LOCKED, ends a session, an arm or a hand-over at once (R350). -/
def State.chargeSafe (s : State) : State :=
  let c := s.charge
  if (s.dev.state = .safe ∨ s.dev.state = .locked) ∧ (s.armed ∨ c.hand.isSome ∨ c.arm.isSome) then
    let s1 := if c.hand.isSome then s.setReg Item.CHG.HO_RESULT 4 else s
    { s1 with charge := { c with arm := none, hand := none, running := false, cpsw := false, roles := false, precharge := false } }.endSequences
      (fun q => decide (q.kind = SeqKind.arm ∨ q.kind = SeqKind.disarm)) Code.aborted Reason.none (fun _ => [])
  else s

/-- Values that wait for a boundary of a block that runs no longer take effect at once, and so does a SWAP of a sheaf that has
left RUN (R91, R144). -/
def State.settle (s : State) : State :=
  if s.waits = [] ∧ s.swaps = [] then s
  else
    let s1 := s.forEach ((s.swaps.filter (fun w => decide ((s.sheaf w.sheaf).state ≠ .run))).map (·.sheaf)) State.finishSwap
    let due (p : PendingWrite) : Bool := p.heldFor.isNone && !s1.blockRunning (s1.blockOf p.addr)
    { s1 with waits := s1.waits.filter (fun p => !due p) }.forEach (s1.waits.filter due) State.land

/-- A command that only a live device gives an effect to; what a SAFE cause ends, and what waits for a block that has stopped, is
settled with it. -/
def State.act (s : State) (f : State → State) : State := if s.live then s.keepLive (f s).chargeSafe.settle else s

/-! ## Recovery of units -/

/-- The lanes that read a profile generator (Table 10-3). -/
def State.readersOf (s : State) (g : Nat) : List Nat :=
  (List.range 32).filter (fun n => s.laneBound n && (List.range 8).any (fun j =>
    let w := s.reg (Item.LOOP.SRC n j)
    decide (bitsOf w 31 28 = 4) && decide (bitsOf w 11 0 = g)))

/-- Whether a protected memory is one of a unit's own (Table 16-4). -/
def State.memoryOf (s : State) (u : Nat) (m : Memory) : Bool :=
  match m with
  | .leg n => decide (u = unitOf Kind.leg n)
  | .sheaf n => decide (u = unitOf Kind.sheaf n)
  | .lane n => decide (u = unitOf Kind.lane n)
  | .generator g => decide (unitKind u = Kind.lane) && decide (unitIndex u ∈ s.readersOf g)
  | .fast n => decide (u = unitOf Kind.fast n)
  | .slow n => decide (u = unitOf Kind.slow n)
  | .port n => decide (u = unitOf Kind.port n)
  | _ => false

/-- The poisoned words of a unit's memories are rewritten as it comes back: its items from the mirror (R156). -/
def State.rewriteWords (s : State) (u : Nat) : State := { s with badWords := s.badWords.filter (fun m => !s.memoryOf u m) }

/-- The force bits of a unit that leaves its out-of-service state clear (R188); a leg's clear when its winnowing ends. -/
def UnitRec.unforced (r : UnitRec) (u : Nat) : UnitRec := if unitKind u = Kind.leg then r else { r with force := 0, forceArmed := 0 }

/-- A unit becomes idle and is back in service (R443): its recovery counts, and a FAULT event of class 0 goes out with
the source it handled. -/
def State.recovered (s : State) (u : Nat) : State :=
  let r := s.unit u
  let s1 := (s.rewriteWords u).setUnit u ({ r with state := .idle, atLimit := false, recovered := (s.time.now :: r.recovered).take 256,
                                                   total := r.total + 1 }.unforced u)
  s1.event 3 (beBytes 4 u ++ [0, BitVec.ofNat 8 r.src, 0, 0])

/-- A unit made idle by RESTORE (R447): the recoveries within the window are cleared. -/
def State.restored (s : State) (u : Nat) : State :=
  let r := s.unit u
  (s.rewriteWords u).setUnit u ({ r with state := .idle, cls := .none, src := 0, atLimit := false, recovered := [], commanded := false }.unforced u)

/-- A unit that RESTORE brings back (R447, R531): one that was resting has recovered, any other is restored. -/
def State.broughtBack (s : State) (u : Nat) : State :=
  if (s.unit u).state = .resting then
    let s1 := s.recovered u
    s1.setUnit u { s1.unit u with commanded := false }
  else s.restored u

/-- A record of class L that makes a unit lasting (R440, R443, R444). -/
def State.makeLasting (s : State) (u src : Nat) : State := (s.record u .L src false).setFault u .lasting .L src

/-! ## Links and proof steps -/

/-- The voltage below which a leg's proof step 3 is deferred (R75, R355): 20 V for the AUXI secondary legs, else the
sheaf's PROOF_VMIN. -/
def State.proofVmin (s : State) (n leg : Nat) : Nat :=
  if s.stype n = SType.auxi ∧ s.bind.position leg ≥ 2 then 20 else s.regN (Item.SHEAF.PROOF_VMIN n)

/-- The rails in mV at which the lockout of a domain begins, and those at which it releases (R57). -/
def railsLow (pos neg : Int) : Bool := decide (pos < 13000) || decide (-1500 < neg)
def railsOk (pos neg : Int) : Bool := decide (13500 < pos) && decide (neg < -1800)

/-- Step 1 of Table 3-4: both domains leave undervoltage lockout (R57). -/
def LegProof.supplyOk (p : LegProof) : Bool := railsOk p.posHs p.negHs && railsOk p.posLs p.negLs

/-- Step 2 of Table 3-4: every comparator trips on its test level and releases after it. -/
def LegProof.comparatorOk (p : LegProof) : Bool := decide (p.trips = 15) && decide (p.releases = 15)

/-- Step 3 of Table 3-4 fails: the midpoint does not stay below half the link, and, in the running form of R320, does not fall below a
quarter of it either. -/
def LegProof.midHigh (p : LegProof) (running : Bool) : Bool :=
  decide (p.link ≤ 2 * p.midMax) && !(running && decide (4 * p.midMin < p.link))

/-- Step 4 of Table 3-4: each gate rises after a charge between 1 and 1,000 nC. -/
def LegProof.gateOk (p : LegProof) : Bool :=
  decide (1 ≤ p.qgHs) && decide (p.qgHs ≤ 1000) && decide (1 ≤ p.qgLs) && decide (p.qgLs ≤ 1000)

/-- The current sense of a leg stands where step 5 wants it with no current, 2.25 to 2.75 V. -/
def LegProof.csOk (p : LegProof) : Bool := decide (2250 ≤ p.cs) && decide (p.cs ≤ 2750)

/-- A number put in its place in a rising list. -/
def insertRising (x : Int) : List Int → List Int
  | [] => [x]
  | y :: t => if x ≤ y then x :: y :: t else y :: insertRising x t

/-- Twice the median of a list: of an even number of values the mean of the two in the middle. DESIGN CHOICE: assumption log 105. -/
def medianTwice (l : List Int) : Int :=
  let r := l.foldr insertRising []
  let k := r.length / 2
  if r.length % 2 = 1 then 2 * r.getD k 0 else r.getD (k - 1) 0 + r.getD k 0

/-- The temperatures of a sheaf's legs in 0.1 °C that step 5 compares: those of the proof, and the last estimates of the legs it does
not prove. DESIGN CHOICE: assumption log 105. -/
def State.proofTemps (s : State) (n : Nat) (l : List LegProof) : List Int :=
  (s.bind.legsOf n).filterMap (fun leg =>
    match l.find? (fun p => decide (p.leg = leg)) with
    | some p => some p.ts
    | none => if (s.heat leg).valid then some (F32.toInt (F32.mul (s.heat leg).ts 0x41200000)) else none)

/-- Step 5 of Table 3-4 on a leg's own inputs: its current sense, and a temperature of −55 to 175 °C within 20 K of the median of the
sheaf's legs. -/
def LegProof.sensorOk (p : LegProof) (median2 : Int) : Bool :=
  (LegProof.csOk p) && decide (-550 ≤ p.ts) && decide (p.ts ≤ 1750) && decide ((2 * p.ts - median2).natAbs ≤ 400)

/-- The first failing step of Table 3-4 on a leg, 0 where all pass; each step runs only after the one before it. `median2` is twice the
median temperature of the sheaf's legs, `running` the running form of R320. -/
def State.proofFail (s : State) (n : Nat) (median2 : Int) (running : Bool) (p : LegProof) : Nat :=
  if !(LegProof.supplyOk p) then 1
  else if !(LegProof.comparatorOk p) then 2
  else if s.proofVmin n p.leg ≤ p.link ∧ (LegProof.midHigh p running) then 3
  else if !(LegProof.gateOk p) then 4
  else if !(LegProof.sensorOk p median2) then 5
  else 0

/-- Whether a leg's proof reached step 3 (R73), and whether it was skipped there, its link being low (R75). -/
def LegProof.reached3 (p : LegProof) : Bool := (LegProof.supplyOk p) && (LegProof.comparatorOk p)
def State.proofDefers (s : State) (n : Nat) (p : LegProof) : Bool := decide (p.link < s.proofVmin n p.leg)

/-- The bit of PROOF_RESULT of a failing step (Table 3-14). -/
def proofBit (step : Nat) : Nat := if step = 0 then 0 else 2 ^ step


/-- Whether a sheaf's function runs with the legs it has in service (R78, R301, R357). -/
def State.functionOk (s : State) (n : Nat) : Bool :=
  let act := s.legsActive n
  match s.stype n with
  | 1 => decide (s.regN Item.TRC.MIN_SETS ≤ s.setsActive.length)
  | 5 => decide (s.regN Item.AUX.MIN_PHASES ≤ act.length)
  | _ => decide (act.length = s.bind.countOf n)

/-- Starting a proof (R73, R79): the gate supplies of the target are enabled (R56), and a proof of a sheaf that is no mere
report takes the sheaf to PROVING; a leg or set of a READY sheaf is in PROVING while its own proof runs. -/
def State.beginProof (s : State) (unit n : Nat) (legs : List Nat) (report recovery running : Bool) : State :=
  let p : ProofRun :=
    { unit := unit, sheaf := n, legs := legs, started := s.time.now, report := report, recovery := recovery, running := running }
  let s1 := s.supplies legs true
  let s2 := { s1 with proofs := s1.proofs ++ [p] }
  if report ∨ running ∨ unitKind unit = Kind.leg ∨ unitKind unit = Kind.set then s2
  else
    let h := s2.sheaf n
    s2.setSheaf n { h with state := .proving }

/-- A sheaf proof of every leg of it (device PROOF, PROVE of a sheaf, R445, RESTORE of a sheaf). -/
def State.proveSheaf (s : State) (n : Nat) (recovery : Bool) : State :=
  s.beginProof (unitOf Kind.sheaf n) n (s.bind.legsOf n) false recovery false

/-- A sheaf's PROOF_RESULT after a proof: bits of the proof itself, DEFERRED and DEGRADED as the sheaf now stands
(R75, Table 3-14). -/
def State.setProofResult (s : State) (n bits : Nat) : State :=
  let degraded := if (s.sheaf n).state = .ready ∧ (s.legsActive n).length < s.bind.countOf n then 0x80 else 0
  s.setReg (Item.SHEAF.PROOF_RESULT n) (nw (bits + s.deferredBit n + degraded))

/-- A leg whose proof has ended: its deferral, which only a step 3 that has run ends, and where a step failed the class-L fault of that
step (R75, Table 3-4). A leg that was resting or lasting when its recovery or RESTORE proof failed is lasting with that source (R443,
R447). -/
def State.proofLeg (s : State) (n : Nat) (median2 : Int) (p : LegProof) (recovery restoring running : Bool) : State :=
  let l := s.leg p.leg
  let u := unitOf Kind.leg p.leg
  let f := s.proofFail n median2 running p
  let s1 := s.setLeg p.leg { l with
    deferred := if (LegProof.reached3 p) then s.proofDefers n p else l.deferred
    hs := { l.hs with uv := !l.supplies || !railsOk p.posHs p.negHs }
    ls := { l.ls with uv := !l.supplies || !railsOk p.posLs p.negLs } }
  if f = 0 then s1
  else if restoring ∨ recovery ∧ ((s.unit u).state = .resting ∨ (s.unit u).state = .lasting) then s1.makeLasting u (31 + f)
  else s1.raise u .L (31 + f)

/-- Whether a WINNOW holds a unit, for a leg of a traction set a WINNOW of the set too (R499). -/
def State.heldByCommand (s : State) (u : Nat) : Bool :=
  (s.unit u).commanded
    || (decide (unitKind u = Kind.leg) && (match s.bind.sheafOfLeg (unitIndex u) with
        | some n => decide (s.stype n = SType.trc) && (s.unit (unitOf Kind.set (s.bind.position (unitIndex u) / 3))).commanded
        | none => false))

/-- A leg whose proof passed: resting, it recovers (R443); RESTORE brings it back (R447, R531). -/
def State.proofLegOk (s : State) (leg : Nat) (restoring : Bool) : State :=
  let u := unitOf Kind.leg leg
  let r := s.unit u
  if restoring then s.broughtBack u
  else if r.state = .resting ∧ !s.heldByCommand u then s.recovered u
  else s

/-- Whether something keeps a traction set out: one of its legs, a WINNOW of the set, a thermal stop, or its current lane (R300, R317,
R466). -/
def State.setHeld (s : State) (k : Nat) : Bool :=
  (s.setLegs k).any (fun l => (s.unit (unitOf Kind.leg l)).out)
  || (s.unit (unitOf Kind.set k)).commanded
  || decide (k ∈ s.trac.thermal)
  || (match s.trcSheaf with
      | some n => (s.lanesOf n).any (fun m => decide (s.regN (Item.LOOP.TYPE m) = 1) && decide (s.regN (Item.LOOP.GROUP m) = k)
          && (s.unit (unitOf Kind.lane m)).out)
      | none => false)

/-- Legs of a sheaf that nothing keeps out any more return to service: single legs, or whole traction sets (R300). -/
def State.settleLegs (s : State) (n : Nat) (legs : List Nat) : State :=
  if s.stype n = SType.trc then
    s.forEach (List.range s.setCount) (fun t k =>
      if t.setHeld k then t
      else t.forEach ((t.setLegs k).filter (fun l => decide (l ∈ legs))) State.restoreLeg)
  else s.forEach (legs.filter (fun l => !(s.unit (unitOf Kind.leg l)).out)) State.restoreLeg

/-! ## Running -/

/-- Whether Table 3-9 permits a sheaf to run in the present device state (R88); `armed` is whether a charge session is
armed. -/
def State.runPermitted (s : State) (n : Nat) (armed : Bool) : Bool :=
  let running (ty : Nat) : Bool := (s.bind.sheavesOfType ty).any (fun m => decide ((s.sheaf m).state = .run))
  match s.stype n, s.dev.state with
  | 1, .drive => true
  | 1, .service => !(running SType.chgf || running SType.chgd)
  | 2, .charge => true
  | 2, .service => !running SType.trc && !armed
  | 3, .charge => true
  | 3, .service => !running SType.trc && !armed
  | 4, .standby => true
  | 4, .drive => true
  | 4, .charge => true
  | 4, .service => true
  | 5, .standby => true
  | 5, .drive => true
  | 5, .charge => true
  | 5, .service => true
  | 6, .standby => true
  | 6, .drive => true
  | 6, .charge => true
  | 6, .service => true
  | _, _ => false

/-- The result of a completed start or stop: the sheaf state in 1 byte (Table 4-3). -/
def State.sheafResult (s : State) (n : Nat) : List Byte := [BitVec.ofNat 8 (s.sheaf n).state.code]

/-- The stop word is sent to the fabric (R216); SHEAF_RUN_STOP is its arrival. -/
def State.sendStopWord (s : State) (n : Nat) (toOff : Bool) : State :=
  let h := s.sheaf n
  if h.state = .run then
    let off := toOff || (match h.stop with | some r => r.toOff | none => false)
    s.setSheaf n { h with stop := some { toOff := off, word := true, since := s.time.now } }
  else s

/-- Beginning the orderly stop of a running sheaf: the traction sheaf ramps its torque down first (R323); the others
send their stop word at once (R325, R379, R399). -/
def State.orderlyStop (s : State) (n : Nat) (toOff : Bool) : State :=
  let h := s.sheaf n
  if h.state = .run then
    if s.stype n = SType.trc then
      match h.stop with
      | some r => s.setSheaf n { h with stop := some { r with toOff := r.toOff || toOff } }
      | none => s.setSheaf n { h with stop := some { toOff := toOff, word := false, since := s.time.now } }
    else s.sendStopWord n toOff
  else s

/-- The orderly stop of every running sheaf that the present device state does not permit to run (Table 3-9).
DEDUCED: assumption log 90. -/
def State.stopUnpermitted (s : State) : State :=
  s.forEach ((List.range 12).filter (fun n => decide ((s.sheaf n).state = .run) && !s.runPermitted n false))
    (fun t n => t.orderlyStop n false)

/-- The sheaf types that Table 3-9 permits to run in STANDBY. -/
def standbyType (ty : Nat) : Bool := decide (ty = SType.auxi ∨ ty = SType.auxb ∨ ty = SType.act)

/-- The mode change to STANDBY that waits for sheaves to stop (Table 3-6): from DRIVE when the traction sheaf is READY, from
SERVICE when every sheaf that STANDBY does not permit is READY, OFF or WINNOWED. -/
def State.finishExit (s : State) : State :=
  let asks (q : Sequence) : Bool := decide (q.kind = .mode ∧ q.arg = 2)
  let done (t : State) : State :=
    ((t.setReg Item.DEV.MODE_REASON 0).enterState .standby).endSequences asks Code.ok Reason.none (fun _ => [])
  let busy (n : Nat) : Bool := decide ((s.sheaf n).state = .run ∨ (s.sheaf n).state = .proving ∨ (s.sheaf n).state = .safe)
  match s.dev.state with
  | .drive =>
    if s.seqs.any asks then
      match s.trcSheaf with
      | none => done s
      | some n =>
        if (s.sheaf n).state = .ready then done s
        else if busy n then s
        else (s.setReg Item.DEV.MODE_REASON 1).endSequences asks Code.invalid Reason.notReady (fun _ => [])
    else s
  | .service =>
    if (s.seqs.any asks ∨ s.dev.exiting.isSome) ∧ (List.range 12).all (fun n => standbyType (s.stype n) || !busy n) then done s
    else s
  | _ => s

/-- A sheaf enters OFF: its gate supplies are disabled (R56). -/
def State.sheafOff (s : State) (n : Nat) : State :=
  let s1 := (s.legsOff n).supplies (s.bind.legsOf n) false
  s1.setSheaf n { s1.sheaf n with state := .off, stop := none, starting := false, causes := [], forceOpen := false }

/-- On leaving SAFE every sheaf that was in SAFE enters OFF (R84); one with a lasting source 32 stays (R180, R447). -/
def State.releaseSheaves (s : State) : State :=
  s.forEach (List.range 12) (fun t n =>
    let r := t.unit (unitOf Kind.sheaf n)
    if (t.sheaf n).state = .safe ∧ ¬ (r.state ≠ .idle ∧ r.cls = .L ∧ r.src = 32) then t.sheafOff n else t)

/-- The unit state byte in the result of WINNOW and RESTORE (Table 16-8). -/
def State.unitState (s : State) (u : Nat) : Nat :=
  let i := unitIndex u
  match unitKind u with
  | 0 => s.dev.state.code
  | 1 => (s.sheaf i).state.code
  | 2 => s.legStateCode i
  | 3 => ((s.setLegs i).map s.legStateCode).foldl Nat.max 0
  | 4 => s.actStateCode i
  | 8 => s.outStateCode i
  | 9 => s.laneStateCode i
  | 12 => s.regN (Item.CAN.STATE i)
  | _ => if (s.unit u).out then 0x80 + (s.unit u).state.code else 0

/-- The result of a WINNOW or RESTORE: the unit state in 1 byte (Table 4-3). -/
def State.unitResult (s : State) (u : Nat) : List Byte := [BitVec.ofNat 8 (s.unitState u)]

/-- RESTORE commands complete with the unit's state, and the service log notes them (R447, Table 19-9). -/
def State.endRestores (s : State) (p : Sequence → Bool) : State :=
  s.forEach (s.seqs.filter (fun q => decide (q.kind = .restore) && p q)) (fun t q =>
    let u := q.units.headD 0
    (t.serviceLog 4 q.slot (t.unitState u) (nw u)).endSequence q Code.ok Reason.none (t.unitResult u))

/-! ## Carriers -/

/-- round(a × b / 65,536), halves upward (R195). -/
def share16 (a b : Nat) : Nat := (a * b + 32768) / 65536

/-- Whether a sheaf's carrier runs: the sheaf is in RUN and the fabric clock has not stopped (R216, R218). -/
def State.carries (s : State) (n : Nat) : Bool := decide ((s.sheaf n).state = .run) && !s.fabricStopped

/-- The next sheaf period start (R195, R199, R215, R363): the first tick allowed, the reference's start and phase, the tick
after a SYNCIN edge while LOCKED, or one period after the one before. None where it has not come: a synchronised sheaf whose
reference has started no new period. -/
def State.nextStart (s : State) (n : Nat) : Option Nat :=
  let c := s.carrier n
  match s.reference n with
  | some r =>
    let f := (s.carrier r).start + share16 (s.regN (Item.PWM.SYNC_PHASE n)) (s.regN (Item.PWM.PERIOD_NOW r))
    if s.carries r ∧ 0 < (s.carrier r).count ∧ c.first * 32 ≤ f ∧ (c.count = 0 ∨ c.start < f) then some f else none
  | none =>
    if c.count = 0 then some (c.first * 32)
    else
      match s.syncIn.edge with
      | some e =>
        if s.regN (Item.PWM.PERIOD_SRC n) = 2 ∧ (s.regN Item.AUX.SYNC_STATE = 2 ∨ s.regN Item.AUX.SYNC_STATE = 3)
            ∧ c.start + 96 < (e + 1) * 32 then some ((e + 1) * 32)
        else some (c.start + s.regN (Item.PWM.PERIOD_NOW n))
      | none => some (c.start + s.regN (Item.PWM.PERIOD_NOW n))

end Sys2Proof.Machine
end

