-- ==== Sys2Proof/Machine/Samples.lean ====
section
/-! DEFINITION. How results reach the control engine and the streams: source words (Table 10-3), the sample sets of the
lanes (R277), stream rows (R129, R233). -/

namespace Sys2Proof.Machine

/-- Division to the nearest whole number, halves upward (R195 rounds so; assumption log 13). -/
def roundDiv (n d : Int) : Int := (2 * n + d) / (2 * d)

/-- A number held within the signed 32-bit range. -/
def satI32 (i : Int) : Int := max (-(2 ^ 31)) (min (2 ^ 31 - 1) i)


/-- The works that the device does at intervals, as keys of `State.timers`; `k` numbers the unit. -/
abbrev Timer.openWire (k : Nat) : Nat := 0x1000 + k
abbrev Timer.background (k : Nat) : Nat := 0x2000 + k
abbrev Timer.calibration (k : Nat) : Nat := 0x3000 + k
abbrev Timer.scan (k : Nat) : Nat := 0x4000 + k
abbrev Timer.offDiag (k : Nat) : Nat := 0x5000 + k
abbrev Timer.speed (k : Nat) : Nat := 0x6000 + k
abbrev Timer.observer (k : Nat) : Nat := 0x7000 + k
abbrev Timer.excitation (k : Nat) : Nat := 0x8000 + k
abbrev Timer.frame (k : Nat) : Nat := 0x9000 + k
abbrev Timer.resend (k : Nat) : Nat := 0x10000 + k

abbrev Timer.estimate : Nat := 0x100
abbrev Timer.rates : Nat := 0x101
abbrev Timer.gatePower : Nat := 0x102
abbrev Timer.shiftTorque (k : Nat) : Nat := 0x420 + k
abbrev Timer.charger : Nat := 0x105
abbrev Timer.auxI : Nat := 0x106
abbrev Timer.auxB : Nat := 0x107
abbrev Timer.torque : Nat := 0x103
abbrev Timer.channel : Nat := 0x104
abbrev Timer.evaluation (k : Nat) : Nat := 0x400 + k
abbrev Timer.cross (k : Nat) : Nat := 0x410 + k
abbrev Timer.beat (k : Nat) : Nat := 0x200 + k
abbrev Timer.step (k : Nat) : Nat := 0x300 + k
abbrev Timer.signal (controller object : Nat) : Nat := 0x20000 + controller * 128 + object
abbrev Timer.compare (unit : Nat) : Nat := 0x40000000 + unit

/-- When a periodic work was last done. -/
def State.lastDone (s : State) (timer : Nat) : Nat := KMap.get (fun _ => 0) s.timers timer

/-- A periodic work has been done now. -/
def State.doneNow (s : State) (timer : Nat) : State := { s with timers := KMap.put (fun _ => 0) s.timers timer s.time.now }

/-- The next turn of a periodic work: device time moves on to one period after the last one where that is still to come. -/
def State.every (s : State) (timer period : Nat) : State := (s.reach (s.lastDone timer + period)).doneNow timer

/-- A latch result's field as a lane reads it (Table 10-3): angle in 1/65,536 electrical turn, position in turns, speed
in rpm. -/
def LatchResult.field (r : LatchResult) (f : Nat) : Word :=
  match f with
  | 0 => F32.ofInt r.angleE
  | 1 => F32.ofRat r.pos (2 ^ 24)
  | _ => F32.ofRat r.speed 1000

/-- The latch result of slot `k` of a port, if one was formed. -/
def State.latch (s : State) (port k : Nat) : Option LatchResult := KMap.get (fun _ => none) (s.port port).latches k

/-- A measurement stamp: device time bits [47:0] (R32, Table 1-5). -/
def stamp48 (ns : Nat) : Nat := ns % 2 ^ 48

/-- How long before the stamp `a` the stamp `b` was taken; stamps wrap after 2^48 ns (Table 1-5). -/
def stampAge (a b : Nat) : Nat := (a + 2 ^ 48 - b % 2 ^ 48) % 2 ^ 48

/-- Whether two measurement stamps lie within `m` ns of each other. -/
def stampsNear (a b m : Nat) : Bool := decide (stampAge a b ≤ m) || decide (stampAge b a ≤ m)

/-- The device time at which a measurement stamp of the last 2^48 ns was taken. -/
def State.stampTime (s : State) (stamp : Nat) : Nat := s.time.now - stampAge (stamp48 s.time.now) stamp

/-- An output of a lane and whether it is valid, as a start on the present engine cycle of 4 ns reads them: of an output published on that
same cycle the value before it (R279). -/
def State.laneOutput (s : State) (m k : Nat) : Word × Bool :=
  let l := s.lane m
  if l.published = some (s.time.now / 4) then (l.before.getD k 0, l.beforeValid) else (s.reg (Item.LOOP.Y m k), l.valid)

/-- A source's present value, the stamp it carries and whether it is usable (R277): a slot's latest value. -/
def State.sourceValue (s : State) (lane : Nat) (w : Word) : Word × Nat × Bool :=
  let i := bitsOf w 11 0
  let f := bitsOf w 15 12
  match bitsOf w 31 28 with
  | 1 =>
    let k := i / 8
    let j := i % 8
    (F32.ofInt (s.regI (Item.ADCF.VAL k j)), s.regN (Item.ADCF.T_HI k j) * 2 ^ 32 + s.regN (Item.ADCF.T_LO k j),
      bitOf (s.reg (Item.ADCF.RES k j)) 31)
  | 2 =>
    (match s.latch (i / 8) (i % 8) with
     | some r => (r.field f, r.stamp, r.valid)
     | none => (0, 0, false))
  | 3 =>
    let y := s.laneOutput (i / 8) (i % 8)
    (y.1, stamp48 s.time.now, y.2 && !(s.unit (unitOf Kind.lane (i / 8))).out)
  | 4 => (s.reg (match f with | 0 => Item.PROF.X i | 1 => Item.PROF.V i | _ => Item.PROF.A i), stamp48 s.time.now, true)
  | 5 => (s.reg (if f = 0 then Item.LOOP.SETPT_A lane else Item.LOOP.SETPT_B lane), stamp48 s.time.now, true)
  | _ => (0, stamp48 s.time.now, true)

/-- The WAIT slots of a lane (Table 10-3). -/
def State.waitSlots (s : State) (lane : Nat) : List Nat :=
  (List.range 8).filter (fun j =>
    let w := s.reg (Item.LOOP.SRC lane j)
    bitOf w 27 && decide (bitsOf w 31 28 ≠ 0))

/-- Marking a slot of the set missed (R277); one that has joined already belongs to the set with what it has. -/
def State.missSlot (s : State) (lane slot : Nat) (stamp : Nat) : State :=
  let l := s.lane lane
  if l.joined.any (fun x => decide (x.slot = slot)) then s
  else s.setLane lane { l with opened := some (l.opened.getD stamp), missed := l.missed ||| 2 ^ slot }

/-- A result joins a lane's sample set (R277): the first one opens it; a later one joins within SKEW_MAX of its stamp,
once per slot. A result with VALID = 0 marks its slot missed. -/
def State.joinSlot (s : State) (lane slot : Nat) (value : Word) (stamp : Nat) (valid : Bool) : State :=
  let l := s.lane lane
  if l.joined.any (fun x => decide (x.slot = slot)) then s
  else if !valid then s.missSlot lane slot stamp
  else
    let put : State := s.setLane lane
      { l with opened := some (l.opened.getD stamp), joined := l.joined ++ [{ slot := slot, value := value, stamp := stamp }] }
    match l.opened with
    | none => put
    | some o =>
      let m := s.regN (Item.LOOP.SKEW_MAX lane)
      if stampsNear stamp o m then put else s

/-- A result of a source of kind `kind` and number `idx` reaches every lane that waits on it (R275: a lane of TYPE NONE or
without a sheaf forms no set). -/
def State.sampleLanes (s : State) (kind idx : Nat) (value : Nat → Word) (stamp : Nat) (valid : Bool) : State :=
  s.forEach (List.range 32) (fun t n =>
    if t.laneBound n then
      t.forEach (List.range 8) (fun u j =>
        let w := u.reg (Item.LOOP.SRC n j)
        if bitOf w 27 ∧ bitsOf w 31 28 = kind ∧ bitsOf w 11 0 = idx then u.joinSlot n j (value (bitsOf w 15 12)) stamp valid
        else u)
    else t)

/-- A missed marker of a dropped trigger (R222): every lane slot that waits on an input of the sequence. -/
def State.missLanes (s : State) (inputs : List Nat) : State :=
  s.forEach (List.range 32) (fun t n =>
    if t.laneBound n then
      t.forEach (List.range 8) (fun u j =>
        let w := u.reg (Item.LOOP.SRC n j)
        if bitOf w 27 ∧ bitsOf w 31 28 = 1 ∧ bitsOf w 11 0 ∈ inputs then u.missSlot n j (stamp48 u.time.now) else u)
    else t)

/-! ## Streams -/

/-- A signed number saturated to 16 bits, as the word a row carries. -/
def sat16 (i : Int) : Word := nw (((max (-32768) (min 32767 i)) % 65536).toNat)

/-- The newest 24-bit code of an integrating input (R220, R236). -/
def State.slowCode (s : State) (n i : Nat) : Int := KMap.get (fun _ => (0 : Int)) (s.slow n).code i

/-- An item as a stream reads it: the word of a poisoned one is never used as data and reads 0, as in a PARAM_READ (R42).
DESIGN CHOICE: assumption log 126. -/
def State.streamItem (s : State) (a : Nat) : Word := if a ∈ s.poison then 0 else s.item a

/-- The 16-bit value of a stream source (R233): a converter input in its form, or the low half of a parameter. -/
def State.streamValue (s : State) (w : Word) : Word :=
  let i := bitsOf w 7 0
  if bitOf w 31 then nw (bitsOf (s.streamItem (bitsOf w 23 0)) 15 0)
  else
    match bitsOf w 30 29 with
    | 0 => sat16 (s.streamItem (Item.ADCF.VAL (i / 8) (i % 8))).toInt
    | 1 => nw (bitsOf (s.streamItem (Item.ADCF.RES (i / 8) (i % 8))) 13 0)
    | 2 => nw (((s.slowCode (i / 32) (i % 32) / 256) % 65536).toNat)
    | _ => nw (bitsOf (s.streamItem (Item.addr 0x0D 0 (0x018 + i))) 15 0)

/-- Sending the frame that a stream holds, where it holds rows and was not too late (R130); its sequence number goes up
either way. -/
def State.streamFlush (s : State) (x : Stream) : State :=
  let x1 := { x with rows := [], seq := (x.seq + 1) % 65536 }
  let s1 : State := { s with streams := s.streams.map (fun y => if y.slot = x.slot ∧ y.number = x.number then x1 else y) }
  if x.rows = [] then s
  else if s.time.now ≤ x.last + 2000000 then
    let bytes := x.rows.flatten.flatMap (fun w => beBytes 2 w.toNat)
    s1.sendAt x.slot 0x20 0 x.number x.seq 0 x.first (some x.port) bytes
  else s1

/-- One stream takes a row at a trigger of its first source, every k-th one (R129); a row that would take the payload
over 1,408 bytes sends the frame first. -/
def State.streamRow (s : State) (x : Stream) : State :=
  if x.skipped + 1 < x.decimation then
    { s with streams := s.streams.map (fun y => if y.slot = x.slot ∧ y.number = x.number then { y with skipped := y.skipped + 1 } else y) }
  else
    let row := x.sources.map s.streamValue
    let full := decide ((x.rows.length + 1) * x.sources.length * 2 > 1408)
    let s1 := if full then s.streamFlush x else s
    { s1 with streams := s1.streams.map (fun y =>
        if y.slot = x.slot ∧ y.number = x.number then
          { y with skipped := 0, rows := y.rows ++ [row], first := if y.rows = [] then s.time.now else y.first, last := s.time.now }
        else y) }

/-- Every stream whose first source an integrating converter gives samples at the end of its window (R129, R233). -/
def State.sampleSlow (s : State) (n : Nat) : State :=
  s.forEach (s.streams.filter (fun x =>
    match x.sources.head? with
    | some w => !bitOf w 31 && ((decide (bitsOf w 30 29 = 2) && decide (bitsOf w 7 0 / 32 = n)) || (decide (bitsOf w 30 29 = 3) && decide (n = 0)))
    | none => false)) State.streamRow

/-- Every stream whose first source is fast input `idx` samples at a result of that input (R233). -/
def State.sampleStreams (s : State) (idx : Nat) : State :=
  s.forEach (s.streams.filter (fun x =>
    match x.sources.head? with
    | some w => !bitOf w 31 && decide (bitsOf w 30 29 ≤ 1) && decide (bitsOf w 7 0 = idx)
    | none => false)) State.streamRow

end Sys2Proof.Machine
end

