-- ==== Sys2Proof/Machine/Measure.lean ====
section
/-! DEFINITION. Measurement: the fast converters, the integrating converters with mains lock and insulation monitor, and
their commands. -/

namespace Sys2Proof.Machine

/-! ## Codes and values -/

/-- The entry count of a sequence, and the input of its entry `j` (ADCF.SEQ_s). -/
def State.seqCount (s : State) (k q : Nat) : Nat := bitsOf (s.reg (Item.ADCF.SEQ k q)) 27 24
def State.seqInput (s : State) (k q j : Nat) : Nat := bitsOf (s.reg (Item.ADCF.SEQ k q)) (3 * j + 2) (3 * j)

/-- Whether an integrating input converts in the bipolar range (Table 8-2). -/
def State.slowBipolar (s : State) (n i : Nat) : Bool :=
  if 30 ≤ i then false
  else if n = 0 ∧ i < 8 then decide (i < 4)
  else if i < 2 then true
  else bitOf (s.reg (Item.ADCI.RANGE_MASK n)) i

/-- The end codes of an N-bit range (R220). DEDUCED: assumption log 114. -/
def endCodes (bits : Nat) (bi : Bool) : Int × Int :=
  if bi then (-(2 ^ (bits - 1)), 2 ^ (bits - 1) - 1) else (0, 2 ^ bits - 1)

/-- Whether a code is an end code of its range, at which SAT is set (R220, Table 8-4). -/
def isEndCode (bits : Nat) (bi : Bool) (code : Int) : Bool :=
  decide (code ≤ (endCodes bits bi).1) || decide ((endCodes bits bi).2 ≤ code)

/-- The leg whose current sense an input serves (Table 8-1), and the leg whose temperature sense. -/
def senseLeg (k i : Nat) : Option Nat := if i < 3 then some (k + 16 * i) else none
def tempLeg (k i : Nat) : Option Nat := if 3 ≤ i ∧ i < 6 then some (k + 16 * (i - 3)) else none

/-- ZERO of an input in µV, with the auto-zero of R229. -/
def State.zeroOf (s : State) (k i : Nat) : Int :=
  match senseLeg k i with
  | some m => if bitOf (s.reg (Item.ADCF.AUTOZERO k)) i then s.regI (Item.LEG.CS_ZERO m) * 1000 else s.regI (Item.ADCF.ZERO k i)
  | none => s.regI (Item.ADCF.ZERO k i)

/-- The scaled value of a code: round((V − ZERO) × GAIN / 65,536,000), saturated to the signed 32-bit range (R228). -/
def State.scaled (s : State) (k i : Nat) (code : BitVec 14) : Int :=
  satI32 (roundDiv ((s.codeVolts k i code - s.zeroOf k i * 16384000000) * s.regI (Item.ADCF.GAIN k i)) (16384000000 * 65536000))

/-- The unit number of a fast input. -/
def fastInputUnit (k i : Nat) : Nat := unitOf Kind.fastInput (8 * k + i)

/-! ## Fast converters -/

/-- The bias of the next conversions of a sensor (R457): 5 µA after a reading above 4.500 V, 100 µA again after one at 5 µA below
0.150 V. -/
def nextBias (v : Int) (low : Bool) : Bool := if low then decide (150 * oneVolt ≤ v * 1000) else decide (4500 * oneVolt < v * 1000)

/-- What a result of a leg's current or temperature input leaves for its thermal estimate (R457 to R459): `v` its voltage, `t` its capture
time. A test source is no reading of the sensor. -/
def State.noteHeat (s : State) (k i : Nat) (v : Int) (t : Nat) (valid sat test : Bool) : State :=
  match senseLeg k i, tempLeg k i with
  | some leg, _ =>
    let h := s.heat leg
    let d := (v - s.regN (Item.LEG.CS_ZERO leg) * (oneVolt / 1000)).natAbs
    if valid then s.setHeat leg { h with csSeen := some t, csCount := h.csCount + 1, csAbs := h.csAbs + d, csSq := h.csSq + d * d } else s
  | none, some leg =>
    let h := s.heat leg
    if test then s
    else s.setHeat leg { h with low := nextBias v h.low, reading := if valid && !sat then some (t, v, h.low) else h.reading }
  | none, none => s

/-- A result of a fast input becomes ready (R230 to R232): its words, its value and stamp, the lanes and streams it goes
to, SAT and limit faults. `seq`, `entry`, `queued`, `bg`, `test` say where it came from; `capture` is its instant in ticks. Force bit SAT
reports the end code, force bit LIM acts on one result (Table 8-7). -/
def State.fastResult (s : State) (k i seq entry : Nat) (queued bg test : Bool) (code : BitVec 14) (capture : Nat) : State :=
  let c := s.fast k
  let u := fastInputUnit k i
  let forcedSat := s.forced u 1
  let forcedLim := s.forceArmed u 3
  let code := if forcedSat then BitVec.ofInt 14 (endCodes 14 (s.bipolar k i)).2 else code
  let v := s.scaled k i code
  let sat := isEndCode 14 (s.bipolar k i) (s.fastCode k i code)
  let openW := bitOf (s.reg (Item.ADCF.OW_STATUS k)) i
  let valid := !(s.unit (unitOf Kind.fast k)).out && !(s.unit u).out && !openW && !test
  let lim := forcedLim || decide (s.regI (Item.ADCF.LIM_HI k i) < v) || decide (v < s.regI (Item.ADCF.LIM_LO k i))
  let b (x : Bool) (n : Nat) : Nat := if x then 2 ^ n else 0
  let w := nw (b valid 31 + b queued 30 + b bg 29 + b test 28 + b openW 27 + b sat 26 + i * 2 ^ 23 + seq * 2 ^ 20
    + entry * 2 ^ 17 + b lim 16 + code.toNat)
  let t := stamp48 (tickTime capture)
  let was := KMap.get (fun _ => false) c.outside i
  let run := if sat then KMap.get (fun _ => 0) c.satRun i + 1 else 0
  let s1 := s.setFast k { c with outside := KMap.put (fun _ => false) c.outside i lim, satRun := KMap.put (fun _ => 0) c.satRun i run,
                                 done := if bg && !test then KMap.put (fun _ => 0) c.done i s.time.now else c.done }
  let s2 := (s1.useForce u 3).setRegs [(Item.ADCF.RES k i, w), (Item.ADCF.VAL k i, iw v), (Item.ADCF.T_HI k i, nw (t / 2 ^ 32)),
    (Item.ADCF.T_LO k i, nw t)]
  let s3 := if run = 16 then s2.detect u .W 17 forcedSat else s2
  let s4 := if lim && !was then s3.detect u .W 18 forcedLim else s3
  ((s4.noteHeat k i (s4.codeVolts k i code) (tickTime capture) valid sat test).sampleLanes 1 (8 * k + i) (fun _ => F32.ofInt v) t valid).sampleStreams (8 * k + i)

/-- Whether a converter is free: no sequence in progress (R221). -/
def Fast.idle (c : Fast) : Bool := c.run.isNone

/-- What a trigger at a tick finds, walking on from a sequence that ends at tick `e`: whether the converter is busy, and how many triggers
are queued (R222, R223). On the tick on which it becomes free it counts as busy unless the queue is empty. -/
def State.finds (s : State) (k tick : Nat) : Nat → List (Nat × Nat) → Bool × Nat
  | e, [] => (decide (tick < e), 0)
  | e, (q, a) :: rest =>
    if e ≤ a then s.finds k tick (a + s.seqCount k q * 80) rest
    else if tick ≤ e then (true, rest.length + 1)
    else s.finds k tick (e + s.seqCount k q * 80) rest

/-- What a trigger at a tick finds on a converter. -/
def State.findsNow (s : State) (k tick : Nat) : Bool × Nat :=
  let c := s.fast k
  match c.run with
  | none => s.finds k tick 0 c.queue
  | some (q, _, t0, queued) =>
    if queued ∧ tick = t0 then (true, c.queue.length + 1) else s.finds k tick (t0 + s.seqCount k q * 80) c.queue

/-- A conversion starts on a tick: the items of its converter that were delivered before pass their boundary (R144, Table 5-5). -/
def State.startFast (s : State) (k : Nat) (c : Fast) (tick : Nat) : State := (s.setFast k c).boundary (.fast k) tick

/-- A trigger reaches a converter at a tick (R221 to R224): ignored for an empty sequence, started at once on a free
converter (a background conversion in progress is abandoned), queued below two, else dropped with a class-W fault and missed
markers. -/
def State.trigger (s : State) (k q tick : Nat) : State :=
  let c := s.fast k
  let x := s.findsNow k tick
  if s.seqCount k q = 0 then s
  else if !x.1 then
    if c.idle ∧ c.queue = [] then
      match c.background with
      | some (i, tb) =>
        if tick < tb + 80 then
          (s.bump (Item.ADCF.BG_ABORT_CNT k)).startFast k { c with run := some (q, 0, tick, false), background := none, last := (i + 7) % 8 } tick
        else s.startFast k { c with run := some (q, 0, tick, false) } tick
      | none => s.startFast k { c with run := some (q, 0, tick, false) } tick
    else s.setFast k { c with queue := c.queue ++ [(q, tick)] }
  else if x.2 < 2 then (s.setFast k { c with queue := c.queue ++ [(q, tick)] }).bump (Item.ADCF.QUEUE_CNT k)
  else
    ((s.bump (Item.ADCF.OVERRUN k)).raise (unitOf Kind.fast k) .W 16).missLanes
      ((List.range (s.seqCount k q)).map (fun j => 8 * k + s.seqInput k q j))

/-- The first of the triggers on the lines to a converter, up to a tick: the earliest, of those of one tick the lowest sequence (R223). -/
def State.firstTrigger (s : State) (k upTo : Nat) : Option (Nat × Nat) :=
  s.events.foldl (fun a e =>
    match e with
    | .convert c q t =>
      if c = k ∧ t ≤ upTo then
        match a with
        | some (u, r) => if t < u ∨ (t = u ∧ q < r) then some (t, q) else a
        | none => some (t, q)
      else a
    | _ => a) none

/-- Every trigger on the lines to a converter up to a tick acts, in order. -/
def State.takeTriggers (s : State) (k upTo : Nat) : State :=
  s.forEach s.events (fun t _ =>
    match t.firstTrigger k upTo with
    | some (tick, q) => { t with events := t.events.erase (.convert k q tick) }.trigger k q tick
    | none => t)

/-- CONVERTER_TRIGGER: the event on the line to a converter's sequence acts on its tick, after those to the converter that come before it
(R221 to R223). DESIGN CHOICE: assumption log 20. -/
def execConverterTrigger (converter : Fin 16) (sequence : Fin 8) (s : State) : Host.Outcome State Fault Refusal :=
  .next (s.act (fun t =>
    match (t.events.filterMap (fun e => match e with
        | .convert k q tick => if k = converter.val ∧ q = sequence.val then some tick else none
        | _ => none)).min? with
    | some tick => (t.reachTick tick).takeTriggers converter tick
    | none => t))

/-- The converter becomes free at a tick: the oldest queued trigger starts (R223); one that came on that tick to an empty queue, or later,
starts as on a free converter. -/
def State.freeAt (s : State) (k tick : Nat) : State :=
  let c := s.fast k
  match c.queue with
  | [] => s.setFast k { c with run := none }
  | (q, a) :: rest => s.startFast k { c with run := some (q, 0, Nat.max tick a, decide (a < tick)), queue := rest } (Nat.max tick a)

/-- CONVERSION_DONE: the next result of the conversion in progress is ready, with its raw code; an input beyond its range gives the end
code (R220, R221, R230). -/
def execConversionDone (converter : Fin 16) (code : BitVec 14) (s : State) : Host.Outcome State Fault Refusal :=
  .next (s.act (fun t0 =>
    let k := converter.val
    match (t0.fast k).background with
    | some (_, tb) =>
      let t := t0.takeTriggers k (tb + 79)
      (match (t.fast k).background with
       | some (i, _) =>
         ((t.setFast k { t.fast k with background := none, last := i }).reachTick (tb + 80)).fastResult k i 0 0 false true false code (tb + 2)
       | none => t)
    | none =>
      match (t0.fast k).run with
      | some (q, j, start, queued) =>
        let ready := start + (j + 1) * 80
        let t := (t0.reachTick ready).takeTriggers k ready
        let t1 := t.fastResult k (t.seqInput k q j) q j queued false false code (start + 2 + j * 80)
        if j + 1 < t.seqCount k q then t1.startFast k { (t1.fast k) with run := some (q, j + 1, start, queued) } ready
        else t1.freeAt k ready
      | none => t0))

/-- The next background input after `last` in ascending round-robin (R224). -/
def nextInput (mask : Word) (last : Nat) : Option Nat :=
  ((List.range 8).map (fun d => (last + 1 + d) % 8)).find? (fun i => bitOf mask i)

/-- BACKGROUND_SLOT: every BG_PERIOD a free, idle converter starts a background conversion of its next input (R224). -/
def execBackgroundSlot (converter : Fin 16) (s : State) : Host.Outcome State Fault Refusal :=
  .next (s.act (fun t0 =>
    let k := converter.val
    let t1 := t0.every (Timer.background k) (t0.regN (Item.ADCF.BG_PERIOD k) * 1000)
    let t2 := t1.takeTriggers k t1.tick
    if (t2.fast k).idle ∧ (t2.fast k).queue = [] ∧ (t2.fast k).background = none then
      let t := t2.boundary (.fast k) t2.tick
      match nextInput (t.reg (Item.ADCF.BG_MASK k)) (t.fast k).last with
      | some i => t.setFast k { t.fast k with background := some (i, t.tick) }
      | none => t
    else t2))

/-- BACKGROUND_STARVE: a background input has not completed a conversion for BG_STARVE (R225); its value stays. -/
def execBackgroundStarve (converter : Fin 16) (input : Fin 8) (s : State) : Host.Outcome State Fault Refusal :=
  .next (s.act (fun t =>
    if bitOf (t.reg (Item.ADCF.BG_MASK converter)) input then
      (t.reach (KMap.get (fun _ => 0) (t.fast converter).done input.val + t.regN (Item.ADCF.BG_STARVE converter) * 1000000)).raise
        (unitOf Kind.fast converter) .W 17
    else t))

/-- The corrections in ppm and µV that the codes of the references of 0.500 V and 4.500 V call for (R227), none where the codes give no
gain. -/
def corrections (low high : BitVec 14) : Option (Int × Int) :=
  let d : Int := (high.toNat : Int) - low.toNat
  if d ≤ 0 then none
  else
    let g := roundDiv ((4000000 * 16384 - 5000000 * d) * 1000000) (5000000 * d)
    some (g, 500000 - roundDiv (low.toNat * 5000000 * (1000000 + g)) 16384000000)

/-- One update of the corrections toward the measured ones (R227): a step moves no result by more than one code step of
305 µV (at most 30 ppm of gain, 150 µV at full scale, and 152 µV of offset; assumption log 14). -/
def State.calibrate (s : State) (k : Nat) (gain ofs : Int) : State :=
  let g := s.regI (Item.ADCF.CAL_GAIN k)
  let o := s.regI (Item.ADCF.CAL_OFS k)
  let step (m x y : Int) : Int := x + max (-m) (min m (y - x))
  s.setRegs [(Item.ADCF.CAL_GAIN k, iw (step 30 g gain)), (Item.ADCF.CAL_OFS k, iw (step 152 o ofs))]

/-- Whether measured corrections lie beyond ±1.0 % of gain or ±20 mV of offset (R227). -/
def calibrationBad (gain ofs : Int) : Bool := decide (10000 < gain.natAbs) || decide (20000 < ofs.natAbs)

/-- The outcome of a calibration. -/
def State.calibrated (s : State) (k : Nat) (low high : BitVec 14) : State :=
  match corrections low high with
  | none => s.raise (unitOf Kind.fast k) .F 1
  | some (g, o) =>
    let s1 := s.calibrate k g o
    if calibrationBad g o then s1.raise (unitOf Kind.fast k) .F 1 else s1

/-- CONVERTER_CALIBRATION: at POWERUP and every CAL_PERIOD a free converter converts its two references, in two background conversions,
with these codes (R227); a trigger that comes meanwhile abandons them (R224). -/
def execConverterCalibration (converter : Fin 16) (low high : BitVec 14) (s : State) : Host.Outcome State Fault Refusal :=
  .next (s.act (fun t0 =>
    let k := converter.val
    let timer := Timer.calibration k
    let due := if t0.lastDone timer = 0 then t0 else t0.reach (t0.lastDone timer + t0.regN (Item.ADCF.CAL_PERIOD k) * 1000000)
    let t := due.takeTriggers k due.tick
    let c := t.fast k
    if !c.idle ∨ c.queue ≠ [] ∨ c.background.isSome then t
    else if (t.firstTrigger k (t.tick + 159)).isSome then (t.bump (Item.ADCF.BG_ABORT_CNT k)).takeTriggers k (t.tick + 159)
    else ((t.doneNow timer).reachTick (t.tick + 160)).calibrated k low high))

/-! ## Open-wire checks -/

/-- The outcome of one check (R242): two in a row beyond the threshold set the flag and raise a class-W fault, two in a
row within it clear both. -/
def owStep (bad : Bool) (b g : Nat) : Nat × Nat := if bad then (b + 1, 0) else (0, g + 1)

/-- Whether a fast input reads open (R242): its code while 50 µA flow differs from its last one by more than OW_DELTA, or force bit OPEN is
set. -/
def State.fastOpen (s : State) (k i : Nat) (code : BitVec 14) : Bool :=
  s.forced (fastInputUnit k i) 0
    || decide (s.regN (Item.ADCF.OW_DELTA k) * 16384000000000 < (s.codeVolts k i code - s.lastVolts k i).natAbs)

/-- Whether an integrating input reads open. -/
def State.slowOpen (s : State) (k i : Nat) (code : Int) : Bool :=
  s.forced (unitOf Kind.slowInput (32 * k + i)) 0
    || decide (s.regN (Item.ADCI.OW_DELTA k) * 1000 * 2 ^ 24 < ((code - s.slowCode k i) * 5000000).natAbs)

/-- One open-wire check of a fast input (R242). -/
def State.checkFast (s : State) (k i : Nat) (code : BitVec 14) : State :=
  let c := s.fast k
  let u := fastInputUnit k i
  let n := owStep (s.fastOpen k i code) (KMap.get (fun _ => 0) c.owBad i) (KMap.get (fun _ => 0) c.owGood i)
  let s1 := s.setFast k { c with owBad := KMap.put (fun _ => 0) c.owBad i n.1, owGood := KMap.put (fun _ => 0) c.owGood i n.2 }
  let w := s.reg (Item.ADCF.OW_STATUS k)
  if n.1 ≥ 2 ∧ bitOf w i = false then (s1.setReg (Item.ADCF.OW_STATUS k) (w ||| nw (2 ^ i))).detect u .W 16 (s.forced u 0)
  else if n.2 ≥ 2 then s1.setReg (Item.ADCF.OW_STATUS k) (w &&& ~~~(nw (2 ^ i)))
  else s1

/-- One open-wire check of an integrating input. -/
def State.checkSlow (s : State) (k i : Nat) (code : Int) : State :=
  let c := s.slow k
  let u := unitOf Kind.slowInput (32 * k + i)
  let n := owStep (s.slowOpen k i code) (KMap.get (fun _ => 0) c.owBad i) (KMap.get (fun _ => 0) c.owGood i)
  let s1 := s.setSlow k { c with owBad := KMap.put (fun _ => 0) c.owBad i n.1, owGood := KMap.put (fun _ => 0) c.owGood i n.2 }
  let w := s.reg (Item.ADCI.OW_STATUS k)
  if n.1 ≥ 2 ∧ bitOf w i = false then (s1.setReg (Item.ADCI.OW_STATUS k) (w ||| nw (2 ^ i))).detect u .W 16 (s.forced u 0)
  else if n.2 ≥ 2 then s1.setReg (Item.ADCI.OW_STATUS k) (w &&& ~~~(nw (2 ^ i)))
  else s1

/-- Whether the sensor of a fast input belongs to a leg that is bound to no sheaf, which is not reported open (R48). -/
def State.sparedInput (s : State) (k i : Nat) : Bool :=
  match senseLeg k i, tempLeg k i with
  | some leg, _ => (s.bind.sheafOfLeg leg).isNone
  | _, some leg => (s.bind.sheafOfLeg leg).isNone
  | _, _ => false

/-- OPEN_WIRE_CHECK: every OW_PERIOD an input of OW_MASK is checked; `code` is its code while 50 µA flow. Inputs 0 to 127 are
fast ones (8k + i), 128 to 191 integrating ones (128 + 32n + i), which are checked only between the windows of a periodic scan (R242,
R243). -/
def execOpenWireCheck (input : Fin 192) (code : Int) (s : State) : Host.Outcome State Fault Refusal :=
  .next (s.act (fun t0 =>
    let x := input.val
    if x < 128 then
      let k := x / 8
      let i := x % 8
      if bitOf (t0.reg (Item.ADCF.OW_MASK k)) i ∧ !t0.sparedInput k i then
        (t0.every (Timer.openWire x) (t0.regN (Item.ADCF.OW_PERIOD k) * 1000000)).checkFast k i (BitVec.ofInt 14 code)
      else t0
    else
      let k := (x - 128) / 32
      let i := (x - 128) % 32
      if bitOf (t0.reg (Item.ADCI.OW_MASK k)) i ∧ t0.regN (Item.ADCI.SCAN_MODE k) = 1 ∧ (t0.slow k).window = none then
        (t0.every (Timer.openWire x) (t0.regN (Item.ADCI.OW_PERIOD k) * 1000000)).checkSlow k i code
      else t0))

/-! ## Integrating converters -/

/-- Whether the mains is locked (MAINS_STATE 2). -/
def State.mainsLocked (s : State) : Bool := decide (s.regN (Item.ADCI.MAINS_STATE 0) = 2)

/-- The length of a window without mains lock, in ns (FIX_WIN). -/
def State.fixWindow (s : State) (n : Nat) : Nat := if s.regN (Item.ADCI.FIX_WIN n) = 0 then 10000000 else 20000000

/-- The inputs that the next window of the scan covers (R234), or a mains window of ADCI[0] (R235). -/
def State.windowMask (s : State) (n : Nat) (mains : Bool) : Word :=
  if n = 0 ∧ mains then 0xFF else s.reg (Item.ADCI.SCAN n ((s.slow n).index % Nat.max 1 (s.regN (Item.ADCI.SCAN_LEN n))))

/-- The window in progress ends (R234, R235): it is kept for publication, the scan moves on, and the next window of a continuous scan, of
the pass, or of the locked mains begins with it. While mains is locked, windows begin at crossings only. The ninth modulator's first window is of input 30.
DESIGN CHOICE: assumption log 128. -/
def State.closeWindow (s : State) (n stop : Nat) : State :=
  let c := s.slow n
  match c.window with
  | none => s
  | some b =>
    let own := c.urgent.isNone && !(decide (n = 0) && c.mains)
    let left := if own then c.passLeft - 1 else c.passLeft
    let more := decide (s.regN (Item.ADCI.SCAN_MODE n) = 0) || decide (0 < left) || (decide (n = 0) && c.mains)
    let x : Window := { start := b, stop := stop, mains := c.mains, urgent := c.urgent, mask := s.windowMask n c.mains, ninth := if c.ninth then 31 else 30 }
    s.setSlow n { c with
      window := if more && c.urgent.isNone && (c.mains || !s.mainsLocked) then some stop else none
      mains := c.mains && more, urgent := none, closed := c.closed ++ [x], ended := some stop
      index := if own then c.index + 1 else c.index, passLeft := left, ninth := if c.urgent.isNone then !c.ninth else c.ninth }

/-- A fixed window that has run its length is over, and so are those that followed it. -/
def State.rollWindow (s : State) (n : Nat) : Nat → State
  | 0 => s
  | k + 1 =>
    let c := s.slow n
    match c.window with
    | some b =>
      if !c.mains ∧ b + s.fixWindow n < s.time.now then State.rollWindow (s.closeWindow n (b + s.fixWindow n)) n k else s
    | none => s

/-- A crossing of the locked mains bounds the windows of a converter (R234, R235): a mains window ends and the next begins; a fixed window
in progress runs to its end first. -/
def State.crossWindow (s : State) (n time : Nat) : State :=
  let c := s.slow n
  let s1 := match c.window with
    | some b =>
      if c.mains then s.closeWindow n time
      else if b + s.fixWindow n ≤ time then s.closeWindow n (b + s.fixWindow n)
      else s
    | none => s
  let c1 := s1.slow n
  if c1.window.isNone ∧ (n = 0 ∨ s1.regN (Item.ADCI.SCAN_MODE n) = 0 ∨ 0 < c1.passLeft) then
    (s1.setSlow n { c1 with window := some time, mains := true, urgent := none }).boundary (.slow n) (tickOf time)
  else s1

/-- Unlocking the mains (R235): the window in progress is discarded, a fixed window starts at once, and in CHARGE it is a
class-W fault of ADCI[0]. -/
def State.mainsUnlock (s : State) : State :=
  let off (t : State) : State := t.setRegs [(Item.ADCI.MAINS_STATE 0, 0), (Item.ADCI.MAINS_FREQ 0, 0)]
  let c := s.slow 0
  if s.mainsLocked then
    let s1 := off (s.setSlow 0 { c with good := 0, crossing := none, valid := none, mains := false, window := some s.time.now, urgent := none
                                        passLeft := Nat.max 1 c.passLeft })
    let d := s1.slow 1
    let s2 := if d.mains then s1.setSlow 1 { d with mains := false, window := some s.time.now } else s1
    if s.dev.state = .charge then s2.raise (unitOf Kind.slow 0) .W 16 else s2
  else off (s.setSlow 0 { c with good := 0, crossing := none, valid := none })

/-- MAINS_CROSSING: a positive-going zero crossing of a phase at a time, how far in 0.1 V the voltage swung about zero, and its RMS over the
period before it in 0.1 V (R235). It counts on the phase of MAINS_REF beyond the hysteresis of 2 % of MAINS_MIN. While locked it bounds the
windows, which WINDOW_END publishes. -/
def execMainsCrossing (phase : Fin 3) (time swing rms : Nat) (s : State) : Host.Outcome State Fault Refusal :=
  .next (s.act (fun t0 =>
    let low := t0.regN (Item.ADCI.MAINS_MIN 0)
    if t0.regN (Item.ADCI.MAINS_EN 0) = 0 ∨ t0.regN (Item.ADCI.MAINS_REF 0) ≠ phase.val ∨ swing * 50 < low then t0
    else
      let t := t0.reach time
      let c := t.slow 0
      let period := match c.crossing with | some x => time - x | none => 0
      let sound := decide (15385000 ≤ period) && decide (period ≤ 22222000)
      let g := if sound && decide (low ≤ rms) then c.good + 1 else 0
      let t1 := t.setSlow 0 { c with crossing := some time, good := g, valid := if sound || c.valid.isNone then some time else c.valid }
      let freq := nw (roundDiv 1000000000000 period).toNat
      if t.mainsLocked then
        let t2 := if sound then t1.setReg (Item.ADCI.MAINS_FREQ 0) freq else t1
        let t3 := (t2.crossWindow 0 time).crossWindow 1 time
        if rms < low then t3.mainsUnlock else t3
      else if 4 ≤ g then t1.setRegs [(Item.ADCI.MAINS_STATE 0, 2), (Item.ADCI.MAINS_FREQ 0, freq)]
      else t1.setReg (Item.ADCI.MAINS_STATE 0) (if 0 < g then 1 else 0)))

/-- MAINS_UNLOCK_TIMEOUT: no valid crossing within 44.44 ms of the last (R235). -/
def execMainsUnlockTimeout (s : State) : Host.Outcome State Fault Refusal :=
  .next (s.act (fun t =>
    match (t.slow 0).valid with
    | some x => (t.reach (x + 44440000)).mainsUnlock
    | none => t))

/-- An accumulated quantity in its scaled unit: millivolts times a Q16.16 gain. -/
def q16 (uv gain : Int) : Int := roundDiv (uv * gain) 65536000

/-- Adding to a 64-bit counter split over two items (R135). -/
def State.add64 (s : State) (hi lo d : Nat) : State :=
  let v := s.regN hi * 2 ^ 32 + s.regN lo + d
  s.setRegs [(hi, nw (v / 2 ^ 32)), (lo, nw v)]

/-- The unit of the exact power: µV² times both Q16.16 gains, per W. -/
abbrev powerUnit : Nat := 65536000 * 65536000 * 100

/-- Publishing the mains quantities and the energy of a mains-locked window of a length in ns (R236): the energy is added exactly, what is
left over a whole mWh staying for the next window. -/
def State.publishMains (s : State) (w : WindowMeans) (length : Nat) : State :=
  let vg := s.regI (Item.ADCI.MV_GAIN 0)
  let ig := s.regI (Item.ADCI.MI_GAIN 0)
  let s1 := s.forEach w.phases.zipIdx (fun t x =>
    t.setRegs [(Item.ADCI.VRMS 0 x.2, iw (q16 x.1.vRms vg)), (Item.ADCI.IRMS 0 x.2, iw (q16 x.1.iRms ig).natAbs),
      (Item.ADCI.P 0 x.2, iw (roundDiv (x.1.product * vg * ig) powerUnit))])
  let energy := (w.phases.map (fun p => p.product * vg * ig)).sum * length
  let mwh := powerUnit * 3600000000
  let c := s1.slow 0
  if 0 ≤ energy then
    let e := c.impRest + energy.natAbs
    (s1.setSlow 0 { c with impRest := e % mwh }).add64 (Item.ADCI.E_IMP_HI 0) (Item.ADCI.E_IMP_LO 0) (e / mwh)
  else
    let e := c.expRest + energy.natAbs
    (s1.setSlow 0 { c with expRest := e % mwh }).add64 (Item.ADCI.E_EXP_HI 0) (Item.ADCI.E_EXP_LO 0) (e / mwh)

/-- The mean of one input of a window (R236): its code, which force bit SAT turns into the end code, its value in µV; sixteen end codes in
a row are reported (Table 8-8). -/
def State.slowResult (s : State) (n i : Nat) (mean : Int) : State :=
  let u := unitOf Kind.slowInput (32 * n + i)
  let e := endCodes 24 (s.slowBipolar n i)
  let code := if s.forced u 1 then e.2 else max e.1 (min e.2 mean)
  let c := s.slow n
  let run := if isEndCode 24 (s.slowBipolar n i) code then KMap.get (fun _ => 0) c.satRun i + 1 else 0
  let s1 := (s.setSlow n { c with satRun := KMap.put (fun _ => 0) c.satRun i run, code := KMap.put (fun _ => 0) c.code i code }).setReg
    (Item.ADCI.VAL n i) (iw (roundDiv (code * 5000000) (2 ^ 24)))
  if run = 16 then s1.detect u .W 17 (s.forced u 1) else s1

/-- Publishing a window that has ended (R236, R237, Table 8-8): nothing where the reference check of its window fails or the converter is
out of service. -/
def State.publish (s : State) (n : Nat) (x : Window) (w : WindowMeans) : State :=
  let u := unitOf Kind.slow n
  if x.ninth = 31 ∧ x.urgent.isNone ∧ 1000 < w.refPpm.natAbs then s.raise u .F 1
  else if (s.unit u).out then s
  else
    match x.urgent with
    | some i =>
      (match w.means.find? (fun m => decide (m.1 = i)) with
       | some m => s.setReg (Item.ADCI.URG_RESULT n) (iw (roundDiv (m.2 * 5000000) (2 ^ 24)))
       | none => s)
    | none =>
      let s1 := s.forEach (w.means.filter (fun m => bitOf x.mask m.1 || decide (m.1 = x.ninth))) (fun v m =>
        if (v.unit (unitOf Kind.slowInput (32 * n + m.1))).out then v else v.slowResult n m.1 m.2)
      let s2 := if n = 0 ∧ x.mains then s1.publishMains w (x.stop - x.start) else s1
      s2.sampleSlow n

/-- The oldest ended window of a converter is published; a window that begins as it ends passes the boundary of the converter's items
(R144, Table 5-5). -/
def State.publishNext (s : State) (n : Nat) (w : WindowMeans) : State :=
  match (s.slow n).closed with
  | [] => s
  | x :: rest =>
    let s1 := ((s.setSlow n { s.slow n with closed := rest }).reach x.stop).publish n x w
    if (s1.slow n).window.isSome then s1.boundary (.slow n) (tickOf x.stop) else s1

/-- An idle converter begins a window (R234): of a continuous scan at once, of a periodic one with the pass of the next SCAN_PERIOD; while
mains is locked the next crossing begins it. -/
def State.beginWindow (s : State) (n : Nat) : State :=
  if s.mainsLocked ∧ (n = 0 ∨ s.regN (Item.ADCI.SCAN_MODE n) = 0) then s
  else
    let s1 := if s.regN (Item.ADCI.SCAN_MODE n) = 0 then s
      else
        let s0 := s.every (Timer.scan n) (s.regN (Item.ADCI.SCAN_PERIOD n) * 1000000)
        s0.setSlow n { s0.slow n with passLeft := s0.regN (Item.ADCI.SCAN_LEN n) }
    if s1.mainsLocked then s1
    else (s1.setSlow n { s1.slow n with window := some s1.time.now, mains := false, urgent := none }).boundary (.slow n) s1.tick

/-- WINDOW_END: a window of an integrating converter ends, a mains window at its crossing and any other after FIX_WIN, and its results are
published (R234 to R237). A converter that runs none begins one. -/
def execWindowEnd (converter : Fin 2) (w : WindowMeans) (s : State) : Host.Outcome State Fault Refusal :=
  .next (s.act (fun t =>
    let n := converter.val
    let c := t.slow n
    match c.closed, c.window with
    | _ :: _, _ => t.publishNext n w
    | [], none => t.beginWindow n
    | [], some b => if c.mains then t else (t.closeWindow n (b + t.fixWindow n)).publishNext n w))

/-! ## Insulation monitor -/

/-- When the present state of the monitor has been averaged (R238): ISO_SETTLE after its path went on, ISO_AVG windows later. -/
def State.isoStateEnd (s : State) : Nat :=
  let f := s.regN (Item.ADCI.MAINS_FREQ 0)
  let w := if s.mainsLocked ∧ f ≠ 0 then 1000000000000 / f else s.fixWindow 1
  (s.slow 1).isoFrom + s.regN (Item.ADCI.ISO_SETTLE 1) * 1000000 + s.regN (Item.ADCI.ISO_AVG 1) * w

/-- The mean in µV of the windows of a state, from their codes. -/
def windowsMean (l : List Int) : Int := roundDiv (l.sum * 5000000) ((l.length : Int) * 2 ^ 24)

/-- ISO_STATE_END: the state's ISO_AVG windows are averaged, given as their codes at ISOMP and ISOMN. The monitor goes from P to N and from N
to P, 10 ms with both paths off between (R238). -/
def execIsoStateEnd (mp mn : List Int) (s : State) : Host.Outcome State Fault Refusal :=
  .next (s.act (fun t0 =>
    if t0.isoOff then t0.setIso 0 0
    else
      let n := t0.regN (Item.ADCI.ISO_AVG 1)
      let ratio : Int := (t0.regN (Item.ADCI.ISO_RATIO 1) : Nat)
      let v := (windowsMean (mp.take n) * ratio, -windowsMean (mn.take n) * ratio)
      if (t0.slow 1).iso = 0 then t0.setIso 1 t0.time.now
      else
        let t := t0.reach t0.isoStateEnd
        let c := t.slow 1
        let next := t.time.now + 10000000
        if c.iso = 1 then (t.setSlow 1 { c with upP := some v }).setIso 2 next
        else (t.setSlow 1 { c with upN := some v }).setIso 1 next))

/-- The resistance in kΩ of a conductance num / (rref × d) above the network's 1 / rnet (R239): where a > g, 1 / (a − g), else infinite;
0xFFFF_FFFF stands for infinite and for more than 100,000 kΩ. A zero `d` gives the conductance that binary division gives, an infinite one.
DEDUCED: assumption log 116. -/
def poleResistance (num d rref rnet : Int) : Word :=
  if d = 0 then (if 0 < num then 0 else 0xFFFFFFFF)
  else
    let num := if d < 0 then -num else num
    let d := if d < 0 then -d else d
    let excess := num * rnet - rref * d
    if excess ≤ 0 then 0xFFFFFFFF
    else
      let r := roundDiv (rref * d * rnet) excess
      if 100000 < r then 0xFFFFFFFF else iw r

/-- ISO_CYCLE_END: the insulation of each pole from the voltages of both states (R239). -/
def execIsoCycleEnd (s : State) : Host.Outcome State Fault Refusal :=
  .next (s.act (fun t =>
    let c := t.slow 1
    match c.upP, c.upN with
    | some (u1, n1), some (u2, n2) =>
      let t0 := t.setSlow 1 { c with upP := none, upN := none }
      let bus := u1 + n1 + u2 + n2
      if bus < (t.regN (Item.ADCI.ISO_VMIN 1) : Int) * 2000000 then t0.setReg (Item.ADCI.ISO_STATUS 1) 4
      else
        let d := n1 * u2 - u1 * n2
        let rref : Int := (t.regN (Item.ADCI.ISO_RREF 1) : Nat)
        let rnet : Int := (t.regN (Item.ADCI.ISO_RNET 1) : Nat)
        let rp := poleResistance (n2 * (u1 + n1)) d rref rnet
        let rn := poleResistance (u1 * (u2 + n2)) d rref rnet
        let low := Nat.min rp.toNat rn.toNat
        let below (k : Nat) : Bool := decide ((low : Int) * 2000 * 1000000 < (k : Int) * bus)
        let warn := below (t.regN (Item.ADCI.ISO_WARN 1))
        let lim := below (t.regN (Item.ADCI.ISO_LIMIT 1))
        let t1 := t0.setRegs [(Item.ADCI.ISO_RP 1, rp), (Item.ADCI.ISO_RN 1, rn),
          (Item.ADCI.ISO_STATUS 1, nw (8 + (if warn then 2 else 0) + (if lim then 1 else 0)))]
        let t2 := if warn then t1.raise (unitOf Kind.slow 1) .W 17 else t1
        if lim then t2.raise (unitOf Kind.slow 1) .W 18 else t2
    | _, _ => t))

end Sys2Proof.Machine
end

