-- ==== Sys2Proof/Machine/Legs.lean ====
section
/-! DEFINITION. The leg island: protection, shoot-through, profile words and faults, gate-supply lockout, off-state checks
(chapter Legs and Gate Drive). -/

namespace Sys2Proof.Machine

/-- The fault unit of a leg. -/
abbrev legUnit (n : Nat) : Nat := unitOf Kind.leg n

/-- The driver of one switch. -/
def Leg.driver (l : Leg) (high : Bool) : Driver := if high then l.hs else l.ls

/-- Replacing the driver of one switch. -/
def Leg.setDriver (l : Leg) (high : Bool) (d : Driver) : Leg := if high then { l with hs := d } else { l with ls := d }

/-- The sheaf of a leg, if it is bound. -/
def State.legSheaf (s : State) (leg : Nat) : Option Nat := s.bind.sheafOfLeg leg

/-! ## Profile words and profile-timing faults -/

/-- A profile-timing fault of a switch (R171): the edge completes at the fall-back current, fall-back to the next sheaf reload, class W
and counted; PROF_FAULT_MAX of them within 1 s are class F. -/
def State.profFault (s : State) (leg : Nat) (high forced : Bool) : State :=
  let l := s.leg leg
  let times := s.time.now :: l.profFaults.filter (fun t => decide (s.time.now < t + 1000000000))
  let d := { l.driver high with
    fallback := true, drive := stepPhases (s.regN (Item.GATE.FB_I leg)) (l.driver high).drive.level }
  let s1 := (s.setLeg leg { l.setDriver high d with profFaults := times }).bump (Item.LEG.PROF_FAULT_CNT leg)
  if s.regN (Item.LEG.PROF_FAULT_MAX leg) ≤ times.length then s1.detect (legUnit leg) .F 6 forced
  else s1.detect (legUnit leg) .W 17 forced

/-- The current band of a deviation of Lnn.CS (chapter Legs and Gate Drive, Current bands): I0 below IBAND_1 to I3 from IBAND_3 on. -/
def State.currentBand (s : State) (leg : Nat) (dev : Int) : Nat :=
  let m := dev.natAbs
  if m < s.regN (Item.GATE.IBAND_1 leg) then 0
  else if m < s.regN (Item.GATE.IBAND_2 leg) then 1
  else if m < s.regN (Item.GATE.IBAND_3 leg) then 2 else 3

/-- A word sent to a driver, complete at `at'`: of the words before it only those still on their way and the last one complete matter. -/
def Driver.send (d : Driver) (now at' : Nat) (w : ProfileWord) : Driver :=
  let flying := d.words.takeWhile (fun p => decide (now ≤ p.1))
  let last := (d.words.drop flying.length).take 1
  { d with words := (at', w) :: flying ++ last }

/-- PROFILE_WORD (R166 to R168): each driver's next word, from the leg's band and the current band of the voltage at Lnn.CS (mV) sampled
on this cycle, with the phases that they select, and whether its check is good; the driver holds it complete 20 to 35 ns later. -/
def execProfileWord (leg : Fin 48) (cs : Nat) (delay : Fin 16) (goodHs goodLs : Bool) (s : State) : Host.Outcome State Fault Refusal :=
  .next (s.act (fun t =>
    let l := t.leg leg
    let dev : Int := (cs : Int) - t.regN (Item.LEG.CS_ZERO leg)
    let cur := t.currentBand leg dev
    let bad := t.forceArmed (legUnit leg) 12
    let fb := t.forced (legUnit leg) 8 || decide (t.regN (Item.GATE.PROFILE_EN leg) = 0)
    let w (good : Bool) : ProfileWord :=
      { band := l.band, current := cur, on := t.onPhases leg l.band cur, off := t.offPhases leg l.band cur
        good := good && !bad, fallback := fb }
    let at' := t.time.now + 20 + delay
    (t.setLeg leg { l with
      dev := dev, current := cur, hs := l.hs.send t.time.now at' (w goodHs), ls := l.ls.send t.time.now at' (w goodLs) }).useForce
        (legUnit leg) 12))

/-- PROFILE_TIMING_FAULT (R170, R171): PLATEAU_TMAX and 200 ns after its command the gate of a switch stands at `level` mV; a turn-on that
has not reached VON − 1.0 V, or a turn-off that is not below VOFF + 1.0 V, is a fault. A switch in soft turn-off has no edge. -/
def execProfileTimingFault (leg : Fin 48) (high : Bool) (level : Int) (s : State) : Host.Outcome State Fault Refusal :=
  .next (s.act (fun t =>
    let l := t.leg leg
    let d := l.driver high
    let on := d.command
    let due := (if on then d.onAt else d.offAt) + t.regN (Item.GATE.PLATEAU_TMAX leg) + 200
    let bad := if on then decide (level < t.gateOn leg - 1000) else decide (t.gateOff leg + 1000 ≤ level)
    if (t.legSheaf leg).isNone ∨ d.soft ∨ d.uv ∨ (on ∧ !d.on) ∨ !bad then t
    else (t.reach due).profFault leg high false))

/-! ## Desaturation and over-current -/

/-- Whether another leg of the sheaf holds a desaturation or over-current fault (R180). -/
def State.otherShort (s : State) (n leg : Nat) : Bool :=
  (s.bind.legsOf n).any (fun l => decide (l ≠ leg) &&
    (let r := s.unit (legUnit l)
     decide (r.state ≠ .idle) && decide (1 ≤ r.src) && decide (r.src ≤ 3)))

/-- A second short in a sheaf (R180): every leg of it at OPEN whatever its safe map selects, the sheaf in SAFE, class L. -/
def State.secondShort (s : State) (n : Nat) : State :=
  let s1 := s.setSheaf n { s.sheaf n with forceOpen := true }
  ((s1.safeSheaf n).legsOff n).applySelection.raise (unitOf Kind.sheaf n) .L 32

/-- What follows a short-circuit response of a leg: the fault that winnows it (R177), and the second short (R180). In a leg
that is handling a fault already the detection is lost (R178). -/
def State.shortFault (s : State) (leg src : Nat) (forced : Bool) : State :=
  match s.legSheaf leg with
  | none => s
  | some n =>
    let lost := decide ((s.unit (legUnit leg)).state = .handling)
    let s1 := s.detect (legUnit leg) .F src forced
    if !lost ∧ s.otherShort n leg then s1.secondShort n else s1.applySelection

/-- The blanking of a switch in the leg's band (Table 6-9), in ns. -/
def State.blanking (s : State) (leg : Nat) : Nat := byteOf (s.reg (Item.LEG.DESAT_BLANK leg)) (s.leg leg).band * 50

/-- Whether a desaturation of a switch acts (R174): the switch is on and its blanking, counted from its on command, has ended; or it is
forced. -/
def State.desatActs (s : State) (leg : Nat) (high : Bool) : Bool :=
  let d := (s.leg leg).driver high
  (d.lit s.time.now && decide (d.onAt + s.blanking leg ≤ s.time.now)) || s.forced (legUnit leg) (if high then 1 else 0)

/-- The response to a desaturation (R174, R176, R177, R179): soft turn-off of that switch, the other held off, in a leg under ASC select
softly, both latched off; `oc` where the over-current comparators trip on the same leg-island edge (R178). -/
def State.desatResponse (s : State) (leg : Nat) (high oc : Bool) (mv : Int) : State :=
  let l := s.leg leg
  let other := l.driver !high
  let o := if l.asc || oc then s.softOff leg other else s.turnOff leg other
  let d := { s.softOff leg (l.driver high) with desat := true }
  let s1 := s.setLeg leg { (l.setDriver high d).setDriver (!high) o with dev := mv, oc := l.oc || oc }
  let s2 := if (s.unit (legUnit leg)).state = .handling then s1
    else s1.bump (if high then Item.LEG.DESAT_CNT_HS leg else Item.LEG.DESAT_CNT_LS leg)
  s2.shortFault leg (if high then 1 else 2) (s.forced (legUnit leg) (if high then 1 else 0))

/-- DESATURATION (R174, R176, R177): at or after the end of blanking of a switch that is on; one that a blanking covers is not seen. -/
def execDesaturation (leg : Fin 48) (high : Bool) (mv : Int) (s : State) : Host.Outcome State Fault Refusal :=
  .next (s.act (fun t =>
    if (t.legSheaf leg).isNone ∨ !t.desatActs leg high then t else t.desatResponse leg high false mv))

/-- OVER_CURRENT (R175 to R178): the contact left its window by `mv`; the on commands of both switches go, a switch that is on
turns off softly, both are latched off. `sat` is the switch whose desaturation is sampled on the same leg-island edge: where it acts, the
one record is that desaturation's. -/
def execOverCurrent (leg : Fin 48) (mv : Int) (sat : Option Bool) (s : State) : Host.Outcome State Fault Refusal :=
  .next (s.act (fun t =>
    let l := t.leg leg
    let f := t.forced (legUnit leg) 2
    let out := decide ((t.regN (Item.LEG.OC_POS leg) : Int) < mv) || decide (mv < -(t.regN (Item.LEG.OC_NEG leg) : Int))
    if (t.legSheaf leg).isNone ∨ (!out ∧ !f) then t
    else
      match sat.filter (t.desatActs leg) with
      | some high => t.desatResponse leg high true mv
      | none =>
        let t1 := t.setLeg leg { l with hs := t.softOff leg l.hs, ls := t.softOff leg l.ls, oc := true, dev := mv }
        let t2 := if (t.unit (legUnit leg)).state = .handling then t1 else t1.bump (Item.LEG.OC_CNT leg)
        t2.shortFault leg 3 f))

/-- SOFT_TURN_OFF_END (R176): the gate is below VOFF + MILLER_V, and the Miller clamp engages. -/
def execSoftTurnOffEnd (leg : Fin 48) (s : State) : Host.Outcome State Fault Refusal :=
  .next (s.act (fun t =>
    let l := t.leg leg
    let e (d : Driver) : Driver := if d.soft then { d with soft := false, on := false, miller := true } else d
    t.setLeg leg { l with hs := e l.hs, ls := e l.ls }))

/-! ## Shoot-through -/

/-- A conflict counts in the present period, once (R181, R183): the third period in a row is class F, one is class W. -/
def State.countShoot (s : State) (leg : Nat) : State :=
  let l := s.leg leg
  if l.shootNow then s
  else
    let f := s.forceArmed (legUnit leg) 3
    let run := Nat.min 3 (s.regN (Item.LEG.SHOOT_RUN leg) + 1)
    let s1 := (((s.setLeg leg { l with shootNow := true }).setRegs
      [(Item.LEG.SHOOT leg, 1), (Item.LEG.SHOOT_RUN leg, nw run)]).bump (Item.LEG.SHOOT_CNT leg)).useForce (legUnit leg) 3
    if run = 3 then s1.detect (legUnit leg) .F 5 f else s1.detect (legUnit leg) .W 16 f

/-- A both-on conflict (R181, R182): the interlock holds both switches off to the next period start, or, where the leg island samples it
on the edge of a period start that is due, for the whole of that period, in which it counts. -/
def State.shootConflict (s : State) (leg : Nat) : State :=
  let l := s.leg leg
  let s1 := s.setLeg leg { l with shootHold := true, hs := s.turnOff leg l.hs, ls := s.turnOff leg l.ls }
  let due := match s.legSheaf leg with
    | some n => (match s.nextStart n with | some f => decide (fineTime f / 5 ≤ s.time.now / 5) | none => false)
    | none => false
  if due then s1.setLeg leg { s1.leg leg with shootNext := true } else s1.countShoot leg

/-- SHOOT_THROUGH (R181 to R183): both edge lines command on at once. -/
def execShootThrough (leg : Fin 48) (s : State) : Host.Outcome State Fault Refusal :=
  .next (s.act (fun t => if (t.legSheaf leg).isNone then t else t.shootConflict leg))

/-- A period starts for the shoot-through record of a leg (R181 to R183): a hold ends, and IL_TIME runs from here before the first on
command; a period without a conflict ends the run; a conflict sampled on this edge holds and counts in the period that begins. -/
def State.shootPeriod (s : State) (leg : Nat) : State :=
  let l := s.leg leg
  let s1 := if l.shootNow then s else s.setReg (Item.LEG.SHOOT_RUN leg) 0
  let t := if l.shootHold then s.time.now else 0
  let s2 := s1.setLeg leg { s1.leg leg with
    shootHold := l.shootNext, shootNow := false, shootNext := false
    hs := { l.hs with offAt := Nat.max l.hs.offAt t }, ls := { l.ls with offAt := Nat.max l.ls.offAt t } }
  if l.shootNext then s2.countShoot leg else s2

/-! ## Gate supplies -/

/-- A domain falls into lockout (R57, R184): its driver holds the gate off through the passive clamp. Outside PROVING, with the supplies
enabled and not removed by path B, it is class F and counted, once. -/
def State.enterLockout (s : State) (leg : Nat) (high : Bool) : State :=
  let l := s.leg leg
  let d := l.driver high
  let s1 := s.setLeg leg (l.setDriver high { d with uv := true, on := false, soft := false, miller := false })
  let f := s.forced (legUnit leg) (if high then 6 else 7)
  let removed := s.sup.pathB && (match s.legSheaf leg with | some n => decide (s.stype n = SType.trc) | none => false)
  if s.legStateCode leg = 2 ∨ !l.supplies ∨ removed ∨ d.uv then s1
  else ((s1.bump (Item.LEG.UV_CNT leg)).detect (legUnit leg) .F 4 f).applySelection

/-- GATE_SUPPLY_UNDERVOLTAGE (R57, R184): the rails of a domain in mV. Below 13.0 V, or less negative than −1.5 V, the domain falls into
lockout; above 13.5 V and beyond −1.8 V an enabled one leaves it. A fold-back under the per-domain limit is counted. -/
def execGateSupplyUndervoltage (leg : Fin 48) (high : Bool) (pos neg : Int) (foldback : Bool) (s : State) :
    Host.Outcome State Fault Refusal :=
  .next (s.act (fun t =>
    if (t.legSheaf leg).isNone then t
    else
      let t1 := if foldback then t.bump (Item.GATE.FOLDBACK_CNT leg) else t
      let l := t1.leg leg
      if railsLow pos neg ∨ t.forced (legUnit leg) (if high then 6 else 7) then t1.enterLockout leg high
      else if railsOk pos neg ∧ l.supplies then (t1.setLeg leg (l.setDriver high { l.driver high with uv := false })).applySelection
      else t1))

/-! ## Off-state checks -/

/-- Whether a leg runs its off-state checks (R185): supplies enabled, and its sheaf READY, or the leg winnowed, or its sheaf in
SAFE at OPEN. -/
def State.offDiagRuns (s : State) (leg : Nat) : Bool :=
  match s.legSheaf leg with
  | none => false
  | some n =>
    (s.leg leg).supplies && !(s.leg leg).asc
      && (s.legWinnowed leg || decide ((s.sheaf n).state = .ready) || decide ((s.sheaf n).state = .safe))

/-- The check bits of class F in Table 6-4. -/
def offDiagF (bits : Nat) : Bool := bits.testBit 0 || bits.testBit 1 || bits.testBit 4 || bits.testBit 5

/-- The checks of Table 6-4 that fail on what a leg measures, one bit each. -/
def State.offBits (s : State) (leg : Nat) (c : OffCheck) : Nat :=
  let off (v : Int) : Bool := decide (v < s.gateOff leg - 1000) || decide (s.gateOff leg + 1000 < v)
  let dev : Int := (c.cs : Int) - s.regN (Item.LEG.CS_ZERO leg)
  let within := decide (dev ≤ s.regN (Item.LEG.OC_POS leg)) && decide (-(s.regN (Item.LEG.OC_NEG leg) : Int) ≤ dev)
  let b (x : Bool) (k : Nat) : Nat := if x then 2 ^ k else 0
  b (off c.gateHs) 0 + b (off c.gateLs) 1 + b (decide (c.cs < 2250) || decide (2750 < c.cs)) 2
    + b (decide (c.mid < 0) || decide ((c.link : Int) * 105 < c.mid * 100)) 3 + b (c.desatHs || c.desatLs) 4
    + b (c.oc && within) 5 + b (decide (c.ts < -550) || decide (1750 < c.ts)) 6

/-- The off-state checks of a leg (R185, Table 6-4): the result, the midpoint, the class stated; a bad temperature input makes the
estimate invalid (R164). Force bit OFFDIAG fails check [4] once. The bits, the forced flag and the state they leave. -/
def State.offCheck (s : State) (leg : Nat) (c : OffCheck) : State × Nat :=
  let f := s.forceArmed (legUnit leg) 13
  let bits := if f then s.offBits leg c ||| 0x10 else s.offBits leg c
  let s1 := (s.setRegs [(Item.LEG.OFFDIAG_RESULT leg, nw bits), (Item.LEG.MID_V leg, nw (Nat.min c.mid.toNat 1100))]).useForce
    (legUnit leg) 13
  let s2 := if bits.testBit 6 then
      (s1.setHeat leg { s1.heat leg with valid := false }).takeBand leg (s1.regN (Item.LEG.BAND_FAILSAFE leg)) true
    else s1
  (if offDiagF bits then s2.detect (legUnit leg) .F 7 f else if bits ≠ 0 then s2.detect (legUnit leg) .W 18 f else s2, bits)

/-- OFF_STATE_DIAG (R185): every OFFDIAG_PERIOD a non-switching leg with supplies enabled checks itself. -/
def execOffStateDiag (leg : Fin 48) (check : OffCheck) (s : State) : Host.Outcome State Fault Refusal :=
  .next (s.act (fun t =>
    if !t.offDiagRuns leg then t
    else ((t.every (Timer.offDiag leg) (t.regN (Item.LEG.OFFDIAG_PERIOD leg) * 1000000)).offCheck leg check).1))

end Sys2Proof.Machine
end

