-- ==== Sys2Proof/Machine/Pulse.lean ====
section
/-! DEFINITION. The pulse-generation fabric: carriers, reloads, group-writes, edges, trigger events (chapter Pulse
Generation). Instants of the fabric are whole numbers of fine units of 78.125 ps; 32 of them are a tick of 2.5 ns. -/

namespace Sys2Proof.Machine

/-! ## Instants -/

/-! ## Which legs switch -/

/-- Whether a position of a sheaf is shed (R375): positions of AUXB only. -/
def State.isShed (s : State) (n leg : Nat) : Bool :=
  decide (s.stype n = SType.auxb) && s.shed.mask.testBit (s.bind.position leg)

/-- A leg that has a place in its sheaf's period: active (R200) and not shed. -/
def State.legPlaced (s : State) (n leg : Nat) : Bool := s.legActive leg && !s.isShed n leg

/-- AUX.I_STATE or AUX.B_STATE of an auxiliary sheaf: 0 not running, 1 soft start, 2 regulating, 3 pause, 4 input low. -/
def State.auxState (s : State) (n : Nat) : Nat :=
  if s.stype n = SType.auxi then s.regN Item.AUX.I_STATE
  else if s.stype n = SType.auxb then s.regN Item.AUX.B_STATE
  else 0

/-- A setpoint below its target: LOOP[12].SETPT_A below AUX.V48_REF (R362). -/
def State.belowTarget (s : State) : Bool :=
  F32.lt (s.reg (Item.LOOP.SETPT_A 12)) (F32.ofRat (s.regI Item.AUX.V48_REF) 10)

/-- Whether a leg receives no edge although it is active (R362, R370, R375, R385): its auxiliary sheaf pauses, AUXB stands
aside for the 12 V reset, the leg is a secondary leg of AUXI under soft start or the limiter, or it is the phase of S2. Legs B and C
of the front end in single-phase operation (R332), and the primary legs of the bridges while DC1 is charged (Table 12-7), likewise. -/
def State.legQuiet (s : State) (n leg : Nat) : Bool :=
  decide (s.auxState n = 3)
  || (decide (s.stype n = SType.auxb)
      && (s.lv.phase || (decide (s.shed.position = some (s.bind.position leg)) && decide (s.shed.stage = 2))))
  || (decide (s.stype n = SType.chgf) && decide (s.charge.phases = 1) && decide (s.bind.position leg = 1 ∨ s.bind.position leg = 2))
  || (decide (s.stype n = SType.chgd) && s.charge.precharge && decide (s.bind.position leg < 2))
  || (decide (s.stype n = SType.auxi) && decide (2 ≤ s.bind.position leg) && (decide (s.auxState n = 1) || s.belowTarget))

/-- Whether the fabric sends a leg edges. -/
def State.legSwitches (s : State) (n leg : Nat) : Bool := s.legPlaced n leg && !s.legQuiet n leg

/-! ## Phases and starts -/

/-- The position of a leg in its group (Table 7-2). -/
def State.groupPosition (s : State) (n leg : Nat) : Nat :=
  if s.stype n = SType.trc then s.bind.position leg % 3 else s.bind.position leg

/-- The group of a leg. -/
def State.groupOf (s : State) (n leg : Nat) : Nat := if s.stype n = SType.trc then s.bind.position leg / 3 else 0

/-- The offset of a leg's period start in fine units (R195, R200): equal spacing over the placed legs, the lane's phase word
modulo the period, or the leg's PHASE item. A leg without a place has no phase of its own under INTERLEAVE and is taken at the start of
the period (R200, R213). DESIGN CHOICE: assumption log 110. -/
def State.phaseFine (s : State) (n leg : Nat) : Nat :=
  let p := s.regN (Item.PWM.PERIOD_NOW n)
  if s.regN (Item.PWM.INTERLEAVE n) = 1 then
    let placed := (s.bind.legsOf n).filter (s.legPlaced n)
    let k := if leg ∈ placed then placed.idxOf leg else 0
    let m := Nat.max 1 placed.length
    (2 * k * p + m) / (2 * m)
  else
    match KMap.get (fun _ => none) (s.group n (s.groupOf n leg)).phase (s.groupPosition n leg) with
    | some w => w % Nat.max 1 p
    | none => share16 (s.regN (Item.PWM.PHASE n (s.bind.position leg))) p

/-- The start of a group's period in the present sheaf period (R195, R200): that of its lowest position by PHASE_p, the sheaf
period start itself under INTERLEAVE. DEDUCED: assumption log 47. -/
def State.groupStart (s : State) (n g : Nat) : Nat :=
  let c := (s.carrier n).start
  if s.regN (Item.PWM.INTERLEAVE n) = 1 then c
  else
    match (s.groupLegs n g).head? with
    | some leg => c + share16 (s.regN (Item.PWM.PHASE n (s.bind.position leg))) (s.regN (Item.PWM.PERIOD_NOW n))
    | none => c

/-! ## Sheaf reloads: the period, and what else changes with it -/

/-- One period of a slew toward a target (R363, R364): changed by at most 1 % of its length. -/
def slewPeriod (now target : Nat) : Nat :=
  if now ≤ target then Nat.min target (now + now / 100) else Nat.max target (now - now / 100)

/-- A period and a shift of phase (`slew`) within 1 % of the period's length (R363). -/
def acquirePeriod (now target slew : Nat) : Nat :=
  Nat.max (now - now / 100) (Nat.min (now + now / 100) (if slew = 0 then target else slew))

/-- The period that begins at a reload of an AUXB sheaf on SYNCIN (R363, R364), within the range of its type (R193). -/
def State.syncPeriod (s : State) (n slew : Nat) : Nat :=
  let now := s.regN (Item.PWM.PERIOD_NOW n)
  let r := periodRange (s.stype n)
  let p :=
    match s.regN Item.AUX.SYNC_STATE with
    | 0 => s.regN (Item.PWM.PERIOD n)
    | 1 => acquirePeriod now (s.syncIn.interval * 32) slew
    | 4 => slewPeriod now (s.regN (Item.PWM.PERIOD n))
    | _ => if s.syncIn.interval = 0 then now else s.syncIn.interval * 32
  Nat.max r.1 (Nat.min r.2 p)

/-- The period that begins at a reload (R195, R198, R199), after the sheaf-owned values have changed. DEDUCED: assumption log 43. -/
def State.nextPeriod (s : State) (n slew : Nat) : Nat :=
  match s.reference n with
  | some r => s.regN (Item.PWM.PERIOD_NOW r)
  | none =>
    match s.regN (Item.PWM.PERIOD_SRC n) with
    | 0 => s.regN (Item.PWM.PERIOD n)
    | 1 =>
      if s.regN (Item.PWM.MODE n) = 0 then s.regN (Item.PWM.PERIOD_NOW n)
      else (s.carrier n).periodWord.getD (s.regN (Item.PWM.PERIOD_NOW n))
    | _ => s.syncPeriod n slew

/-- Writing one word into a group's shadow (R201): each word replaces only the word of its own kind and position. -/
def Group.write (x : Group) (kind pos value : Nat) : Group :=
  let x1 := if kind = 0 then { x with cmp := KMap.put (fun _ => none) x.cmp pos (some value) }
    else { x with phase := KMap.put (fun _ => none) x.phase pos (some value) }
  { x1 with unsampled := insertNew (kind * 8 + pos) x1.unsampled }

/-- Counting a replacement of words no reload has sampled (R203). -/
def State.countOverwrite (s : State) (n g : Nat) (keys : List Nat) : State :=
  if (s.group n g).unsampled.any (fun k => decide (k ∈ keys)) then s.bump (Item.PWM.OVERWRITE_CNT n) else s

/-- A host batch moves into the compare shadows at the sheaf reload, one group-write for each group it touches (R205). -/
def State.moveBatch (s : State) (n : Nat) (b : List (Nat × Nat)) : State :=
  s.forEach (List.range 6) (fun t g =>
    let mine := b.filter (fun p => decide (t.groupOf n (t.bind.firstOf n + p.1) = g))
    if mine = [] then t
    else
      let pos (p : Nat × Nat) : Nat := t.groupPosition n (t.bind.firstOf n + p.1)
      let t1 := t.countOverwrite n g (mine.map pos)
      t1.setGroup n g (mine.foldl (fun x p => x.write 0 (pos p) p.2) (t1.group n g)))

/-- The limited-period count of an auxiliary sheaf at a period's end (R366, R369): a forced attempt limits every period
(Table 13-6). -/
def State.auxPeriod (s : State) (n : Nat) : State :=
  let step (x : AuxRun) (cut : Bool) : AuxRun :=
    if cut then { x with limited := x.limited + 1, consecutive := x.consecutive + 1, cut := false }
    else { x with consecutive := 0 }
  let f := s.forced (unitOf Kind.sheaf n) 0 && decide (s.auxState n = 1)
  if s.stype n = SType.auxi then
    let c := s.auxI.cut || f
    let s1 := { s with auxI := step s.auxI c }
    let s2 := if c then s1.bump Item.AUX.I_LIMIT_CNT else s1
    s2.setReg Item.AUX.I_LIMIT_CAUSE (nw (s2.regN Item.AUX.I_LIMIT_CAUSE / 4 * 4 + (if c then 2 else 0)
      + s2.regN Item.AUX.I_LIMIT_CAUSE % 2))
  else if s.stype n = SType.auxb then
    let c := s.auxB.cut || f
    let s1 := { s with auxB := step s.auxB c }
    if c then s1.bump Item.AUX.B_LIMIT_CNT else s1
  else s

/-- The shed word taken at a sheaf reload of AUXB (R375 to R377), and AUX.PHASES_ON. A winnowed phase is not shed. -/
def State.shedReload (s : State) (n : Nat) : State :=
  if s.stype n ≠ SType.auxb then s
  else
    let x := s.shed
    let here (m : Nat) : Nat := (List.range 8).foldl (fun a p =>
      if m.testBit p ∧ !s.legWinnowed (s.bind.firstOf n + p) then a + 2 ^ p else a) 0
    let y : Shedding :=
      match x.word, x.position with
      | .begin, some _ => { x with stage := 1, word := .none }
      | .complete, some p => { x with mask := x.mask ||| 2 ^ p, position := none, stage := 0, word := .none }
      | .restore, _ => { x with position := none, stage := 0, word := .none }
      | .addOne, _ =>
        (match (List.range 8).find? x.mask.testBit with
         | some p => { x with mask := x.mask ^^^ 2 ^ p, word := .none }
         | none => { x with word := .none })
      | .addAll, _ => { x with mask := 0, position := none, stage := 0, word := .none }
      | _, some _ => if x.stage = 1 then { x with stage := 2 } else x
      | _, none => { x with word := .none }
    let z := { y with mask := here y.mask }
    let s1 := { s with shed := z }
    let s2 := if x.word = .complete ∧ x.position.isSome then s1.bump Item.AUX.SHED_CNT else s1
    let on := (List.range 8).foldl (fun a p => if p < s.bind.countOf n ∧ s2.legPlaced n (s.bind.firstOf n + p) then a + 2 ^ p else a) 0
    s2.setReg Item.AUX.PHASES_ON (nw (z.mask * 256 + on))

/-- What a sheaf reload on `tick` does to one leg: a phase winnowed by command leaves (R383), a band delivered before this tick comes into
use (R23, R165), the fall-back of its switches ends (R171), a period starts for its interlock (R181). DEDUCED: assumption log 32. -/
def State.legReload (tick : Nat) (s : State) (leg : Nat) : State :=
  let s1 := if (s.unit (legUnit leg)).commanded ∧ !s.legWinnowed leg then s.winnowLeg leg .command else s
  let l := s1.leg leg
  let due := l.bandNext.filter (fun p => decide (p.2 < tick))
  (s1.setLeg leg { l with band := (due.map (·.1)).getD l.band, bandNext := if due.isSome then none else l.bandNext,
                          hs := { l.hs with fallback := false }, ls := { l.ls with fallback := false } }).shootPeriod leg

/-- The sheaf-owned values change on the tick of a reload (R89, R90, R144, R196, R210): writes on their way, a swap whose word has
completed its crossing before that tick, what a changed policy or enable clears. -/
def State.ownedReload (s : State) (n tick : Nat) : State :=
  let policy := s.reg (Item.PWM.SHORT_POLICY n)
  let s1 := s.boundary (.sheaf n) tick
  let s2 := if s1.swaps.any (fun w => decide (w.sheaf = n) && decide (w.word < tick)) then s1.finishSwap n else s1
  s2.forEach (s2.bind.legsOf n) (fun t leg =>
    let t1 := if t.reg (Item.PWM.SHORT_POLICY n) ≠ policy then t.clearCarry leg else t
    if t1.legSwitches n leg then t1 else if t1.legActive leg then t1.legOff leg else (t1.legOff leg).clearCarry leg)

/-- What an AUXB reload at `f` does to the state of SYNCIN (R363, R364): while acquiring, a start within 2 ticks of an edge locks; a
LOCKED period that began on no edge counts as missing one; a return ends at PWM[n].PERIOD. -/
def State.syncReload (s : State) (n f p : Nat) : State :=
  let x := s.syncIn
  let near := match x.edge with | some e => decide (f / 32 ≤ e + 2) && decide (e ≤ f / 32 + 2) | none => false
  match s.regN Item.AUX.SYNC_STATE with
  | 1 => if near then { s with syncIn := { x with missed := 0 } }.setReg Item.AUX.SYNC_STATE 2 else s
  | 4 => if p = s.regN (Item.PWM.PERIOD n) then s.setReg Item.AUX.SYNC_STATE 0 else s
  | 0 => s
  | _ =>
    if x.edge = some (f / 32 - 1) then { s with syncIn := { x with missed := 0 } }.setReg Item.AUX.SYNC_STATE 2
    else { s with syncIn := { x with missed := x.missed + 1 } }.setReg Item.AUX.SYNC_STATE 3

/-! ## Group reloads -/

/-- The dead times of a leg's band: high-side, low-side (R206, R208). -/
def State.deadTimes (s : State) (n leg : Nat) : Nat × Nat :=
  let w := s.reg (Item.PWM.DT_B n (s.leg leg).band)
  (bitsOf w 15 0, bitsOf w 31 16)

/-- The short-pulse threshold of a leg (R209): the larger dead time or the minimum pulse of its band. -/
def State.shortLimit (s : State) (n leg : Nat) : Nat :=
  let b := (s.leg leg).band
  let d := s.deadTimes n leg
  Nat.max (Nat.max d.1 d.2) (bitsOf (s.reg (Item.PWM.MIN_PULSE n)) (8 * b + 7) (8 * b) * 64)

/-- The compare of a duration word (R197): itself under a counted carrier or constant on-time, the rest of the period under
constant off-time. -/
def compareOf (mode period d : Nat) : Nat := if mode = 2 then period - d else d

/-- What the short-pulse procedure gives (R209): the effective compare, the carry, whether a pulse was short, whether the carry
was clipped. -/
structure ShortResult where
  eff : Nat
  carry : Int
  short : Bool
  clipped : Bool
  deriving DecidableEq, Repr

/-- The procedure of R209: policy 0 SUPPRESS_CARRY, 1 SUPPRESS, 2 EXTEND. -/
def shortPulse (policy cmp period thr : Nat) (carry : Int) : ShortResult :=
  if cmp = 0 ∨ period ≤ cmp then { eff := Nat.min cmp period, carry := carry, short := false, clipped := false }
  else
    let c : Int := if policy = 0 then (cmp : Int) + carry else cmp
    let p : Int := period
    let eff : Nat := if c < thr then 0 else if p - c < thr then period else c.toNat
    let dropped : Int := if c < thr then c else if p - c < thr then c - p else 0
    let wide : Nat := if policy = 2 ∧ dropped ≠ 0 then (if eff = 0 then thr else period - thr) else eff
    { eff := wide
      carry := if policy = 0 then max (-p) (min p dropped) else carry
      short := decide (dropped ≠ 0)
      clipped := decide (policy = 0) && (decide (p < dropped) || decide (dropped < -p)) }

/-- The effective compare of one leg at its group reload (R204, R209, R217, R366, R375): none holds both switches off. -/
def State.reloadLeg (s : State) (n leg : Nat) : State × Option Nat :=
  let p := s.regN (Item.PWM.PERIOD_NOW n)
  let pos := s.bind.position leg
  match KMap.get (fun _ => none) (s.group n (s.groupOf n leg)).cmp (s.groupPosition n leg) with
  | none => (s.setReg (Item.PWM.CMP_NOW n pos) 0xFFFFFFFF, none)
  | some d =>
    if !s.legSwitches n leg then (s.setReg (Item.PWM.CMP_NOW n pos) 0, none)
    else
      let half := decide (s.stype n = SType.auxb) && decide (s.shed.position = some pos) && decide (s.shed.stage = 1)
      let c := compareOf (s.regN (Item.PWM.MODE n)) p (if half then d / 2 else d)
      let r := shortPulse (s.regN (Item.PWM.SHORT_POLICY n)) c p (s.shortLimit n leg) (s.regI (Item.PWM.CARRY n pos))
      let eff := if s.stype n = SType.auxi ∧ pos = 0 then Nat.min r.eff (s.auxI.cap.getD r.eff) else r.eff
      let s1 := if r.short then s.bump (Item.PWM.SHORT_CNT n) else s
      let s2 := if r.clipped then s1.bump (Item.PWM.CARRY_CLIP_CNT n) else s1
      (s2.setRegs [(Item.PWM.CARRY n pos, iw r.carry), (Item.PWM.CMP_NOW n pos, nw eff)], some eff)

/-- The key under which a leg's period before the present one stands. -/
def previousPulse (leg : Nat) : Nat := 64 + leg

/-- One leg at its group reload: the period that begins at its own next start (R195, R208). -/
def State.legPeriod (s : State) (n g leg : Nat) : State :=
  let p := s.regN (Item.PWM.PERIOD_NOW n)
  let start := (s.carrier n).start + s.phaseFine n leg
  let begins := if start < s.groupStart n g then start + p else start
  let old := s.pulse leg
  let d := s.deadTimes n leg
  let r := s.reloadLeg n leg
  let x : Pulse :=
    { start := begins, period := p, cmp := r.2, dtHs := d.1, dtLs := d.2,
      carriedHigh := decide ((old.cmp.getD 0) ≥ old.period) && old.cmp.isSome && decide (0 < old.period), cut := false, zcd := false }
  (r.1.setPulse (previousPulse leg) old).setPulse leg x

/-- A leg whose period start lies before its group reload runs, in the sheaf period that begins at `f`, the period that the group reload
before has formed, placed with the period and phase of that sheaf period (R195, R196). -/
def State.replaceLeg (f : Nat) (n : Nat) (s : State) (leg : Nat) : State :=
  let x := s.pulse leg
  if x.period = 0 ∨ x.start < f then s
  else
    let p := s.regN (Item.PWM.PERIOD_NOW n)
    s.setPulse leg { x with start := f + s.phaseFine n leg, period := p
                            cmp := x.cmp.map (fun c => if x.period ≤ c then Nat.max c p else c) }

/-! ## Group-writes -/

/-- A period word held within the range of its type, and whether it was clamped (R193). -/
def clampPeriod (ty p : Nat) : Nat × Bool :=
  let r := periodRange ty
  (Nat.max r.1 (Nat.min r.2 p), decide (p < r.1 ∨ r.2 < p))

/-- One word of a group-write lands (Table 7-2): kind 3 is ignored, a period word comes from a timed sheaf only. -/
def State.writeWord (s : State) (n g : Nat) (w : Word) : State :=
  let kind := bitsOf w 31 30
  let value := bitsOf w 26 0
  if kind = 3 then s
  else if kind = 2 then
    if s.regN (Item.PWM.MODE n) = 0 then s
    else
      let c := clampPeriod (s.stype n) value
      let s1 := if c.2 then s.bump (Item.PWM.CLAMP_CNT n) else s
      let s2 := s1.setCarrier n { s1.carrier n with periodWord := some c.1 }
      s2.setGroup n g { s2.group n g with unsampled := insertNew 16 (s2.group n g).unsampled }
  else s.setGroup n g ((s.group n g).write kind (bitsOf w 29 27) value)

/-- The key of a word in a group's list of unsampled words. -/
def writeKey (w : Word) : Nat := if bitsOf w 31 30 = 2 then 16 else bitsOf w 31 30 * 8 + bitsOf w 29 27

/-- A group-write enters the compare shadow whole (R201, R203). -/
def State.landWords (s : State) (n g : Nat) (words : List Word) : State :=
  (s.countOverwrite n g (words.map writeKey)).forEach words (fun t w => t.writeWord n g w)

/-- The group-writes held back of a group enter its shadow as far as `due` says by their tick; those on the tick of a reload just made
count as late (R202). -/
def State.landHeld (s : State) (n g : Nat) (due : Nat → Bool) (late : Nat → Bool) : State :=
  let x := s.group n g
  let s1 := s.setGroup n g { x with held := x.held.filter (fun p => !due p.1) }
  s1.forEach (x.held.filter (fun p => due p.1)) (fun t p =>
    (if late p.1 then t.bump (Item.PWM.LATE_CNT n) else t).landWords n g p.2)

/-- The tick of the next event that may sample a group's shadow: its group reload in the present sheaf period where that is still to come,
else the next sheaf reload. -/
def State.sampleTick (s : State) (n g : Nat) : Option Nat :=
  let x := s.group n g
  if 0 < (s.carrier n).count ∧ x.start < s.groupStart n g then some (s.groupStart n g / 32)
  else (s.nextStart n).map (· / 32)

/-- A group reload (R196, R202, R204, R209): the group's compare shadow is sampled on its tick, after the sheaf-owned values; once in a
sheaf period. What completed its crossing on that tick stays for the next one. -/
def State.groupReload (s : State) (n g : Nat) : State :=
  if !s.carries n ∨ (s.carrier n).count = 0 ∨ s.groupLegs n g = [] then s
  else
    let f := s.groupStart n g
    if 0 < (s.group n g).count ∧ f ≤ (s.group n g).start then s
    else
      let tick := f / 32
      let s1 := (s.landHeld n g (fun t => decide (t < tick)) (fun _ => false)).reachFine f
      let s2 := s1.forEach (s1.groupLegs n g) (fun u leg => u.legPeriod n g leg)
      let s3 : State := if s2.stype n = SType.auxi then { s2 with auxI := { s2.auxI with cap := none } } else s2
      let s4 := s3.setGroup n g { s3.group n g with unsampled := [], reloaded := tick, count := (s3.group n g).count + 1, start := f }
      s4.landHeld n g (fun _ => true) (fun t => decide (t = tick))

/-- GROUP_RELOAD (R196, R202, R204, R209). -/
def execGroupReload (sheaf : Fin 12) (group : Fin 8) (s : State) : Host.Outcome State Fault Refusal :=
  .next (s.act (fun t => t.groupReload sheaf group))

/-! ## Sheaf reloads -/

/-- The period that a sheaf reload begins (R195, R198, R199, R215). Before any period word has come a carrier on period words runs with
PWM.PERIOD: the spec gives none. DESIGN CHOICE: assumption log 111. -/
def State.reloadPeriod (s : State) (n slew : Nat) : Nat :=
  let c := s.carrier n
  if c.count = 0 ∧ s.reference n = none ∧ s.regN (Item.PWM.PERIOD_SRC n) ≠ 0 then
    (if s.regN (Item.PWM.PERIOD_SRC n) = 1 ∧ s.regN (Item.PWM.MODE n) ≠ 0 then c.periodWord.getD (s.regN (Item.PWM.PERIOD n))
     else s.regN (Item.PWM.PERIOD n))
  else s.nextPeriod n slew

/-- The host batches delivered before the tick of a sheaf reload move into the shadows; one delivered on it stays for the next and counts
as late for each group it touches (R205). -/
def State.moveHost (s : State) (n tick : Nat) : State :=
  let c := s.carrier n
  let s1 := s.setCarrier n { c with host := c.host.filter (fun p => decide (tick ≤ p.1)) }
  let s2 := s1.forEach (c.host.filter (fun p => decide (p.1 < tick))) (fun u p => u.moveBatch n p.2)
  s2.forEach (c.host.filter (fun p => decide (p.1 = tick))) (fun u p =>
    u.forEach ((List.range 6).filter (fun g => p.2.any (fun q => decide (u.groupOf n (u.bind.firstOf n + q.1) = g))))
      (fun v _ => v.bump (Item.PWM.LATE_CNT n)))

/-- SHEAF_RELOAD (R195, R196, R198, R199, R215): the tick in which a sheaf period start falls. `slew` is the length the fabric
gives a period while it acquires SYNCIN. The group reload of a timed sheaf is its sheaf reload: a period word and the compares of its
group-write are taken together (R198). -/
def execSheafReload (sheaf : Fin 12) (slew : Nat) (s : State) : Host.Outcome State Fault Refusal :=
  .next (s.act (fun t =>
    let n := sheaf.val
    if !t.carries n then t
    else
      match t.nextStart n with
      | none => t
      | some f =>
        let tick := f / 32
        let t0 := (t.forEach (List.range 8) (fun u g => u.landHeld n g (fun k => decide (k < tick)) (fun _ => false))).reachFine f
        let c := t0.carrier n
        let t1 := if c.count = 0 then t0 else t0.auxPeriod n
        let t2 := (t1.forEach (t1.bind.legsOf n) (State.legReload tick)).shedReload n
        let t3 := t2.ownedReload n tick
        let p := t3.reloadPeriod n slew
        let t4 := ((t3.setReg (Item.PWM.PERIOD_NOW n) (nw p)).bump (Item.PWM.RELOAD_CNT n)).moveHost n tick
        let t5 := if c.count ≠ 0 ∧ t4.regN (Item.PWM.PERIOD_SRC n) = 2 then t4.syncReload n f p else t4
        let t6 := t5.setCarrier n { t5.carrier n with start := f, count := c.count + 1, periodWord := none }
        let t7 := (t6.setSheaf n { t6.sheaf n with starting := false }).forEach (t6.bind.legsOf n) (State.replaceLeg f n)
        if t7.regN (Item.PWM.MODE n) = 0 then t7 else t7.groupReload n 0))

/-! ## Group-writes on their way -/

/-- A group-write lands (R201 to R203, R205): on the tick of the group's reload it counts as late; one that completes on or after the tick
of the coming reload is held for it; a host that writes the compares has the fabric discard it. -/
def State.landWrite (s : State) (n g tick : Nat) (words : List Word) : State :=
  let x := s.group n g
  if s.regN (Item.PWM.CMP_SRC n) = 1 then s
  else if (match s.sampleTick n g with | some k => decide (k ≤ tick) | none => false) then
    s.setGroup n g { x with held := x.held ++ [(tick, words)] }
  else
    let late := decide (0 < x.count) && decide (tick = x.reloaded)
    (if late then s.bump (Item.PWM.LATE_CNT n) else s).landWords n g words

/-- GROUP_WRITE (R201): the oldest group-write on its way to a group completes its crossing on `tick`; LOOP.LAT_MAX keeps the
largest time from capture to shadow. -/
def execGroupWrite (sheaf : Fin 12) (group : Fin 8) (tick : Nat) (s : State) : Host.Outcome State Fault Refusal :=
  .next (s.act (fun t =>
    match t.writes.find? (fun w => decide (w.sheaf = sheaf.val) && decide (w.group = group.val)) with
    | none => t
    | some w =>
      let t1 := ({ t with writes := t.writes.erase w }.reachTick tick)
      let lat := stampAge (stamp48 (tickTime tick)) w.stamp
      let t2 := if t1.regN (Item.LOOP.LAT_MAX w.lane) < lat then t1.setReg (Item.LOOP.LAT_MAX w.lane) (nw lat) else t1
      if t2.fabricStopped then t2 else t2.landWrite sheaf group tick w.words))

/-! ## Edges -/

/-- The instant of one edge of a period, if it has that edge (Table 7-4, R206, R207). -/
def Pulse.edge (x : Pulse) (high on : Bool) : Option Nat :=
  match x.cmp with
  | none => none
  | some c =>
    let full := decide (x.period ≤ c)
    match high, on with
    | true, true => if 0 < c ∧ !x.carriedHigh ∧ (full ∨ x.dtHs < c) then some (x.start + x.dtHs) else none
    | true, false => if full then none else some (x.start + c)
    | false, false => if 0 < c then some x.start else none
    | false, true => if !full ∧ !x.zcd ∧ c + x.dtLs < x.period then some (x.start + c + x.dtLs) else none

/-- The instant of the next edge of a switch in a direction: in the period before, while that still runs, or in the present
one. -/
def State.edgeAt (s : State) (leg : Nat) (high on : Bool) : Option Nat :=
  let x := s.pulse leg
  match (s.pulse (previousPulse leg)).edge high on with
  | some f => if s.time.now ≤ fineTime f ∧ f < x.start then some f else x.edge high on
  | none => x.edge high on

/-- Whether Table 1-3 lets an on command through to a driver: the leg's release signal, supply, supervisor lines, latches, the interlock's
hold. -/
def Leg.passes (l : Leg) (released high : Bool) : Bool :=
  let d := l.driver high
  released && l.supplies && !d.uv && !l.block && !l.asc && !l.oc && !l.hs.desat && !l.ls.desat && !l.shootHold && !l.hs.soft && !l.ls.soft

/-- The mean of a list of times. -/
def meanOf (l : List Nat) : Nat := if l = [] then 0 else l.foldl (· + ·) 0 / l.length

/-- The records of an edge (Table 6-9, Table 6-10): current band of the switch's last edge, edge time, gate level before the
edge, and the mean phase-2 time of the last 256 edges of its kind where the edge ran its profile. -/
def State.edgeRecords (s : State) (leg : Nat) (high on fallback : Bool) (w : ProfileWord) (plateau phases : Nat) (level : Int) : State :=
  let sh := (if high then 4 else 0) + (if on then 2 else 0)
  let cur := s.regN (Item.LEG.CURBAND leg)
  let cb := cur - bitsOf (nw cur) (sh + 1) sh * 2 ^ sh + w.current % 4 * 2 ^ sh
  let s1 := s.setReg (Item.LEG.CURBAND leg) (nw cb)
  let s2 := if on then
      s1.setRegs [(if high then Item.GATE.EDGE_T_HS leg else Item.GATE.EDGE_T_LS leg, nw (Nat.min phases 4000)),
        (if high then Item.GATE.VOFF_HS_MEAS leg else Item.GATE.VOFF_LS_MEAS leg, iw level)]
    else s1.setReg (if high then Item.GATE.VON_HS_MEAS leg else Item.GATE.VON_LS_MEAS leg) (iw level)
  if fallback then s2
  else
    let l := s2.leg leg
    let k := (if high then 0 else 8) + (if on then 0 else 4) + w.band
    let times := (plateau :: KMap.get (fun _ => []) l.edges k).take 256
    (s2.setLeg leg { l with edges := KMap.put (fun _ => []) l.edges k times }).setReg (Item.GATE.EDGE_STAT leg k) (nw (meanOf times))

/-- One switch receives its edge, `f` in fine units, at a device time (R161, R166 to R168, R170 to R172, R188): `plateau` is how long
phase 2 lasts, `phases` how long phases 1 and 2 last, `level` the gate level before it. -/
def State.switchEdge (s : State) (leg f : Nat) (high on : Bool) (plateau phases : Nat) (level : Int) : State :=
  let l := s.leg leg
  let d := l.driver high
  let pass := l.passes (s.sup.releases.getLsbD leg && !s.cutBlocks leg) high
  let w := d.held s.time.now
  let fallback := s.onFallback leg d
  let d1 := if on then
      { d with
        command := true, on := pass || d.on, miller := d.miller && !pass, onAt := if pass && !d.on then s.time.now else d.onAt
        drive := if pass then s.driveOf leg d true else d.drive, edge := f }
    else { s.turnOff leg d with edge := f }
  let s1 := s.setLeg leg (l.setDriver high d1)
  if (on && !pass) || (!on && !d.on) then s1
  else
    let u := legUnit leg
    let enabled := decide (s.regN (Item.GATE.PROFILE_EN leg) = 1)
    let s2 := if on then s1.bump (Item.LEG.EDGE_CNT leg) else s1
    let s3 := s2.edgeRecords leg high on fallback w plateau phases level
    let s4 := if w.good then s3 else s3.bump (Item.GATE.WORD_ERR leg)
    let bit := if high then 4 else 5
    if s4.forceArmed u bit then (s4.useForce u bit).profFault leg high true
    else if enabled ∧ !w.good then s4.profFault leg high (s4.forced u 12)
    else if !fallback ∧ s4.regN (Item.GATE.PLATEAU_TMAX leg) < plateau then s4.profFault leg high false
    else s4

/-- An edge that the interlock or a conflict keeps from its switch: it is over for the fabric. -/
def State.passEdge (s : State) (leg f : Nat) (high : Bool) : State :=
  let l := s.leg leg
  s.setLeg leg (l.setDriver high { l.driver high with edge := f })

/-- LEG_EDGE (R206, R207, R217): the next edge of a switch, at its placed instant; an on command waits in the interlock until
the other switch's command has been off for IL_TIME, and is not passed where its own off edge comes first (R161). An on edge while the
other edge line commands on is a conflict (R181). -/
def execLegEdge (leg : Fin 48) (high on : Bool) (plateau phases : Nat) (level : Int) (s : State) :
    Host.Outcome State Fault Refusal :=
  .next (s.act (fun t =>
    match t.legSheaf leg with
    | none => t
    | some n =>
      let l := t.leg leg
      let d := l.driver high
      let other := l.driver !high
      if !t.carries n ∨ !t.legSwitches n leg ∨ d.command = on then t
      else
        match t.edgeAt leg high on with
        | none => t
        | some f =>
          if f ≤ d.edge then t
          else if !on then (t.reachFine f).switchEdge leg f high on plateau phases level
          else
            let t1 := t.reachFine f
            let otherOff := t.edgeAt leg (!high) false
            if other.command && !(match otherOff with | some g => decide (g ≤ f) | none => false) then
              (t1.passEdge leg f high).shootConflict leg
            else
              let o := if other.command then
                  { t.turnOff leg other with offAt := fineTime (otherOff.getD f), edge := otherOff.getD f } else other
              let t2 := t1.setLeg leg (l.setDriver (!high) o)
              let from' := Nat.max (fineTime f) (o.offAt + t.regN (Item.LEG.IL_TIME leg))
              let gone := match t.edgeAt leg high false with | some g => decide (g * 5 ≤ from' * 64) | none => false
              if gone then t2.passEdge leg f high
              else (t2.reach from').switchEdge leg f high on plateau phases level))

/-- INTERPOLATOR_RECAL (R192): no recalibration moves an edge by more than one fine unit, and the placed edges stay where they
are. -/
def execInterpolatorRecal (s : State) : Host.Outcome State Fault Refusal := .next (s.act id)

/-! ## Trigger events -/

/-- The reference of a generator in its present period: its instant in fine units, the ticks of the reloads that bound it, the
number of that period since the entry to RUN (Table 7-6, R213, R214). The group period is the one that the group's last reload began; the
reload that ends it falls on its place in the present sheaf period where that has begun since, else one period on. DEDUCED: assumption
log 21. -/
def State.triggerReference (s : State) (n k : Nat) : Option (Nat × Nat × Nat × Nat) :=
  let w := s.reg (Item.PWM.TRIG_REF n k)
  let code := bitsOf w 15 12
  let c := s.carrier n
  let p := s.regN (Item.PWM.PERIOD_NOW n)
  let leg := s.bind.firstOf n + bitsOf w 4 0
  let g := s.groupOf n leg
  let y := s.group n g
  let x := s.pulse leg
  let b := y.start / 32
  let e := (if y.start < s.groupStart n g then s.groupStart n g else y.start + p) / 32
  match code with
  | 0 => none
  | 1 => some (c.start, c.start / 32, (c.start + p) / 32, c.count)
  | 2 => some (y.start, b, e, y.count)
  | 3 => some (x.start + x.cmp.getD 0, b, e, y.count)
  | 4 => some (x.start + x.period / 2, b, e, y.count)
  | _ => none

/-- TRIGGER_EVENT (R212 to R214): once in every TRIG_DEC-th period of its reference a generator issues its event, or counts a
skip where the event lies outside the bounding reloads. -/
def execTriggerEvent (sheaf : Fin 12) (generator : Fin 8) (s : State) : Host.Outcome State Fault Refusal :=
  .next (s.act (fun t =>
    let n := sheaf.val
    let k := generator.val
    match t.triggerReference n k with
    | none => t
    | some (f, lo, hi, count) =>
      let c := t.carrier n
      if !t.carries n ∨ count = 0 ∨ count % Nat.max 1 (t.regN (Item.PWM.TRIG_DEC n k)) ≠ 0
          ∨ KMap.get (fun _ => 0) c.fired k = count then t
      else
        let at' : Int := (f / 32 : Nat) + t.regI (Item.PWM.TRIG_OFS n k)
        let t1 := t.setCarrier n { c with fired := KMap.put (fun _ => 0) c.fired k count }
        if at' < lo ∨ (hi : Int) ≤ at' then t1.bump (Item.PWM.TRIG_SKIP_CNT n)
        else
          let d := t1.reg (Item.PWM.TRIG_DST n k)
          let tick := at'.toNat
          let t2 := t1.reachTick tick
          match bitsOf d 15 12 with
          | 1 => { t2 with events := t2.events ++ [.convert (bitsOf d 11 8) (bitsOf d 2 0) tick] }
          | 2 => { t2 with events := t2.events ++ [.latch (bitsOf d 11 8) (bitsOf d 2 0) tick] }
          | _ => t2))

/-! ## Entering and leaving RUN -/

/-- The fabric's part of an entry to RUN (R204, R215): every compare unwritten, the first reload on the first tick at least
1.0 µs on. -/
def State.beginCarrier (s : State) (n : Nat) : State :=
  let s1 := s.setCarrier n { Carrier.init with first := Nat.max (((s.time.now + 1000) * 2 + 4) / 5) (s.time.fine / 32 + 400) }
  let s2 := s1.forEach (List.range 8) (fun t g => t.setGroup n g Group.init)
  let s3 := s2.forEach (s2.bind.legsOf n) (fun t leg =>
    ((t.setPulse leg Pulse.init).setPulse (previousPulse leg) Pulse.init).setReg (Item.PWM.CMP_NOW n (t.bind.position leg)) 0xFFFFFFFF)
  s3.setReg (Item.PWM.PERIOD_NOW n) (s3.reg (Item.PWM.PERIOD n))

/-- A sheaf leaves RUN by its stop word (R210, R216): both switches of every leg off at once, carries cleared, writes on their
way without a taker; a sheaf synchronised to it stops too (R199). -/
def State.stopCarrier (s : State) (n : Nat) : State :=
  let s1 := ((s.legsOff n).forEach (s.bind.legsOf n) State.clearCarry).leaveRun n
  { s1 with writes := s1.writes.filter (fun w => decide (w.sheaf ≠ n)) }.stopFollowers n

/-- SHEAF_RUN_STOP (R216, Table 3-8): the stop word reaches the fabric; the sheaf is READY, or OFF where the stop asked for it,
and the commands that stop it complete. -/
def execSheafRunStop (sheaf : Fin 12) (s : State) : Host.Outcome State Fault Refusal :=
  .next (s.act (fun t =>
    let n := sheaf.val
    let h := t.sheaf n
    match h.stop with
    | none => t
    | some r =>
      if h.state ≠ .run ∨ !r.word then t
      else
        let t1 := t.stopCarrier n
        let t2 := if r.toOff then t1.sheafOff n else t1.setSheaf n { t1.sheaf n with state := .ready, stop := none, starting := false }
        let t3 := t2.applySelection
        (t3.endSequences (fun q => decide (q.kind = .stop) && decide (unitOf Kind.sheaf n ∈ q.units)) Code.ok Reason.none
          (fun _ => t3.sheafResult n)).finishExit))

/-- FABRIC_CLOCK_STOP (R218): every edge line falls to off without that clock. -/
def execFabricClockStop (s : State) : Host.Outcome State Fault Refusal :=
  .next (s.act (fun t =>
    { t with fabricStopped := true }.forEach (List.range 48) (fun u n =>
      let l := u.leg n
      let lines (d : Driver) : Driver := if d.command then u.turnOff n d else d
      u.setLeg n { l with hs := lines l.hs, ls := if l.asc then { l.ls with command := false } else lines l.ls })))

end Sys2Proof.Machine
end

