-- ==== Sys2Proof/Machine/Engine.lean ====
section
/-! DEFINITION. The arithmetic of the loop lanes: sources, regulators, the lane types, torque sharing and limits, the output to
the pulse fabric (chapters Control Engine and Traction Inverter). All values are binary32 words. -/

namespace Sys2Proof.Machine

/-! ## Constants and small arithmetic -/

abbrev F32.one : Word := 0x3F800000
abbrev F32.half : Word := 0x3F000000
abbrev F32.two : Word := 0x40000000
abbrev F32.pi : Word := 0x40490FDB
abbrev F32.sqrt3 : Word := 0x3FDDB3D7

/-- Equality of value. -/
def F32.same (a b : Word) : Bool := decide (F32.key a = F32.key b)

/-- The sign of a value as -1, 0 or 1. -/
def F32.sgn (a : Word) : Word := if F32.lt 0 a then F32.one else if F32.lt a 0 then 0xBF800000 else 0

/-- A sum of words. -/
def F32.sum (l : List Word) : Word := l.foldl F32.add 0

/-- A time in ns as seconds. -/
def seconds (ns : Nat) : Word := F32.ofRat ns 1000000000

/-- The linear interpolation in a table of eight points, flat beyond its ends (R306). -/
def interpolate (xs : Nat → Word) (ys : Nat → Word) (x : Word) : Word :=
  if F32.le x (xs 0) then ys 0
  else
    match (List.range 7).find? (fun k => F32.le x (xs (k + 1))) with
    | none => ys 7
    | some k =>
      let dx := F32.sub (xs (k + 1)) (xs k)
      if F32.same dx 0 then ys (k + 1)
      else F32.add (ys k) (F32.div (F32.mul (F32.sub (ys (k + 1)) (ys k)) (F32.sub x (xs k))) dx)

/-! ## Slots -/

/-- A slot as a lane reads it at a start: its scaled value, the stamp it carries, whether it is usable. -/
structure SlotValue where
  value : Word
  stamp : Nat
  ok : Bool
  deriving DecidableEq, Repr

/-- Reading slot `j` (R277, Table 10-3): a sample of the set, or the latest value where it is valid and not older than
AGE_MAX. -/
def State.readSlot (s : State) (n : Nat) (joined : List Sample) (j : Nat) : SlotValue :=
  let w := s.reg (Item.LOOP.SRC n j)
  let scale (x : Word) : Word := F32.mul x (s.reg (Item.LOOP.IN_SCALE n j))
  if bitsOf w 31 28 = 0 then { value := 0, stamp := stamp48 s.time.now, ok := true }
  else if bitOf w 27 then
    match joined.find? (fun x => decide (x.slot = j)) with
    | some x => { value := scale x.value, stamp := x.stamp, ok := true }
    | none => { value := 0, stamp := stamp48 s.time.now, ok := false }
  else
    let v := s.sourceValue n w
    { value := scale v.1, stamp := v.2.1, ok := v.2.2 && decide (stampAge (stamp48 s.time.now) v.2.1 ≤ s.regN (Item.LOOP.AGE_MAX n) * 1000) }

/-- The scaled full range of slot 7 where a fast input feeds it (R285): what its end code would read. -/
def State.fullRange (s : State) (n : Nat) : Word :=
  let w := s.reg (Item.LOOP.SRC n 7)
  let k := bitsOf w 11 0 / 8
  let i := bitsOf w 11 0 % 8
  if bitsOf w 31 28 = 1 then
    F32.mul (F32.ofInt (s.scaled k i (BitVec.ofInt 14 (endCodes 14 (s.bipolar k i)).2))) (s.reg (Item.LOOP.IN_SCALE n 7))
  else 0

/-- Whether a lane writes compares to a group (Table 10-1). -/
def State.laneWrites (s : State) (n : Nat) : Bool :=
  decide (1 ≤ s.regN (Item.LOOP.TYPE n)) && decide (s.regN (Item.LOOP.TYPE n) ≤ 5) && decide (s.regN (Item.LOOP.GROUP n) < 15)

/-- Whether a slot that a lane has read keeps it from computing (R278, R285). -/
def State.slotsMiss (s : State) (n : Nat) (v : List SlotValue) : Bool :=
  v.any (fun x => !x.ok)
  || (s.laneWrites n && F32.lt ((v.map (·.value)).getD 7 0) (F32.mul (s.fullRange n) 0x3C23D70A))

/-! ## Regulators -/

/-- What every block of a lane is computed from: the lane, its slots, whether it is closed and whether that is new, the
interval Ts, the period P, the start, the slewed references. -/
structure LaneInput where
  lane : Nat
  sheaf : Nat
  slots : List SlotValue
  closed : Bool
  fresh : Bool
  ts : Word
  period : Nat
  stamp : Nat
  start : Nat
  refA : Word
  refB : Word
  deriving DecidableEq, Repr

/-- The value of a slot. -/
def LaneInput.slot (c : LaneInput) (j : Nat) : Word := (c.slots.map (·.value)).getD j 0

/-- What a regulator gives: its output, its integrator, whether the output was limited. -/
structure Regulated where
  u : Word
  i : Word
  sat : Bool
  deriving DecidableEq, Repr

/-- One regulator (R282, R290, R292): open it gives its feed-forward alone with the integrator at 0; on closing its integrator
is set so that its first output equals its last open one. -/
def LaneInput.regulate (c : LaneInput) (kp ki kaw e d ff i last : Word) (lim : Word → Word) : Regulated :=
  if !c.closed then { u := lim ff, i := 0, sat := false }
  else
    let p := F32.mul kp e
    let i0 := if c.fresh then F32.sub (F32.sub last p) ff else i
    let pre := F32.add (F32.add (F32.add p i0) (if c.fresh then 0 else d)) ff
    let u := lim pre
    { u := u, i := F32.add i0 (F32.add (F32.mul (F32.mul ki c.ts) e) (F32.mul kaw (F32.sub u pre))), sat := !F32.same u pre }

/-- The result of a lane that gives nothing yet. -/
def LaneResult.empty (c : LaneInput) : LaneResult where
  words := []
  y := List.replicate 8 0
  errors := [0, 0]
  integrals := [0, 0]
  outs := [0, 0]
  derivative := 0
  reference := [c.refA, c.refB]
  pll := []
  items := []
  closed := c.closed
  saturated := false
  bad := false
  rest := false
  step := false
  load := 0

/-- Whether a lane is at rest in a computation (R291): its reference 0 and the errors within OPEN_BAND. -/
def State.atRest (s : State) (c : LaneInput) (errors : List Word) : Bool :=
  F32.same (c.slot 5) 0 && F32.same (c.slot 6) 0
    && errors.all (fun e => F32.le (F32.abs e) (s.reg (Item.LOOP.OPEN_BAND c.lane)))

/-- The output of a regulator at the last computation; its feed-forward where there was none (R368). -/
def State.lastOutput (s : State) (c : LaneInput) (k : Nat) (ff : Word) : Word := (s.lane c.lane).lastOut.getD k ff

/-! ## Output to the fabric -/

/-- A word of a group-write (Table 7-2). -/
def writeWordOf (kind pos : Nat) (value : Int) : Word :=
  nw (kind * 2 ^ 30 + pos * 2 ^ 27 + Nat.min value.toNat (2 ^ 27 - 1))

/-- The trim of a position from the lane's TRIM_LANE, 0 while that lane's outputs are invalid (R288, Table 13-5). -/
def State.trimOf (s : State) (n pos : Nat) : Word :=
  let m := s.regN (Item.LOOP.TRIM_LANE n)
  let y := s.laneOutput m pos
  if m < 32 ∧ y.2 ∧ !(s.unit (unitOf Kind.lane m)).out then y.1 else 0

/-- A duty that is not finite or lies outside 0 to 1 (R284). -/
def badDuty (d : Word) : Bool := !F32.finite d || F32.lt d 0 || F32.lt F32.one d

/-- The words of a group-write for the duties of positions 0 on (R286): compares, durations trimmed, or a period word with fixed
durations. -/
def State.dutyWords (s : State) (c : LaneInput) (duties : List Word) : List Word :=
  let n := c.lane
  match s.regN (Item.LOOP.OUT_MODE n) with
  | 2 =>
    let on := s.regN (Item.LOOP.ON_T n)
    let p := F32.toInt (F32.div (F32.ofInt on) (duties.headD 0))
    (writeWordOf 2 0 p :: (List.range duties.length).map (fun k => writeWordOf 0 k on)).take 8
  | 1 =>
    (List.range duties.length).map (fun k =>
      writeWordOf 0 k (F32.toInt (F32.add (F32.mul (duties.getD k 0) (F32.ofInt c.period)) (s.trimOf n k))))
  | _ =>
    (List.range duties.length).map (fun k =>
      writeWordOf 0 k (F32.toIntScaled (F32.add (duties.getD k 0) (s.trimOf n k)) c.period 1))

/-! ## Angles -/

/-- The electrical frequency of a lane's speed slot in Hz: rpm times the pole pairs of the port it reads, over 60.
DEDUCED: assumption log 33. -/
def State.electricalHz (s : State) (c : LaneInput) : Word :=
  let w := s.reg (Item.LOOP.SRC c.lane 4)
  let pp := if bitsOf w 31 28 = 2 then s.regN (Item.POS.POLE_PAIRS (bitsOf w 11 0 / 8 % 4)) else 1
  F32.div (F32.mul (c.slot 4) (F32.ofInt pp)) 0x42700000

/-- The angle at which a lane's voltage takes effect, in 1/65,536 turn: θ_latch + ω (t_start − t_latch + DELAY_COMP). -/
def State.rotorAngle (s : State) (c : LaneInput) : Nat :=
  let latch := (c.slots.map (·.stamp)).getD 3 c.start
  let dt := seconds (stampAge c.start latch + s.regN (Item.LOOP.DELAY_COMP c.lane))
  let turn := F32.mul (F32.mul (s.electricalHz c) dt) 0x47800000
  (F32.toInt (F32.add (c.slot 3) turn) % 65536).toNat

/-- Phase currents (or voltages) as d and q components at an angle, amplitude-invariant. PRESUMED: assumption log 34. -/
def toDq (a b c : Word) (ang : Nat) : Word × Word :=
  let al := F32.mul 0x3F2AAAAB (F32.sub a (F32.mul F32.half (F32.add b c)))
  let be := F32.div (F32.sub b c) F32.sqrt3
  let co := Config.cos16 ang
  let si := Config.sin16 ang
  (F32.add (F32.mul al co) (F32.mul be si), F32.sub (F32.mul be co) (F32.mul al si))

/-- d and q components as three phase values at an angle. -/
def fromDq (d q : Word) (ang : Nat) : List Word :=
  let co := Config.cos16 ang
  let si := Config.sin16 ang
  let al := F32.sub (F32.mul d co) (F32.mul q si)
  let be := F32.add (F32.mul d si) (F32.mul q co)
  let h := F32.mul 0xBF000000 al
  let r := F32.mul 0x3F5DB3D7 be
  [al, F32.add h r, F32.sub h r]

/-! ## Lane types -/

/-- The vector limit of R283, the d-axis first: d, q and their limited values. -/
def vectorLimit (limit : Word) : (Word → Word) × (Word → Word → Word) :=
  (fun d => F32.clamp (F32.neg limit) limit d,
   fun d q =>
    let r := F32.sqrt (F32.sub (F32.mul limit limit) (F32.mul d d))
    F32.clamp (F32.neg r) r q)

/-- The two current regulators of a FOC3 or GRID lane with their errors, feed-forwards and the vector limit. -/
def State.dqRegulators (s : State) (c : LaneInput) (id iq ffd ffq : Word) : Word × Word × Regulated × Regulated :=
  let n := c.lane
  let ed := F32.sub c.refA id
  let eq := F32.sub c.refB iq
  let limit := F32.div (F32.mul (s.reg (Item.LOOP.OUT_MAX n)) (c.slot 7)) F32.sqrt3
  let lim := vectorLimit limit
  let kaw := s.reg (Item.LOOP.KAW n)
  let a := c.regulate (s.reg (Item.LOOP.KP n)) (s.reg (Item.LOOP.KI n)) kaw ed 0 ffd (s.reg (Item.LOOP.INT_A n))
    (s.lastOutput c 0 ffd) lim.1
  let b := c.regulate (s.reg (Item.LOOP.KP_B n)) (s.reg (Item.LOOP.KI_B n)) kaw eq 0 ffq (s.reg (Item.LOOP.INT_B n))
    (s.lastOutput c 1 ffq) (lim.2 a.u)
  (ed, eq, a, b)

/-- FOC3 (Table 10-1, R283, Feed-forward): currents to compares of positions 0 to 2. -/
def State.computeFoc (s : State) (c : LaneInput) : LaneResult :=
  let n := c.lane
  let ang := s.rotorAngle c
  let w := F32.mul (F32.mul F32.two F32.pi) (s.electricalHz c)
  let i := toDq (c.slot 0) (c.slot 1) (c.slot 2) ang
  let ffd := F32.neg (F32.mul (F32.mul w (s.reg (Item.LOOP.LQ n))) i.2)
  let ffq := F32.mul w (F32.add (F32.mul (s.reg (Item.LOOP.LD n)) i.1) (s.reg (Item.LOOP.PSI n)))
  let (ed, eq, a, b) := s.dqRegulators c i.1 i.2 ffd ffq
  let v := fromDq a.u b.u ang
  let hi := v.foldl F32.max (v.headD 0)
  let lo := v.foldl F32.min (v.headD 0)
  let v0 := F32.mul 0xBF000000 (F32.add hi lo)
  let duties := v.map (fun x => F32.add F32.half (F32.div (F32.add x v0) (c.slot 7)))
  { LaneResult.empty c with
      words := s.dutyWords c duties
      errors := [ed, eq]
      integrals := [a.i, b.i]
      outs := [a.u, b.u]
      saturated := a.sat || b.sat
      bad := duties.any badDuty
      rest := s.atRest c [ed, eq] }

/-- The limited duty of a voltage regulator (R282, R360): d = (demand + u) / V_in held between OUT_MIN and OUT_MAX; the regulator
output that gives it. DEDUCED: assumption log 86. -/
def State.dutyLimit (s : State) (c : LaneInput) (demand u : Word) : Word :=
  let d := F32.div (F32.add demand u) (c.slot 7)
  let k := F32.clamp (s.reg (Item.LOOP.OUT_MIN c.lane)) (s.reg (Item.LOOP.OUT_MAX c.lane)) d
  if F32.same k d then u else F32.sub (F32.mul k (c.slot 7)) demand

/-- IREG: one current PI over the output voltage, one duty or duration for every position of the group. -/
def State.computeIreg (s : State) (c : LaneInput) : LaneResult :=
  let n := c.lane
  let e := F32.sub c.refA (c.slot 0)
  let a := c.regulate (s.reg (Item.LOOP.KP n)) (s.reg (Item.LOOP.KI n)) (s.reg (Item.LOOP.KAW n)) e 0 0 (s.reg (Item.LOOP.INT_A n))
    (s.lastOutput c 0 0) (s.dutyLimit c (c.slot 6))
  let d := F32.div (F32.add (c.slot 6) a.u) (c.slot 7)
  let count := (s.groupLegs c.sheaf (s.regN (Item.LOOP.GROUP n))).length
  { LaneResult.empty c with
      words := s.dutyWords c (List.replicate count d)
      errors := [e, 0]
      integrals := [a.i, 0]
      outs := [a.u]
      saturated := a.sat
      bad := badDuty d
      rest := s.atRest c [e] }

/-- Whether the charger session runs as V2L, with the lane roles of Table 12-5 (R333). -/
def State.v2l (s : State) : Bool := s.charge.roles

/-- The line amplitude that the phase-locked loop of a sheaf's GRID lane measures. -/
def State.lineAmplitude (s : State) (n : Nat) : Word :=
  match (s.lanesOf n).find? (fun m => decide (s.regN (Item.LOOP.TYPE m) = 4)) with
  | some m => (s.lane m).pll.getD 2 0
  | none => 0

/-- VREG (R282, Feed-forward): PID with filtered derivative. With a group d = (r + u) / V_in for every position; without one its
output is Y0. In a V2L session the lane of CHGF without a group holds the line amplitude (Table 12-5). DEDUCED: assumption log 35. -/
def State.computeVreg (s : State) (c : LaneInput) : LaneResult :=
  let n := c.lane
  let writes := s.laneWrites n
  let y := if !writes ∧ s.stype c.sheaf = SType.chgf ∧ s.v2l then s.lineAmplitude c.sheaf else c.slot 0
  let e := F32.sub c.refA y
  let tf := s.reg (Item.LOOP.TF n)
  let l := s.lane n
  let d := if c.closed ∧ F32.lt 0 tf then
      F32.div (F32.add (F32.mul (s.reg (Item.LOOP.KD n)) (F32.sub e (s.reg (Item.LOOP.ERR_A n)))) (F32.mul tf l.derivative))
        (F32.add tf c.ts)
    else 0
  let lim (u : Word) : Word :=
    if writes then s.dutyLimit c c.refA u else F32.clamp (s.reg (Item.LOOP.OUT_MIN n)) (s.reg (Item.LOOP.OUT_MAX n)) u
  let a := c.regulate (s.reg (Item.LOOP.KP n)) (s.reg (Item.LOOP.KI n)) (s.reg (Item.LOOP.KAW n)) e d 0 (s.reg (Item.LOOP.INT_A n))
    (s.lastOutput c 0 0) lim
  let duty := F32.div (F32.add c.refA a.u) (c.slot 7)
  let count := (s.groupLegs c.sheaf (s.regN (Item.LOOP.GROUP n))).length
  let th := s.reg (Item.LOOP.STEP_TH n)
  let beyond := F32.lt 0 th && F32.lt th (F32.abs e)
  let step := (beyond && decide (1 ≤ l.stepRun)) || s.forceArmed (unitOf Kind.sheaf c.sheaf) 1
  { LaneResult.empty c with
      words := if writes then s.dutyWords c (List.replicate count duty) else []
      y := [if writes then duty else a.u, 0, 0, 0, 0, 0, 0, if step then F32.one else 0]
      errors := [e, 0]
      integrals := [a.i, 0]
      outs := [a.u]
      derivative := if c.fresh then 0 else d
      saturated := a.sat
      bad := if writes then badDuty duty else !F32.finite a.u
      rest := s.atRest c [e]
      step := beyond
      load := c.slot 1 }

/-- The current references of the front end, their amplitude at most √2 × CHG.I_IN_LIM (R331), the first before the second. In V2L there is
no input current. -/
def State.inputClamp (s : State) (c : LaneInput) : LaneInput :=
  if s.stype c.sheaf = SType.chgf ∧ !s.charge.roles then
    let m := F32.mul (F32.sqrt F32.two) (F32.ofRat (s.regI Item.CHG.I_IN_LIM) 10)
    let a := F32.clamp (F32.neg m) m c.refA
    let r := F32.sqrt (F32.max 0 (F32.sub (F32.mul m m) (F32.mul a a)))
    { c with refA := a, refB := F32.clamp (F32.neg r) r c.refB }
  else c

/-- GRID: phase-locked loop, two current regulators, compares of positions 0 to 3. The spec states neither the loop's algorithm
nor how the voltage vector becomes four compares: those are free functions of their operands. DESIGN CHOICE: assumption log 37. -/
def State.computeGrid (s : State) (c : LaneInput) : LaneResult :=
  let n := c.lane
  let l := s.lane n
  let ops := l.pll ++ [c.slot 3, c.slot 4, c.ts, s.reg (Item.LOOP.PLL_BW n)]
  let hz := if s.regN Item.CHG.V2L_FREQ = 1 then 0x42700000 else 0x42480000
  let angle := if s.v2l then F32.add (l.pll.getD 0 0) (F32.mul hz c.ts) else Config.unstated 1 ops
  let freq := if s.v2l then hz else Config.unstated 2 ops
  let amp := Config.unstated 3 ops
  let ang := (F32.toIntScaled angle 65536 1 % 65536).toNat
  let i := toDq (c.slot 0) (c.slot 1) (c.slot 2) ang
  let (ed, eq, a, b) := s.dqRegulators (s.inputClamp c) i.1 i.2 0 0
  let duties := (List.range 4).map (fun k =>
    F32.clamp 0 F32.one (Config.unstated (4 + k) [a.u, b.u, c.slot 3, c.slot 4, c.slot 7, nw ang]))
  { LaneResult.empty c with
      words := s.dutyWords c duties
      errors := [ed, eq]
      integrals := [a.i, b.i]
      outs := [a.u, b.u]
      pll := [angle, freq, amp]
      saturated := a.sat || b.sat
      bad := duties.any badDuty
      rest := s.atRest c [ed, eq] }

/-- DAB (Table 10-1): compare P/2 on every position, the phase u × P on position 2 and half a period more on position 3.
PRESUMED: assumption log 36. -/
def State.computeDab (s : State) (c : LaneInput) : LaneResult :=
  let n := c.lane
  let e := F32.sub c.refA (c.slot 0)
  let ff := F32.div (F32.mul (s.reg (Item.LOOP.KFF_V n)) c.refA) (c.slot 7)
  let a := c.regulate (s.reg (Item.LOOP.KP n)) (s.reg (Item.LOOP.KI n)) (s.reg (Item.LOOP.KAW n)) e 0 ff (s.reg (Item.LOOP.INT_A n))
    (s.lastOutput c 0 ff) (fun u => F32.clamp (s.reg (Item.LOOP.OUT_MIN n)) (s.reg (Item.LOOP.OUT_MAX n)) u)
  let p : Nat := Nat.max 1 c.period
  let ph := F32.toIntScaled a.u p 1
  let half : Int := (p / 2 : Nat)
  { LaneResult.empty c with
      words := (List.range 4).map (fun k => writeWordOf 0 k half)
        ++ [writeWordOf 1 2 (ph % p), writeWordOf 1 3 ((ph + half) % p)]
      errors := [e, 0]
      integrals := [a.i, 0]
      outs := [a.u]
      saturated := a.sat
      bad := !F32.finite a.u
      rest := s.atRest c [e] }

/-- POSN (Feed-forward): position P with the generator's velocity, speed PI with its acceleration; Y0 is the current
reference. -/
def State.computePosn (s : State) (c : LaneInput) : LaneResult :=
  let n := c.lane
  let ea := F32.sub (c.slot 4) (c.slot 0)
  let v := F32.add (F32.mul (s.reg (Item.LOOP.KP n)) ea) (F32.mul (s.reg (Item.LOOP.KFF_V n)) (c.slot 5))
  let eb := F32.sub v (c.slot 1)
  let ff := F32.mul (s.reg (Item.LOOP.KFF_A n)) (c.slot 6)
  let b := c.regulate (s.reg (Item.LOOP.KP_B n)) (s.reg (Item.LOOP.KI_B n)) (s.reg (Item.LOOP.KAW n)) eb 0 ff
    (s.reg (Item.LOOP.INT_B n)) (s.lastOutput c 0 ff)
    (fun u => F32.clamp (s.reg (Item.LOOP.OUT_MIN n)) (s.reg (Item.LOOP.OUT_MAX n)) u)
  { LaneResult.empty c with
      y := [b.u, 0, 0, 0, 0, 0, 0, 0]
      errors := [ea, eb]
      integrals := [0, b.i]
      outs := [b.u]
      saturated := b.sat
      bad := !F32.finite b.u
      rest := F32.same (c.slot 5) 0 && F32.same (c.slot 6) 0
        && [ea, eb].all (fun e => F32.le (F32.abs e) (s.reg (Item.LOOP.OPEN_BAND n))) }

/-- BAL (R288): integrator trims toward the mean of the members whose slot has a source; the phase of S1 is given 0 (R375).
DEDUCED: assumption log 39. -/
def State.computeBal (s : State) (c : LaneInput) : LaneResult :=
  let n := c.lane
  let valid (k : Nat) : Bool := decide (bitsOf (s.reg (Item.LOOP.SRC n k)) 31 28 ≠ 0)
  let ks := (List.range 8).filter valid
  let mean := F32.div (F32.sum (ks.map c.slot)) (F32.ofInt ks.length)
  let lim := s.reg (Item.LOOP.BAL_LIM n)
  let held (k : Nat) : Bool := decide (s.stype c.sheaf = SType.auxb) && decide (s.shed.position = some k)
  let trim (k : Nat) : Word :=
    if !valid k ∨ !c.closed ∨ held k then 0
    else F32.clamp (F32.neg lim) lim (F32.add (s.reg (Item.LOOP.Y n k))
      (F32.mul (F32.mul (s.reg (Item.LOOP.BAL_K n)) c.ts) (F32.sub mean (c.slot k))))
  let ys := (List.range 8).map trim
  { LaneResult.empty c with y := ys, bad := ys.any (fun y => !F32.finite y), rest := s.atRest c [] }

/-! ## Sharing -/

/-- The members of a DIST lane, as (output number, lane): the lanes of MEMBERS in ascending order; in a TRC sheaf the lane of set k
under number k (R302). -/
def State.members (s : State) (n sheaf : Nat) : List (Nat × Nat) :=
  let ms := (List.range 32).filter (fun m => bitOf (s.reg (Item.LOOP.MEMBERS n)) m)
  if s.stype sheaf = SType.trc then
    (List.range 6).filterMap (fun k =>
      (ms.find? (fun m => decide (s.regN (Item.LOOP.TYPE m) = 1) && decide (s.regN (Item.LOOP.GROUP m) = k))).map (fun m => (k, m)))
  else ((List.range 8).zip ms)

/-- The share factor of a set that leaves by command (R318), linear to 0 over WINNOW_RAMP, or by a thermal stop, over STOP_RAMP
(Table 17-3). -/
def State.rampFactor (s : State) (k : Nat) : Word :=
  match s.trac.ramps.find? (fun r => decide (r.1 = k)) with
  | some (_, since, thermal) =>
    let len := s.regN (if thermal then Item.THM.STOP_RAMP else Item.TRC.WINNOW_RAMP) * 1000000
    if len ≤ s.time.now - since then 0
    else F32.ofRat ((len - (s.time.now - since) : Nat) : Int) len
  | none => F32.one

/-- Weight and limit of a member (R287, R303): in a TRC sheaf times DERATE_k and the ramp of a commanded winnow. -/
def State.memberWeight (s : State) (n sheaf k : Nat) : Word × Word :=
  let w := s.reg (Item.LOOP.SHARE n k)
  let l := s.reg (Item.LOOP.MEMBER_LIM n)
  if s.stype sheaf = SType.trc then
    let d := s.reg (Item.TRC.DERATE k)
    (F32.mul (F32.mul w d) (s.rampFactor k), F32.mul l d)
  else (w, l)

/-- The shares of a total (R287), by output number, for the active members. -/
def State.shareOut (s : State) (n sheaf : Nat) (active : List Nat) (total : Word) : List (Nat × Word) :=
  let wl (k : Nat) : Word × Word := s.memberWeight n sheaf k
  let sumW := F32.sum (active.map (fun k => (wl k).1))
  let first := active.map (fun k => (k, if F32.same sumW 0 then 0 else F32.div (F32.mul total (wl k).1) sumW))
  let beyond (p : Nat × Word) : Bool := F32.lt (wl p.1).2 (F32.abs p.2)
  let x := F32.sum ((first.filter beyond).map (fun p => F32.sub p.2 (F32.mul (F32.sgn p.2) (wl p.1).2)))
  let wf := F32.sum ((first.filter (fun p => !beyond p)).map (fun p => (wl p.1).1))
  first.map (fun p =>
    let l := (wl p.1).2
    if beyond p then (p.1, F32.mul (F32.sgn p.2) l)
    else (p.1, F32.clamp (F32.neg l) l (if F32.same wf 0 then p.2 else F32.add p.2 (F32.div (F32.mul x (wl p.1).1) wf))))

/-- The output of a number in a list of shares, 0 for an inactive member. -/
def shareOf (l : List (Nat × Word)) (k : Nat) : Word :=
  match l.find? (fun p => decide (p.1 = k)) with
  | some p => p.2
  | none => 0

/-! ## Traction -/

/-- Sets held at ASC in a running sheaf (R304, R311). -/
def State.ascSets (s : State) : Nat :=
  ((List.range s.setCount).filter (fun k => s.setWinnowed k && (s.setLegs k).any (fun l => (s.leg l).asc))).length

/-- The limits of R304: positive and negative torque, the capacity, the bits of LIMIT_CAUSE that the smaller of each direction
sets. -/
structure TorqueLimits where
  pos : Word
  neg : Word
  cap : Word
  posBit : Nat
  negBit : Nat
  deriving DecidableEq, Repr

/-- The smallest of a list of limits with its bit. -/
def bindingLimit (l : List (Word × Nat)) : Word × Nat :=
  match l with
  | [] => (0, 0)
  | x :: t => t.foldl (fun a b => if F32.lt b.1 a.1 then b else a) x

/-- The torque limits at a speed and link voltage (R304, R305). -/
def State.torqueLimits (s : State) (n : Nat) (active : List Nat) (rpm vdc : Word) : TorqueLimits :=
  let int (a : Nat) : Word := F32.ofInt (s.regN a)
  let w := F32.div (F32.mul (F32.mul (F32.max (F32.abs rpm) (int Item.TRC.W_MIN_RPM)) F32.two) F32.pi) 0x42700000
  let eff := s.reg Item.TRC.EFF
  let cap := F32.sum (active.map (fun k => F32.mul (s.reg (Item.LOOP.MEMBER_LIM n)) (s.reg (Item.TRC.DERATE k))))
  let pm := int (if s.trac.fallback then Item.TRC.P_MOT_FB else Item.TRC.P_MOT_LIM)
  let pg := int (if s.trac.fallback then Item.TRC.P_GEN_FB else Item.TRC.P_GEN_LIM)
  let tm := bindingLimit [(s.reg Item.TRC.T_MAX_MOT, 2), (cap, 4), (F32.div (F32.mul pm eff) w, 8),
    (F32.div (F32.mul (F32.mul (int Item.TRC.I_DC_MOT_LIM) vdc) eff) w, 16)]
  let tg := bindingLimit [(s.reg Item.TRC.T_MAX_GEN, 2), (cap, 4), (F32.div pg (F32.mul eff w), 8),
    (F32.div (F32.mul (int Item.TRC.I_DC_GEN_LIM) vdc) (F32.mul eff w), 16)]
  let fwd := F32.le 0 rpm
  let p := if fwd then tm else tg
  let q := if fwd then tg else tm
  let band := int Item.TRC.SPD_LIM_BAND
  let fp := F32.clamp 0 F32.one (F32.div (F32.sub (int Item.TRC.SPD_MAX_FWD) rpm) band)
  let fn := F32.clamp 0 F32.one (F32.div (F32.add rpm (int Item.TRC.SPD_MAX_REV)) band)
  { pos := F32.mul p.1 fp, neg := F32.mul q.1 fn, cap := cap,
    posBit := if F32.lt fp F32.one then 32 else p.2, negBit := if F32.lt fn F32.one then 32 else q.2 }

/-- The speed cap of a traction mode (Table 11-2), in rpm. -/
def State.modeCap (s : State) : Option Nat :=
  match s.regN Item.TRC.MODE with
  | 2 => some (s.regN Item.TRC.CREEP_VMAX)
  | 3 => some (s.regN Item.TRC.BENCH_VMAX)
  | _ => none

/-- Whether the torque reference ramps to 0 (R309, R323). -/
def State.torqueRamps (s : State) (n : Nat) : Bool := s.trac.lost || (s.sheaf n).stop.isSome

/-- A value moved toward 0 by a slope over an interval. -/
def towardZero (x slope ts : Word) : Word :=
  let d := F32.mul slope ts
  if F32.le (F32.abs x) d then 0 else F32.sub x (F32.mul (F32.sgn x) d)

/-- Lane 6 of a TRC sheaf (R302 to R309, R316): the torque request, its limits, the drag, the shares, the d-axis current.
DEDUCED: assumption log 40. -/
def State.computeTraction (s : State) (c : LaneInput) : LaneResult :=
  let n := c.lane
  let rpm := c.slot 0
  let vdc := c.slot 7
  let ms := s.members n c.sheaf
  let active := (ms.filter (fun p => s.laneClosed p.2)).map (·.1)
  let lim := s.torqueLimits n active rpm vdc
  let torque := decide (s.regN (Item.LOOP.OUT_MODE n) = 0)
  let want := F32.add (if s.regN Item.TRC.MODE = 2 then 0 else c.refA) (c.slot 4)
  let ref : Word :=
    match s.modeCap with
    | some v => F32.clamp (F32.neg (F32.ofInt v)) (F32.ofInt v) want
    | none => want
  let e := if torque then 0 else F32.sub ref rpm
  let ff := F32.mul (s.reg (Item.LOOP.KFF_A n)) (c.slot 6)
  let a := c.regulate (s.reg (Item.LOOP.KP n)) (s.reg (Item.LOOP.KI n)) (s.reg (Item.LOOP.KAW n)) e 0 ff (s.reg (Item.LOOP.INT_A n))
    (s.lastOutput c 0 ff) (fun u => F32.clamp (F32.neg lim.neg) lim.pos u)
  let prev := (s.lane n).reference.getD 2 0
  let asked := if torque then c.refA else a.u
  let req := if s.torqueRamps c.sheaf then towardZero prev (s.reg Item.TRC.STOP_SLEW) c.ts else asked
  let t1 := F32.clamp (F32.neg lim.neg) lim.pos req
  let drag := interpolate (fun k => F32.ofInt (s.regN (Item.TRC.DRAG_SPD k))) (fun k => s.reg (Item.TRC.DRAG_T k)) (F32.abs rpm)
  let extra := F32.mul (F32.mul (F32.sgn rpm) (F32.ofInt s.ascSets)) drag
  let t2 := F32.clamp (F32.neg lim.cap) lim.cap (F32.add t1 extra)
  let shares := s.shareOut n c.sheaf active t2
  let shared := F32.sum (shares.map (·.2))
  let neff := F32.div (F32.mul (F32.abs rpm) (F32.ofInt (s.regN Item.TRC.FW_VREF))) vdc
  let id := interpolate (fun k => F32.ofInt (s.regN (Item.TRC.FW_SPD k))) (fun k => s.reg (Item.TRC.FW_ID k)) neff
  let bit (x : Bool) (v : Nat) : Nat := if x then v else 0
  let hiBind := F32.lt lim.pos req || (!torque && a.sat && F32.le lim.pos a.u)
  let loBind := F32.lt req (F32.neg lim.neg) || (!torque && a.sat && F32.le a.u (F32.neg lim.neg))
  let cause := bit hiBind lim.posBit ||| bit loBind lim.negBit ||| bit (!F32.same ref want && !torque) 32
    ||| bit (active.any (fun k => F32.lt (s.reg (Item.TRC.DERATE k)) F32.one)) 1 ||| bit s.trac.fallback 64 ||| bit s.trac.lost 128
  { LaneResult.empty c with
      y := (List.range 6).map (fun k => shareOf shares k) ++ [id, shared]
      errors := [e, 0]
      integrals := [if torque then 0 else a.i, 0]
      outs := [a.u]
      reference := [if torque && s.torqueRamps c.sheaf then req else c.refA, c.refB, req]
      items := [(Item.TRC.T_LIM_POS, lim.pos), (Item.TRC.T_LIM_NEG, lim.neg), (Item.TRC.LIMIT_CAUSE, nw cause)]
      saturated := hiBind || loBind || F32.lt 0 (F32.sub t2 shared)
      bad := !F32.finite t2 || !F32.finite id
      rest := s.atRest c (if torque then [] else [e]) }

/-- The voltage ceiling of a charge step (R338), 0.1 V; under the watchdog fallback CHG.V_CEIL alone (R340). -/
def State.chargeCeiling (s : State) : Nat :=
  if s.charge.fallback then s.regN Item.CHG.V_CEIL else
  let j := 4 * s.regN Item.CHG.ZONE + s.regN Item.CHG.STEP
  Nat.min (Nat.min (s.regN (Item.CHG.STEP_V (j % 16))) (s.regN Item.CHG.BAT_V_MAX))
    (Nat.min (s.regN Item.CHG.SET_V_BAT) (s.regN Item.CHG.V_CEIL))

/-- The voltage of a DC-link sense channel in 0.1 V, as its fast input gives it. -/
def State.dcLink (s : State) (k : Nat) : Int := s.regI (Item.ADCF.VAL k 6)

/-- The part of the power flow that step 1 of a hand-over leaves (Table 12-9): it falls to 0 over RAMP_DOWN_T, and is 0 afterwards. -/
def State.rampDown (s : State) : Word :=
  match s.charge.hand with
  | some h =>
    let len := s.regN Item.CHG.RAMP_DOWN_T * 1000000
    if h.step = 1 ∧ s.time.now < h.since + len then F32.ofRat ((h.since + len - s.time.now : Nat) : Int) len else 0
  | none => F32.one

/-- Any other DIST lane (R287, Table 12-5): a torque or speed reference shared among its members; in a CHGD sheaf the reference of
the session's mode, with regulator A on the voltage that mode holds. DEDUCED: assumption log 41. -/
def State.computeDist (s : State) (c : LaneInput) : LaneResult :=
  let n := c.lane
  let charger := decide (s.stype c.sheaf = SType.chgd)
  let speed := decide (s.regN (Item.LOOP.OUT_MODE n) = 1)
  let mode := s.charge.mode
  let e : Word :=
    if charger then
      match mode with
      | 0 => F32.ofRat ((s.charge.ceiling : Int) - s.dcLink 2) 10
      | 1 => F32.ofRat (s.dcLink 2 - s.dcLink 0) 10
      | 3 => F32.ofRat ((s.regN Item.CHG.V_DC1 : Int) * 10 - s.dcLink 1) 10
      | _ => 0
    else if speed then F32.sub (F32.add c.refA (c.slot 4)) (c.slot 0)
    else 0
  let ff := if charger then 0 else F32.mul (s.reg (Item.LOOP.KFF_A n)) (c.slot 6)
  let a := c.regulate (s.reg (Item.LOOP.KP n)) (s.reg (Item.LOOP.KI n)) (s.reg (Item.LOOP.KAW n)) e 0 ff (s.reg (Item.LOOP.INT_A n))
    (s.lastOutput c 0 ff) (fun u => F32.clamp (s.reg (Item.LOOP.OUT_MIN n)) (s.reg (Item.LOOP.OUT_MAX n)) u)
  let bound := s.reg Item.CHG.I_TGT
  let total : Word :=
    if charger then
      F32.mul s.rampDown (match mode with
        | 0 => F32.min c.refA a.u
        | 1 => a.u
        | 2 => c.refA
        | _ => if s.charge.running then F32.clamp (F32.neg bound) bound a.u else a.u)
    else if speed then a.u
    else c.refA
  let active := ((s.members n c.sheaf).filter (fun p => s.laneClosed p.2)).map (·.1)
  let shares := s.shareOut n c.sheaf active total
  let usesA := charger || speed
  { LaneResult.empty c with
      y := (List.range 8).map (fun k => shareOf shares k)
      errors := [e, 0]
      integrals := [if usesA then a.i else 0, 0]
      outs := [a.u]
      saturated := (usesA && a.sat) || F32.lt 0 (F32.sub total (F32.sum (shares.map (·.2))))
      bad := !F32.finite total
      rest := s.atRest c (if usesA then [e] else []) }

/-- Whether a result holds a value that is not finite (R284). -/
def LaneResult.infinite (r : LaneResult) : Bool :=
  (r.derivative :: (r.y ++ r.errors ++ r.integrals ++ r.outs)).any (fun x => !F32.finite x)

/-- The computation of a lane by its type (Table 10-1). -/
def State.computeByType (s : State) (c : LaneInput) : LaneResult :=
  match s.regN (Item.LOOP.TYPE c.lane) with
  | 1 => s.computeFoc c
  | 2 => s.computeIreg c
  | 3 => s.computeVreg c
  | 4 => s.computeGrid c
  | 5 => s.computeDab c
  | 6 => s.computePosn c
  | 7 => if s.stype c.sheaf = SType.trc then s.computeTraction c else s.computeDist c
  | 8 => s.computeBal c
  | _ => LaneResult.empty c

/-- The computation of a lane, which a value that is not finite makes bad (R284). -/
def State.computeLane (s : State) (c : LaneInput) : LaneResult :=
  let r := s.computeByType c
  { r with bad := r.bad || LaneResult.infinite r }

end Sys2Proof.Machine
end

