-- ==== Sys2Proof/Machine/Lanes.lean ====
section
/-! DEFINITION. The course of the loop lanes and profile generators: sample sets, computations, shedding decisions, generator
steps, and a sheaf's entry to RUN (chapters Control Engine, Auxiliary Converter, Traction Inverter). -/

namespace Sys2Proof.Machine

/-- The fault unit of a lane. -/
abbrev laneUnit (n : Nat) : Nat := unitOf Kind.lane n

/-- The sheaf of a lane. -/
def State.laneSheaf (s : State) (n : Nat) : Nat := s.bind.loopSheaf.getD n 15

/-- Whether a lane forms sample sets and computes (R275, R290, R296): bound, its sheaf in RUN, in service. -/
def State.laneRuns (s : State) (n : Nat) : Bool :=
  s.laneBound n && decide ((s.sheaf (s.laneSheaf n)).state = .run) && !(s.unit (laneUnit n)).out

/-- The duration of a computation in ns (Table 10-1, 4 ns a cycle). -/
def laneTime (ty : Nat) : Nat :=
  match ty with
  | 1 => 224 | 2 => 96 | 3 => 160 | 4 => 256 | 5 => 128 | 6 => 112 | 7 => 144 | 8 => 96
  | _ => 0

/-! ## Sample sets and starts -/

/-- The set being formed is given up; the next Ts is TS_NOM (R281). -/
def State.dropSet (s : State) (n : Nat) : State :=
  let l := s.lane n
  s.setLane n { l with opened := none, joined := [], missed := 0, last := none }

/-- A set with a missed slot (R278): no computation, counted, and MISS_MAX in a row are class F. -/
def State.skipSet (s : State) (n : Nat) : State :=
  let s1 := (s.dropSet n).bump (Item.LOOP.MISS_CNT n)
  let l := s1.lane n
  let f := s.forced (laneUnit n) 0
  if s.regN (Item.LOOP.MISS_MAX n) ≤ l.missRun + 1 then
    (s1.setLane n { l with missRun := 0 }).detect (laneUnit n) .F 1 f
  else s1.setLane n { l with missRun := l.missRun + 1 }

/-- A discarded set (R280): counted, class W. -/
def State.discardSet (s : State) (n : Nat) (forced : Bool) : State :=
  let s1 := s.bump (Item.LOOP.OVR_CNT n)
  (s1.setLane n { s1.lane n with last := none }).detect (laneUnit n) .W 16 forced

/-- A reference slewed by REF_SLEW over an interval; 0 is unlimited. DEDUCED: assumption log 38. -/
def State.slewed (s : State) (n : Nat) (target present ts : Word) : Word :=
  let r := s.reg (Item.LOOP.REF_SLEW n)
  if F32.lt 0 r then
    let d := F32.mul r ts
    F32.clamp (F32.sub present d) (F32.add present d) target
  else target

/-- The interval Ts of a computation (R281), in ns. -/
def State.laneTs (s : State) (n stamp : Nat) : Nat :=
  let nom := s.regN (Item.LOOP.TS_NOM n)
  match (s.lane n).last with
  | some t => Nat.min (stampAge stamp t) (2 * nom)
  | none => nom

/-- What a lane computes from at its start (R279). -/
def State.laneInput (s : State) (n stamp : Nat) (v : List SlotValue) : LaneInput :=
  let l := s.lane n
  let closed := s.laneClosed n
  let fresh := closed && !l.wasClosed
  let ts := seconds (if fresh then s.regN (Item.LOOP.TS_NOM n) else s.laneTs n stamp)
  let val (j : Nat) : Word := (v.map (·.value)).getD j 0
  { lane := n, sheaf := s.laneSheaf n, slots := v, closed := closed, fresh := fresh, ts := ts,
    period := s.regN (Item.PWM.PERIOD_NOW (s.laneSheaf n)), stamp := stamp, start := stamp48 s.time.now,
    refA := s.slewed n (val 5) (l.reference.getD 0 0) ts, refB := s.slewed n (val 6) (l.reference.getD 1 0) ts }

/-- An open lane under OPEN_ACTION HOLD repeats its last closed output (R290). -/
def State.heldResult (s : State) (n : Nat) (r : LaneResult) : LaneResult :=
  match (s.lane n).closedLast with
  | some h => if !r.closed ∧ s.regN (Item.LOOP.OPEN_ACTION n) = 1 then { r with words := h.words, y := h.y, outs := h.outs } else r
  | none => r

/-- A lane starts on a completed set (R277 to R281): its parameter boundary passes, its slots are read, and it computes, unless a
slot is missed. DEDUCED: assumption log 44. -/
def State.startLane (s : State) (n stamp : Nat) (joined : List Sample) : State :=
  let s0 := s.boundary (.lane n) s.tick
  let v := (List.range 8).map (s0.readSlot n joined)
  if s0.slotsMiss n v then s0.skipSet n
  else
    let c := s0.laneInput n stamp v
    let u := laneUnit n
    let r0 := s0.heldResult n (s0.computeLane c)
    let r := { r0 with bad := r0.bad || s0.forceArmed u 1, saturated := r0.saturated || s0.forceArmed u 2 }
    let l := s0.lane n
    ((s0.setLane n { l with busy := some r, stamp := stamp, began := s0.time.now, opened := none, joined := [], missed := 0,
                            missRun := 0, last := some stamp, wasClosed := c.closed }).useForce u 2)

/-- Whether a set is complete (R277): every WAIT slot has joined or is known missed. -/
def State.setComplete (s : State) (n : Nat) : Bool :=
  let l := s.lane n
  l.opened.isSome && (s.waitSlots n).all (fun j => l.joined.any (fun x => decide (x.slot = j)) || l.missed.testBit j)

/-- A set ends its forming: with a missed slot it is skipped; while the lane computes it waits in place of an older one, which is
discarded (R280); else the lane starts. -/
def State.endSet (s : State) (n : Nat) : State :=
  let l := s.lane n
  let u := laneUnit n
  let stamp := l.opened.getD (stamp48 s.time.now)
  if s.forceArmed u 3 then ((s.dropSet n).useForce u 3).discardSet n true
  else if l.missed ≠ 0 ∨ s.forceArmed u 0 then (s.useForce u 0).skipSet n
  else if l.busy.isSome then
    let s1 := s.setLane n { l with opened := none, joined := [], missed := 0, waiting := some (stamp, l.joined) }
    if l.waiting.isSome then s1.discardSet n false else s1
  else s.startLane n stamp l.joined

/-- LANE_SET_COMPLETE (R277 to R280): the last WAIT slot of a lane's set has joined. -/
def execLaneSetComplete (lane : Fin 32) (s : State) : Host.Outcome State Fault Refusal :=
  .next (s.act (fun t => if t.laneRuns lane ∧ t.setComplete lane then t.endSet lane else t))

/-- LANE_SET_TIMEOUT (R277, R278): WAIT_TMO after the set opened, what has not joined is missed. -/
def execLaneSetTimeout (lane : Fin 32) (s : State) : Host.Outcome State Fault Refusal :=
  .next (s.act (fun t =>
    match (t.lane lane).opened with
    | none => t
    | some o =>
      if !t.laneRuns lane ∨ t.setComplete lane then t
      else
        let t1 := t.reach (t.stampTime o + t.regN (Item.LOOP.WAIT_TMO lane))
        let l := t1.lane lane
        let m := (t1.waitSlots lane).foldl (fun a j => if l.joined.any (fun x => decide (x.slot = j)) then a else a ||| 2 ^ j) l.missed
        (t1.setLane lane { l with missed := m }).endSet lane))

/-- LANE_TIMER (R278): a lane without WAIT slots starts every TS_NOM; its stamp is the start. -/
def execLaneTimer (lane : Fin 32) (s : State) : Host.Outcome State Fault Refusal :=
  .next (s.act (fun t =>
    if !t.laneRuns lane ∨ t.waitSlots lane ≠ [] then t
    else
      let t1 := t.reach ((t.lane lane).began + t.regN (Item.LOOP.TS_NOM lane))
      if (t1.lane lane).busy.isSome then t1 else t1.startLane lane (stamp48 t1.time.now) []))

/-! ## Shedding -/

/-- The phases of AUXB that switch. -/
def State.phasesOn (s : State) (n : Nat) : List Nat := (List.range (s.bind.countOf n)).filter (fun p => s.legPlaced n (s.bind.firstOf n + p))

/-- The shedding sequencer's decision at the end of a computation of the AUXB voltage lane (R374 to R377): `load` is the output
current, `y7` the load-step output. DEDUCED: assumption log 31. -/
def State.shedDecide (s : State) (n lane : Nat) (load : Word) (y7 : Bool) : State :=
  let x := s.shed
  let on := s.phasesOn n
  let k := on.length
  let per := F32.ofRat (s.regI Item.AUX.SHED_I_PH) 10
  let active := decide (s.regN Item.AUX.SHED_EN = 1) && F32.lt 0 (s.reg (Item.LOOP.STEP_TH lane))
  let hold := s.time.now + s.regN Item.AUX.SHED_HOLD * 1000
  if !active then
    { s with shed := { x with word := if x.mask ≠ 0 ∨ x.position.isSome then .addAll else .none, since := none } }
  else if y7 then
    let s1 := if x.position.isSome then s.bump Item.AUX.SHED_ABORT_CNT else s
    { s1 with shed := { x with
        word := if x.mask ≠ 0 then .addAll else if x.position.isSome then .restore else .none
        since := none
        hold := if x.mask ≠ 0 ∨ x.position.isSome then hold else x.hold } }
  else if x.position.isSome then (if x.stage = 2 then { s with shed := { x with word := .complete } } else s)
  else if F32.lt (F32.mul (F32.ofInt k) per) load ∧ x.mask ≠ 0 then { s with shed := { x with word := .addOne, since := none } }
  else
    let low := F32.mul (F32.mul (F32.ofInt (k - 1 : Nat)) per) (F32.ofRat (100 - s.regI Item.AUX.SHED_HYST) 100)
    if F32.lt load low then
      let since := x.since.getD s.time.now
      let due := decide (since + s.regN Item.AUX.SHED_DWELL * 1000 ≤ s.time.now) && decide (s.regN Item.AUX.SHED_MIN < k)
        && decide (x.hold ≤ s.time.now)
      if due then { s with shed := { x with position := on.getLast?, stage := 0, word := .begin, since := none } }
      else { s with shed := { x with since := some since } }
    else { s with shed := { x with since := none } }

/-! ## Ends of computations -/

/-- The counters of a finished computation (R282, R291): computations, saturation with its class-W fault, computations at rest,
computations above STEP_TH. -/
def State.countComputation (s : State) (n : Nat) (r : LaneResult) : State :=
  let s1 := s.bump (Item.LOOP.CALC_CNT n)
  let l := s1.lane n
  let sat := if r.saturated then l.satRun + 1 else 0
  let warn := r.saturated && decide (s.regN (Item.LOOP.SAT_WARN n) ≤ sat)
  let s2 := s1.setLane n { l with satRun := if warn then 0 else sat, restRun := if r.rest then Nat.min 8 (l.restRun + 1) else 0,
                                  stepRun := if r.step then l.stepRun + 1 else 0 }
  let s3 := if r.saturated then s2.bump (Item.LOOP.SAT_CNT n) else s2
  if warn then s3.detect (laneUnit n) .W 17 (s.forced (laneUnit n) 2) else s3

/-- Publishing a result (R279): outputs, errors and integrators, the lane's own state, the group-write on its way. -/
def State.publishLane (s : State) (n : Nat) (r : LaneResult) : State :=
  let s1 := s.setRegs ((List.range 8).map (fun k => (Item.LOOP.Y n k, r.y.getD k 0))
    ++ [(Item.LOOP.ERR_A n, r.errors.getD 0 0), (Item.LOOP.ERR_B n, r.errors.getD 1 0),
        (Item.LOOP.INT_A n, r.integrals.getD 0 0), (Item.LOOP.INT_B n, r.integrals.getD 1 0)] ++ r.items)
  let l := s1.lane n
  let s2 := s1.setLane n { l with published := some (s.time.now / 4), before := (List.range 8).map (fun k => s.reg (Item.LOOP.Y n k)),
                                  beforeValid := l.valid, valid := true, derivative := r.derivative, reference := r.reference, pll := r.pll,
                                  lastOut := r.outs, closedLast := if r.closed then some r else l.closedLast }
  let s3 := if s2.laneWrites n ∧ r.words ≠ [] then
      { s2 with writes := s2.writes ++ [{ sheaf := s2.laneSheaf n, group := s2.regN (Item.LOOP.GROUP n), words := r.words,
                                          lane := n, stamp := l.stamp }] }
    else s2
  s3.countComputation n r

/-- Whether an actuator reads stalled (R397): slow at its port, with most of the current commanded at its POSN lane `n`. -/
def State.stalled (s : State) (k n : Nat) : Bool :=
  F32.lt (F32.ofRat (s.regI (Item.POS.SPEED (s.actPort k))).natAbs 60000) (s.reg (Item.ACT.STALL_V k))
    && F32.le (F32.mul (s.reg (Item.ACT.STALL_FRAC k)) (s.reg (Item.LOOP.OUT_MAX n))) (F32.abs (s.reg (Item.LOOP.Y n 0)))

/-- Since when a condition has held without a break, given whether it holds now. -/
def heldSince (past : Option Nat) (holds : Bool) (now : Nat) : Option Nat := if holds then some (past.getD now) else none

/-- The durations of R392, R395 and R397 as the actuator's POSN lane `n` publishes: since when ERR_A has stayed within POS_BAND, since when
it has exceeded HOME_ERR, and since when the actuator has read stalled. DEDUCED: assumption log 60. -/
def State.trackActuator (s : State) (k n : Nat) : State :=
  let a := s.actuator k
  let e := F32.abs (s.reg (Item.LOOP.ERR_A n))
  s.setActuator k { a with
    bandSince := heldSince a.bandSince (F32.le e (s.reg (Item.ACT.POS_BAND k))) s.time.now
    errSince := heldSince a.errSince (F32.lt (s.reg (Item.ACT.HOME_ERR k)) e) s.time.now
    stallSince := heldSince a.stallSince (s.stalled k n) s.time.now }

/-- What a finished lane does besides: the shedding decision of the AUXB voltage lane, the count of changes among the active
members of a traction DIST lane, the durations that a POSN lane's actuator watches. -/
def State.afterLane (s : State) (n : Nat) (r : LaneResult) : State :=
  let h := s.laneSheaf n
  if s.stype h = SType.auxb ∧ s.regN (Item.LOOP.TYPE n) = 3 then
    (s.shedDecide h n r.load (!F32.same (r.y.getD 7 0) 0)).useForce (unitOf Kind.sheaf h) 1
  else if s.stype h = SType.trc ∧ s.regN (Item.LOOP.TYPE n) = 7 then
    let mask := ((s.members n h).filter (fun p => s.laneClosed p.2)).foldl (fun a p => a + 2 ^ p.1) 0
    let s1 := { s with trac := { s.trac with members := some mask } }
    match s.trac.members with
    | some m => if m = mask then s1 else s1.bump Item.TRC.REBAL_CNT
    | none => s1
  else if s.stype h = SType.act ∧ s.regN (Item.LOOP.TYPE n) = 6 then s.trackActuator (s.actOf h) n
  else s

/-- LANE_COMPUTE_END (R279, R284, R296): the result leaves on the cycle on which the computation ends; one that is not finite or
out of range is not sent. A waiting set starts at once (R280). -/
def execLaneComputeEnd (lane : Fin 32) (s : State) : Host.Outcome State Fault Refusal :=
  .next (s.act (fun t =>
    let n := lane.val
    let l := t.lane n
    match l.busy with
    | none => t
    | some r =>
      let t0 := (t.reach (l.began + laneTime (t.regN (Item.LOOP.TYPE n)))).setLane n { l with busy := none }
      if !t0.laneRuns n then t0.setLane n { t0.lane n with waiting := none }
      else if r.bad then
        let f := t0.forceArmed (laneUnit n) 1
        let t1 := t0.setLane n { t0.lane n with valid := false, waiting := none }
        (t1.useForce (laneUnit n) 1).detect (laneUnit n) .F 2 f
      else
        let t1 := (t0.publishLane n r).afterLane n r
        match (t1.lane n).waiting with
        | some (stamp, joined) => (t1.setLane n { t1.lane n with waiting := none }).startLane n stamp joined
        | none => t1))

/-! ## Profile generators -/

/-- The start of a generator (R295): x from INIT_SRC, a = 0, v = 0 in position mode or the measured speed in speed mode. -/
def State.initGenerator (s : State) (g : Nat) : State :=
  let w := s.reg (Item.PROF.INIT_SRC g)
  let p := bitsOf w 11 0 / 8 % 4
  let x : Word :=
    match s.latch p (bitsOf w 11 0 % 8) with
    | some r => r.field (bitsOf w 15 12)
    | none => F32.ofRat (s.portX p) (2 ^ 24)
  let v := if s.regN (Item.PROF.MODE g) = 2 then F32.ofRat (s.regI (Item.POS.SPEED p)) 1000 else 0
  s.setRegs [(Item.PROF.X g, x), (Item.PROF.V g, v), (Item.PROF.A g, 0)]

/-- A generator's x, v, a, whether its target speed was limited, whether it is done. -/
structure GenStep where
  x : Word
  v : Word
  a : Word
  limited : Bool
  done : Bool
  deriving DecidableEq, Repr

/-- The limit of VMAX: in a TRC sheaf the mode's cap bounds it (R308). -/
def State.genVmax (s : State) (g : Nat) : Word :=
  let v := s.reg (Item.PROF.VMAX g)
  if s.bind.sheafOfType SType.trc = some (s.bind.profSheaf.getD g 15) then
    match s.modeCap with
    | some c => F32.min v (F32.ofInt c)
    | none => v
  else v

/-- One step of a generator (R293, R294). -/
def State.genStep (s : State) (g : Nat) : GenStep :=
  let ts := F32.ofRat (s.regN (Item.PROF.TS g)) 1000000
  let x := s.reg (Item.PROF.X g)
  let v := s.reg (Item.PROF.V g)
  let a := s.reg (Item.PROF.A g)
  let tgt := s.reg (Item.PROF.TARGET g)
  let amaxI := s.reg (Item.PROF.AMAX g)
  let dmax := s.reg (Item.PROF.DMAX g)
  let jmax := s.reg (Item.PROF.JMAX g)
  let vmax := s.genVmax g
  let position := decide (s.regN (Item.PROF.MODE g) = 1)
  let dx := F32.sub tgt x
  let free := F32.sqrt (F32.mul (F32.mul F32.two dmax) (F32.abs dx))
  let vset := s.reg (Item.PROF.V_SET g)
  let vt0 := if position then F32.mul (F32.sgn dx) (F32.min vmax free) else F32.clamp (F32.neg vmax) vmax vset
  let limited := if position then F32.lt vmax free else F32.lt vmax (F32.abs vset)
  let vt := if s.regN (Item.PROF.CMD g) = 1 then 0 else vt0
  let dv := F32.sub vt v
  let amax := if F32.lt (F32.abs v) (F32.abs vt) ∧ F32.le 0 (F32.mul vt v) then amaxI else dmax
  let want := F32.mul (F32.sgn dv) (F32.min amax (F32.sqrt (F32.mul (F32.mul F32.two jmax) (F32.abs dv))))
  let j := F32.mul jmax ts
  let a1 := F32.add a (F32.clamp (F32.neg j) j (F32.sub want a))
  let v1 := F32.add v (F32.mul a1 ts)
  let xn := F32.add x (F32.mul v1 ts)
  let passed := position && !F32.same (F32.sgn (F32.sub tgt xn)) (F32.sgn dx)
  let x2 := if passed then tgt else xn
  let v2 := if passed then 0 else v1
  let a2 := if passed then 0 else a1
  let done := position && F32.le (F32.abs (F32.sub tgt x2)) (s.reg (Item.PROF.POS_TOL g))
    && F32.le (F32.abs v2) (s.reg (Item.PROF.VEL_TOL g))
  if done then { x := tgt, v := 0, a := 0, limited := limited, done := true }
  else { x := x2, v := v2, a := a2, limited := limited, done := false }

/-- PROF.STATUS: stopping, limited, moving, DONE. DONE stays until a write clears it (R294). -/
def State.genStatus (s : State) (g : Nat) (r : GenStep) : Word :=
  let was := bitOf (s.reg (Item.PROF.STATUS g)) 0
  let moving := !F32.same r.v 0
  nw ((if moving && decide (s.regN (Item.PROF.CMD g) = 1) then 8 else 0) + (if r.limited then 4 else 0) + (if moving then 2 else 0)
    + (if r.done || was then 1 else 0))

/-- PROFILE_STEP (R293 to R295): every TS a generator whose sheaf runs takes what waits for it, and steps unless it is idle; on a MODE
change from idle it starts from the measured position. -/
def execProfileStep (generator : Fin 4) (s : State) : Host.Outcome State Fault Refusal :=
  .next (s.act (fun t =>
    let g := generator.val
    let n := t.bind.profSheaf.getD g 15
    if n ≥ 12 ∨ (t.sheaf n).state ≠ .run then t
    else
      let was := t.regN (Item.PROF.MODE g)
      let t0 := t.every (Timer.step g) (t.regN (Item.PROF.TS g) * 1000)
      let t1 := t0.boundary (.gen g) t0.tick
      if t1.regN (Item.PROF.MODE g) = 0 then t1
      else if was = 0 then t1.initGenerator g
      else
        let r := t1.genStep g
        t1.setRegs [(Item.PROF.X g, r.x), (Item.PROF.V g, r.v), (Item.PROF.A g, r.a), (Item.PROF.STATUS g, t1.genStatus g r)]))

/-! ## Entering RUN -/

/-- The generators bound to a sheaf. -/
def State.generatorsOf (s : State) (n : Nat) : List Nat := (List.range 4).filter (fun g => decide (s.bind.profSheaf.getD g 15 = n))

/-- What slot `j` of a lane measures now, in lane units. -/
def State.laneSource (s : State) (lane j : Nat) : Word :=
  F32.mul (s.sourceValue lane (s.reg (Item.LOOP.SRC lane j))).1 (s.reg (Item.LOOP.IN_SCALE lane j))

/-- A start attempt of an auxiliary sheaf begins (R368): the lane may close, the ramp starts from the output as measured, every
compare is unwritten (R370). -/
def State.beginAttempt (s : State) (n : Nat) : State :=
  let lanes := s.lanesOf n
  let s1 := s.forEach lanes (fun t m => t.setLane m { t.lane m with held := false, wasClosed := false, lastOut := [], last := none })
  if s.stype n = SType.auxi then
    let v := s1.laneSource 12 0
    let s2 := { s1 with auxI := { s1.auxI with attemptFrom := s.time.now, rampBase := v, limited := 0, consecutive := 0,
                                               cut := false, pauseEnd := none, cap := none } }
    s2.setRegs [(Item.AUX.I_STATE, 1), (Item.LOOP.SETPT_A 12, v)]
  else if s.stype n = SType.auxb then
    let v := s1.laneSource 13 0
    let s2 := { s1 with auxB := { s1.auxB with attemptFrom := s.time.now, rampBase := v, limited := 0, consecutive := 0,
                                               cut := false, pauseEnd := none } }
    s2.setRegs [(Item.AUX.B_STATE, 1), (Item.LOOP.SETPT_A 13, v)]
  else s

/-- What the sheaf's own chapter adds to an entry to RUN (R309, R363, R368, R415). -/
def State.enterOwn (s : State) (n : Nat) : State :=
  if s.stype n = SType.trc then
    let s1 := { s with trac := { s.trac with requestAt := s.time.now, lost := false, ramps := [], members := none } }
    if s.modeCap.isSome then { s1 with sup := { s1.sup with slpRef := s1.sup.pos } } else s1
  else if s.stype n = SType.auxb then
    let s1 := { s with shed := Shedding.init, syncIn := { s.syncIn with agree := 0, missed := 0 } }
    (s1.setReg Item.AUX.SYNC_STATE 0).beginAttempt n
  else s.beginAttempt n

/-- A READY sheaf enters RUN (R87, R204, R215, R292, R295): its carrier, lanes and generators start. -/
def State.startRun (s : State) (n : Nat) : State :=
  let s1 := (s.setSheaf n { s.sheaf n with state := .run, starting := true, stop := none }).beginCarrier n
  let s2 := s1.forEach (s1.lanesOf n) (fun t m =>
    (t.setLane m Lane.init).setRegs [(Item.LOOP.INT_A m, 0), (Item.LOOP.INT_B m, 0)])
  let s3 := s2.forEach (s2.generatorsOf n) State.initGenerator
  (s3.enterOwn n).applySelection

/-- The deferred step 3 of some legs before a start (R75, R76, R355): 0 where every leg so marked passes, 11 where a link is still
low, 12 where a midpoint stands at half the link or above, which is a class-L fault of the leg. A leg whose step has run is no longer
marked. -/
def State.deferredOn (s : State) (n : Nat) (among : List Nat) (checks : List MidCheck) : State × Nat :=
  let legs := among.filter (fun l => (s.leg l).deferred)
  let of (l : Nat) : MidCheck := (checks.find? (fun c => decide (c.leg = l))).getD { leg := l, link := 0, mid := 0 }
  if legs = [] then (s, 0)
  else if legs.any (fun l => decide ((of l).link < s.proofVmin n l)) then (s, Reason.linkLow)
  else
    let s1 := s.forEach legs (fun t l => t.setLeg l { t.leg l with deferred := false })
    let high := legs.filter (fun l => decide ((of l).link ≤ 2 * (of l).mid))
    let s2 := s1.setReg (Item.SHEAF.PROOF_RESULT n) (nw ((s1.regN (Item.SHEAF.PROOF_RESULT n)) &&& 0xFFFFFFBF ||| s1.deferredBit n))
    if high = [] then (s2, 0) else (s2.forEach high (fun t l => t.raise (legUnit l) .L 34), Reason.hsShort)

/-- The deferred step 3 of every leg of a sheaf. -/
def State.deferredStep (s : State) (n : Nat) (checks : List MidCheck) : State × Nat := s.deferredOn n (s.bind.legsOf n) checks

end Sys2Proof.Machine
end

