-- ==== Sys2Proof/Machine/Traction.lean ====
section
/-! DEFINITION. The timed courses of the traction sheaf (chapter Traction Inverter): refresh timeouts, the share ramp of a
commanded winnow, the end of the orderly stop. -/

namespace Sys2Proof.Machine

/-- TRC_REQUEST_TIMEOUT (R309): REQ_TMO after the CONTROL holder's last request the torque reference of a running sheaf ramps to 0,
and the sheaf raises source 22, class W. -/
def execTrcRequestTimeout (s : State) : Host.Outcome State Fault Refusal :=
  .next (s.act (fun t =>
    match t.trcSheaf with
    | none => t
    | some n =>
      let tmo := t.regN Item.TRC.REQ_TMO
      if tmo = 0 ∨ (t.sheaf n).state ≠ .run ∨ t.trac.lost then t
      else
        let t1 := t.reach (t.trac.requestAt + tmo * 1000000)
        let t2 := { t1 with trac := { t1.trac with lost := true } }
        (t2.setReg Item.TRC.LIMIT_CAUSE (t2.reg Item.TRC.LIMIT_CAUSE ||| 0x80)).raise (unitOf Kind.sheaf n) .W 22))

/-- TRC_LIMIT_TIMEOUT (R305): LIM_TMO after the last battery-limit write lane 6 uses the fall-back powers, and the sheaf raises
source 21, class W. -/
def execTrcLimitTimeout (s : State) : Host.Outcome State Fault Refusal :=
  .next (s.act (fun t =>
    match t.trcSheaf with
    | none => t
    | some n =>
      let tmo := t.regN Item.TRC.LIM_TMO
      if tmo = 0 ∨ t.trac.fallback then t
      else
        let t1 := t.reach (t.trac.limitAt + tmo * 1000000)
        { t1 with trac := { t1.trac with fallback := true } }.raise (unitOf Kind.sheaf n) .W 21))

/-- A set at the end of its thermal stop (Table 17-3): winnowed, and kept out until its hold has gone and a proof has passed. -/
def State.thermalSet (s : State) (k : Nat) : State :=
  { s with trac := { s.trac with thermal := insertNew k s.trac.thermal } }.winnowSet k none .set (unitOf Kind.set k)

/-- TRC_WINNOW_RAMP_END (R318, Table 17-3): at the end of its share ramp the set is winnowed; a WINNOW of it completes. -/
def execTrcWinnowRampEnd (set : Fin 6) (s : State) : Host.Outcome State Fault Refusal :=
  .next (s.act (fun t =>
    let k := set.val
    match t.trac.ramps.find? (fun r => decide (r.1 = k)) with
    | none => t
    | some (_, since, thermal) =>
      let u := unitOf Kind.set k
      let t1 := t.reach (since + t.regN (if thermal then Item.THM.STOP_RAMP else Item.TRC.WINNOW_RAMP) * 1000000)
      let t2 := { t1 with trac := { t1.trac with ramps := t1.trac.ramps.filter (fun r => decide (r.1 ≠ k)) } }
      let t3 := (if thermal then t2.thermalSet k
                 else (t2.setUnit u { t2.unit u with commanded := true }).winnowSet k none .command u)
      t3.endSequences (fun q => decide (q.kind = .winnow) && decide (u ∈ q.units)) Code.ok Reason.none (fun _ => t3.unitResult u)))

/-- The torque reference of the traction sheaf as its DIST lane last had it (R304). -/
def State.torqueReference (s : State) (n : Nat) : Word :=
  match (s.lanesOf n).find? (fun m => decide (s.regN (Item.LOOP.TYPE m) = 7)) with
  | some m => (s.lane m).reference.getD 2 0
  | none => 0

/-- ASC select asserted on every leg that ASC reaches, before the stop word (R323). -/
def State.assertAsc (s : State) (n : Nat) : State :=
  s.forEach (s.bind.legsOf n) (fun t leg =>
    if t.ascReaches n leg then
      t.setLeg leg (t.toAsc leg (t.leg leg))
    else t)

/-- TRC_STOP_RAMP_END (R323): the reference of an orderly stop has reached 0, or STOP_TMAX has passed; the stop word goes out. -/
def execTrcStopRampEnd (s : State) : Host.Outcome State Fault Refusal :=
  .next (s.act (fun t =>
    match t.trcSheaf with
    | none => t
    | some n =>
      match (t.sheaf n).stop with
      | none => t
      | some r =>
        if (t.sheaf n).state ≠ .run ∨ r.word then t
        else
          let t1 := if F32.same (t.torqueReference n) 0 then t else t.reach (r.since + t.regN Item.TRC.STOP_TMAX * 1000000)
          let t2 := if t1.regN Item.TRC.READY_ASC = 1 ∧ t1.sup.asc then t1.assertAsc n else t1
          t2.sendStopWord n r.toOff))

end Sys2Proof.Machine
end

