-- ==== Sys2Proof/Machine/Charger.lean ====
section
/-! DEFINITION. The on-board charger (chapter On-board Charger): pilot and proximity, the arm sequence, the session's limits and
steps, the hand-over. Voltages of the links stand in 0.1 V as their sense channels give them. -/

namespace Sys2Proof.Machine

/-! ## Small readings -/

/-- Completion reasons of Table 12-12. -/
abbrev Reason.pilot : Nat := 73
abbrev Reason.noMains : Nat := 74
abbrev Reason.inrush : Nat := 75
abbrev Reason.timerLatched : Nat := 76
abbrev Reason.chgLimits : Nat := 77
abbrev Reason.exportOff : Nat := 78
abbrev Reason.link : Nat := 79

/-- Changing the charger's own state. -/
def State.setCharge (s : State) (c : Charge) : State := { s with charge := c }

/-- The front-end sheaf. -/
def State.chgf (s : State) : Option Nat := s.bind.sheafOfType SType.chgf

/-- The bridge sheaves in ascending number: CHGD0, CHGD1. -/
def State.bridges (s : State) : List Nat := s.bind.sheavesOfType SType.chgd

/-- A sheaf in RUN. -/
def State.runs (s : State) (n : Nat) : Bool := decide ((s.sheaf n).state = .run)

/-- A cable at PPS (R329): neither none nor an invalid reading. -/
def State.cable (s : State) : Bool := decide (s.regN Item.CHG.PP_I ≠ 0) && decide (s.regN Item.CHG.PP_I ≠ 255)

/-- The battery voltage, DC-link sense channel 2 (R324). -/
def State.battery (s : State) : Int := s.dcLink 2

/-- A request of an output's owner over the request channel (R419, Table 15-3). -/
def State.requestAs (s : State) (owner n : Nat) (on : Bool) : State :=
  if s.regN (Item.SOUT.OWNER n) = owner then s.outRequest n on else s

/-- Whether both main contactors are closed. -/
def State.contactorsClosed (s : State) : Bool := (s.out 0).on && (s.out 1).on

/-- The match of a connection (R352, Table 12-7): |DC0 − DC2| within MATCH_TOL. -/
def State.linksMatch (s : State) : Bool := decide ((s.dcLink 0 - s.dcLink 2).natAbs ≤ s.regN Item.CHG.MATCH_TOL * 10)

/-- The phases in use. -/
def State.phasesInUse (s : State) : List Nat := if s.charge.phases = 1 then [0] else [0, 1, 2]

/-- The mean of the line voltages of the phases in use, in V. DEDUCED: assumption log 58. -/
def State.lineVolts (s : State) : Word :=
  let l := s.phasesInUse
  F32.ofRat ((l.map (fun k => s.regI (Item.ADCI.VRMS 0 k))).sum) (10 * l.length)

/-- A setting of CHARGE_SET that stands in an item; 0xFFFF is not written (Table 12-11). DEDUCED: assumption log 56. -/
def State.setting (s : State) (a : Nat) : Option Nat := if s.regN a = 0xFFFF then none else some (s.regN a)

/-! ## Limits -/

/-- The pilot current limit of a duty in 0.1 %, in 0.1 A, halves upward (assumption log 13); 0xFFFF is digital (R328, Table
12-3; at 53.3 % the chapter's worked example has 32.0 A). -/
def pilotCurrent (d : Nat) : Nat :=
  if d < 30 ∨ (70 ≤ d ∧ d < 80) ∨ 970 < d then 0
  else if d < 70 then 0xFFFF
  else if d < 100 then 60
  else if d ≤ 850 then (d * 6 + 5) / 10
  else if d ≤ 960 then ((d - 640) * 25 + 5) / 10
  else 800

/-- The effective input current limit per phase in 0.1 A (R331). -/
def State.inputCurrent (s : State) : Nat :=
  let p := s.regN Item.CHG.PILOT_I
  let cable := if s.cable then s.regN Item.CHG.PP_I * 10 else 0
  let host : Nat :=
    if s.charge.fallback then 60
    else
      match s.setting Item.CHG.SET_I_IN with
      | some v => v
      | none => if p = 0xFFFF then 0 else 0xFFFF
  Nat.min (Nat.min p cable) (Nat.min (s.regN Item.CHG.I_IN_MAX) host)

/-- The temperature zone (R337): left only past its boundary by ZONE_HYST; none while BAT_TEMP is not written. -/
def State.zone (s : State) : Nat :=
  let w := s.reg Item.CHG.BAT_TEMP
  if w = 0x80000000 then 15
  else
    let t := w.toInt
    let b (k : Nat) : Int := s.regI (Item.CHG.ZONE_T k)
    let plain := (if b 0 ≤ t then 1 else 0) + (if b 1 < t then 1 else 0) + (if b 2 < t then 1 else 0)
    let now := s.regN Item.CHG.ZONE
    let h := s.regI Item.CHG.ZONE_HYST
    if 3 < now then plain
    else if now < plain then if t < b now + h then now else plain
    else if plain < now then if b (now - 1) - h < t then now else plain
    else now

/-- The number of defined steps of a zone (R337): a step with current 0 ends the table. -/
def State.zoneSteps (s : State) (z : Nat) : Nat :=
  if 3 < z then 0
  else ((List.range 4).find? (fun k => decide (s.regN (Item.CHG.STEP_I (4 * z + k)) = 0))).getD 4

/-- The lowest defined step whose voltage lies above the battery's, else the last defined one (R338). -/
def State.firstStep (s : State) (z : Nat) : Nat :=
  let n := s.zoneSteps z
  ((List.range n).find? (fun k => decide (s.battery < s.regI (Item.CHG.STEP_V (4 * z + k))))).getD (n - 1)

/-- The current a zone and step allow, in 0.1 A: 0 where no zone applies or the zone does not define the step. -/
def State.stepCurrent (s : State) : Nat :=
  let z := s.regN Item.CHG.ZONE
  let k := s.regN Item.CHG.STEP
  if s.zoneSteps z ≤ k then 0 else s.regN (Item.CHG.STEP_I (4 * z + k))

/-- The battery current of R339 under an input power limit: min(STEP_I_k, BAT_I_MAX, host I_BAT, P_av / V_bat), in A. -/
def State.chargeCurrent (s : State) (pmax : Word) : Word :=
  let n := s.phasesInUse.length
  let ac := F32.mul (F32.mul (F32.ofInt n) s.lineVolts) (F32.ofRat (s.regI Item.CHG.I_IN_LIM) 10)
  let pav := F32.mul (F32.min pmax ac) (s.reg Item.CHG.EFF)
  let p := F32.div pav (F32.ofRat s.battery 10)
  let cap := Nat.min (Nat.min s.stepCurrent (s.regN Item.CHG.BAT_I_MAX)) ((s.setting Item.CHG.SET_I_BAT).getD 0xFFFFFFFF)
  F32.min (F32.ofRat cap 10) p

/-- The battery current of an export, in A (R334): the bounded export power over the battery voltage and the efficiency, in V2G the
input limit bounding it; 0 under the watchdog fallback (R340). -/
def State.exportCurrent (s : State) : Word :=
  if s.charge.fallback then 0
  else
    let vb := F32.ofRat s.battery 10
    let eff := s.reg Item.CHG.EFF
    let dis := F32.mul (F32.mul (F32.ofRat (s.regI Item.CHG.BAT_I_DIS_MAX) 10) vb) eff
    let host := F32.ofInt ((s.setting Item.CHG.SET_P_EXP).getD 0)
    let ac := F32.mul (F32.mul (F32.ofInt s.phasesInUse.length) s.lineVolts) (F32.ofRat (s.regI Item.CHG.I_IN_LIM) 10)
    let most := F32.min (F32.min host (F32.ofInt (s.regI Item.CHG.P_EXP_LIM))) dis
    F32.div (if s.charge.mode = 2 then F32.min most ac else most) (F32.mul vb eff)

/-! ## Leaving CHARGE -/

/-- The device state after a stop cause (Table 12-8), with its reason in DEV.MODE_REASON: causes 1, 2, 3, 7 and 8 leave CHARGE for
STANDBY. -/
def State.chargeExit (s : State) (cause : Nat) : State :=
  let reason : Option Nat :=
    match cause with
    | 1 => some Reason.exitUnplug
    | 2 => some Reason.exitMains
    | 3 => some Reason.exitPark
    | 7 => some Reason.exitTimer
    | 8 => some Reason.none
    | _ => none
  match reason with
  | none => s
  | some r =>
    if s.dev.state = .charge then
      (((s.setReg Item.DEV.MODE_REASON (nw r)).enterState .standby).endSequences (fun q => decide (q.kind = .mode ∧ q.arg = 2))
        Code.ok Reason.none (fun _ => [])).stopUnpermitted
    else s

/-- Completing the arm or the disarm that runs. -/
def State.endArm (s : State) (kind : SeqKind) (code reason : Nat) : State :=
  s.endSequences (fun q => decide (q.kind = kind)) code reason (fun _ => if code = Code.ok then wordBytes s.sessionWord else [])

/-! ## Hand-over -/

/-- The stop words of CHGF and of both bridges (Table 12-9, step 1). -/
def State.chargerStop (s : State) : State :=
  s.forEach (s.chgf.toList ++ s.bridges) (fun t n => if t.runs n then t.sendStopWord n false else t)

/-- Steps 2 and 3 of Table 12-9: CPSW opened, release of SO4 requested. -/
def State.handRelease (s : State) (h : HandRun) : State :=
  let s1 := s.chargerStop
  let s2 := s1.setCharge { s1.charge with cpsw := false, precharge := false, hand := some { h with step := 3, since := s.time.now } }
  (s2.setReg Item.CHG.I_TGT 0).requestAs 1 4 false

/-- A hand-over begins (R349): for UNPLUG and MAINS the stop words leave at once. -/
def State.handBegin (s : State) (cause : Nat) (failure : Option (Nat × Nat)) : State :=
  let h : HandRun := { step := 1, cause := cause, began := s.time.now, since := s.time.now, failure := failure }
  let c := s.charge
  let s1 := (s.setCharge { c with arm := none, running := false, hand := some h, timerLatch := c.timerLatch || decide (cause = 7),
                                  below := none }).setReg Item.CHG.STOP_CAUSE (nw cause)
  if cause = 1 ∨ cause = 2 then s1.handRelease h else s1

/-- A cause of Table 12-8 arises (R349): it begins the hand-over of a session; within the millisecond in which one began the cause
highest in the table is recorded. Without a session the device leaves CHARGE at once, where the cause says so. -/
def State.stopSession (s : State) (cause : Nat) : State :=
  let c := s.charge
  match c.hand with
  | some h =>
    if h.began / 1000000 = s.time.now / 1000000 ∧ h.cause ≠ 0 ∧ cause < h.cause then
      let s1 := (s.setCharge { c with hand := some { h with cause := cause } }).setReg Item.CHG.STOP_CAUSE (nw cause)
      if (cause = 1 ∨ cause = 2) ∧ h.step = 1 then s1.handRelease { h with cause := cause } else s1
    else s
  | none =>
    if s.armed then s.handBegin cause (if c.arm.isSome then some (Code.aborted, Reason.none) else none) else s.chargeExit cause

/-- A pilot state comes into force (R327, R328), with the debounce of R346. -/
def State.takePilot (s : State) (state duty : Nat) : State :=
  let c := s.charge
  let held := decide (state = 1 ∨ state = 2)
  let s1 := s.setRegs
    [(Item.CHG.PILOT_STATE, nw state), (Item.CHG.PILOT_DUTY, nw duty), (Item.CHG.PILOT_I, nw (if held then pilotCurrent duty else 0))]
  s1.setCharge { c with plugSince := if held then some (c.plugSince.getD s.time.now) else none, debounced := held && c.debounced }

/-- A PPS reading comes into force (R329, R344): no cable clears the TIMER latch; a cable in DRIVE is the device's source 21 (R83). -/
def State.takePlug (s : State) (code : Nat) : State :=
  let s1 := s.setReg Item.CHG.PP_I (nw code)
  let s2 := if code = 0 then s1.setCharge { s1.charge with timerLatch := false } else s1
  if s2.cable ∧ s2.dev.state = .drive then s2.raise (unitOf Kind.device 0) .W 21 else s2

/-- The end of a hand-over (Table 12-9, step 5; R351): result and time, lane roles, the state that pilot and PPS then show, the
device state of Table 12-8, the commands that waited for it. -/
def State.handEnd (s : State) (h : HandRun) (result : Nat) : State :=
  let c := s.charge
  let s1 := (s.setRegs [(Item.CHG.HO_RESULT, nw result), (Item.CHG.HO_TIME, nw ((s.time.now - h.began) / 1000000))]).bump Item.CHG.HO_CNT
  let held := decide (s.regN Item.CHG.PILOT_STATE = 1 ∨ s.regN Item.CHG.PILOT_STATE = 2)
  let s2 := s1.setCharge { c with hand := none, roles := false, plugSince := if held then some s.time.now else none, debounced := false,
                                  pilotNext := none, plugNext := none }
  let s3 := match c.pilotNext with | some (st, d) => s2.takePilot st d | none => s2
  let s4 := match c.plugNext with | some v => s3.takePlug v | none => s3
  let s5 := match h.failure with
    | some (code, reason) => s4.endSequences (fun q => decide (q.kind = SeqKind.arm)) code reason (fun _ => [])
    | none => s4
  let leaves := s5.seqs.any (fun q => decide (q.kind = .mode ∧ q.arg = 2)) && decide (h.cause ∉ [1, 2, 3, 7])
  let s6 := (s5.endArm .disarm Code.ok Reason.none).chargeExit (if leaves then 8 else h.cause)
  let unplug := (match c.pilotNext with | some (st, _) => decide (st = 0) | none => false)
    || (match c.plugNext with | some v => decide (v = 0 ∨ v = 255) | none => false)
  if unplug then s6.chargeExit 1 else s6

/-- Step 4 of Table 12-9: the match is skipped when both contactors are closed, else the battery is connected through SO1 and SO2. -/
def State.handMatch (s : State) (h : HandRun) : State :=
  if s.contactorsClosed then s.handEnd h 1
  else
    let s1 := (s.requestAs 0 1 true).requestAs 0 2 true
    s1.setCharge { s1.charge with hand := some { h with step := 4, since := s.time.now } }

/-- HANDOVER (R330, R349): the ramp of step 1 has ended, at the latest after RAMP_DOWN_T; stop words, CPSW, release of SO4. -/
def execHandover (s : State) : Host.Outcome State Fault Refusal :=
  .next (s.act (fun t =>
    match t.charge.hand with
    | some h =>
      if h.step = 1 then
        let t1 := if F32.same (t.reg Item.CHG.I_TGT) 0 then t else t.reach (h.since + t.regN Item.CHG.RAMP_DOWN_T * 1000000)
        t1.handRelease h
      else t
    | none => t))

/-! ## Arming -/

/-- Closing CPSW, or any change of the arm's step. -/
def State.armTo (s : State) (step stage : Nat) : State :=
  match s.charge.arm with
  | some a => s.setCharge { s.charge with arm := some { a with step := step, stage := stage, since := s.time.now } }
  | none => s

/-- A step fails: before anything runs its requests are released and the arm completes; later the hand-over of the steps taken runs
first (R345). DEDUCED: assumption log 57. -/
def State.armFail (s : State) (code reason : Nat) : State :=
  match s.charge.arm with
  | none => s
  | some a =>
    if a.step ≤ 1 then (s.setCharge { s.charge with arm := none }).endArm .arm code reason
    else if a.step = 2 then
      let s1 := ((s.requestAs 0 0 false).requestAs 0 1 false).requestAs 0 2 false
      (s1.setCharge { s1.charge with arm := none, roles := false }).endArm .arm code reason
    else s.handBegin 0 (some (code, reason))

/-- Whether the export conditions of R334 hold for a mode. -/
def State.exportOk (s : State) (mode : Nat) : Bool :=
  let mains (k : Nat) : Bool := decide (s.regN (Item.ADCI.MAINS_MIN 0) ≤ s.regN (Item.ADCI.VRMS 0 k))
  decide (0 < s.regN Item.CHG.BAT_I_DIS_MAX) && decide (0 < (s.setting Item.CHG.SET_P_EXP).getD 0) && !s.charge.fallback
    && (if mode = 2 then s.mainsLocked && decide (0 < s.regN Item.CHG.PILOT_I)
        else decide (s.regN Item.CHG.PILOT_STATE = 4) && !([0, 1, 2].any mains))

/-- The first check of step 1 that fails (Table 12-7), 0 where all pass. -/
def State.armCheck (s : State) (mode : Nat) (late : Bool) : Nat :=
  let z := s.zone
  if s.dev.state ≠ .charge then Reason.state
  else if !s.cable then Reason.cable
  else if s.charge.timerLatch && !late then Reason.timerLatched
  else if mode = 0 ∧ (s.zoneSteps z = 0 ∨ s.regN Item.CHG.BAT_V_MAX = 0 ∨ s.regN Item.CHG.BAT_I_MAX = 0) then Reason.chgLimits
  else if mode ≠ 3 ∧ s.regN Item.CHG.PILOT_STATE ≠ 1 ∧ s.regN Item.CHG.PILOT_STATE ≠ 2 then Reason.pilot
  else if 2 ≤ mode ∧ !s.exportOk mode then Reason.exportOff
  else 0

/-- Step 2 begins: the battery connection, or in supply-only the precharge of the link (Table 12-7). -/
def State.connect (s : State) (mode : Nat) : State :=
  if mode ≠ 1 ∧ s.contactorsClosed then s.armTo 3 0
  else ((s.requestAs 0 1 true).requestAs 0 2 true).armTo 2 0

/-- The value that PWM[3].SYNC_SHEAF had at boot comes back (R326). -/
def State.restoreSync (s : State) : State :=
  match s.charge.sync, s.bridges[1]? with
  | some w, some n => (s.setReg (Item.PWM.SYNC_SHEAF n) w).setCharge { s.charge with sync := none }
  | _, _ => s

/-- Starting one charger sheaf that is READY (Table 12-7, steps 3, 7 and 8): 0 where it runs. -/
def State.chargerStart (s : State) (n : Nat) (legs : List Nat) (checks : List MidCheck) : State × Nat :=
  if s.runs n then (s, 0)
  else if (s.sheaf n).state ≠ .ready then (s, Reason.state)
  else
    let (t, r) := s.deferredOn n legs checks
    if r = 0 then (t.startRun n, 0) else (t, r)

/-- Starting the bridges that are READY: CHGD0, then CHGD1; one at least must start. -/
def State.bridgesStart (s : State) (secondary : Bool) (checks : List MidCheck) : State × Nat :=
  let legs (n : Nat) : List Nat := if secondary then (s.bind.legsOf n).drop 2 else s.bind.legsOf n
  let ready := s.bridges.filter (fun n => decide ((s.sheaf n).state = .ready) || s.runs n)
  if ready = [] then (s, Reason.notReady)
  else ready.foldl (fun a n => if a.2 = 0 then a.1.chargerStart n (legs n) checks else a) (s, 0)

/-- The ceiling that the present settings give takes effect (R336, R338, R340). -/
def State.setCeiling (s : State) : State := s.setCharge { s.charge with ceiling := s.chargeCeiling }

/-- One advance of the arm sequence (Table 12-7). Steps that start a sheaf need the midpoint checks that are run for it, and wait
without them. -/
def State.armStep (checks : Option (List MidCheck)) (s : State) : State :=
  let c := s.charge
  let v2l := decide (c.mode = 3)
  match c.arm with
  | none => s
  | some a =>
    match a.step, checks with
    | 1, _ =>
      let mode := a.mode
      if c.hand.isSome ∨ (mode ≠ 3 ∧ !c.debounced ∧ s.armCheck mode a.late ≠ Reason.pilot) then s
      else if s.armCheck mode a.late ≠ 0 then s.armFail Code.invalid (s.armCheck mode a.late)
      else
        let s1 := s.restoreSync
        let c1 := s1.charge
        (s1.setCharge { c1 with mode := mode, phases := 0, roles := decide (mode = 3), alone := false,
                                timerLatch := c1.timerLatch && !a.late, arm := some { a with step := 2 } }).connect mode
    | 3, some l =>
      if !v2l then s.armTo 4 0
      else
        (match a.stage with
         | 0 =>
           let (t, r) := (s.setCharge { c with precharge := true }).bridgesStart true l
           if r = 0 then t.armTo 3 1 else t.armFail Code.invalid r
         | 1 =>
           if s.bridges.any (fun n => s.runs n && decide (s.dcLink 1 < (s.regN (Item.SHEAF.PROOF_VMIN n) : Int) * 10)) then s
           else
             let on := s.bridges.filter s.runs
             let s1 := s.forEach on State.legsOff
             let (t, r) := on.foldl (fun x n => if x.2 = 0 then x.1.deferredOn n ((s.bind.legsOf n).take 2) l else x) (s1, 0)
             if r = 0 then (t.setCharge { t.charge with precharge := false }).armTo 3 2 else t.armFail Code.invalid r
         | _ => if s.dcLink 1 < (s.regN Item.CHG.V_DC1 : Int) * 10 then s else (s.requestAs 1 4 true).armTo 6 0)
    | 3, none => if v2l then s else s.armTo 4 0
    | 4, _ => (s.setCharge { c with cpsw := true }).armTo 5 0
    | 5, _ =>
      if !s.mainsLocked then s
      else
        let full := [1, 2].all (fun k => decide (s.regN (Item.ADCI.MAINS_MIN 0) ≤ s.regN (Item.ADCI.VRMS 0 k)))
        (match a.phases, full with
         | 3, false => s.armFail Code.invalid Reason.noMains
         | 1, _ => (({ s with charge := { c with phases := 1 } }).requestAs 1 4 true).armTo 6 0
         | _, f => (({ s with charge := { c with phases := if f then 3 else 1 } }).requestAs 1 4 true).armTo 6 0)
    | 6, _ =>
      if a.stage = 0 then s
      else
        let v := F32.mul (F32.mul (F32.ofRat 9 10) (F32.sqrt F32.two))
          (if c.phases = 1 then s.lineVolts else F32.mul (F32.sqrt (F32.ofInt 3)) s.lineVolts)
        if v2l || F32.le v (F32.ofRat (s.dcLink 1) 10) then s.armTo 7 0 else s
    | 7, some l =>
      if a.stage = 0 then
        (match s.chgf with
         | none => s.armFail Code.invalid Reason.notReady
         | some n =>
           let (t, r) := s.chargerStart n (s.bind.legsOf n) l
           if r = 0 then t.armTo 7 1 else t.armFail Code.invalid r)
      else if v2l then
        let amp := (match s.chgf with | some n => s.lineAmplitude n | none => 0)
        if F32.le (F32.mul (F32.sqrt F32.two) (F32.ofRat (s.regI Item.CHG.V2L_VRMS) 10)) amp then s.armTo 8 0 else s
      else if s.dcLink 1 < (s.regN Item.CHG.V_DC1 : Int) * 10 then s else s.armTo 8 0
    | 8, some l =>
      let (t, r) := s.bridgesStart false l
      if r ≠ 0 then t.armFail Code.invalid r
      else
        let z := t.zone
        let t1 := t.setRegs [(Item.CHG.ZONE, nw z), (Item.CHG.STEP, nw (t.firstStep z)), (Item.CHG.I_TGT, 0), (Item.CHG.I_REQ, 0),
          (Item.CHG.TIMER_NOM, 0), (Item.CHG.TIMER_WALL, 0), (Item.CHG.STOP_CAUSE, 0)]
        let t2 := t1.setCharge { t1.charge with arm := none, running := true, watchdog := t.charge.watchdog, stepAt := t.time.now,
                                                weighted := 0, advanced := t.time.now, below := none, burst := some (false, t.time.now) }
        t2.setCeiling.endArm .arm Code.ok Reason.none
    | _, _ => s

/-- The arm sequence advances as far as it can. -/
def State.armAdvance (s : State) (checks : Option (List MidCheck)) : State :=
  (List.range 9).foldl (fun t _ => t.armStep checks) s

/-- PLUG_DEBOUNCE_END (R346): the pilot has held B or C for PLUG_DEBOUNCE since the last hand-over ended. -/
def execPlugDebounceEnd (s : State) : Host.Outcome State Fault Refusal :=
  .next (s.act (fun t =>
    match t.charge.plugSince with
    | none => t
    | some since =>
      if t.charge.debounced ∨ t.charge.hand.isSome then t
      else
        let t1 := t.reach (since + t.regN Item.CHG.PLUG_DEBOUNCE * 1000000)
        (t1.setCharge { t1.charge with debounced := true }).armAdvance none))

/-- RELAY_WAIT_END (Tables 12-7 and 12-9): RELAY_T after a contactor or relay was switched, its step goes on. -/
def execRelayWaitEnd (s : State) : Host.Outcome State Fault Refusal :=
  .next (s.act (fun t =>
    let wait := t.regN Item.CHG.RELAY_T * 1000000
    match t.charge.hand, t.charge.arm, t.hv with
    | some h, _, _ => if h.step = 3 then (t.reach (h.since + wait)).handMatch h else t
    | none, some a, _ =>
      if a.step = 2 ∧ a.stage = 1 then ((t.reach (a.since + wait)).armTo 3 0).armAdvance none
      else if a.step = 6 ∧ a.stage = 0 then ((t.reach (a.since + wait)).armTo 6 1).armAdvance none
      else t
    | none, none, some (since, true) =>
      let t1 := { t.reach (since + wait) with hv := none }
      t1.endSequences (fun q => decide (q.kind = SeqKind.hvConnect)) Code.ok Reason.none (fun _ => [])
    | _, _, _ => t))

/-- LINK_MATCH (R352, R420, Table 12-7): the match of the connection in progress completes, or MATCH_TMAX ends the wait without it. -/
def execLinkMatch (s : State) : Host.Outcome State Fault Refusal :=
  .next (s.act (fun t =>
    let tmax := t.regN Item.CHG.MATCH_TMAX * 1000000
    let join (u : State) : State := (u.requestAs 0 0 true).requestAs 0 2 false
    match t.charge.hand, t.charge.arm, t.hv with
    | some h, _, _ =>
      if h.step ≠ 4 then t
      else if t.linksMatch then (join t).handEnd h 2
      else
        let t1 := ((t.reach (h.since + tmax)).requestAs 0 2 false).requestAs 0 1 false
        let t2 := match t1.chgf with | some n => t1.raise (unitOf Kind.sheaf n) .W 23 | none => t1
        t2.handEnd h 3
    | none, some a, _ =>
      if a.step ≠ 2 ∨ a.stage ≠ 0 then t
      else if t.linksMatch then
        if t.charge.mode = 1 then (((t.requestAs 0 2 false).requestAs 0 1 false).armTo 2 1) else (join t).armTo 2 1
      else (t.reach (a.since + tmax)).armFail Code.invalid Reason.link
    | none, none, some (since, false) =>
      if t.linksMatch then { join t with hv := some (t.time.now, true) }
      else
        let t1 := (((t.reach (since + tmax)).requestAs 0 0 false).requestAs 0 1 false).requestAs 0 2 false
        { t1 with hv := none }.endSequences (fun q => decide (q.kind = SeqKind.hvConnect)) Code.invalid Reason.link (fun _ => [])
    | _, _, _ => t))

/-- EVSE_TIMEOUT (R345, step 5): no mains at MVA within EVSE_TMO of state C. -/
def execEvseTimeout (s : State) : Host.Outcome State Fault Refusal :=
  .next (s.act (fun t =>
    match t.charge.arm with
    | some a =>
      if a.step = 5 ∧ t.regN (Item.ADCI.MAINS_STATE 0) = 0 then
        (t.reach (a.since + t.regN Item.CHG.EVSE_TMO * 1000000)).armFail Code.invalid Reason.noMains
      else t
    | none => t))

/-- INRUSH_TIMEOUT (R345, step 6): DC1 short of its inrush level at INRUSH_T after SO4 closed. -/
def execInrushTimeout (s : State) : Host.Outcome State Fault Refusal :=
  .next (s.act (fun t =>
    match t.charge.arm with
    | some a =>
      if a.step = 6 ∧ a.stage = 1 then
        (t.reach (a.since + t.regN Item.CHG.INRUSH_T * 1000000)).armFail Code.invalid Reason.inrush
      else t
    | none => t))

/-! ## Pilot, cable, mains -/

/-- The pilot state of the plateaus in mV at the pilot line (Table 12-2): 0 A to 5 F, 6 any other reading. `periods` are the last eight
pilot periods, none where the line stands constant. A plateau on a boundary belongs to the state above it. DEDUCED: assumption log 120. -/
def pilotOf (plus minus : Int) (periods : List (Nat × Nat)) : Nat :=
  let osc := decide (periods ≠ [])
  let beat := periods.all (fun p => decide (950000 ≤ p.2) && decide (p.2 ≤ 1050000))
  let low := !osc || (decide (-13500 ≤ minus) && decide (minus ≤ -10500))
  if !beat then 6
  else if 10500 ≤ plus ∧ plus ≤ 13500 then 0
  else if 7500 ≤ plus ∧ plus < 10500 ∧ low then 1
  else if 4500 ≤ plus ∧ plus < 7500 ∧ low then 2
  else if 1500 < plus ∧ plus < 4500 ∧ low then 3
  else if -1500 ≤ plus ∧ plus ≤ 1500 ∧ !osc then 4
  else if plus < -10500 ∧ !osc then 5
  else 6

/-- The duty cycle in 0.1 %: the mean over eight pilot periods, given as their high time and length in ns (R327). -/
def pilotDuty (plus : Int) (periods : List (Nat × Nat)) : Nat :=
  match periods.take 8 with
  | [] => if 0 < plus then 1000 else 0
  | l => Nat.min 1000 (((l.map (fun p => p.1 * 1000000 / Nat.max 1 p.2)).sum + 500 * l.length) / (1000 * l.length))

/-- PILOT_STATE (R327, R328, R351): the plateaus of the pilot in mV, its last eight periods, and for how many ms its state has held; a new
state counts after PILOT_FILT. During a hand-over it is latched. Pilot A is unplug; D, E, F or an invalid one stops charge, supply-only and
V2G. -/
def execPilotState (plus minus : Int) (periods : List (Nat × Nat)) (ms : Nat) (s : State) : Host.Outcome State Fault Refusal :=
  .next (s.act (fun t =>
    let pilot := pilotOf plus minus periods
    let duty := pilotDuty plus periods
    let now := match t.charge.pilotNext with | some (st, _) => st | none => t.regN Item.CHG.PILOT_STATE
    if pilot ≠ now ∧ ms < t.regN Item.CHG.PILOT_FILT then t
    else if t.charge.hand.isSome then
      if pilot = now ∧ t.charge.pilotNext.isNone then t else t.setCharge { t.charge with pilotNext := some (pilot, duty) }
    else
      let t1 := t.takePilot pilot duty
      if pilot = 0 then t1.stopSession 1
      else if 3 ≤ pilot ∧ t1.armed ∧ t1.charge.mode ≠ 3 then t1.stopSession 6
      else t1))

/-- CHG.PP_I of a reading of PPS in mV (Table 12-4); 255 outside the bands. -/
def plugCode (mv : Nat) : Nat :=
  if 4700 ≤ mv then 0
  else if 4450 < mv then 255
  else if 3750 ≤ mv then 13
  else if 2700 ≤ mv then 20
  else if 1500 ≤ mv then 32
  else if 700 ≤ mv then 63
  else 255

/-- PROXIMITY_CHANGE (R329, R344, R351): the reading of PPS in mV. No cable, or an invalid reading, is unplug. -/
def execProximityChange (mv : Nat) (s : State) : Host.Outcome State Fault Refusal :=
  .next (s.act (fun t =>
    let v := plugCode mv
    if t.charge.hand.isSome then t.setCharge { t.charge with plugNext := some v }
    else
      let t1 := t.takePlug v
      if v = 0 ∨ v = 255 then t1.stopSession 1 else t1))

/-- MAINS_LOSS (R348): the amplitudes of the three line voltages in 0.1 V as lane 7's phase-locked loop measures them, and for how many ms
they have stood so; below √2 × VLOSS for LOSS_T on every phase in use, mains is lost. -/
def execMainsLoss (amps : List Nat) (ms : Nat) (s : State) : Host.Outcome State Fault Refusal :=
  .next (s.act (fun t =>
    let measured : Bool := (match t.chgf with | some n => t.runs n | none => false)
    let low (k : Nat) : Bool := decide ((amps.getD k 0) ^ 2 < 2 * (t.regN Item.CHG.VLOSS * 10) ^ 2)
    if t.armed ∧ measured ∧ t.charge.mode ≠ 3 ∧ t.phasesInUse.all low ∧ t.regN Item.CHG.LOSS_T ≤ ms then t.stopSession 2 else t))

/-! ## The session -/

/-- The step of a running charge (R337, R338): a new zone keeps the step index or takes its last defined step; a step is left when
the current under the ceiling has stayed below the next step's for STEP_DWELL, and the last one ends the session when it has stayed
below I_TERM for TERM_T. `amps` is the battery current in 0.1 A. -/
def State.chargeStep (s : State) (amps : Nat) : State :=
  let c := s.charge
  let z := s.zone
  let z0 := s.regN Item.CHG.ZONE
  let k := s.regN Item.CHG.STEP
  let n := s.zoneSteps z
  let fresh (t : State) (j : Nat) : State :=
    (t.setRegs [(Item.CHG.STEP, nw j), (Item.CHG.TIMER_NOM, 0), (Item.CHG.TIMER_WALL, 0)]).setCharge
      { t.charge with stepAt := t.time.now, weighted := 0, advanced := t.time.now, below := none }
  let s1 := s.setReg Item.CHG.ZONE (nw z)
  if z ≠ z0 then
    let j := if k < n then k else n - 1
    if n = 0 ∨ j = k then s1 else fresh s1 j
  else if n = 0 then s1
  else
    let last := decide (n ≤ k + 1)
    let level := if last then s.regN Item.CHG.I_TERM else s.regN (Item.CHG.STEP_I (4 * z + k + 1))
    let wait := if last then s.regN Item.CHG.TERM_T * 1000000000 else s.regN Item.CHG.STEP_DWELL * 1000000000
    let ceiling := s.bridges.head?.any (fun m => (s.lanesOf m).any (fun l => decide (s.regN (Item.LOOP.TYPE l) = 7)
      && F32.lt ((s.lane l).lastOut.getD 0 0) (s.reg Item.CHG.I_TGT)))
    if ceiling ∧ amps < level then
      let since := c.below.getD s.time.now
      if since + wait ≤ s.time.now then (if last then s1.stopSession 10 else fresh s1 (k + 1))
      else s1.setCharge { s1.charge with below := some since }
    else s1.setCharge { s1.charge with below := none }

/-- The requested current and the target (R334, R339): the target rises at no more than RAMP_UP, and is also the setpoint of the bridges'
shared lane; an export's reference is negative, and it bounds what V2L draws. Under the
watchdog's fallback an export falls to 0 at RAMP_UP. DEDUCED: assumption log 129. -/
def State.chargeTarget (s : State) (ns : Nat) : State :=
  let c := s.charge
  let pmax := F32.ofInt (s.regI Item.CHG.P_IN_MAX)
  let expo := decide (2 ≤ c.mode)
  let req := if expo then s.exportCurrent else if c.mode = 0 then s.chargeCurrent pmax else 0
  let want := if expo then req else if c.mode = 0 then s.chargeCurrent (F32.mul pmax (s.reg Item.CHG.DERATE)) else 0
  let up := F32.add (s.reg Item.CHG.I_TGT) (F32.mul (s.reg Item.CHG.RAMP_UP) (seconds ns))
  let tgt := F32.min want up
  let down := F32.max 0 (F32.sub (s.reg Item.CHG.I_TGT) (F32.mul (s.reg Item.CHG.RAMP_UP) (seconds ns)))
  let t := if expo ∧ c.fallback then down else tgt
  let s1 := s.setRegs [(Item.CHG.I_REQ, req), (Item.CHG.I_TGT, t)]
  s1.forEach (s1.bridges.flatMap (fun m => (s1.lanesOf m).filter (fun l => decide (s1.regN (Item.LOOP.TYPE l) = 7))))
    (fun u l => u.setReg (Item.LOOP.SETPT_A l) (if expo then F32.neg t else t))

/-- The battery current in 0.1 A: what the bridges that run give, as their lanes measure it (R325). -/
def State.batteryAmps (s : State) : Nat :=
  let l := (s.bridges.filter s.runs).flatMap (fun m => (s.lanesOf m).filter (fun l => decide (s.regN (Item.LOOP.TYPE l) = 5)))
  (F32.toInt (F32.mul (F32.abs (F32.sum (l.map (fun m => s.laneSource m 0)))) (F32.ofInt 10))).natAbs

/-- The safety timer of a step (R343): its weighted time goes on at the rate I_bat / I_req while thermal limiting is in force, else
at 1. -/
def State.chargeTimer (s : State) (amps : Nat) : State :=
  let c := s.charge
  let ns := s.time.now - c.advanced
  let limiting := F32.lt (s.reg Item.CHG.I_TGT) (s.reg Item.CHG.I_REQ)
  let add := if limiting then
      (F32.toInt (F32.mul (F32.div (F32.ofRat amps 10) (s.reg Item.CHG.I_REQ)) (F32.ofInt ns))).natAbs
    else ns
  let w := c.weighted + add
  (s.setRegs [(Item.CHG.TIMER_NOM, nw (w / 1000000000)), (Item.CHG.TIMER_WALL, nw ((s.time.now - c.stepAt) / 1000000000))]).setCharge
    { c with weighted := w, advanced := s.time.now }

/-- The ramp of step 1 of a hand-over: the target falls to 0 over RAMP_DOWN_T. -/
def State.handRamp (s : State) (h : HandRun) (ns : Nat) : State :=
  let len := s.regN Item.CHG.RAMP_DOWN_T * 1000000
  let left := h.since + len - (s.time.now - ns)
  if h.step ≠ 1 then s
  else if left ≤ ns then s.setReg Item.CHG.I_TGT 0
  else s.setReg Item.CHG.I_TGT (F32.mul (s.reg Item.CHG.I_TGT) (F32.ofRat ((left - ns : Nat) : Int) left))

/-- The measured speed of Table 3-6 is not below 0.5 rpm (R16, R267): that of the port bound to the TRC sheaf, and it counts as not
below while that port's result is not VALID or no port is bound to it. -/
def State.driveFast (s : State) : Bool :=
  match s.trcSheaf with
  | some n =>
    (match s.portOf n with
     | some p => !bitOf (s.portStatus p) 15 || decide (500 ≤ (s.regI (Item.POS.SPEED p)).natAbs)
     | none => true)
  | none => true

/-- Whether CHGD1 waits to be started again alone (R326): CHGD0 has left RUN, and CHGD1 still follows its carrier or has been stopped
with it. -/
def State.resyncDue (s : State) : Bool :=
  match s.bridges with
  | d0 :: d1 :: _ =>
    s.charge.running && !s.runs d0 && decide (s.regN (Item.PWM.SYNC_SHEAF d1) = d0) && !(s.sheaf d1).held
      && decide ((s.sheaf d1).state = .run ∨ (s.sheaf d1).state = .ready)
  | _ => false

/-- CHARGER_UPDATE (R325, R331, R336 to R339, R345): every 10 ms firmware forms the input limit, the zone and step, request and target,
and takes an arm as far as it goes. A measured speed of 0.5 rpm or more ends CHARGE, with or without a session (Table 3-6). `checks` is
what a deferred step 3 finds where a sheaf starts in this update. -/
def execChargerUpdate (checks : List MidCheck) (s : State) : Host.Outcome State Fault Refusal :=
  .next (s.act (fun t00 =>
    if t00.chgf.isNone then t00
    else
      let t := t00.every Timer.charger 10000000
      let t0 := t.setReg Item.CHG.I_IN_LIM (nw t.inputCurrent)
      match t0.charge.hand with
      | some h => t0.handRamp h 10000000
      | none =>
        if t0.charge.running then
          let power : Bool := (match t0.chgf with | some n => t0.runs n | none => false) && (t0.bridges.any t0.runs || t0.resyncDue)
          if !power then t0.stopSession 4
          else if t0.driveFast then t0.stopSession 3
          else
            let amps := t0.batteryAmps
            let t1 := t0.chargeTimer amps
            let t2 := if t1.charge.mode = 0 then t1.chargeStep amps else t1
            if t2.charge.running then t2.setCeiling.chargeTarget 10000000 else t2
        else if t0.dev.state = .charge ∧ t0.driveFast then t0.stopSession 3
        else (t0.setReg Item.CHG.ZONE (nw t0.zone)).armAdvance (some checks)))

/-- The firmware tick of 1 ms on which the watchdog expires (R340, R341). -/
def State.watchdogDue (s : State) : Nat := (s.charge.watchdog + s.regN Item.CHG.WDT * 1000000 + 999999) / 1000000 * 1000000

/-- The watchdog expires: the fallback of R340 applies and is counted. -/
def State.watchdogExpires (s : State) : State :=
  ((s.setCharge { s.charge with fallback := true }).setCeiling).bump Item.CHG.WDT_CNT

/-- CHARGER_WATCHDOG (R340, R341): CHG.WDT without a restart while a session is armed. -/
def execChargerWatchdog (s : State) : Host.Outcome State Fault Refusal :=
  .next (s.act (fun t => if !t.armed ∨ t.charge.fallback then t else (t.reach t.watchdogDue).watchdogExpires))

/-- The watchdog restarts (R340); where it has expired on the tick of the command, the fallback has been applied and counted before
(R341). -/
def State.restartWatchdog (s : State) : State :=
  let s1 := if s.armed ∧ !s.charge.fallback ∧ s.watchdogDue ≤ s.time.now then s.watchdogExpires else s
  s1.setCharge { s1.charge with watchdog := s1.time.now, fallback := false }

/-- SAFETY_TIMER_EXPIRY (R343): the weighted time of the step reaches TIMER_k, or its wall-clock time twice that. -/
def execSafetyTimerExpiry (s : State) : Host.Outcome State Fault Refusal :=
  .next (s.act (fun t =>
    let c := t.charge
    if !c.running ∨ c.mode ≠ 0 then t
    else
      let len := t.regN (Item.CHG.TIMER (t.regN Item.CHG.STEP)) * 60000000000
      let limiting := F32.lt (t.reg Item.CHG.I_TGT) (t.reg Item.CHG.I_REQ)
      let due := Nat.min (c.stepAt + 2 * len) (if limiting then c.stepAt + 2 * len else c.advanced + (len - c.weighted))
      let t1 := if len ≤ c.weighted then t else t.reach due
      t1.stopSession 7))

/-- CHGD0_STOP_RESYNC (R326): CHGD0 has left RUN while CHGD1 follows its carrier; CHGD1 stops, takes the period of CHGD0 as its own, and
starts again alone after its deferred step 3. -/
def execChgd0StopResync (checks : List MidCheck) (s : State) : Host.Outcome State Fault Refusal :=
  .next (s.act (fun t =>
    match t.bridges with
    | d0 :: d1 :: _ =>
      if !t.resyncDue then t
      else
        let old := t.reg (Item.PWM.SYNC_SHEAF d1)
        let h := t.sheaf d1
        let t1 := (t.stopCarrier d1).setSheaf d1 { h with state := .ready, stop := none, starting := false }
        let t2 := t1.setRegs [(Item.PWM.SYNC_SHEAF d1, 15), (Item.PWM.PERIOD d1, t.reg (Item.PWM.PERIOD_NOW d0))]
        let t3 := t2.setCharge { t2.charge with alone := true, sync := some (t2.charge.sync.getD old) }
        let t4 := (t3.reach (t3.time.now + 2000000)).chargerStart d1 (t3.bind.legsOf d1) checks
        t4.1
    | _ => t))

end Sys2Proof.Machine
end

