-- ==== Sys2Proof/Machine/Actuators.lean ====
section
/-! DEFINITION. The gearbox actuators (chapter Gearbox Actuators): MOVE, homing and span learning, stalls, the park-lock proof. -/

namespace Sys2Proof.Machine

/-- Reasons of Table 14-8. -/
abbrev Reason.notHomed : Nat := 83
abbrev Reason.homeFail : Nat := 84
abbrev Reason.engageSpeed : Nat := 85
abbrev Reason.torque : Nat := 86
abbrev Reason.jam : Nat := 87
abbrev Reason.follow : Nat := 88

/-- The fault unit of an actuator. -/
abbrev actUnit (k : Nat) : Nat := unitOf Kind.actuator k

/-- The POSN lane of an actuator's sheaf, and its generator. -/
def State.actLane (s : State) (n : Nat) : Nat := ((s.lanesOf n).find? (fun m => decide (s.regN (Item.LOOP.TYPE m) = 6))).getD 32
def State.actGen (s : State) (n : Nat) : Nat := ((s.generatorsOf n).head?).getD 4

/-- Whether the two lanes of an actuator are CLOSED (Table 14-2). -/
def State.actClosed (s : State) (n : Nat) : Bool :=
  let l := s.lanesOf n
  let closed (ty : Nat) : Bool := l.any (fun m => decide (s.regN (Item.LOOP.TYPE m) = ty) && s.laneClosed m)
  closed 1 && closed 6

/-- Whether the traction machine stands still enough to engage the park lock (Table 14-2, check 4): the port of the TRC sheaf is VALID
and below ENGAGE_RPM. -/
def State.engageSpeedOk (s : State) (k : Nat) : Bool :=
  match s.trcSheaf.bind s.portOf with
  | some p => s.portValid p
      && decide ((s.regI (Item.POS.SPEED p)).natAbs < s.regN (Item.ACT.ENGAGE_RPM k) * 500)
  | none => false

/-- Whether the traction torque allows a drum shift (Table 14-2, check 6). -/
def State.shiftTorqueOk (s : State) (k : Nat) : Bool :=
  match s.trcSheaf with
  | some n => if (s.sheaf n).state = .run then F32.le (F32.abs (s.reg (Item.LOOP.Y 6 7))) (s.reg (Item.ACT.SHIFT_T_MAX k)) else true
  | none => true

/-- The start checks of a MOVE (R394, Table 14-2), in order: 0 where all pass, else the reason of the INVALID completion. -/
def State.moveCheck (s : State) (k op : Nat) (target vmax amax : Word) (defined : Bool) : Nat :=
  let park := decide (s.parkActuator = some k)
  let toEngage := F32.same target (s.reg (Item.ACT.POS k 0))
  match s.actSheaf k with
  | none => Reason.unit
  | some n =>
    if !F32.le vmax (s.reg (Item.ACT.VMAX k)) ∨ !F32.le amax (s.reg (Item.ACT.AMAX k)) ∨ !F32.lt 0 vmax ∨ !F32.lt 0 amax then Reason.range
    else if (s.sheaf n).state ≠ .run ∨ !s.actClosed n then Reason.notReady
    else if op ≤ 2 ∧ !s.homed k then Reason.notHomed
    else if !defined then Reason.range
    else if park ∧ toEngage ∧ !s.engageSpeedOk k then Reason.engageSpeed
    else if park ∧ !toEngage ∧ s.dev.state = .charge then Reason.park
    else if !park ∧ !s.shiftTorqueOk k then Reason.torque
    else 0

/-- Changing the MOVE in progress. -/
def State.setMove (s : State) (k : Nat) (m : Option MoveRun) : State := s.setActuator k { s.actuator k with move := m }

/-- A MOVE enters one of its steps. -/
def State.toStep (s : State) (k : Nat) (m : MoveRun) (step : Nat) : State := s.setMove k (some { m with step := step, since := s.time.now })

/-- The generator of an actuator in position mode toward a target (Table 14-3, step 4); one that was idle starts from the measured
position (R295). -/
def State.driveTo (s : State) (k g : Nat) (m : MoveRun) (target : Word) : State :=
  let s1 := s.setRegs [(Item.PROF.VMAX g, m.vmax), (Item.PROF.AMAX g, m.amax), (Item.PROF.DMAX g, m.amax),
    (Item.PROF.JMAX g, s.reg (Item.ACT.JMAX k)), (Item.PROF.TARGET g, target), (Item.PROF.CMD g, 0), (Item.PROF.MODE g, 1),
    (Item.PROF.STATUS g, s.reg (Item.PROF.STATUS g) &&& 0xFFFFFFFE)]
  if s.regN (Item.PROF.MODE g) = 0 then s1.initGenerator g else s1

/-- The generator taken through MODE 0 and back to 1 (R392, R397): it stands at the measured position. -/
def State.resync (s : State) (g : Nat) : State := (s.setRegs [(Item.PROF.MODE g, 1), (Item.PROF.TARGET g, s.reg (Item.PROF.X g))]).initGenerator g

/-- The generator in speed mode toward an end stop (R392): forward or reverse at HOME_V. -/
def State.driveHome (s : State) (k g : Nat) (m : MoveRun) (forward : Bool) : State :=
  let v := s.reg (Item.ACT.HOME_V k)
  let s1 := s.setRegs [(Item.PROF.VMAX g, F32.max m.vmax v), (Item.PROF.AMAX g, m.amax), (Item.PROF.DMAX g, m.amax),
    (Item.PROF.JMAX g, s.reg (Item.ACT.JMAX k)), (Item.PROF.V_SET g, if forward then v else F32.neg v), (Item.PROF.CMD g, 0),
    (Item.PROF.MODE g, 2)]
  if s.regN (Item.PROF.MODE g) = 0 then s1.initGenerator g else s1

/-- The generator commanded to stop. -/
def State.genStop (s : State) (g : Nat) : State := s.setReg (Item.PROF.CMD g) 1

/-- Step 4 of Table 14-3, or the search of R392. DEDUCED: assumption log 60. -/
def State.moveDrive (s : State) (k n : Nat) (m : MoveRun) : State :=
  let g := s.actGen n
  if m.op ≥ 3 then (s.driveHome k g m (decide (s.regN (Item.ACT.HOME_DIR k) = 1))).toStep k m 10
  else (s.driveTo k g m m.target).toStep k m 4

/-- Step 3 of Table 14-3: a PARK actuator has its latch lifted, unless it is. -/
def State.moveLatch (s : State) (k n : Nat) (m : MoveRun) : State :=
  if s.parkActuator = some k then
    if (s.actuator k).lifted ∧ (s.out 5).on then s.moveDrive k n m
    else (s.requestAs 2 5 true).toStep k m 3
  else s.moveDrive k n m

/-- A MOVE whose checks have passed begins (Table 14-3, step 2). -/
def State.moveBegin (s : State) (k n : Nat) (m : MoveRun) : State :=
  if s.time.now < s.pauseFor k (F32.same m.target (s.reg (Item.ACT.POS k 0))) then s.toStep k m 2 else s.moveLatch k n m

/-- Whether a leg of an actuator's sheaf throttles it (R468). -/
def State.actThrottled (s : State) (n : Nat) : Bool := s.throttled (s.bind.legsOf n)

/-- A MOVE ends (R396, Table 14-3, step 7): its command completes, the pauses start, the park proof is evaluated (step 6), and a thermal
stop that waited for it goes on. -/
def State.endMove (s : State) (k n code reason : Nat) (result : List Byte) : State :=
  let a := s.actuator k
  let now := s.time.now
  let s1 := s.setActuator k { a with
    move := none
    pauseEnd := now + s.regN (Item.ACT.PAUSE_MIN k) * 1000000
    thermEnd := if s.actThrottled n then now + s.regN Item.THM.ACT_PAUSE * 1000000 else a.thermEnd
    proved := s.parkProved k
    stopAfter := false }
  let s2 := s1.endSequences (fun q => decide (q.kind = .move) && decide (actUnit k ∈ q.units)) code reason (fun _ => result)
  if a.stopAfter then s2.orderlyStop n false else s2

/-- A homing that fails (R392, R416): the generator stops, the actuator is not homed, class F. -/
def State.homeFail (s : State) (k n : Nat) (forced : Bool) : State :=
  let s1 := s.genStop (s.actGen n)
  let s2 := s1.setActuator k { s1.actuator k with homed := false }
  (s2.endMove k n Code.invalid Reason.homeFail []).detect (actUnit k) .F 3 forced

/-- Whether the supervisor's position of a HALL actuator disagrees with the port's after homing (R416). -/
def State.homeDisagrees (s : State) (k : Nat) : Bool :=
  decide (s.portMode (s.actPort k) = 4)
    && decide (s.regI (Item.SAFE.SLP_XTOL) < (s.regI (Item.SAFE.ACT_POS k) - s.portX (s.actPort k) * 1000 / 2 ^ 24).natAbs)

/-- The end of a MOVE that arrived, or that was being ended (Table 14-3, steps 6 and 7). -/
def State.moveDone (s : State) (k n : Nat) (m : MoveRun) : State :=
  match m.ending with
  | some (code, reason) => s.endMove k n code reason []
  | none =>
    if m.op ≥ 3 ∧ s.homeDisagrees k then s.homeFail k n false
    else
      let s1 := if m.op ≥ 3 then s.setActuator k { s.actuator k with homed := true } else s
      let s2 := if m.auto then s1 else s1.bump (Item.ACT.MOVE_CNT k)
      s2.endMove k n Code.ok Reason.none (wordBytes (s2.actPos k))

/-- Step 6 of Table 14-3: a PARK actuator has its latch dropped; another is done. -/
def State.moveArrived (s : State) (k n : Nat) (m : MoveRun) : State :=
  if s.parkActuator = some k then
    let s1 := s.requestAs 2 5 false
    (s1.setActuator k { s1.actuator k with lifted := false }).toStep k m 6
  else s.moveDone k n m

/-- The abort action of a MOVE (R125, R398): CMD stop, then, once the generator is at rest, step 6 for a PARK actuator. One that waits
for its pause or its latch has nothing to stop. -/
def State.abortMove (s : State) (k n code reason : Nat) : State :=
  match (s.actuator k).move with
  | none => s.endMove k n code reason []
  | some m =>
    let e : MoveRun := { m with ending := some (code, reason) }
    if m.step = 2 then s.endMove k n code reason []
    else if m.step = 6 then s.setMove k (some e)
    else if m.step = 3 then s.moveArrived k n e
    else (s.genStop (s.actGen n)).toStep k e 13

/-- What homing assigns at the stop (R392, R416): HOME_POS to the measured position, and for a port in HALL mode to the supervisor's
own count. DEDUCED: assumption log 59. -/
def State.assignHome (s : State) (k : Nat) : State :=
  let p := s.actPort k
  let w := s.reg (Item.ACT.HOME_POS k)
  let d := F32.toIntScaled w (2 ^ 24) 1 - s.portX p
  let r := s.port p
  let s1 := s.setPort p { r with
    home := r.home + d
    latches := r.latches.map (fun q => (q.1, q.2.map (fun x => { x with pos := x.pos + d, angleE := s.angleE p (x.pos + d) }))) }
  if s.portMode p = 4 then
    let c := KMap.get (fun _ => (0 : Int)) s.sup.actCount k
    { s1 with sup := { s1.sup with actRef := KMap.put (fun _ => 0) s1.sup.actRef k (F32.toIntScaled w (2 ^ 24) 1 - c) } }.setReg
      (Item.SAFE.ACT_POS k) (iw (F32.toIntScaled w 1000 1))
  else s1

/-- The homing without a command at the first entry to RUN after POWERUP (R392). -/
def State.autoHome (s : State) (n : Nat) : State :=
  if s.stype n = SType.act ∧ (s.sheaf n).state = .run then
    let k := s.actOf n
    let a := s.actuator k
    let vm := s.reg (Item.ACT.VMAX k)
    let am := s.reg (Item.ACT.AMAX k)
    let home := s.reg (Item.ACT.POS k 0)
    if a.ran then s
    else
      let s1 := s.setActuator k { a with ran := true }
      if s.regN (Item.ACT.AUTO_HOME k) = 1 ∧ s.regN (Item.ACT.HOME_MODE k) = 1 ∧ a.move.isNone
          ∧ s.moveCheck k 3 home vm am (F32.finite home) = 0 then
        s1.moveBegin k n { op := 3, target := home, vmax := vm, amax := am, step := 1, since := s.time.now, retries := 0, auto := true,
                           ending := none }
      else s1
  else s

/-- The measured position of the end stop opposite to HOME_DIR, as a span from HOME_POS (R392, R393). -/
def State.learnSpan (s : State) (k : Nat) : State :=
  let span := F32.abs (F32.sub (s.actPos k) (s.reg (Item.ACT.HOME_POS k)))
  let s1 := s.setReg (Item.ACT.SPAN_MEAS k) span
  if F32.lt span (s.reg (Item.ACT.SPAN_MIN k)) ∨ F32.lt (s.reg (Item.ACT.SPAN_MAX k)) span then s1.raise (actUnit k) .W 17 else s1

/-! ## Rows -/

/-- A command of an actuator that concerns its MOVE in progress. -/
def State.onMove (s : State) (k : Nat) (f : State → Nat → MoveRun → State) : State :=
  match s.actSheaf k, (s.actuator k).move with
  | some n, some m => f s n m
  | _, _ => s

/-- MOVE_PAUSE_END (R396): PAUSE_LEFT has counted down. -/
def execMovePauseEnd (actuator : Fin 2) (s : State) : Host.Outcome State Fault Refusal :=
  .next (s.act (fun t => t.onMove actuator (fun t n m =>
    let k := actuator.val
    if m.step = 2 then (t.reach (t.pauseFor k (F32.same m.target (t.reg (Item.ACT.POS k 0))))).moveLatch k n m else t)))

/-- LATCH_WAIT_END (Table 14-3, steps 3 and 6): LATCH_T after the request the latch is lifted, or dropped. -/
def execLatchWaitEnd (actuator : Fin 2) (s : State) : Host.Outcome State Fault Refusal :=
  .next (s.act (fun t => t.onMove actuator (fun t n m =>
    let k := actuator.val
    let t1 := t.reach (m.since + t.regN (Item.ACT.LATCH_T k) * 1000000)
    if m.step = 3 then (t1.setActuator k { t1.actuator k with lifted := true }).moveDrive k n m
    else if m.step = 6 then t1.moveDone k n m
    else t)))

/-- Whether a generator has reached its target (R294): DONE stands, or its tolerances are met. -/
def State.genDone (s : State) (g : Nat) : Bool :=
  bitOf (s.reg (Item.PROF.STATUS g)) 0
  || (decide (s.regN (Item.PROF.MODE g) = 1)
      && F32.le (F32.abs (F32.sub (s.reg (Item.PROF.TARGET g)) (s.reg (Item.PROF.X g)))) (s.reg (Item.PROF.POS_TOL g))
      && F32.le (F32.abs (s.reg (Item.PROF.V g))) (s.reg (Item.PROF.VEL_TOL g)))

/-- GENERATOR_DONE (R294, Table 14-3, R397): x is the target, v and a are 0, DONE is set; a MOVE goes from moving to settling, or from
backing off to its original target. -/
def execGeneratorDone (generator : Fin 4) (s : State) : Host.Outcome State Fault Refusal :=
  .next (s.act (fun t =>
    let g := generator.val
    let n := t.bind.profSheaf.getD g 15
    if n ≥ 12 ∨ (t.sheaf n).state ≠ .run ∨ !t.genDone g then t
    else
      let w := t.reg (Item.PROF.STATUS g)
      let t1 := t.setRegs [(Item.PROF.X g, t.reg (Item.PROF.TARGET g)), (Item.PROF.V g, 0), (Item.PROF.A g, 0),
        (Item.PROF.STATUS g, (w ||| 1) &&& 0xFFFFFFF5)]
      if t.stype n = SType.act ∧ t.actGen n = g then
        let k := t.actOf n
        t1.onMove k (fun t n m =>
          if m.step = 4 then t.toStep k m 5
          else if m.step = 12 then (t.driveTo k (t.actGen n) m m.target).toStep k m 4
          else t)
      else t1))

/-- When the settling condition of a MOVE in step 5 will have held for SETTLE_T, on the 1 ms tick that evaluates it (R398); none while
ERR_A lies outside POS_BAND. -/
def State.settleTick (s : State) (k n : Nat) (m : MoveRun) : Option Nat :=
  if F32.le (F32.abs (s.reg (Item.LOOP.ERR_A (s.actLane n)))) (s.reg (Item.ACT.POS_BAND k)) then
    let t := Nat.max m.since ((s.actuator k).bandSince.getD m.since) + s.regN (Item.ACT.SETTLE_T k) * 1000000
    some ((t + 999999) / 1000000 * 1000000)
  else none

/-- A MOVE whose settling condition has been met by the present tick is completed before that tick's commands are executed (R398). -/
def State.settleFirst (s : State) (k n : Nat) : State :=
  match (s.actuator k).move with
  | some m =>
    match s.settleTick k n m with
    | some t => if m.step = 5 ∧ t ≤ s.time.now then s.moveArrived k n m else s
    | none => s
  | none => s

/-- MOVE_SETTLED (Table 14-3, R398): the settling condition has held for SETTLE_T, or the generator of a MOVE that is being ended is at
rest (R398). -/
def execMoveSettled (actuator : Fin 2) (s : State) : Host.Outcome State Fault Refusal :=
  .next (s.act (fun t => t.onMove actuator (fun t n m =>
    let k := actuator.val
    let g := t.actGen n
    if m.step = 5 then
      match t.settleTick k n m with
      | some tick => (t.reach tick).moveArrived k n m
      | none => t
    else if m.step = 13 ∧ F32.same (t.reg (Item.PROF.V g)) 0 ∧ F32.same (t.reg (Item.PROF.A g)) 0 then t.moveArrived k n m
    else t)))

/-- MOVE_TORQUE_CHECK (R395): every 1 ms, check 6 again in steps 4 and 5 of a drum MOVE. -/
def execMoveTorqueCheck (actuator : Fin 2) (s : State) : Host.Outcome State Fault Refusal :=
  .next (s.act (fun t0 => (t0.every (Timer.shiftTorque actuator.val) 1000000).onMove actuator (fun t n m =>
    let k := actuator.val
    if (m.step = 4 ∨ m.step = 5) ∧ t.parkActuator ≠ some k ∧ !t.shiftTorqueOk k then
      (t.genStop (t.actGen n)).endMove k n Code.invalid Reason.torque []
    else t)))

/-- ACTUATOR_STALL (R397): a stall that has held for STALL_T. It backs off and retries, or after RETRY_N retries is a jam. -/
def execActuatorStall (actuator : Fin 2) (s : State) : Host.Outcome State Fault Refusal :=
  .next (s.act (fun t0 => t0.onMove actuator (fun t0 n m =>
    let k := actuator.val
    let g := t0.actGen n
    let f := t0.forceArmed (actUnit k) 0
    let begun := if f then m.since else Nat.max m.since ((t0.actuator k).stallSince.getD m.since)
    let t := t0.reach (begun + t0.regN (Item.ACT.STALL_T k) * 1000000)
    if (m.step ≠ 4 ∧ m.step ≠ 12) ∨ !(t0.stalled k (t0.actLane n) || f) then t0
    else if m.retries < t.regN (Item.ACT.RETRY_N k) then
      let dir := F32.sgn (F32.sub (t.reg (Item.PROF.TARGET g)) (t.actPos k))
      let t1 := (t.bump (Item.ACT.STALL_CNT k)).detect (actUnit k) .W 16 f
      let t2 := t1.resync g
      let back := F32.sub (t2.reg (Item.PROF.X g)) (F32.mul dir (t2.reg (Item.ACT.BACKOFF k)))
      (t2.driveTo k g m back).toStep k { m with retries := m.retries + 1 } 12
    else
      let t1 := ((t.bump (Item.ACT.JAM_CNT k)).useForce (actUnit k) 0).resync g
      let t2 := t1.setReg (Item.PROF.TARGET g) (t1.reg (Item.PROF.X g))
      (t2.endMove k n Code.invalid Reason.jam []).detect (actUnit k) .F 1 f)))

/-- FOLLOWING_ERROR (R398): outside homing, the generator and the measured position differ by more than FOLLOW_MAX. -/
def execFollowingError (actuator : Fin 2) (s : State) : Host.Outcome State Fault Refusal :=
  .next (s.act (fun t =>
    let k := actuator.val
    match t.actSheaf k with
    | none => t
    | some n =>
      let a := t.actuator k
      let g := t.actGen n
      let homing : Bool := match a.move with | some m => decide (m.step = 10 ∨ m.step = 11) | none => false
      let f := t.forceArmed (actUnit k) 1 && a.move.isSome
      let off := F32.lt (t.reg (Item.ACT.FOLLOW_MAX k)) (F32.abs (F32.sub (t.reg (Item.PROF.X g)) (t.actPos k)))
      if (t.sheaf n).state ≠ .run ∨ t.regN (Item.PROF.MODE g) = 0 ∨ homing ∨ !(off || f) then t
      else
        let t1 := (t.genStop g).useForce (actUnit k) 1
        let t2 := if a.move.isSome then t1.endMove k n Code.invalid Reason.follow [] else t1
        t2.detect (actUnit k) .F 2 f))

/-- HOMING_STOP (R392, R393): ERR_A has exceeded HOME_ERR for 10 ms. At the first stop HOME_POS is assigned; learning then drives the
other way, and its second stop gives the span. Then the actuator moves to POS_0. -/
def execHomingStop (actuator : Fin 2) (s : State) : Host.Outcome State Fault Refusal :=
  .next (s.act (fun u => u.onMove actuator (fun u n m =>
    let k := actuator.val
    let g := u.actGen n
    let t := u.reach (Nat.max m.since ((u.actuator k).errSince.getD m.since) + 10000000)
    if (m.step ≠ 10 ∧ m.step ≠ 11) ∨ u.forceArmed (actUnit k) 3
        ∨ !F32.lt (u.reg (Item.ACT.HOME_ERR k)) (F32.abs (u.reg (Item.LOOP.ERR_A (u.actLane n)))) then u
    else
      let t0 := t.genStop g
      let t1 := if m.step = 10 then t0.assignHome k else t0.learnSpan k
      let t2 := t1.resync g
      if m.step = 10 ∧ m.op = 4 then
        (t2.driveHome k g m (decide (t2.regN (Item.ACT.HOME_DIR k) ≠ 1))).toStep k m 11
      else (t2.driveTo k g m m.target).toStep k m 4)))

/-- HOMING_TIMEOUT (R392): no stop within HOME_TMAX. -/
def execHomingTimeout (actuator : Fin 2) (s : State) : Host.Outcome State Fault Refusal :=
  .next (s.act (fun t => t.onMove actuator (fun t n m =>
    let k := actuator.val
    if m.step = 10 ∨ m.step = 11 then
      let f := t.forceArmed (actUnit k) 3
      ((t.reach (m.since + t.regN (Item.ACT.HOME_TMAX k) * 1000000)).useForce (actUnit k) 3).homeFail k n f
    else t)))

/-- PARK_PROOF_LOST (R401): a condition of R400 that held is lost without a running MOVE; in CHARGE the session stops with cause PARK. -/
def execParkProofLost (actuator : Fin 2) (s : State) : Host.Outcome State Fault Refusal :=
  .next (s.act (fun t =>
    let k := actuator.val
    let a := t.actuator k
    if t.parkActuator ≠ some k ∨ a.move.isSome then t
    else if t.parkProved k then t.setActuator k { a with proved := true }
    else if !a.proved then t
    else
      let t1 := (t.setActuator k { a with proved := false }).detect (actUnit k) .W 18 (t.forced (actUnit k) 2)
      if t.dev.state = .charge then t1.stopSession 3 else t1))

end Sys2Proof.Machine
end

