-- ==== Sys2Proof/Machine/Auxiliary.lean ====
section
/-! DEFINITION. The auxiliary sheaves AUXI and AUXB: cycle-by-cycle limit, diode emulation, SYNCIN, setpoints, start attempts and
hiccups; the SHIP contact and the LVSW latch (chapter Auxiliary Converter and Low-voltage Path). -/

namespace Sys2Proof.Machine

/-! ## Measured quantities -/

/-- The auxiliary sheaf of a command: AUXB where `buck`, else AUXI. -/
def State.auxSheaf (s : State) (buck : Bool) : Option Nat := s.bind.sheafOfType (if buck then SType.auxb else SType.auxi)

/-- Its course beside its registers. -/
def State.auxRun (s : State) (buck : Bool) : AuxRun := if buck then s.auxB else s.auxI

/-- Replacing that course. -/
def State.setAuxRun (s : State) (buck : Bool) (x : AuxRun) : State := if buck then { s with auxB := x } else { s with auxI := x }

/-- Its state item. -/
abbrev auxStateItem (buck : Bool) : Nat := if buck then Item.AUX.B_STATE else Item.AUX.I_STATE

/-- Its voltage lane (R358). -/
abbrev auxLane (buck : Bool) : Nat := if buck then 13 else 12

/-- Its target in volts: AUX.V48_REF or AUX.V12_REF, in tenths. -/
def State.auxTarget (s : State) (buck : Bool) : Word :=
  F32.ofRat (s.regI (if buck then Item.AUX.V12_REF else Item.AUX.V48_REF)) 10

/-- Its minimum input in 0.1 V: AUX.I_VIN_MIN of DC0 (volts), AUX.B_VIN_MIN of the 48 V bus (R378, R380). -/
def State.auxInputMin (s : State) (buck : Bool) : Nat :=
  if buck then s.regN Item.AUX.B_VIN_MIN else s.regN Item.AUX.I_VIN_MIN * 10

/-- Its input in 0.1 V, DC0 or the 48 V bus at AIN00, and its output, as the lanes' sources measure them (Table 13-3). -/
def State.auxInput (s : State) (buck : Bool) : Int :=
  if buck then F32.toInt (F32.mul (s.laneSource 12 0) (F32.ofInt 10)) else s.dcLink 0
def State.auxOutput (s : State) (buck : Bool) : Int := F32.toInt (F32.mul (s.laneSource (auxLane buck) 0) (F32.ofInt 10))

/-- Its limited-period limit, its pause in ms, its soft-start time in ms. -/
def State.hiccupN (s : State) (buck : Bool) : Nat := s.regN (if buck then Item.AUX.HICCUP_N else Item.AUX.I_HICCUP_N)
def State.hiccupOff (s : State) (buck : Bool) : Nat := s.regN (if buck then Item.AUX.HICCUP_OFF else Item.AUX.I_HICCUP_OFF)
def State.softStartMs (s : State) (buck : Bool) : Nat := s.regN (if buck then Item.AUX.B_SS_T else Item.AUX.I_SS_T)

/-! ## Cycle-by-cycle limit and diode emulation -/

/-- Whether the cycle-by-cycle limit acts on a leg (R365): AUXI positions 0 and 1, every AUXB phase. -/
def State.limitActs (s : State) (n leg : Nat) : Bool :=
  (decide (s.stype n = SType.auxi) && decide (s.bind.position leg < 2) && decide (s.regN Item.AUX.I_CBC_EN = 1))
  || (decide (s.stype n = SType.auxb) && decide (s.regN Item.AUX.B_CBC_EN = 1))

/-- The key of the period of a leg in which a fine instant falls. -/
def State.pulseAt (s : State) (leg f : Nat) : Nat := if (s.pulse leg).start ≤ f then leg else previousPulse leg

/-- A pulse cut short to a length (R365). -/
def Pulse.cutTo (x : Pulse) (len : Nat) : Pulse := { x with cmp := some len, cut := true }

/-- What a cut of a primary leg of AUXI does to the other one (R366): its next on interval is no longer than the cut one. -/
def State.capOther (s : State) (n leg len : Nat) : State :=
  if s.stype n ≠ SType.auxi then s
  else if s.bind.position leg = 0 then
    let o := leg + 1
    let x := s.pulse o
    match x.cmp with
    | some c => if len < c then s.setPulse o { x with cmp := some len } else s
    | none => s
  else { s with auxI := { s.auxI with cap := some len } }

/-- CYCLE_LIMIT (R365, R366): the limit word of a leg is delivered on `tick` while its high side is on; that tick is the period's
effective compare, and the period is a limited one. -/
def execCycleLimit (leg : Fin 48) (tick : Nat) (s : State) : Host.Outcome State Fault Refusal :=
  .next (s.act (fun t =>
    match t.legSheaf leg with
    | none => t
    | some n =>
      let k := t.pulseAt leg (tick * 32)
      let x := t.pulse k
      let len := tick * 32 - x.start
      if !t.carries n ∨ !t.limitActs n leg ∨ !(t.leg leg).hs.command ∨ !decide (x.start ≤ tick * 32)
          ∨ !decide (len < x.cmp.getD 0) then t
      else
        let t1 := (t.reachTick tick).setPulse k (x.cutTo len)
        let t2 := t1.setReg (Item.PWM.CMP_NOW n (t.bind.position leg)) (nw len)
        let buck := decide (t.stype n = SType.auxb)
        (t2.setAuxRun buck { t2.auxRun buck with cut := true }).capOther n leg len))

/-- The diode emulation of AUXB by its output current (R373): entered below AUX.DE_I, left at 1.5 × DE_I. -/
def State.updateEmulation (s : State) : State :=
  let i := s.laneSource 13 1
  let de := F32.ofRat (s.regI Item.AUX.DE_I) 10
  let on := if s.auxB.emulating then F32.lt i (F32.mul 0x3FC00000 de) else F32.lt i de
  { s with auxB := { s.auxB with emulating := on } }

/-- Whether AUXB is in diode emulation (R373): always with DE_MODE 1, in soft start, or by its current with DE_MODE 2. -/
def State.emulates (s : State) : Bool :=
  decide (s.regN Item.AUX.DE_MODE = 1) || decide (s.regN Item.AUX.B_STATE = 1)
    || (decide (s.regN Item.AUX.DE_MODE = 2) && s.auxB.emulating)

/-- ZERO_CURRENT (R373): the zero-current word of an AUXB leg is delivered on `tick`, at least ZCD_BLANK after its low side turned
on; the low side is off to the leg's next period start. -/
def execZeroCurrent (leg : Fin 48) (tick : Nat) (s : State) : Host.Outcome State Fault Refusal :=
  .next (s.act (fun t0 =>
    match t0.legSheaf leg with
    | none => t0
    | some n =>
      let t := t0.updateEmulation
      let k := t.pulseAt leg (tick * 32)
      let x := t.pulse k
      let on := x.start + x.cmp.getD 0 + x.dtLs
      let l := t.leg leg
      if !t.carries n ∨ t.stype n ≠ SType.auxb ∨ !t.emulates ∨ !l.ls.command
          ∨ !decide (fineTime on + t.regN Item.AUX.ZCD_BLANK ≤ tickTime tick) then t
      else
        let t1 := (t.reachTick tick).setPulse k { x with zcd := true }
        t1.setLeg leg { l with ls := t1.turnOff leg l.ls }))

/-! ## SYNCIN -/

/-- Whether two intervals agree within AUX.SYNC_TOL percent (R363). DEDUCED: assumption log 45. -/
def intervalsAgree (tol a b : Nat) : Bool := decide (a * 100 ≤ b * (100 + tol)) && decide (b * (100 - tol) ≤ a * 100)

/-- SYNCIN_EDGE (R363, R364): a rising edge sampled on `tick`. Eight agreeing intervals start the acquisition; an edge within 2
ticks of a period start locks; an edge keeps a LOCKED fabric locked. The force bit SYNC hides it. -/
def execSyncinEdge (tick : Nat) (s : State) : Host.Outcome State Fault Refusal :=
  .next (s.act (fun t =>
    match t.bind.sheafOfType SType.auxb with
    | none => t
    | some n =>
      if t.forced (unitOf Kind.sheaf n) 2 then t
      else
        let x := t.syncIn
        let t1 := t.reachTick tick
        match x.edge with
        | none => { t1 with syncIn := { x with edge := some tick } }
        | some e =>
          let i := tick - e
          let r := periodRange SType.auxb
          let valid := decide (r.1 ≤ i * 32) && decide (i * 32 ≤ r.2)
          if !valid then { t1 with syncIn := { x with edge := some tick, agree := 0 } }
          else
            let agree := if intervalsAgree (t.regN Item.AUX.SYNC_TOL) i x.interval then x.agree + 1 else 1
            let t2 := { t1 with syncIn := { edge := some tick, interval := i, agree := agree, missed := 0 } }
            let runs := t.carries n && decide (t.regN (Item.PWM.PERIOD_SRC n) = 2)
            let c := (t.carrier n).start / 32
            let near := decide (c ≤ tick + 2) && decide (tick ≤ c + 2)
            match t.regN Item.AUX.SYNC_STATE with
            | 1 => if runs && near then t2.setReg Item.AUX.SYNC_STATE 2 else t2
            | 2 => t2
            | 3 => t2.setReg Item.AUX.SYNC_STATE 2
            | _ => if runs ∧ 8 ≤ agree then t2.setReg Item.AUX.SYNC_STATE 1 else t2))

/-- SYNCIN_LOSS (R364): four expected periods without an edge, one on the tick at which the fourth ends included; the fabric returns to its
own period. -/
def execSyncinLoss (s : State) : Host.Outcome State Fault Refusal :=
  .next (s.act (fun t =>
    match t.bind.sheafOfType SType.auxb with
    | none => t
    | some n =>
      if t.regN Item.AUX.SYNC_STATE = 3 ∧ 4 ≤ t.syncIn.missed then
        let u := unitOf Kind.sheaf n
        let t1 := t.reachTick ((t.carrier n).start / 32 + 1)
        (({ t1 with syncIn := { t1.syncIn with agree := 0, missed := 0 } }.setReg Item.AUX.SYNC_STATE 4).bump
          Item.AUX.SYNC_LOSS_CNT).detect u .W 19 (t.forced u 2)
      else t))

/-! ## Setpoints -/

/-- The setpoint of a soft-start ramp at the present time (R368). DEDUCED: assumption log 46. -/
def State.rampSetpoint (s : State) (buck : Bool) : Word :=
  let x := s.auxRun buck
  let len := s.softStartMs buck * 1000000
  let done := s.time.now - x.attemptFrom
  let target := s.auxTarget buck
  if len ≤ done then target
  else F32.add x.rampBase (F32.mul (F32.sub target x.rampBase) (F32.ofRat done len))

/-- One millisecond of a setpoint's slew (R361, R372): down toward a floor while over the limit, else up to the target. -/
def State.slewSetpoint (s : State) (buck : Bool) (over' : Bool) (floor : Word) : Word :=
  let d := F32.ofRat (s.regI Item.AUX.PLIM_SLEW) 10
  let v := s.reg (Item.LOOP.SETPT_A (auxLane buck))
  if over' then F32.max floor (F32.sub v d) else F32.min (s.auxTarget buck) (F32.add v d)

/-- The effective input power limit of AUXI and whether a hand-over with open contactors sets it (R361, Table 12-9). -/
def State.inputLimit (s : State) : Nat × Bool :=
  let p := s.regN Item.AUX.P_IN_LIM
  let h := s.regN Item.CHG.HO_AUX_P
  if s.charge.hand.isSome ∧ !((s.out 0).on && (s.out 1).on) ∧ h < p then (h, true) else (p, false)

/-- AUX_POWER_LIMIT (R361, R362, R368): every 1 ms the estimate, and the 48 V setpoint: its ramp during soft start, else
its slew against the limit. -/
def execAuxPowerLimit (s : State) : Host.Outcome State Fault Refusal :=
  .next (s.act (fun t0 =>
    if (t0.auxSheaf false).isNone then t0
    else
      let t := t0.every Timer.auxI 1000000
      let p := F32.div (F32.mul (t.laneSource 12 0) (t.laneSource 12 1)) (t.reg Item.AUX.EFF_I)
      let t1 := t.setReg Item.AUX.P_IN_EST (iw (max 0 (F32.toInt p)))
      let lim := t1.inputLimit
      let exceeds := F32.lt (F32.ofInt lim.1) p
      let cause := (t1.regN Item.AUX.I_LIMIT_CAUSE) % 4 / 2 * 2 + (if t1.regN Item.AUX.I_STATE = 4 then 1 else 0)
        + (if exceeds then (if lim.2 then 8 else 4) else 0)
      let t2 := t1.setReg Item.AUX.I_LIMIT_CAUSE (nw cause)
      match t2.regN Item.AUX.I_STATE with
      | 1 => t2.setReg (Item.LOOP.SETPT_A 12) (t2.rampSetpoint false)
      | 2 => t2.setReg (Item.LOOP.SETPT_A 12) (t2.slewSetpoint false exceeds (F32.ofRat (t2.regI Item.AUX.V48_MIN) 10))
      | _ => t2))

/-- AUXB_CURRENT_LIMIT (R368, R372, R373): every 1 ms the 12 V setpoint: its ramp during soft start, else its slew against AUX.I12_PH_MAX for
every phase that switches; the diode emulation by current. -/
def execAuxbCurrentLimit (s : State) : Host.Outcome State Fault Refusal :=
  .next (s.act (fun t0 =>
    match t0.auxSheaf true with
    | none => t0
    | some n =>
      let t := (t0.every Timer.auxB 1000000).updateEmulation
      let lim := F32.mul (F32.ofRat (t.regI Item.AUX.I12_PH_MAX) 10) (F32.ofInt (t.phasesOn n).length)
      match t.regN Item.AUX.B_STATE with
      | 1 => t.setReg (Item.LOOP.SETPT_A 13) (t.rampSetpoint true)
      | 2 => t.setReg (Item.LOOP.SETPT_A 13) (t.slewSetpoint true (F32.lt lim (t.laneSource 13 1)) 0)
      | _ => t))

/-! ## Attempts and hiccups -/

/-- A pause (R370): every leg without edge, the lanes held OPEN with their integrators at 0, to an end or until further notice. -/
def State.beginPause (s : State) (n : Nat) (buck : Bool) (until' : Option Nat) : State :=
  let s1 := (s.legsOff n).setReg (auxStateItem buck) 3
  let s2 := s1.setAuxRun buck { s1.auxRun buck with pauseEnd := until', limited := 0, consecutive := 0, cut := false }
  s2.forEach (s2.lanesOf n) (fun t m =>
    (t.setLane m { t.lane m with held := true }).setRegs [(Item.LOOP.INT_A m, 0), (Item.LOOP.INT_B m, 0)])

/-- A failed start (R370, R371): counted; the eighth in a row is a class-F fault of the sheaf, any other one is followed by a
pause. -/
def State.failedStart (s : State) (n : Nat) (buck : Bool) : State :=
  let run := if buck then Item.AUX.B_FAILSTART_RUN else Item.AUX.I_FAILSTART_RUN
  let k := Nat.min 8 (s.regN run + 1)
  let s1 := (s.setReg run (nw k)).bump (if buck then Item.AUX.B_FAILSTART_CNT else Item.AUX.I_FAILSTART_CNT)
  let u := unitOf Kind.sheaf n
  if k = 8 then s1.detect u .F 2 (s.forced u 0)
  else s1.beginPause n buck (some (s.time.now + s.hiccupOff buck * 1000000))

/-- SOFT_START_END (R368, R371): an attempt succeeds at the end of its ramp with the output within 5 %, and fails on limited periods
or 10 ms after the ramp. -/
def execSoftStartEnd (buck : Bool) (s : State) : Host.Outcome State Fault Refusal :=
  .next (s.act (fun t =>
    match t.auxSheaf buck with
    | none => t
    | some n =>
      let x := t.auxRun buck
      if (t.sheaf n).state ≠ .run ∨ t.auxState n ≠ 1 then t
      else
        let target := t.auxTarget buck
        let v := t.laneSource (auxLane buck) 0
        let ramp := x.attemptFrom + t.softStartMs buck * 1000000
        let near := F32.le (F32.abs (F32.sub v target)) (F32.mul 0x3D4CCCCD target)
        let t1 := t.reach ramp
        if t.hiccupN buck ≤ x.limited then t.failedStart n buck
        else if near then
          t1.setRegs [(auxStateItem buck, 2), (Item.LOOP.SETPT_A (auxLane buck), target),
            (if buck then Item.AUX.B_FAILSTART_RUN else Item.AUX.I_FAILSTART_RUN, 0)]
        else if ramp + 10000000 ≤ t1.time.now then t1.failedStart n buck
        else t1))

/-- RUNNING_HICCUP (R369, R370): HICCUP_N limited periods in a row after a successful start. -/
def execRunningHiccup (buck : Bool) (s : State) : Host.Outcome State Fault Refusal :=
  .next (s.act (fun t =>
    match t.auxSheaf buck with
    | none => t
    | some n =>
      if (t.sheaf n).state ≠ .run ∨ t.auxState n ≠ 2 ∨ (t.auxRun buck).consecutive < t.hiccupN buck then t
      else
        let t1 := (t.bump (if buck then Item.AUX.B_HICCUP_CNT else Item.AUX.I_HICCUP_CNT)).raise (unitOf Kind.sheaf n) .W 17
        t1.beginPause n buck (some (t.time.now + t.hiccupOff buck * 1000000))))

/-- The end of a pause: every compare of the sheaf unwritten (R204), and a start attempt. -/
def State.endPause (s : State) (n : Nat) : State :=
  (s.forEach (List.range 8) (fun t g => t.setGroup n g { t.group n g with cmp := [], phase := [] })).beginAttempt n

/-- HICCUP_PAUSE_END (R370): the pause has run; the 12 V reset keeps AUXB waiting (R385). -/
def execHiccupPauseEnd (buck : Bool) (s : State) : Host.Outcome State Fault Refusal :=
  .next (s.act (fun t =>
    match t.auxSheaf buck, (t.auxRun buck).pauseEnd with
    | some n, some e =>
      if (t.sheaf n).state ≠ .run ∨ t.auxState n ≠ 3 then t else (t.reach e).endPause n
    | _, _ => t))

/-- AUX_AUTO_START (R378): the input of a READY auxiliary sheaf has stood at its minimum or above for so many ms; after 100 the sheaf starts
without a command, after the deferred step 3, unless a SHEAF_STOP or a thermal hold (R467) is in force. -/
def execAuxAutoStart (buck : Bool) (ms : Nat) (checks : List MidCheck) (s : State) : Host.Outcome State Fault Refusal :=
  .next (s.act (fun t =>
    match t.auxSheaf buck with
    | none => t
    | some n =>
      let en := t.regN (if buck then Item.AUX.B_AUTO_START else Item.AUX.I_AUTO_START)
      if (t.sheaf n).state ≠ .ready ∨ en = 0 ∨ (t.sheaf n).held ∨ bitOf (t.reg Item.THM.TA_HOLD) (16 + n) ∨ !t.runPermitted n false
          ∨ t.auxInput buck < (t.auxInputMin buck : Int) ∨ ms < 100 then t
      else
        let r := t.deferredStep n checks
        if r.2 = 0 ∧ (r.1.sheaf n).state = .ready then r.1.startRun n else r.1))

/-- AUX_INPUT_LOW (R380): the input of a running sheaf has been below its minimum for so many µs; after 1,000 the sheaf stops to READY. -/
def execAuxInputLow (buck : Bool) (us : Nat) (s : State) : Host.Outcome State Fault Refusal :=
  .next (s.act (fun t =>
    match t.auxSheaf buck with
    | none => t
    | some n =>
      if (t.sheaf n).state ≠ .run ∨ (t.auxInputMin buck : Int) ≤ t.auxInput buck ∨ us < 1000 then t
      else ((t.setReg (auxStateItem buck) 4).raise (unitOf Kind.sheaf n) .W 18).sendStopWord n false))

/-- AUX_OUTPUT_OV (R381): the output has been above its over-voltage level for so many µs, at least 10, or the force bit OV makes a sample
read so; the sheaf sends its stop word, raises its class-F fault and is WINNOWED. -/
def execAuxOutputOv (buck : Bool) (us : Nat) (s : State) : Host.Outcome State Fault Refusal :=
  .next (s.act (fun t =>
    match t.auxSheaf buck with
    | none => t
    | some n =>
      let u := unitOf Kind.sheaf n
      let f := t.forceArmed u 3
      let level : Int := (t.regN (if buck then Item.AUX.V12_OV else Item.AUX.V48_OV) : Nat)
      if (t.sheaf n).state ≠ .run ∨ ((t.auxOutput buck ≤ level ∨ us < 10) ∧ !f) then t
      else (t.useForce u 3).detect u .F 3 f))

/-! ## SHIP and the LVSW latch -/

/-- SHIP_LEVEL_CHANGE (R385, R387): SHIP has stood at a level for so many ms, at least the 10 of its filter; going low starts the hold
timer, from when it went low, where it is armed and the device is not in TRANSPORT (R386); going high restarts it and arms it after a
wake. -/
def execShipLevelChange (low : Bool) (ms : Nat) (s : State) : Host.Outcome State Fault Refusal :=
  .next (s.always (fun t =>
    let l := t.lv
    if ms < 10 ∨ l.shipLow = low then t
    else if low then
      { t with lv := { l with shipLow := true, done10 := false, done20 := false,
                              shipFrom := if l.armed ∧ t.live then some (t.time.now - ms * 1000000) else none } }
    else { t with lv := { l with shipLow := false, shipFrom := none, armed := true, done10 := false, done20 := false } }))

/-- SHIP_HOLD_10S (R385, Table 13-7): AUXB without edges with its lanes OPEN, the latch opened for 2 s, in every device state. -/
def execShipHold10s (s : State) : Host.Outcome State Fault Refusal :=
  .next (s.act (fun t =>
    match t.lv.shipFrom with
    | none => t
    | some f =>
      if t.lv.done10 ∨ t.lv.phase then t
      else
        let t1 := (t.reach (f + 10000000000)).bump Item.AUX.LVSW_RESET_CNT
        let t2 := { t1 with lv := { t1.lv with done10 := true, latchOpen := true, phase := true, phaseFrom := t1.time.now } }
        match t2.auxSheaf true with
        | some n => if (t2.sheaf n).state = .run then t2.beginPause n true none else t2
        | none => t2))

/-- SHIP_RESET_END (R385, R388): the open phase has run its 2 s, whatever SHIP does; the latch recloses unless it is open for
TRANSPORT, and AUXB makes a start attempt. -/
def execShipResetEnd (s : State) : Host.Outcome State Fault Refusal :=
  .next (s.act (fun t =>
    if !t.lv.phase then t
    else
      let t1 := t.reach (t.lv.phaseFrom + 2000000000)
      let t2 := { t1 with lv := { t1.lv with phase := false, latchOpen := t1.lv.transport } }
      match t2.auxSheaf true with
      | some n => if (t2.sheaf n).state = .run then t2.endPause n else t2
      | none => t2))

/-- Entry to TRANSPORT (R84, R85, R386): every running sheaf stops, every sheaf that was in SAFE enters OFF, supplies and outputs off, the
controllers at rest, then the latch opens. -/
def State.enterTransport (s : State) : State :=
  let s0 := s.forEach (List.range 12) (fun t n =>
    if (t.sheaf n).state = .run then
      (t.stopCarrier n).setSheaf n { (t.stopCarrier n).sheaf n with state := .ready, stop := none, starting := false }
    else t)
  let s1 := s0.releaseSheaves
  let s2 := s1.supplies (List.range 48) false
  let s3 := s2.forEach (List.range 8) State.outOff
  let s4 := s3.setRegs ((List.range 4).map (fun k => (Item.CAN.STATE k, (0 : Word))))
  let s5 := { s4 with lv := { s4.lv with latchOpen := true, transport := true, phase := false, shipFrom := none } }
  s5.enterState .transport

/-- SHIP_HOLD_20S (R85, R386, Table 13-7): TRANSPORT from STANDBY or SAFE, a class-W warning in any other state. -/
def execShipHold20s (s : State) : Host.Outcome State Fault Refusal :=
  .next (s.act (fun t =>
    match t.lv.shipFrom with
    | none => t
    | some f =>
      let t0 := t.reach (f + 20000000000)
      let t1 := { t0 with lv := { t0.lv with done20 := true } }
      if t.lv.done20 then t
      else if t1.dev.state = .standby ∨ t1.dev.state = .safe then t1.enterTransport else t1.raise (unitOf Kind.device 0) .W 22))

end Sys2Proof.Machine
end

