-- ==== Sys2Proof/Machine/Accept.lean ====
section
/-! DEFINITION. Hosts and mailboxes: attachment and detachment, acceptance of messages, credits, completions
(chapter Hosts and Mailboxes). -/

namespace Sys2Proof.Machine

/-! ## Opcodes of Table 4-3 -/

abbrev Op.hostAttach : Nat := 0x0001
abbrev Op.timeQuery : Nat := 0x0002
abbrev Op.paramRead : Nat := 0x0010
abbrev Op.paramWrite : Nat := 0x0011
abbrev Op.swap : Nat := 0x0012
abbrev Op.claim : Nat := 0x0013
abbrev Op.prove : Nat := 0x0020
abbrev Op.sheafStart : Nat := 0x0021
abbrev Op.sheafStop : Nat := 0x0022
abbrev Op.winnow : Nat := 0x0023
abbrev Op.restore : Nat := 0x0024
abbrev Op.selftest : Nat := 0x0025
abbrev Op.force : Nat := 0x0026
abbrev Op.move : Nat := 0x0030
abbrev Op.chargeSet : Nat := 0x0031
abbrev Op.chargeArm : Nat := 0x0032
abbrev Op.nvCommit : Nat := 0x0040
abbrev Op.streamOpen : Nat := 0x0050
abbrev Op.streamClose : Nat := 0x0051

/-- The opcodes that are commands (R122). -/
def opcodes : List Nat :=
  [0x0001, 0x0002, 0x0010, 0x0011, 0x0012, 0x0013, 0x0020, 0x0021, 0x0022, 0x0023, 0x0024, 0x0025, 0x0026, 0x0030,
   0x0031, 0x0032, 0x0040, 0x0050, 0x0051]

/-- The sequence opcodes (Table 4-3, Kind). -/
def isSequence (op : Nat) : Bool := decide (op ∈ [0x0020, 0x0021, 0x0022, 0x0023, 0x0024, 0x0025, 0x0030, 0x0032, 0x0040])

/-- The right that Table 4-3 names for an opcode, where it names one outright. -/
def opcodeRight (op : Nat) : Option Nat :=
  match op with
  | 0x0002 => some Right.read
  | 0x0010 => some Right.read
  | 0x0020 => some Right.test
  | 0x0023 => some Right.test
  | 0x0024 => some Right.test
  | 0x0025 => some Right.test
  | 0x0026 => some Right.test
  | 0x0040 => some Right.image
  | 0x0050 => some Right.stream
  | 0x0051 => some Right.stream
  | _ => none

/-- The default timeout of an opcode in ms (Table 4-3). -/
def opcodeTimeout (op : Nat) : Nat :=
  match op with
  | 0x0001 => 100 | 0x0012 => 100 | 0x0020 => 500 | 0x0021 => 1000 | 0x0022 => 1000 | 0x0023 => 100 | 0x0024 => 500
  | 0x0025 => 1000 | 0x0030 => 5000 | 0x0032 => 10000 | 0x0040 => 100
  | _ => 10

/-- The unit kinds an opcode takes (Table 4-3, Table 4-6, R79, R436); the empty list: the opcode takes no unit. -/
def opcodeKinds (op : Nat) : List Nat :=
  match op with
  | 0x0012 => [0, 1]
  | 0x0020 => [0, 1, 2, 3]
  | 0x0021 => [1]
  | 0x0022 => [1]
  | 0x0023 => [1, 2, 3, 4, 5, 6, 7, 8, 9, 10, 11, 12]
  | 0x0024 => [1, 2, 3, 4, 5, 6, 7, 8, 9, 10, 11, 12, 13]
  | 0x0025 => [0, 2, 5, 6, 7, 9, 10, 11, 12, 13]
  | 0x0026 => [0, 1, 2, 4, 5, 6, 7, 8, 9, 10, 11, 12, 13]
  | 0x0030 => [4]
  | _ => []

/-- Whether the UNIT field suits the opcode (Table 4-6): 0 where it takes none, else an existing unit of a right kind.
DEDUCED: assumption log 80. -/
def State.unitSuits (s : State) (op u : Nat) : Bool :=
  if opcodeKinds op = [] then decide (u = 0)
  else decide (unitKind u ∈ opcodeKinds op) && s.unitExists u

/-- The opcodes that AT may be given with (R126). -/
def atAllowed (op : Nat) : Bool := decide (op ∈ [0x0011, 0x0012, 0x0021, 0x0022, 0x0030])

/-- The next occurrence of 48 time bits from now (R126). -/
def nextOccurrence (now : Nat) (at48 : Nat) : Nat := now + (at48 + 2 ^ 48 - now % 2 ^ 48) % 2 ^ 48

/-- The opcodes executed in LOCKED (R449). -/
def lockedAllowed (op : Nat) : Bool := decide (op ∈ [0x0001, 0x0002, 0x0010, 0x0050, 0x0051])

/-- The opcodes executed during PROOF (R71). -/
def proofAllowed (op : Nat) : Bool := decide (op ∈ [0x0001, 0x0002, 0x0010, 0x0050, 0x0051])

/-! ## Slots -/

/-- The lowest slot that suits an attaching partner (R103): one held for the same identity whose ports hold the arrival
port, else the lowest free one whose ports hold it and whose IDENT is 0 or the identity. On CAN the slot of the identifier is
considered alone (R491). -/
def State.chooseSlot (s : State) (port : Nat) (ident : Word) (only : Option Nat) : Option Nat :=
  let serves (n : Nat) : Bool := bitOf (s.reg (Item.HOST.PORTS n)) port && (only.isNone || decide (only = some n))
  match (List.range 8).find? (fun n => decide ((s.slot n).status = .held) && decide ((s.slot n).ident = ident) && serves n) with
  | some n => some n
  | none => (List.range 8).find? (fun n => decide ((s.slot n).status = .free) && serves n
      && (decide (s.reg (Item.HOST.IDENT n) = 0) || decide (s.reg (Item.HOST.IDENT n) = ident)))

/-- The attach counter of a slot (R104). -/
def State.attachCount (s : State) (slot : Nat) : Nat := KMap.get (fun _ => 0) s.store.attach slot

/-- Storing FRESH as a slot's attach counter (R104). -/
def State.setAttachCount (s : State) (slot v : Nat) : State :=
  { s with store := { s.store with attach := KMap.put (fun _ => 0) s.store.attach slot v } }

/-- The credits an attachment is granted: CREDIT_INIT, on CAN at most 16 (R493). -/
def State.grantedCredits (s : State) (slot port : Nat) : Nat :=
  if isCanPort port then Nat.min 16 (s.regN (Item.HOST.CREDIT_INIT slot)) else s.regN (Item.HOST.CREDIT_INIT slot)

/-- The 52 result bytes of an attach (chapter Hosts and Mailboxes). -/
def State.attachResult (s : State) (slot : Nat) (nonce : BitVec 128) : List Byte :=
  [BitVec.ofNat 8 slot, BitVec.ofNat 8 (s.regN (Item.HOST.ROLE slot))] ++ beBytes 2 (s.rights slot).toNat
    ++ beBytes 16 nonce.toNat ++ beBytes 2 s.runningIface ++ beBytes 2 (s.slot slot).credits
    ++ beBytes 8 Config.serial.toNat ++ List.replicate 20 0

/-- The record of an accepted attach: its completion occupies tag record 0 of the slot. -/
def attachRecord (msg : HostMsg) (order now : Nat) (result : List Byte) : CmdRec where
  state := .done
  msg := msg
  order := order
  accepted := now
  start := none
  code := 0
  reason := 0
  result := result
  completed := now
  sent := now

/-- An attach's completion takes tag record 0, or waits until the command that holds it has been collected (R112).
DESIGN CHOICE: assumption log 117. -/
def State.holdAttach (s : State) (slot : Nat) (r : CmdRec) : State :=
  if (s.cmd slot 0).isSome then s.setSlot slot { s.slot slot with later := some r } else s.setCmd slot 0 (some r)

/-- Freeing the record of a tag (R114). -/
def State.freeTag (s : State) (slot index : Nat) : State :=
  let h := s.slot slot
  if index = 0 then (s.setCmd slot 0 h.later).setSlot slot { h with later := none } else s.setCmd slot index none

/-- HOST_ATTACH with operation attach (R103 to R105, R112), before the host ports are enabled without effect (R71). On CAN the
result is cut to its first 32 bytes (R490). A message whose length is wrong is discarded and, no slot being known, counted nowhere
(R102). DESIGN CHOICE: assumption log 76. -/
def State.attach (s : State) (port : Nat) (only : Option Nat) (msg : HostMsg) : State :=
  let p := msg.payload
  let ident := nw (beAt p 4 4)
  if !s.dev.fwRunning then s
  else if msg.length.toNat ≠ p.length ∨ p.length > 1460 then s
  else if p.length ≠ 28 ∨ beAt p 0 1 ≠ 1 then s.reply port only Code.invalid Op.hostAttach Reason.range
  else
    match s.chooseSlot port ident only with
    | none => s.reply port only Code.denied Op.hostAttach Reason.noSlot
    | some n =>
      if !authentic msg (s.rootKey n) then s.reply port only Code.denied Op.hostAttach Reason.auth
      else if msg.fresh.toNat ≤ s.attachCount n then s.reply port only Code.denied Op.hostAttach Reason.fresh
      else
        let nonce := Config.deviceNonce s.dev.free
        let h := s.slot n
        let s1 := (s.setAttachCount n msg.fresh.toNat).useFree
        let s2 := s1.setSlot n { h with
          status := .attached, port := port, ident := ident, key := s.sessionKey n nonce (BitVec.ofNat 128 (beAt p 8 16)),
          freshIn := 0, freshOut := 0, credits := s.grantedCredits n port, owed := 0, lastCredit := s.time.now,
          fails := 0, lastHeard := s.time.now }
        let r := if isCanPort port then (s2.attachResult n nonce).take 32 else s2.attachResult n nonce
        let c := attachRecord msg s2.dev.nextOrder s2.time.now r
        (s2.holdAttach n c).sendCompletion n 0 c false

/-- HOST_ATTACH with operation detach (R103, R110): the attached or held slot of that identity on the arrival port. -/
def State.detach (s : State) (port : Nat) (only : Option Nat) (msg : HostMsg) : State :=
  let p := msg.payload
  let ident := nw (beAt p 4 4)
  if !s.dev.fwRunning then s
  else if msg.length.toNat ≠ p.length ∨ p.length > 1460 then s
  else if p.length ≠ 28 ∨ beAt p 0 1 ≠ 2 then s.reply port only Code.invalid Op.hostAttach Reason.range
  else
    match (List.range 8).find? (fun n => decide ((s.slot n).status ≠ .free) && decide ((s.slot n).ident = ident)
        && decide ((s.slot n).port = port)) with
    | none => s.reply port only Code.denied Op.hostAttach Reason.noSlot
    | some n =>
      if !authentic msg (s.rootKey n) then s.reply port only Code.denied Op.hostAttach Reason.auth
      else if msg.fresh.toNat ≤ s.attachCount n then s.reply port only Code.denied Op.hostAttach Reason.fresh
      else ((s.setAttachCount n msg.fresh.toNat).detachSlot n).reply port only Code.ok Op.hostAttach Reason.none

/-! ## Acceptance -/

/-- The credits a message costs (R115). -/
def creditCost (length : Nat) : Nat := (32 + length + 255) / 256

/-- The CREDIT payload (R116): balance, 6 zero bytes, bitmap of the held tags. -/
def State.creditPayload (s : State) (slot : Nat) : List Byte :=
  let map := (List.range 64).foldl (fun a k => if (s.cmd slot k).isSome then a + 2 ^ k else a) 0
  beBytes 2 ((s.slot slot).credits + (s.slot slot).owed) ++ List.replicate 6 0 ++ beBytes 8 map

/-- Sending a CREDIT message (R115, R116). -/
def State.sendCredit (s : State) (slot : Nat) : State := s.send slot 0x12 0 0 0 0 (s.creditPayload slot)

/-- A message of a slot that fails R106 or R107: counted, and the eighth in a row detaches the slot (R109). -/
def State.authFail (s : State) (slot : Nat) : State :=
  let s1 := s.bump (Item.HOST.AUTH_FAIL slot)
  let h := s1.slot slot
  let s2 := s1.setSlot slot { h with fails := h.fails + 1 }
  if h.fails + 1 ≥ 8 then (s2.detachSlot slot).raise (unitOf Kind.device 0) .W 24 else s2

/-- A message of a slot that passes R106 and R107. -/
def State.authPass (s : State) (slot : Nat) (fresh : Nat) : State :=
  let h := s.slot slot
  s.setSlot slot { h with fails := 0, freshIn := fresh, lastHeard := s.time.now }

/-- Taking a message's credits and returning them once copied out (R115, R116). -/
def State.chargeCredits (s : State) (slot cost : Nat) : State :=
  let h := s.slot slot
  s.setSlot slot { h with credits := h.credits - cost, owed := h.owed + cost }

/-- What firmware refuses of an authenticated command before it waits to start (R100, R122, R126, R141, R449): opcode,
right, state, unit, AT field. -/
def State.refusal (s : State) (slot : Nat) (msg : HostMsg) : Option (Nat × Nat) :=
  let op := msg.opcode.toNat
  if op ∉ opcodes then some (Code.invalid, Reason.opcode)
  else if (match opcodeRight op with | some r => !s.hasRight slot r | none => false) then some (Code.denied, Reason.noRight)
  else if s.dev.state = .locked ∧ !lockedAllowed op then some (Code.invalid, Reason.state)
  else if !s.unitSuits op msg.unit.toNat then some (Code.invalid, Reason.unit)
  else if msg.flags.toNat.testBit 0
      ∧ (!atAllowed op ∨ nextOccurrence s.time.now msg.atTime.toNat > s.time.now + 60 * 1000000000) then
    some (Code.invalid, Reason.atField)
  else none

/-- The device time at which a command with a valid AT field starts. -/
def State.startAt (s : State) (msg : HostMsg) : Option Nat :=
  if msg.flags.toNat.testBit 0 then some (nextOccurrence s.time.now msg.atTime.toNat) else none

/-- Acceptance of a command into its tag's record, then firmware's checks of authentication, freshness and the refusals
above (R102, R106, R107, R113, R115, R122). A message for a slot that is not attached through the port is dropped.
DESIGN CHOICE: assumption log 76. -/
def State.accept (s : State) (port : Nat) (msg : HostMsg) : State :=
  let slot := msg.tag.toNat / 64 % 8
  let idx := msg.tag.toNat % 64
  let h := s.slot slot
  if h.status ≠ .attached ∨ h.port ≠ port then s
  else if msg.payload.length > 1460 ∨ msg.length.toNat ≠ msg.payload.length then s.bump (Item.HOST.LEN_ERR slot)
  else if (s.cmd slot idx).isSome then s.bump (Item.HOST.TAG_ERR slot)
  else if h.credits < creditCost msg.payload.length then (s.bump (Item.HOST.CREDIT_VIOL slot)).sendCredit slot
  else
    let s1 := s.chargeCredits slot (creditCost msg.payload.length)
    let r : CmdRec :=
      { state := .waiting, msg := msg, order := s1.dev.nextOrder, accepted := s1.time.now, start := s1.startAt msg,
        code := 0, reason := 0, result := [], completed := 0, sent := 0 }
    let s2 := { s1.setCmd slot idx (some r) with dev := { s1.dev with nextOrder := s1.dev.nextOrder + 1 } }
    if !authentic msg h.key then (s2.complete slot idx Code.denied Reason.auth []).authFail slot
    else if msg.fresh.toNat ≤ h.freshIn then (s2.complete slot idx Code.denied Reason.fresh []).authFail slot
    else
      let s3 := s2.authPass slot msg.fresh.toNat
      match s3.refusal slot msg with
      | some (c, w) => s3.complete slot idx c w []
      | none => s3

/-- Freeing the completed records of the tags set in a COLLECT bitmap (R114). -/
def State.collectTags (s : State) (slot map : Nat) : State :=
  s.forEach (List.range 64) (fun t k =>
    if map.testBit k then
      match t.cmd slot k with
      | some r => if r.state = .done then t.freeTag slot k else t
      | none => t
    else t)

/-- A COLLECT message (R106, R107, R114, R115): authenticated like a command, it frees records and keeps the slot
alive. A wrong length counts in LEN_ERR; the first 8 payload bytes, zeros where it has fewer, are the bitmap.
DESIGN CHOICE: assumption log 76. -/
def State.collect (s : State) (port : Nat) (msg : HostMsg) : State :=
  let slot := msg.tag.toNat / 64 % 8
  let h := s.slot slot
  if h.status ≠ .attached ∨ h.port ≠ port then s
  else if msg.payload.length > 1460 ∨ msg.length.toNat ≠ msg.payload.length then s.bump (Item.HOST.LEN_ERR slot)
  else if h.credits < creditCost msg.payload.length then (s.bump (Item.HOST.CREDIT_VIOL slot)).sendCredit slot
  else
    let s1 := s.chargeCredits slot (creditCost msg.payload.length)
    if !authentic msg h.key ∨ msg.fresh.toNat ≤ h.freshIn then s1.authFail slot
    else (s1.authPass slot msg.fresh.toNat).collectTags slot (beAt (padTo 8 msg.payload) 0 8)

/-- The completed records of a slot, by tag index. -/
def State.doneTags (s : State) (slot : Nat) : List (Nat × CmdRec) :=
  (List.range 64).filterMap (fun k =>
    match s.cmd slot k with
    | some r => if r.state = .done then some (k, r) else none
    | none => none)

/-- The next resend of a slot (R114): the completions not collected whose last message is 10 ms old, at the first instant that has one. -/
def State.resend (s : State) (slot : Nat) : State :=
  match (s.doneTags slot).map (fun p => p.2.sent) with
  | [] => s
  | t :: ts =>
    if (s.slot slot).status ≠ .attached then s
    else
      let s1 := s.reach (ts.foldl Nat.min t + 10000000)
      s1.forEach (s1.doneTags slot) (fun u p =>
        if p.2.sent + 10000000 ≤ s1.time.now then
          (u.setCmd slot p.1 (some { p.2 with sent := s1.time.now })).sendCompletion slot p.1 p.2 true
        else u)

end Sys2Proof.Machine
end

