-- ==== Sys2Proof/Machine/Images.lean ====
section
/-! DEFINITION. Configuration images and firmware slots: their headers, their checks, which of them boots, and how an image's
mapping, bindings and parameters are applied at the end of POWERUP (chapters Start-up and Service). -/

namespace Sys2Proof.Machine

/-! ## The image store -/

/-- The first store address of image slot A (0) or B (1) (Table 3-1), and the size of a slot. -/
def imageBase (slot : Nat) : Nat := if slot = 0 then 0x080000 else 0x200000
abbrev imageSize : Nat := 0x180000

/-- `n` bytes of a header as a big-endian number. -/
def cellNumber (m : KMap Byte) (a n : Nat) : Nat :=
  beNat ((List.range n).map (fun k => KMap.get (fun _ => (0 : Byte)) m (a + k)))

/-- A field of the header of an image slot (Table 3-2). DESIGN CHOICE: assumption log 8. -/
def State.imageField (s : State) (slot off n : Nat) : Nat := cellNumber s.store.bytes (imageBase slot + off) n

/-- Whether the header of an image slot is erased (R96). -/
def State.imageErased (s : State) (slot : Nat) : Bool :=
  (List.range 128).all (fun k => decide (KMap.get (fun _ => (0 : Byte)) s.store.bytes (imageBase slot + k) = 0))

/-- The bytes of the body of an image slot (Table 3-2: BODY_LEN of them after the header of 128). -/
def State.imageBody (s : State) (slot : Nat) : List Byte :=
  (List.range (s.imageField slot 0x10 4)).map (fun k => KMap.get (fun _ => (0 : Byte)) s.store.bytes (imageBase slot + 0x80 + k))

/-- `n` bytes of a header from an offset. -/
def State.imageBytes (s : State) (slot off n : Nat) : List Byte :=
  (List.range n).map (fun k => KMap.get (fun _ => (0 : Byte)) s.store.bytes (imageBase slot + off + k))

/-- The body's SHA-256 equals HASH (R66); a body of more than its limit is not read. -/
def State.imageHashOk (s : State) (slot : Nat) : Bool :=
  decide (s.imageField slot 0x10 4 ≤ 1572736) && decide (Crypto.sha256 (s.imageBody slot) = s.imageBytes slot 0x20 32)

/-- SIG verifies under key table entry KEY over bytes 0x000 to 0x03F (R66). -/
def State.imageSigOk (s : State) (slot : Nat) : Bool :=
  let k := s.imageField slot 0x14 1
  decide (k ≤ 3) && Crypto.ecdsaOk (Config.keyTable k) (s.imageBytes slot 0 64) (s.imageField slot 0x40 32) (s.imageField slot 0x60 32)

/-- The check of an image slot in the bits of Table 3-13 (R66), from the bytes it holds. DEDUCED: assumption log 26. -/
def State.imageStatus (s : State) (slot : Nat) : Nat :=
  if s.imageErased slot then 0x40
  else
    let hdr := decide (s.imageField slot 0 4 ≠ 0x54484931) || decide (s.imageField slot 4 2 ≠ 1)
      || decide (s.imageField slot 6 2 ≠ 0x9648) || decide (s.imageField slot 0x10 4 > 1572736)
    let hash := !s.imageHashOk slot
    let sig := !s.imageSigOk slot
    let flo := decide (s.imageField slot 8 4 < s.store.floor)
    let fw := decide (s.imageField slot 0x16 2 > s.runningIface)
    let bit (x : Bool) (k : Nat) : Nat := if x then 2 ^ k else 0
    let ecc := decide (Memory.store slot ∈ s.badWords)
    bit (!hdr && !hash && !sig && !flo && !fw && !ecc) 7 + bit hdr 5 + bit hash 4 + bit sig 3 + bit flo 2 + bit fw 1
      + bit ecc 0

/-- A slot valid under R66. -/
def State.imageValid (s : State) (slot : Nat) : Bool := (s.imageStatus slot).testBit 7

/-- SEQ of a slot, 0 when it is invalid (IMG.SEQ_A, IMG.SEQ_B). -/
def State.imageSeq (s : State) (slot : Nat) : Nat :=
  if s.imageValid slot then s.imageField slot 8 4 else 0

/-- The slot that boots (R67, R70): the valid one with the higher SEQ, A on a tie; 2 where neither is valid. -/
def State.bootSlot (s : State) : Nat :=
  match s.imageValid 0, s.imageValid 1 with
  | true, true => if s.imageField 0 8 4 < s.imageField 1 8 4 then 1 else 0
  | true, false => 0
  | false, true => 1
  | false, false => 2

/-! ## Firmware slots -/

/-- A field of the header of a firmware slot (Table 19-7), `n` of its bytes, and its body. -/
def State.fwField (s : State) (slot off n : Nat) : Nat := cellNumber s.store.fwBytes (slot * 2 ^ 24 + off) n
def State.fwSlice (s : State) (slot off n : Nat) : List Byte :=
  (List.range n).map (fun k => KMap.get (fun _ => (0 : Byte)) s.store.fwBytes (slot * 2 ^ 24 + off + k))

/-- The check of a firmware slot (R505), from the bytes it holds. -/
def State.firmwareValid (s : State) (k : Nat) : Bool :=
  let f := s.fwField k
  decide (f 0 4 = 0x54484657) && decide (f 4 2 = 1) && decide (f 6 2 = 0x9648) && decide (f 0x14 1 = 0)
    && decide (f 0x10 4 ≤ 2097024) && decide (Crypto.sha256 (s.fwSlice k 0x80 (f 0x10 4)) = s.fwSlice k 0x20 32)
    && Crypto.ecdsaOk (Config.keyTable 0) (s.fwSlice k 0 64) (f 0x40 32) (f 0x60 32) && decide (s.store.fwFloor ≤ f 8 4)

/-- Writing the state of a firmware slot. -/
def State.setFwState (s : State) (k v : Nat) : State :=
  { s with store := { s.store with fwState := s.store.fwState.set k v } }

/-- Step 1 of R507: a slot left in TRIAL becomes REJECTED, counted and logged. -/
def State.rejectTrials (s : State) : State :=
  s.forEach [0, 1] (fun t k =>
    if t.store.fwState.getD k 0 = 4 then
      let u := t.setFwState k 5
      { u with store := { u.store with fwFallbacks := u.store.fwFallbacks + 1 } }.serviceLog 8 0xFF 2
        (nw (t.store.fwVersion.getD k 0))
    else t)

/-- Steps 2 and 3 of R507: a valid PENDING slot becomes TRIAL and boots, otherwise the ACTIVE slot boots. -/
def State.bootFirmware (s : State) : State :=
  let s1 := s.rejectTrials
  let st (k : Nat) : Nat := s1.store.fwState.getD k 0
  match [0, 1].find? (fun k => decide (st k = 3) && decide (s1.store.fwFloor ≤ s1.store.fwVersion.getD k 0)) with
  | some k =>
    let s2 := s1.setFwState k 4
    { s2 with store := { s2.store with fwRun := k }, dev := { s2.dev with bootable := true } }
  | none =>
    match [0, 1].find? (fun k => decide (st k = 2)) with
    | some k => { s1 with store := { s1.store with fwRun := k }, dev := { s1.dev with bootable := true } }
    | none => { s1 with dev := { s1.dev with bootable := false } }

/-! ## Mapping and bindings -/

/-- Whether a definition's leg count suits its type (Table 6-1). -/
def legCountOk (ty cnt : Nat) : Bool :=
  match ty with
  | 1 => decide (3 ≤ cnt) && decide (cnt ≤ 18) && decide (cnt % 3 = 0)
  | 2 => decide (cnt = 4)
  | 3 => decide (cnt = 4)
  | 4 => decide (cnt = 4)
  | 5 => decide (1 ≤ cnt) && decide (cnt ≤ 8)
  | 6 => decide (cnt = 3)
  | _ => false

/-- How many sheaves of a type there may be (Table 6-1). -/
def sheafLimit (ty : Nat) : Nat := if ty = 3 ∨ ty = 6 then 2 else 1

/-- One definition checked after those already accepted (R159, R160). -/
def acceptSheaf (b : Bind) (n : Nat) (ty first cnt : Nat) : Bind :=
  let overlap := (List.range 12).any (fun m => decide (0 < b.countOf m) && decide (first < b.firstOf m + b.countOf m)
    && decide (b.firstOf m < first + cnt))
  if ty ≠ 0 ∧ legCountOk ty cnt ∧ first + cnt ≤ 48 ∧ !overlap ∧ (b.sheavesOfType ty).length < sheafLimit ty then
    { b with types := b.types.set n ty, first := b.first.set n first, count := b.count.set n cnt }
  else b

/-- Every sheaf of TYPE NONE, no lane and no generator bound. -/
def Bind.empty : Bind where
  types := List.replicate 12 0
  first := List.replicate 12 0
  count := List.replicate 12 0
  loopSheaf := List.replicate 32 15
  profSheaf := List.replicate 4 15

/-- The dependencies of Table 6-1, checked after every sheaf has been read (R160): CHGF and CHGD need each other. -/
def Bind.dependencies (b : Bind) : Bind :=
  let hasF := (b.sheavesOfType 2).length > 0
  let hasD := (b.sheavesOfType 3).length > 0
  { b with types := b.types.map (fun t => if (t = 2 ∧ ¬ hasD) ∨ (t = 3 ∧ ¬ hasF) then 0 else t) }

/-- Whether Table 10-1 allows a lane type for a sheaf type. -/
def laneAllowed (lane ty : Nat) : Bool :=
  match lane with
  | 1 => decide (ty = 1 ∨ ty = 6)
  | 2 => decide (ty ≠ 0)
  | 3 => decide (ty = 2 ∨ ty = 3 ∨ ty = 4 ∨ ty = 5)
  | 4 => decide (ty = 2)
  | 5 => decide (ty = 3)
  | 6 => decide (ty = 6)
  | 7 => decide (ty ≠ 0)
  | 8 => decide (ty = 3 ∨ ty = 5)
  | _ => true

/-- What an image sets an item to, else the factory region (R68). -/
def imageValue (items : List (Nat × Word)) (a : Nat) : Word :=
  match (items.filter (fun p => decide (p.1 = a))).getLast? with
  | some p => p.2
  | none => Catalogue.default Bind.factory a

/-- The mapping that an image sets, with the bindings of lanes and generators (R6, R19, R159, R160). -/
def imageBind (items : List (Nat × Word)) : Bind :=
  let v (a : Nat) : Nat := (imageValue items a).toNat
  let b := (List.range 12).foldl (fun b n =>
    acceptSheaf b n (v (Item.SHEAF.TYPE n)) (v (Item.SHEAF.FIRST_LEG n)) (v (Item.SHEAF.LEG_COUNT n))) Bind.empty
  { b.dependencies with
    loopSheaf := (List.range 32).map (fun n => v (Item.LOOP.SHEAF n))
    profSheaf := (List.range 4).map (fun n => v (Item.PROF.SHEAF n)) }

/-- A sheaf whose definition was refused. -/
def refusedSheaf (items : List (Nat × Word)) (b : Bind) (n : Nat) : Bool :=
  decide ((imageValue items (Item.SHEAF.TYPE n)).toNat ≠ b.typeOf n)

/-- A lane type that writes compares to its group (Table 10-1). -/
def writesGroup (ty : Nat) : Bool := decide (1 ≤ ty) && decide (ty ≤ 5)

/-- The lanes whose binding is refused, ascending (R276). -/
def refusedLanes (items : List (Nat × Word)) (b : Bind) : List Nat :=
  let ty (n : Nat) : Nat := (imageValue items (Item.LOOP.TYPE n)).toNat
  let grp (n : Nat) : Nat := (imageValue items (Item.LOOP.GROUP n)).toNat
  let sh (n : Nat) : Nat := b.loopSheaf.getD n 15
  (List.range 32).foldl (fun l n =>
    let clash := writesGroup (ty n) && decide (grp n < 15) && (List.range n).any (fun m =>
      decide (m ∉ l) && writesGroup (ty m) && decide (sh m = sh n) && decide (grp m = grp n))
    if ty n ≠ 0 ∧ sh n < 12 ∧ (clash ∨ !laneAllowed (ty n) (b.typeOf (sh n))) then l ++ [n] else l) []

/-- The ports whose binding is refused: a sheaf that a lower-numbered port is bound to already (R248). DEDUCED: assumption log 27. -/
def refusedPorts (items : List (Nat × Word)) : List Nat :=
  let sh (n : Nat) : Nat := (imageValue items (Item.POS.SHEAF n)).toNat
  (List.range 4).filter (fun n => decide (sh n < 12) && (List.range n).any (fun m => decide (sh m = sh n)))

/-- The items that the checks set instead of the image: refused sheaves, lanes and ports, a second PARK (R160, R248, R276,
R389). -/
def bindingItems (items : List (Nat × Word)) (b : Bind) : List (Nat × Word) :=
  ((List.range 12).filter (refusedSheaf items b)).map (fun n => (Item.SHEAF.TYPE n, (0 : Word)))
  ++ (refusedLanes items b).map (fun n => (Item.LOOP.TYPE n, (0 : Word)))
  ++ (refusedPorts items).map (fun n => (Item.POS.SHEAF n, (15 : Word)))
  ++ (if (imageValue items (Item.ACT.FUNC 0)).toNat = 1 ∧ (imageValue items (Item.ACT.FUNC 1)).toNat = 1 then
        [(Item.ACT.FUNC 1, (0 : Word))] else [])

/-- The items of an image that may be set: those that are neither read only nor write only (R157). -/
def imageItems (items : List (Nat × Word)) : List (Nat × Word) :=
  items.filter (fun p => match Catalogue.find p.1 with | some d => decide (d.acc = .rw) | none => false)

/-- A register file under another mapping: the entries that no longer differ from the defaults go. -/
def rebind (b : Bind) (m : KMap Word) : KMap Word :=
  m.foldl (fun t p => KMap.put (Catalogue.default b) t p.1 p.2) []

/-- Applying mapping and parameters: active and shadow sets equal (Table 3-3, R6, R68, R89, R147). -/
def State.applyItems (s : State) (items : List (Nat × Word)) : State :=
  let its := imageItems items
  let b := imageBind its
  let extra := bindingItems its b
  let s1 := { s with bind := b, regs := rebind b s.regs, shd := [], waits := [] }
  let s2 := s1.forEach (its ++ extra) (fun t p => t.setReg p.1 p.2)
  let s3 := s2.forEach (its ++ extra) (fun t p =>
    match Catalogue.find p.1 with
    | some d => if d.cls = .S ∨ d.cls = .O then t.setShadow p.1 p.2 else t
    | none => t)
  (s3.forEach extra (fun t _ => t.raise (unitOf Kind.device 0) .W 20)).forEach (List.range 48) State.bandAgain

/-- SAFE.CRC: the CRC of R157 over the class-B SAFE and SOUT items. -/
def State.crcSafe (s : State) : Word :=
  s.crcOver (Catalogue.configurable.filter (fun a => decide (Item.group a = 0x18 ∨ Item.group a = 0x19)
    && (match Catalogue.find a with | some d => decide (d.cls = .B) | none => false))) false

/-! ## CAN controllers at the end of POWERUP -/

/-- The nominal bit in kernel cycles, its second segment and its jump width (CAN.NBT). -/
def nominalBit (w : Word) : Nat := (bitsOf w 31 27 + 1) * (1 + (bitsOf w 26 19 + 1) + (bitsOf w 18 12 + 1))

/-- The data bit in kernel cycles (CAN.DBT). -/
def dataBit (w : Word) : Nat := (bitsOf w 31 27 + 1) * (1 + (bitsOf w 26 22 + 1) + (bitsOf w 21 18 + 1))

/-- The limits of R472, at 80 MHz kernel cycles of 12.5 ns: nominal at most 1 Mbit/s, data at most 8 Mbit/s and not below
nominal, each SJW at most its TSEG2. -/
def bitTimingOk (nbt dbt : Word) : Bool :=
  decide (80 ≤ nominalBit nbt) && decide (bitsOf nbt 11 5 ≤ bitsOf nbt 18 12)
  && (decide (dbt = 0)
      || (decide (10 ≤ dataBit dbt) && decide (dataBit dbt ≤ nominalBit nbt) && decide (bitsOf dbt 17 14 ≤ bitsOf dbt 21 18)))

/-- The slots bound to a controller (Table 18-2: HOST.PORTS includes it). -/
def State.canSlots (s : State) (n : Nat) : List Nat :=
  (List.range 8).filter (fun k => bitOf (s.reg (Item.HOST.PORTS k)) (3 + n))

/-- The state that Table 18-2 gives a controller at host port enable. -/
def State.canEntryState (s : State) (n : Nat) : Nat :=
  if s.canSlots n = [] then 3 else if s.regN (Item.CAN.ARD_EN n) = 1 then 1 else 2

/-- The mapping objects of a controller (R488): receive messages, send messages, receive heartbeats, send heartbeats. -/
def State.mappingObject (s : State) (n k : Nat) : CanObj :=
  let slot := k / 4
  let base := s.reg (Item.CAN.MAP_BASE n)
  let ide := if bitOf base 31 then 0x20000000 else 0
  let brs := if s.reg (Item.CAN.DBT n) ≠ 0 then 0x08000000 else 0
  let kind : Nat :=
    match k % 4 with
    | 0 => 0x10000000
    | 1 => 0x40000000 + 0x10000000 + brs
    | 2 => 0
    | _ => 0x40000000 + 8
  if slot ∈ s.canSlots n then
    { CanObj.init with
      cfg := nw (0x80000000 + kind + ide + 0x01000000)
      ident := nw (bitsOf base 28 0 + k)
      mask := 0x1FFFFFFF }
  else CanObj.init

/-- A controller starts with the host ports (R471, R472, R477, R488): its objects are configured and it takes its first
state, or stays OFF. -/
def State.canStart (s : State) (objects : List CanEntry) (n : Nat) : State :=
  let c := s.can n
  let maps := (List.range 32).foldl (fun m k => KMap.put (fun _ => CanObj.init) m k (s.mappingObject n k)) ([] : KMap CanObj)
  let tbl := (objects.filter (fun e => decide (e.controller = n) && decide (32 ≤ e.object) && decide (e.object < 128))).foldl
    (fun m e => KMap.put (fun _ => CanObj.init) m e.object
      { CanObj.init with cfg := e.cfg, ident := e.ident, mask := e.mask, period := e.period, items := e.items }) maps
  let s1 := s.setCan n { c with objects := tbl }
  if s.regN (Item.CAN.ENABLE n) = 0 then s1.setReg (Item.CAN.STATE n) 0
  else if !bitTimingOk (s.reg (Item.CAN.NBT n)) (s.reg (Item.CAN.DBT n)) then
    (s1.setReg (Item.CAN.STATE n) 0).raise (unitOf Kind.can n) .W 21
  else s1.setReg (Item.CAN.STATE n) (nw (s.canEntryState n))

end Sys2Proof.Machine
end

