-- ==== Sys2Proof/Machine/Can.lean ====
section
/-! DEFINITION. The CAN FD controllers (chapter CAN FD Controllers): frames received and sent, rate detection, errors and
bus-off, heartbeats, the compact mailbox mapping. -/

namespace Sys2Proof.Machine

/-- The state code of a controller (Table 18-2): 0 OFF, 1 DETECT, 2 LISTEN, 3 NORMAL, 4 BUS_OFF, 5 RECOVERING, 6 FENCED. -/
def State.canState (s : State) (n : Nat) : Nat := s.regN (Item.CAN.STATE n)

/-- A controller changes its state. -/
def State.setCanState (s : State) (n v : Nat) : State := s.setReg (Item.CAN.STATE n) (nw v)

/-- A controller begins its recovery from bus-off (R484). -/
def State.canRecover (s : State) (n : Nat) : State := (s.setCan n { s.can n with recoverFrom := s.time.now }).setCanState n 5

/-- What CkSTB is driven to, high or low, and whether CkTX is held recessive with it (R471): while the controller is OFF or FENCED, before
the host ports are enabled, and in TRANSPORT. -/
def State.ckStb (s : State) (n : Nat) : Bool :=
  decide (s.canState n = 0 ∨ s.canState n = 6) || !s.dev.fwRunning || decide (s.dev.state = .transport)
def State.ckTxRecessive (s : State) (n : Nat) : Bool := s.ckStb n

/-! ## Bit timing -/

/-- The parts of a bit in kernel cycles (R472): prescaler, TSEG1, TSEG2, SJW. -/
structure BitTiming where
  brp : Nat
  tseg1 : Nat
  tseg2 : Nat
  sjw : Nat
  deriving DecidableEq, Repr

/-- The length of a bit and its sample point in kernel cycles (R472). -/
def BitTiming.cycles (b : BitTiming) : Nat := b.brp * (1 + b.tseg1 + b.tseg2)
def BitTiming.sample (b : BitTiming) : Nat := b.brp * (1 + b.tseg1)

/-- The timing of a rate in kbit/s (R475): the smallest prescaler that gives a whole number of at most `most` quanta per bit, the sample
point at the last quantum not later than `percent`, SJW equal to TSEG2. An entry without any is refused by Lumxon. -/
def derivedTiming (kbit most percent : Nat) : Option BitTiming :=
  match (List.range 32).find? (fun k => decide (80000 % (kbit * (k + 1)) = 0) && decide (80000 / (kbit * (k + 1)) ≤ most)) with
  | none => none
  | some k =>
    let q := 80000 / (kbit * (k + 1))
    let s := q * percent / 100
    some { brp := k + 1, tseg1 := s - 1, tseg2 := q - s, sjw := q - s }

/-- The configured timings (CAN.NBT, CAN.DBT). -/
def nominalTiming (w : Word) : BitTiming where
  brp := bitsOf w 31 27 + 1
  tseg1 := bitsOf w 26 19 + 1
  tseg2 := bitsOf w 18 12 + 1
  sjw := bitsOf w 11 5 + 1
def dataTiming (w : Word) : BitTiming where
  brp := bitsOf w 31 27 + 1
  tseg1 := bitsOf w 26 22 + 1
  tseg2 := bitsOf w 21 18 + 1
  sjw := bitsOf w 17 14 + 1

/-- The nominal and the data timing that a controller uses (R472, R475). -/
def State.nominalUse (s : State) (n : Nat) : Option BitTiming :=
  match s.canEntry n with
  | some k => derivedTiming (s.ardNominal n k) 385 80
  | none => some (nominalTiming (s.reg (Item.CAN.NBT n)))
def State.dataUse (s : State) (n : Nat) : Option BitTiming :=
  if s.canClassic n then none
  else
    match s.canEntry n with
    | some k => derivedTiming (s.ardData n k) 49 75
    | none => some (dataTiming (s.reg (Item.CAN.DBT n)))

/-- The delay compensation offset in kernel cycles that frames sent with BRS use (R473, R475); none without compensation. -/
def State.tdcUse (s : State) (n : Nat) : Option Nat :=
  match s.canEntry n with
  | some _ => (s.dataUse n).map BitTiming.sample
  | none => let w := s.reg (Item.CAN.TDC n); if bitOf w 15 then some (bitsOf w 6 0) else none

/-- The secondary sample point of a frame sent with BRS, in kernel cycles, after the transmitter delay measured on it (R473, R526): none
where the controller compensates nothing, or where the point would lie beyond 127 cycles. -/
def State.secondarySample (s : State) (n delay : Nat) : Option Nat :=
  ((s.tdcUse n).map (fun o => delay + o)).filter (fun p => decide (p ≤ 127))

/-- The nominal bit in kernel cycles of 12.5 ns; 80 where an entry has no timing. -/
def State.bitCycles (s : State) (n : Nat) : Nat := ((s.nominalUse n).map BitTiming.cycles).getD 80

/-- The kernel cycle in which a device time lies. -/
def kernelCycle (ns : Nat) : Nat := ns * 2 / 25

/-- The stamp of a frame (R481). -/
def canStamp (sof : Nat) : Word := nw (sof / 25)

/-! ## Errors -/

/-- A bit error in the data field of the frame of an object (R486): at the third the clash is set, counted and raised. -/
def State.canClash (s : State) (n k : Nat) (forced : Bool) : State :=
  let c := s.can n
  let o := c.object k
  if o.clash + 1 < 3 then s.setCan n (c.setObject k { o with clash := o.clash + 1 })
  else
    (((s.setCan n (c.setObject k { o with clash := 0 })).setReg (Item.CAN.IDCLASH n) (nw (0x80000000 + k))).bump
      (Item.CAN.IDCLASH_CNT n)).detect (unitOf Kind.can n) .W 18 forced

/-- Raising source 17 on the entry to error passive. -/
def State.canPassive (s : State) (n : Nat) (was : Bool) (forced : Bool) : State :=
  let c := s.can n
  if !was && decide (127 < c.tec ∨ 127 < c.rec') then s.detect (unitOf Kind.can n) .W 17 forced else s

/-- Whether a controller is error passive. -/
def Can.passive (c : Can) : Bool := decide (127 < c.tec ∨ 127 < c.rec')

/-- A controller goes to DETECT at an entry; its lock is gone. -/
def State.canDetect (s : State) (n entry : Nat) : State :=
  ((s.setCan n { s.can n with entry := entry }).setReg (Item.CAN.ARD_LOCK n) 0).setCanState n 1

/-- The next entry of the rate table (R474); past the last one in use the pass ends, and source 20 is raised.
DEDUCED: assumption log 50. -/
def State.canNextEntry (s : State) (n : Nat) : State :=
  let e := (s.can n).entry + 1
  if s.ardNominal n e = 0 then (s.setCan n { s.can n with entry := 0 }).raise (unitOf Kind.can n) .W 20
  else s.setCan n { s.can n with entry := e }

/-- What an error does in LISTEN (Table 18-2, R476): a data-phase error of a BRS frame under an unverified data rate moves to the
next entry of the same nominal rate; any other error, with ARD_EN = 1, back to DETECT. -/
def State.canListenError (s : State) (n : Nat) (dataPhase : Bool) : State :=
  if s.regN (Item.CAN.ARD_EN n) ≠ 1 then s
  else
    let w := s.reg (Item.CAN.ARD_LOCK n)
    let e := bitsOf w 18 16
    if bitOf w 31 && !bitOf w 30 && dataPhase then
      match (List.range 8).find? (fun k => decide (e < k) && decide (s.ardNominal n k = s.ardNominal n e)
          && (List.range k).all (fun j => decide (s.ardNominal n j ≠ 0))) with
      | some k => (s.setCan n { s.can n with entry := k }).setReg (Item.CAN.ARD_LOCK n) (nw (0x80000000 + k * 0x10000))
      | none => s.canDetect n (if s.ardNominal n (e + 1) = 0 then 0 else e + 1)
    else s.canDetect n 0

/-- The error counters of ISO 11898-1 (R484): a transmitter's error counts 8, except where the standard excepts it; a receiver's
counts 1, or 8 where it sees a dominant bit after its error flag. PRESUMED: assumption log 49. -/
def State.canCount (s : State) (n : Nat) (transmitting after excepted : Bool) : State :=
  let c := s.can n
  if excepted then s
  else if transmitting then s.setCan n { c with tec := c.tec + 8 }
  else s.setCan n { c with rec' := Nat.min 255 (c.rec' + (if after then 8 else 1)) }

/-- What an error of a kind of CAN.ERR does in each state (R474, R476, R484, R486). -/
def State.canErr (s : State) (n code : Nat) (transmitting after excepted dataPhase dataField : Bool) : State :=
  let t1 := (s.setCan n { s.can n with lastError := code }).bump (Item.CAN.ERR_FRAME_CNT n)
  match s.canState n with
  | 1 => if code = 1 ∨ code = 2 ∨ code = 6 then t1.canNextEntry n else t1
  | 2 => t1.canListenError n dataPhase
  | 3 =>
    let was := (t1.can n).passive
    let t2 := (t1.canCount n transmitting after excepted).canPassive n was false
    (match (t2.can n).chosen with
     | some k => if transmitting ∧ dataField ∧ (code = 4 ∨ code = 5) then t2.canClash n k false else t2
     | none => t2)
  | _ => s

/-- CAN_ERROR: an error that a controller detects; `dataPhase` in the data phase of a received BRS frame, `dataField` in the data field
of a frame sent. -/
def execCanError (controller : Fin 4) (code : Fin 7) (transmitting after excepted dataPhase dataField : Bool) (s : State) :
    Host.Outcome State Fault Refusal :=
  .next (s.act (fun t =>
    if code.val = 0 then t else t.canErr controller code transmitting after excepted dataPhase dataField))

/-- CAN_BUS_OFF (R484): the transmit error counter above 255 takes a controller from NORMAL to BUS_OFF, and with BO_AUTO at once
into recovery. The bus-off that reaches BO_MAX within 10 s is source 1, any other source 16 (R438). DEDUCED: assumption log 51. -/
def execCanBusOff (controller : Fin 4) (s : State) : Host.Outcome State Fault Refusal :=
  .next (s.act (fun t =>
    let n := controller.val
    let u := unitOf Kind.can n
    let c := t.can n
    if t.canState n ≠ 3 ∨ c.tec ≤ 255 then t
    else
      let f := t.forced u 0
      let recent := t.time.now :: c.busOffs.filter (fun x => decide (t.time.now < x + 10000000000))
      let t1 := (t.setCan n { c with busOffs := recent, chosen := none }).bump (Item.CAN.BO_CNT n)
      let t2 := if t1.regN (Item.CAN.BO_AUTO n) = 1 then t1.canRecover n else t1.setCanState n 4
      if t1.regN (Item.CAN.BO_MAX n) ≤ recent.length then t2.detect u .F 1 f else t2.detect u .W 16 f))

/-- CAN_RECOVERY_END (R484): 128 sequences of 11 recessive bits have been counted, no sooner than they take at the nominal rate; both
counters are 0, the controller is in NORMAL. -/
def execCanRecoveryEnd (controller : Fin 4) (s : State) : Host.Outcome State Fault Refusal :=
  .next (s.act (fun t0 =>
    let n := controller.val
    if t0.canState n ≠ 5 then t0
    else
      let t := t0.reach ((t0.can n).recoverFrom + 128 * 11 * t0.bitCycles n * 25 / 2)
      (t.setCan n { t.can n with tec := 0, rec' := 0 }).setCanState n 3))

/-- CAN_DOMINANT_TIMEOUT (R487): how long in µs CkRX has been dominant without interruption, against DOM_MAX; the force bit DOM makes it
read dominant. -/
def execCanDominantTimeout (controller : Fin 4) (us : Nat) (s : State) : Host.Outcome State Fault Refusal :=
  .next (s.act (fun t =>
    let n := controller.val
    let u := unitOf Kind.can n
    if t.canState n = 0 ∨ t.canState n = 6 ∨ !(t.forced u 3 || decide (t.regN (Item.CAN.DOM_MAX n) ≤ us)) then t
    else t.detect u .F 2 (t.forced u 3)))

/-! ## Reception -/

/-- Whether a receive object takes a frame (R479, Table 18-3). -/
def CanObj.accepts (o : CanObj) (f : CanFrame) : Bool :=
  bitOf o.cfg 31 && !bitOf o.cfg 30 && decide (bitOf o.cfg 29 = f.ide) && (!bitOf o.cfg 28 || f.fdf)
    && decide (bitOf o.cfg 26 = f.rtr) && decide ((nw f.ident ^^^ o.ident) &&& o.mask = 0)

/-- The lowest-numbered receive object that takes a frame. -/
def Can.match (c : Can) (f : CanFrame) : Option Nat := (List.range 128).find? (fun k => (c.object k).accepts f)

/-- Storing a frame (R479, R481), or counting it as unmatched or lost. -/
def State.canStore (s : State) (n : Nat) (f : CanFrame) (sof : Nat) : State :=
  let c := s.can n
  match c.match f with
  | none => s.bump (Item.CAN.RX_UNMATCHED n)
  | some k =>
    let o := c.object k
    if o.poisoned then (s.bump (Item.CAN.RX_LOST n)).raise (unitOf Kind.can n) .F 3
    else
      (s.setCan n (c.setObject k { o with data := f.data, stamp := canStamp sof, valid := true, esi := f.esi })).bump
        (Item.CAN.RX_CNT n)

/-- A frame received without error lowers the receive error counter (ISO 11898-1; R484). From above 127 it returns to a value
between 119 and 127 that the standard leaves open. -/
def State.canGood (s : State) (n : Nat) : State :=
  let c := s.can n
  if 127 < c.rec' then s.useFree.setCan n { c with rec' := 119 + s.freeWord.toNat % 9 }
  else s.setCan n { c with rec' := c.rec' - 1 }

/-- An FD frame is a form error for a controller that runs classic frames only (R472). -/
def State.canForeign (s : State) (n : Nat) (f : CanFrame) : Bool := f.fdf && s.canClassic n

/-- CAN_FRAME_RECEIVED (R472, R479, R481): a frame that completes without error in LISTEN or NORMAL; `sof` is the device time of its
start of frame. -/
def execCanFrameReceived (controller : Fin 4) (frame : CanFrame) (sof : Nat) (s : State) : Host.Outcome State Fault Refusal :=
  .next (s.act (fun t =>
    let n := controller.val
    if t.canState n ≠ 2 ∧ t.canState n ≠ 3 then t
    else if t.canForeign n frame then (t.reach sof).canErr n 2 false false false false false
    else if t.canState n = 2 then (t.reach sof).canStore n frame sof
    else ((t.reach sof).canGood n).canStore n frame sof))

/-- CAN_RATE_LOCK (R474): a frame received without error in DETECT locks the entry on trial; its data rate counts as verified when
the frame carried BRS. The controller is in LISTEN, and the frame is stored. -/
def execCanRateLock (controller : Fin 4) (frame : CanFrame) (sof : Nat) (s : State) : Host.Outcome State Fault Refusal :=
  .next (s.act (fun t =>
    let n := controller.val
    if t.canState n ≠ 1 then t
    else if t.canForeign n frame then (t.reach sof).canErr n 2 false false false false false
    else
      let w := 0x80000000 + (if frame.brs then 0x40000000 else 0) + (t.can n).entry * 0x10000
      (((t.reach sof).setReg (Item.CAN.ARD_LOCK n) (nw w)).setCanState n 2).canStore n frame sof))

/-! ## Transmission -/

/-- The arbitration field of an object as a number; the lower wins (ISO 11898-1; R480): 11 identifier bits, RTR or SRR, IDE, then
the 18 low identifier bits and RTR of an extended frame. -/
def CanObj.arbitration (o : CanObj) : Nat :=
  let id := bitsOf o.ident 28 0
  let rtr := if bitOf o.cfg 26 then 1 else 0
  if bitOf o.cfg 29 then (id / 2 ^ 18) * 2 ^ 21 + 2 ^ 20 + 2 ^ 19 + (id % 2 ^ 18) * 2 + rtr
  else (id % 2 ^ 11) * 2 ^ 21 + rtr * 2 ^ 20

/-- The transmit objects with a pending request made before a kernel cycle (R480). -/
def Can.requests (c : Can) (cycle : Nat) : List Nat :=
  (List.range 128).filter (fun k =>
    let o := c.object k
    bitOf o.cfg 31 && bitOf o.cfg 30 && o.pending && decide (kernelCycle o.asked < cycle))

/-- The pending object whose arbitration field wins; the lowest number where fields are identical. -/
def Can.winner (c : Can) (cycle : Nat) : Option Nat :=
  (c.requests cycle).find? (fun k => (c.requests cycle).all (fun j => decide ((c.object k).arbitration ≤ (c.object j).arbitration)))

/-- CAN_TX_CHOICE (R480): in NORMAL the controller chooses the next frame to send on the kernel cycle of a device time; a request made
on that cycle waits for the next choice. -/
def execCanTxChoice (controller : Fin 4) (time : Nat) (s : State) : Host.Outcome State Fault Refusal :=
  .next (s.act (fun t0 =>
    let n := controller.val
    if t0.canState n ≠ 3 then t0
    else
      let t := t0.reach time
      t.setCan n { t.can n with chosen := (t.can n).winner (kernelCycle t.time.now) }))

/-- CAN_FRAME_SENT (R481, R485, R486, R494): the chosen frame has been sent without error; the force bit CLASH first counts three
data-field bit errors. -/
def execCanFrameSent (controller : Fin 4) (sof : Nat) (s : State) : Host.Outcome State Fault Refusal :=
  .next (s.act (fun t =>
    let n := controller.val
    let u := unitOf Kind.can n
    match (t.can n).chosen with
    | none => t
    | some k =>
      if t.canState n ≠ 3 ∨ !((t.can n).object k).pending then t
      else
        let t0 := t.reach sof
        let t1 := if t0.forceArmed u 2 then
            (((t0.canClash n k true).canClash n k true).canClash n k true).useForce u 2
          else t0
        let c := t1.can n
        let slot := k / 4
        let q := if k < 32 ∧ k % 4 = 1 then
            (match c.queue.find? (fun m => decide (m.slot = slot)) with
             | some m => c.queue.erase m
             | none => c.queue)
          else c.queue
        let o := c.object k
        let c1 := c.setObject k { o with pending := false, stamp := canStamp sof, valid := true, clash := 0
                                         esi := bitOf o.cfg 28 && c.passive }
        let t2 := (t1.setCan n { c1 with chosen := none, tec := c.tec - 1, queue := q }).bump (Item.CAN.TX_CNT n)
        if k < 32 ∧ k % 4 = 1 then t2.canLoad n slot else t2))

/-- CAN_SIGNAL_PERIOD (R482): once per period an enabled transmit signal object forms its frame from its items; a request still pending
keeps its place with the new data. -/
def execCanSignalPeriod (controller : Fin 4) (object : Fin 128) (s : State) : Host.Outcome State Fault Refusal :=
  .next (s.act (fun t0 =>
    let n := controller.val
    let o := (t0.can n).object object
    if t0.canState n ≠ 3 ∨ object.val < 32 ∨ !bitOf o.cfg 31 ∨ !bitOf o.cfg 30 ∨ o.period = 0 then t0
    else
      let t := t0.every (Timer.signal n object) (o.period * 1000000)
      let d := padTo (bitsOf o.cfg 6 0) ((o.items.take 16).flatMap (fun a => wordBytes (t.readItem a).2))
      t.setCan n ((t.can n).setObject object (o.request d t.time.now))))

/-! ## Heartbeats -/

/-- CAN_HOST_HEARTBEAT (R492): a frame on MAP_BASE + 4s + 2 with at least 6 data bytes; the first one in LISTEN with an accepted
identity takes the controller to NORMAL. -/
def execCanHostHeartbeat (controller : Fin 4) (slot : Fin 8) (frame : CanFrame) (sof : Nat) (s : State) :
    Host.Outcome State Fault Refusal :=
  .next (s.act (fun t =>
    let n := controller.val
    let st := t.canState n
    let ident := nw (beAt frame.data 0 4)
    if (st ≠ 2 ∧ st ≠ 3) ∨ slot.val ∉ t.canSlots n ∨ ((t.can n).match frame) ≠ some (4 * slot.val + 2) then t
    else if t.canForeign n frame then (t.reach sof).canErr n 2 false false false false false
    else
      let t1 := (if st = 3 then (t.reach sof).canGood n else t.reach sof).canStore n frame sof
      if frame.data.length < 6 then t1
      else
        let want := t1.reg (Item.HOST.IDENT slot)
        if want ≠ 0 ∧ want ≠ ident then t1
        else
          let c := t1.can n
          let t2 := t1.setCan n { c with heard := KMap.put (fun _ => 0) c.heard slot.val t1.time.now }
          if t2.canState n = 2 then t2.setCanState n 3 else t2))

/-- CAN_HEARTBEAT_TIMEOUT (R492): no heartbeat for HB_TMO while the slot is attached through its controller; it is detached, and
source 19 is raised. DEDUCED: assumption log 53. -/
def execCanHeartbeatTimeout (controller : Fin 4) (slot : Fin 8) (s : State) : Host.Outcome State Fault Refusal :=
  .next (s.act (fun t =>
    let n := controller.val
    let h := t.slot slot
    if h.status ≠ .attached ∨ h.port ≠ n + 3 then t
    else
      let t1 := t.reach (KMap.get (fun _ => 0) (t.can n).heard slot.val + t.regN (Item.CAN.HB_TMO n) * 1000000)
      (t1.detachSlot slot).raise (unitOf Kind.can n) .W 19))

/-- CAN_DEVICE_HEARTBEAT (R492): in NORMAL, every HB_PERIOD, the device's heartbeat goes into object 4s + 3 of each attached or held slot
of the controller. -/
def execCanDeviceHeartbeat (controller : Fin 4) (s : State) : Host.Outcome State Fault Refusal :=
  .next (s.act (fun t0 =>
    let n := controller.val
    if t0.canState n ≠ 3 then t0
    else
      let t := t0.every (Timer.beat n) (t0.regN (Item.CAN.HB_PERIOD n) * 1000000)
      let seq := (t.can n).beat
      let slots := (t.canSlots n).filter (fun k => decide ((t.slot k).status ≠ .free))
      let t1 := t.setCan n { t.can n with beat := (seq + 1) % 65536 }
      t1.forEach slots (fun u k =>
        let c := u.can n
        let d := [BitVec.ofNat 8 u.dev.state.code, BitVec.ofNat 8 (u.slot k).status.code] ++ beBytes 2 u.runningIface
          ++ beBytes 2 seq ++ [0, 0]
        u.setCan n (c.setObject (4 * k + 3) ((c.object (4 * k + 3)).request d u.time.now)))))

/-- Every slot of a controller is free: from NORMAL it goes back to LISTEN at the rates it has (Table 18-2). -/
def State.canSlotsFree (s : State) (n : Nat) : State :=
  if s.canSlots n ≠ [] ∧ s.canState n = 3 ∧ (s.canSlots n).all (fun k => decide ((s.slot k).status = .free)) then s.setCanState n 2
  else s

/-! ## The compact mapping -/

/-- The smallest freshness value above `last` whose low half is `low` (R489). -/
def freshAbove (last low : Nat) : Nat :=
  let c := last / 65536 * 65536 + low % 65536
  if last < c then c else c + 65536

/-- The message a compact frame stands for (R489, Table 18-4). -/
def State.expand (s : State) (slot : Nat) (d : List Byte) : HostMsg :=
  let at' (k : Nat) : Nat := (d.getD k 0).toNat
  let ref := if at' 2 = 1 then s.attachCount slot else (s.slot slot).freshIn
  { kind := d.getD 0 0, flags := 0, tag := BitVec.ofNat 16 (slot * 64 + at' 1 % 64), opcode := BitVec.ofNat 16 (at' 2),
    length := BitVec.ofNat 16 (at' 3), fresh := nw (freshAbove ref (beAt d 4 2)), unit := nw (at' 6 * 0x1000000 + at' 7),
    timeout := 0, atTime := 0, payload := (d.drop 16).take (at' 3), mac := BitVec.ofNat 64 (beAt d 8 8) }

/-- Whether a frame on object 4s is discarded without a completion (R490). -/
def compactBad (f : CanFrame) : Bool :=
  let len := (f.data.getD 3 0).toNat
  !f.fdf || decide (48 < len) || decide (f.data.length < 16 + len) || decide (canLength (16 + len) < f.data.length)

/-- COMPACT_MESSAGE (R488 to R491, R493): a frame of the host-to-device identifier of a slot, reconstructed and then handled as any
host message. A classic frame never reaches the object, and counts as a length error. -/
def execCompactMessage (controller : Fin 4) (slot : Fin 8) (frame : CanFrame) (sof : Nat) (s : State) :
    Host.Outcome State Fault Refusal :=
  .next (s.act (fun t =>
    let n := controller.val
    let st := t.canState n
    if (st ≠ 2 ∧ st ≠ 3) ∨ slot.val ∉ t.canSlots n
        ∨ nw frame.ident ≠ nw (bitsOf (t.reg (Item.CAN.MAP_BASE n)) 28 0 + 4 * slot.val)
        ∨ frame.ide ≠ bitOf (t.reg (Item.CAN.MAP_BASE n)) 31 ∨ frame.rtr then t
    else
      if t.canForeign n frame then (t.reach sof).canErr n 2 false false false false false else
      let t1 := if st = 3 then (t.reach sof).canGood n else t.reach sof
      let t2 := t1.canStore n frame sof
      if compactBad frame then t2.bump (Item.HOST.LEN_ERR slot)
      else
        let m := t2.expand slot.val frame.data
        let op := m.opcode.toNat
        let port := n + 3
        if m.kind.toNat = 0x13 then t2.collect port m
        else if m.kind.toNat ≠ 0x10 then t2
        else if op = Op.hostAttach then
          if beAt m.payload 0 1 = 2 then t2.detach port (some slot.val) m
          else
            let u := t2.attach port (some slot.val) m
            let c := u.can n
            if (t2.slot slot).status ≠ .attached ∧ (u.slot slot).status = .attached then
              u.setCan n { c with heard := KMap.put (fun _ => 0) c.heard slot.val u.time.now }
            else u
        else t2.accept port m))

end Sys2Proof.Machine
end

