-- ==== Sys2Proof/Machine/Position.lean ====
section
/-! DEFINITION. Position and speed feedback: the ports' positions, latches, speed, compare units and their commands. -/

namespace Sys2Proof.Machine

/-- The travel in 1/2^24 turn at a speed in mrpm over ticks of 2.5 ns. -/
def travel (mrpm ticks : Int) : Int := roundDiv (mrpm * ticks * 2 ^ 24) 24000000000000

/-! ## The position at a tick -/

/-- A port computes its angle or its speed now: the items delivered before pass their boundary (R144, Table 5-5). DEDUCED: assumption
log 119. -/
def State.portBoundary (s : State) (p : Nat) : State := s.boundary (.port p) s.tick

/-- The edges or frames of a port that count at a tick (R254, R259): an edge once its level has been stable for EDGE_FILT, a frame on the
tick after its last status bit. -/
def State.edgesAt (s : State) (p tick : Nat) : List (Nat × Int) :=
  let r := s.port p
  if s.portMode p = 5 then (if tick < r.accepted then r.edges.drop 1 else r.edges)
  else r.edges.dropWhile (fun e => decide (tick < e.1 + s.regN (Item.POS.EDGE_FILT p)))

/-- The raw position at a tick, and the instant of the last edge, frame or update by then. -/
def State.rawAt (s : State) (p tick : Nat) : Int × Nat :=
  let r := s.port p
  let l := s.edgesAt p tick
  match l.head? with
  | some (t, c) => if l.length = r.edges.length then (r.raw, t) else (c, t)
  | none => (r.raw, r.updated)

/-- The position a latch forms for a capture tick, and the span in ticks it extrapolates over (Table 9-2); `v` is the speed in mrpm,
`still` whether the port stands still. In HALL mode the last boundary crossed is the upper one of the present state where the position
falls. -/
def State.latchPos (s : State) (p capture : Nat) (v : Int) (still : Bool) : Int × Nat :=
  let r := s.port p
  let (raw, last) := s.rawAt p capture
  let x := s.extended p raw
  let span := capture - last
  let one : Int := 2 ^ 24 / (Nat.max 1 (s.regN (Item.POS.CPR p)) : Nat)
  let moved := travel v span
  let bounded := max (-(one - 1)) (min (one - 1) moved)
  match s.portMode p with
  | 1 => (s.portX p + travel r.observed (capture - r.updated : Nat), capture - r.updated)
  | 2 => (s.portX p + travel r.observed (capture - r.updated : Nat), capture - r.updated)
  | 3 => if s.regN (Item.POS.INTERP p) = 1 then (x + bounded, span) else (x, 0)
  | 4 => if still then (x + one / 2, 0) else ((if r.down then s.extended p (raw + 1) else x) + bounded, span)
  | 5 => (x + moved, span)
  | _ => (x, 0)

/-! ## Speed -/

/-- The speed in mrpm of `dc` counts in `dt` ticks of 2.5 ns (R263). -/
def countSpeed (dc : Int) (dt cpr : Nat) : Int :=
  if dt = 0 ∨ cpr = 0 then 0 else roundDiv (dc * 24000000000000) ((cpr * dt : Nat) : Int)

/-- The leading edges of a history whose steps all go one way. -/
def sameWay : List (Nat × Int) → List (Nat × Int)
  | (t1, c1) :: (t2, c2) :: rest =>
    match sameWay ((t2, c2) :: rest) with
    | (_, d1) :: (u2, d2) :: more =>
      if (0 < c1 - c2) = (0 < d1 - d2) then (t1, c1) :: (t2, d1) :: (u2, d2) :: more else [(t1, c1), (t2, c2)]
    | l => (t1, c1) :: l
  | l => l

/-- The speed and the interval (ticks) of an edge history (R263): newest edge against the oldest within SPD_WIN without a
change of direction between; with one edge in the window the last two edges. -/
def edgeSpeed (edges : List (Nat × Int)) (window cpr : Nat) : Int × Nat :=
  match edges with
  | (tn, cn) :: rest =>
    let inWin := (sameWay ((tn, cn) :: rest)).filter (fun e => decide (tn ≤ e.1 + window))
    (match inWin.getLast?, rest.head? with
     | some (tf, co), some (tp, cp) =>
       if tf < tn then (countSpeed (cn - co) (tn - tf) cpr, tn - tf) else (countSpeed (cn - cp) (tn - tp) cpr, tn - tp)
     | _, _ => (0, 0))
  | [] => (0, 0)

/-- The speed of an edge port at a tick (R263, R264), and whether it stands still: never more than one count in the time since the last
edge, and 0 once that would be below SPD_ZERO. -/
def State.edgePortSpeed (s : State) (p tick : Nat) : Int × Bool :=
  let cpr := Nat.max 1 (s.regN (Item.POS.CPR p))
  let edges := s.edgesAt p tick
  let (v, iv) := edgeSpeed edges (s.regN (Item.POS.SPD_WIN p) * 400) cpr
  match edges.head? with
  | none => (0, true)
  | some (tn, _) =>
    let idle := tick - tn
    if idle ≤ iv then (v, false)
    else if 24000000000000 < s.regN (Item.POS.SPD_ZERO p) * (cpr * idle) then (0, true)
    else
      let cap := (24000000000000 : Int) / ((cpr * idle : Nat) : Int)
      (max (-cap) (min cap v), false)

/-- The speed of an SSI port at a tick: the change of its accepted frames over SPD_WIN (R265), 0 where none of them shows one (R264). -/
def State.ssiSpeed (s : State) (p tick : Nat) : Int × Bool :=
  let win := (s.edgesAt p tick).filter (fun e => decide (tick ≤ e.1 + s.regN (Item.POS.SPD_WIN p) * 400))
  match win.head?, win.getLast? with
  | some (tn, cn), some (tf, co) =>
    let v := countSpeed (cn - co) (tn - tf) (s.regN (Item.POS.CPR p))
    if win.all (fun e => decide (e.2 = cn)) then (0, true) else (v, decide (v.natAbs < s.regN (Item.POS.SPD_ZERO p)))
  | _, _ => (0, true)

/-- Taking a computed speed (R266): PLAUS and a class-F fault beyond SPD_MAX, or where it differs from the computation before by more
than ACC_MAX × SPD_PERIOD; force bit PLAUS fails the next one. -/
def State.takeSpeed (s : State) (p : Nat) (v : Int) (still : Bool) : State :=
  let u := unitOf Kind.port p
  let r := s.port p
  let old := s.regI (Item.POS.SPEED p)
  let bad := decide ((s.regN (Item.POS.SPD_MAX p) * 1000 : Nat) < v.natAbs)
    || (r.spoke && decide (s.regN (Item.POS.ACC_MAX p) * 1000 * s.regN (Item.POS.SPD_PERIOD p) < (v - old).natAbs * 1000000))
  let forced := s.forceArmed u 5
  let s1 := ((s.setReg (Item.POS.SPEED p) (iw v)).setPort p { r with
    standstill := still, spoke := true, plaus := r.plaus || bad || forced }).useForce u 5
  if bad || forced then s1.detect u .F 7 forced else s1

/-- SPEED_COMPUTE: every SPD_PERIOD the port computes its speed (R263 to R266). In the analogue modes it is the observer's, filtered over
SPD_WIN, whose filter the spec does not give. DESIGN CHOICE: assumption log 112. -/
def execSpeedCompute (port : Fin 4) (s : State) : Host.Outcome State Fault Refusal :=
  .next (s.act (fun t0 =>
    if t0.portMode port = 0 then t0
    else
      let t := (t0.every (Timer.speed port) (t0.regN (Item.POS.SPD_PERIOD port) * 1000)).portBoundary port
      match t.portMode port with
      | 3 => let x := t.edgePortSpeed port t.tick; t.takeSpeed port x.1 x.2
      | 4 => let x := t.edgePortSpeed port t.tick; t.takeSpeed port x.1 x.2
      | 5 => let x := t.ssiSpeed port t.tick; t.takeSpeed port x.1 x.2
      | _ =>
        let v := (Config.unstated 22 [t.reg (Item.POS.SPEED port), iw (t.port port).observed, t.reg (Item.POS.SPD_WIN port)]).toInt
        t.takeSpeed port v (decide (v.natAbs < t.regN (Item.POS.SPD_ZERO port)))))

/-! ## Latches -/

/-- The result of a latch at a capture tick (R261, R262, Table 9-3). -/
def State.latchResult (s : State) (p capture : Nat) : LatchResult × Bool :=
  let r := s.port p
  let (x, span) := s.latchPos p capture (s.regI (Item.POS.SPEED p)) r.standstill
  let far := decide (s.regN (Item.POS.EXTRAP_MAX p) * 400 < span)
  ({ pos := x, angleE := s.angleE p x, speed := s.regI (Item.POS.SPEED p), stamp := stamp48 (tickTime capture)
     valid := s.portSound p && !far, extrap := decide (0 < span), standstill := r.standstill, ref := r.ref, wire := r.wire, amp := r.amp
     forced := decide ((s.unit (unitOf Kind.port p)).force ≠ 0) }, far)

/-- A latch of slot `k` at an event tick (R260 to R263): captured 5.0 ns later, with a speed of its own in the ABZ and HALL modes; formed
within 40 ns of capture, how long the spec leaves open: a free value. An event for a slot whose previous result is not yet formed is
dropped and counted. DESIGN CHOICE: assumption log 122. -/
def State.latchSlot (s : State) (p k tick : Nat) : State :=
  let capture := tick + 2
  if capture < KMap.get (fun _ => 0) (s.port p).formed k then s.bump (Item.POS.LATCH_OVR p)
  else
    let s0 := s.reachTick capture
    let s1 := if s.portMode p = 3 ∨ s.portMode p = 4 then
        let x := s0.edgePortSpeed p capture
        s0.takeSpeed p x.1 x.2
      else s0
    let v := s1.latchResult p capture
    let r := s1.port p
    let s2 := s1.setPort p { r with
      latches := KMap.put (fun _ => none) r.latches k (some v.1), extrap := v.1.extrap, far := v.2
      formed := KMap.put (fun _ => 0) r.formed k (capture + s1.freeWord.toNat % 17) }
    s2.useFree.sampleLanes 2 (p * 8 + k) (fun f => v.1.field f) v.1.stamp v.1.valid

/-- The earliest latch event on the lines to a slot. -/
def State.nextLatch (s : State) (p k : Nat) : Option Nat :=
  (s.events.filterMap (fun e => match e with
    | .latch q j t => if q = p ∧ j = k then some t else none
    | _ => none)).min?

/-- LATCH_EVENT: the event on the line to a port's slot is taken from the line and latches (R260). -/
def execLatchEvent (port : Fin 4) (slot : Fin 8) (s : State) : Host.Outcome State Fault Refusal :=
  .next (s.act (fun t =>
    match t.nextLatch port slot with
    | some tick =>
      let t1 := { t with events := t.events.erase (.latch port slot tick) }
      if t.portMode port = 0 then t1 else t1.latchSlot port slot tick
    | none => t))

/-! ## Compare units -/

/-- One evaluation of a unit (R268): the index it comes to from index `j`, the grid points passed, whether forward. -/
def State.gridStep (s : State) (p c : Nat) (j : Int) : Int × Nat × Bool :=
  let step : Int := (s.regN (Item.POS.CMP_STEP p c) : Nat)
  let off := s.portX p - s.regI (Item.POS.CMP_ORIGIN p c)
  let j1 := max j (off / step)
  let j2 := min j1 ((off + s.regN (Item.POS.CMP_HYST p c)) / step)
  (j2, (j1 - j).toNat + (j1 - j2).toNat, decide (j2 = j1))

/-- Whether a unit reports a direction (CMP_DIR). -/
def State.compareDir (s : State) (p c : Nat) (fwd : Bool) : Bool :=
  let d := s.regN (Item.POS.CMP_DIR p c)
  if fwd then decide (d % 2 = 1) else decide (d / 2 = 1)

/-- Taking a unit to an index, with the event it schedules. -/
def State.setCompare (s : State) (p c : Nat) (j : Option Int) (e : Option Crossing) : State :=
  let r := s.port p
  s.setPort p { r with index := KMap.put (fun _ => none) r.index c j, planned := KMap.put (fun _ => none) r.planned c e }

/-- Issuing a unit's event (R268 to R270): counted, stamped, and on the line to its converter. A winnowed port issues none (R272). -/
def State.issueCrossing (s : State) (p c : Nat) (e : Crossing) : State :=
  let s1 := s.setCompare p c (some e.index) none
  if (s.unit (unitOf Kind.port p)).out then s1
  else
    let s2 := ((s1.bump (Item.POS.CMP_CNT p c)).setReg (Item.POS.CMP_SKIP p c) (s1.reg (Item.POS.CMP_SKIP p c) + nw (e.passed - 1))).setReg
      (Item.POS.CMP_T p c) (nw e.tick)
    let d := s.reg (Item.POS.CMP_DST p c)
    if bitsOf d 15 12 = 1 then { s2 with events := s2.events ++ [.convert (bitsOf d 11 8) (bitsOf d 2 0) e.tick] } else s2

/-- A unit of an ABZ or HALL port evaluates at a count (R269): its event falls on the tick after the edge's. -/
def State.compareCount (s : State) (p tick c : Nat) : State :=
  if !s.compareOn p c then s
  else
    match KMap.get (fun _ => none) (s.port p).index c with
    | none => s.resetIndex p c
    | some j =>
      let s1 := match KMap.get (fun _ => none) (s.port p).planned c with | some e => s.issueCrossing p c e | none => s
      let (j2, n, fwd) := s1.gridStep p c j
      if n = 0 then s1
      else s1.setCompare p c (some j2) (if s1.compareDir p c fwd then some { tick := tick + 1, index := j2, passed := n } else none)

/-- The crossing that a port will make at a speed before a tick, if any (R269): the next grid point its position comes to. -/
def State.predicted (s : State) (p c : Nat) (j v : Int) (tick next : Nat) : Option Crossing :=
  let step : Int := (s.regN (Item.POS.CMP_STEP p c) : Nat)
  let off := s.portX p - s.regI (Item.POS.CMP_ORIGIN p c)
  let dist := if 0 < v then (j + 1) * step - off else off - (j * step - s.regN (Item.POS.CMP_HYST p c)) + 1
  let rate := v * 2 ^ 24
  if v = 0 then none
  else
    let dt : Nat := (dist.toNat * 24000000000000 + (rate.natAbs - 1)) / rate.natAbs
    let at' := Nat.max (tick + 1) ((s.port p).updated + dt)
    if at' < next ∧ s.compareDir p c (decide (0 < v)) then
      some { tick := at', index := if 0 < v then j + 1 else j - 1, passed := 1 }
    else none

/-- A unit of an analogue or SSI port at an update or accepted frame (R269): a crossing that has occurred is reported, on its predicted
tick where one was scheduled and else on the next tick; a scheduled event whose crossing did not occur is cancelled; the next one is
predicted as far as the next update. -/
def State.compareUpdate (s : State) (p : Nat) (v : Int) (next c : Nat) : State :=
  if !s.compareOn p c then s
  else
    match KMap.get (fun _ => none) (s.port p).index c with
    | none => s.resetIndex p c
    | some j =>
      let tick := s.tick
      let (j2, n, fwd) := s.gridStep p c j
      if n = 0 then s.setCompare p c (some j) (s.predicted p c j v tick next)
      else
        match KMap.get (fun _ => none) (s.port p).planned c with
        | some e => s.issueCrossing p c { e with index := j2, passed := n }
        | none => s.setCompare p c (some j2) (if s.compareDir p c fwd then some { tick := tick + 1, index := j2, passed := n } else none)

/-- COMPARE_EVENT: a compare unit issues the event it has scheduled, on its tick (R268 to R270); a unit that stands nowhere yet takes its
index from the present position. -/
def execCompareEvent (port : Fin 4) (c : Fin 2) (s : State) : Host.Outcome State Fault Refusal :=
  .next (s.act (fun t =>
    match KMap.get (fun _ => none) (t.port port).planned c.val with
    | some e => (t.reachTick e.tick).issueCrossing port c e
    | none => if t.compareOn port c && (KMap.get (fun _ => none) (t.port port).index c.val).isNone then t.resetIndex port c else t))

/-! ## Edges -/

/-- The step of a quadrature pair from old to new levels (bit 0 A, bit 1 B): A leading B counts up. PRESUMED: assumption log 19. -/
def quadStep (old new : Nat) : Int :=
  match old % 4, new % 4 with
  | 0, 1 => 1
  | 1, 3 => 1
  | 3, 2 => 1
  | 2, 0 => 1
  | 1, 0 => -1
  | 3, 1 => -1
  | 2, 3 => -1
  | 0, 2 => -1
  | _, _ => 0

/-- The place of a Hall state H3 H2 H1 in the sequence of R257; the illegal states have none. -/
def hallPlace (h : Nat) : Option Nat := [1, 3, 2, 6, 4, 5].idxOf? h

/-- The step of a Hall pair of states: one place either way, none otherwise. -/
def hallStep (old new : Nat) : Int :=
  match hallPlace old, hallPlace new with
  | some a, some b => if (a + 1) % 6 = b then 1 else if (b + 1) % 6 = a then -1 else 0
  | _, _ => 0

/-- A count at a tick: the raw position moves, the edge enters the history of 64 (R254, R263), the compare units evaluate (R269). -/
def State.count (s : State) (p tick : Nat) (d : Int) (levels : Nat) : State :=
  let r := s.port p
  let c := r.raw + s.portSign p * d
  (s.setPort p { r with raw := c, levels := levels, seen := true, updated := tick, down := decide (s.portSign p * d < 0)
                        edges := ((tick, c) :: r.edges).take 64 }).forEach (List.range 2) (fun t k => t.compareCount p tick k)

/-- A rising Z edge (R256): the first one learns the position, a later one checks and corrects the count. -/
def State.zEdge (s : State) (p : Nat) : State :=
  let r := s.port p
  let cpr : Int := (Nat.max 1 (s.regN (Item.POS.CPR p)) : Nat)
  match r.zLearned with
  | none => (s.setPort p { r with zLearned := some r.raw, ref := true }).setReg (Item.POS.Z_POS p) (iw r.raw)
  | some z =>
    let d := (r.raw - z + cpr / 2) % cpr - cpr / 2
    if s.regN (Item.POS.Z_TOL p) < d.natAbs then
      ((s.bump (Item.POS.Z_ERR_CNT p)).setPort p { r with zBad := true }).raise (unitOf Kind.port p) .F 5
    else s.setPort p { r with raw := r.raw - d }

/-- An illegal transition (R255, R257): nothing counts but QUAD_ERR_CNT, class F. -/
def State.illegalEdge (s : State) (p levels : Nat) (forced : Bool) : State :=
  ((s.bump (Item.POS.QUAD_ERR_CNT p)).setPort p { s.port p with levels := levels, seen := true }).detect (unitOf Kind.port p) .F 4 forced

/-- An edge of an ABZ port (R255, R256). -/
def State.abzEdge (s : State) (p levels tick : Nat) (forced : Bool) : State :=
  let r := s.port p
  let s1 :=
    if (r.levels ^^^ levels) % 4 = 3 ∨ forced then s.illegalEdge p levels forced
    else if (r.levels ^^^ levels) % 4 = 0 then s.setPort p { r with levels := levels, seen := true }
    else s.count p tick (quadStep r.levels levels) levels
  if s.regN (Item.POS.Z_EN p) = 1 ∧ r.levels / 4 = 0 ∧ levels / 4 = 1 then s1.zEdge p else s1

/-- A change of the state of a HALL port (R257). -/
def State.hallEdge (s : State) (p levels tick : Nat) (forced : Bool) : State :=
  let r := s.port p
  if forced ∨ (hallPlace levels).isNone then s.illegalEdge p levels forced
  else if (hallPlace r.levels).isNone then s.setPort p { r with levels := levels, seen := true, updated := tick }
  else if hallStep r.levels levels = 0 then s.illegalEdge p levels false
  else s.count p tick (hallStep r.levels levels) levels

/-- PORT_EDGE: an input edge of an ABZ or HALL port (R254 to R257): the levels after every change of a tick (bit 0 A or H1, bit 1 B or
H2, bit 2 Z or H3), the tick on which the unfiltered levels changed, and for how many ticks they have been stable since. It counts only
where that is EDGE_FILT or more, and every such edge is stamped. -/
def execPortEdge (port : Fin 4) (levels : Fin 8) (tick stable : Nat) (s : State) : Host.Outcome State Fault Refusal :=
  .next (s.act (fun t0 =>
    let m := t0.portMode port
    let u := unitOf Kind.port port
    if (m ≠ 3 ∧ m ≠ 4) ∨ stable < t0.regN (Item.POS.EDGE_FILT port) ∨ (t0.port port).levels = levels.val then t0
    else
      let forced := t0.forceArmed u 1
      let t := (((t0.reachTick (tick + t0.regN (Item.POS.EDGE_FILT port))).portBoundary port).useForce u 1).setReg (Item.POS.EDGE_T port) (nw tick)
      if m = 3 then t.abzEdge port levels tick forced else t.hallEdge port levels tick forced))

/-! ## Analogue modes -/

/-- Sine and cosine of a sample in mV: the demodulated envelopes of a resolver, the differences of the pairs themselves in SINCOS. -/
def PortSample.pair (x : PortSample) (mode : Nat) : Int × Int := if mode = 1 then (x.sin, x.cos) else (x.aP - x.aN, x.bP - x.bN)

/-- The square of a sample's amplitude (R251). -/
def PortSample.square (x : PortSample) (mode : Nat) : Nat :=
  (PortSample.pair x mode).1.natAbs ^ 2 + (PortSample.pair x mode).2.natAbs ^ 2

/-- The amplitude of a sample lies outside AMP_LO to AMP_HI per cent of AMP_NOM, or force bit AMP reads it low (R251, Table 9-7). -/
def State.ampBad (s : State) (p : Nat) (x : PortSample) : Bool :=
  let q := PortSample.square x (s.portMode p) * 10000
  let nom := s.regN (Item.POS.AMP_NOM p)
  s.forced (unitOf Kind.port p) 2 || decide (q < (nom * s.regN (Item.POS.AMP_LO p)) ^ 2)
    || decide ((nom * s.regN (Item.POS.AMP_HI p)) ^ 2 < q)

/-- The common mode (V_P + V_N) / 2 of a pair lies more than CM_TOL from CM_NOM (R251). -/
def State.commonBad (s : State) (p : Nat) (vP vN : Int) : Bool :=
  decide (2 * s.regN (Item.POS.CM_TOL p) < (vP + vN - 2 * s.regN (Item.POS.CM_NOM p)).natAbs)

/-- The common mode of pair A, which force bit WIRE reads in disagreement, and of pair B. -/
def State.pairBad (s : State) (p : Nat) (x : PortSample) (b : Bool) : Bool :=
  if b then s.commonBad p x.bP x.bN else s.forced (unitOf Kind.port p) 0 || s.commonBad p x.aP x.aN

/-- The group delay in ticks that an update of the observer refers back by: of the envelope filter of a resolver, at most its excitation
period; the spec does not give it (R250). DESIGN CHOICE: assumption log 112. -/
def State.groupDelay (s : State) (p : Nat) : Nat :=
  if s.portMode p = 1 then
    (Config.unstated 23 [s.reg (Item.POS.EXC_FREQ p)]).toNat % (400000000 / Nat.max 1 (s.regN (Item.POS.EXC_FREQ p)) + 1)
  else 0

/-- The largest speed in mrpm that an analogue port tracks (R250): EXC_FREQ / 5 sensor cycles a second, or 10,000. -/
def State.trackLimit (s : State) (p : Nat) : Nat :=
  (if s.portMode p = 1 then s.regN (Item.POS.EXC_FREQ p) / 5 else 10000) * 60000 / Nat.max 1 (s.regN (Item.POS.SENSOR_CYC p))

/-- The observer takes a sample (R250): a type-II tracking observer of bandwidth OBS_BW, whose equations the spec does not give, moves its
angle and its speed. DESIGN CHOICE: assumption log 112. -/
def State.observe (s : State) (p : Nat) (x : PortSample) : State :=
  let r := s.port p
  let sgn := s.portSign p
  let sc := PortSample.pair x (s.portMode p)
  let ops := [iw (sgn * r.raw), iw (sgn * r.observed), iw sc.1, iw sc.2, s.reg (Item.POS.OBS_BW p)]
  let angle : Int := ((Config.unstated 20 ops).toNat % 2 ^ 24 : Nat)
  let lim : Int := (s.trackLimit p : Nat)
  let step : Int := (sgn * angle - r.raw + 2 ^ 23) % 2 ^ 24 - 2 ^ 23
  s.setPort p { r with
    raw := if r.seen then r.raw + step else (sgn * angle) % 2 ^ 24
    seen := true
    ref := r.ref || decide (s.regN (Item.POS.SENSOR_CYC p) = 1)
    updated := s.tick - s.groupDelay p
    observed := sgn * max (-lim) (min lim (Config.unstated 21 ops).toInt) }

/-- The amplitude and common-mode runs of a sample (R251): sixteen in a row set STATUS.AMP or STATUS.WIRE, class F. -/
def State.checkSample (s : State) (p : Nat) (x : PortSample) : State :=
  let r := s.port p
  let run (bad : Bool) (n : Nat) : Nat := if bad then n + 1 else 0
  let a := run (s.ampBad p x) r.ampRun
  let ca := run (s.pairBad p x false) r.cmRunA
  let cb := run (s.pairBad p x true) r.cmRunB
  let s1 := (s.setPort p { r with
    ampRun := a, cmRunA := ca, cmRunB := cb, amp := r.amp || decide (16 ≤ a), wire := r.wire || decide (16 ≤ ca ∨ 16 ≤ cb) }).setReg
    (Item.POS.AMP p) (nw (Nat.sqrt (PortSample.square x (s.portMode p))))
  if a = 16 ∨ ca = 16 ∨ cb = 16 then
    s1.detect (unitOf Kind.port p) .F 2 (s.forced (unitOf Kind.port p) 2 || s.forced (unitOf Kind.port p) 0)
  else s1

/-- OBSERVER_UPDATE: every 625 ns an analogue port samples its pairs, its observer moves and the checks of R251 run (R250, R251); the
compare units follow (R269). -/
def execObserverUpdate (port : Fin 4) (sample : PortSample) (s : State) : Host.Outcome State Fault Refusal :=
  .next (s.act (fun t0 =>
    if t0.portMode port ≠ 1 ∧ t0.portMode port ≠ 2 then t0
    else
      let t := ((t0.every (Timer.observer port) 625).portBoundary port).observe port sample
      (t.forEach (List.range 2) (fun u k => u.compareUpdate port (u.port port).observed (u.tick + 250) k)).checkSample port sample))

/-- The peak excitation current of a resolver port is out of its window, or force bit EXC reads it so (R252). -/
def State.excBad (s : State) (p peak : Nat) : Bool :=
  s.forced (unitOf Kind.port p) 3 || decide (peak < s.regN (Item.POS.EXC_IMIN p)) || decide (s.regN (Item.POS.EXC_IMAX p) < peak)

/-- EXCITATION_PERIOD: the peak excitation current of a period, in mA (R252); four in a row out of window turn the
excitation off. -/
def execExcitationPeriod (port : Fin 4) (peak : Nat) (s : State) : Host.Outcome State Fault Refusal :=
  .next (s.act (fun t0 =>
    if t0.portMode port ≠ 1 ∨ !(t0.port port).excOn then t0
    else
      let t := t0.every (Timer.excitation port) (1000000000 / Nat.max 1 (t0.regN (Item.POS.EXC_FREQ port)))
      let r := t.port port
      let n := if t.excBad port peak then r.excRun + 1 else 0
      let t1 := (t.setPort port { r with excRun := n, exc := r.exc || decide (4 ≤ n), excOn := decide (n < 4) }).setReg
        (Item.POS.EXC_I port) (nw peak)
      if n = 4 then t1.detect (unitOf Kind.port port) .F 3 (t.forced (unitOf Kind.port port) 3) else t1))

/-- The pairs with a differential receiver and two comparators in use (Table 9-1): A, B and, with Z_EN, Z of an ABZ port; A of an SSI
port. -/
def State.pairUsed (s : State) (p pair : Nat) : Bool :=
  match s.portMode p with
  | 3 => decide (pair < 2) || decide (s.regN (Item.POS.Z_EN p) = 1)
  | 5 => decide (pair = 0)
  | _ => false

/-- WIRE_DISAGREEMENT: the P and N comparators of a pair (0 A, 1 B, 2 Z) have stood at these levels in mV for a time in ticks (R253): both
on one side of WIRE_VTH is a disagreement. -/
def execWireDisagreement (port : Fin 4) (pair : Fin 3) (vP vN : Nat) (ticks : Nat) (s : State) : Host.Outcome State Fault Refusal :=
  .next (s.act (fun t =>
    let r := t.port port
    let u := unitOf Kind.port port
    let forced := t.forced u 0 && decide (pair.val = 0)
    let vth := t.regN (Item.POS.WIRE_VTH port) * 100
    if !t.pairUsed port pair ∨ (!forced ∧ decide (vth < vP) ≠ decide (vth < vN)) then t
    else if t.regN (Item.POS.WIRE_T port) * 2 ≤ ticks * 5 ∨ forced then (t.setPort port { r with wire := true }).detect u .F 1 forced
    else
      let recent := t.time.now :: r.shorts.filter (fun x => decide (t.time.now < x + 100000000))
      let t1 := (t.setPort port { r with shorts := recent }).bump (Item.POS.WIRE_CNT port)
      if t.regN (Item.POS.WIRE_MAX port) ≤ recent.length then t1.raise u .W 16 else t1))

/-! ## SSI -/

/-- The number that a Gray code word stands for. -/
def grayDecode (bits : Nat) (g : Nat) : Nat := (List.range bits).foldl (fun a k => a ^^^ (g / 2 ^ k)) 0

/-- The position in counts predicted for a tick from the last accepted frame and the speed. -/
def State.ssiPredicted (s : State) (p tick : Nat) : Int :=
  let r := s.port p
  r.raw + roundDiv (s.regI (Item.POS.SPEED p) * ((tick - r.updated : Nat) : Int) * (s.regN (Item.POS.CPR p) : Int)) 24000000000000

/-- The position of a frame in counts (R258): its position bits, MSB first, in its code, on the turn nearest to where the port stands; the
first frame gives its own number. DEDUCED: assumption log 113. -/
def State.ssiPosition (s : State) (p : Nat) (word : Nat) : Int :=
  let r := s.port p
  let n := s.regN (Item.POS.SSI_BITS p)
  let x := word / 2 ^ s.regN (Item.POS.SSI_STAT p) % 2 ^ n
  let pos : Int := s.portSign p * ((if s.regN (Item.POS.SSI_CODE p) = 1 then grayDecode n x else x : Nat) : Int)
  if r.seen then r.raw + ((pos - r.raw + 2 ^ (n - 1)) % 2 ^ n - 2 ^ (n - 1)) else pos

/-- Whether a frame is rejected (R259): the data line low before the first clock edge, not high again within SSI_TMO of the last one
(`release` ns), a status bit of SSI_ERRMASK set, or a jump beyond SSI_JUMP from the prediction for its sampling tick. -/
def State.ssiBad (s : State) (p word : Nat) (lowBefore : Bool) (release tick : Nat) : Bool :=
  let jump := (s.port p).seen && decide (s.regN (Item.POS.SSI_JUMP p) < (s.ssiPosition p word - s.ssiPredicted p tick).natAbs)
  lowBefore || decide (s.regN (Item.POS.SSI_TMO p) * 1000 < release)
    || decide (word % 2 ^ s.regN (Item.POS.SSI_STAT p) &&& s.regN (Item.POS.SSI_ERRMASK p) ≠ 0) || jump

/-- A rejected frame (R259): the position stays; the third in a row is class F. -/
def State.rejectFrame (s : State) (p : Nat) (forced : Bool) : State :=
  let u := unitOf Kind.port p
  let r := s.port p
  let s1 := ((s.setPort p { r with rejectRun := r.rejectRun + 1, ssi := true }).bump (Item.POS.SSI_ERR_CNT p)).detect u .W 17 forced
  if 3 ≤ r.rejectRun + 1 then s1.detect u .F 6 forced else s1

/-- SSI_FRAME: the frame that an SSI port clocks every SSI_PERIOD (R258, R259): its SSI_BITS position bits and SSI_STAT status bits as one
number, whether the data line was low before the first clock edge, and how many ns after the last clock edge it was high again. It was
sampled SSI_DELAY / 2 after the first falling clock edge, lasts its bits at SSI_RATE and is accepted on the tick after the last one. -/
def execSsiFrame (port : Fin 4) (word : BitVec 40) (lowBefore : Bool) (release : Nat) (s : State) : Host.Outcome State Fault Refusal :=
  .next (s.act (fun t0 =>
    if t0.portMode port ≠ 5 then t0
    else
      let u := unitOf Kind.port port
      let t1 := (t0.every (Timer.frame port) (t0.regN (Item.POS.SSI_PERIOD port) * 1000)).portBoundary port
      let sampled := t1.tick + t1.regN (Item.POS.SSI_DELAY port) / 5
      let bits := t1.regN (Item.POS.SSI_BITS port) + t1.regN (Item.POS.SSI_STAT port)
      let accepted := t1.tick + bits * 400000 / Nat.max 1 (t1.regN (Item.POS.SSI_RATE port)) + 1
      let forced := t1.forceArmed u 4
      let bad := forced || t1.ssiBad port word.toNat lowBefore release sampled
      let t := (t1.reachTick accepted).useForce u 4
      if bad then t.rejectFrame port forced
      else
        let r := t.port port
        let pos := t1.ssiPosition port word.toNat
        let win := r.edges.filter (fun e => decide (sampled ≤ e.1 + t.regN (Item.POS.SPD_WIN port) * 400))
        let t2 := t.setPort port { r with
          raw := pos, seen := true, ref := true, rejectRun := 0, ssi := false, updated := sampled, accepted := accepted
          edges := (sampled, pos) :: (if win = [] then r.edges.take 1 else win) }
        t2.forEach (List.range 2) (fun v k =>
          v.compareUpdate port (v.regI (Item.POS.SPEED port)) (accepted + v.regN (Item.POS.SSI_PERIOD port) * 400) k)))

/-! ## Presence, test, return -/

/-- Whether a list holds `n` in a row for which a test is true. -/
def hasRun {α : Type} (f : α → Bool) (n : Nat) (l : List α) : Bool :=
  (l.foldl (fun (a : Nat × Bool) x => let k := if f x then a.1 + 1 else 0; (k, a.2 || decide (n ≤ k))) (0, false)).2

/-- Amplitude and common mode pass R251 over the samples of a presence check. -/
def State.samplesOk (s : State) (p : Nat) (l : List PortSample) : Bool :=
  !hasRun (s.ampBad p) 16 l && !hasRun (fun x => s.pairBad p x false) 16 l && !hasRun (fun x => s.pairBad p x true) 16 l

/-- The presence checks of a port that fail, the supply current first and then the conditions of its mode's row in order (R271, Tables 9-5
and 6-11). -/
def State.presenceFails (s : State) (p : Nat) (x : Presence) : List Bool :=
  let u := unitOf Kind.port p
  let supply := decide (s.regN (Item.POS.SUP_V p) ≠ 0)
    && (decide (x.supply < s.regN (Item.POS.SUP_IMIN p)) || decide (s.regN (Item.POS.SUP_IMAX p) < x.supply))
  supply :: (match s.portMode p with
    | 1 => [s.excBad p x.excitation, !s.samplesOk p x.samples, decide (600 < x.phase.natAbs)]
    | 2 => [!s.samplesOk p x.samples]
    | 3 => [s.forced u 0 || x.wires.getLsbD 0 || x.wires.getLsbD 1 || (decide (s.regN (Item.POS.Z_EN p) = 1) && x.wires.getLsbD 2)]
    | 4 => [match x.hall with | some h => (hallPlace h.val).isNone | none => true]
    | 5 => [s.forced u 0 || s.forceArmed u 4 || decide (x.frames < 8), decide (s.regN (Item.POS.SSI_JUMP p) < x.jump)]
    | _ => [true])

/-- The presence checks of a port pass. -/
def State.presenceOk (s : State) (p : Nat) (x : Presence) : Bool := (s.presenceFails p x).all (fun b => !b)

/-- What the presence checks leave in the port's items: its supply and excitation current and the resolver's phase. -/
def State.notePresence (s : State) (p : Nat) (x : Presence) : State :=
  let s1 := if s.regN (Item.POS.SUP_V p) = 0 then s else s.setReg (Item.POS.SUP_I p) (nw x.supply)
  if s.portMode p = 1 then s1.setRegs [(Item.POS.EXC_I p, nw x.excitation), (Item.POS.EXC_PHASE p, iw x.phase)] else s1

/-- A port back in service (R443, R447): its flags and runs clear, its excitation is on again. -/
def State.portBack (s : State) (p : Nat) : State :=
  let r := s.port p
  s.setPort p { r with wire := false, amp := false, exc := false, ssi := false, zBad := false, plaus := false, excOn := true,
                       ampRun := 0, cmRunA := 0, cmRunB := 0, excRun := 0, rejectRun := 0, shorts := [], spoke := false }

end Sys2Proof.Machine
end

