-- ==== Sys2Proof/Machine/Selftests.lean ====
section
/-! DEFINITION. The self-tests of the units: what each check of a numbered test compares (Tables 6-5, 6-11, 8-6, 9-6, R227, R297, R436, R496),
and the targeted self-test of every unit type (Table 16-1). -/

namespace Sys2Proof.Machine

/-- The number of the first check that fails, 0 where all pass (R187). -/
def firstFail (l : List Bool) : Nat := match l.findIdx? (fun b => b) with | some k => k + 1 | none => 0

/-- The fault unit of a fast or of an integrating input, by its index of R219. -/
abbrev inputUnit (slow : Bool) (i : Nat) : Nat := unitOf (if slow then Kind.slowInput else Kind.fastInput) i

/-- What a leg's off-state checks give, nothing where they were not measured. -/
def State.offOf (s : State) (leg : Nat) (f : SelftestFinding) : Nat :=
  match f.offs.find? (fun p => decide (p.1 = leg)) with
  | some p => s.offBits leg p.2
  | none => 0

/-- The checks of a numbered test of a leg that fail (Table 6-5). -/
def State.legChecks (s : State) (leg test : Nat) (f : SelftestFinding) : List Bool :=
  match test with
  | 1 => (List.range 7).map (fun k => !(f.trips.getLsbD k && f.releases.getLsbD k))
  | 2 => [!(decide (1 ≤ f.qgHs) && decide (f.qgHs ≤ 1000)), !(decide (1 ≤ f.qgLs) && decide (f.qgLs ≤ 1000))]
  | 3 => (List.range 7).map (fun k => (s.offOf leg f).testBit k || (decide (k = 4) && s.forceArmed (unitOf Kind.leg leg) 13))
  | _ => [decide (f.link ≤ 2 * f.midMax)]

/-- The test levels of an input in µV (Table 8-6). -/
def testLevels (bi : Bool) : List Int := if bi then [-2000000, 0, 2000000] else [500000, 2500000, 4500000]

/-- The levels of test 1 of a fast input that fail: the mean of the conversions not within ±5 mV, or their spread above 2 mV
(Table 8-6); force bit TEST fails one. -/
def State.fastLevels (s : State) (k i : Nat) (f : SelftestFinding) : List Bool :=
  let forced := s.forceArmed (fastInputUnit k i) 2
  (testLevels (s.bipolar k i)).zipIdx.map (fun p =>
    let v := (f.levels.getD p.2 []).map (fun c => s.codeVolts k i (BitVec.ofInt 14 c))
    let n : Int := v.length
    let hi := v.foldl max (v.headD 0)
    let lo := v.foldl min (v.headD 0)
    (forced && decide (p.2 = 0)) || decide (v = []) || decide (n * 5000 * 16384000000 < (v.sum - n * p.1 * 16384000000).natAbs)
      || decide (2000 * 16384000000 < hi - lo))

/-- The levels of test 1 of an integrating input that fail: the mean of a window not within ±2.5 mV (Table 8-6). -/
def State.slowLevels (s : State) (k i : Nat) (f : SelftestFinding) : List Bool :=
  let forced := s.forceArmed (unitOf Kind.slowInput (32 * k + i)) 2
  (testLevels (s.slowBipolar k i)).zipIdx.map (fun p =>
    match (f.levels.getD p.2 []).head? with
    | some c => (forced && decide (p.2 = 0)) || decide (2500 * 2 ^ 24 < (c * 5000000 - p.1 * 2 ^ 24).natAbs)
    | none => true)

/-- The checks of a numbered test of a port that fail (Table 9-6): test levels of the used pairs and its converters within ±20 mV; presence;
the excitation loop. -/
def State.portChecks (s : State) (p test : Nat) (f : SelftestFinding) : List Bool :=
  let m := s.portMode p
  let used (k : Nat) : Bool :=
    match k with
    | 0 => decide (m ≠ 0)
    | 1 => decide (m ≠ 0) && decide (m ≠ 5)
    | 2 => decide (m = 4) || (decide (m = 3) && decide (s.regN (Item.POS.Z_EN p) = 1))
    | _ => decide (m = 1) || decide (m = 5)
  match test with
  | 1 => (List.range 4).map (fun k => used k && !f.pairs.getLsbD k) ++ [decide (m = 1 ∨ m = 2) && f.converters.any (fun d => decide (20 < d.natAbs))]
  | 2 => s.presenceFails p f.presence
  | _ => [s.excBad p f.presence.excitation, decide (600 < f.presence.phase.natAbs)]

/-- The stored vectors that a lane did not reproduce (R297). -/
def laneChecks (lane : Nat) (f : SelftestFinding) : List Bool :=
  match f.vectors.find? (fun p => decide (p.1 = lane)) with
  | some p => (List.range 16).map (fun k => !p.2.getLsbD k)
  | none => []

/-- The corrections that a recalibration of a fast converter finds, beyond the limits of R227: gain, offset. -/
def calibrationChecks (f : SelftestFinding) : List Bool :=
  match corrections f.low f.high with
  | some (g, o) => [decide (10000 < g.natAbs), decide (20000 < o.natAbs)]
  | none => [true, false]

/-- The frames of R496 that did not come back unchanged, of their format and with a stamp after the one before. -/
def loopChecks (f : SelftestFinding) : List Bool :=
  let form (k : Nat) (x : CanFrame) : Bool :=
    match k with
    | 0 => !x.fdf && !x.ide && !x.rtr && decide (x.data.length = 8)
    | 1 => !x.fdf && x.ide && x.rtr
    | 2 => x.fdf && !x.ide && x.brs && decide (x.data.length = 64)
    | _ => x.fdf && x.ide && decide (x.data.length = 12)
  (List.range 4).map (fun k =>
    match f.loops[k]? with
    | some (a, b, t) => decide (a ≠ b) || !form k a || decide (2000 < f.us)
        || (match (if k = 0 then none else f.loops[k - 1]?) with | some (_, _, t0) => decide (t ≤ t0) | none => false)
    | none => true)

/-- The checks of a numbered self-test of a unit, in the order of Table 6-11: true where one fails. -/
def State.testChecks (s : State) (u test : Nat) (f : SelftestFinding) : List Bool :=
  let i := unitIndex u
  match unitKind u with
  | 2 => s.legChecks i test f
  | 5 => if test = 1 then s.fastLevels (i / 8) (i % 8) f else [s.fastOpen (i / 8) (i % 8) (BitVec.ofInt 14 f.injected)]
  | 6 => if test = 1 then s.slowLevels (i / 32) (i % 32) f else [s.slowOpen (i / 32) (i % 32) f.injected]
  | 7 => s.portChecks i test f
  | 9 => laneChecks i f
  | 10 => calibrationChecks f
  | 11 => (List.range 3).map (fun k => match f.windows[k]? with | some d => decide (1000 < d.natAbs) | none => true)
  | 12 => if s.forceArmed u 4 then true :: (loopChecks f).drop 1 else loopChecks f
  | _ => []

/-- Whether an output's switches pass their pulses (Table 15-4), in the state the output stands in: `on` or off. -/
def PulseTest.highOk (r : PulseTest) (on : Bool) : Bool := if on then decide (r.hsP < 2000) else decide (r.vso ≤ r.hsP + 2000)
def PulseTest.lowOk (r : PulseTest) (on : Bool) : Bool := if on then decide (r.vso ≤ r.lsN + 2000) else decide (r.lsN < 2000)

/-- An open load as the pulses of an off output show it (Table 15-4): the other terminal does not follow. DEDUCED: assumption log 127. -/
def PulseTest.openLoad (r : PulseTest) : Bool := !decide (r.vso ≤ r.hsN + 2000) || !decide (r.lsP < 2000)

/-- Whether the targeted self-test of a unit passes (Table 16-1). -/
def State.targetedOk (s : State) (u : Nat) (f : SelftestFinding) : Bool :=
  let i := unitIndex u
  let ok (l : List Bool) : Bool := l.all (fun b => !b)
  let lanes (n : Nat) : Bool := (s.lanesOf n).all (fun m => ok (laneChecks m f))
  match unitKind u with
  | 1 => (s.bind.legsOf i).all (fun l => decide (s.offOf l f = 0)) && lanes i
  | 2 => ok (s.legChecks i 1 f) && ok (s.legChecks i 2 f)
  | 4 => (match s.actSheaf i with
          | some n => lanes n && (match s.portOf n with | some p => ok (s.portChecks p 1 f) | none => true)
          | none => true)
  | 8 => PulseTest.highOk f.pulse false && PulseTest.lowOk f.pulse false
  | _ => ok (s.testChecks u 1 f)

/-- What a targeted self-test leaves beside its outcome: the charges of the gate loops, the corrections of a fast converter. -/
def State.noteTest (s : State) (u : Nat) (f : SelftestFinding) : State :=
  let i := unitIndex u
  match unitKind u with
  | 2 => s.setRegs [(Item.GATE.QG_HS i, nw f.qgHs), (Item.GATE.QG_LS i, nw f.qgLs)]
  | 10 => (match corrections f.low f.high with | some (g, o) => s.calibrate i g o | none => s)
  | _ => s

end Sys2Proof.Machine
end

