-- ==== Sys2Proof/Machine/Power.lean ====
section
/-! DEFINITION. Supply, reset, the end of POWERUP and of PROOF, the shutdown-path test, WAKE (chapters Contacts and Supplies,
Start-up, Safety Functions). -/

namespace Sys2Proof.Machine

/-! ## Reset -/

/-- What lies in reset (R54, R55, R147): all but the part, the store, the always-on latch, the levels at the STO contacts and the
queue stands as State.reset has it. An open phase of the 10 s reset is cut short (R388); the hold timer of
SHIP starts again. DEDUCED: assumption log 22. -/
def State.inReset (s : State) (powered nporLow : Bool) (cause now : Nat) : State :=
  let r := State.reset
  { r with
    dev := { r.dev with powered := powered, nporLow := nporLow, cause := cause, partAD0 := s.dev.partAD0,
                        nextOrder := s.dev.nextOrder, free := s.dev.free }
    time := { r.time with now := now, replica := now }
    store := s.store
    lv := { s.lv with phase := false, cutShort := s.lv.cutShort || s.lv.phase, done10 := false, done20 := false,
                      shipFrom := if s.lv.shipLow && s.lv.armed then some now else none }
    sup := { r.sup with
      stoA := s.sup.stoA, stoB := s.sup.stoB, latched := !(s.sup.stoA && s.sup.stoB)
      highSince := if s.sup.stoA && s.sup.stoB then some now else none }
    badWords := s.badWords.filter (fun m => decide (m = .store 0 ∨ m = .store 1))
    pending := s.pending }

/-- Leaving reset into POWERUP (Table 2-6, R72): the cause is reported, the boot ROM selects the firmware (R507); an STO
input that is low is a SAFE cause from the start (R407, R532). DEDUCED: assumption log 25. -/
def State.leaveReset (s : State) (cause now : Nat) : State :=
  let s1 := (s.inReset true false cause now).bootFirmware
  let s2 := s1.setReg Item.DEV.BOOT_CAUSE (nw cause)
  let s3 := { s2 with store := { s2.store with supplied := true } }
  if s3.sup.latched then { s3 with dev := { s3.dev with causes := [.sto] } } else s3

/-- VSUP_START (R52, R29): VSUP rises through 8.6 V; the device leaves reset unless nPOR still holds it. -/
def execVsupStart (s : State) : Host.Outcome State Fault Refusal :=
  .next (s.always (fun t =>
    if t.dev.powered then t
    else
      let cause := if t.store.supplied then t.dev.cause else 0
      if t.dev.nporLow then { t with dev := { t.dev with powered := true, cause := cause } }
      else t.leaveReset cause 0))

/-- The last fault record is written to the non-volatile store (Table 2-8). -/
def State.writeLastRecord (s : State) : State := { s with store := { s.store with lastRecord := s.store.journal.head? } }

/-- SUPPLY_LOSS (R55, Table 2-8): every leg and output off, the last fault record written, then reset until VSUP returns.
DEDUCED: assumption log 24. -/
def execSupplyLoss (s : State) : Host.Outcome State Fault Refusal :=
  .next (s.always (fun t =>
    if !t.dev.powered then t
    else t.writeLastRecord.inReset false t.dev.nporLow 1 0))

/-- NPOR_RESET (R54): low for 10 ms or more; a reset of the whole device, LOCKED included, as a supply loss followed by a start.
DEDUCED: assumption log 100. -/
def execNporReset (s : State) : Host.Outcome State Fault Refusal :=
  .next (s.always (fun t =>
    if t.dev.nporLow then t
    else if t.dev.powered then t.writeLastRecord.inReset true true 2 0
    else { t with dev := { t.dev with nporLow := true } }))

/-- NPOR_RELEASE (R54): the module comes out of reset when VSUP is above 8.6 V and nPOR is high. -/
def execNporRelease (s : State) : Host.Outcome State Fault Refusal :=
  .next (s.always (fun t =>
    if !t.dev.nporLow then t
    else if t.dev.powered then t.leaveReset t.dev.cause 0
    else { t with dev := { t.dev with nporLow := false } }))

/-- FIRMWARE_START_TIMEOUT (R507): firmware that has not reached running within 100 ms of reset causes a reset, and step 1
applies to it. Device time goes on: only VSUP and nPOR restart it (R29). DEDUCED: assumption log 23. -/
def execFirmwareStartTimeout (s : State) : Host.Outcome State Fault Refusal :=
  .next (s.act (fun t =>
    if t.dev.state = .powerup ∧ !t.dev.fwRunning ∧ t.dev.bootable then t.leaveReset t.dev.cause t.time.now else t))

/-- WAKE (R387): WAKE has been high for so many ms, at least 10; an open latch closes, whatever the device state; in TRANSPORT POWERUP
starts, and device time goes on from the count of the always-on oscillator, `elapsed` ns after entry (R86). The SHIP timer waits for a high
(chapter Auxiliary Converter). DEDUCED: assumption log 29. -/
def execWake (elapsed ms : Nat) (s : State) : Host.Outcome State Fault Refusal :=
  .next (s.always (fun t =>
    if !t.dev.powered ∨ !t.lv.latchOpen ∨ ms < 10 then t
    else
      let t1 := { t with lv := { t.lv with latchOpen := false, transport := false, cutShort := false, armed := !t.lv.shipLow,
                                           shipFrom := none } }
      if t.dev.state = .transport ∧ !t.dev.nporLow then t1.leaveReset 3 (t.time.now + elapsed) else t1))

/-! ## Supply monitoring -/

/-- VSUP_LOW_OPERATION (Table 2-5): the measured voltage, and a class-W supply warning between 8.2 and 9.0 V. -/
def execVsupLowOperation (mv : Nat) (s : State) : Host.Outcome State Fault Refusal :=
  .next (s.act (fun t =>
    let t1 := t.setReg Item.DEV.VSUP_MV (nw (Nat.min mv 70000))
    if 8200 ≤ mv ∧ mv ≤ 9000 then t1.raise (unitOf Kind.device 0) .W 16 else t1))

/-- VSUP_HIGH_OPERATION (Table 2-5): a class-W supply warning between 60.0 and 64.0 V. -/
def execVsupHighOperation (mv : Nat) (s : State) : Host.Outcome State Fault Refusal :=
  .next (s.act (fun t =>
    let t1 := t.setReg Item.DEV.VSUP_MV (nw (Nat.min mv 70000))
    if 60000 ≤ mv ∧ mv ≤ 64000 then t1.raise (unitOf Kind.device 0) .W 17 else t1))

/-- VSUP_OVER_VOLTAGE (Table 2-5, Table 3-6): above 64.0 V every sheaf takes its safe state, the outputs switch off, the device
goes to SAFE, and the cause stands until VSUP_OVER_VOLTAGE_END. -/
def execVsupOverVoltage (mv : Nat) (s : State) : Host.Outcome State Fault Refusal :=
  .next (s.act (fun t =>
    let t1 := t.setReg Item.DEV.VSUP_MV (nw (Nat.min mv 70000))
    if 64000 < mv then
      let t2 := t1.raise (unitOf Kind.device 0) .W 18
      let t3 := { t2 with dev := { t2.dev with vsupOver := true } }
      (t3.safeDevice .overVoltage).forEach (List.range 8) State.outOff
    else t1))

/-- VSUP_OVER_VOLTAGE_END (Table 2-5, R532): VSUP has been below 61.0 V for 10 ms, and the SAFE cause is gone. -/
def execVsupOverVoltageEnd (mv : Nat) (s : State) : Host.Outcome State Fault Refusal :=
  .next (s.act (fun t =>
    let t1 := t.setReg Item.DEV.VSUP_MV (nw (Nat.min mv 70000))
    if mv < 61000 then { t1 with dev := { t1.dev with vsupOver := false } }.causeGone .overVoltage else t1))

/-- GATE_POWER_WARNING (R58, Table 2-9, Table 6-10): the 100 ms averages of the gate power of the 96 domains in mW, domain 2n the high side of
leg n and 2n + 1 its low side, and a class-W warning where their sum lies above DEV.GATE_PWR_WARN. -/
def execGatePowerWarning (powers : List Nat) (s : State) : Host.Outcome State Fault Refusal :=
  .next (s.act (fun t0 =>
    let t := t0.every Timer.gatePower 100000000
    let t1 := t.forEach (List.range 48) (fun t n => t.setRegs
      [(Item.GATE.PWR_HS n, nw (Nat.min (powers.getD (2 * n) 0) 2000)), (Item.GATE.PWR_LS n, nw (Nat.min (powers.getD (2 * n + 1) 0) 2000))])
    let t2 := t1.setReg Item.DEV.GATE_PWR (nw (Nat.min powers.sum 40000))
    if t2.regN Item.DEV.GATE_PWR_WARN < powers.sum then t2.raise (unitOf Kind.device 0) .W 19 else t2))

/-! ## Output levels by condition (R522, Table 20-12) -/

/-- VIO is on with VSUP, but for TRANSPORT. -/
def State.vioOn (s : State) : Bool := s.dev.powered && decide (s.dev.state ≠ .transport)

/-- VREFO, and the supply of a port that its SUP_V sets, are on from the end of the start tests. -/
def State.vrefOn (s : State) : Bool := s.vioOn && s.dev.tested
def State.portSupplyOn (s : State) (p : Nat) : Bool := s.vrefOn && decide (s.regN (Item.POS.SUP_V p) ≠ 0)

/-- The Ethernet PHYs are on from the enabling of the host ports. -/
def State.physOn (s : State) : Bool := s.vioOn && s.dev.fwRunning

/-- LVSWG follows the latch while the module is supplied (R62). -/
def State.lvswOn (s : State) : Bool := s.dev.powered && !s.lv.latchOpen

/-- SUPPLY_OUTPUT_SHORT: a short of VIO (0) or VREFO (1) is the device's source 25, a short of PkSUP (2 to 5), or a current in mA outside
SUP_IMIN to SUP_IMAX while it is on, the port's source 18; the other outputs stay. -/
def execSupplyOutputShort (output : Fin 6) (short : Bool) (ma : Nat) (s : State) : Host.Outcome State Fault Refusal :=
  .next (s.act (fun t =>
    if output.val < 2 then (if short then t.raise (unitOf Kind.device 0) .W 25 else t)
    else
      let p := output.val - 2
      if !t.portSupplyOn p then t
      else
        let t1 := t.setReg (Item.POS.SUP_I p) (nw ma)
        if short ∨ ma < t.regN (Item.POS.SUP_IMIN p) ∨ t.regN (Item.POS.SUP_IMAX p) < ma then t1.raise (unitOf Kind.port p) .W 18 else t1))

/-! ## Start-up -/

/-- A lost island clock, or a shell processor memory failure: lasting at once, and a SAFE cause until the next POWERUP (R440,
R450). -/
def State.lostIsland (s : State) (src : Nat) (c : SafeCause) : State :=
  (s.raise (unitOf Kind.device 0) .L src).safeDevice c

/-- START_TESTS_END (R53, Table 3-3): a lockstep or memory failure is class G; a failed island clock is the device's source 32
and a SAFE cause at the end of POWERUP. nFAULT and nSAFE are no longer held low by the tests, and the release signals of the legs begin (R26). -/
def execStartTestsEnd (lockstepOk memoryOk clockOk : Bool) (s : State) : Host.Outcome State Fault Refusal :=
  .next (s.act (fun t =>
    if t.dev.tested ∨ t.dev.state ≠ .powerup then t
    else if !lockstepOk then t.grave 1
    else if !memoryOk then t.grave 2
    else
      let t1 := { t with dev := { t.dev with tested := true }, sup := { t.sup with releases := BitVec.allOnes 48 } }
      if clockOk then t1 else t1.lostIsland 32 .island))

/-- The device begins PROOF (Table 3-6, R80): every sheaf whose AUTO_PROOF is 1 and that is OFF or READY is proved, and the
shutdown paths are tested. DEDUCED: assumption log 30. -/
def State.beginDeviceProof (s : State) : State :=
  let s1 := s.enterState .proof
  let l := (List.range 12).filter (fun n => decide (s1.stype n ≠ 0) && decide (s1.regN (Item.SHEAF.AUTO_PROOF n) = 1)
    && decide ((s1.sheaf n).state = .off ∨ (s1.sheaf n).state = .ready))
  let s2 := { s1 with dev := { s1.dev with proofStart := s1.time.now, pathTesting := true, proved := l } }
  s2.forEach l (fun t n => t.proveSheaf n false)

/-- Image select (R66 to R70): the slots are checked, one boots, its mapping and parameters are applied, the rollback floor
rises to its FLOOR. -/
def State.bootImage (s : State) (a b : ImageBody) : State :=
  let k := s.bootSlot
  let items := if k = 0 then a.items else if k = 1 then b.items else []
  let objects := if k = 0 then a.objects else if k = 1 then b.objects else []
  let s1 := s.setRegs
    [(Item.IMG.BOOT_SLOT, nw k), (Item.IMG.SEQ_A, nw (s.imageSeq 0)), (Item.IMG.SEQ_B, nw (s.imageSeq 1)),
     (Item.IMG.STATUS_A, nw (s.imageStatus 0)), (Item.IMG.STATUS_B, nw (s.imageStatus 1))]
  let floor := if k < 2 then s.imageField k 0xC 4 else 0
  let s2 := if s1.store.floor < floor then
      { s1 with store := { s1.store with floor := floor } }.serviceLog 10 0xFF 0 (nw floor)
    else s1
  (s2.applyItems items).forEach (List.range 4) (fun t n => t.canStart objects n)

/-- What the end of POWERUP does besides the change of state (Table 3-3): image, configuration CRCs (R157), host ports enabled
(R71), the latch of a 10 s reset that was cut short (R388). -/
def State.powerupWork (s : State) (a b : ImageBody) : State :=
  let s1 := s.bootImage a b
  let s2 := s1.setRegs
    [(Item.DEV.PARAM_CRC_ACT, s1.crcActive), (Item.DEV.PARAM_CRC_SHD, s1.crcShadow), (Item.DEV.PARAM_CRC_BOOT, s1.crcActive),
     (Item.SAFE.CRC, s1.crcSafe)]
  let s3 := { s2 with dev := { s2.dev with fwRunning := true } }
  let s4 := if s3.lv.cutShort then
      { s3 with lv := { s3.lv with latchOpen := s3.lv.transport, cutShort := false } }
    else s3
  if s4.lv.transport then
    match s4.bind.sheafOfType SType.auxb with
    | some n => s4.raise (unitOf Kind.sheaf n) .W 20
    | none => s4
  else s4

/-- POWERUP_END (R81, Table 3-6): PROOF with a valid image and AUTO_PROOF, SAFE with a SAFE cause, else STANDBY with every sheaf
OFF (R70). A device already LOCKED enables its host ports and stays LOCKED (R449). -/
def execPowerupEnd (a b : ImageBody) (s : State) : Host.Outcome State Fault Refusal :=
  .next (s.act (fun t =>
    if !t.dev.bootable ∨ t.dev.fwRunning then t
    else if t.dev.state = .locked then t.powerupWork a b
    else if t.dev.state = .powerup ∧ t.dev.tested then
      let u := t.powerupWork a b
      if u.safeCause then u.enterState .safe
      else if u.regN Item.IMG.BOOT_SLOT < 2 ∧ u.regN Item.DEV.AUTO_PROOF = 1 then u.beginDeviceProof
      else u.enterState .standby
    else t))

/-! ## The shutdown-path test -/

/-- Paths that failed (R427): path A in steps 1 to 3 or without response in step 5, path B in step 4 or without response in
step 5. -/
def pathAFailed (failed : BitVec 5) (a5 : Bool) : Bool :=
  failed.toNat.testBit 0 || failed.toNat.testBit 1 || failed.toNat.testBit 2 || (failed.toNat.testBit 4 && a5)
def pathBFailed (failed : BitVec 5) (b5 : Bool) : Bool :=
  failed.toNat.testBit 3 || (failed.toNat.testBit 4 && b5)

/-- SAFE.PATH_RESULT of a test. -/
def pathResult (failed : BitVec 5) (a5 b5 : Bool) (us : Nat) : Word :=
  nw (Nat.min us 65535 * 0x10000 + 0x8000 + (if pathBFailed failed b5 then 0x200 else 0)
    + (if pathAFailed failed a5 then 0x100 else 0) + failed.toNat)

/-- The number of the first failing step, 0 where all passed. -/
def firstStep (failed : BitVec 5) : Nat :=
  match (List.range 5).find? (fun k => failed.toNat.testBit k) with
  | some k => k + 1
  | none => 0

/-- A test result word (R187): test number in [31:24], first failing step in [23:16], duration in µs in [15:0]. -/
def testWord (test step us : Nat) : Word := nw (test * 0x1000000 + step * 0x10000 + Nat.min us 65535)

/-- The steps of Table 15-6 that fail, bit k for step k + 1. -/
def PathTest.failed (r : PathTest) : BitVec 5 :=
  let b (x : Bool) (k : Nat) : Nat := if x then 2 ^ k else 0
  BitVec.ofNat 5 (b (!r.blockRead) 0 + b (!r.ascRead) 1 + b (decide (300 < r.absentNs)) 2
    + b (decide (100 < r.lockoutUs) || decide (1000 < r.regulateUs)) 3 + b (decide (r.drives ≠ 15)) 4)

/-- Path A, and path B, did not respond to a channel in step 5. -/
def PathTest.silentA (r : PathTest) : Bool := !(r.drives.getLsbD 0 && r.drives.getLsbD 2)
def PathTest.silentB (r : PathTest) : Bool := !(r.drives.getLsbD 1 && r.drives.getLsbD 3)

/-- What a path test leaves: the result item; on a pass the age at 0 and the SAFE cause gone; one failed path a class-L fault of
the supervisor and a SAFE cause, the device in SAFE unless PROOF goes on (R427, Table 3-6); both class G. -/
def State.pathTested (s : State) (failed : BitVec 5) (a5 b5 : Bool) (us : Nat) : State :=
  let s1 := { s.setReg Item.SAFE.PATH_RESULT (pathResult failed a5 b5 us) with
                dev := { s.dev with pathTesting := false, pathPassed := !pathAFailed failed a5 && !pathBFailed failed b5 } }
  match pathAFailed failed a5, pathBFailed failed b5 with
  | false, false =>
    let s2 := s1.causeGone .path
    { s2 with sup := { s2.sup with pathAt := s2.time.now, pathAgeRaised := false } }
  | true, true => s1.grave 4
  | _, _ =>
    let s2 := s1.raise (unitOf Kind.supervisor 0) .L 32
    if s.dev.state = .proof then { s2 with dev := { s2.dev with causes := insertNew .path s2.dev.causes } }
    else s2.safeDevice .path

/-- SHUTDOWN_PATH_TEST_END (R426, R427): the test ends with what each step of Table 15-6 observed. It ends a SELFTEST of the device or
supervisor with its result word, and a RESTORE of the supervisor, whose lasting source 32 a pass clears (R436). A device in LOCKED runs no
test (R448). -/
def execShutdownPathTestEnd (test : PathTest) (s : State) : Host.Outcome State Fault Refusal :=
  .next (s.act (fun t0 =>
    let ours (k : SeqKind) (q : Sequence) : Bool :=
      decide (q.kind = k) && q.units.any (fun u => decide (unitKind u = Kind.device ∨ unitKind u = Kind.supervisor))
    if t0.dev.state = .locked ∨ !(t0.dev.pathTesting || t0.seqs.any (ours .selftest) || t0.seqs.any (ours .restore)) then t0
    else
      let t := t0.reach ((if t0.dev.pathTesting then t0.dev.proofStart else t0.time.now) + test.us * 1000)
      let failed := PathTest.failed test
      let a5 := PathTest.silentA test
      let b5 := PathTest.silentB test
      let restoring := t.seqs.any (ours .restore)
      let t1 := t.pathTested failed a5 b5 test.us
      let pass := !pathAFailed failed a5 && !pathBFailed failed b5
      let su := unitOf Kind.supervisor 0
      let t2 := if restoring && pass && decide ((t1.unit su).state = .lasting) && decide ((t1.unit su).src = 32) then t1.restored su
        else t1
      let t3 := t2.endSequences (ours .selftest) Code.ok Reason.none (fun _ => wordBytes (testWord 1 (firstStep failed) test.us))
      t3.endRestores (ours .restore)))

/-! ## The end of PROOF -/

/-- The OR of the PROOF_RESULT words of the sheaves that device PROOF proved (R80). -/
def State.proofOr (s : State) : Nat := s.dev.proved.foldl (fun a n => a ||| s.regN (Item.SHEAF.PROOF_RESULT n)) 0

/-- PROOF_END (R80, Table 3-6): every proving sheaf has left PROVING and the path test has ended; STANDBY where both paths
passed, else SAFE. A PROVE of the device ends with the OR of the results and the duration. -/
def execProofEnd (s : State) : Host.Outcome State Fault Refusal :=
  .next (s.act (fun t =>
    if t.dev.state = .proof ∧ !t.dev.pathTesting ∧ t.proofs = [] then
      let r := beBytes 4 t.proofOr ++ beBytes 4 ((t.time.now - t.dev.proofStart) / 1000)
      let t1 := if t.dev.pathPassed then t.enterState .standby else t.safeDevice .path
      t1.endSequences (fun q => decide (q.kind = .prove) && decide (unitOf Kind.device 0 ∈ q.units)) Code.ok Reason.none
        (fun _ => r)
    else t))

end Sys2Proof.Machine
end

