-- ==== Sys2Proof/Machine/Recovery.lean ====
section
/-! DEFINITION. The end of proofs, self-tests and rests, and the recoveries they lead to (chapters Start-up, Faults and Recovery). -/

namespace Sys2Proof.Machine

/-! ## Ends of proofs -/

/-- What the gate loops and step 5 of a leg's proof measured (Tables 6-8 and 6-9), each where its step was reached (R73). -/
def State.noteLegProof (s : State) (f : Nat) (p : LegProof) : State :=
  let s1 := if f = 0 ∨ 4 ≤ f then s.setRegs [(Item.GATE.QG_HS p.leg, nw p.qgHs), (Item.GATE.QG_LS p.leg, nw p.qgLs)] else s
  if (f = 0 ∨ f = 5) ∧ LegProof.csOk p then s1.setReg (Item.LEG.CS_ZERO p.leg) (nw p.cs) else s1

/-- The legs of a proof as it found them; a leg that the proof names and the finding leaves out passed nothing and failed nothing.
DEDUCED: assumption log 68. -/
def ProofRun.findings (p : ProofRun) (l : List LegProof) : List LegProof := l.filter (fun x => decide (x.leg ∈ p.legs))

/-- Whether a proof runs the sheaf's own checks of step 5: a proof of the whole sheaf that is not in the running form (R320). -/
def ProofRun.own (p : ProofRun) : Bool := !p.running && decide (unitKind p.unit = Kind.sheaf ∨ unitKind p.unit = Kind.actuator)

/-- Legs that a proof has passed return to service where nothing keeps them out; in a sheaf that stays WINNOWED they stay out with it. -/
def State.rejoin (s : State) (n : Nat) (legs : List Nat) : State :=
  let s1 := s.settleLegs n legs
  if (s1.sheaf n).state = .winnowed then s1.forEach legs (fun t l => t.winnowLeg l .sheaf) else s1

/-- A DC-link sense channel passes (R244): 550 V ± 5.5 V on its test level, and the two paths within 22 V of each other. -/
def LinkCheck.ok (c : LinkCheck) : Bool :=
  decide ((c.test - 550000).natAbs ≤ 5500) && decide ((c.fast - c.sup).natAbs ≤ 22000)

/-- AIN00 passes (R356): a valid result without SAT of the last 10 ms, at 0 to 64 V behind its divider of 16, not flagged open-wire. -/
def State.ain00Ok (s : State) : Bool :=
  let w := s.reg (Item.ADCF.RES 3 6)
  let t := s.regN (Item.ADCF.T_HI 3 6) * 2 ^ 32 + s.regN (Item.ADCF.T_LO 3 6)
  bitOf w 31 && !bitOf w 30 && decide (stampAge (stamp48 s.time.now) t ≤ 10000000) && decide (0 ≤ s.busVolts) && decide (s.busVolts ≤ 64 * oneVolt)
    && !(bitOf (s.reg (Item.ADCF.OW_MASK 3)) 6 && bitOf (s.reg (Item.ADCF.OW_STATUS 3)) 6)

/-- The link-sense check of a sheaf's proof step 5: its DC-link channel (R244, R299, R324), AIN00 of the auxiliary and actuator sheaves,
both of AUXI (R356, R390). -/
def State.senseOk (s : State) (n : Nat) (c : LinkCheck) : Bool :=
  match s.stype n with
  | 4 => LinkCheck.ok c && s.ain00Ok
  | 5 => s.ain00Ok
  | 6 => s.ain00Ok
  | _ => LinkCheck.ok c
/-- The sheaf's own part of its proof (R244, R248, R356, R390, R271): the link sense check and the presence of its port; a port that is
out of service fails without a record. -/
def State.proveOwn (s : State) (n : Nat) (recovery linkOk portOk : Bool) : State :=
  let u := unitOf Kind.sheaf n
  let s1 := if linkOk then s else if recovery then s.makeLasting u 33 else s.raise u .L 33
  match s1.portOf n with
  | none => s1
  | some p =>
    let pu := unitOf Kind.port p
    if (s1.unit pu).out then s1.winnowSheaf n (some pu)
    else if portOk then s1
    else (s1.raise pu .L 32).winnowSheaf n (some pu)

/-- The bits of PROOF_RESULT that a proof's findings set (Table 3-14). -/
def State.proofBits (s : State) (n : Nat) (own running linkOk portOk : Bool) (l : List LegProof) : Nat :=
  let m := medianTwice (s.proofTemps n l)
  let bits := l.foldl (fun a p => a ||| proofBit (s.proofFail n m running p)) 0
  let portBad := match s.portOf n with | some p => !portOk || (s.unit (unitOf Kind.port p)).out | none => false
  bits ||| (if own && (!linkOk || portBad) then 32 else 0)

/-- The sheaf of a sheaf proof leaves PROVING (R78, R301, R357): READY where its function runs with the legs it has. -/
def State.leaveProving (s : State) (n : Nat) : State :=
  let h := s.sheaf n
  if h.state ≠ .proving then s
  else if s.functionOk n then (s.setSheaf n { h with state := .ready, causes := [], commanded := false }).applySelection
  else s.winnowSheaf n none

/-- What the recovering or restored unit of a passed sheaf proof becomes (R443, R447). -/
def State.proofUnitOk (s : State) (u : Nat) (restoring : Bool) : State :=
  if unitKind u = Kind.sheaf ∨ unitKind u = Kind.actuator then
    let s1 := if restoring then s.broughtBack u else if (s.unit u).state = .resting then s.recovered u else s
    if unitKind u = Kind.actuator ∧ s.regN (Item.ACT.HOME_MODE (unitIndex u)) = 1 then
      s1.setActuator (unitIndex u) { s1.actuator (unitIndex u) with homed := false }
    else s1
  else if unitKind u = Kind.set then
    let s1 : State := { s with trac := { s.trac with thermal := s.trac.thermal.filter (fun k => decide (k ≠ unitIndex u)) } }
    if restoring then s1.setUnit u { s1.unit u with commanded := false } else s1
  else s

/-- The outcome of a proof that is no mere report: failed legs, the sheaf's own checks, passed legs, and the state they leave. -/
def State.closeProof (s : State) (p : ProofRun) (l : List LegProof) (restoring linkOk portOk : Bool) : State :=
  let n := p.sheaf
  let u := p.unit
  let m := medianTwice (s.proofTemps n l)
  let own := p.own
  let failed := l.filter (fun x => decide (s.proofFail n m p.running x ≠ 0))
  let passed := (l.filter (fun x => decide (s.proofFail n m p.running x = 0))).map (·.leg)
  let allOk := decide (failed = []) && (!own || (linkOk && portOk))
  let s1 := s.forEach l (fun t x => t.proofLeg n m x p.recovery (restoring && !own) p.running)
  let s2 := if own then s1.proveOwn n (p.recovery && decide ((s1.unit u).state = .resting)) linkOk portOk else s1
  let s3 := s2.forEach passed (fun t leg => t.proofLegOk leg (restoring && !own))
  let s4 := if allOk then s3.proofUnitOk u restoring else s3
  let s5 := s4.rejoin n passed
  if own then
    let s6 := s5.leaveProving n
    if (s6.sheaf n).state = .winnowed ∧ (s6.unit u).state = .resting ∧ p.recovery then s6.makeLasting u (s6.unit u).src else s6
  else s5.applySelection

/-- The outcome of a proof that only reports (R79): failed legs are winnowed with their class-L faults, and the sheaf's own checks raise
theirs (R73). -/
def State.reportProof (s : State) (p : ProofRun) (l : List LegProof) (linkOk portOk : Bool) : State :=
  let m := medianTwice (s.proofTemps p.sheaf l)
  let s1 := s.forEach l (fun t x => t.proofLeg p.sheaf m x false false p.running)
  if p.own then s1.proveOwn p.sheaf false linkOk portOk else s1

/-- SHEAF_PROOF_END (R73 to R79, R320, R443, R447): the proof of a unit ends with what it measured on its legs, on the link sense channel
and on the bound port. A target in OFF or WINNOWED keeps its state; in OFF its gate supplies go off again. -/
def execSheafProofEnd (unit : Nat) (legs : List LegProof) (link : LinkCheck) (presence : Presence) (s : State) :
    Host.Outcome State Fault Refusal :=
  .next (s.act (fun t =>
    match t.proofs.find? (fun p => decide (p.unit = unit)) with
    | none => t
    | some p =>
      let n := p.sheaf
      let l := p.findings legs
      let linkOk := t.senseOk n link
      let portOk := match t.portOf n with | some q => t.presenceOk q presence | none => true
      let restoring := t.seqs.any (fun q => decide (q.kind = .restore) && decide (unit ∈ q.units))
      let bits := t.proofBits n p.own p.running linkOk portOk l
      let m := medianTwice (t.proofTemps n l)
      let t1 := { t with proofs := t.proofs.filter (fun q => decide (q.unit ≠ unit)) }.forEach l (fun u x =>
        u.noteLegProof (t.proofFail n m p.running x) x)
      let t2 := if p.report then t1.reportProof p l linkOk portOk else t1.closeProof p l restoring linkOk portOk
      let t3 := if (t2.sheaf n).state = .off then t2.supplies p.legs false else t2
      let t4 := (match t3.portOf n with
        | some q => if p.own ∧ !(t3.unit (unitOf Kind.port q)).out then t3.notePresence q presence else t3
        | none => t3).setProofResult n bits
      let us := (t4.time.now - p.started) / 1000
      let t5 := t4.setReg (Item.SHEAF.PROOF_TIME n) (nw us)
      let t6 := t5.endSequences (fun q => decide (q.kind = .prove) && decide (unit ∈ q.units)) Code.ok Reason.none
        (fun _ => wordBytes (t5.reg (Item.SHEAF.PROOF_RESULT n)) ++ beBytes 4 us)
      (t6.endRestores (fun q => decide (unit ∈ q.units))).finishExit))

/-! ## Self-tests and rests -/

/-- SELFTEST_RESULT (R440, R441, R444): the targeted self-test of a unit in handling ends with what it measured. After a class-F detection
a pass leads to resting; a failure, or a unit at its recovery limit, to lasting with a record of class L. A class-L detection leads to
lasting. -/
def execSelftestResult (unit : Nat) (finding : SelftestFinding) (s : State) : Host.Outcome State Fault Refusal :=
  .next (s.act (fun t =>
    let r := t.unit unit
    if r.state ≠ .handling then t
    else
      let ok := t.targetedOk unit finding
      let t1 := t.noteTest unit finding
      if r.cls = .L then t1.setUnit unit { r with state := .lasting }
      else if ok && !r.atLimit then
        t1.setUnit unit { r with state := .resting, restEnd := t.time.now + t.regN (Item.FLT.REST (unitType unit)) * 1000000 }
      else t1.makeLasting unit r.src))

/-- Whether a sheaf can be proved now for a leg or set of it: not in OFF or SAFE, no proof of it running (R443). -/
def State.provable (s : State) (n : Nat) : Bool :=
  let st := (s.sheaf n).state
  decide (st ≠ .off) && decide (st ≠ .safe) && decide (st ≠ .proving) && !s.proofs.any (fun p => decide (p.sheaf = n))

/-- Whether a sheaf can be proved to return from WINNOWED (R87, Table 3-8). -/
def State.reprovable (s : State) (n : Nat) : Bool := s.provable n && decide ((s.sheaf n).state = .winnowed)

/-- The proof of a traction set (R319 to R321): its three legs but those that still rest or are being handled, in the running form
where its sheaf runs. -/
def State.proveSet (s : State) (k n : Nat) (report recovery : Bool) : State :=
  let held (l : Nat) : Bool :=
    let r := s.unit (unitOf Kind.leg l)
    decide (r.state = .handling) || (decide (r.state = .resting) && decide (s.time.now < r.restEnd))
  s.beginProof (unitOf Kind.set k) n ((s.setLegs k).filter (fun l => report || !held l)) report recovery
    (decide ((s.sheaf n).state = .run))

/-- A traction set begins its automatic recovery, unless ASC is selected or its sheaf cannot be proved (R319, R443). -/
def State.recoverSet (s : State) (k : Nat) : State :=
  match s.trcSheaf with
  | some n => if s.sup.asc ∨ (s.unit (unitOf Kind.set k)).commanded ∨ !s.provable n then s else s.proveSet k n false true
  | none => s

/-- The recovery action of a leg (Table 16-1). -/
def State.recoverLeg (s : State) (leg : Nat) : State :=
  match s.bind.sheafOfLeg leg with
  | none => s
  | some n =>
    if s.stype n = SType.trc then s.recoverSet ((leg - s.bind.firstOf n) / 3)
    else if s.provable n then s.beginProof (unitOf Kind.leg leg) n [leg] false true (decide ((s.sheaf n).state = .run))
    else s

/-- A CAN controller leaves FENCED (Table 18-2, R477): its entry state, LISTEN where it held a lock; its objects are configured afresh
(R479). -/
def State.canBack (s : State) (n : Nat) : State :=
  let c := s.can n
  let st := s.canEntryState n
  let c1 := c.objects.foldl (fun c p => c.setObject p.1 { p.2 with poisoned := false }) c
  (s.setCan n { c1 with tec := 0, rec' := 0 }).setReg (Item.CAN.STATE n) (nw (if st = 1 ∧ c.wasLocked then 2 else st))

/-- A lane returns to service, OPEN (R289, R292); a traction set's lane lets its set be proved. DEDUCED: assumption log 55. -/
def State.laneBack (s : State) (n : Nat) : State :=
  let h := s.bind.loopSheaf.getD n 15
  if s.stype h = SType.trc ∧ s.regN (Item.LOOP.TYPE n) = 1 then s.recoverSet (s.regN (Item.LOOP.GROUP n)) else s

/-- What a unit's return to service does besides its status. -/
def State.back (s : State) (u : Nat) : State :=
  let i := unitIndex u
  match unitKind u with
  | 7 => s.portBack i
  | 9 => s.laneBack i
  | 12 => s.canBack i
  | _ => s

/-- The source that a failed recovery action carries (R443): port source 32 for the presence checks, controller source 33 for the
integration (Table 18-6), else the source handled. -/
def State.recoveryFailSource (s : State) (u : Nat) : Nat :=
  if unitKind u = Kind.port then 32 else if unitKind u = Kind.can then 33 else (s.unit u).src

/-- A recovery action (R443). A port runs its presence checks (R272); a CAN controller is back where it `integrates`; the other units
that are not proved return at once (Table 16-1). -/
def State.recoverUnit (s : State) (u : Nat) (integrates : Bool) (presence : Presence) : State :=
  let i := unitIndex u
  match unitKind u with
  | 1 => if s.reprovable i then s.beginProof u i (s.bind.legsOf i) false true false else s
  | 2 => s.recoverLeg i
  | 3 => s.recoverSet i
  | 4 => (match s.actSheaf i with
          | some n => if s.reprovable n then s.beginProof u n (s.bind.legsOf n) false true false else s
          | none => s)
  | 7 =>
    let s1 := s.notePresence i presence
    if s.presenceOk i presence then (s1.recovered u).back u else s1.makeLasting u (s.recoveryFailSource u)
  | 12 => if integrates then (s.recovered u).back u else s.makeLasting u (s.recoveryFailSource u)
  | _ => (s.recovered u).back u

/-- REST_END (R443, R446): the rest of a unit ends and it runs its recovery action. In LOCKED, or with automatic recovery off, it stays
resting. A traction set whose thermal stop is over recovers in the same way (Table 17-3). -/
def execRestEnd (unit : Nat) (integrated : Bool) (presence : Presence) (s : State) : Host.Outcome State Fault Refusal :=
  .next (s.act (fun t =>
    let r := t.unit unit
    if t.dev.state = .locked then t
    else if unitKind unit = Kind.set then
      if unitIndex unit ∈ t.trac.thermal ∧ !bitOf (t.reg Item.THM.TA_HOLD) (unitIndex unit) then t.recoverSet (unitIndex unit) else t
    else if r.state ≠ .resting ∨ t.heldByCommand unit ∨ t.regN (Item.FLT.AUTO_RECOV (unitType unit)) ≠ 1 then t
    else (t.reach r.restEnd).recoverUnit unit integrated presence))

/-! ## Sheaves that another unit winnowed -/

/-- Whether a unit that caused a winnowing is back (R445, R462): a T-B cut by its release, a set by nothing holding it. -/
def State.causeBack (s : State) (u : Nat) : Bool :=
  match unitKind u with
  | 3 => !s.setHeld (unitIndex u)
  | 15 => !bitOf (s.reg Item.THM.TB_STATE) (unitIndex u)
  | _ => !(s.unit u).out

/-- A WINNOWED sheaf enters PROVING by itself when every unit that winnowed it is back (R445). -/
def State.reprove (s : State) (n : Nat) : State :=
  let h := s.sheaf n
  if h.state = .winnowed ∧ h.causes ≠ [] ∧ !h.commanded ∧ !(s.unit (unitOf Kind.sheaf n)).out ∧ h.causes.all s.causeBack
      ∧ s.reprovable n then
    s.proveSheaf n true
  else s

/-- DEPENDENT_REPROOF (R445). -/
def execDependentReproof (sheaf : Fin 12) (s : State) : Host.Outcome State Fault Refusal := .next (s.act (fun t => t.reprove sheaf))

end Sys2Proof.Machine
end

