-- ==== Sys2Proof/Machine/Supervision.lean ====
section
/-! DEFINITION. The safety supervisor: STO, the torque monitor, speed and position functions, the safety outputs and their tests
(chapter Safety Functions). -/

namespace Sys2Proof.Machine

/-- The fault unit of the supervisor. -/
abbrev supUnit : Nat := unitOf Kind.supervisor 0

/-- A SAFE cause has gone (R532); path B is released once none is left (R39, R405). -/
def State.demandGone (s : State) (c : SafeCause) : State :=
  let s1 := s.causeGone c
  { s1 with sup := { s1.sup with pathB := s1.sup.pathB && (decide (s1.dev.causes ≠ []) || decide (s1.dev.state = .locked)) } }

/-- A monitored quantity as the supervisor finds it (R412, R532): beyond its limit it raises its demand, once; within it, its cause is
gone. -/
def State.monitor (s : State) (c : SafeCause) (beyond : Bool) : State :=
  if beyond then (if c ∈ s.dev.causes then s else s.demandBoth c)
  else if c ∈ s.dev.causes then s.demandGone c else s

/-! ## Safe torque off -/

/-- The level of an STO input as the hardware gates take it (R406): a low one counts once it has outlasted the 300 ns filter and
STO_TP_TOL; force bits STO_A and STO_B read it low (Table 15-10). -/
def State.stoLevel (s : State) (was level : Bool) (ns bit : Nat) : Bool :=
  !s.forced supUnit bit && (level || (was && decide (ns ≤ 300 + s.regN Item.SAFE.STO_TP_TOL * 1000)))

/-- STO_REQUEST (R405 to R408): the levels of nSTOA and nSTOB and how long they have stood, in ns; a low one beyond its filter blocks the
traction gates, removes their supplies, latches STO and raises its demand. Differing levels start the discrepancy time, two high ones the
time of the release. -/
def execStoRequest (a b : Bool) (ns : Nat) (s : State) : Host.Outcome State Fault Refusal :=
  .next (s.act (fun t =>
    let p := t.sup
    let a1 := t.stoLevel p.stoA a ns 0
    let b1 := t.stoLevel p.stoB b ns 1
    let t1 := { t with sup := { p with
      stoA := a1
      stoB := b1
      latched := p.latched || !(a1 && b1)
      bothLowSeen := p.bothLowSeen || (!a1 && !b1)
      highSince := if a1 && b1 then some (p.highSince.getD t.time.now) else none
      differSince := if a1 = b1 then none else some (p.differSince.getD t.time.now) } }
    if (a1 && b1) || decide (SafeCause.sto ∈ t1.dev.causes) then t1 else t1.demandBoth .sto))

/-- STO_RELEASE (R407, R408): both inputs have been high together for 10 ms; the latch clears, but after a discrepancy only once both
have been low together. -/
def execStoRelease (s : State) : Host.Outcome State Fault Refusal :=
  .next (s.act (fun t0 =>
    match t0.sup.highSince with
    | none => t0
    | some since =>
      if !t0.sup.latched ∨ t0.forced supUnit 0 ∨ t0.forced supUnit 1 ∨ (t0.sup.discrepancy ∧ !t0.sup.bothLowSeen) then t0
      else
        let t := t0.reach (since + 10000000)
        { t with sup := { t.sup with latched := false, discrepancy := false, bothLowSeen := false } }.demandGone .sto))

/-- STO_DISCREPANCY (R408): the inputs have differed for longer than STO_DISC_T. -/
def execStoDiscrepancy (s : State) : Host.Outcome State Fault Refusal :=
  .next (s.act (fun t =>
    match t.sup.differSince with
    | none => t
    | some since =>
      if t.sup.discrepancy then t
      else
        let t1 := t.reach (since + t.regN Item.SAFE.STO_DISC_T * 1000000)
        { t1 with sup := { t1.sup with discrepancy := true, bothLowSeen := false } }.raise supUnit .W 16))

/-! ## Unintended torque -/

/-- The traction sets whose torque the supervisor estimates (R409): in RUN those that switch, else those that are not held at ASC.
DEDUCED: assumption log 64. -/
def State.torqueSets (s : State) : List Nat :=
  let running : Bool := match s.trcSheaf with | some n => decide ((s.sheaf n).state = .run) | none => false
  (List.range s.setCount).filter (fun k =>
    if running then (s.setLegs k).all s.legActive else !(s.setLegs k).any (fun l => (s.leg l).asc))

/-- The current of a traction leg in A as the supervisor measures it (R410): its sense voltage less CS_ZERO, by CS_GAIN. -/
def State.supCurrent (s : State) (leg mv : Nat) : Word :=
  F32.ofRat (((mv : Int) - s.regI (Item.LEG.CS_ZERO leg)) * s.regI Item.SAFE.CS_GAIN) 1000

/-- The supervisor's torque estimate (R409): the sum of i_q × (KT + KR × i_d) over the sets, from the sense voltages of the sheaf's legs in
mV, in order of position, and its own rotor angle in 1/65,536 electrical turn. -/
def State.supTorque (s : State) (angle : BitVec 16) (mv : List Nat) : Word :=
  let kt := F32.ofRat (s.regI Item.SAFE.KT) 100
  let kr := F32.ofRat (s.regI Item.SAFE.KR) 1000
  let first := match s.trcSheaf with | some n => s.bind.firstOf n | none => 0
  let amps (l : Nat) : Word := s.supCurrent l (mv.getD (l - first) 0)
  F32.sum (s.torqueSets.map (fun k =>
    let l := first + 3 * k
    let i := toDq (amps l) (amps (l + 1)) (amps (l + 2)) angle.toNat
    F32.mul i.2 (F32.add kt (F32.mul kr i.1))))

/-- What T_sup is compared with (R409): the shared torque, or 0 while the traction sheaf is not in RUN. -/
def State.torqueShared (s : State) : Word :=
  match s.trcSheaf with
  | some n => if (s.sheaf n).state = .run then s.reg (Item.LOOP.Y 6 7) else 0
  | none => 0

/-- TORQUE_MONITOR (R409): every 50 µs T_sup is compared with the shared torque, or, while the traction sheaf is not in RUN, with 0;
beyond UT_MARGIN for UT_T it raises the unintended-torque demand. Force bit UT reads UT_MARGIN above T_ref and counts as beyond it. With
SAFE.KT = 0 the monitor is off. -/
def execTorqueMonitor (angle : BitVec 16) (mv : List Nat) (s : State) : Host.Outcome State Fault Refusal :=
  .next (s.act (fun t0 =>
    let t := t0.every Timer.torque 50000
    if t.regN Item.SAFE.KT = 0 then t
    else
      let margin := F32.ofInt (t.regI Item.SAFE.UT_MARGIN)
      let ref := t.torqueShared
      let f := t.forced supUnit 5
      let sup := if f then F32.add ref margin else t.supTorque angle mv
      let t1 := t.setReg Item.SAFE.T_SUP sup
      if f || F32.lt margin (F32.abs (F32.sub sup ref)) then
        let since := t1.sup.torqueSince.getD t1.time.now
        let t2 := { t1 with sup := { t1.sup with torqueSince := some since } }
        t2.monitor .torque (decide (since + t2.regN Item.SAFE.UT_T * 1000000 ≤ t2.time.now) || decide (SafeCause.torque ∈ t2.dev.causes))
      else { t1 with sup := { t1.sup with torqueSince := none } }.monitor .torque false))

/-! ## Speed, direction, position -/

/-- The SLS limit that a traction mode gives (R413), in mrpm: BENCH only in SERVICE. -/
def State.slsLimit (s : State) (mode : Nat) : Nat :=
  match mode with
  | 2 => s.regN Item.SAFE.SLS_CREEP * 1000
  | 3 => if s.dev.state = .service then s.regN Item.SAFE.SLS_BENCH * 1000 else s.regN Item.SAFE.SLS_LIMIT * 1000
  | _ => s.regN Item.SAFE.SLS_LIMIT * 1000

/-- The mode that the SLS limit follows (R413): a tighter one at once, a looser one at standstill. -/
def State.takeMode (s : State) (speed : Int) : State :=
  let m := s.regN Item.TRC.MODE
  if s.slsLimit m ≤ s.slsLimit s.sup.slsMode ∨ speed.natAbs < s.regN Item.SAFE.SDI_STILL * 100 then
    { s with sup := { s.sup with slsMode := m } }
  else s

/-- Speed limit supervision (Table 15-2): active in every state but POWERUP, LOCKED and TRANSPORT. -/
def State.monitorSls (s : State) (speed : Int) : State :=
  let active := decide (s.dev.state ≠ .powerup) && decide (s.dev.state ≠ .locked) && decide (s.dev.state ≠ .transport)
  let s1 := s.takeMode speed
  s1.monitor .sls (active && (decide (s1.slsLimit s1.sup.slsMode < speed.natAbs) || s1.forced supUnit 2))

/-- The permitted direction comes into force (R414): a value that permits the present motion, or any at standstill.
DEDUCED: assumption log 66. -/
def State.takeDirection (s : State) (speed pos : Int) : State :=
  let want := s.regN Item.DEV.DIR_PERMIT
  let permits := match want with | 1 => decide (0 ≤ speed) | 2 => decide (speed ≤ 0) | _ => true
  if want ≠ s.regN Item.SAFE.DIR_NOW ∧ (permits = true ∨ speed.natAbs < s.regN Item.SAFE.SDI_STILL * 100) then
    { s.setReg Item.SAFE.DIR_NOW (nw want) with sup := { s.sup with sdiRef := pos } }
  else s

/-- Direction supervision (R414, Table 15-2): the reference follows permitted motion; travel against it beyond SDI_TOL while the
traction sheaf is in RUN raises SDI. -/
def State.monitorSdi (s : State) (n : Nat) (pos : Int) : State :=
  let d := s.regN Item.SAFE.DIR_NOW
  let dir : Int := if d = 2 then -1 else 1
  let ref := if d ≠ 0 ∧ 0 < dir * (pos - s.sup.sdiRef) then pos else s.sup.sdiRef
  let against := dir * (ref - pos)
  let active := decide (d ≠ 0) && decide ((s.sheaf n).state = .run)
  { s with sup := { s.sup with sdiRef := ref } }.monitor .sdi
    (active && (decide ((s.regN Item.SAFE.SDI_TOL : Int) * 2 ^ 24 < against * 1000) || s.forced supUnit 3))

/-- Rotor position supervision (R415, Table 15-2): travel from the reference in CREEP or BENCH. -/
def State.monitorSlp (s : State) (n : Nat) (pos : Int) : State :=
  let d := (pos - s.sup.slpRef) * 1000
  let lim (a : Nat) : Int := (s.regN a : Int) * 2 ^ 24
  let mode := s.regN Item.TRC.MODE
  let active := decide ((s.sheaf n).state = .run) && decide (mode = 2 ∨ mode = 3)
  let beyond :=
    if mode = 2 then decide (lim Item.SAFE.SLP_TRC_FWD < d) || decide (lim Item.SAFE.SLP_TRC_REV < -d)
    else decide (lim Item.SAFE.SLP_BENCH * 1000 < (d.natAbs : Int))
  s.monitor .slp (active && (beyond || s.forced supUnit 4))

/-- The selection between ASC and OPEN (R311), applied to every leg it concerns. -/
def State.selectSafe (s : State) (speed : Int) : State :=
  let high := s.regN Item.TRC.ASC_SPEED * 1000
  let low := (s.regN Item.TRC.ASC_SPEED - s.regN Item.TRC.ASC_HYST) * 1000
  let asc := if high ≤ speed.natAbs then true else if speed.natAbs < low then false else s.sup.asc
  if asc = s.sup.asc then s else { s with sup := { s.sup with asc := asc } }.applySelection

/-- The evaluation of the TRC port (R311, R411 to R415): valid, it drives the functions of Table 15-2 and the safe-state selection;
invalid for SPD_INV_T while the traction sheaf runs, it raises the speed-evaluation demand, which acts through path A alone. -/
def State.evaluateTraction (s : State) (n : Nat) (valid : Bool) (speed pos : Int) : State :=
  if valid then
    let s1 := { s with sup := { s.sup with valid := true, invalidSince := none, pos := pos } }.setReg Item.SAFE.SPEED (iw speed)
    ((((s1.takeDirection speed pos).monitorSls speed).monitorSdi n pos).monitorSlp n pos).selectSafe speed
  else
    let since := s.sup.invalidSince.getD s.time.now
    let s1 := { s with sup := { s.sup with valid := false, invalidSince := some since } }
    if (s1.sheaf n).state = .run ∧ since + s1.regN Item.SAFE.SPD_INV_T * 1000 ≤ s1.time.now then
      (s1.bump Item.SAFE.DEMAND_CNT).safeSheaf n
    else s1

/-- The evaluation of an actuator's port (R411, R416, Table 15-2): beyond its limits, or invalid while the sheaf runs, it raises that
actuator's SLP demand. -/
def State.evaluateActuator (s : State) (n : Nat) (valid : Bool) (pos : Int) : State :=
  let k := s.actOf n
  let at' := (pos + KMap.get (fun _ => (0 : Int)) s.sup.actRef k) * 1000 / 2 ^ 24
  let s1 := { s with sup := { s.sup with actValid := KMap.put (fun _ => false) s.sup.actValid k valid,
                                         actCount := if valid then KMap.put (fun _ => 0) s.sup.actCount k pos else s.sup.actCount } }
  let s2 := if valid then s1.setReg (Item.SAFE.ACT_POS k) (iw at') else s1
  let running := decide ((s.sheaf n).state = .run)
  let beyond := running && (!valid || (s.homed k
    && (decide (at' < s.regI (Item.SAFE.SLP_ACT_MIN k)) || decide (s.regI (Item.SAFE.SLP_ACT_MAX k) < at'))))
  let s3 := { s2 with sup := { s2.sup with slpAct := KMap.put (fun _ => false) s2.sup.slpAct k beyond } }
  if beyond then ((s3.bump Item.SAFE.DEMAND_CNT).safeSheaf n).applyOffCauses else s3

/-- SUPERVISOR_SPEED_EVAL (R411): every 125 µs the supervisor's own evaluation of a port bound to the TRC sheaf or an ACT sheaf: which of
its wire, amplitude and frame checks fail, any of which makes it invalid, the speed in mrpm, the position in 1/2^24 turn. -/
def execSupervisorSpeedEval (port : Fin 4) (faults : BitVec 3) (speed : Int) (pos : Int) (s : State) :
    Host.Outcome State Fault Refusal :=
  .next (s.act (fun t0 =>
    let n := t0.regN (Item.POS.SHEAF port)
    if n ≥ 12 ∨ t0.portOf n ≠ some port.val then t0
    else
      let t1 := t0.every (Timer.evaluation port) 125000
      let t := { t1 with sup := { t1.sup with speeds := KMap.put (fun _ => (0 : Int)) t1.sup.speeds port.val speed } }
      if t.stype n = SType.trc then t.evaluateTraction n (decide (faults = 0)) speed pos
      else if t.stype n = SType.act then t.evaluateActuator n (decide (faults = 0)) pos
      else t0))

/-- SPEED_CROSS_CHECK (R411): every 1 ms the supervisor's speed of a port it evaluates against the port's own; three differences in a row
are a class-F fault of the port. -/
def execSpeedCrossCheck (port : Fin 4) (s : State) : Host.Outcome State Fault Refusal :=
  .next (s.act (fun t0 =>
    let p := port.val
    let n := t0.regN (Item.POS.SHEAF p)
    if n ≥ 12 ∨ t0.portOf n ≠ some p ∨ (t0.stype n ≠ SType.trc ∧ t0.stype n ≠ SType.act) then t0
    else
      let t := t0.every (Timer.cross p) 1000000
      let speed := KMap.get (fun _ => (0 : Int)) t.sup.speeds p
      let off := decide (t.regN Item.SAFE.XCHK_TOL * 1000 < (speed - t.regI (Item.POS.SPEED p)).natAbs)
      let runs := if off then KMap.get (fun _ => 0) t.sup.crossRuns p + 1 else 0
      let t1 := { t with sup := { t.sup with crossRuns := KMap.put (fun _ => 0) t.sup.crossRuns p (if 3 ≤ runs then 0 else runs) } }
      if 3 ≤ runs then t1.raise (unitOf Kind.port p) .F 8 else t1))

/-- CHANNEL_TEST (R410, Table 15-5): one traction current channel after the other, 20 µs each, a round every CMP_TEST_PERIOD; a failure is
class L of the leg it serves. -/
def execChannelTest (ok : Bool) (s : State) : Host.Outcome State Fault Refusal :=
  .next (s.act (fun t0 =>
    match t0.trcSheaf with
    | none => t0
    | some n =>
      let count := t0.bind.countOf n
      let k := t0.sup.channel % count
      let t := if k = 0 then t0.every Timer.channel (t0.regN Item.SAFE.CMP_TEST_PERIOD * 1000000) else t0
      let t1 := { t with sup := { t.sup with channel := (k + 1) % count } }.reach (t.time.now + 20000)
      if ok then t1 else t1.raise (unitOf Kind.leg (t1.bind.firstOf n + k)) .L 38))

/-! ## Safety outputs -/

/-- The fault unit of an output. -/
abbrev outUnit (n : Nat) : Nat := unitOf Kind.output n

/-- OUTPUT_REQUEST (R419): the owner of an output asks for it on or off over the request channel; off causes act at once. -/
def execOutputRequest (output : Fin 8) (on : Bool) (s : State) : Host.Outcome State Fault Refusal :=
  .next (s.act (fun t => (t.outRequest output on).applyOffCauses))

/-- The end of a test cycle (R422 to R425): a switch that fails its pulse is a class-L fault; else the cycle counts, and an open load
seen on an off output is class W. -/
def State.endCycle (s : State) (n : Nat) (r : PulseTest) : State :=
  let o := s.out n
  let u := outUnit n
  let fl := s.forceArmed u 0
  let fh := s.forceArmed u 1
  let fo := s.forceArmed u 2
  let s1 := ((s.useForce u 0).useForce u 1).useForce u 2
  let s2 := (s1.reach (o.began + 2 * s1.regN (Item.SOUT.TP_LEN n) * 1000)).setRegs [(Item.SOUT.V_P n, nw r.lsP), (Item.SOUT.V_N n, nw r.lsN)]
  if !PulseTest.highOk r o.on ∨ !PulseTest.lowOk r o.on ∨ fl ∨ fh then
    (s2.setOut n { o with testing := false }).detect u .L 32 (fl || fh)
  else
    let now := s2.time.now
    let s3 := (s2.setOut n { o with testing := false, warned := false, lastCycle := now,
                                    nextCycle := now + s2.regN (Item.SOUT.TEST_INTERVAL n) * 1000000000 }).bump (Item.SOUT.TEST_CNT n)
    if (PulseTest.openLoad r || fo) && !o.on && decide (s3.regN (Item.SOUT.OPEN_DET n) = 1) then s3.detect u .W 17 fo else s3

/-- TEST_PULSE_CYCLE (R422, R423): a test cycle of an output that is in service begins (no outcome yet), or ends with what it reads. A
demand between the two abandons it, and so does one that the same clock edge samples as the cycle would begin. DESIGN CHOICE: assumption
log 67. -/
def execTestPulseCycle (output : Fin 8) (outcome : Option PulseTest) (s : State) : Host.Outcome State Fault Refusal :=
  .next (s.act (fun t =>
    let n := output.val
    let o := t.out n
    match outcome with
    | none =>
      if o.testing ∨ (t.unit (outUnit n)).out then t
      else
        let t1 := t.reach o.nextCycle
        let t2 := t1.setOut n { o with testing := true, began := t1.time.now }
        if o.demand = some (t1.time.now / 5) then t2.outDemand n else t2
    | some r => if o.testing then t.endCycle n r else t))

/-- TEST_CYCLE_MISSING (R424): no cycle has completed for 2 × TEST_INTERVAL, class W, or for 4 × TEST_INTERVAL, class F. -/
def execTestCycleMissing (output : Fin 8) (s : State) : Host.Outcome State Fault Refusal :=
  .next (s.act (fun t =>
    let n := output.val
    let o := t.out n
    let interval := t.regN (Item.SOUT.TEST_INTERVAL n) * 1000000000
    if (t.unit (outUnit n)).out then t
    else if !o.warned then
      let t1 := t.reach (o.lastCycle + 2 * interval)
      (t1.setOut n { o with warned := true }).raise (outUnit n) .W 16
    else
      let t1 := t.reach (o.lastCycle + 4 * interval)
      t1.raise (outUnit n) .F 1))

/-- READBACK_FAULT (R425): the readback of an output that is commanded off, in mV and mA, shows a switch conducting. -/
def execReadbackFault (output : Fin 8) (vP vN mA : Nat) (s : State) : Host.Outcome State Fault Refusal :=
  .next (s.act (fun t =>
    let n := output.val
    if (t.out n).on ∨ (t.out n).testing then t
    else (t.setRegs [(Item.SOUT.V_P n, nw vP), (Item.SOUT.V_N n, nw vN), (Item.SOUT.I_MEAS n, nw mA)]).raise (outUnit n) .L 32))

/-- PATH_AGE_EXCEEDED (R433): the minutes of operation since the last passed path test have come to exceed PATH_AGE_MAX: class W, once. -/
def execPathAgeExceeded (s : State) : Host.Outcome State Fault Refusal :=
  .next (s.act (fun t =>
    if t.sup.pathAgeRaised then t
    else
      let t1 := t.reach (t.sup.pathAt + (t.regN Item.SAFE.PATH_AGE_MAX * 60 + 1) * 60000000000)
      { t1 with sup := { t1.sup with pathAgeRaised := true } }.raise supUnit .W 17))

end Sys2Proof.Machine
end

