-- ==== Sys2Proof/Machine/Thermal.lean ====
section
/-! DEFINITION. Thermal management: estimates, bands, derating, orderly stops and their holds, hardware cuts, throttling pauses
(chapter Thermal Management). -/

namespace Sys2Proof.Machine

/-! ## Estimates -/

/-- The sensor temperature of a reading under a bias (R457): 1 / (1/298.15 + ln(R / 10 kΩ) / β) − 273.15; R / 10 kΩ is the voltage over
1 V at 100 µA, over 50 mV at 5 µA. -/
def State.sensorTemp (s : State) (v : Int) (low : Bool) : Word :=
  let ratio := F32.ofRat v (if low then oneVolt.toNat / 20 else oneVolt.toNat)
  let inv := F32.add (F32.ofRat 100 29815) (F32.div (Config.ln ratio) (F32.ofInt (s.regN Item.THM.NTC_BETA)))
  F32.sub (F32.div F32.one inv) (F32.ofRat 27315 100)

/-- Whether a leg switches: in service in a running sheaf. -/
def State.legSwitching (s : State) (leg : Nat) : Bool :=
  match s.bind.sheafOfLeg leg with
  | some n => decide ((s.sheaf n).state = .run) && s.legActive leg
  | none => false

/-- The self-heating dT of R458, from the valid results of Lnn.CS since the last estimate. -/
def State.heatRise (s : State) (n leg : Nat) : Word :=
  let h := s.heat leg
  let t := s.stype n - 1
  let dv : Word := if h.csCount = 0 then 0 else F32.ofRat h.csAbs (h.csCount * oneVolt.toNat)
  let dv2 : Word := if h.csCount = 0 then 0 else F32.ofRat h.csSq (h.csCount * oneVolt.toNat ^ 2)
  let fsw := if s.legSwitching leg then F32.div (F32.ofInt 12800000) (F32.ofInt (s.regN (Item.PWM.PERIOD_NOW n))) else 0
  let cond := F32.mul (s.reg (Item.THM.KC t)) dv2
  let sw := F32.mul (F32.mul (F32.mul (s.reg (Item.THM.KS t)) dv) (F32.ofRat (s.legLink n leg) (oneVolt.toNat * 1000))) fsw
  let p := F32.add cond sw
  F32.add h.dT (F32.div (F32.sub (F32.mul p (s.reg (Item.THM.RTH t))) h.dT) (F32.ofInt (s.regN (Item.THM.TAU t))))

/-- Whether a sensor temperature lies within −55 to 175 °C (R459). -/
def tempPlausible (t : Word) : Bool := F32.le 0xC25C0000 t && F32.le t 0x432F0000

/-- The band that an estimate in 0.1 °C gives, without hysteresis (R163). -/
def bandOf (est : Int) : Nat := if 1100 < est then 3 else if 600 < est then 2 else if -200 < est then 1 else 0

/-- The band that an estimate gives a leg in band `b` (R163): down only 5 K below the boundary. -/
def bandFrom (b : Nat) (est : Int) : Nat :=
  let up := bandOf est
  let down := if 1050 ≤ est then 3 else if 550 ≤ est then 2 else if -250 ≤ est then 1 else 0
  if b < up then up else if down < b then down else b

/-- The warning of R465: source 19 on rising above THM.WARN, armed again below WARN − 5 K. -/
def State.heatWarn (s : State) (leg : Nat) (est : Int) : State :=
  let h := s.heat leg
  let warn := s.regI Item.THM.WARN * 10
  if h.warned then (if est < warn - 50 then s.setHeat leg { h with warned := false } else s)
  else if warn < est then (s.setHeat leg { h with warned := true }).raise (unitOf Kind.leg leg) .W 19
  else s

/-- Whether an instant is at most THM.AGE_MAX back. -/
def State.freshHeat (s : State) (t : Nat) : Bool := decide (s.time.now ≤ t + s.regN Item.THM.AGE_MAX * 1000000)

/-- One leg's estimate (R457 to R459, R163 to R165, R465): from the newest reading of its sensor and the currents since the last estimate.
An invalid estimate leaves TEMP_EST. -/
def State.estimateLeg (s : State) (leg : Nat) : State :=
  match s.bind.sheafOfLeg leg with
  | none => s
  | some n =>
    let h := s.heat leg
    let reading := h.reading.filter (fun r => s.freshHeat r.1)
    let csOk := match h.csSeen with | some t => s.freshHeat t | none => false
    let ts : Word := match reading with | some (_, v, low) => s.sensorTemp v low | none => h.ts
    let dT := s.heatRise n leg
    let valid := reading.isSome && tempPlausible ts && (!s.legSwitching leg || csOk)
    let s1 := s.setHeat leg { h with dT := dT, ts := ts, valid := valid, csCount := 0, csAbs := 0, csSq := 0 }
    if valid then
      let est := F32.toIntScaled (F32.add ts dT) 10 1
      let l := s1.leg leg
      let b := if h.valid then bandFrom l.bandOwn est else bandOf est
      ((s1.setReg (Item.LEG.TEMP_EST leg) (iw est)).takeBand leg b false).heatWarn leg est
    else s1.takeBand leg (s.regN (Item.LEG.BAND_FAILSAFE leg)) true

/-- What the rules of the chapter take a leg's estimate for, in 0.1 °C (R459): exactly THM.WARN while it is invalid. -/
def State.legTemp (s : State) (leg : Nat) : Int :=
  if (s.heat leg).valid then s.regI (Item.LEG.TEMP_EST leg) else s.regI Item.THM.WARN * 10

/-- The estimate of a leg in °C as its derating factor takes it, before it is shown in steps of 0.1 °C (Table 17-5, steps 5 and 6).
DEDUCED: assumption log 11. -/
def State.legEstimate (s : State) (leg : Nat) : Word :=
  if (s.heat leg).valid then F32.add (s.heat leg).ts (s.heat leg).dT else F32.ofInt (s.regI Item.THM.WARN)

/-- The derating factor f of a leg (chapter Thermal Management, Class T-A). -/
def State.derating (s : State) (leg : Nat) : Word :=
  let stop := s.regI Item.THM.STOP
  F32.clamp 0 F32.one (F32.div (F32.sub (F32.ofInt stop) (s.legEstimate leg)) (F32.ofInt (stop - s.regI Item.THM.DERATE_T)))

/-- The lowest factor of some legs, 1 for none. -/
def State.lowestDerating (s : State) (legs : List Nat) : Word := legs.foldl (fun a l => F32.min a (s.derating l)) F32.one

/-- Whether a pause of the charger runs (R468). -/
def State.burstPause (s : State) : Bool := match s.charge.burst with | some (p, _) => p | none => false

/-- TRC.DERATE_k and CHG.DERATE (R463). -/
def State.setDeratings (s : State) : State :=
  let s1 := s.forEach (List.range s.setCount) (fun t k =>
    t.setReg (Item.TRC.DERATE k) (F32.mul (t.lowestDerating (t.setLegs k)) (t.rateFactor k)))
  s1.setReg Item.CHG.DERATE (if s1.burstPause then 0 else s1.lowestDerating s1.chargerLegs)

/-- TEMP_ESTIMATE (R457 to R459, R463, R465): every 1 ms the estimates of the bound legs, the bands they give, the warnings, the derating
factors; with the die temperatures (0.1 °C) and the supply voltages (mV) that the device shows. DEDUCED: assumption logs 61 and 109. -/
def execTempEstimate (dies : List Int) (vsup vso : Nat) (s : State) : Host.Outcome State Fault Refusal :=
  .next (s.act (fun t0 =>
    let t := t0.every Timer.estimate 1000000
    let t1 := (t.forEach ((List.range 5).zip dies) (fun t p => t.setReg (Item.THM.DIE_T p.1) (iw p.2))).setRegs
      [(Item.DEV.VSUP_MV, nw (Nat.min vsup 70000)), (Item.DEV.VSO_MV, nw (Nat.min vso 70000))]
    (t1.forEach (List.range 48) State.estimateLeg).setDeratings))

/-! ## Rates -/

/-- The rate of rise over the preceding 1 s, ten evaluations ago (R464); none so far reads 0. DEDUCED: assumption log 62. -/
def Heat.evaluate (h : Heat) : Heat :=
  let rate : Word := match h.past[9]? with | some x => F32.sub h.ts x | none => 0
  { h with past := (h.ts :: h.past).take 10, rate := rate }

/-- A set's rate factor after an evaluation (R464). -/
def State.stepFactor (s : State) (k : Nat) : State :=
  let g := s.rateFactor k
  let d := s.reg Item.THM.DTDT_STEP
  let fast := (s.setLegs k).any (fun l => F32.lt (F32.ofInt (s.regI Item.THM.DTDT_MAX)) (s.heat l).rate)
  let g1 := if fast then F32.max (s.reg Item.THM.DTDT_FLOOR) (F32.sub g d) else F32.min F32.one (F32.add g d)
  { s with therm := { s.therm with factors := KMap.put (fun _ => (0x3F800000 : Word)) s.therm.factors k g1 } }

/-- TEMP_RATE_EVAL (R464, R468): every 100 ms the rates of rise and the rate factors. -/
def execTempRateEval (s : State) : Host.Outcome State Fault Refusal :=
  .next (s.act (fun t0 =>
    let t := t0.every Timer.rates 100000000
    let t1 := t.forEach ((List.range 48).filter (fun l => (t.bind.sheafOfLeg l).isSome)) (fun t l => t.setHeat l (t.heat l).evaluate)
    let die := t1.regI (Item.THM.DIE_T 3)
    let rate : Int := match t1.therm.diePast[9]? with | some x => die - x | none => 0
    let t2 := { t1 with therm := { t1.therm with diePast := (die :: t1.therm.diePast).take 10, dieRate := rate } }
    t2.forEach (List.range t2.setCount) State.stepFactor))

/-! ## Orderly stops -/

/-- The bits of THM.TA_HOLD: set k in [5:0], sheaf n in [27:16]. -/
def State.holdBit (s : State) (k : Nat) : Bool := bitOf (s.reg Item.THM.TA_HOLD) k

/-- Setting a hold. -/
def State.setHold (s : State) (k : Nat) : State := s.setReg Item.THM.TA_HOLD (s.reg Item.THM.TA_HOLD ||| nw (2 ^ k))

/-- Ending a hold. -/
def State.clearHold (s : State) (k : Nat) : State := s.setReg Item.THM.TA_HOLD (s.reg Item.THM.TA_HOLD &&& ~~~(nw (2 ^ k)))

/-- A stop of class T-A is recorded and counted (R466). DEDUCED: assumption log 63. -/
def State.noteStop (s : State) (n k : Nat) : State := ((s.setHold k).bump Item.THM.TA_CNT).raise (unitOf Kind.sheaf n) .W 24

/-- The orderly stop of an actuator sheaf (Table 17-3): its MOVE ends by its abort action with ABORTED, a PARK move to POS_0 runs to its
end, then the sheaf goes to READY. -/
def State.stopActuator (s : State) (n : Nat) : State :=
  let k := s.actOf n
  let a := s.actuator k
  match a.move with
  | none => s.orderlyStop n false
  | some m =>
    let s1 := s.setActuator k { a with stopAfter := true }
    if s.parkActuator = some k ∧ F32.same m.target (s.reg (Item.ACT.POS k 0)) then s1 else s1.abortMove k n Code.aborted Reason.none

/-- A traction set stops (Table 17-3): its share ramps to 0, or at once where the sheaf does not run; with too few sets left the sheaf
stops instead. -/
def State.stopSet (s : State) (n k : Nat) : State :=
  if s.setWinnowed k then (s.noteStop n k)
  else if s.setsActive.length ≤ s.regN Item.TRC.MIN_SETS then
    if s.holdBit (16 + n) then s else ((s.noteStop n (16 + n)).orderlyStop n false)
  else
    let s1 := s.noteStop n k
    if (s1.sheaf n).state = .run then
      if s1.trac.ramps.any (fun r => decide (r.1 = k)) then s1
      else { s1 with trac := { s1.trac with ramps := s1.trac.ramps ++ [(k, s1.time.now, true)] } }
    else s1.thermalSet k

/-- THERMAL_STOP (R466, Table 17-3, R469): the first estimate of a leg at or above THM.STOP starts the orderly stop of the unit that
holds it, and its hold. -/
def execThermalStop (leg : Fin 48) (s : State) : Host.Outcome State Fault Refusal :=
  .next (s.act (fun t =>
    match t.bind.sheafOfLeg leg with
    | none => t
    | some n =>
      if !(t.heat leg).valid ∨ t.regI (Item.LEG.TEMP_EST leg) < t.regI Item.THM.STOP * 10 then t
      else
        let k := (leg.val - t.bind.firstOf n) / 3
        match t.stype n with
        | 1 => if t.holdBit k then t else t.stopSet n k
        | 5 => t
        | ty =>
          if t.holdBit (16 + n) then t
          else
            let t1 := t.noteStop n (16 + n)
            if ty = SType.act then t1.stopActuator n
            else if ty = SType.auxi then t1.orderlyStop n false
            else if t1.armed ∨ t1.charge.hand.isSome ∨ t1.charge.arm.isSome then t1.stopSession 5
            else t1))

/-- Whether every leg of a held unit stands below THM.RESUME (R467). -/
def State.cooled (s : State) (legs : List Nat) : Bool := legs.all (fun l => decide (s.legTemp l < s.regI Item.THM.RESUME * 10))

/-- The legs of the unit that an orderly stop of a sheaf stopped (Table 17-3): those of every charger sheaf for a session. -/
def State.stoppedLegs (s : State) (n : Nat) : List Nat :=
  if s.stype n = SType.chgf ∨ s.stype n = SType.chgd then
    ((List.range 12).filter (fun m => decide (s.stype m = SType.chgf ∨ s.stype m = SType.chgd))).flatMap s.bind.legsOf
  else s.bind.legsOf n

/-- THERMAL_HOLD_RELEASE (R467, Table 17-3): a held sheaf or set has cooled. The set is proved and restored without a command, while
the supervisor selects OPEN (R319). -/
def execThermalHoldRelease (unit : Nat) (s : State) : Host.Outcome State Fault Refusal :=
  .next (s.act (fun t =>
    let i := unitIndex unit
    match unitKind unit with
    | 1 => if i < 12 ∧ t.holdBit (16 + i) ∧ t.cooled (t.stoppedLegs i) then t.clearHold (16 + i) else t
    | 3 =>
      if i < 6 ∧ t.holdBit i ∧ t.cooled (t.setLegs i) then
        let t1 := t.clearHold i
        if i ∈ t1.trac.thermal then t1.recoverSet i else t1
      else t
    | _ => t))

/-! ## Hardware cuts -/

/-- The sheaves a cut acts on (Table 17-2). -/
def State.cutSheaves (s : State) (cut : Nat) : List Nat :=
  let real := (List.range 12).filter (fun n => decide (s.stype n ≠ 0))
  match cut with
  | 0 => real.filter (fun n => (s.bind.legsOf n).any (fun l => decide (l < 24)))
  | 1 => real.filter (fun n => (s.bind.legsOf n).any (fun l => decide (24 ≤ l)))
  | 5 => real.filter (fun n => decide (s.stype n = SType.auxb))
  | _ => real

/-- The legs whose gate supplies a cut disables. -/
def State.cutLegs (s : State) (cut : Nat) : List Nat :=
  match cut with
  | 0 => List.range 24
  | 1 => (List.range 24).map (· + 24)
  | 4 => (match s.trcSheaf with | some n => s.bind.legsOf n | none => [])
  | _ => []

/-- A sheaf that a cut acts on (R462): from PROVING, READY or RUN it enters WINNOWED with source 16; else it keeps its state. -/
def State.cutSheaf (s : State) (cut n : Nat) : State :=
  let st := (s.sheaf n).state
  if st = .proving ∨ st = .ready ∨ st = .run then s.winnowSheaf n (some (unitOf 15 cut)) else s

/-- The temperature at which a cut acts and at which it releases (R461), 165 °C and 140 °C in 0.1 °C; the buck power stage's comparator
works on the raw Lnn.TS voltages in 0.1 mV, 25.2 mV and 40.4 mV. -/
def cutHot (cut : Nat) (temp : Int) (readings : List Nat) : Bool :=
  if cut = 5 then readings.any (fun v => decide (v < 252)) else decide (1650 < temp)
def cutCool (cut : Nat) (temp : Int) (readings : List Nat) : Bool :=
  if cut = 5 then readings.all (fun v => decide (404 < v)) else decide (temp < 1400)

/-- What a cut does at once beside the gate supplies (Table 17-2): the supervisor die's stops the release signals. -/
def State.cutSignals (s : State) (cut : Nat) : State := if cut = 4 then s.stopRelease else s

/-- TB_CUT (R461, R462, R469): a die of this temperature (0.1 °C), or a sensor of the buck power stage at this voltage (0.1 mV), passes
165 °C. The cut stays in force until its release; the device records it. DEDUCED: assumption log 64. -/
def execTbCut (cut : Fin 6) (temp : Int) (readings : List Nat) (s : State) : Host.Outcome State Fault Refusal :=
  .next (s.act (fun t =>
    let k := cut.val
    if bitOf (t.reg Item.THM.TB_STATE) k ∨ !cutHot k temp readings then t
    else
      let t1 := (t.setReg Item.THM.TB_STATE (t.reg Item.THM.TB_STATE ||| nw (2 ^ k))).bump Item.THM.TB_CNT
      let t2 := (t1.supplies (t1.cutLegs k) false).cutSignals k
      let t3 := t2.forEach (t2.cutSheaves k) (fun t n => t.cutSheaf k n)
      (t3.applySelection).raise (unitOf Kind.device 0) .W 26))

/-- TB_RELEASE (R461, R462): the die has fallen below 140 °C. Gate supplies that the cut disabled return where their sheaf has them, the
release signals return where the supervisor gives them, and every sheaf whose causes are gone proves again. -/
def execTbRelease (cut : Fin 6) (temp : Int) (readings : List Nat) (s : State) : Host.Outcome State Fault Refusal :=
  .next (s.act (fun t =>
    let k := cut.val
    if !bitOf (t.reg Item.THM.TB_STATE) k ∨ !cutCool k temp readings then t
    else
      let t0 := t.setReg Item.THM.TB_STATE (t.reg Item.THM.TB_STATE &&& ~~~(nw (2 ^ k)))
      let t1 := if k = 4 ∧ t0.dev.tested ∧ t0.dev.state ≠ .locked then { t0 with sup := { t0.sup with releases := BitVec.allOnes 48 } } else t0
      let powered (l : Nat) : Bool :=
        match t1.bind.sheafOfLeg l with
        | some n => decide ((t1.sheaf n).state ≠ .off) && !(t1.sup.pathB && decide (t1.stype n = SType.trc))
        | none => false
      let t2 := t1.supplies ((t1.cutLegs k).filter powered) true
      (t2.forEach (List.range 12) State.reprove).applySelection))

/-! ## Pauses -/

/-- CHARGE_BURST_PAUSE (R468, Table 17-4): while the charger is throttled, CHG.DERATE is held at 0 for CHG_PAUSE after each CHG_BURST of
power flow. -/
def execChargeBurstPause (s : State) : Host.Outcome State Fault Refusal :=
  .next (s.act (fun t =>
    match t.charge.burst with
    | none => t
    | some (true, since) =>
      let t1 := t.reach (since + t.regN Item.THM.CHG_PAUSE * 1000000)
      { t1 with charge := { t1.charge with burst := some (false, t1.time.now) } }.setDeratings
    | some (false, since) =>
      if !t.charge.running ∨ !t.throttled t.chargerLegs then t
      else
        let t1 := t.reach (since + t.regN Item.THM.CHG_BURST * 1000000000)
        { t1 with charge := { t1.charge with burst := some (true, t1.time.now) } }.setDeratings))

/-- NV_PAUSE_END (R468): the pause between image writes is over; the NV_COMMIT that waits for it may start. -/
def execNvPauseEnd (s : State) : Host.Outcome State Fault Refusal :=
  .next (s.act (fun t =>
    let t1 := t.reach t.commit.pauseUntil
    { t1 with commit := { t1.commit with pauseUntil := 0 } }))

end Sys2Proof.Machine
end

