-- ==== Sys2Proof/Machine/Transport.lean ====
section
/-! DEFINITION. The host ports: links, attachment, acceptance, collection, credits, the ends of holds and claims, stream frames, service
discovery, the SPI port, time synchronisation (chapters Hosts and Mailboxes, Service, Electrical and Timing). -/

namespace Sys2Proof.Machine

/-- Whether a port takes messages: an Ethernet port once it is linked (R524), the SPI port once the host ports are enabled (R71). The
CAN controllers carry the compact mapping instead. DEDUCED: assumption log 78. -/
def State.portOpen (s : State) (port : Nat) : Bool :=
  s.dev.fwRunning && (decide (port = 7) || (decide (port < 3) && decide (s.regN (Item.ETH.LINK port) = 1)))

/-- The unattached slots that a port may serve, as a mask. -/
def State.freeMask (s : State) (port : Nat) : Nat :=
  (List.range 8).foldl (fun a n =>
    if (s.slot n).status = .free ∧ bitOf (s.reg (Item.HOST.PORTS n)) port then a + 2 ^ n else a) 0

/-- DISCOVER (chapter Hosts and Mailboxes, Transports): answered with ADVERTISE. -/
def execDiscover (port : Fin 3) (s : State) : Host.Outcome State Fault Refusal :=
  .next (s.act (fun t =>
    if t.portOpen port then
      t.sendRaw port 0x02 0 0 0 0 (beBytes 8 Config.serial.toNat ++ beBytes 2 t.runningIface
        ++ [BitVec.ofNat 8 t.dev.state.code, BitVec.ofNat 8 (t.freeMask port)] ++ List.replicate 4 0)
    else t))

/-- HOST_ATTACH with operation attach (R103 to R105, R112); one with another operation is no attach. -/
def execHostAttach (port : Fin 8) (msg : HostMsg) (s : State) : Host.Outcome State Fault Refusal :=
  .next (s.act (fun t => if t.portOpen port then t.attach port none msg else t))

/-- HOST_ATTACH with operation detach (R103, R110, R111). -/
def execHostDetach (port : Fin 8) (msg : HostMsg) (s : State) : Host.Outcome State Fault Refusal :=
  .next (s.act (fun t => if t.portOpen port then t.detach port none msg else t))

/-- LINK_DOWN (R110): every slot attached through the port is detached. -/
def execLinkDown (port : Fin 3) (s : State) : Host.Outcome State Fault Refusal :=
  .next (s.act (fun t =>
    let t1 := t.setReg (Item.ETH.LINK port) 0
    t1.forEach ((List.range 8).filter (fun n => decide ((t1.slot n).port = port))) State.detachSlot))

/-- LINK_UP (R524): an enabled port counts as linked from the completion of link training. -/
def execLinkUp (port : Fin 3) (s : State) : Host.Outcome State Fault Refusal :=
  .next (s.act (fun t => if t.dev.fwRunning ∧ t.regN (Item.ETH.ENABLE port) = 1 then t.setReg (Item.ETH.LINK port) 1 else t))

/-- HOST_IDLE_TIMEOUT (R110): no authenticated message for IDLE_MAX. -/
def execHostIdleTimeout (slot : Fin 8) (s : State) : Host.Outcome State Fault Refusal :=
  .next (s.act (fun t =>
    let h := t.slot slot
    if h.status = .attached then (t.reach (h.lastHeard + t.regN (Item.HOST.IDLE_MAX slot) * 1000000)).detachSlot slot else t))

/-- A sheaf is left without a CONTROL holder (R112): a running traction sheaf performs its orderly stop (R310); charger and actuator
sheaves keep their course (R342, R399), auxiliary sheaves keep their state. -/
def State.holderLost (s : State) (n : Nat) : State :=
  if s.stype n = SType.trc ∧ !(List.range 8).any (fun k => s.hasClaim k n) then s.orderlyStop n false else s

/-- SLOT_HOLD_EXPIRY (R111, R112): 2 s after its detachment a slot is free; its completions go, its claims are released. -/
def execSlotHoldExpiry (slot : Fin 8) (s : State) : Host.Outcome State Fault Refusal :=
  .next (s.act (fun t =>
    let h := t.slot slot
    if h.status ≠ .held then t
    else
      let t1 := t.reach (h.heldAt + 2000000000)
      let t2 := t1.setSlot slot HostSlot.init
      let t3 := t2.forEach (List.range 64) (fun t k =>
        match t.cmd slot k with
        | some r => if r.state = .done then t.setCmd slot k none else t
        | none => t)
      let t4 := t3.forEach ((List.range 12).filter (fun n => h.claims.toNat.testBit n)) State.holderLost
      t4.forEach (List.range 4) State.canSlotsFree))

/-- COMMAND_ACCEPT (R102, R106, R107, R113, R115): a COMMAND message of an attached slot. -/
def execCommandAccept (port : Fin 8) (msg : HostMsg) (s : State) : Host.Outcome State Fault Refusal :=
  .next (s.act (fun t => if t.portOpen port ∧ msg.kind = 0x10 then t.accept port msg else t))

/-- COLLECT (R114): a COLLECT message of an attached slot. -/
def execCollect (port : Fin 8) (msg : HostMsg) (s : State) : Host.Outcome State Fault Refusal :=
  .next (s.act (fun t => if t.portOpen port ∧ msg.kind = 0x13 then t.collect port msg else t))

/-- COMPLETION_RESEND (R114): every 10 ms. -/
def execCompletionResend (slot : Fin 8) (s : State) : Host.Outcome State Fault Refusal := .next (s.act (fun t => t.resend slot))

/-- CREDIT_SEND (R116): returned credits have waited 1 ms, or none has gone for 10 ms. -/
def execCreditSend (slot : Fin 8) (s : State) : Host.Outcome State Fault Refusal :=
  .next (s.act (fun t =>
    let h := t.slot slot
    if h.status = .attached then (t.reach (h.lastCredit + (if h.owed = 0 then 10000000 else 1000000))).sendCredit slot else t))

/-- STORE_CLAIM_EXPIRY (R96, R97): 10 s without a further NV_COMMIT end the claim of the image store, or of the firmware store, and
discard its held header. -/
def execStoreClaimExpiry (s : State) : Host.Outcome State Fault Refusal :=
  .next (s.act (fun t =>
    match t.commit.claim, t.commit.fwClaim with
    | some _, _ =>
      let t1 := t.reach (t.commit.last + 10000000000)
      { t1 with commit := { t1.commit with claim := none, header := [] } }
    | none, some _ =>
      let t1 := t.reach (t.commit.fwLast + 10000000000)
      { t1 with commit := { t1.commit with fwClaim := none, fwHeader := [] } }
    | none, none => t))

/-- STREAM_FRAME_SEND (R129, R130): 1 ms after its first row a frame is sent; one not sent within 2 ms of its last row is dropped. -/
def execStreamFrameSend (slot : Fin 8) (number : Fin 64) (late : Bool) (s : State) : Host.Outcome State Fault Refusal :=
  .next (s.act (fun t =>
    match t.streams.find? (fun x => decide (x.slot = slot.val) && decide (x.number = number.val)) with
    | none => t
    | some x =>
      if x.rows = [] then t
      else if late then (t.reach (x.last + 2000001)).streamFlush x
      else (t.reach (x.first + 1000000)).streamFlush x))

/-- SERVICE_HOST_DETACHED (R501, Table 3-6): the SERVICE host has been detached for 2 s; the sheaves that STANDBY does not permit
perform their orderly stop, and the device goes to STANDBY. -/
def execServiceHostDetached (s : State) : Host.Outcome State Fault Refusal :=
  .next (s.act (fun t =>
    match t.dev.serviceHost with
    | none => t
    | some k =>
      if t.dev.state ≠ .service ∨ (t.slot k).status = .attached ∨ t.dev.exiting.isSome then t
      else
        let t1 := if (t.slot k).status = .held then t.reach ((t.slot k).heldAt + 2000000000) else t
        let t2 := { t1 with dev := { t1.dev with exiting := some (0xFF, 1) } }
        let t3 := t2.forEach ((List.range 12).filter (fun n => decide ((t2.sheaf n).state = .run) && !standbyType (t2.stype n)))
          (fun t n => t.orderlyStop n false)
        t3.finishExit))

/-! ## Service discovery -/

/-- Whether one more discovery message may be answered (R504). -/
def State.mayAnswer (s : State) : Bool :=
  decide ((s.net.answers.filter (fun t => decide (s.time.now < t + 1000000000))).length < 20)

/-- Noting an answer. -/
def State.noteAnswer (s : State) : State :=
  { s with net := { s.net with answers := (s.time.now :: s.net.answers).take 20 } }

/-- SEQ of the booted image; 0 when none booted. -/
def State.bootedSeq (s : State) : Nat :=
  match s.regN Item.IMG.BOOT_SLOT with
  | 0 => s.regN Item.IMG.SEQ_A
  | 1 => s.regN Item.IMG.SEQ_B
  | _ => 0

/-- Sending an SD_REPLY (Table 19-6). -/
def State.sdReply (s : State) (nonce : Nat) : State :=
  (s.sendRaw 2 0x04 0 0 0 0 (beBytes 4 (s.regN Item.SVC.DEV_NUM) ++ beBytes 8 Config.serial.toNat ++ beBytes 2 s.runningIface
    ++ [BitVec.ofNat 8 s.dev.state.code, BitVec.ofNat 8 (s.freeMask 2)] ++ beBytes 4 s.bootedSeq
    ++ beBytes 4 (s.store.fwVersion.getD s.store.fwRun 0) ++ beBytes 8 nonce)).bump Item.SVC.SD_CNT

/-- SD_QUERY (R503, R504): a query on E2 whose prefix matches the upper L bits of DEV_NUM schedules one reply after a delay of 0 to W ms
that nothing else fixes (a free word); a quieted nonce is not answered. DESIGN CHOICE: assumption log 73. -/
def execSdQuery (bits : Fin 262144) (length : Fin 19) (window : Nat) (nonce : BitVec 64) (s : State) :
    Host.Outcome State Fault Refusal :=
  .next (s.act (fun t =>
    let low := 2 ^ (18 - length.val)
    let quiet := t.net.quiet.any (fun q => decide (q.1 = nonce.toNat) && decide (t.time.now < q.2))
    if !t.portOpen 2 ∨ t.regN Item.SVC.SD_EN = 0 ∨ t.regN Item.SVC.DEV_NUM / low ≠ bits.val / low ∨ quiet ∨ !t.mayAnswer then t
    else
      let d := t.freeWord.toNat % (window + 1)
      let t1 := t.useFree.noteAnswer
      { t1 with net := { t1.net with replies := t1.net.replies ++ [(t1.time.now + d * 1000000, nonce.toNat)] } }))

/-- The earliest of the scheduled replies. -/
def earliest (l : List (Nat × Nat)) : Option (Nat × Nat) :=
  match l with
  | [] => none
  | x :: t => some (t.foldl (fun a b => if b.1 < a.1 then b else a) x)

/-- SD_REPLY (R503): the scheduled reply goes out at the end of its delay. -/
def execSdReply (s : State) : Host.Outcome State Fault Refusal :=
  .next (s.act (fun t =>
    match earliest t.net.replies with
    | none => t
    | some q =>
      let t1 := t.reach q.1
      { t1 with net := { t1.net with replies := t1.net.replies.erase q } }.sdReply q.2))

/-- SD_QUIET (R503, R504): addressed to the device's MAC address, it quiets its nonce for SD_QUIET_T and is acknowledged with one
SD_REPLY. -/
def execSdQuiet (nonce : BitVec 64) (own : Bool) (s : State) : Host.Outcome State Fault Refusal :=
  .next (s.act (fun t =>
    if !own ∨ !t.portOpen 2 ∨ t.regN Item.SVC.SD_EN = 0 ∨ !t.mayAnswer then t
    else
      let until' := t.time.now + t.regN Item.SVC.SD_QUIET_T * 1000000000
      let t1 := { t.noteAnswer with net := { t.noteAnswer.net with
        quiet := (nonce.toNat, until') :: t.net.quiet.filter (fun q => decide (q.1 ≠ nonce.toNat) && decide (t.time.now < q.2)) } }
      t1.sdReply nonce.toNat))

/-! ## SPI -/

/-- What an SPI transaction returned. -/
def State.spiOut (s : State) (l : List Byte) : State := { s with net := { s.net with spi := l } }

/-- SPI_WRITE (command 0x01, R525): one host-to-device message; a transaction that ends early is discarded and counted. -/
def execSpiWrite (msg : HostMsg) (whole : Bool) (s : State) : Host.Outcome State Fault Refusal :=
  .next (s.act (fun t0 =>
    let t := t0.spiOut []
    if !t.portOpen 7 then t
    else if !whole then
      (match (List.range 8).find? (fun n => bitOf (t.reg (Item.HOST.PORTS n)) 7) with
       | some n => t.bump (Item.HOST.LEN_ERR n)
       | none => t)
    else if msg.kind = 0x13 then t.collect 7 msg
    else if msg.kind ≠ 0x10 then t
    else if msg.opcode.toNat = Op.hostAttach then (if beAt msg.payload 0 1 = 2 then t.detach 7 none msg else t.attach 7 none msg)
    else t.accept 7 msg))

/-- A device-to-host message as its bytes: the 32-byte header with its CMAC, and the payload (Table 4-5). -/
def messageBytes (m : OutMsg) : List Byte := outHeader m ++ beBytes 8 m.mac.toNat ++ m.payload

/-- The message that waits on SPI. -/
def State.spiWaiting (s : State) : Option OutMsg := s.tx.find? (fun m => decide (m.port = 7))

/-- SPI_READ (command 0x02, R525): the waiting message whole, or 32 zero bytes; a transaction that ends before its end leaves it
waiting. -/
def execSpiRead (whole : Bool) (s : State) : Host.Outcome State Fault Refusal :=
  .next (s.act (fun t =>
    match t.spiWaiting with
    | none => t.spiOut (List.replicate 32 0)
    | some m =>
      if whole then
        { t with tx := t.tx.erase m }.spiOut (messageBytes m)
      else t))

/-- SPI_STATUS (command 0x03, R525): the bytes that wait for the host, and the free receive bytes, whose number the spec does not give (a
free word). DESIGN CHOICE: assumption log 74. -/
def execSpiStatus (s : State) : Host.Outcome State Fault Refusal :=
  .next (s.act (fun t =>
    let waiting := ((t.tx.filter (fun m => decide (m.port = 7))).map (fun m => 32 + m.payload.length)).sum
    t.useFree.spiOut (beBytes 2 (Nat.min 65535 waiting) ++ beBytes 2 t.freeWord.toNat)))

/-- SPI_OTHER (R525): any other command byte returns zero bytes. -/
def execSpiOther (length : Nat) (s : State) : Host.Outcome State Fault Refusal :=
  .next (s.act (fun t => t.spiOut (List.replicate length 0)))

/-! ## Time synchronisation -/

/-- PTP_SYNC (R31, R131): a sync with its residual offset error in ns, the offset between vehicle and device time, and the rate
adjustment that the servo draws from it, held within ±200 ppm. Eight good ones in a row are LOCKED. DEDUCED: assumption log 75. -/
def execPtpSync (residual : Nat) (offset : Int) (rate : Int) (s : State) : Host.Outcome State Fault Refusal :=
  .next (s.act (fun t =>
    if t.regN Item.TIME.PTP_PORT = 0 then t
    else
      let good := if residual < t.regN Item.TIME.LOCK_NS then t.time.goodRun + 1 else 0
      let t1 := { t with time := { t.time with offset := offset, lastSync := some t.time.now, goodRun := good, missedRun := 0 } }
      t1.setRegs [(Item.TIME.SYNC_STATE, if 8 ≤ good then 2 else 1), (Item.TIME.RATE_PPB, iw (max (-200000) (min 200000 rate)))]))

/-- PTP_HOLDOVER (R131): HOLDOVER_N syncs in a row were missed; the last rate is kept. -/
def execPtpHoldover (s : State) : Host.Outcome State Fault Refusal :=
  .next (s.act (fun t =>
    if t.regN Item.TIME.SYNC_STATE = 1 ∨ t.regN Item.TIME.SYNC_STATE = 2 then
      { t with time := { t.time with goodRun := 0, missedRun := t.regN Item.TIME.HOLDOVER_N } }.setReg Item.TIME.SYNC_STATE 3
    else t))

end Sys2Proof.Machine
end

