-- ==== Sys2Proof/Machine/Hosts.lean ====
section
/-! DEFINITION. How an accepted host command starts: what it addresses, what it waits for, what it needs (R36, R37, R71, R118, R124,
R126, R141); and the commands that concern hosts themselves: time, reads, claims, streams. -/

namespace Sys2Proof.Machine

/-- What the hardware shows to a command that asks it nothing. -/
def Presence.nothing : Presence where
  supply := 0
  excitation := 0
  samples := []
  phase := 0
  wires := 0
  hall := none
  frames := 0
  jump := 0
def SelftestFinding.nothing : SelftestFinding where
  trips := 0
  releases := 0
  qgHs := 0
  qgLs := 0
  link := 0
  midMax := 0
  offs := []
  levels := []
  injected := 0
  low := 0
  high := 0
  windows := []
  pairs := 0
  converters := []
  presence := Presence.nothing
  vectors := []
  loops := []
  pulse := { vso := 0, hsP := 0, hsN := 0, lsP := 0, lsN := 0 }
  us := 0
def Finding.nothing : Finding where
  checks := []
  ok := true
  test := SelftestFinding.nothing
  load := 0

/-! ## What a command addresses -/

/-- The opcode, the unit and the first payload byte of a message. -/
def op (m : HostMsg) : Nat := m.opcode.toNat
def target (m : HostMsg) : Nat := m.unit.toNat
def opByte (m : HostMsg) : Nat := beAt m.payload 0 1

/-- The address and value pairs of a PARAM_WRITE. -/
def writeItems (m : HostMsg) : List (Word × Word) := payloadPairs (payloadWords m.payload)

/-- The unit that an item is addressed as (R140). -/
def State.itemUnit (s : State) (a : Nat) : Nat :=
  match s.ownerSheaf a with
  | some n => unitOf Kind.sheaf n
  | none => unitOf Kind.device 0

/-- The units that a command addresses for R36 and R37: those that own its items (R140), a traction leg together with its set, the unit
of its UNIT field, and the device for an opcode that takes none (assumption log 70). -/
def State.addressed (s : State) (m : HostMsg) : List Nat :=
  let u := target m
  if op m = Op.paramRead then ((payloadWords m.payload).map (fun w => s.itemUnit (bitsOf w 23 0))).dedup
  else if op m = Op.paramWrite then ((writeItems m).map (fun p => s.itemUnit (bitsOf p.1 23 0))).dedup
  else if (op m = Op.prove ∨ op m = Op.winnow ∨ op m = Op.restore) ∧ unitKind u = Kind.leg then
    match s.bind.sheafOfLeg (unitIndex u) with
    | some n => if s.stype n = SType.trc then [u, unitOf Kind.set (s.bind.position (unitIndex u) / 3)] else [u]
    | none => [u]
  else [u]

/-- Whether a command ends an earlier one instead of waiting for it (R124). -/
def State.ends (s : State) (later earlier : HostMsg) : Bool :=
  if op later = Op.move then decide (op earlier = Op.move) && decide (target earlier = target later)
  else if op later = Op.sheafStop then
    decide (op earlier ∈ [Op.sheafStart, Op.prove, Op.selftest])
      && decide (unitKind (target earlier) ∈ [Kind.sheaf, Kind.leg, Kind.set])
      && s.unitInSheaf (unitIndex (target later)) (target earlier)
  else if op later = Op.chargeArm ∧ opByte later = 2 then
    decide (op earlier = Op.chargeArm) && decide (opByte earlier ≠ 2)
  else false

/-- Whether the device may start a command of this opcode in its present state (R71). -/
def State.phaseAllows (s : State) (m : HostMsg) : Bool := decide (s.dev.state ≠ .proof) || proofAllowed (op m)

/-- The waiting records accepted before one, with their tags. -/
def State.waitingBefore (s : State) (order : Nat) : List (Nat × CmdRec) :=
  s.recs.filterMap (fun p =>
    match p.2 with
    | some r => if r.state = .waiting ∧ r.order < order then some (p.1, r) else none
    | none => none)


/-- The sequences that take one of the 32 contexts (R37): those of sequence opcodes. -/
def contextKind (k : SeqKind) : Bool := decide (k ≠ .mode) && decide (k ≠ .hvConnect) && decide (k ≠ .write)

/-- Whether a running sequence is one that a command ends (R124). -/
def State.endsRunning (s : State) (m : HostMsg) (q : Sequence) : Bool :=
  match s.cmd q.slot q.index with
  | some r => s.ends m r.msg
  | none => false

/-- Whether a sequence finds a free context and its units idle (R37). -/
def State.contextFree (s : State) (r : CmdRec) : Bool :=
  let run := s.seqs.filter (fun q => contextKind q.kind)
  decide (run.length < 32)
    && !run.any (fun q => q.units.any (fun u => decide (u ∈ s.addressed r.msg)) && !s.endsRunning r.msg q)

/-- Whether a SWAP waits for one that is pending (R94), and an image write for its pause (R468). -/
def State.held (s : State) (m : HostMsg) : Bool :=
  if op m = Op.swap then s.swaps.any (fun w => decide (target m = 0) || decide (w.sheaf = unitIndex (target m)))
  else decide (op m = Op.nvCommit) && decide (s.time.now < s.commit.pauseUntil)

/-- Whether a command accepted earlier for one of the same units has not started yet (R36); one that PROOF holds does not hold up the
commands that PROOF lets through (R71). DEDUCED: assumption log 79. -/
def State.behindUnit (s : State) (r : CmdRec) : Bool :=
  (s.waitingBefore r.order).any (fun p => s.phaseAllows p.2.msg && !s.ends r.msg p.2.msg
    && (s.addressed p.2.msg).any (fun u => decide (u ∈ s.addressed r.msg)))

/-- Whether a command waits for an earlier one: for the same unit, or, of sequences, for the next context that comes free (R37). -/
def State.behind (s : State) (r : CmdRec) : Bool :=
  s.behindUnit r || (isSequence (op r.msg) && (s.waitingBefore r.order).any (fun p => isSequence (op p.2.msg)
    && s.phaseAllows p.2.msg && !s.ends r.msg p.2.msg && s.contextFree p.2 && !s.held p.2.msg && !s.behindUnit p.2
    && decide (p.2.start.getD 0 ≤ s.time.now)))

/-- Whether a waiting command may start now, its AT apart. -/
def State.mayStart (s : State) (r : CmdRec) : Bool :=
  s.dev.fwRunning && !s.dev.halted && s.phaseAllows r.msg && !s.behind r && !s.held r.msg
    && (!isSequence (op r.msg) || s.contextFree r)

/-- The sheaf whose claim a command needs by its UNIT field (Table 4-3, R118). -/
def State.claimSheaf (s : State) (m : HostMsg) : Option Nat :=
  if op m ∈ [Op.swap, Op.prove, Op.sheafStart, Op.sheafStop, Op.winnow, Op.restore, Op.selftest, Op.force, Op.move] then
    s.unitSheaf (target m)
  else none

/-- Completing the waiting commands that one ends (R124). -/
def State.endWaiting (s : State) (r : CmdRec) : State :=
  s.forEach ((s.waitingBefore r.order).filter (fun p => s.ends r.msg p.2.msg)) (fun t p =>
    t.complete (p.1 / 64) (p.1 % 64) Code.aborted Reason.none [])

/-- Whether the slot lacks a claim that a command needs at its start: of its unit, for CHARGE_ARM of every charger sheaf (R118). -/
def State.lacksClaim (s : State) (slot : Nat) (m : HostMsg) : Bool :=
  if op m = Op.chargeArm then
    !(s.bind.sheavesOfType SType.chgf ++ s.bind.sheavesOfType SType.chgd).all (s.hasClaim slot)
  else match s.claimSheaf m with | some n => !s.hasClaim slot n | none => false

/-- A command that its turn has come to: refused in LOCKED or without its claim, else executed (R118, R124, R449). A command ends the
earlier ones that R124 names even where its payload then turns out malformed. DEDUCED: assumption log 97. -/
def State.start (s : State) (slot index : Nat) (r : CmdRec) (f : State → HostMsg → State) : State :=
  if s.dev.state = .locked ∧ !lockedAllowed (op r.msg) then s.complete slot index Code.invalid Reason.state []
  else if s.lacksClaim slot r.msg then s.complete slot index Code.denied Reason.rights []
  else f (s.endWaiting r) r.msg

/-- When a command is over time: its TIMEOUT field in ms, or the default of its opcode (R125, Table 4-4). -/
def CmdRec.deadline (r : CmdRec) : Nat :=
  r.accepted + (if r.msg.timeout = 0 then opcodeTimeout (op r.msg) else r.msg.timeout.toNat) * 1000000

/-- Launching a waiting command: past its timeout it has no effect (R125); it waits where it must (R36, R37, R71, R94), completes with
LATE too long after its AT (R126), and starts otherwise. -/
def State.launch (s : State) (slot index : Nat) (r : CmdRec) (f : State → HostMsg → State) : State :=
  if r.deadline ≤ s.time.now ∧ s.dev.fwRunning ∧ !s.dev.halted then s.complete slot index Code.timeout Reason.none []
  else if !s.mayStart r then s
  else
    match r.start with
    | none => s.start slot index r f
    | some t =>
      if s.time.now < t then s
      else if t + s.regN (Item.HOST.AT_TOL slot) * 1000 < s.time.now then s.complete slot index Code.late Reason.none []
      else s.start slot index r f

/-- A row of a host command: the record of the tag holds such a command, waiting. -/
def State.hostRow (s : State) (slot index : Nat) (is : HostMsg → Bool) (f : State → HostMsg → State) : State :=
  match s.cmd slot index with
  | some r => if r.state = .waiting ∧ is r.msg then s.launch slot index r f else s
  | none => s

/-- A command that goes on beyond its start: its record is in execution. -/
def State.running (s : State) (slot index : Nat) : State :=
  match s.cmd slot index with
  | some r => s.setCmd slot index (some { r with state := .running })
  | none => s

/-- A sequence takes its context. -/
def State.addSequence (s : State) (kind : SeqKind) (units : List Nat) (slot index arg : Nat) : State :=
  let s1 := s.running slot index
  { s1 with seqs := s1.seqs ++ [{ kind := kind, units := units, slot := slot, index := index, arg := arg, started := s1.time.now }] }

/-- Completions in short. -/
def State.ok (s : State) (slot index : Nat) (result : List Byte) : State := s.complete slot index Code.ok Reason.none result
def State.invalid (s : State) (slot index reason : Nat) : State := s.complete slot index Code.invalid reason []
def State.denied (s : State) (slot index reason : Nat) : State := s.complete slot index Code.denied reason []

/-! ## Time and reads -/

/-- The 32 bytes of Table 4-11. -/
def State.timeResult (s : State) : List Byte :=
  let st := s.regN Item.TIME.SYNC_STATE
  let two64 (i : Int) : Nat := (i % 2 ^ 64).toNat
  let veh : Nat := if st = 0 then 0 else two64 ((s.time.now : Int) + s.time.offset)
  let since : Nat :=
    match s.time.lastSync with
    | some t => Nat.min 65535 ((s.time.now - t) / 1000000)
    | none => 65535
  beBytes 8 s.time.now ++ beBytes 8 veh ++ beBytes 8 (two64 s.time.offset) ++ wordBytes (s.reg Item.TIME.RATE_PPB)
    ++ [BitVec.ofNat 8 st, BitVec.ofNat 8 (s.regN Item.TIME.PTP_PORT)] ++ beBytes 2 since

/-- TIME_QUERY's work. -/
def State.doTimeQuery (s : State) (slot index : Nat) (m : HostMsg) : State :=
  if m.payload ≠ [] then s.invalid slot index Reason.range else s.ok slot index s.timeResult

/-- TIME_QUERY (R122, Table 4-11). -/
def execTimeQuery (slot : Fin 8) (index : Fin 64) (s : State) : Host.Outcome State Fault Refusal :=
  .next (s.act (fun t => t.hostRow slot index (fun m => decide (op m = Op.timeQuery)) (fun u m => u.doTimeQuery slot index m)))

/-- PARAM_READ's work (R132, R139, R152, R153): one to 64 items, at most six on CAN (R490). -/
def State.doParamRead (s : State) (slot index : Nat) (m : HostMsg) : State :=
  let n := m.payload.length
  let most := if isCanPort (s.slot slot).port then 6 else 64
  if n % 4 ≠ 0 ∨ n = 0 ∨ most * 4 < n then s.invalid slot index Reason.range
  else s.ok slot index ((payloadWords m.payload).flatMap s.readBytes)

/-- PARAM_READ (R122, R139). -/
def execParamRead (slot : Fin 8) (index : Fin 64) (s : State) : Host.Outcome State Fault Refusal :=
  .next (s.act (fun t => t.hostRow slot index (fun m => decide (op m = Op.paramRead)) (fun u m => u.doParamRead slot index m)))

/-! ## Claims -/

/-- The sheaves that exist. -/
def State.realSheaves (s : State) : List Nat := (List.range 12).filter (fun n => decide (s.stype n ≠ 0))

/-- The claims that a command needs: of its unit, of the owners of its items, of the states it asks for, of the charger's sheaves
(Table 4-3, R82). -/
def State.needs (s : State) (m : HostMsg) : List Nat :=
  if op m = Op.paramWrite then
    (writeItems m).filterMap (fun p =>
      let a := bitsOf p.1 23 0
      if a = Item.DEV.MODE_REQ then
        if p.2 = 3 then s.trcSheaf else if p.2 = 4 then s.bind.sheafOfType SType.chgf else none
      else if isBatteryLimit a then none else s.ownerSheaf a)
  else if op m = Op.chargeArm then (s.bind.sheavesOfType SType.chgf) ++ s.bind.sheavesOfType SType.chgd
  else if op m = Op.chargeSet then
    if beAt m.payload 0 2 % 64 = 0 then [] else (s.bind.sheafOfType SType.chgf).toList
  else if op m = Op.swap ∧ target m = unitOf Kind.device 0 then
    s.realSheaves.filter (fun n => (List.range 8).any (fun k => s.hasClaim k n))
  else (s.claimSheaf m).toList

/-- The sheaves of a 12-bit mask. -/
def maskSheaves (mask : Nat) : List Nat := (List.range 12).filter (fun n => mask.testBit n)

/-- A slot loses claims to another (R121): its waiting commands that need one complete with DENIED and RIGHTS, and it is told. -/
def State.loseClaims (s : State) (slot mask taker : Nat) : State :=
  let h := s.slot slot
  let lost := h.claims.toNat &&& mask
  if slot = taker ∨ lost = 0 then s
  else
    let keep : BitVec 12 := BitVec.ofNat 12 (4095 - lost)
    let s1 := s.setSlot slot { h with claims := h.claims &&& keep, svcClaims := h.svcClaims &&& keep }
    let hit := s1.recs.filterMap (fun p =>
      match p.2 with
      | some r => if p.1 / 64 = slot ∧ r.state = .waiting ∧ (s.needs r.msg).any (fun n => lost.testBit n) then some p.1 else none
      | none => none)
    let s2 := s1.forEach hit (fun t k => t.complete slot (k % 64) Code.denied Reason.rights [])
    s2.eventTo slot 1 (beBytes 2 lost ++ [BitVec.ofNat 8 taker, 0])

/-- Whether a slot holds the CTRL right of a sheaf's type. -/
def State.ctrls (s : State) (slot n : Nat) : Bool :=
  match ctrlRight (s.stype n) with
  | some r => s.hasRight slot r
  | none => false

/-- Whether a slot may take the claim of a sheaf (R119); no slot takes that of a sheaf of TYPE NONE. DESIGN CHOICE: assumption log 124. -/
def State.mayClaim (s : State) (slot n : Nat) : Bool :=
  decide (s.stype n ≠ 0)
    && (s.ctrls slot n || (s.hasRight slot Right.svcClaim && decide (s.dev.state = .standby ∨ s.dev.state = .service)))

/-- Taking the claims of a mask, all or none (R119, R120, R121). DEDUCED: assumption log 82. -/
def State.claimTake (s : State) (slot index mask : Nat) : State :=
  let l := maskSheaves mask
  if s.dev.state = .service ∧ !s.hasRight slot Right.svcClaim then s.denied slot index Reason.state
  else if !l.all (s.mayClaim slot) then s.denied slot index Reason.noRight
  else
    let s1 := s.forEach (List.range 8) (fun t k => t.loseClaims k mask slot)
    let h := s1.slot slot
    let svc := (l.filter (fun n => !s.ctrls slot n)).foldl (fun a n => a + 2 ^ n) 0
    let s2 := s1.setSlot slot { h with claims := h.claims ||| BitVec.ofNat 12 mask,
                                       svcClaims := (h.svcClaims &&& BitVec.ofNat 12 (4095 - mask)) ||| BitVec.ofNat 12 svc }
    s2.ok slot index (beBytes 2 (s2.slot slot).claims.toNat)

/-- Releasing the claims of a mask; a sheaf left without a holder reacts as its chapter states (R112). It needs a CTRL right or
SVC_CLAIM (Table 4-3), and SERVICE bars takes alone (R120). DEDUCED: assumption log 82. -/
def State.claimRelease (s : State) (slot index mask : Nat) : State :=
  let h := s.slot slot
  let gone := h.claims.toNat &&& mask
  let keep : BitVec 12 := BitVec.ofNat 12 (4095 - mask)
  if !(List.any [Right.ctrlTrc, Right.ctrlChg, Right.ctrlAux, Right.ctrlAct, Right.svcClaim] (s.hasRight slot)) then
    s.denied slot index Reason.noRight
  else
    let s1 := s.setSlot slot { h with claims := h.claims &&& keep, svcClaims := h.svcClaims &&& keep }
    let s2 := s1.forEach (maskSheaves gone) State.holderLost
    s2.ok slot index (beBytes 2 (s2.slot slot).claims.toNat)

/-- CLAIM's work: operation, a zero byte, a 12-bit mask. -/
def State.doClaim (s : State) (slot index : Nat) (m : HostMsg) : State :=
  let p := m.payload
  let mask := beAt p 2 2
  if p.length ≠ 4 ∨ beAt p 1 1 ≠ 0 ∨ 4096 ≤ mask then s.invalid slot index Reason.range
  else
    match opByte m with
    | 1 => s.claimTake slot index mask
    | 2 => s.claimRelease slot index mask
    | _ => s.invalid slot index Reason.range

/-- CLAIM with operation 1, or with an operation the spec does not define (R119 to R121). -/
def execClaimTake (slot : Fin 8) (index : Fin 64) (s : State) : Host.Outcome State Fault Refusal :=
  .next (s.act (fun t => t.hostRow slot index (fun m => decide (op m = Op.claim) && decide (opByte m ≠ 2))
    (fun u m => u.doClaim slot index m)))

/-- CLAIM with operation 2 (R112). -/
def execClaimRelease (slot : Fin 8) (index : Fin 64) (s : State) : Host.Outcome State Fault Refusal :=
  .next (s.act (fun t => t.hostRow slot index (fun m => decide (op m = Op.claim) && decide (opByte m = 2))
    (fun u m => u.doClaim slot index m)))

/-! ## Streams -/

/-- The lane of a stream's first words: whether a source word is well formed (R233): a parameter address, or a converter input in its
form. -/
def sourceOk (w : Word) : Bool :=
  if bitOf w 31 then
    decide (bitsOf w 30 24 = 0) && ((Catalogue.find (bitsOf w 23 0)).isSome || Catalogue.isDescriptor (bitsOf w 23 0))
  else
    decide (bitsOf w 28 8 = 0)
      && (match bitsOf w 30 29 with
          | 0 => decide (bitsOf w 7 0 < 128)
          | 1 => decide (bitsOf w 7 0 < 128)
          | 2 => decide (bitsOf w 7 0 < 64)
          | _ => decide (bitsOf w 7 0 < 20))

/-- The line rate of an Ethernet port in kbit/s (Table 1-1). -/
def lineRate (port : Nat) : Nat := if port = 2 then 100000 else 1000000

/-- Whether a stream of this load fits (R129). -/
def State.streamFits (s : State) (slot port load : Nat) : Bool :=
  decide (s.streams.length < 16) && decide ((s.streams.filter (fun x => decide (x.slot = slot))).length < 4)
    && decide ((s.slot slot).port < 3) && decide (load ≤ 200000)
    && decide ((((s.streams.filter (fun x => decide (x.port = port))).map (·.load)).sum + load) * 5 ≤ lineRate port * 4)

/-- STREAM_OPEN's work (R129, R233); `load` is the stream's load in kbit/s. DEDUCED: assumption log 83. -/
def State.doStreamOpen (s : State) (slot index load : Nat) (m : HostMsg) : State :=
  let p := m.payload
  let n := opByte m
  let port := beAt p 1 1
  let dec := beAt p 2 2
  let src := payloadWords (p.drop 4)
  if isCanPort (s.slot slot).port then s.invalid slot index Reason.streams
  else if n = 0 ∨ 16 < n ∨ p.length ≠ 4 + 4 * n ∨ 2 < port ∨ dec = 0 ∨ !src.all sourceOk then s.invalid slot index Reason.range
  else if !s.streamFits slot port load then s.invalid slot index Reason.streams
  else
    let used (k : Nat) : Bool := s.streams.any (fun x => decide (x.slot = slot) && decide (x.number = k))
    let k := ((List.range 64).find? (fun k => !used k)).getD 0
    let x : Stream := { slot := slot, number := k, port := port, decimation := dec, sources := src, load := load, seq := 0,
                        skipped := 0, rows := [], first := 0, last := 0 }
    { s with streams := s.streams ++ [x] }.ok slot index [BitVec.ofNat 8 k]

/-- STREAM_OPEN (R129). -/
def execStreamOpen (slot : Fin 8) (index : Fin 64) (load : Nat) (s : State) : Host.Outcome State Fault Refusal :=
  .next (s.act (fun t => t.hostRow slot index (fun m => decide (op m = Op.streamOpen))
    (fun u m => u.doStreamOpen slot index load m)))

/-- STREAM_CLOSE's work. -/
def State.doStreamClose (s : State) (slot index : Nat) (m : HostMsg) : State :=
  let mine (x : Stream) : Bool := decide (x.slot = slot) && decide (x.number = opByte m)
  if m.payload.length ≠ 1 ∨ !s.streams.any mine then s.invalid slot index Reason.range
  else { s with streams := s.streams.filter (fun x => !mine x) }.ok slot index []

/-- STREAM_CLOSE (R122). -/
def execStreamClose (slot : Fin 8) (index : Fin 64) (s : State) : Host.Outcome State Fault Refusal :=
  .next (s.act (fun t => t.hostRow slot index (fun m => decide (op m = Op.streamClose))
    (fun u m => u.doStreamClose slot index m)))

end Sys2Proof.Machine
end

