-- ==== Sys2Proof/Machine/Writes.lean ====
section
/-! DEFINITION. PARAM_WRITE (chapter Parameter Space and Change Rules): cross-item constraints, the checks of Table 5-3, what a write sets
off besides its value, and the writes that are requests: device states, the HV connection, outputs, triggers, recoveries, windows,
firmware. -/

namespace Sys2Proof.Machine

/-! ## Cross-item constraints (R137) -/

/-- Numbers rise strictly, or do not fall. -/
def rising : List Int → Bool
  | a :: b :: t => decide (a < b) && rising (b :: t)
  | _ => true
def notFalling : List Nat → Bool
  | a :: b :: t => decide (a ≤ b) && notFalling (b :: t)
  | _ => true

/-- The fields of a dead-time word: high-side and low-side (Table 7-7). -/
def deadTimesOf (w : Word) : Nat × Nat := (bitsOf w 15 0, bitsOf w 31 16)

/-- The interlock time of a leg against the dead times of its sheaf (R162). -/
def interlockOk (e : Nat → Word) (n leg : Nat) : Bool :=
  (List.range 4).all (fun k =>
    let d := deadTimesOf (e (Item.PWM.DT_B n k))
    decide ((e (Item.LEG.IL_TIME leg)).toNat * 64 ≤ Nat.min d.1 d.2 * 5))

/-- The three constraints of a leg's gate items (R173), in steps of 0.25 V and in mV. -/
def gateOk (e : Nat → Word) (leg : Nat) : Bool :=
  let i (a : Nat) : Int := (e a).toInt
  decide (i (Item.GATE.OFF_END_V leg) < 2 * i (Item.GATE.VON leg) - i (Item.GATE.HOLD_DV leg) + 2 * (i (Item.GATE.VOFF leg)).natAbs)
    && rising [i (Item.GATE.IBAND_1 leg), i (Item.GATE.IBAND_2 leg), i (Item.GATE.IBAND_3 leg)]
    && decide (i (Item.GATE.IBAND_3 leg) < i (Item.LEG.OC_POS leg)) && decide (i (Item.GATE.IBAND_3 leg) < i (Item.LEG.OC_NEG leg))

/-- The short-pulse threshold of a band against the period (R209, R211), and PHASE_0 of a timed carrier. -/
def shortOk (e : Nat → Word) (ty n : Nat) : Bool :=
  let p := if e (Item.PWM.PERIOD_SRC n) = 0 then (e (Item.PWM.PERIOD n)).toNat else (periodRange ty).1
  (List.range 4).all (fun k =>
      let d := deadTimesOf (e (Item.PWM.DT_B n k))
      decide (2 * Nat.max (Nat.max d.1 d.2) (bitsOf (e (Item.PWM.MIN_PULSE n)) (8 * k + 7) (8 * k) * 64) < p))
    && (decide (e (Item.PWM.MODE n) = 0) || decide (e (Item.PWM.PHASE n 0) = 0))

/-- The offset of a trigger that refers to a period start (R214). -/
def triggerOk (e : Nat → Word) (n k : Nat) : Bool :=
  let c := bitsOf (e (Item.PWM.TRIG_REF n k)) 15 12
  !(decide (c = 1 ∨ c = 2)) || decide (0 ≤ (e (Item.PWM.TRIG_OFS n k)).toInt)

/-- OUT_MODE 2 of a lane asks for a carrier whose period group-writes set (R286). -/
def outModeOk (s : State) (e : Nat → Word) (lane : Nat) : Bool :=
  let n := s.bind.loopSheaf.getD lane 15
  decide (e (Item.LOOP.OUT_MODE lane) ≠ 2) || decide (12 ≤ n) || decide (s.regN (Item.LOOP.TYPE lane) = 7)
    || decide (e (Item.PWM.PERIOD_SRC n) = 1)

/-- The duty limit of the isolated converter's lane (R360). -/
def auxDutyOk (s : State) (e : Nat → Word) : Bool :=
  match s.bind.sheafOfType SType.auxi with
  | none => true
  | some n => (List.range 4).all (fun k =>
      F32.le (e (Item.LOOP.OUT_MAX 12))
        (F32.ofRat ((e (Item.PWM.PERIOD n)).toNat - 2 * ((deadTimesOf (e (Item.PWM.DT_B n k))).1 : Int)) (2 * (e (Item.PWM.PERIOD n)).toNat)))

/-- The mode of the traction sheaf and the output mode of lane 6 (R307). -/
def tractionModeOk (e : Nat → Word) : Bool :=
  if e Item.TRC.MODE = 0 then decide (e (Item.LOOP.OUT_MODE 6) = 0) else decide (e (Item.LOOP.OUT_MODE 6) = 1)

/-- The traction items that the supervisor's limits and the tables bound (R306, R316, R418). -/
def tractionOk (e : Nat → Word) : Bool :=
  let v (a : Nat) : Nat := (e a).toNat
  notFalling ((List.range 8).map (fun k => v (Item.TRC.FW_SPD k))) && notFalling ((List.range 8).map (fun k => v (Item.TRC.DRAG_SPD k)))
    && decide (v Item.TRC.SPD_MAX_FWD < v Item.SAFE.SLS_LIMIT) && decide (v Item.TRC.SPD_MAX_REV < v Item.SAFE.SLS_LIMIT)
    && decide (v Item.TRC.CREEP_VMAX < v Item.SAFE.SLS_CREEP) && decide (v Item.TRC.BENCH_VMAX < v Item.SAFE.SLS_BENCH)
    && tractionModeOk e

/-- The charger's zones and steps (Table 12-11). -/
def chargerOk (e : Nat → Word) : Bool :=
  let v (a : Nat) : Nat := (e a).toNat
  rising ((List.range 3).map (fun k => (e (Item.CHG.ZONE_T k)).toInt))
    && (List.range 4).all (fun z => (List.range 3).all (fun k =>
        let j := 4 * z + k
        decide (v (Item.CHG.STEP_I (j + 1)) ≤ v (Item.CHG.STEP_I j))
          && (decide (v (Item.CHG.STEP_I (j + 1)) = 0) || decide (v (Item.CHG.STEP_V j) < v (Item.CHG.STEP_V (j + 1))))))

/-- The voltages of the auxiliary converters (Tables 13-8 and 13-9). -/
def auxOk (e : Nat → Word) : Bool :=
  let v (a : Nat) : Nat := (e a).toNat
  decide (v Item.AUX.V48_REF < v Item.AUX.V48_OV) && decide (v Item.AUX.V48_MIN ≤ v Item.AUX.V48_REF)
    && decide (v Item.AUX.V12_REF < v Item.AUX.V12_OV)

/-- The positions of an actuator (R402, R418, Table 14-7); a detent that is no finite number is not defined. -/
def actuatorOk (e : Nat → Word) (k : Nat) : Bool :=
  let lo := e (Item.ACT.POS_MIN k)
  let hi := e (Item.ACT.POS_MAX k)
  let turns (a : Nat) : Word := F32.ofRat (e a).toInt 1000
  F32.lt lo hi && F32.lt (e (Item.ACT.SPAN_MIN k)) (e (Item.ACT.SPAN_MAX k))
    && (List.range 8).all (fun j =>
        let p := e (Item.ACT.POS k j)
        !F32.finite p || (F32.lt lo p && F32.lt p hi))
    && F32.le (turns (Item.SAFE.SLP_ACT_MIN k)) lo && F32.le hi (turns (Item.SAFE.SLP_ACT_MAX k))

/-- The temperatures of thermal management (chapter Thermal Management). -/
def thermalOk (e : Nat → Word) : Bool :=
  let i (a : Nat) : Int := (e a).toInt
  decide (i Item.THM.DERATE_T < i Item.THM.STOP) && decide (i Item.THM.WARN < i Item.THM.STOP)
    && decide (i Item.THM.RESUME < i Item.THM.STOP)

/-- An open-wire mask against the enabled sequences of its converter (R243), and the limits of its inputs (Table 8-9). -/
def converterOk (e : Nat → Word) (n : Nat) : Bool :=
  let listed (i : Nat) : Bool := (List.range 8).any (fun q =>
    let w := e (Item.ADCF.SEQ n q)
    (List.range (bitsOf w 27 24)).any (fun j => decide (bitsOf w (3 * j + 2) (3 * j) = i)))
  (List.range 8).all (fun i => (!bitOf (e (Item.ADCF.OW_MASK n)) i || !listed i)
    && decide ((e (Item.ADCF.LIM_LO n i)).toInt ≤ (e (Item.ADCF.LIM_HI n i)).toInt))

/-- The windows and compare units of a port (R268, Table 9-9); the hysteresis counts for a unit that is enabled (assumption
log 71). -/
def portOk (e : Nat → Word) (n : Nat) : Bool :=
  let v (a : Nat) : Nat := (e a).toNat
  decide (v (Item.POS.EXC_IMIN n) < v (Item.POS.EXC_IMAX n)) && decide (v (Item.POS.SUP_IMIN n) < v (Item.POS.SUP_IMAX n))
    && (List.range 2).all (fun c => decide (v (Item.POS.CMP_STEP n c) = 0)
        || decide (v (Item.POS.CMP_HYST n c) < v (Item.POS.CMP_STEP n c)))

/-- The constraints that an item takes part in hold under the values `e` (R137). -/
def State.agrees (s : State) (e : Nat → Word) (a : Nat) : Bool :=
  let n := Item.inst a
  let i := Item.num a
  match Item.group a with
  | 0x09 =>
    if i = 0x00B then (match s.bind.sheafOfLeg n with | some m => interlockOk e m n | none => true)
    else if i = 0x009 ∨ i = 0x00A then gateOk e n
    else true
  | 0x0A => if i = 0x001 ∨ i = 0x002 ∨ i = 0x006 ∨ i = 0x007 ∨ (0x00B ≤ i ∧ i ≤ 0x00D) then gateOk e n else true
  | 0x0B =>
    let timing := decide (i = 0x002 ∨ i = 0x003 ∨ (0x007 ≤ i ∧ i ≤ 0x00B) ∨ i = 0x001 ∨ i = 0x020)
    (!timing || (shortOk e (s.stype n) n && (s.bind.legsOf n).all (interlockOk e n) && auxDutyOk s e))
      && (if i = 0x003 then (s.lanesOf n).all (outModeOk s e) else true)
      && (if 0x040 ≤ i ∧ i < 0x050 then triggerOk e n (i % 8) else true)
  | 0x0C => if i = 0x00D ∨ (0x058 ≤ i ∧ i < 0x068) then converterOk e n else true
  | 0x0D => if i = 0x037 ∨ i = 0x038 then decide ((e (Item.ADCI.ISO_LIMIT n)).toNat < (e (Item.ADCI.ISO_WARN n)).toNat) else true
  | 0x0E => if i = 0x00C ∨ i = 0x00D ∨ i = 0x02C ∨ i = 0x02D ∨ (0x030 ≤ i ∧ i < 0x040) then portOk e n else true
  | 0x10 =>
    (if i = 0x030 ∨ i = 0x031 then F32.lt (e (Item.LOOP.OUT_MIN n)) (e (Item.LOOP.OUT_MAX n)) else true)
      && (if i = 0x030 ∧ n = 12 then auxDutyOk s e else true)
      && (if i = 0x032 then outModeOk s e n && (decide (n ≠ 6) || tractionModeOk e) else true)
  | 0x12 => tractionOk e
  | 0x13 => if (0x027 ≤ i ∧ i ≤ 0x029) ∨ (0x030 ≤ i ∧ i ≤ 0x04F) then chargerOk e else true
  | 0x14 => auxOk e
  | 0x15 => actuatorOk e n
  | 0x1B => thermalOk e
  | _ => true

/-! ## Which set a write takes effect in, and what fails it -/

/-- Whether an item of a write goes into the shadow set (R148). -/
def toShadow (aw : Word) : Bool :=
  match Catalogue.find (bitsOf aw 23 0) with
  | some d => decide (d.cls = .S) || (decide (d.cls = .O) && bitOf aw 31)
  | none => false

/-- Check 8 of Table 5-3 for one item. -/
def State.crossOk (s : State) (items : List (Word × Word)) (aw : Word) : Bool :=
  s.agrees (s.effective items (toShadow aw)) (bitsOf aw 23 0)

/-- Completion reasons of chapters that refuse a write for the state of a block. -/
abbrev Reason.cmpSource : Nat := 64
abbrev Reason.inputInUse : Nat := 65
abbrev Reason.urgAlone : Nat := 66
abbrev Reason.portInUse : Nat := 67
abbrev Reason.laneActive : Nat := 68
abbrev Reason.ascHeld : Nat := 69
abbrev Reason.setBusy : Nat := 70
abbrev Reason.minSets : Nat := 71
abbrev Reason.trcMode : Nat := 72
abbrev Reason.auxOwned : Nat := 80
abbrev Reason.phaseBusy : Nat := 81
abbrev Reason.minPhases : Nat := 82
abbrev Reason.thermalHold : Nat := 90
abbrev Reason.ctrlInUse : Nat := 91
abbrev Reason.fwTrial : Nat := 92
abbrev Reason.fwImage : Nat := 93
abbrev Reason.reqAlone : Nat := 94

/-- Whether a lane may be opened, or winnowed, now (R291): it is OPEN already, at rest for eight computations, or no leg of its group is
active. -/
def State.laneAtRest (s : State) (n : Nat) : Bool :=
  let g := s.regN (Item.LOOP.GROUP n)
  !s.laneClosed n || decide (8 ≤ (s.lane n).restRun)
    || (decide (g < 15) && !(s.groupLegs (s.bind.loopSheaf.getD n 15) g).any s.legActive)

/-- The valid spare firmware slot (R508), if any. -/
def State.spareSlot (s : State) : Option Nat :=
  [0, 1].find? (fun k => decide (s.store.fwState.getD k 0 = 1) && decide (s.store.fwFloor ≤ s.store.fwVersion.getD k 0))

/-- Whether STANDBY or SERVICE stands. -/
def State.atRest' (s : State) : Bool := decide (s.dev.state = .standby ∨ s.dev.state = .service)

/-- What the state of its block refuses of a write, after Table 5-3: the reason of an INVALID completion, 0 for none. -/
def State.blockReason (s : State) (items : List (Word × Word)) (aw w : Word) : Nat :=
  let a := bitsOf aw 23 0
  let n := Item.inst a
  let i := Item.num a
  match Item.group a with
  | 0x01 =>
    if a = Item.DEV.SO_USER then
      if (List.range 8).any (fun k => bitOf w k && decide (s.regN (Item.SOUT.OWNER k) ≠ 3)) then Reason.range else 0
    else 0
  | 0x0B => if 0x060 ≤ i ∧ i ≤ 0x071 ∧ s.regN (Item.PWM.CMP_SRC n) = 0 then Reason.cmpSource else 0
  | 0x0D => if i = 0x00E ∧ 1 < items.length then Reason.urgAlone else 0
  | 0x10 =>
    if i = 0x005 ∧ w = 0 ∧ !s.laneAtRest n then Reason.laneActive
    else if i = 0x034 ∧ (n = 12 ∨ n = 13)
        ∧ (s.stype (s.bind.loopSheaf.getD n 15) = SType.auxi ∨ s.stype (s.bind.loopSheaf.getD n 15) = SType.auxb) then Reason.auxOwned
    else 0
  | 0x1C => if i = 0x014 ∧ s.regN (Item.CAN.STATE n) ≠ 4 then Reason.state else 0
  | 0x1E =>
    if i = 0x016 then
      if s.atRest' ∧ s.store.fwState.getD s.store.fwRun 0 = 4 then 0 else Reason.state
    else if i = 0x017 then
      if s.atRest' ∧ s.spareSlot.isSome then 0 else Reason.state
    else 0
  | _ => 0

/-- The first failing check of one item: Table 5-3, then the refusals of its block. -/
def State.itemFails (s : State) (slot : Nat) (items : List (Word × Word)) (aw w : Word) : Option (Nat × Nat) :=
  match s.checkItem slot aw w with
  | some f => some f
  | none =>
    if !s.crossOk items aw then some (Code.invalid, Reason.range)
    else
      let r := s.blockReason items aw w
      if r = 0 then none else some (Code.invalid, r)

/-- The first failing item of a command (R123, R142): its index, code and reason. -/
def State.firstFailure (s : State) (slot : Nat) (items : List (Word × Word)) : List (Word × Word) → Nat → Option (Nat × Nat × Nat)
  | [], _ => none
  | p :: t, i =>
    match s.itemFails slot items p.1 p.2 with
    | some (c, r) => some (i, c, r)
    | none => s.firstFailure slot items t (i + 1)

/-- The items that must stand alone (R529); an address word with bits [30:24] set names none of them (R132). -/
def alone (aw : Word) : Bool :=
  decide (bitsOf aw 30 24 = 0) && decide (bitsOf aw 23 0 ∈ [Item.DEV.MODE_REQ, Item.DEV.HV_REQ, Item.DEV.SO_USER])

/-! ## What a write sets off -/

/-- A write of a traction generator's VMAX, or of the speed reference, above the cap of CREEP and BENCH takes effect at the cap and sets
bit 5 of LIMIT_CAUSE (R308). -/
def State.capWrite (s : State) (aw w : Word) : State × Word :=
  let a := bitsOf aw 23 0
  let vmax := Item.group a = 0x11 && decide (Item.num a = 0x005)
    && decide (s.trcSheaf = some (s.bind.profSheaf.getD (Item.inst a) 15))
  let ref := decide (a = Item.LOOP.SETPT_A 6) && s.trcSheaf.isSome
  match s.modeCap with
  | none => (s, w)
  | some c =>
    let cap := F32.ofInt c
    if (vmax || ref) && F32.lt cap (F32.abs w) then
      (s.setReg Item.TRC.LIMIT_CAUSE (s.reg Item.TRC.LIMIT_CAUSE ||| 0x20), if F32.lt w 0 then F32.neg cap else cap)
    else (s, w)

/-- The window items of a controller take the selected object (R483). -/
def State.showObject (s : State) (n : Nat) (w : Word) : State :=
  let o := (s.can n).object (bitsOf w 6 0)
  let half := if bitOf w 7 then 32 else 0
  let b (x : Bool) (k : Nat) : Nat := if x then 2 ^ k else 0
  let stat := nw (b o.valid 31 + b o.pending 30 + b o.esi 29 + b o.poisoned 27 + o.clash % 4 * 65536 + o.data.length % 128)
  (s.setRegs [(Item.CAN.OBJ_CFG n, o.cfg), (Item.CAN.OBJ_ID n, o.ident), (Item.CAN.OBJ_MASK n, o.mask), (Item.CAN.OBJ_STAT n, stat),
      (Item.CAN.OBJ_T n, o.stamp), (Item.CAN.OBJ_PERIOD n, nw o.period)]).setRegs
    ((List.range 8).map (fun k => (Item.CAN.OBJ_D n k, nw (beAt (padTo 64 o.data) (half + 4 * k) 4))))

/-- SVC.FW_CONFIRM (R508): the running trial becomes ACTIVE, the other valid slot SPARE, the firmware floor rises to the running header's
FLOOR. -/
def State.confirmFirmware (s : State) (slot : Nat) : State :=
  let k := s.store.fwRun
  let other := 1 - k
  let s1 := s.setFwState k 2
  let s2 := if s.store.fwState.getD other 0 ∈ [1, 2, 3] then s1.setFwState other 1 else s1
  let floor := s.fwField k 0xC 4
  let s3 := s2.serviceLog 8 slot 0 (nw (s.store.fwVersion.getD k 0))
  if s3.store.fwFloor < floor then
    { s3 with store := { s3.store with fwFloor := floor } }.serviceLog 10 0xFF 1 (nw floor)
  else s3

/-- SVC.FW_SELECT (R508): the valid spare becomes PENDING. -/
def State.selectFirmware (s : State) (slot : Nat) : State :=
  match s.spareSlot with
  | some k => (s.setFwState k 3).serviceLog 8 slot 1 (nw (s.store.fwVersion.getD k 0))
  | none => s

/-- What the delivery of one item does besides its value. -/
def State.delivered (s : State) (slot : Nat) (aw w : Word) : State :=
  let a := bitsOf aw 23 0
  let n := Item.inst a
  let i := Item.num a
  let now := s.time.now
  match Item.group a with
  | 0x01 =>
    if a = Item.DEV.SO_USER then
      s.forEach ((List.range 8).filter (fun k => decide (s.regN (Item.SOUT.OWNER k) = 3))) (fun t k => t.outRequest k (bitOf w k))
    else s
  | 0x02 => if isKey a then s.serviceLog 9 slot n 0 else s
  | 0x0C => if i = 0x010 then
      ({ s with events := s.events ++ [.convert n w.toNat (s.crossTick + 1)] } : State).useFree.takeTriggers n (s.crossTick + 1)
    else s
  | 0x11 =>
    let s1 := if i = 0x002 ∨ i = 0x003 ∨ i = 0x00C then s.setReg (Item.PROF.STATUS n) (s.reg (Item.PROF.STATUS n) &&& 0xFFFFFFFE) else s
    if s1.trcSheaf = some (s1.bind.profSheaf.getD n 15) then { s1 with trac := { s1.trac with requestAt := now, lost := false } } else s1
  | 0x10 =>
    if i = 0x034 ∧ n = 6 ∧ s.trcSheaf.isSome then
      { s with trac := { s.trac with requestAt := now, lost := false } }
    else s
  | 0x12 =>
    if isBatteryLimit a then { s with trac := { s.trac with limitAt := now, fallback := false } }.restartWatchdog else s
  | 0x13 => if isBatteryLimit a then s.restartWatchdog else s
  | 0x1C =>
    if i = 0x014 then s.canRecover n
    else if i = 0x020 then s.showObject n w
    else s
  | 0x1E => if i = 0x016 then s.confirmFirmware slot else if i = 0x017 then s.selectFirmware slot else s
  | _ => s

/-- Whether an item's word is a request only: a write-only item, whose value nothing holds but the keys. DEDUCED: assumption log 89. -/
def requestOnly (a : Nat) : Bool :=
  match Catalogue.find a with
  | some d => decide (d.acc = .wo) && !isKey a
  | none => false

/-- Delivering one item with what it sets off. -/
def State.deliverItem (s : State) (slot : Nat) (p : Word × Word) : State :=
  let c := s.capWrite p.1 p.2
  let s1 := if requestOnly (bitsOf p.1 23 0) then c.1 else c.1.deliver p.1 c.2
  (s1.delivered slot p.1 p.2).bump Item.DEV.PARAM_WR_CNT

/-- The HOST_CMP items of one PARAM_WRITE form one batch of each running sheaf (R145, R205); one delivered on the tick of the sheaf reload
counts as late for each group it touches (R202). -/
def State.hostBatches (s : State) (items : List (Word × Word)) : State :=
  s.forEach (List.range 12) (fun t n =>
    let mine := items.filterMap (fun p =>
      let a := bitsOf p.1 23 0
      if Item.group a = 0x0B ∧ Item.inst a = n ∧ 0x060 ≤ Item.num a ∧ Item.num a ≤ 0x071 then some (Item.num a - 0x060, bitsOf p.2 26 0)
      else none)
    if mine = [] ∨ (t.sheaf n).state ≠ .run then t
    else
      let c := t.carrier n
      let groups := (mine.map (fun p => t.groupOf n (t.bind.firstOf n + p.1))).dedup
      let t1 := if 0 < c.count ∧ c.start / 32 = t.tick then t.forEach groups (fun u _ => u.bump (Item.PWM.LATE_CNT n)) else t
      t1.setCarrier n { c with host := c.host ++ [(t.tick, mine)] })

/-! ## Device states -/

/-- Refusing a request for a device state (R81): the reason stands in DEV.MODE_REASON too. -/
def State.refuseMode (s : State) (slot index reason : Nat) : State :=
  (s.setReg Item.DEV.MODE_REASON (nw reason)).complete slot index Code.invalid reason (beBytes 2 0 ++ [0, 0])

/-- A change of state made (Table 3-6). The park proof that CHARGE was entered with is held from then on (R401). -/
def State.changeMode (s : State) (slot index : Nat) (t : DevState) : State :=
  let s1 := (s.setReg Item.DEV.MODE_REASON 0).enterState t
  let s2 := match t, s.parkActuator with
    | .charge, some k => s1.setActuator k { s1.actuator k with proved := true }
    | _, _ => s1
  s2.ok slot index []

/-- A sheaf that stands READY. -/
def State.sheafReady (s : State) (n : Nat) : Bool := decide ((s.sheaf n).state = .ready)

/-- The first condition of Table 3-6 that a request for DRIVE fails; 0 where none does. Of several that fail at once the order tried here
gives the reason. DESIGN CHOICE: assumption log 106. -/
def State.driveCheck (s : State) : Nat :=
  match s.trcSheaf with
  | none => Reason.notReady
  | some n =>
    if !s.sheafReady n then Reason.notReady
    else if !s.dev.pathPassed then Reason.pathTest
    else if !(s.sup.stoA && s.sup.stoB) then Reason.sto
    else if s.cable then Reason.cable
    else 0

/-- The first condition of Table 3-6 that a request for CHARGE fails, in the order tried here (R16, R267). DESIGN CHOICE: assumption
log 106. -/
def State.chargeCheck (s : State) : Nat :=
  match s.chgf with
  | none => Reason.notReady
  | some n =>
    if !s.sheafReady n ∨ !s.bridges.any s.sheafReady then Reason.notReady
    else if !(match s.parkActuator with | some k => s.parkProved k | none => false) then Reason.park
    else if s.driveFast then Reason.speed
    else if !s.cable then Reason.cable
    else 0

/-- The first condition that a request for a device state fails (Tables 3-6 and 3-7); 0 where none does. -/
def State.modeCheck (s : State) (w : Word) : Nat :=
  match w.toNat, s.dev.state with
  | 2, .drive => 0
  | 2, .charge => 0
  | 2, .service => 0
  | 2, .safe => if s.safeCause then Reason.safeCause else 0
  | 3, .standby => s.driveCheck
  | 4, .standby => s.chargeCheck
  | 5, .standby => 0
  | 3, .charge => Reason.exclusive
  | 4, .drive => Reason.exclusive
  | _, _ => Reason.state

/-- A request for STANDBY (Table 3-6, R501): from DRIVE after the traction ramp-down, from CHARGE after the hand-over, from SERVICE after the
orderly stops, from SAFE at once. -/
def State.requestStandby (s : State) (slot index : Nat) : State :=
  let q (t : State) : State := t.addSequence .mode [unitOf Kind.device 0] slot index 2
  match s.dev.state with
  | .drive =>
    let s1 := q s
    (match s1.trcSheaf with | some n => s1.orderlyStop n false | none => s1).finishExit
  | .charge => (q s).stopSession 8
  | .service =>
    let s1 := q { s with dev := { s.dev with exiting := some (slot, 0) } }
    (s1.forEach ((List.range 12).filter (fun n => decide ((s1.sheaf n).state = .run) && !standbyType (s1.stype n)))
      (fun t n => t.orderlyStop n false)).finishExit
  | _ => s.releaseSheaves.changeMode slot index .standby

/-- A request for a device state whose conditions hold. -/
def State.enactMode (s : State) (slot index : Nat) (w : Word) : State :=
  match w.toNat with
  | 3 => s.changeMode slot index .drive
  | 4 => s.changeMode slot index .charge
  | 5 => ({ s with dev := { s.dev with serviceHost := some slot } }.serviceLog 1 slot 0 0).changeMode slot index .service
  | _ => s.requestStandby slot index

/-- A request for a device state (R81, R500, R509): refused while another change is in progress, and for DRIVE and CHARGE while the
running firmware is on trial. DEDUCED: assumption log 87. -/
def State.doModeReq (s : State) (slot index : Nat) (w : Word) : State :=
  if s.seqs.any (fun q => decide (q.kind = .mode)) ∨ s.dev.exiting.isSome then s.refuseMode slot index Reason.state
  else if (w = 3 ∨ w = 4) ∧ s.store.fwState.getD s.store.fwRun 0 = 4 then
    s.complete slot index Code.invalid Reason.fwTrial (beBytes 2 0 ++ [0, 0])
  else if s.modeCheck w ≠ 0 then s.refuseMode slot index (s.modeCheck w)
  else (s.deliverItem slot (nw Item.DEV.MODE_REQ, w)).enactMode slot index w

/-- A request for the HV connection (R420): connected through battery-connection step 2 of Table 12-7, released at once.
DEDUCED: assumption log 88. -/
def State.doHvReq (s : State) (slot index : Nat) (w : Word) : State :=
  let go := s.deliverItem slot (nw Item.DEV.HV_REQ, w)
  if w = 1 then
    if s.dev.state = .standby ∨ s.dev.state = .drive ∨ s.dev.state = .service then
      if s.contactorsClosed then go.ok slot index []
      else if s.hv.isSome then go.addSequence .hvConnect [unitOf Kind.device 0] slot index 0
      else
        let s1 := (go.requestAs 0 1 true).requestAs 0 2 true
        { s1 with hv := some (s1.time.now, false) }.addSequence .hvConnect [unitOf Kind.device 0] slot index 0
    else s.complete slot index Code.invalid Reason.state (beBytes 2 0 ++ [0, 0])
  else
    let s1 := (go.requestAs 0 0 false).requestAs 0 1 false
    let s2 := if s1.hv.isSome then { s1.requestAs 0 2 false with hv := none } else s1
    (s2.endSequences (fun q => decide (q.kind = .hvConnect)) Code.aborted Reason.none (fun _ => [])).ok slot index []

/-- An urgent conversion (R237): at once on an idle periodic converter; dropped while a window runs, one that ends at this instant
included, in continuous mode, and on ADCI[0] while mains is locked. -/
def State.doUrgent (s0 : State) (slot index n : Nat) (w : Word) : State :=
  let s := s0.rollWindow n 5
  let c := s.slow n
  if c.window.isSome ∨ c.ended = some s.time.now ∨ s.regN (Item.ADCI.SCAN_MODE n) = 0 ∨ (n = 0 ∧ s.mainsLocked) then
    (s.bump (Item.ADCI.URG_DROP n)).complete slot index Code.dropped Reason.none []
  else
    ((s.setSlow n { c with window := some s.time.now, mains := false, urgent := some w.toNat }).bump Item.DEV.PARAM_WR_CNT).ok slot index []

/-! ## The command -/

/-- The sheaves for whose pending SWAP items of a write are held (R94, R151). -/
def State.awaited (s : State) (items : List (Word × Word)) : List Nat :=
  (items.filterMap (fun p =>
    let a := bitsOf p.1 23 0
    match Catalogue.find a with
    | some d => if d.cls = .S ∨ d.cls = .O then s.swapHolds a else none
    | none => none)).dedup

/-- The delivery of the items of a write: the command waits only for those that a pending SWAP holds (R94, R143). -/
def State.finishWrite (s : State) (slot index : Nat) (items : List (Word × Word)) : State :=
  let waits := s.awaited items
  let s1 := (s.forEach items (fun t p => t.deliverItem slot p)).hostBatches items
  if waits = [] then s1.ok slot index []
  else s1.addSequence .write (waits.map (unitOf Kind.sheaf)) slot index 0

/-- A write whose checks have all passed (R123, R143): a request takes its own course; other items are delivered. -/
def State.applyWrite (s : State) (slot index : Nat) (items : List (Word × Word)) : State :=
  match items with
  | [(aw, w)] =>
    let a := bitsOf aw 23 0
    if a = Item.DEV.MODE_REQ then s.doModeReq slot index w
    else if a = Item.DEV.HV_REQ then s.doHvReq slot index w
    else if Item.group a = 0x0D ∧ Item.num a = 0x00E then s.doUrgent slot index (Item.inst a) w
    else s.finishWrite slot index items
  | _ => s.finishWrite slot index items

/-- A write that fails: nothing is written, and a refused request for a state leaves its reason (R81, R82, R123). -/
def State.failWrite (s : State) (slot index i code reason : Nat) (items : List (Word × Word)) : State :=
  let mode := items.any (fun p => decide (bitsOf p.1 23 0 = Item.DEV.MODE_REQ))
  let s1 := if mode ∧ reason = Reason.rights then s.setReg Item.DEV.MODE_REASON (nw reason) else s
  s1.complete slot index code reason (beBytes 2 i ++ [0, 0])

/-- PARAM_WRITE's work (R123, R142, R529). -/
def State.doWrite (s : State) (slot index : Nat) (m : HostMsg) : State :=
  let n := m.payload.length
  let items := writeItems m
  if n % 8 ≠ 0 ∨ n = 0 ∨ 512 < n then s.invalid slot index Reason.range
  else
    match (if 1 < items.length then items.findIdx? (fun p => alone p.1) else none) with
    | some i => s.failWrite slot index i Code.invalid Reason.reqAlone items
    | none =>
      match s.firstFailure slot items items 0 with
      | some (i, c, r) => s.failWrite slot index i c r items
      | none => s.applyWrite slot index items

/-! ## Rows: every one is the PARAM_WRITE of a tag, the special ones of a command that holds their item (assumption log 72) -/

/-- A PARAM_WRITE that holds an item with a value of a kind. -/
def asks (a : Nat) (p : Word → Prop) [DecidablePred p] (m : HostMsg) : Bool :=
  (writeItems m).any (fun x => decide (bitsOf x.1 23 0 = a) && decide (p x.2))

/-- A PARAM_WRITE that holds one of a group's items, of any instance. -/
def asksIn (g lo hi : Nat) (m : HostMsg) : Bool :=
  (writeItems m).any (fun x =>
    let a := bitsOf x.1 23 0
    decide (Item.group a = g) && decide (lo ≤ Item.num a) && decide (Item.num a ≤ hi))

/-- A PARAM_WRITE that holds LOOP[n].CLOSE with a value. -/
def asksLane (w : Word) (m : HostMsg) : Bool :=
  (writeItems m).any (fun x =>
    let a := bitsOf x.1 23 0
    decide (Item.group a = 0x10) && decide (Item.num a = 0x005) && decide (x.2 = w))

/-- A row that runs a PARAM_WRITE of the kind a test picks. -/
def State.writeRow (s : State) (slot index : Nat) (is : HostMsg → Bool) : State :=
  s.hostRow slot index (fun m => decide (op m = Op.paramWrite) && is m) (fun u m => u.doWrite slot index m)

/-- PARAM_WRITE (R123, R142, R143, R529). DESIGN CHOICE: assumption log 72. -/
def execParamWrite (slot : Fin 8) (index : Fin 64) (s : State) : Host.Outcome State Fault Refusal :=
  .next (s.act (fun t => t.writeRow slot index (fun _ => true)))

/-- MODE_REQ_DRIVE (R81, R82): a PARAM_WRITE of DRIVE to DEV.MODE_REQ. -/
def execModeReqDrive (slot : Fin 8) (index : Fin 64) (s : State) : Host.Outcome State Fault Refusal :=
  .next (s.act (fun t => t.writeRow slot index (asks Item.DEV.MODE_REQ (fun w => w = 3))))

/-- MODE_REQ_CHARGE (R81, R82). -/
def execModeReqCharge (slot : Fin 8) (index : Fin 64) (s : State) : Host.Outcome State Fault Refusal :=
  .next (s.act (fun t => t.writeRow slot index (asks Item.DEV.MODE_REQ (fun w => w = 4))))

/-- MODE_REQ_SERVICE (R500). -/
def execModeReqService (slot : Fin 8) (index : Fin 64) (s : State) : Host.Outcome State Fault Refusal :=
  .next (s.act (fun t => t.writeRow slot index (asks Item.DEV.MODE_REQ (fun w => w = 5))))

/-- MODE_REQ_STANDBY (R81, R501). -/
def execModeReqStandby (slot : Fin 8) (index : Fin 64) (s : State) : Host.Outcome State Fault Refusal :=
  .next (s.act (fun t => t.writeRow slot index (asks Item.DEV.MODE_REQ (fun w => w = 2))))

/-- HV_CONNECT (R420). -/
def execHvConnect (slot : Fin 8) (index : Fin 64) (s : State) : Host.Outcome State Fault Refusal :=
  .next (s.act (fun t => t.writeRow slot index (asks Item.DEV.HV_REQ (fun w => w = 1))))

/-- HV_DISCONNECT (R420). -/
def execHvDisconnect (slot : Fin 8) (index : Fin 64) (s : State) : Host.Outcome State Fault Refusal :=
  .next (s.act (fun t => t.writeRow slot index (asks Item.DEV.HV_REQ (fun w => w = 0))))

/-- SO_USER_WRITE (R421). -/
def execSoUserWrite (slot : Fin 8) (index : Fin 64) (s : State) : Host.Outcome State Fault Refusal :=
  .next (s.act (fun t => t.writeRow slot index (asks Item.DEV.SO_USER (fun _ => True))))

/-- DIR_PERMIT_WRITE (R414): the supervisor takes the new direction at its next evaluation. -/
def execDirPermitWrite (slot : Fin 8) (index : Fin 64) (s : State) : Host.Outcome State Fault Refusal :=
  .next (s.act (fun t => t.writeRow slot index (asks Item.DEV.DIR_PERMIT (fun _ => True))))

/-- URG_REQ (R237). -/
def execUrgReq (slot : Fin 8) (index : Fin 64) (s : State) : Host.Outcome State Fault Refusal :=
  .next (s.act (fun t => t.writeRow slot index (asksIn 0x0D 0x00E 0x00E)))

/-- SW_TRIG (R226). -/
def execSwTrig (slot : Fin 8) (index : Fin 64) (s : State) : Host.Outcome State Fault Refusal :=
  .next (s.act (fun t => t.writeRow slot index (asksIn 0x0C 0x010 0x010)))

/-- LANE_CLOSE (R289): LOOP[n].CLOSE written 1. -/
def execLaneClose (slot : Fin 8) (index : Fin 64) (s : State) : Host.Outcome State Fault Refusal :=
  .next (s.act (fun t => t.writeRow slot index (asksLane 1)))

/-- LANE_OPEN (R290, R291): LOOP[n].CLOSE written 0. -/
def execLaneOpen (slot : Fin 8) (index : Fin 64) (s : State) : Host.Outcome State Fault Refusal :=
  .next (s.act (fun t => t.writeRow slot index (asksLane 0)))

/-- HOST_CMP_WRITE (R205). -/
def execHostCmpWrite (slot : Fin 8) (index : Fin 64) (s : State) : Host.Outcome State Fault Refusal :=
  .next (s.act (fun t => t.writeRow slot index (asksIn 0x0B 0x060 0x071)))

/-- SHOOT_CLEAR (R181): LEG[n].SHOOT written 0. -/
def execShootClear (slot : Fin 8) (index : Fin 64) (s : State) : Host.Outcome State Fault Refusal :=
  .next (s.act (fun t => t.writeRow slot index (asksIn 0x09 0x00C 0x00C)))

/-- BO_RECOVER (R484). -/
def execBoRecover (slot : Fin 8) (index : Fin 64) (s : State) : Host.Outcome State Fault Refusal :=
  .next (s.act (fun t => t.writeRow slot index (asksIn 0x1C 0x014 0x014)))

/-- IDCLASH_CLEAR (R486): CAN[n].IDCLASH written 0. -/
def execIdclashClear (slot : Fin 8) (index : Fin 64) (s : State) : Host.Outcome State Fault Refusal :=
  .next (s.act (fun t => t.writeRow slot index (asksIn 0x1C 0x019 0x019)))

/-- OBJ_SEL (R483). -/
def execObjSel (slot : Fin 8) (index : Fin 64) (s : State) : Host.Outcome State Fault Refusal :=
  .next (s.act (fun t => t.writeRow slot index (asksIn 0x1C 0x020 0x020)))

/-- JRN_SEL (R454): the record that FLT.JRN_W0 to JRN_W4 show. -/
def execJrnSel (slot : Fin 8) (index : Fin 64) (s : State) : Host.Outcome State Fault Refusal :=
  .next (s.act (fun t => t.writeRow slot index (asksIn 0x1A 0x004 0x004)))

/-- LOG_SEL (R510): the entry that SVC.LOG_W0 to LOG_W3 show. -/
def execLogSel (slot : Fin 8) (index : Fin 64) (s : State) : Host.Outcome State Fault Refusal :=
  .next (s.act (fun t => t.writeRow slot index (asksIn 0x1E 0x021 0x021)))

/-- FW_CONFIRM (R508). -/
def execFwConfirm (slot : Fin 8) (index : Fin 64) (s : State) : Host.Outcome State Fault Refusal :=
  .next (s.act (fun t => t.writeRow slot index (asksIn 0x1E 0x016 0x016)))

/-- FW_SELECT (R508). -/
def execFwSelect (slot : Fin 8) (index : Fin 64) (s : State) : Host.Outcome State Fault Refusal :=
  .next (s.act (fun t => t.writeRow slot index (asksIn 0x1E 0x017 0x017)))

end Sys2Proof.Machine
end

