-- ==== Sys2Proof/Machine/Services.lean ====
section
/-! DEFINITION. The commands that test and service units: PROVE, WINNOW, RESTORE, SELFTEST, FORCE (chapters Start-up, Faults and
Recovery, Service, and the rules of each unit's chapter). -/

namespace Sys2Proof.Machine

/-- The unit that PROVE, WINNOW and RESTORE act on: the set of a traction leg (R300), else the unit addressed. -/
def State.serviceUnit (s : State) (u : Nat) : Nat :=
  if unitKind u = Kind.leg then
    match s.bind.sheafOfLeg (unitIndex u) with
    | some n => if s.stype n = SType.trc then unitOf Kind.set (s.bind.position (unitIndex u) / 3) else u
    | none => u
  else u

/-- Whether a unit is a leg that no sheaf holds (R20). -/
def State.unboundLeg (s : State) (u : Nat) : Bool := decide (unitKind u = Kind.leg) && (s.bind.sheafOfLeg (unitIndex u)).isNone

/-- Whether a unit is out of service: by its own fault, by WINNOW, or winnowed by another unit (R445, R499). -/
def State.unitOut (s : State) (u : Nat) : Bool :=
  let i := unitIndex u
  (s.unit u).out
    || (match unitKind u with
        | 1 => decide ((s.sheaf i).state = .winnowed)
        | 2 => s.legWinnowed i
        | 3 => s.setWinnowed i
        | 12 => decide (s.regN (Item.CAN.STATE i) = 6)
        | _ => false)

/-- PROOF or SERVICE, the device states in which tests and force bits are open to units in service (R186, R188, R240). -/
def State.testState (s : State) : Bool := decide (s.dev.state = .proof ∨ s.dev.state = .service)

/-- Whether any sheaf runs. -/
def State.anyRun (s : State) : Bool := (List.range 12).any (fun n => decide ((s.sheaf n).state = .run))

/-- Whether the traction sheaf runs. -/
def State.trcRuns (s : State) : Bool := match s.trcSheaf with | some n => decide ((s.sheaf n).state = .run) | none => false

/-- The conditions of the shutdown-path test on command (R426). -/
def State.pathTestOpen (s : State) : Bool := decide (s.dev.state = .standby ∨ s.dev.state = .safe) && !s.anyRun

/-! ## PROVE -/

/-- Whether a proof already works on one of these legs. DEDUCED: assumption log 96. -/
def State.proofOn (s : State) (legs : List Nat) : Bool := s.proofs.any (fun p => p.legs.any (fun l => decide (l ∈ legs)))

/-- The legs of a leg or a set. -/
def State.unitLegs (s : State) (u : Nat) : List Nat :=
  match unitKind u with
  | 2 => [unitIndex u]
  | 3 => s.setLegs (unitIndex u)
  | _ => []

/-- PROVE of a leg or traction set `v` of sheaf `n`, addressed as `u` (R79, R319, R467): in OFF and while out of service it only
reports. -/
def State.provePart (s : State) (slot index u v n : Nat) : State :=
  let st := (s.sheaf n).state
  let legs := s.unitLegs v
  let out := legs.any s.legWinnowed
  if !(decide (st = .off ∨ st = .ready ∨ st = .winnowed) || (decide (st = .run) && out)) ∨ s.proofOn legs then
    s.invalid slot index Reason.state
  else if unitKind v = Kind.set ∧ s.sup.asc then s.invalid slot index Reason.ascHeld
  else if unitKind v = Kind.set ∧ s.holdBit (unitIndex v) then s.invalid slot index Reason.thermalHold
  else
    (s.addSequence .prove ([u, v].dedup) slot index 0).beginProof v n legs (decide (st ≠ .ready) || out) false (decide (st = .run))

/-- PROVE's work (R79, R80, Table 3-6, Table 3-8). -/
def State.doProve (s : State) (slot index : Nat) (m : HostMsg) : State :=
  let u := target m
  let v := s.serviceUnit u
  let i := unitIndex v
  if m.payload ≠ [] then s.invalid slot index Reason.range
  else
    match unitKind v with
    | 0 =>
      if s.dev.state = .standby ∧ !s.anyRun then (s.addSequence .prove [u] slot index 0).beginDeviceProof
      else s.invalid slot index Reason.state
    | 1 =>
      let st := (s.sheaf i).state
      if !decide (st = .off ∨ st = .ready ∨ st = .winnowed) ∨ s.proofOn (s.bind.legsOf i) then s.invalid slot index Reason.state
      else if st = .winnowed then (s.addSequence .prove [u] slot index 0).beginProof u i (s.bind.legsOf i) true false false
      else (s.addSequence .prove [u] slot index 0).proveSheaf i false
    | 2 => (match s.bind.sheafOfLeg i with
            | none => s.invalid slot index Reason.state
            | some n => s.provePart slot index u v n)
    | _ => (match s.trcSheaf with
            | none => s.invalid slot index Reason.state
            | some n => s.provePart slot index u v n)

/-- PROVE (R79). -/
def execProve (slot : Fin 8) (index : Fin 64) (s : State) : Host.Outcome State Fault Refusal :=
  .next (s.act (fun t => t.hostRow slot index (fun m => decide (op m = Op.prove)) (fun u m => u.doProve slot index m)))

/-! ## WINNOW -/

/-- The leg whose current-sense or temperature input a fast input is (Table 8-1). -/
def inputLeg (k : Nat) : Option Nat := if k % 8 < 6 then some (k / 8 + 16 * (k % 8 % 3)) else none

/-- Whether a closed lane reads a fast input (R240); the inputs of a leg count only while the leg is active (R498). -/
def State.inputRead (s : State) (k : Nat) : Bool :=
  let reads (n : Nat) : Bool := (List.range 8).any (fun j =>
    let w := s.reg (Item.LOOP.SRC n j)
    decide (bitsOf w 31 28 = 1) && decide (bitsOf w 11 0 = k))
  (match inputLeg k with | some l => s.legActive l | none => true)
    && (List.range 32).any (fun n => s.laneClosed n && reads n)

/-- Whether a slot is attached or held through a controller (R496). -/
def State.canInUse (s : State) (n : Nat) : Bool :=
  (List.range 8).any (fun k => decide ((s.slot k).status ≠ .free) && decide ((s.slot k).port = n + 3))

/-- The legs of a sheaf that a WINNOW holds. -/
def State.commandedLegs (s : State) (n : Nat) : List Nat := (s.bind.legsOf n).filter (fun l => (s.unit (unitOf Kind.leg l)).commanded)

/-- The reason a WINNOW of a leg outside a traction sheaf is refused with (R383). -/
def State.winnowLegReason (s : State) (leg : Nat) : Nat :=
  match s.bind.sheafOfLeg leg with
  | none => Reason.state
  | some n =>
    if s.stype n = SType.auxb ∧ (s.sheaf n).state = .run then
      if s.commandedLegs n ≠ [] then Reason.phaseBusy
      else if (s.legsActive n).length ≤ s.regN Item.AUX.MIN_PHASES then Reason.minPhases
      else 0
    else 0

/-- The reason a WINNOW of a traction set is refused with (R318). -/
def State.winnowSetReason (s : State) : Nat :=
  match s.trcSheaf with
  | none => Reason.state
  | some n =>
    if (s.sheaf n).state ≠ .run then 0
    else if s.setsActive.length < s.setCount then Reason.setBusy
    else if s.setsActive.length ≤ s.regN Item.TRC.MIN_SETS then Reason.minSets
    else if s.sup.asc then Reason.ascHeld
    else 0

/-- The reason a WINNOW of a unit in service is refused with; 0 for none (R240, R272, R298, R318, R383, R436, R496). -/
def State.winnowReason (s : State) (v : Nat) : Nat :=
  let i := unitIndex v
  match unitKind v with
  | 1 => if (s.sheaf i).state = .ready ∨ (s.sheaf i).state = .run then 0 else Reason.state
  | 2 => s.winnowLegReason i
  | 3 => s.winnowSetReason
  | 5 => if s.inputRead i then Reason.inputInUse else 0
  | 7 =>
    let n := s.regN (Item.POS.SHEAF i)
    if n < 12 ∧ ((s.sheaf n).state = .proving ∨ (s.sheaf n).state = .run) then Reason.portInUse else 0
  | 9 => if s.laneAtRest i then 0 else Reason.laneActive
  | 10 => if (List.range 8).any (fun j => s.inputRead (8 * i + j)) then Reason.inputInUse else 0
  | 12 => if s.canInUse i then Reason.ctrlInUse else 0
  | _ => 0

/-- What an accepted WINNOW of a unit in service does beside marking it (R240, R298 to R300, R383, R436, R496).
DEDUCED: assumption log 93. -/
def State.winnowUnit (s : State) (v : Nat) : State :=
  let i := unitIndex v
  match unitKind v with
  | 1 => (let s1 := s.winnowSheaf i none; s1.setSheaf i { s1.sheaf i with commanded := true })
  | 2 => s.fenceLeg i .command
  | 3 => s.winnowSet i none .command v
  | 4 => (match s.actSheaf i with | some n => s.winnowSheaf n (some v) | none => s)
  | 6 => if i < 8 then s.mainsUnlock else s
  | 8 => s.outOff i
  | 9 =>
    let n := s.bind.loopSheaf.getD i 15
    if n < 12 ∧ s.stype n = SType.trc ∧ s.regN (Item.LOOP.TYPE i) = 1 then s.fenceLane i else s
  | 11 => if i = 0 then s.mainsUnlock else s
  | 12 => s.fenceCan i
  | _ => s

/-- A unit marked as held by WINNOW (R499). -/
def State.command (s : State) (v : Nat) : State := s.setUnit v { s.unit v with commanded := true }

/-- WINNOW's work (R318, R499, R531, Table 19-9): a unit that is out already is only held; a set of a running sheaf gives up its share
first. -/
def State.doWinnow (s : State) (slot index : Nat) (m : HostMsg) : State :=
  let u := target m
  let v := s.serviceUnit u
  let i := unitIndex v
  if m.payload ≠ [] then s.invalid slot index Reason.range
  else if s.unboundLeg u then s.invalid slot index Reason.state
  else
    let note (t : State) : State := t.serviceLog 3 slot (unitKind u * 256) (nw u)
    if s.unitOut v then
      let s1 := (note s).command v
      let s2 := if unitKind v = Kind.sheaf then s1.setSheaf i { s1.sheaf i with commanded := true } else s1
      s2.ok slot index (s2.unitResult u)
    else if s.winnowReason v ≠ 0 then s.invalid slot index (s.winnowReason v)
    else if unitKind v = Kind.set ∧ s.trcRuns then
      let s1 := (note s).addSequence .winnow ([u, v].dedup) slot index 0
      if s1.trac.ramps.any (fun r => decide (r.1 = i)) then s1
      else { s1 with trac := { s1.trac with ramps := s1.trac.ramps ++ [(i, s1.time.now, false)] } }
    else
      let s1 := ((note s).winnowUnit v).command v
      s1.ok slot index (s1.unitResult u)

/-- WINNOW (R499). -/
def execWinnow (slot : Fin 8) (index : Fin 64) (s : State) : Host.Outcome State Fault Refusal :=
  .next (s.act (fun t => t.hostRow slot index (fun m => decide (op m = Op.winnow)) (fun u m => u.doWinnow slot index m)))

/-! ## RESTORE -/

/-- The completion of a RESTORE (R447, Table 19-9). -/
def State.endRestore (s : State) (slot index u : Nat) : State :=
  (s.serviceLog 4 slot (s.unitState u) (nw u)).ok slot index (s.unitResult u)

/-- The source of the record that a failed targeted self-test makes (R440, R447): the one handled, for a unit without one the source of
its type for a failed test, where the type has one (Table 16-2), else a number that the spec does not state. -/
def State.restoreSource (s : State) (v : Nat) : Nat :=
  let r := s.unit v
  if r.state ≠ .idle then r.src
  else
    match unitKind v with
    | 2 => 37
    | 5 => 32
    | 6 => 32
    | 7 => 33
    | 8 => 32
    | 9 => 32
    | 10 => 1
    | 11 => 1
    | 12 => 32
    | _ => s.freeWord.toNat % 64

/-- The units whose self-test a RESTORE runs: of a set its legs that are not idle, or, all idle, its first leg. -/
def State.restoreUnits (s : State) (v : Nat) : List Nat :=
  if unitKind v = Kind.set then
    let us := (s.setLegs (unitIndex v)).map (unitOf Kind.leg)
    match us.filter (fun w => decide ((s.unit w).state ≠ .idle)) with
    | [] => us.take 1
    | l => l
  else [v]

/-- A failed targeted self-test leaves the unit lasting, with a new record (R447). -/
def State.restoreFails (s : State) (slot index u v : Nat) : State :=
  ((s.forEach (s.restoreUnits v) (fun t w => t.makeLasting w (t.restoreSource w))).useFree).endRestore slot index u

/-- The rest of a unit ends now (R531). -/
def State.endRest (s : State) (w : Nat) : State := s.setUnit w { s.unit w with restEnd := Nat.min (s.unit w).restEnd s.time.now }

/-- The recovery action that a RESTORE runs: a proof, with which the command ends, or a return to service at once (Table 16-1); a port
runs its presence checks first (R272), a CAN controller integrates. A sheaf is proved from WINNOWED only (R87, Table 3-8): from SAFE it
enters OFF, and a sheaf or actuator in any other state is restored without a transition. DEDUCED: assumption log 91. -/
def State.restoreAction (s : State) (slot index u v : Nat) (integrated : Bool) (presence : Presence) : State :=
  let i := unitIndex v
  let go (t : State) : State := t.addSequence .restore ([u, v].dedup) slot index 0
  let back (t : State) : State := ((t.broughtBack v).back v).endRestore slot index u
  let fails (t : State) : State := (t.makeLasting v (t.recoveryFailSource v)).endRestore slot index u
  match unitKind v with
  | 1 =>
    if (s.sheaf i).state = .safe then
      if s.dev.state = .safe then s.invalid slot index Reason.state
      else ((s.sheafOff i).broughtBack v).endRestore slot index u
    else if (s.sheaf i).state = .winnowed then (go s).proveSheaf i true
    else (s.broughtBack v).endRestore slot index u
  | 2 => (match s.bind.sheafOfLeg i with
          | none => s.invalid slot index Reason.state
          | some n =>
            if (s.sheaf n).state = .safe then s.invalid slot index Reason.state
            else (go s).beginProof v n [i] false true (decide ((s.sheaf n).state = .run)))
  | 3 => (match s.trcSheaf with
          | none => s.invalid slot index Reason.state
          | some n =>
            if s.sup.asc then s.invalid slot index Reason.ascHeld
            else if s.holdBit i then s.invalid slot index Reason.thermalHold
            else if (s.sheaf n).state = .safe then s.invalid slot index Reason.state
            else (((go s).forEach (s.setLegs i) (fun t l => t.endRest (unitOf Kind.leg l))).proveSet i n false true))
  | 4 => (match s.actSheaf i with
          | none => s.invalid slot index Reason.state
          | some n =>
            if (s.sheaf n).state = .safe then s.invalid slot index Reason.state
            else if (s.sheaf n).state = .winnowed then (go s).beginProof v n (s.bind.legsOf n) false true false
            else (s.broughtBack v).endRestore slot index u)
  | 7 =>
    let s1 := s.notePresence i presence
    if s.presenceOk i presence then back s1 else fails s1
  | 12 => if integrated then back s else fails s
  | _ => back s

/-- Whether handling, or a proof on its legs, still decides about a unit: RESTORE waits for it (R531). -/
def State.restoreWaits (s : State) (v : Nat) : Bool :=
  let legs : List Nat :=
    match unitKind v with
    | 1 => s.bind.legsOf (unitIndex v)
    | 4 => (match s.actSheaf (unitIndex v) with | some n => s.bind.legsOf n | none => [])
    | _ => s.unitLegs v
  decide ((s.unit v).state = .handling) || s.proofOn legs
    || (decide (unitKind v = Kind.set) && legs.any (fun l => decide ((s.unit (unitOf Kind.leg l)).state = .handling)))

/-- Whether a unit rests, so that RESTORE runs no self-test again (R531); a set does where every leg of it with a fault does. -/
def State.restoreRests (s : State) (v : Nat) : Bool := (s.restoreUnits v).all (fun w => decide ((s.unit w).state = .resting))

/-- RESTORE of the supervisor (R436, R531): the shutdown-path test, under its conditions. -/
def State.restoreSupervisor (s : State) (slot index u : Nat) : State :=
  if !s.pathTestOpen then s.invalid slot index Reason.state
  else if (s.unit u).state = .idle then s.endRestore slot index u
  else s.addSequence .restore [u] slot index 0

/-- RESTORE's work (R447, R531): the targeted self-test of the unit, unless it rests, then its recovery action. A set's self-test is that
of the legs it holds out, its `finding` what holds of all of them. DEDUCED: assumption log 92. -/
def State.doRestore (s : State) (slot index : Nat) (finding : SelftestFinding) (integrated : Bool) (m : HostMsg) : State :=
  let u := target m
  let v := s.serviceUnit u
  let i := unitIndex v
  if m.payload ≠ [] then s.invalid slot index Reason.range
  else if s.unboundLeg u then s.invalid slot index Reason.state
  else if unitKind v = Kind.supervisor then s.restoreSupervisor slot index u
  else if s.restoreWaits v then s
  else if !s.unitOut v then
    let s1 := if unitKind v = Kind.sheaf ∧ (s.sheaf i).state = .safe ∧ s.dev.state ≠ .safe then s.sheafOff i else s
    s1.endRestore slot index u
  else if s.restoreRests v then s.restoreAction slot index u v integrated finding.presence
  else
    let s1 := s.forEach (s.restoreUnits v) (fun t w => t.noteTest w finding)
    if (s.restoreUnits v).all (fun w => s.targetedOk w finding) then s1.restoreAction slot index u v integrated finding.presence
    else s1.restoreFails slot index u v

/-- RESTORE (R447, R531). -/
def execRestore (slot : Fin 8) (index : Fin 64) (finding : SelftestFinding) (integrated : Bool) (s : State) :
    Host.Outcome State Fault Refusal :=
  .next (s.act (fun t => t.hostRow slot index (fun m => decide (op m = Op.restore)) (fun u m =>
    u.doRestore slot index finding integrated m)))

/-! ## SELFTEST -/

/-- The numbered tests of a unit: 4 of a leg, 2 of an input, 2 of a port and a third of a RESOLVER, 1 of the others (Tables 6-5, 8-6,
9-6). -/
def State.testCount (s : State) (u : Nat) : Nat :=
  match unitKind u with
  | 2 => 4
  | 5 => 2
  | 6 => 2
  | 7 => if s.regN (Item.POS.MODE (unitIndex u)) = 1 then 3 else 2
  | _ => 1

/-- The reason that a SELFTEST is refused with for the unit's state; 0 for none (R186, R240, R273, R297, R436, R496). -/
def State.testRefusal (s : State) (u : Nat) : Nat :=
  let i := unitIndex u
  let free := s.unitOut u || s.testState
  match unitKind u with
  | 2 => (match s.bind.sheafOfLeg i with
          | none => Reason.state
          | some n =>
            let st := (s.sheaf n).state
            if s.legWinnowed i ∨ st = .ready ∨ st = .winnowed ∨ (s.testState ∧ !(decide (st = .run) && s.legActive i)) then 0
            else Reason.state)
  | 5 => if free then 0 else Reason.forceState
  | 6 => if free then 0 else Reason.forceState
  | 7 =>
    let n := s.regN (Item.POS.SHEAF i)
    let st := (s.sheaf n).state
    if free || decide (12 ≤ n) || decide (st = .off ∨ st = .ready ∨ st = .winnowed) then 0 else Reason.state
  | 9 => if s.laneStateCode i ∈ [1, 3, 4] ∨ s.testState then 0 else Reason.state
  | 10 => if free then 0 else Reason.state
  | 11 => if free then 0 else Reason.state
  | 12 => if s.regN (Item.CAN.STATE i) ∈ [0, 6] ∨ s.testState then 0 else Reason.state
  | _ => Reason.state

/-- The force bits that a self-test of a unit uses up: a level of an input's test 1, the loop back of a CAN controller, a frame of an SSI
port (Tables 8-7, 9-7 and 18-7). -/
def testForce (u test : Nat) : Option Nat :=
  match unitKind u, test with
  | 5, 1 => some 2
  | 6, 1 => some 2
  | 7, 2 => some 4
  | 12, 1 => some 4
  | _, _ => none

/-- Whether nothing but force bits makes a test of a unit fail. -/
def State.testForced (s : State) (u test : Nat) (f : SelftestFinding) : Bool :=
  decide (firstFail ((s.setUnit u { s.unit u with force := 0, forceArmed := 0 }).testChecks u test f) = 0)

/-- A commanded self-test has failed: the class-L source of the unit's type (Table 16-2); a converter's own class-F source.
DEDUCED: assumption log 95. -/
def State.testFailed (s : State) (u : Nat) (forced : Bool) : State :=
  match unitKind u with
  | 2 => s.detect u .L 37 forced
  | 7 => s.detect u .L 33 forced
  | 10 => s.detect u .F 1 forced
  | 11 => s.detect u .F 1 forced
  | _ => s.detect u .L 32 forced

/-- Where a unit keeps its result word (R187, R241, R273, R297, R496). -/
def resultItem (u : Nat) : Option Nat :=
  let i := unitIndex u
  match unitKind u with
  | 2 => some (Item.LEG.SELFTEST_RESULT i)
  | 5 => some (Item.ADCF.TEST_RESULT (i / 8) (i % 8))
  | 7 => some (Item.POS.SELFTEST_RESULT i)
  | 9 => some (Item.LOOP.SELFTEST_RESULT i)
  | 12 => some (Item.CAN.SELFTEST_RESULT i)
  | _ => none

/-- A self-test's result word goes into its item and the completion (R187). -/
def State.endTest (s : State) (slot index u : Nat) (w : Word) : State :=
  (match resultItem u with | some a => s.setReg a w | none => s).ok slot index (wordBytes w)

/-- Test 3 of a leg (Table 6-5): the off-state checks with their faults (Table 6-4); the number of the first that failed. -/
def State.offDiagTest (s : State) (leg : Nat) (f : SelftestFinding) : State × Nat :=
  match f.offs.find? (fun p => decide (p.1 = leg)) with
  | none => (s, 0)
  | some p =>
    let r := s.offCheck leg p.2
    (r.1, firstFail ((List.range 7).map r.2.testBit))

/-- What a test does on its unit besides its checks: the conversions of an input's test source, which carry TEST (R231); an open-wire
check; the charges and corrections measured. -/
def State.testEffects (s : State) (u test : Nat) (f : SelftestFinding) : State :=
  let i := unitIndex u
  match unitKind u with
  | 2 => if test = 2 then s.noteTest u f else s
  | 5 =>
    if test = 1 then
      f.levels.flatten.foldl (fun t c => t.fastResult (i / 8) (i % 8) 0 0 false false true (BitVec.ofInt 14 c) t.tick) s
    else s.checkFast (i / 8) (i % 8) (BitVec.ofInt 14 f.injected)
  | 6 => if test = 2 then s.checkSlow (i / 32) (i % 32) f.injected else s
  | 7 => if test = 2 then s.notePresence i f.presence else s
  | _ => s.noteTest u f

/-- A numbered test that runs (Tables 6-5, 8-6, 9-6, R297, R436, R496): the state it leaves and its first failing check. -/
def State.testRun (s : State) (u test : Nat) (f : SelftestFinding) : State × Nat :=
  if unitKind u = Kind.leg ∧ test = 3 then s.offDiagTest (unitIndex u) f
  else
    let step := firstFail (s.testChecks u test f)
    let s1 := s.testEffects u test f
    let s2 := match testForce u test with | some k => s1.useForce u k | none => s1
    (if step = 0 then s2 else s2.testFailed u (s.testForced u test f), step)

/-- A self-test on command. A leg of an OFF sheaf has its gate supplies for the time of the test (R56, R186). -/
def State.runTest (s : State) (slot index u test : Nat) (f : SelftestFinding) : State :=
  let off := decide (unitKind u = Kind.leg) && (match s.bind.sheafOfLeg (unitIndex u) with
    | some n => decide ((s.sheaf n).state = .off) && !s.proofOn [unitIndex u]
    | none => false)
  let r := (if off then s.supplies [unitIndex u] true else s).testRun u test f
  (if off then r.1.supplies [unitIndex u] false else r.1).endTest slot index u (testWord test r.2 f.us)

/-- Whether an input's OW_MASK bit is set. -/
def State.openWireMasked (s : State) (u : Nat) : Bool :=
  let i := unitIndex u
  if unitKind u = Kind.fastInput then bitOf (s.reg (Item.ADCF.OW_MASK (i / 8))) (i % 8)
  else bitOf (s.reg (Item.ADCI.OW_MASK (i / 32))) (i % 32)

/-- SELFTEST of the device or the supervisor (R426): test 1, under its conditions. -/
def State.testPaths (s : State) (slot index u test : Nat) : State :=
  if test ≠ 1 ∨ !s.pathTestOpen then s.invalid slot index Reason.state
  else s.addSequence .selftest [u] slot index 1

/-- SELFTEST's work (R186, R187, R240, R241, R273, R297, R426, R436, R496). -/
def State.doSelftest (s : State) (slot index : Nat) (f : SelftestFinding) (m : HostMsg) : State :=
  let u := target m
  let k := unitKind u
  let test := beAt m.payload 0 2
  if m.payload.length ≠ 2 then s.invalid slot index Reason.range
  else if k = Kind.device ∨ k = Kind.supervisor then s.testPaths slot index u test
  else if (k = Kind.fast ∨ k = Kind.slow) ∧ test ≠ 1 then s.invalid slot index Reason.range
  else if s.testRefusal u ≠ 0 then s.invalid slot index (s.testRefusal u)
  else if test = 0 ∨ s.testCount u < test then s.invalid slot index Reason.range
  else if (k = Kind.fastInput ∨ k = Kind.slowInput) ∧ test = 2 ∧ !s.openWireMasked u then s.invalid slot index Reason.range
  else if k = Kind.leg ∧ test = 4 ∧ f.link < s.proofVmin ((s.bind.sheafOfLeg (unitIndex u)).getD 12) (unitIndex u) then
    s.invalid slot index Reason.linkLow
  else s.runTest slot index u test f

/-- SELFTEST (R187). DESIGN CHOICE: assumption log 69. -/
def execSelftest (slot : Fin 8) (index : Fin 64) (finding : SelftestFinding) (s : State) : Host.Outcome State Fault Refusal :=
  .next (s.act (fun t => t.hostRow slot index (fun m => decide (op m = Op.selftest)) (fun u m => u.doSelftest slot index finding m)))

/-! ## FORCE -/

/-- The force bits of a unit: those of its table; none: the type has none (Tables 6-6, 8-7, 9-7, 10-6, 13-6, 14-6, 15-10, 15-11, 18-7,
R436). -/
def State.forceMask (s : State) (u : Nat) : Option Nat :=
  let i := unitIndex u
  match unitKind u with
  | 0 => some 0x3F
  | 13 => some 0x3F
  | 1 => if s.stype i = SType.auxi ∨ s.stype i = SType.auxb then some 0xF else none
  | 2 => some 0x3FFF
  | 4 => some 0xF
  | 5 => some 0xF
  | 6 => some 0x7
  | 7 => some 0x3F
  | 8 => some 0x7
  | 9 => some 0xF
  | 10 => some 0
  | 11 => some 0
  | 12 => some 0x1F
  | _ => none

/-- The unit that holds the force bits: the supervisor's are the device's (R434). -/
def forceUnit (u : Nat) : Nat := if unitKind u = Kind.device then unitOf Kind.supervisor 0 else u

/-- Whether a unit accepts FORCE now (R188, R434, R456): the supervisor only in SERVICE. -/
def State.forceOpen (s : State) (u : Nat) : Bool :=
  if unitKind u = Kind.device ∨ unitKind u = Kind.supervisor then decide (s.dev.state = .service)
  else if unitKind u = Kind.fast ∨ unitKind u = Kind.slow then true
  else s.unitOut u || s.testState

/-- What force bits of a CAN controller do at once (Table 18-7): PASSIVE and BUSOFF set the transmit error counter. -/
def State.forceCan (s : State) (n set : Nat) : State :=
  let was := (s.can n).passive
  let s1 := if set.testBit 1 then s.setCan n { s.can n with tec := 128 } else s
  let s2 := if set.testBit 0 then s1.setCan n { s1.can n with tec := 256 } else s1
  s2.canPassive n was true

/-- Setting force bits (R188): a bit set anew has its one-time effect before it. -/
def State.setForce (s : State) (u mask value : Nat) : State :=
  let w := forceUnit u
  let r := s.unit w
  let new := (r.force &&& ~~~(nw mask)) ||| (nw value &&& nw mask)
  let armed := (r.forceArmed &&& ~~~(nw mask)) ||| (nw value &&& nw mask)
  let s1 := s.setUnit w { r with force := new, forceArmed := armed }
  if unitKind u = Kind.can then s1.forceCan (unitIndex u) (value &&& mask)
  else if unitKind u = Kind.leg then s1.bandAgain (unitIndex u)
  else s1

/-- FORCE's work (R20, R188, R240, R273, R434, R436, R456, Table 19-9). DEDUCED: assumption log 94. -/
def State.doForce (s : State) (slot index : Nat) (m : HostMsg) : State :=
  let u := target m
  let mask := beAt m.payload 0 4
  let value := beAt m.payload 4 4
  if m.payload.length ≠ 8 then s.invalid slot index Reason.range
  else if s.unboundLeg u then s.invalid slot index Reason.state
  else
    match s.forceMask u with
    | none => s.invalid slot index Reason.unit
    | some bits =>
      if !s.forceOpen u then s.invalid slot index Reason.forceState
      else if mask &&& bits ≠ mask then s.invalid slot index Reason.range
      else
        let s1 := s.setForce u mask value
        let w := (s1.unit (forceUnit u)).force
        (s1.serviceLog 5 slot 0 w).ok slot index (wordBytes w)

/-- FORCE (R456). -/
def execForce (slot : Fin 8) (index : Fin 64) (s : State) : Host.Outcome State Fault Refusal :=
  .next (s.act (fun t => t.hostRow slot index (fun m => decide (op m = Op.force)) (fun u m => u.doForce slot index m)))

end Sys2Proof.Machine
end

