-- ==== Sys2Proof/Machine/Commands.lean ====
section
/-! DEFINITION. The commands that run the machine: SWAP, SHEAF_START, SHEAF_STOP, MOVE, CHARGE_SET, CHARGE_ARM, NV_COMMIT (chapters
Start-up, Parameter Space, Gearbox Actuators, On-board Charger, Service). -/

namespace Sys2Proof.Machine

/-! ## SWAP -/

/-- The value an item has after the two sets of the items that a test picks have been exchanged. -/
def State.swapped (s : State) (own : State → Nat → Bool) (a : Nat) : Word :=
  match Catalogue.find a with
  | some d => if (d.cls = .S ∨ d.cls = .O) ∧ own s a then s.shadow a else s.item a
  | none => s.item a

/-- The items of a sheaf, or of no sheaf, that are not at their default in one of the sets: every cross-item constraint that defaults
alone do not meet has one of them (R137). -/
def State.setItems (s : State) (own : State → Nat → Bool) : List Nat :=
  ((s.regs.map Prod.fst) ++ (s.shd.map Prod.fst)).dedup.filter (own s)

/-- Whether the set that a SWAP brings in force keeps every cross-item constraint (R137). DEDUCED: assumption log 85. -/
def State.swapAgrees (s : State) (own : State → Nat → Bool) : Bool := (s.setItems own).all (s.agrees (s.swapped own))

/-- Items that no sheaf owns. -/
def unowned (s : State) (a : Nat) : Bool := decide (s.ownerSheaf a = none)

/-- A SWAP of one sheaf begins: at once where the sheaf does not run, else pending for its next reload (R89, R91). The swap word crosses
to the fabric in 2 to 3 of its cycles, which of them the spec leaves to the phase of the clocks (R21, R90): a free value. DESIGN CHOICE:
assumption log 107. -/
def State.beginSwap (s : State) (slot index n : Nat) (wide : Bool) : State :=
  if (s.sheaf n).state = .run then
    ({ s with swaps := s.swaps ++ [{ sheaf := n, slot := slot, index := index, wide := wide, word := s.crossTick }] } : State).useFree
  else s.swapNow n

/-- A SWAP whose last sheaf has exchanged completes with the device time; else its record is in execution. -/
def State.endSwap (s : State) (slot index : Nat) : State :=
  if s.swaps.any (fun w => decide (w.slot = slot ∧ w.index = index)) then s.running slot index
  else s.ok slot index (beBytes 8 s.time.now)

/-- SWAP of a sheaf (R89 to R92, R137, R149). -/
def State.swapSheaf (s : State) (slot index n : Nat) : State :=
  if s.swapBlocked (ownedBy n) then s.complete slot index Code.busyClosed Reason.none []
  else if !s.swapAgrees (ownedBy n) then s.invalid slot index Reason.range
  else (s.beginSwap slot index n false).endSwap slot index

/-- Whether a slot lacks the claim of a sheaf that has a CONTROL holder (Table 4-3, R93). -/
def State.lacksHolder (s : State) (slot : Nat) : Bool :=
  s.realSheaves.any (fun n => (List.range 8).any (fun k => s.hasClaim k n) && !s.hasClaim slot n)

/-- Device-wide SWAP (R93): every sheaf is checked before any exchange. -/
def State.swapDevice (s : State) (slot index : Nat) : State :=
  if !s.hasRight slot Right.cfg then s.denied slot index Reason.noRight
  else if s.lacksHolder slot then s.denied slot index Reason.rights
  else if s.realSheaves.any (fun n => s.swapBlocked (ownedBy n)) then s.complete slot index Code.busyClosed Reason.none []
  else if !(s.realSheaves.all (fun n => s.swapAgrees (ownedBy n)) && s.swapAgrees unowned) then s.invalid slot index Reason.range
  else ((s.exchange (s.swapItems unowned)).forEach s.realSheaves (fun t n => t.beginSwap slot index n true)).endSwap slot index

/-- SWAP's work. -/
def State.doSwap (s : State) (slot index : Nat) (m : HostMsg) : State :=
  if m.payload ≠ [] then s.invalid slot index Reason.range
  else if unitKind (target m) = Kind.sheaf then s.swapSheaf slot index (unitIndex (target m))
  else s.swapDevice slot index

/-- SWAP (R89). -/
def execSwap (slot : Fin 8) (index : Fin 64) (s : State) : Host.Outcome State Fault Refusal :=
  .next (s.act (fun t => t.hostRow slot index (fun m => decide (op m = Op.swap)) (fun u m => u.doSwap slot index m)))

/-! ## SHEAF_START and SHEAF_STOP -/

/-- The first condition of a start that fails (R88, R199, R307, R322, R467, Table 3-9); 0 where none does, the deferred step 3 apart. -/
def State.startRefusal (s : State) (n : Nat) : Nat :=
  let trc := decide (s.stype n = SType.trc)
  let mode := decide (s.dev.state = .service) || (decide (s.dev.state = .drive) && decide (s.regN Item.TRC.MODE ≠ 3))
  let r := s.regN (Item.PWM.SYNC_SHEAF n)
  if (s.sheaf n).state ≠ .ready then Reason.state
  else if trc && !mode then Reason.trcMode
  else if trc && s.sup.asc then Reason.ascHeld
  else if s.holdBit (16 + n) then Reason.thermalHold
  else if !s.runPermitted n s.armed then Reason.state
  else if r < 12 ∧ r ≠ n ∧ (s.sheaf r).state ≠ .run then Reason.notReady
  else 0

/-- SHEAF_START's work (R76, R378): the deferred step 3 runs with what the hardware shows. -/
def State.doSheafStart (s : State) (slot index : Nat) (checks : List MidCheck) (m : HostMsg) : State :=
  let n := unitIndex (target m)
  if m.payload ≠ [] then s.invalid slot index Reason.range
  else if (s.sheaf n).state = .run then
    (let s1 := s.setSheaf n { s.sheaf n with held := false }; s1.ok slot index (s1.sheafResult n))
  else if s.startRefusal n ≠ 0 then s.invalid slot index (s.startRefusal n)
  else
    let r := s.deferredStep n checks
    if r.2 ≠ 0 then r.1.invalid slot index r.2
    else
      let s1 := r.1.setSheaf n { r.1.sheaf n with held := false }
      let s2 := (s1.startRun n).autoHome n
      s2.ok slot index (s2.sheafResult n)

/-- SHEAF_START (R76). -/
def execSheafStart (slot : Fin 8) (index : Fin 64) (checks : List MidCheck) (s : State) : Host.Outcome State Fault Refusal :=
  .next (s.act (fun t => t.hostRow slot index (fun m => decide (op m = Op.sheafStart))
    (fun u m => u.doSheafStart slot index checks m)))

/-- What a SHEAF_STOP ends first (R124, Table 3-8): the proofs of a PROVE, or of a sheaf in PROVING, and running starts and
self-tests. -/
def State.endBeforeStop (s : State) (n : Nat) (toOff : Bool) : State :=
  let proving := s.seqs.any (fun q => decide (q.kind = .prove) && q.units.any (s.unitInSheaf n))
  let st := (s.sheaf n).state
  let s1 := if proving ∨ st = .proving ∨ (toOff ∧ st = .ready) then s.abortProofs n else s
  s1.endSheafSequences n [.start, .selftest] Code.aborted Reason.none

/-- The sheaf's part of a SHEAF_STOP (R123, R124, R323, R378, Table 3-8). DEDUCED: assumption log 81. -/
def State.doStop (s : State) (slot index n : Nat) (toOff : Bool) : State :=
  let st := (s.sheaf n).state
  let proving := s.seqs.any (fun q => decide (q.kind = .prove) && q.units.any (s.unitInSheaf n))
  let s0 := s.setSheaf n { s.sheaf n with held := true }
  let s1 := s0.endBeforeStop n toOff
  let fin (t : State) : State := t.ok slot index (t.sheafResult n)
  match st with
  | .proving => fin (s1.sheafOff n)
  | .ready => fin (if toOff then s1.sheafOff n else s1)
  | .off => fin (if proving then s1.supplies (s1.bind.legsOf n) false else s1)
  | .run => (s1.addSequence .stop [unitOf Kind.sheaf n] slot index (if toOff then 1 else 0)).orderlyStop n toOff
  | .winnowed => if proving then fin s1 else s1.invalid slot index Reason.state
  | .safe => s1.invalid slot index Reason.state

/-- SHEAF_STOP's work. -/
def State.doSheafStop (s : State) (slot index : Nat) (m : HostMsg) : State :=
  if m.payload.length ≠ 1 ∨ 1 < opByte m then s.invalid slot index Reason.range
  else s.doStop slot index (unitIndex (target m)) (decide (opByte m = 1))

/-- SHEAF_STOP with option 0, or with an option the spec does not define (R124). -/
def execSheafStopReady (slot : Fin 8) (index : Fin 64) (s : State) : Host.Outcome State Fault Refusal :=
  .next (s.act (fun t => t.hostRow slot index (fun m => decide (op m = Op.sheafStop) && decide (opByte m ≠ 1))
    (fun u m => u.doSheafStop slot index m)))

/-- SHEAF_STOP with option 1 (R124). -/
def execSheafStopOff (slot : Fin 8) (index : Fin 64) (s : State) : Host.Outcome State Fault Refusal :=
  .next (s.act (fun t => t.hostRow slot index (fun m => decide (op m = Op.sheafStop) && decide (opByte m = 1))
    (fun u m => u.doSheafStop slot index m)))

/-! ## MOVE -/

/-- A word of a payload. -/
def wordAt (p : List Byte) (off : Nat) : Word := nw (beAt p off 4)

/-- Whether a MOVE payload is formed as Table 14-1 says. -/
def moveFormed (p : List Byte) : Bool :=
  let o := beAt p 0 1
  decide (p.length = 16) && decide (1 ≤ o) && decide (o ≤ 4) && (if o = 1 then decide (beAt p 1 1 < 8) else decide (beAt p 1 1 = 0))
    && decide (beAt p 2 2 = 0) && (decide (o = 2) || decide (beAt p 4 4 = 0))

/-- The target of a MOVE, and whether it is defined (Table 14-2, check 3). -/
def State.moveTarget (s : State) (k : Nat) (p : List Byte) : Word × Bool :=
  match beAt p 0 1 with
  | 1 =>
    let w := s.reg (Item.ACT.POS k (beAt p 1 1))
    (w, F32.finite w)
  | 2 =>
    let w := wordAt p 4
    (w, F32.finite w && F32.le (s.reg (Item.ACT.POS_MIN k)) w && F32.le w (s.reg (Item.ACT.POS_MAX k)))
  | _ =>
    let w := s.reg (Item.ACT.POS k 0)
    (w, F32.finite w)

/-- A MOVE in progress that a later one takes over (R124, R398): its command ends, its latch and its generator stay as they are.
DEDUCED: assumption log 97. -/
def State.replaceMove (s : State) (k : Nat) : State :=
  (s.setMove k none).endSequences (fun q => decide (q.kind = .move) && decide (actUnit k ∈ q.units)) Code.aborted Reason.none (fun _ => [])

/-- MOVE's work (R124, R392 to R394, R398): the homing without a command is waited for (R392). -/
def State.doMove (s : State) (slot index : Nat) (m : HostMsg) : State :=
  let p := m.payload
  let k := unitIndex (target m)
  let o := beAt p 0 1
  match s.actSheaf k with
  | none => s.invalid slot index Reason.unit
  | some n =>
    if (match (s.actuator k).move with | some a => a.auto | none => false) then s
    else
      let s : State := s.settleFirst k n
      let refuse (reason : Nat) : State := (s.abortMove k n Code.aborted Reason.none).invalid slot index reason
      let old : State := s
      if !moveFormed p then refuse Reason.range
      else if o = 4 ∧ s.dev.state ≠ .service then refuse Reason.state
      else
        let tgt := old.moveTarget k p
        let vmax := if wordAt p 8 = 0 then s.reg (Item.ACT.VMAX k) else wordAt p 8
        let amax := if wordAt p 12 = 0 then s.reg (Item.ACT.AMAX k) else wordAt p 12
        let r := s.moveCheck k o tgt.1 vmax amax tgt.2
        if r ≠ 0 then refuse r
        else ((s.replaceMove k).addSequence .move [target m] slot index o).moveBegin k n
          { op := o, target := tgt.1, vmax := vmax, amax := amax, step := 1, since := s.time.now, retries := 0, auto := false,
            ending := none }

/-- A row that runs a MOVE of the operations a test picks. -/
def State.moveRow (s : State) (slot index : Nat) (is : Nat → Bool) : State :=
  s.hostRow slot index (fun m => decide (op m = Op.move) && is (opByte m)) (fun u m => u.doMove slot index m)

/-- MOVE_DETENT (R394): operation 1, or one that the spec does not define. -/
def execMoveDetent (slot : Fin 8) (index : Fin 64) (s : State) : Host.Outcome State Fault Refusal :=
  .next (s.act (fun t => t.moveRow slot index (fun o => decide (o ∉ [2, 3, 4]))))

/-- MOVE_POSITION (R394): operation 2. -/
def execMovePosition (slot : Fin 8) (index : Fin 64) (s : State) : Host.Outcome State Fault Refusal :=
  .next (s.act (fun t => t.moveRow slot index (fun o => decide (o = 2))))

/-- MOVE_HOME (R392): operation 3. -/
def execMoveHome (slot : Fin 8) (index : Fin 64) (s : State) : Host.Outcome State Fault Refusal :=
  .next (s.act (fun t => t.moveRow slot index (fun o => decide (o = 3))))

/-- MOVE_LEARN (R393): operation 4. -/
def execMoveLearn (slot : Fin 8) (index : Fin 64) (s : State) : Host.Outcome State Fault Refusal :=
  .next (s.act (fun t => t.moveRow slot index (fun o => decide (o = 4))))

/-! ## CHARGE_SET and CHARGE_ARM -/

/-- A 16-bit number as a signed one, in a word. -/
def signed16 (v : Nat) : Word := if v < 32768 then nw v else nw (0xFFFF0000 + v)

/-- The fields of a settings block whose VALID bit is set, with their items (Table 12-6, R335). -/
def settingItems (p : List Byte) : List (Nat × Word) :=
  let v := beAt p 0 2
  let f (bit a : Nat) (w : Word) : List (Nat × Word) := if v.testBit bit then [(a, w)] else []
  f 0 Item.CHG.SET_I_IN (nw (beAt p 4 2)) ++ f 1 Item.CHG.SET_I_BAT (nw (beAt p 6 2)) ++ f 2 Item.CHG.SET_V_BAT (nw (beAt p 8 2))
    ++ f 3 Item.CHG.SET_MODE (nw (beAt p 2 1)) ++ f 4 Item.CHG.SET_PHASES (nw (beAt p 3 1)) ++ f 5 Item.CHG.SET_P_EXP (nw (beAt p 10 2))
    ++ f 8 Item.CHG.BAT_V_MAX (nw (beAt p 12 2)) ++ f 9 Item.CHG.BAT_I_MAX (nw (beAt p 14 2))
    ++ f 10 Item.CHG.BAT_I_DIS_MAX (nw (beAt p 16 2)) ++ f 11 Item.CHG.BAT_TEMP (signed16 (beAt p 18 2))

/-- Whether every field that is set lies in its range (Tables 12-6 and 12-11). -/
def settingsInRange (p : List Byte) : Bool :=
  let v := beAt p 0 2
  let ok (bit : Nat) (c : Bool) : Bool := !v.testBit bit || c
  let temp := (signed16 (beAt p 18 2)).toInt
  ok 0 (decide (60 ≤ beAt p 4 2) && decide (beAt p 4 2 ≤ 320)) && ok 3 (decide (beAt p 2 1 ≤ 3))
    && ok 4 (decide (beAt p 3 1 = 0 ∨ beAt p 3 1 = 1 ∨ beAt p 3 1 = 3)) && ok 5 (decide (beAt p 10 2 ≤ 11000))
    && ok 8 (decide (beAt p 12 2 ≤ 10000)) && ok 9 (decide (beAt p 14 2 ≤ 1000)) && ok 10 (decide (beAt p 16 2 ≤ 1000))
    && ok 11 (decide (-400 ≤ temp) && decide (temp ≤ 1000))

/-- Whether the reserved parts of a settings block are 0 (Table 12-6). -/
def settingsFormed (p : List Byte) : Bool :=
  decide (p.length = 24) && decide (beAt p 0 2 &&& 0xF0C0 = 0) && decide (beAt p 20 4 = 0)

/-- Whether the slot holds no claim on the front charger sheaf. -/
def State.lacksChgf (s : State) (slot : Nat) : Bool :=
  match s.chgf with
  | some n => !s.hasClaim slot n
  | none => true

/-- CHARGE_SET's work (R335, R340): every field is checked before any is written; the watchdog restarts. -/
def State.doChargeSet (s : State) (slot index : Nat) (m : HostMsg) : State :=
  let p := m.payload
  let v := beAt p 0 2
  if !settingsFormed p then s.invalid slot index Reason.range
  else if v % 64 ≠ 0 ∧ s.lacksChgf slot then s.denied slot index Reason.rights
  else if v / 256 ≠ 0 ∧ !s.hasRight slot Right.limits then s.denied slot index Reason.noRight
  else if !settingsInRange p then s.invalid slot index Reason.range
  else ((s.setRegs (settingItems p)).restartWatchdog).ok slot index []

/-- CHARGE_SET (R335). -/
def execChargeSet (slot : Fin 8) (index : Fin 64) (s : State) : Host.Outcome State Fault Refusal :=
  .next (s.act (fun t => t.hostRow slot index (fun m => decide (op m = Op.chargeSet)) (fun u m => u.doChargeSet slot index m)))

/-- The charger's sheaves. -/
def State.chargerSheaves (s : State) : List Nat := s.bind.sheavesOfType SType.chgf ++ s.bind.sheavesOfType SType.chgd

/-- CHARGE_ARM with operation 1 or 3 (R344 to R346, R467): the arm sequence starts. -/
def State.doArm (s : State) (slot index : Nat) (late : Bool) : State :=
  if !s.chargerSheaves.all (s.hasClaim slot) ∨ s.chargerSheaves = [] then s.denied slot index Reason.rights
  else if s.chargerSheaves.any (fun n => s.holdBit (16 + n)) then s.invalid slot index Reason.thermalHold
  else if s.charge.running then s.invalid slot index Reason.state
  else
    let s1 := s.addSequence .arm [unitOf Kind.device 0] slot index (if late then 3 else 1)
    (s1.setCharge { s1.charge with arm := some { step := 1, stage := 0, since := s1.time.now, late := late,
                                                 mode := (s1.setting Item.CHG.SET_MODE).getD 0
                                                 phases := (s1.setting Item.CHG.SET_PHASES).getD 0 } }).armAdvance none

/-- CHARGE_ARM with operation 2 (R124, R349): it ends a running arm, and a session by the hand-over with cause DISARM. -/
def State.doDisarm (s : State) (slot index : Nat) : State :=
  if !s.chargerSheaves.all (s.hasClaim slot) ∨ s.chargerSheaves = [] then s.denied slot index Reason.rights
  else
    let wait (t : State) : State := t.addSequence .disarm [unitOf Kind.device 0] slot index 2
    match s.charge.arm with
    | some a =>
      if a.step ≤ 2 then
        (let t := s.armFail Code.aborted Reason.none; t.ok slot index (wordBytes t.sessionWord))
      else (wait s).handBegin 9 (some (Code.aborted, Reason.none))
    | none =>
      if s.charge.running then (wait s).handBegin 9 none
      else if s.charge.hand.isSome then wait s
      else s.ok slot index (wordBytes s.sessionWord)

/-- CHARGE_ARM's work: the operation of 1 byte. DEDUCED: assumption log 98. -/
def State.doChargeArm (s : State) (slot index : Nat) (m : HostMsg) : State :=
  if m.payload.length ≠ 1 then s.invalid slot index Reason.range
  else
    match opByte m with
    | 1 => s.doArm slot index false
    | 2 => s.doDisarm slot index
    | 3 => s.doArm slot index true
    | _ => s.invalid slot index Reason.range

/-- A row that runs a CHARGE_ARM of the operations a test picks. -/
def State.armRow (s : State) (slot index : Nat) (is : Nat → Bool) : State :=
  s.hostRow slot index (fun m => decide (op m = Op.chargeArm) && is (opByte m)) (fun u m => u.doChargeArm slot index m)

/-- CHARGE_ARM with operation 1, or one that the spec does not define (R345). -/
def execChargeArm (slot : Fin 8) (index : Fin 64) (s : State) : Host.Outcome State Fault Refusal :=
  .next (s.act (fun t => t.armRow slot index (fun o => decide (o ≠ 2) && decide (o ≠ 3))))

/-- CHARGE_ARM with operation 2 (R349). -/
def execChargeDisarm (slot : Fin 8) (index : Fin 64) (s : State) : Host.Outcome State Fault Refusal :=
  .next (s.act (fun t => t.armRow slot index (fun o => decide (o = 2))))

/-- CHARGE_ARM with operation 3 (R344). -/
def execChargeArmAfterTimer (slot : Fin 8) (index : Fin 64) (s : State) : Host.Outcome State Fault Refusal :=
  .next (s.act (fun t => t.armRow slot index (fun o => decide (o = 3))))

/-! ## NV_COMMIT -/

/-- Bytes written into a store from an address on. -/
def putBytes (m : KMap Byte) (a : Nat) : List Byte → KMap Byte
  | [] => m
  | b :: t => putBytes (KMap.put (fun _ => (0 : Byte)) m a b) (a + 1) t

/-- The 128 bytes of a held header, 0 where none came. -/
def heldHeader (h : KMap Byte) : List Byte := (List.range 128).map (KMap.get (fun _ => (0 : Byte)) h)

/-- The image slot that NV_COMMIT writes (R95). -/
def State.commitSlot (s : State) : Nat := if s.regN Item.IMG.BOOT_SLOT = 0 then 1 else 0

/-- The data of a chunk: those for the header are held, the others written (R97). -/
def splitChunk (off : Nat) (d : List Byte) : List Byte × List Byte := (d.take (128 - off), d.drop (128 - off))

/-- A write to the store ends: while image writes are throttled the next waits (R468). DEDUCED: assumption log 65. -/
def State.pauseWrites (s : State) : State :=
  if s.writesThrottled then { s with commit := { s.commit with pauseUntil := s.time.now + s.regN Item.THM.NV_PAUSE * 1000000 } } else s

/-- Erasing the header of an image slot (R96): it is written with zeros, and IMG.STATUS and IMG.SEQ show it. The spec says what they show
at a power-up or seal only. DESIGN CHOICE: assumption log 108. -/
def State.eraseImage (s : State) (k : Nat) : State :=
  let s1 := { s with store := { s.store with bytes := putBytes s.store.bytes (imageBase k) (List.replicate 128 0) }
                     badWords := s.badWords.filter (fun m => decide (m ≠ Memory.store k)) }
  s1.setRegs (if k = 0 then [(Item.IMG.STATUS_A, 0x40), (Item.IMG.SEQ_A, 0)] else [(Item.IMG.STATUS_B, 0x40), (Item.IMG.SEQ_B, 0)])

/-- A chunk for the image store (R95 to R97). DEDUCED: assumption log 84. -/
def State.imageChunk (s : State) (slot index off : Nat) (d : List Byte) : State :=
  let k := s.commitSlot
  if imageSize < off + d.length then s.invalid slot index Reason.range
  else if s.commit.claim.isNone ∧ off ≠ 0 then s.invalid slot index Reason.state
  else
    let s1 := if s.commit.claim.isNone then
        let t := s.eraseImage k
        { t with commit := { t.commit with claim := some slot, header := [] } }
      else s
    let w := splitChunk off d
    let s2 : State := { s1 with
      commit := { s1.commit with header := putBytes s1.commit.header off w.1, last := s1.time.now }
      store := { s1.store with bytes := putBytes s1.store.bytes (imageBase k + Nat.max 128 off) w.2 } }
    s2.pauseWrites.ok slot index []

/-- The seal of the image store (R98): the held header is written, the slot checked under R66; an invalid one loses its header, and
IMG.STATUS goes on showing what the check found. DESIGN CHOICE: assumption log 108. The spec names no reason for that completion. -/
def State.imageSeal (s : State) (slot index : Nat) : State :=
  let k := s.commitSlot
  if s.commit.claim.isNone then s.invalid slot index Reason.state
  else
    let s1 : State := { s with
      store := { s.store with bytes := putBytes s.store.bytes (imageBase k) (heldHeader s.commit.header) }
      commit := { s.commit with claim := none, header := [], last := s.time.now } }
    let seq := s1.imageField k 8 4
    let good := s1.imageValid k
    let s2 := s1.serviceLog 6 slot (k + (if good then 0 else 0x8000)) (nw seq)
    if good then
      let s3 := { s2 with store := { s2.store with commits := s2.store.commits + 1 } }
      let s4 := s3.setRegs (if k = 0 then [(Item.IMG.STATUS_A, nw (s1.imageStatus k)), (Item.IMG.SEQ_A, nw seq)]
        else [(Item.IMG.STATUS_B, nw (s1.imageStatus k)), (Item.IMG.SEQ_B, nw seq)])
      s4.pauseWrites.ok slot index []
    else
      let s3 := (s2.eraseImage k).setReg (if k = 0 then Item.IMG.STATUS_A else Item.IMG.STATUS_B) (nw (s1.imageStatus k))
      (s3.useFree.pauseWrites).invalid slot index (s3.freeWord.toNat % 256)

/-- The size of a firmware slot. -/
abbrev firmwareSize : Nat := 0x200000

/-- The header of a firmware slot erased (R96, R506). -/
def State.eraseFirmware (s : State) (k st : Nat) : State :=
  { s with store := { s.store with fwBytes := putBytes s.store.fwBytes (k * 2 ^ 24) (List.replicate 128 0),
                                   fwState := s.store.fwState.set k st, fwVersion := s.store.fwVersion.set k 0,
                                   fwIface := s.store.fwIface.set k 0 } }

/-- A chunk for the firmware slot that is not running (R506). -/
def State.firmwareChunk (s : State) (slot index off : Nat) (d : List Byte) : State :=
  let k := 1 - s.store.fwRun
  if firmwareSize < off + d.length then s.invalid slot index Reason.range
  else if s.commit.fwClaim.isNone ∧ off ≠ 0 then s.invalid slot index Reason.state
  else
    let s1 := if s.commit.fwClaim.isNone then
        let t := s.eraseFirmware k 0
        { t with commit := { t.commit with fwClaim := some slot, fwHeader := [] } }
      else s
    let w := splitChunk off d
    let s2 : State := { s1 with
      commit := { s1.commit with fwHeader := putBytes s1.commit.fwHeader off w.1, fwLast := s1.time.now }
      store := { s1.store with fwBytes := putBytes s1.store.fwBytes (k * 2 ^ 24 + Nat.max 128 off) w.2 } }
    s2.pauseWrites.ok slot index []

/-- FW_MIN of the booted image (Table 3-2); the factory region asks for none. -/
def State.firmwareMin (s : State) : Nat :=
  if s.regN Item.IMG.BOOT_SLOT < 2 then s.imageField (s.regN Item.IMG.BOOT_SLOT) 0x16 2 else 0

/-- The seal of the firmware store (R505, R506): a valid slot becomes PENDING. -/
def State.firmwareSeal (s : State) (slot index : Nat) : State :=
  let k := 1 - s.store.fwRun
  if s.commit.fwClaim.isNone then s.invalid slot index Reason.state
  else
    let s1 : State := { s with
      store := { s.store with fwBytes := putBytes s.store.fwBytes (k * 2 ^ 24) (heldHeader s.commit.fwHeader) }
      commit := { s.commit with fwClaim := none, fwHeader := [], fwLast := s.time.now } }
    let ver := s1.fwField k 8 4
    let iface := s1.fwField k 0x16 2
    let fits := decide (s1.firmwareMin ≤ iface)
    let good := s1.firmwareValid k
    let s2 := s1.serviceLog 7 slot (k + (if good && fits then 0 else 0x8000)) (nw ver)
    if good && fits then
      let s3 := s2.setFwState k 3
      { s3 with store := { s3.store with fwVersion := s3.store.fwVersion.set k ver, fwIface := s3.store.fwIface.set k iface
                                         commits := s3.store.commits + 1 } }.pauseWrites.ok slot index []
    else
      let s3 := s2.eraseFirmware k 6
      if good then s3.pauseWrites.invalid slot index Reason.fwImage
      else (s3.useFree.pauseWrites).invalid slot index (s3.freeWord.toNat % 256)

/-- Whether an NV_COMMIT is for the firmware store, and whether it seals (Table 4-3, R506). -/
def toFirmware (m : HostMsg) : Bool := (beAt m.payload 0 4).testBit 31
def seals (m : HostMsg) : Bool := decide (beAt m.payload 4 1 = 1)

/-- The claim of the store that an NV_COMMIT is for: held by another slot it denies the command; an NV_COMMIT of its holder, whatever
becomes of it, restarts the 10 s (R96, R506). -/
def State.commitHolder (s : State) (fw : Bool) : Option Nat := if fw then s.commit.fwClaim else s.commit.claim
def State.commitHeard (s : State) (slot : Nat) (fw : Bool) : State :=
  if s.commitHolder fw ≠ some slot then s
  else if fw then { s with commit := { s.commit with fwLast := s.time.now } }
  else { s with commit := { s.commit with last := s.time.now } }

/-- NV_COMMIT's work: offset, seal flag, three zero bytes, data. -/
def State.doCommit (s : State) (slot index : Nat) (m : HostMsg) : State :=
  let p := m.payload
  let off := beAt p 0 4 % 2 ^ 31
  let d := p.drop 8
  let fw := toFirmware m
  let t := s.commitHeard slot fw
  if (t.commitHolder fw).isSome ∧ t.commitHolder fw ≠ some slot then t.denied slot index Reason.store
  else if p.length < 8 ∨ 1032 < p.length ∨ beAt p 5 3 ≠ 0 ∨ 1 < beAt p 4 1 ∨ (seals m ∧ d ≠ []) then t.invalid slot index Reason.range
  else if seals m then (if fw then t.firmwareSeal slot index else t.imageSeal slot index)
  else if fw then
    (if 2 ^ 21 ≤ off then t.invalid slot index Reason.range else t.firmwareChunk slot index off d)
  else t.imageChunk slot index off d

/-- A row that runs an NV_COMMIT of the kind a test picks. -/
def State.commitRow (s : State) (slot index : Nat) (is : HostMsg → Bool) : State :=
  s.hostRow slot index (fun m => decide (op m = Op.nvCommit) && is m) (fun u m => u.doCommit slot index m)

/-- NV_COMMIT_CHUNK (R95 to R97). -/
def execNvCommitChunk (slot : Fin 8) (index : Fin 64) (s : State) : Host.Outcome State Fault Refusal :=
  .next (s.act (fun t => t.commitRow slot index (fun m => !toFirmware m && !seals m)))

/-- NV_COMMIT_SEAL (R98). -/
def execNvCommitSeal (slot : Fin 8) (index : Fin 64) (s : State) : Host.Outcome State Fault Refusal :=
  .next (s.act (fun t => t.commitRow slot index (fun m => !toFirmware m && seals m)))

/-- NV_COMMIT_FW_CHUNK (R506). -/
def execNvCommitFwChunk (slot : Fin 8) (index : Fin 64) (s : State) : Host.Outcome State Fault Refusal :=
  .next (s.act (fun t => t.commitRow slot index (fun m => toFirmware m && !seals m)))

/-- NV_COMMIT_FW_SEAL (R505, R506). -/
def execNvCommitFwSeal (slot : Fin 8) (index : Fin 64) (s : State) : Host.Outcome State Fault Refusal :=
  .next (s.act (fun t => t.commitRow slot index (fun m => toFirmware m && seals m)))

end Sys2Proof.Machine
end

