-- ==== Sys2Proof/Machine/Integrity.lean ====
section
/-! DEFINITION. Clocks, device time, protected memories and configuration CRCs (chapters Architecture, Parameter Space, Faults and
Recovery): what the device notices of itself besides its units. -/

namespace Sys2Proof.Machine

/-- The sheaves with a bound feedback port (Table 1-4). -/
def State.portSheaves (s : State) : List Nat :=
  (List.range 12).filter (fun n => (List.range 4).any (fun p => decide (s.regN (Item.POS.SHEAF p) = n)))

/-- The clock frequency of an island in MHz (Table 1-2): the edges it shows in a window of 1 µs. -/
def Island.mhz : Island → Nat
  | .leg _ => 200
  | .pulse => 400
  | .engine => 250
  | .measurement => 160
  | .ports => 400
  | .shell => 500
  | .supervisor => 200

/-- Whether an island clock is lost (R27): no edge for 100 ns, or a frequency over 1 µs outside ±10 % of Table 1-2. -/
def Island.lost (i : Island) (gap edges : Nat) : Bool :=
  decide (100 ≤ gap ∨ edges * 10 < 9 * Island.mhz i ∨ 11 * Island.mhz i < edges * 10)

/-- ISLAND_CLOCK_LOSS (R27, R28, R450, Table 1-4): the time without an edge in ns and the edges of the last 1 µs window; where they
declare the clock lost, the affected sheaves reach their safe state; a leg island's clock is source 9 of the leg, any other the
device's source 32 and a SAFE cause until the next POWERUP. Without the supervisor's clock the release signals are absent, every leg is
OPEN and path B is open. DEDUCED: assumption log 54. -/
def execIslandClockLoss (island : Island) (gap edges : Nat) (s : State) : Host.Outcome State Fault Refusal :=
  .next (s.act (fun t =>
    if !Island.lost island gap edges then t
    else
      match island with
      | .leg n =>
        let t1 := t.raise (unitOf Kind.leg n) .F 9
        (match t.bind.sheafOfLeg n with
         | some h => t1.safeSheaf h
         | none => t1)
      | .ports => (t.portSheaves.foldl State.safeSheaf t).lostIsland 32 .island
      | .supervisor =>
        let t1 := { t with sup := { t.sup with pathB := true } }.stopRelease
        let t2 := match t1.trcSheaf with | some n => t1.supplies (t1.bind.legsOf n) false | none => t1
        (t2.lostIsland 32 .island).applySelection
      | _ => t.lostIsland 32 .island))

/-- DEBUG_HALT (R4, R5, R450): on a TH9648-AQ0 debug halt is unavailable and nothing happens; on a TH9648-AD0 a halt counts as loss of
the shell processor clock; the record is source 32, class L, and the device fault status is lasting while the halt lasts. -/
def execDebugHalt (s : State) : Host.Outcome State Fault Refusal :=
  if s.dev.partAD0 then
    .next (s.act (fun t => if t.dev.halted then t else { t with dev := { t.dev with halted := true } }.lostIsland 32 .debugHalt))
  else .next s

/-- DEBUG_RESUME (R450): the SAFE cause ends, the device fault status is idle again without a recovery counted, and a FAULT event of
class 0 is sent. Another lost island keeps the status lasting. -/
def execDebugResume (s : State) : Host.Outcome State Fault Refusal :=
  .next (s.act (fun t =>
    if !t.dev.halted then t
    else
      let u := unitOf Kind.device 0
      let t1 := { t with dev := { t.dev with halted := false } }.causeGone .debugHalt
      let other := decide (SafeCause.island ∈ t1.dev.causes) || decide (SafeCause.shellWord ∈ t1.dev.causes)
      let t2 := if other then t1 else t1.setUnit u { t1.unit u with state := .idle, atLimit := false }
      t2.event 3 (beBytes 4 u ++ [0, 32, 0, 0])))

/-- TIME_REALIGN (R29, R30): 1,024 ns after the last realignment the time keeper aligns every replica. -/
def execTimeRealign (s : State) : Host.Outcome State Fault Refusal :=
  .next (s.act (fun t =>
    let t1 := t.reach (t.time.replica + 1024)
    { t1 with time := { t1.time with replica := t1.time.now } }))

/-- What an uncorrectable word raises (R42, R453, Table 16-4): the word of a unit's memory stays marked until the unit's recovery
rewrites it (R156). A poisoned command record ends its command with ABORTED, and a completion that it held is lost with it.
DEDUCED: assumption log 48. -/
def State.poisonWord (s : State) (m : Memory) : State :=
  let mark : State := { s with badWords := insertNew m s.badWords }
  match m with
  | .supervisor => mark.grave 2
  | .leg n => mark.raise (unitOf Kind.leg n) .F 8
  | .sheaf n => mark.raise (unitOf Kind.sheaf n) .F 4
  | .lane n => mark.raise (unitOf Kind.lane n) .F 3
  | .generator g => mark.forEach (s.readersOf g) (fun t n => t.raise (unitOf Kind.lane n) .F 3)
  | .fast n => mark.raise (unitOf Kind.fast n) .F 2
  | .slow n => mark.raise (unitOf Kind.slow n) .F 2
  | .port n => mark.raise (unitOf Kind.port n) .F 9
  | .shell => mark.lostIsland 33 .shellWord
  | .mirror a => { s with poison := insertNew a s.poison }.raise (unitOf Kind.device 0) .W 23
  | .mailbox slot index =>
    (match s.cmd slot index with
     | none => s
     | some _ =>
       { s with seqs := s.seqs.filter (fun q => !(decide (q.slot = slot) && decide (q.index = index))) }.complete slot index
         Code.aborted Reason.none [])
  | .message c k => s.setCan c ((s.can c).setObject k { (s.can c).object k with poisoned := true })
  | .store k =>
    if k = 0 then mark.setReg Item.IMG.STATUS_A (s.reg Item.IMG.STATUS_A ||| 1)
    else mark.setReg Item.IMG.STATUS_B (s.reg Item.IMG.STATUS_B ||| 1)

/-- The even parity of an address: whether it has an odd number of ones (chapter Architecture). -/
def addressParity (a : Nat) : Bool := ((List.range 64).filter a.testBit).length % 2 = 1

/-- Whether a word that was read is uncorrectable (R40): three wrong bits, or a corrected address-parity bit that is not the parity of
the address used. Four or more wrong bits may go undetected: the free bit says whether they do. -/
def MemRead.uncorrectable (w : MemRead) (free : Bool) : Bool :=
  if w.wrong ≤ 2 then w.parity != addressParity w.address else decide (w.wrong = 3) || free

/-- MEMORY_SCRUB (R40 to R42): a word is read; one with at most two wrong bits and the parity of its address is corrected and written
back, and an uncorrectable one is poisoned. A read of the word by the unit that owns it finds the same. DEDUCED: assumption log 48. -/
def execMemoryScrub (memory : Memory) (word : MemRead) (s : State) : Host.Outcome State Fault Refusal :=
  .next (s.act (fun t =>
    let t1 := if word.wrong ≤ 3 then t else t.useFree
    if MemRead.uncorrectable word (bitOf t.freeWord 0) then t1.poisonWord memory else t1))

/-- The unit whose island uses an item, with its parameter-integrity source (R155, Table 16-2). -/
def State.integrityUnit (s : State) (a : Nat) : Option (Nat × Nat) :=
  let n := Item.inst a
  match Item.group a with
  | 0x09 => some (unitOf Kind.leg n, 8)
  | 0x0A => some (unitOf Kind.leg n, 8)
  | 0x0C => some (unitOf Kind.fast n, 2)
  | 0x0D => some (unitOf Kind.slow n, 2)
  | 0x0E => some (unitOf Kind.port n, 9)
  | 0x10 => some (unitOf Kind.lane n, 3)
  | 0x1C => some (unitOf Kind.can n, 3)
  | _ => (s.ownerSheaf a).map (fun m => (unitOf Kind.sheaf m, 4))

/-- The parameter-integrity source of a unit kind, where it has one. -/
def integritySource (u : Nat) : Option Nat :=
  match unitKind u with
  | 1 => some 4 | 2 => some 8 | 7 => some 9 | 9 => some 3 | 10 => some 2 | 11 => some 2 | 12 => some 3
  | _ => none

/-- The configurable items that a unit's island uses. -/
def State.islandItems (s : State) (unit : Nat) : List Nat :=
  Catalogue.configurable.filter (fun a => decide ((s.integrityUnit a).map Prod.fst = some unit))

/-- The CRC over the items of an island, formed as R157 forms that of a configuration, with some values replaced. DESIGN CHOICE:
assumption log 126. -/
def State.islandCrc (s : State) (l : List Nat) (other : List (Nat × Word)) : Word :=
  crc32 (l.flatMap (fun a => beBytes 4 a ++ wordBytes ((KMap.find other a).getD (s.item a))))

/-- PARAM_CRC_COMPARE (R155, R156): every 100 ms the CRC of a unit's island against that of the mirror; `held` are the values that the
island holds otherwise than the mirror. With a write on its way the comparison is repeated in the next period; the second mismatch in a
row is the unit's parameter-integrity fault. The shell processor restores the poisoned mirror words of that unit from its island, and
those of the items that no such island uses with them. -/
def execParamCrcCompare (unit : Nat) (held : List (Nat × Word)) (s : State) : Host.Outcome State Fault Refusal :=
  .next (s.act (fun t0 =>
    match integritySource unit with
    | none => t0
    | some src =>
      if !t0.unitExists unit then t0
      else
        let t := t0.every (Timer.compare unit) 100000000
        let mine (a : Nat) : Bool := decide ((t.integrityUnit a).map Prod.fst = some unit)
        if t.waits.any (fun p => mine p.addr) then t
        else
          let t1 := { t with poison := t.poison.filter (fun a => !mine a && (t.integrityUnit a).isSome) }
          let runs := KMap.get (fun _ => 0) t1.integrity unit
          let put (v : Nat) : State := { t1 with integrity := KMap.put (fun _ => 0) t1.integrity unit v }
          let l := t1.islandItems unit
          if t1.islandCrc l held = t1.islandCrc l [] then put 0
          else if runs + 1 < 2 then put (runs + 1)
          else ((put 0).bump Item.DEV.PARAM_MISMATCH).raise unit .F src))

/-- PARAM_CRC_UPDATE (R157, R158). -/
def execParamCrcUpdate (s : State) : Host.Outcome State Fault Refusal :=
  .next (s.act (fun t => t.setRegs [(Item.DEV.PARAM_CRC_ACT, t.crcActive), (Item.DEV.PARAM_CRC_SHD, t.crcShadow)]))

/-- GRAVE_FAULT (R13, R448): a lockstep mismatch, an uncorrectable word of the supervisor, a barrier failure, or both shutdown paths
failed. -/
def execGraveFault (source : Fin 4) (s : State) : Host.Outcome State Fault Refusal :=
  .next (s.act (fun t => t.grave (source.val + 1)))

end Sys2Proof.Machine
end

