-- ==== Sys2Proof/Machine/Schedule.lean ====
section
/-! DEFINITION. When a waiting command starts, and when one is over time: SEQUENCE_START, AT_START, COMMAND_TIMEOUT (R37, R125,
R126). -/

namespace Sys2Proof.Machine

/-- The work of a command by its opcode, with what the hardware shows. -/
def State.doCommand (s : State) (slot index : Nat) (f : Finding) (m : HostMsg) : State :=
  match op m with
  | 0x0002 => s.doTimeQuery slot index m
  | 0x0010 => s.doParamRead slot index m
  | 0x0011 => s.doWrite slot index m
  | 0x0012 => s.doSwap slot index m
  | 0x0013 => s.doClaim slot index m
  | 0x0020 => s.doProve slot index m
  | 0x0021 => s.doSheafStart slot index f.checks m
  | 0x0022 => s.doSheafStop slot index m
  | 0x0023 => s.doWinnow slot index m
  | 0x0024 => s.doRestore slot index f.test f.ok m
  | 0x0025 => s.doSelftest slot index f.test m
  | 0x0026 => s.doForce slot index m
  | 0x0030 => s.doMove slot index m
  | 0x0031 => s.doChargeSet slot index m
  | 0x0032 => s.doChargeArm slot index m
  | 0x0040 => s.doCommit slot index m
  | 0x0050 => s.doStreamOpen slot index f.load m
  | 0x0051 => s.doStreamClose slot index m
  | _ => s

/-- SEQUENCE_START (R37): the waiting sequence of a tag starts when it has a context and its units. -/
def execSequenceStart (slot : Fin 8) (index : Fin 64) (finding : Finding) (s : State) : Host.Outcome State Fault Refusal :=
  .next (s.act (fun t => t.hostRow slot index (fun m => isSequence (op m)) (fun u m => u.doCommand slot index finding m)))

/-- AT_START (R126): the time of a waiting command has come. -/
def execAtStart (slot : Fin 8) (index : Fin 64) (finding : Finding) (s : State) : Host.Outcome State Fault Refusal :=
  .next (s.act (fun t =>
    match t.cmd slot index with
    | none => t
    | some r =>
      match r.state, r.start with
      | .waiting, some at' =>
        (t.reach at').hostRow slot index (fun _ => true) (fun u m => u.doCommand slot index finding m)
      | _, _ => t))

/-- The proofs that a PROVE or RESTORE has started: of its unit, of the device those of its PROOF. -/
def State.proofsOf (s : State) (q : Sequence) : List ProofRun :=
  s.proofs.filter (fun p => decide (p.unit ∈ q.units)
    || (decide (unitOf Kind.device 0 ∈ q.units) && decide (unitKind p.unit = Kind.sheaf) && decide (p.sheaf ∈ s.dev.proved)))

/-- Stopping a proof at its command's timeout (R125): it ends with ABORTED, the gate supplies it had enabled for an OFF sheaf go off
(R56), and a sheaf it had taken to PROVING goes to OFF, one that RESTORE had taken there back to WINNOWED. DEDUCED: assumption log 81. -/
def State.stopProof (s : State) (restore : Bool) (p : ProofRun) : State :=
  let n := p.sheaf
  let s1 := { s with proofs := s.proofs.erase p }.setReg (Item.SHEAF.PROOF_RESULT n) (nw (1 + s.deferredBit n))
  match (s.sheaf n).state with
  | .off => s1.supplies p.legs false
  | .proving =>
    if unitKind p.unit ≠ Kind.sheaf then s1
    else if restore then s1.setSheaf n { s1.sheaf n with state := .winnowed }
    else s1.sheafOff n
  | _ => s1

/-- The abort action of a running sequence (R125): a MOVE stops its generator first (R398), an arm hands over what it has taken (R345),
a WINNOW gives the share back, a proof stops; the others end as they stand. DEDUCED: assumption log 81. -/
def State.abortSequence (s : State) (q : Sequence) : State :=
  let u := q.units.headD 0
  match q.kind with
  | .move =>
    let k := unitIndex u
    (match s.actSheaf k, (s.actuator k).move with
     | some n, some m => if m.ending.isSome then s else s.abortMove k n Code.timeout Reason.none
     | _, _ => s.endSequence q Code.timeout Reason.none [])
  | .arm => if s.charge.arm.isSome then s.armFail Code.timeout Reason.none else s
  | .winnow =>
    let sets := q.units.filter (fun x => decide (unitKind x = Kind.set))
    let keep := s.trac.ramps.filter (fun r => r.2.2 || decide (unitOf Kind.set r.1 ∉ sets))
    ({ s with trac := { s.trac with ramps := keep } }).endSequence q Code.timeout Reason.none []
  | .prove => (s.forEach (s.proofsOf q) (fun t p => t.stopProof false p)).endSequence q Code.timeout Reason.none []
  | .restore => (s.forEach (s.proofsOf q) (fun t p => t.stopProof true p)).endSequence q Code.timeout Reason.none []
  | .mode => s
  | .hvConnect => s
  | .write => s
  | _ => s.endSequence q Code.timeout Reason.none []

/-- A command over time: one that waits has no effect; a running sequence is aborted; short work runs to its end (R125). -/
def State.overTime (s : State) (slot index : Nat) (r : CmdRec) : State :=
  match r.state with
  | .done => s
  | .waiting => (s.reach r.deadline).complete slot index Code.timeout Reason.none []
  | .running =>
    match s.seqs.find? (fun q => decide (q.slot = slot) && decide (q.index = index)) with
    | none => s
    | some q => if contextKind q.kind then (s.reach r.deadline).abortSequence q else s

/-- COMMAND_TIMEOUT (R125): firmware does it, so neither a halted processor nor one that is not running does.
DEDUCED: assumption log 99. -/
def execCommandTimeout (slot : Fin 8) (index : Fin 64) (s : State) : Host.Outcome State Fault Refusal :=
  .next (s.act (fun t =>
    match t.cmd slot index with
    | none => t
    | some r => if !t.dev.fwRunning ∨ t.dev.halted then t else t.overTime slot index r))

end Sys2Proof.Machine
end

