-- ==== Sys2Proof/Machine/Dispatch.lean ====
section
/-! DEFINITION. One arm per command: its meaning, on everything but the queue. -/

namespace Sys2Proof.Machine

def exec (i : Instr) (s : State) : Host.Outcome State Fault Refusal :=
  match i with
  | .vsupStart => Sys2Proof.Machine.execVsupStart s
  | .vsupLowOperation mv => Sys2Proof.Machine.execVsupLowOperation mv s
  | .vsupHighOperation mv => Sys2Proof.Machine.execVsupHighOperation mv s
  | .vsupOverVoltage mv => Sys2Proof.Machine.execVsupOverVoltage mv s
  | .supplyLoss => Sys2Proof.Machine.execSupplyLoss s
  | .nporReset => Sys2Proof.Machine.execNporReset s
  | .startTestsEnd lockstepOk memoryOk clockOk => Sys2Proof.Machine.execStartTestsEnd lockstepOk memoryOk clockOk s
  | .firmwareStartTimeout => Sys2Proof.Machine.execFirmwareStartTimeout s
  | .powerupEnd a b => Sys2Proof.Machine.execPowerupEnd a b s
  | .proofEnd => Sys2Proof.Machine.execProofEnd s
  | .shutdownPathTestEnd test => Sys2Proof.Machine.execShutdownPathTestEnd test s
  | .sheafProofEnd unit legs link presence => Sys2Proof.Machine.execSheafProofEnd unit legs link presence s
  | .wake elapsed ms => Sys2Proof.Machine.execWake elapsed ms s
  | .shipHold10s => Sys2Proof.Machine.execShipHold10s s
  | .shipResetEnd => Sys2Proof.Machine.execShipResetEnd s
  | .shipHold20s => Sys2Proof.Machine.execShipHold20s s
  | .debugHalt => Sys2Proof.Machine.execDebugHalt s
  | .debugResume => Sys2Proof.Machine.execDebugResume s
  | .islandClockLoss island gap edges => Sys2Proof.Machine.execIslandClockLoss island gap edges s
  | .fabricClockStop => Sys2Proof.Machine.execFabricClockStop s
  | .timeRealign => Sys2Proof.Machine.execTimeRealign s
  | .memoryScrub memory word => Sys2Proof.Machine.execMemoryScrub memory word s
  | .paramCrcCompare unit held => Sys2Proof.Machine.execParamCrcCompare unit held s
  | .paramCrcUpdate => Sys2Proof.Machine.execParamCrcUpdate s
  | .discover port => Sys2Proof.Machine.execDiscover port s
  | .hostAttach port msg => Sys2Proof.Machine.execHostAttach port msg s
  | .hostDetach port msg => Sys2Proof.Machine.execHostDetach port msg s
  | .linkDown port => Sys2Proof.Machine.execLinkDown port s
  | .linkUp port => Sys2Proof.Machine.execLinkUp port s
  | .hostIdleTimeout slot => Sys2Proof.Machine.execHostIdleTimeout slot s
  | .slotHoldExpiry slot => Sys2Proof.Machine.execSlotHoldExpiry slot s
  | .commandAccept port msg => Sys2Proof.Machine.execCommandAccept port msg s
  | .collect port msg => Sys2Proof.Machine.execCollect port msg s
  | .completionResend slot => Sys2Proof.Machine.execCompletionResend slot s
  | .creditSend slot => Sys2Proof.Machine.execCreditSend slot s
  | .sequenceStart slot index finding => Sys2Proof.Machine.execSequenceStart slot index finding s
  | .commandTimeout slot index => Sys2Proof.Machine.execCommandTimeout slot index s
  | .atStart slot index finding => Sys2Proof.Machine.execAtStart slot index finding s
  | .storeClaimExpiry => Sys2Proof.Machine.execStoreClaimExpiry s
  | .timeQuery slot index => Sys2Proof.Machine.execTimeQuery slot index s
  | .paramRead slot index => Sys2Proof.Machine.execParamRead slot index s
  | .paramWrite slot index => Sys2Proof.Machine.execParamWrite slot index s
  | .swap slot index => Sys2Proof.Machine.execSwap slot index s
  | .claimTake slot index => Sys2Proof.Machine.execClaimTake slot index s
  | .claimRelease slot index => Sys2Proof.Machine.execClaimRelease slot index s
  | .prove slot index => Sys2Proof.Machine.execProve slot index s
  | .sheafStart slot index checks => Sys2Proof.Machine.execSheafStart slot index checks s
  | .sheafStopReady slot index => Sys2Proof.Machine.execSheafStopReady slot index s
  | .sheafStopOff slot index => Sys2Proof.Machine.execSheafStopOff slot index s
  | .winnow slot index => Sys2Proof.Machine.execWinnow slot index s
  | .restore slot index finding integrated => Sys2Proof.Machine.execRestore slot index finding integrated s
  | .selftest slot index finding => Sys2Proof.Machine.execSelftest slot index finding s
  | .force slot index => Sys2Proof.Machine.execForce slot index s
  | .moveDetent slot index => Sys2Proof.Machine.execMoveDetent slot index s
  | .movePosition slot index => Sys2Proof.Machine.execMovePosition slot index s
  | .moveHome slot index => Sys2Proof.Machine.execMoveHome slot index s
  | .moveLearn slot index => Sys2Proof.Machine.execMoveLearn slot index s
  | .chargeSet slot index => Sys2Proof.Machine.execChargeSet slot index s
  | .chargeArm slot index => Sys2Proof.Machine.execChargeArm slot index s
  | .chargeDisarm slot index => Sys2Proof.Machine.execChargeDisarm slot index s
  | .chargeArmAfterTimer slot index => Sys2Proof.Machine.execChargeArmAfterTimer slot index s
  | .nvCommitChunk slot index => Sys2Proof.Machine.execNvCommitChunk slot index s
  | .nvCommitSeal slot index => Sys2Proof.Machine.execNvCommitSeal slot index s
  | .nvCommitFwChunk slot index => Sys2Proof.Machine.execNvCommitFwChunk slot index s
  | .nvCommitFwSeal slot index => Sys2Proof.Machine.execNvCommitFwSeal slot index s
  | .streamOpen slot index load => Sys2Proof.Machine.execStreamOpen slot index load s
  | .streamClose slot index => Sys2Proof.Machine.execStreamClose slot index s
  | .streamFrameSend slot number late => Sys2Proof.Machine.execStreamFrameSend slot number late s
  | .modeReqDrive slot index => Sys2Proof.Machine.execModeReqDrive slot index s
  | .modeReqCharge slot index => Sys2Proof.Machine.execModeReqCharge slot index s
  | .modeReqService slot index => Sys2Proof.Machine.execModeReqService slot index s
  | .modeReqStandby slot index => Sys2Proof.Machine.execModeReqStandby slot index s
  | .hvConnect slot index => Sys2Proof.Machine.execHvConnect slot index s
  | .hvDisconnect slot index => Sys2Proof.Machine.execHvDisconnect slot index s
  | .soUserWrite slot index => Sys2Proof.Machine.execSoUserWrite slot index s
  | .dirPermitWrite slot index => Sys2Proof.Machine.execDirPermitWrite slot index s
  | .urgReq slot index => Sys2Proof.Machine.execUrgReq slot index s
  | .swTrig slot index => Sys2Proof.Machine.execSwTrig slot index s
  | .laneClose slot index => Sys2Proof.Machine.execLaneClose slot index s
  | .laneOpen slot index => Sys2Proof.Machine.execLaneOpen slot index s
  | .hostCmpWrite slot index => Sys2Proof.Machine.execHostCmpWrite slot index s
  | .shootClear slot index => Sys2Proof.Machine.execShootClear slot index s
  | .boRecover slot index => Sys2Proof.Machine.execBoRecover slot index s
  | .idclashClear slot index => Sys2Proof.Machine.execIdclashClear slot index s
  | .objSel slot index => Sys2Proof.Machine.execObjSel slot index s
  | .jrnSel slot index => Sys2Proof.Machine.execJrnSel slot index s
  | .logSel slot index => Sys2Proof.Machine.execLogSel slot index s
  | .fwConfirm slot index => Sys2Proof.Machine.execFwConfirm slot index s
  | .fwSelect slot index => Sys2Proof.Machine.execFwSelect slot index s
  | .serviceHostDetached => Sys2Proof.Machine.execServiceHostDetached s
  | .sdQuery bits length window nonce => Sys2Proof.Machine.execSdQuery bits length window nonce s
  | .sdReply => Sys2Proof.Machine.execSdReply s
  | .sdQuiet nonce own => Sys2Proof.Machine.execSdQuiet nonce own s
  | .spiWrite msg whole => Sys2Proof.Machine.execSpiWrite msg whole s
  | .spiRead whole => Sys2Proof.Machine.execSpiRead whole s
  | .spiStatus => Sys2Proof.Machine.execSpiStatus s
  | .spiOther length => Sys2Proof.Machine.execSpiOther length s
  | .ptpSync residual offset rate => Sys2Proof.Machine.execPtpSync residual offset rate s
  | .ptpHoldover => Sys2Proof.Machine.execPtpHoldover s
  | .sheafReload sheaf slew => Sys2Proof.Machine.execSheafReload sheaf slew s
  | .groupReload sheaf group => Sys2Proof.Machine.execGroupReload sheaf group s
  | .groupWrite sheaf group tick => Sys2Proof.Machine.execGroupWrite sheaf group tick s
  | .legEdge leg high on plateau phases level => Sys2Proof.Machine.execLegEdge leg high on plateau phases level s
  | .interpolatorRecal => Sys2Proof.Machine.execInterpolatorRecal s
  | .triggerEvent sheaf generator => Sys2Proof.Machine.execTriggerEvent sheaf generator s
  | .sheafRunStop sheaf => Sys2Proof.Machine.execSheafRunStop sheaf s
  | .syncinEdge tick => Sys2Proof.Machine.execSyncinEdge tick s
  | .syncinLoss => Sys2Proof.Machine.execSyncinLoss s
  | .profileWord leg cs delay goodHs goodLs => Sys2Proof.Machine.execProfileWord leg cs delay goodHs goodLs s
  | .desaturation leg high mv => Sys2Proof.Machine.execDesaturation leg high mv s
  | .overCurrent leg mv sat => Sys2Proof.Machine.execOverCurrent leg mv sat s
  | .softTurnOffEnd leg => Sys2Proof.Machine.execSoftTurnOffEnd leg s
  | .shootThrough leg => Sys2Proof.Machine.execShootThrough leg s
  | .profileTimingFault leg high level => Sys2Proof.Machine.execProfileTimingFault leg high level s
  | .gateSupplyUndervoltage leg high pos neg foldback => Sys2Proof.Machine.execGateSupplyUndervoltage leg high pos neg foldback s
  | .offStateDiag leg check => Sys2Proof.Machine.execOffStateDiag leg check s
  | .cycleLimit leg tick => Sys2Proof.Machine.execCycleLimit leg tick s
  | .zeroCurrent leg tick => Sys2Proof.Machine.execZeroCurrent leg tick s
  | .conversionDone converter code => Sys2Proof.Machine.execConversionDone converter code s
  | .converterTrigger converter sequence => Sys2Proof.Machine.execConverterTrigger converter sequence s
  | .backgroundSlot converter => Sys2Proof.Machine.execBackgroundSlot converter s
  | .backgroundStarve converter input => Sys2Proof.Machine.execBackgroundStarve converter input s
  | .converterCalibration converter low high => Sys2Proof.Machine.execConverterCalibration converter low high s
  | .openWireCheck input code => Sys2Proof.Machine.execOpenWireCheck input code s
  | .mainsCrossing phase time swing rms => Sys2Proof.Machine.execMainsCrossing phase time swing rms s
  | .mainsUnlockTimeout => Sys2Proof.Machine.execMainsUnlockTimeout s
  | .windowEnd converter w => Sys2Proof.Machine.execWindowEnd converter w s
  | .isoStateEnd mp mn => Sys2Proof.Machine.execIsoStateEnd mp mn s
  | .isoCycleEnd => Sys2Proof.Machine.execIsoCycleEnd s
  | .latchEvent port slot => Sys2Proof.Machine.execLatchEvent port slot s
  | .portEdge port levels tick stable => Sys2Proof.Machine.execPortEdge port levels tick stable s
  | .observerUpdate port sample => Sys2Proof.Machine.execObserverUpdate port sample s
  | .excitationPeriod port peak => Sys2Proof.Machine.execExcitationPeriod port peak s
  | .wireDisagreement port pair vP vN ticks => Sys2Proof.Machine.execWireDisagreement port pair vP vN ticks s
  | .ssiFrame port word lowBefore release => Sys2Proof.Machine.execSsiFrame port word lowBefore release s
  | .speedCompute port => Sys2Proof.Machine.execSpeedCompute port s
  | .compareEvent port c => Sys2Proof.Machine.execCompareEvent port c s
  | .laneSetComplete lane => Sys2Proof.Machine.execLaneSetComplete lane s
  | .laneSetTimeout lane => Sys2Proof.Machine.execLaneSetTimeout lane s
  | .laneTimer lane => Sys2Proof.Machine.execLaneTimer lane s
  | .laneComputeEnd lane => Sys2Proof.Machine.execLaneComputeEnd lane s
  | .profileStep generator => Sys2Proof.Machine.execProfileStep generator s
  | .trcRequestTimeout => Sys2Proof.Machine.execTrcRequestTimeout s
  | .trcLimitTimeout => Sys2Proof.Machine.execTrcLimitTimeout s
  | .trcWinnowRampEnd set => Sys2Proof.Machine.execTrcWinnowRampEnd set s
  | .trcStopRampEnd => Sys2Proof.Machine.execTrcStopRampEnd s
  | .auxPowerLimit => Sys2Proof.Machine.execAuxPowerLimit s
  | .auxbCurrentLimit => Sys2Proof.Machine.execAuxbCurrentLimit s
  | .softStartEnd buck => Sys2Proof.Machine.execSoftStartEnd buck s
  | .runningHiccup buck => Sys2Proof.Machine.execRunningHiccup buck s
  | .hiccupPauseEnd buck => Sys2Proof.Machine.execHiccupPauseEnd buck s
  | .auxAutoStart buck ms checks => Sys2Proof.Machine.execAuxAutoStart buck ms checks s
  | .auxInputLow buck us => Sys2Proof.Machine.execAuxInputLow buck us s
  | .auxOutputOv buck us => Sys2Proof.Machine.execAuxOutputOv buck us s
  | .pilotState plus minus periods ms => Sys2Proof.Machine.execPilotState plus minus periods ms s
  | .proximityChange mv => Sys2Proof.Machine.execProximityChange mv s
  | .chargerUpdate checks => Sys2Proof.Machine.execChargerUpdate checks s
  | .chargerWatchdog => Sys2Proof.Machine.execChargerWatchdog s
  | .safetyTimerExpiry => Sys2Proof.Machine.execSafetyTimerExpiry s
  | .mainsLoss amps ms => Sys2Proof.Machine.execMainsLoss amps ms s
  | .plugDebounceEnd => Sys2Proof.Machine.execPlugDebounceEnd s
  | .handover => Sys2Proof.Machine.execHandover s
  | .relayWaitEnd => Sys2Proof.Machine.execRelayWaitEnd s
  | .linkMatch => Sys2Proof.Machine.execLinkMatch s
  | .chgd0StopResync checks => Sys2Proof.Machine.execChgd0StopResync checks s
  | .chargeBurstPause => Sys2Proof.Machine.execChargeBurstPause s
  | .movePauseEnd actuator => Sys2Proof.Machine.execMovePauseEnd actuator s
  | .latchWaitEnd actuator => Sys2Proof.Machine.execLatchWaitEnd actuator s
  | .generatorDone generator => Sys2Proof.Machine.execGeneratorDone generator s
  | .moveSettled actuator => Sys2Proof.Machine.execMoveSettled actuator s
  | .moveTorqueCheck actuator => Sys2Proof.Machine.execMoveTorqueCheck actuator s
  | .actuatorStall actuator => Sys2Proof.Machine.execActuatorStall actuator s
  | .followingError actuator => Sys2Proof.Machine.execFollowingError actuator s
  | .homingStop actuator => Sys2Proof.Machine.execHomingStop actuator s
  | .homingTimeout actuator => Sys2Proof.Machine.execHomingTimeout actuator s
  | .parkProofLost actuator => Sys2Proof.Machine.execParkProofLost actuator s
  | .stoRequest a b ns => Sys2Proof.Machine.execStoRequest a b ns s
  | .stoRelease => Sys2Proof.Machine.execStoRelease s
  | .stoDiscrepancy => Sys2Proof.Machine.execStoDiscrepancy s
  | .torqueMonitor angle mv => Sys2Proof.Machine.execTorqueMonitor angle mv s
  | .supervisorSpeedEval port faults speed pos => Sys2Proof.Machine.execSupervisorSpeedEval port faults speed pos s
  | .speedCrossCheck port => Sys2Proof.Machine.execSpeedCrossCheck port s
  | .channelTest ok => Sys2Proof.Machine.execChannelTest ok s
  | .outputRequest output on => Sys2Proof.Machine.execOutputRequest output on s
  | .testPulseCycle output outcome => Sys2Proof.Machine.execTestPulseCycle output outcome s
  | .testCycleMissing output => Sys2Proof.Machine.execTestCycleMissing output s
  | .pathAgeExceeded => Sys2Proof.Machine.execPathAgeExceeded s
  | .graveFault source => Sys2Proof.Machine.execGraveFault source s
  | .selftestResult unit finding => Sys2Proof.Machine.execSelftestResult unit finding s
  | .restEnd unit integrated presence => Sys2Proof.Machine.execRestEnd unit integrated presence s
  | .dependentReproof sheaf => Sys2Proof.Machine.execDependentReproof sheaf s
  | .tempEstimate dies vsup vso => Sys2Proof.Machine.execTempEstimate dies vsup vso s
  | .tempRateEval => Sys2Proof.Machine.execTempRateEval s
  | .thermalStop leg => Sys2Proof.Machine.execThermalStop leg s
  | .thermalHoldRelease unit => Sys2Proof.Machine.execThermalHoldRelease unit s
  | .tbCut cut temp readings => Sys2Proof.Machine.execTbCut cut temp readings s
  | .tbRelease cut temp readings => Sys2Proof.Machine.execTbRelease cut temp readings s
  | .canFrameReceived controller frame sof => Sys2Proof.Machine.execCanFrameReceived controller frame sof s
  | .canFrameSent controller sof => Sys2Proof.Machine.execCanFrameSent controller sof s
  | .canTxChoice controller time => Sys2Proof.Machine.execCanTxChoice controller time s
  | .canSignalPeriod controller object => Sys2Proof.Machine.execCanSignalPeriod controller object s
  | .canError controller code transmitting after excepted dataPhase dataField => Sys2Proof.Machine.execCanError controller code transmitting after excepted dataPhase dataField s
  | .canBusOff controller => Sys2Proof.Machine.execCanBusOff controller s
  | .canRecoveryEnd controller => Sys2Proof.Machine.execCanRecoveryEnd controller s
  | .canRateLock controller frame sof => Sys2Proof.Machine.execCanRateLock controller frame sof s
  | .canDominantTimeout controller us => Sys2Proof.Machine.execCanDominantTimeout controller us s
  | .canHostHeartbeat controller slot frame sof => Sys2Proof.Machine.execCanHostHeartbeat controller slot frame sof s
  | .canHeartbeatTimeout controller slot => Sys2Proof.Machine.execCanHeartbeatTimeout controller slot s
  | .canDeviceHeartbeat controller => Sys2Proof.Machine.execCanDeviceHeartbeat controller s
  | .compactMessage controller slot frame sof => Sys2Proof.Machine.execCompactMessage controller slot frame sof s
  | .nporRelease => Sys2Proof.Machine.execNporRelease s
  | .shipLevelChange low ms => Sys2Proof.Machine.execShipLevelChange low ms s
  | .vsupOverVoltageEnd mv => Sys2Proof.Machine.execVsupOverVoltageEnd mv s
  | .gatePowerWarning powers => Sys2Proof.Machine.execGatePowerWarning powers s
  | .supplyOutputShort output short ma => Sys2Proof.Machine.execSupplyOutputShort output short ma s
  | .evseTimeout => Sys2Proof.Machine.execEvseTimeout s
  | .inrushTimeout => Sys2Proof.Machine.execInrushTimeout s
  | .nvPauseEnd => Sys2Proof.Machine.execNvPauseEnd s
  | .readbackFault output vP vN mA => Sys2Proof.Machine.execReadbackFault output vP vN mA s

end Sys2Proof.Machine
end

