-- ==== Sys2Proof/Machine/Step.lean ====
section
/-! DEFINITION. One step: the command at the front of the queue takes its effect; on an empty queue the block idles
(assumption log 1). -/

namespace Sys2Proof.Machine

/-- Putting a command at the front of the queue. -/
def State.push (s : State) (i : Instr) : State := { s with pending := i :: s.pending }

/-- A step: the front command is taken off the queue and executed; with nothing waiting the state stays.
DESIGN CHOICE: assumption log 1. -/
def step (s : State) : Host.Outcome State Fault Refusal :=
  match s.pending with
  | [] => .next s
  | i :: rest => exec i { s with pending := rest }

/-- The state with the command that a word spells at the front of its queue; unchanged where the word spells none.
DESIGN CHOICE: assumption log 17. -/
def State.withFetchWord (s : State) (nbits w : Nat) : State :=
  match decodeTableWord nbits w with
  | some i => s.push i
  | none => s

end Sys2Proof.Machine
end

