-- ==== Sys2Proof/Safety.lean ====
section
/-! DEFINITION. What counts as a safe state and a safe course, in the terms the statements use. -/

namespace Sys2Proof.Machine

/-- A leg that differs from another at most in its temperature band. -/
def Leg.Banded (l m : Leg) : Prop :=
  m = { l with band := m.band, bandNext := m.bandNext, bandOwn := m.bandOwn, failsafe := m.failsafe }

/-- Every leg as it was but for its temperature band: a value of LEG.BAND_FAILSAFE that waited may take effect with any command (R144,
R164). -/
def State.LegsStand (s t : State) : Prop := ∀ n, (s.leg n).Banded (t.leg n)

/-- What no command undoes between two states (R4, R69, R508): the part's marking, the rollback floors. -/
def State.Kept (s t : State) : Prop :=
  t.dev.partAD0 = s.dev.partAD0 ∧ s.store.floor ≤ t.store.floor ∧ s.store.fwFloor ≤ t.store.fwFloor

/-- A state in which nothing waits for a boundary and no SAFE cause or lock stands: a command's own effect is all that happens. -/
structure State.Calm (s : State) : Prop where
  live : s.live = true
  waits : s.waits = []
  swaps : s.swaps = []
  safe : s.dev.state ≠ .safe
  locked : s.dev.state ≠ .locked

/-- Every switch of every leg off, every safety output off, every sheaf OFF, no host slot in use. -/
structure State.Dark (s : State) : Prop where
  legs : ∀ n, (s.leg n).hs.on = false ∧ (s.leg n).ls.on = false
  outs : ∀ n, (s.out n).on = false
  sheaves : ∀ n, (s.sheaf n).state = .off
  slots : ∀ n, (s.slot n).status = .free

/-- What loss of supply and reset leave (R62, R454): the LVSW latch, the journal, both image slots. -/
structure State.Lasts (s t : State) : Prop where
  latch : t.lv.latchOpen = s.lv.latchOpen
  journal : t.store.journal = s.store.journal
  bytes : t.store.bytes = s.store.bytes

/-- The fault status that a detection leaves on a unit (Table 16-3): its state, class and source. -/
def State.Shows (s : State) (u : Nat) (st : Handling) (cls : FaultClass) (src : Nat) : Prop :=
  (s.unit u).state = st ∧ (s.unit u).cls = cls ∧ (s.unit u).src = src

/-- No source of a lower number has made this unit's record on a clock edge that is still to come, so that a detection of this source makes
one (R438). -/
def State.Unranked (s : State) (u src : Nat) : Prop := ∀ now, s.time.now ≤ now → (s.unit u).outranks u now src = false

/-- An idle unit that takes note of a detection of this source (R438, R439). -/
def State.Notices (s : State) (u src : Nat) : Prop := (s.unit u).state = .idle ∧ s.Unranked u src

/-- A warning and nothing more (R439, R455): the unit's fault status names the class-W source, and no block stops. -/
def State.WarnsOnly (s t : State) (u src : Nat) : Prop :=
  t.Shows u .idle .W src ∧ s.LegsStand t ∧ t.sheaf = s.sheaf ∧ t.out = s.out ∧ t.lane = s.lane
    ∧ t.dev.state = s.dev.state

/-- A record of classes F, L and G (R439, R454): it stands first in the journal of 1,024. -/
def State.Journals (s t : State) (u : Nat) (cls : FaultClass) (src : Nat) : Prop :=
  ∃ r : JournalRec, t.store.journal = (r :: s.store.journal).take 1024 ∧ r.unit = nw u
    ∧ bitsOf r.record.source 31 24 = cls.code ∧ bitsOf r.record.source 23 16 = src

/-- A class-F or class-L detection taken up (R440, R454): the unit's fault status, and the record, first in the journal. -/
def State.TakesUp (s t : State) (u : Nat) (st : Handling) (cls : FaultClass) (src : Nat) : Prop :=
  t.Shows u st cls src ∧ s.Journals t u cls src

/-- The whole power side in its safe state (Tables 3-6 and 3-8): the device in the state given, every sheaf in SAFE but those that
were OFF. -/
def State.AllSafe (s t : State) (d : DevState) : Prop :=
  t.dev.state = d ∧ ∀ n < 12, (t.sheaf n).state = if (s.sheaf n).state = .off then .off else .safe

/-- What a grave fault leads to (R448): LOCKED, no gate supply, no output, the record of class G in the journal. -/
def State.Locks (s t : State) (src : Nat) : Prop :=
  s.AllSafe t .locked ∧ (∀ n < 48, (t.leg n).supplies = false) ∧ (∀ n < 8, (t.out n).on = false)
    ∧ s.Journals t (unitOf Kind.supervisor 0) .G src
/-- A command in its tag's record whose turn has come (R36, R37, R71, R118, R124 to R126): nothing holds it up, its time is there, it is not
over time, its claims are held; it ends no earlier command, and no running sequence bears its tag. -/
structure State.Due (s : State) (slot index : Nat) (r : CmdRec) : Prop where
  cmd : s.cmd slot index = some r
  waiting : r.state = .waiting
  may : s.mayStart r = true
  time : r.start = none ∨ ∃ t, r.start = some t ∧ t ≤ s.time.now ∧ s.time.now ≤ t + s.regN (Item.HOST.AT_TOL slot) * 1000
  claim : s.lacksClaim slot r.msg = false
  early : s.time.now < r.deadline
  held : (s.slot slot).status ≠ .free
  alone : s.endWaiting r = s
  fresh : ∀ q ∈ s.seqs, q.slot ≠ slot ∨ q.index ≠ index

/-- The answer to a command (R102, R113, R123): its record holds the completion of now with its code, reason and result. -/
def State.Answers (t : State) (slot index : Nat) (r : CmdRec) (code reason : Nat) (result : List Byte) : Prop :=
  t.cmd slot index = some { r with state := .done, code := code, reason := reason, result := result
                                   completed := t.time.now, sent := t.time.now }

/-- A command that goes on as a sequence (R37, R123): its record is in execution. -/
def State.Runs (t : State) (slot index : Nat) (r : CmdRec) : Prop := t.cmd slot index = some { r with state := .running }
/-- A message that its slot's record may take (R102, R106, R107, R113, R115, R122): on the port of an attached slot, of the length it says,
with a free tag, credits, authenticated and fresh, and nothing that refuses its opcode. -/
structure State.MayTake (s : State) (port : Nat) (m : HostMsg) : Prop where
  attached : (s.slot (m.tag.toNat / 64 % 8)).status = .attached
  port : (s.slot (m.tag.toNat / 64 % 8)).port = port
  short : m.payload.length ≤ 1460
  length : m.length.toNat = m.payload.length
  free : s.cmd (m.tag.toNat / 64 % 8) (m.tag.toNat % 64) = none
  credits : creditCost m.payload.length ≤ (s.slot (m.tag.toNat / 64 % 8)).credits
  mac : authentic m (s.slot (m.tag.toNat / 64 % 8)).key = true
  fresh : (s.slot (m.tag.toNat / 64 % 8)).freshIn < m.fresh.toNat
  allowed : s.refusal (m.tag.toNat / 64 % 8) m = none

/-- A message taken (R102, R107, R113, R115): its tag holds it, waiting; its freshness and its credits are noted. -/
def State.Takes (s t : State) (m : HostMsg) : Prop :=
  let n := m.tag.toNat / 64 % 8
  (∃ r, t.cmd n (m.tag.toNat % 64) = some r ∧ r.state = .waiting ∧ r.msg = m ∧ r.order = s.dev.nextOrder ∧ r.start = s.startAt m)
    ∧ (t.slot n).freshIn = m.fresh.toNat ∧ (t.slot n).credits = (s.slot n).credits - creditCost m.payload.length

/-- One byte of the image store, and one of the firmware store (Table 3-1, R505). -/
def State.imageByte (s : State) (a : Nat) : Byte := KMap.get (fun _ => (0 : Byte)) s.store.bytes a
def State.firmwareByte (s : State) (a : Nat) : Byte := KMap.get (fun _ => (0 : Byte)) s.store.fwBytes a

end Sys2Proof.Machine
end

