-- ==== Sys2Proof/Certificates/Slice0/Obligations.lean ====
section
/-! DEFINITION. The statements for the provers: what the commands of every family do, what the machine keeps, where a command has to
wait or is turned away. A statement names the rules it follows; the frames name what stays. -/

open Sys2Proof Sys2Proof.Machine

/-- R55 and R54: loss of supply, and nPOR held low, switch every leg and every safety output off and put the module in reset; the LVSW latch
keeps its state (R62), the journal stays, the last fault record is written (Table 2-8). -/
def Obligations.SupplyLossAndResetSwitchEverythingOff : Prop :=
  ∀ s : State,
    (s.dev.powered = true → ∃ t, exec .supplyLoss s = .next t ∧ t.dev.powered = false ∧ t.live = false ∧ t.Dark ∧ s.Lasts t
      ∧ t.store.lastRecord = s.store.journal.head?) ∧
    (s.dev.powered = true → s.dev.nporLow = false → ∃ t, exec .nporReset s = .next t ∧ t.dev.nporLow = true ∧ t.live = false ∧ t.Dark
      ∧ s.Lasts t ∧ t.store.lastRecord = s.store.journal.head?)

/-- Table 2-6, R29, R54, R72: VSUP rising through 8.6 V with nPOR high, and nPOR going high with VSUP present, bring the device out of reset
into POWERUP with device time at 0, everything off, and BOOT_CAUSE naming the cause. -/
def Obligations.StartLeavesResetIntoPowerup : Prop :=
  ∀ s : State,
    (s.dev.powered = false → s.dev.nporLow = false → ∃ t, exec .vsupStart s = .next t ∧ t.dev.powered = true ∧ t.dev.state = .powerup
      ∧ t.time.now = 0 ∧ t.Dark ∧ s.Lasts t ∧ t.reg Item.DEV.BOOT_CAUSE = nw (if s.store.supplied then s.dev.cause else 0)) ∧
    (s.dev.powered = true → s.dev.nporLow = true → ∃ t, exec .nporRelease s = .next t ∧ t.dev.nporLow = false ∧ t.dev.state = .powerup
      ∧ t.time.now = 0 ∧ t.Dark ∧ s.Lasts t ∧ t.reg Item.DEV.BOOT_CAUSE = nw s.dev.cause)

/-- R387, R86: WAKE high for 10 ms with the LVSW latch open closes it, a shorter one does nothing; in TRANSPORT the device leaves reset
into POWERUP and device time goes on from the count of the always-on part, so that it never steps backward. -/
def Obligations.WakeClosesTheLatch : Prop :=
  ∀ (s : State) (elapsed ms : Nat),
    (s.dev.powered = true → s.lv.latchOpen = true → 10 ≤ ms → ∃ t, exec (.wake elapsed ms) s = .next t ∧ t.lv.latchOpen = false
      ∧ (s.dev.state = .transport → s.dev.nporLow = false → t.dev.state = .powerup ∧ t.time.now = s.time.now + elapsed ∧ t.Dark)
      ∧ (s.dev.state ≠ .transport → t.dev.state = s.dev.state ∧ t.leg = s.leg ∧ t.sheaf = s.sheaf)) ∧
    (ms < 10 → ∃ t, exec (.wake elapsed ms) s = .next t ∧ t.lv = s.lv ∧ t.dev.state = s.dev.state ∧ t.leg = s.leg
      ∧ t.sheaf = s.sheaf)

/-- Tables 2-5, 2-9 and 15-5, R58, R225, R408, R433, R438, R522: the supply warnings, a short of a supply output, a port current outside its
limits, a starved background input, a discrepancy of the STO inputs and an overdue path test raise their class-W source on an idle unit and
stop nothing. -/
def Obligations.WarningsStopNothing : Prop :=
  ∀ s : State, s.live = true →
    (∀ mv, 8200 ≤ mv → mv ≤ 9000 → s.Notices (unitOf Kind.device 0) 16 →
      ∃ t, exec (.vsupLowOperation mv) s = .next t ∧ s.WarnsOnly t (unitOf Kind.device 0) 16) ∧
    (∀ mv, 60000 ≤ mv → mv ≤ 64000 → s.Notices (unitOf Kind.device 0) 17 →
      ∃ t, exec (.vsupHighOperation mv) s = .next t ∧ s.WarnsOnly t (unitOf Kind.device 0) 17) ∧
    (∀ powers : List Nat, s.regN Item.DEV.GATE_PWR_WARN < powers.sum → s.Notices (unitOf Kind.device 0) 19 →
      ∃ t, exec (.gatePowerWarning powers) s = .next t ∧ s.WarnsOnly t (unitOf Kind.device 0) 19) ∧
    (∀ (o : Fin 6) ma, o.val < 2 → s.Notices (unitOf Kind.device 0) 25 →
      ∃ t, exec (.supplyOutputShort o true ma) s = .next t ∧ s.WarnsOnly t (unitOf Kind.device 0) 25) ∧
    (∀ (o : Fin 6) short ma, 2 ≤ o.val → s.portSupplyOn (o.val - 2) = true → s.Notices (unitOf Kind.port (o.val - 2)) 18 →
      short = true ∨ ma < s.regN (Item.POS.SUP_IMIN (o.val - 2)) ∨ s.regN (Item.POS.SUP_IMAX (o.val - 2)) < ma →
      ∃ t, exec (.supplyOutputShort o short ma) s = .next t ∧ s.WarnsOnly t (unitOf Kind.port (o.val - 2)) 18) ∧
    (∀ (c : Fin 16) (i : Fin 8), bitOf (s.reg (Item.ADCF.BG_MASK c)) i = true → s.Notices (unitOf Kind.fast c) 17 →
      ∃ t, exec (.backgroundStarve c i) s = .next t ∧ s.WarnsOnly t (unitOf Kind.fast c) 17) ∧
    (∀ since, s.sup.differSince = some since → s.sup.discrepancy = false → s.Notices (unitOf Kind.supervisor 0) 16 →
      ∃ t, exec .stoDiscrepancy s = .next t ∧ s.WarnsOnly t (unitOf Kind.supervisor 0) 16 ∧ t.sup.discrepancy = true
        ∧ since + s.regN Item.SAFE.STO_DISC_T * 1000000 ≤ t.time.now) ∧
    (s.sup.pathAgeRaised = false → s.Notices (unitOf Kind.supervisor 0) 17 →
      ∃ t, exec .pathAgeExceeded s = .next t ∧ s.WarnsOnly t (unitOf Kind.supervisor 0) 17 ∧ t.sup.pathAgeRaised = true
        ∧ s.sup.pathAt + s.regN Item.SAFE.PATH_AGE_MAX * 3600000000000 < t.time.now)

/-- Table 3-6, R27, R84, R405, R406, R409, R450, R532, Table 2-5: an over-voltage of VSUP, an STO input low beyond its filter, torque beyond
its margin for UT_T and the loss of a device island's clock put the device in SAFE with their cause present, and every sheaf in SAFE that is
not OFF; a low pulse within the filter stops nothing. -/
def Obligations.SafeCausesStopThePowerSide : Prop :=
  ∀ s : State, s.live = true →
    s.dev.state = .proof ∨ s.dev.state = .standby ∨ s.dev.state = .drive ∨ s.dev.state = .charge ∨ s.dev.state = .service →
    (∀ mv, 64000 < mv → ∃ t, exec (.vsupOverVoltage mv) s = .next t ∧ s.AllSafe t .safe ∧ SafeCause.overVoltage ∈ t.dev.causes
      ∧ ∀ n < 8, (t.out n).on = false) ∧
    (∀ (a b : Bool) ns, a = false ∨ b = false → 300 + s.regN Item.SAFE.STO_TP_TOL * 1000 < ns → SafeCause.sto ∉ s.dev.causes →
      ∃ t, exec (.stoRequest a b ns) s = .next t ∧ s.AllSafe t .safe ∧ SafeCause.sto ∈ t.dev.causes ∧ t.sup.latched = true
        ∧ t.sup.pathB = true) ∧
    (∀ (a b : Bool) ns, ns ≤ 300 + s.regN Item.SAFE.STO_TP_TOL * 1000 → s.sup.stoA = true → s.sup.stoB = true →
      s.forced supUnit 0 = false → s.forced supUnit 1 = false →
      ∃ t, exec (.stoRequest a b ns) s = .next t ∧ t.sup.stoA = true ∧ t.sup.stoB = true ∧ t.sup.latched = s.sup.latched
        ∧ t.dev.state = s.dev.state ∧ t.dev.causes = s.dev.causes ∧ t.sheaf = s.sheaf ∧ t.out = s.out) ∧
    (∀ (angle : BitVec 16) mv since, s.regN Item.SAFE.KT ≠ 0 → s.forced supUnit 5 = false → SafeCause.torque ∉ s.dev.causes →
      F32.lt (F32.ofInt (s.regI Item.SAFE.UT_MARGIN)) (F32.abs (F32.sub (s.supTorque angle mv) s.torqueShared)) = true →
      s.sup.torqueSince = some since → since + s.regN Item.SAFE.UT_T * 1000000 ≤ s.time.now →
      ∃ t, exec (.torqueMonitor angle mv) s = .next t ∧ s.AllSafe t .safe ∧ SafeCause.torque ∈ t.dev.causes ∧ t.sup.pathB = true) ∧
    (∀ (i : Island) gap edges, i = .pulse ∨ i = .engine ∨ i = .measurement ∨ i = .shell → Island.lost i gap edges = true →
      s.Notices (unitOf Kind.device 0) 32 →
      ∃ t, exec (.islandClockLoss i gap edges) s = .next t ∧ s.AllSafe t .safe ∧ SafeCause.island ∈ t.dev.causes
        ∧ s.TakesUp t (unitOf Kind.device 0) .lasting .L 32) ∧
    (s.dev.partAD0 = true → s.dev.halted = false →
      ∃ t, exec .debugHalt s = .next t ∧ s.AllSafe t .safe ∧ SafeCause.debugHalt ∈ t.dev.causes ∧ t.dev.halted = true)

/-- R448, R13, R40, R53, R427, R453: a grave fault, an uncorrectable word of the supervisor, a failed lockstep or memory test and a test
that finds both shutdown paths failed lock the device: gate supplies and outputs off, every sheaf in SAFE that is not OFF. A word with at most
two wrong bits and the parity of its address raises nothing. -/
def Obligations.GraveFaultsLockTheDevice : Prop :=
  ∀ s : State, s.live = true →
    (∀ src : Fin 4, ∃ t, exec (.graveFault src) s = .next t ∧ s.Locks t (src.val + 1)) ∧
    (∀ w : MemRead, w.wrong = 3 ∨ (w.wrong ≤ 2 ∧ w.parity ≠ addressParity w.address) →
      ∃ t, exec (.memoryScrub .supervisor w) s = .next t ∧ s.Locks t 2) ∧
    (∀ (m : Memory) (w : MemRead), w.wrong ≤ 2 → w.parity = addressParity w.address →
      ∃ t, exec (.memoryScrub m w) s = .next t ∧ t.badWords = s.badWords ∧ t.poison = s.poison ∧ t.unit = s.unit
        ∧ t.sheaf = s.sheaf ∧ t.dev.state = s.dev.state) ∧
    (s.dev.tested = false → s.dev.state = .powerup →
      (∀ m c, ∃ t, exec (.startTestsEnd false m c) s = .next t ∧ s.Locks t 1)
        ∧ ∀ c, ∃ t, exec (.startTestsEnd true false c) s = .next t ∧ s.Locks t 2) ∧
    (∀ r : PathTest, s.dev.state ≠ .locked → s.dev.pathTesting = true → pathAFailed (PathTest.failed r) (PathTest.silentA r) = true →
      pathBFailed (PathTest.failed r) (PathTest.silentB r) = true →
      ∃ t, exec (.shutdownPathTestEnd r) s = .next t ∧ t.dev.state = .locked ∧ t.dev.pathPassed = false
        ∧ s.Journals t (unitOf Kind.supervisor 0) .G 4)

/-- Table 3-3, Table 3-6, R70, R81, R507, R427: the start tests pass; firmware that does not start causes a reset; POWERUP ends in SAFE with
a SAFE cause present, else in PROOF or STANDBY; a path test that passes clears its SAFE cause. -/
def Obligations.StartUpTakesItsCourse : Prop :=
  ∀ s : State, s.live = true → s.dev.state ≠ .locked →
    (s.dev.tested = false → s.dev.state = .powerup → ∃ t, exec (.startTestsEnd true true true) s = .next t ∧ t.dev.tested = true
      ∧ t.dev.state = .powerup ∧ t.sup.releases = BitVec.allOnes 48 ∧ t.sheaf = s.sheaf ∧ t.unit = s.unit) ∧
    (s.dev.state = .powerup → s.dev.fwRunning = false → s.dev.bootable = true → ∃ t, exec .firmwareStartTimeout s = .next t
      ∧ t.dev.state = .powerup ∧ t.time.now = s.time.now ∧ t.legs = [] ∧ t.outs = [] ∧ t.sheaves = [] ∧ t.units = []) ∧
    (∀ a b, s.dev.state = .powerup → s.dev.tested = true → s.dev.bootable = true → s.dev.fwRunning = false →
      ∃ t, exec (.powerupEnd a b) s = .next t ∧ t.dev.fwRunning = true ∧ t.dev.causes = s.dev.causes
        ∧ (s.dev.causes ≠ [] → t.dev.state = .safe) ∧ (s.dev.causes = [] → t.dev.state = .standby ∨ t.dev.state = .proof)) ∧
    (∀ r : PathTest, s.dev.pathTesting = true → r.blockRead = true → r.ascRead = true → r.absentNs ≤ 300 → r.lockoutUs ≤ 100 →
      r.regulateUs ≤ 1000 → r.drives = 15 →
      ∃ t, exec (.shutdownPathTestEnd r) s = .next t ∧ t.dev.state = s.dev.state ∧ t.dev.pathTesting = false
        ∧ t.dev.pathPassed = true ∧ SafeCause.path ∉ t.dev.causes ∧ s.dev.proofStart + r.us * 1000 ≤ t.time.now) ∧
    (s.dev.state = .proof → s.dev.pathTesting = false → s.proofs = [] → ∃ t, exec .proofEnd s = .next t
      ∧ t.dev.state = if s.dev.pathPassed then .standby else .safe)

/-- R407, R408, Table 2-5, R450, R532: a SAFE cause goes when its reason goes, that of STO 10 ms after both inputs are high; the device
keeps its state until a host asks. -/
def Obligations.SafeCausesGoWithTheirReason : Prop :=
  ∀ s : State, s.live = true → s.dev.state ≠ .locked →
    (∀ since, s.sup.highSince = some since → s.sup.latched = true → s.forced supUnit 0 = false → s.forced supUnit 1 = false →
      s.sup.discrepancy = false ∨ s.sup.bothLowSeen = true →
      ∃ t, exec .stoRelease s = .next t ∧ t.sup.latched = false ∧ t.sup.discrepancy = false ∧ SafeCause.sto ∉ t.dev.causes
        ∧ since + 10000000 ≤ t.time.now ∧ t.dev.state = s.dev.state ∧ t.sheaf = s.sheaf ∧ s.LegsStand t) ∧
    (s.sup.highSince = none ∨ s.forced supUnit 0 = true ∨ s.forced supUnit 1 = true
        ∨ (s.sup.discrepancy = true ∧ s.sup.bothLowSeen = false) →
      ∃ t, exec .stoRelease s = .next t ∧ t.sup = s.sup ∧ t.dev.causes = s.dev.causes) ∧
    (∀ mv, mv < 61000 → ∃ t, exec (.vsupOverVoltageEnd mv) s = .next t ∧ t.dev.vsupOver = false ∧ SafeCause.overVoltage ∉ t.dev.causes
      ∧ t.dev.state = s.dev.state ∧ t.sheaf = s.sheaf ∧ s.LegsStand t) ∧
    (s.dev.halted = true → SafeCause.island ∉ s.dev.causes → SafeCause.shellWord ∉ s.dev.causes →
      ∃ t, exec .debugResume s = .next t ∧ t.dev.halted = false ∧ SafeCause.debugHalt ∉ t.dev.causes
        ∧ (t.unit (unitOf Kind.device 0)).state = .idle ∧ t.dev.state = s.dev.state)

/-- R419, R422 to R425, Table 15-4: an owner's request, the test cycles of the safety outputs, which a demand on the same clock edge keeps
from beginning, and what a failed one does. -/
def Obligations.SafetyOutputsFollowRequestsAndTests : Prop :=
  ∀ (s : State) (o : Fin 8), s.live = true →
    let due := max s.time.now (s.out o).nextCycle
    (∃ t, exec (.outputRequest o false) s = .next t ∧ (t.out o).on = false ∧ (∀ n, (s.out n).on = false → (t.out n).on = false)
      ∧ s.LegsStand t ∧ t.sheaf = s.sheaf ∧ t.unit = s.unit) ∧
    (s.outPermitted o = true → s.offCause o = false → (s.unit (outUnit o)).out = false → (∀ n, n ≠ o.val → (s.out n).on = false) →
      ∃ t, exec (.outputRequest o true) s = .next t ∧ (t.out o).on = true ∧ (∀ n, n ≠ o.val → (t.out n).on = false)
        ∧ s.LegsStand t ∧ t.sheaf = s.sheaf ∧ t.unit = s.unit) ∧
    ((s.out o).testing = false → (s.unit (outUnit o)).out = false → (s.out o).demand ≠ some (due / 5) →
      ∃ t, exec (.testPulseCycle o none) s = .next t ∧ t.out o = { s.out o with testing := true, began := due } ∧ t.time.now = due
        ∧ t.unit = s.unit ∧ s.LegsStand t) ∧
    ((s.out o).testing = false → (s.unit (outUnit o)).out = false → (s.out o).demand = some (due / 5) →
      ∃ t, exec (.testPulseCycle o none) s = .next t ∧ (t.out o).testing = false ∧ (t.out o).on = (s.out o).on
        ∧ due + s.regN (Item.SOUT.TP_RETRY o) * 1000000 = (t.out o).nextCycle ∧ t.unit = s.unit ∧ s.LegsStand t) ∧
    (∀ r : PulseTest, (s.out o).testing = true → PulseTest.highOk r (s.out o).on = false ∨ PulseTest.lowOk r (s.out o).on = false →
      s.Notices (outUnit o) 32 →
      ∃ t, exec (.testPulseCycle o (some r)) s = .next t ∧ s.TakesUp t (outUnit o) .handling .L 32 ∧ (t.out o).on = false) ∧
    ((s.out o).warned = false → (s.unit (outUnit o)).out = false → s.Unranked (outUnit o) 16 →
      ∃ t, exec (.testCycleMissing o) s = .next t ∧ t.Shows (outUnit o) .idle .W 16 ∧ t.out o = { s.out o with warned := true }
        ∧ (s.out o).lastCycle + 2 * (s.regN (Item.SOUT.TEST_INTERVAL o) * 1000000000) ≤ t.time.now) ∧
    ((s.out o).warned = true → (s.unit (outUnit o)).out = false → s.Unranked (outUnit o) 1 →
      ∃ t, exec (.testCycleMissing o) s = .next t ∧ s.TakesUp t (outUnit o) .handling .F 1 ∧ (t.out o).on = false) ∧
    (∀ vP vN mA, (s.out o).on = false → (s.out o).testing = false → s.Notices (outUnit o) 32 →
      ∃ t, exec (.readbackFault o vP vN mA) s = .next t ∧ s.TakesUp t (outUnit o) .handling .L 32 ∧ (t.out o).on = false)

/-- R410, R411, Tables 15-2 and 15-5: the supervisor's evaluation of a port; the cross-check; the test of the current channels. -/
def Obligations.TheSupervisorWatchesSpeedAndChannels : Prop :=
  ∀ s : State, s.live = true →
    (∀ (p : Fin 4) speed pos n, s.regN (Item.POS.SHEAF p) = n → n < 12 → s.portOf n = some p.val → s.stype n = SType.trc →
      ∃ t, exec (.supervisorSpeedEval p 0 speed pos) s = .next t ∧ t.sup.valid = true ∧ t.sup.pos = pos
        ∧ t.sup.invalidSince = none) ∧
    (∀ (p : Fin 4) (faults : BitVec 3) speed pos n since, s.regN (Item.POS.SHEAF p) = n → n < 12 → s.portOf n = some p.val →
      s.stype n = SType.trc → faults ≠ 0 → (s.sheaf n).state = .run → s.sup.invalidSince = some since →
      since + s.regN Item.SAFE.SPD_INV_T * 1000 ≤ s.time.now →
      ∃ t, exec (.supervisorSpeedEval p faults speed pos) s = .next t ∧ t.sup.valid = false ∧ (t.sheaf n).state = .safe
        ∧ t.sup.pathB = s.sup.pathB) ∧
    (∀ (p : Fin 4) n, s.regN (Item.POS.SHEAF p) = n → n < 12 → s.portOf n = some p.val → s.stype n = SType.trc ∨ s.stype n = SType.act →
      let off := s.regN Item.SAFE.XCHK_TOL * 1000
        < (KMap.get (fun _ => (0 : Int)) s.sup.speeds p.val - s.regI (Item.POS.SPEED p)).natAbs
      (off → KMap.get (fun _ => 0) s.sup.crossRuns p.val = 2 → s.Notices (unitOf Kind.port p) 8 →
        ∃ t, exec (.speedCrossCheck p) s = .next t ∧ s.TakesUp t (unitOf Kind.port p) .handling .F 8) ∧
      (¬off → ∃ t, exec (.speedCrossCheck p) s = .next t ∧ KMap.get (fun _ => 0) t.sup.crossRuns p.val = 0 ∧ t.unit = s.unit
        ∧ t.sheaf = s.sheaf)) ∧
    (∀ n, s.trcSheaf = some n → (∃ t, exec (.channelTest true) s = .next t
        ∧ t.sup.channel = (s.sup.channel % s.bind.countOf n + 1) % s.bind.countOf n ∧ s.time.now + 20000 ≤ t.time.now
        ∧ t.unit = s.unit ∧ s.LegsStand t) ∧
      (s.Notices (legUnit (s.bind.firstOf n + s.sup.channel % s.bind.countOf n)) 38 →
        unitKind (legUnit (s.bind.firstOf n + s.sup.channel % s.bind.countOf n)) = Kind.leg →
        ∃ t, exec (.channelTest false) s = .next t
          ∧ s.TakesUp t (legUnit (s.bind.firstOf n + s.sup.channel % s.bind.countOf n)) .handling .L 38))

/-- R57, R174 to R178, R180, R184, R185: a desaturation of a switch that is on, past its blanking, starts its soft turn-off, latches it off
and takes both on commands; an over-current does so for both switches, and where both trip on one clock edge the record is the
desaturation's; the leg goes to handling with its record, and two shorts of a sheaf put it in SAFE; a gate supply that is lost and an off-state
check that fails are class F likewise. -/
def Obligations.ShortCircuitsLatchTheLeg : Prop :=
  ∀ (s : State) (leg : Fin 48) (n : Nat), s.live = true → s.legSheaf leg = some n → (s.unit (legUnit leg)).state = .idle →
    let follows (t : State) (src : Nat) : Prop := t.Shows (legUnit leg) .handling .F src
      ∧ (∀ side, ((t.leg leg).driver side).command = false)
      ∧ (s.otherShort n leg = false → s.Journals t (legUnit leg) .F src)
      ∧ (s.otherShort n leg = true → (s.sheaf n).state ≠ .off → (t.sheaf n).state = .safe)
    let out (mv : Int) : Prop := (s.regN (Item.LEG.OC_POS leg) : Int) < mv ∨ mv < -(s.regN (Item.LEG.OC_NEG leg) : Int)
    (∀ high mv, ((s.leg leg).driver high).lit s.time.now = true → ((s.leg leg).driver high).onAt + s.blanking leg ≤ s.time.now →
      s.Unranked (legUnit leg) (if high then 1 else 2) →
      ∃ t, exec (.desaturation leg high mv) s = .next t ∧ follows t (if high then 1 else 2)
      ∧ ((t.leg leg).driver high).desat = true ∧ ((t.leg leg).driver high).soft = true) ∧
    (∀ high mv, s.time.now < ((s.leg leg).driver high).onAt + s.blanking leg → s.forced (legUnit leg) (if high then 1 else 0) = false →
      ∃ t, exec (.desaturation leg high mv) s = .next t ∧ t.unit = s.unit ∧ t.sheaf = s.sheaf ∧ s.LegsStand t) ∧
    (∀ mv sat, out mv → (∀ high, sat = some high → s.desatActs leg high = false) → s.Unranked (legUnit leg) 3 →
      ∃ t, exec (.overCurrent leg mv sat) s = .next t ∧ follows t 3 ∧ (t.leg leg).oc = true
      ∧ ∀ side, ((s.leg leg).driver side).lit s.time.now = true → ((t.leg leg).driver side).soft = true) ∧
    (∀ mv high, out mv → s.desatActs leg high = true → s.Unranked (legUnit leg) (if high then 1 else 2) →
      ∃ t, exec (.overCurrent leg mv (some high)) s = .next t ∧ follows t (if high then 1 else 2) ∧ (t.leg leg).oc = true
      ∧ ((t.leg leg).driver high).desat = true) ∧
    (∀ high pos neg foldback, railsLow pos neg = true → s.legStateCode leg ≠ 2 → (s.leg leg).supplies = true → s.sup.pathB = false →
      ((s.leg leg).driver high).uv = false → s.Unranked (legUnit leg) 4 →
      ∃ t, exec (.gateSupplyUndervoltage leg high pos neg foldback) s = .next t ∧ t.Shows (legUnit leg) .handling .F 4
        ∧ s.Journals t (legUnit leg) .F 4) ∧
    (∀ check : OffCheck, s.offDiagRuns leg = true → s.forceArmed (legUnit leg) 13 = false →
      (offDiagF (s.offBits leg check) = true → s.Unranked (legUnit leg) 7 →
        ∃ t, exec (.offStateDiag leg check) s = .next t ∧ t.Shows (legUnit leg) .handling .F 7 ∧ s.Journals t (legUnit leg) .F 7) ∧
      (offDiagF (s.offBits leg check) = false → s.offBits leg check ≠ 0 → s.Unranked (legUnit leg) 18 →
        ∃ t, exec (.offStateDiag leg check) s = .next t ∧ t.Shows (legUnit leg) .idle .W 18))

/-- R161, R166 to R168, R170, R171, R176, R181 to R183: the words a leg's drivers receive, with the phases that the bands select; the end of
soft turn-off; a profile-timing fault; the interlock's hold over a conflict of the edge lines, in the period whose start is sampled on the same
clock edge or else in the present one, each with its class-W record until the limit. -/
def Obligations.LegRowsActOnTheirDriversAlone : Prop :=
  ∀ (s : State) (leg : Fin 48), s.live = true →
    let others (t : State) : Prop := (∀ m, m ≠ leg.val → (s.leg m).Banded (t.leg m)) ∧ t.sheaf = s.sheaf
    (∀ (cs : Nat) (delay : Fin 16) goodHs goodLs, s.forceArmed (legUnit leg) 12 = false → s.forced (legUnit leg) 8 = false →
      let band := (s.leg leg).band
      let current := s.currentBand leg ((cs : Int) - s.regN (Item.LEG.CS_ZERO leg))
      let word (good : Bool) : ProfileWord :=
        { band := band, current := current, on := s.onPhases leg band current, off := s.offPhases leg band current, good := good
          fallback := decide (s.regN (Item.GATE.PROFILE_EN leg) = 0) }
      ∃ t, exec (.profileWord leg cs delay goodHs goodLs) s = .next t ∧ others t
        ∧ (t.leg leg).hs.words.head? = some (s.time.now + 20 + delay, word goodHs)
        ∧ (t.leg leg).ls.words.head? = some (s.time.now + 20 + delay, word goodLs)
        ∧ (t.leg leg).hs.drive = (s.leg leg).hs.drive ∧ (t.leg leg).hs.command = (s.leg leg).hs.command) ∧
    (∃ t, exec (.softTurnOffEnd leg) s = .next t ∧ (t.leg leg).hs.soft = false ∧ (t.leg leg).ls.soft = false
      ∧ ((s.leg leg).hs.soft = true → (t.leg leg).hs.on = false ∧ (t.leg leg).hs.miller = true)
      ∧ ((s.leg leg).hs.soft = false → (t.leg leg).hs = (s.leg leg).hs) ∧ others t ∧ t.unit = s.unit) ∧
    (∀ high level n, s.legSheaf leg = some n → s.Notices (legUnit leg) 17 →
      1 < s.regN (Item.LEG.PROF_FAULT_MAX leg) → (s.leg leg).profFaults = [] →
      let d := (s.leg leg).driver high
      d.soft = false → d.uv = false →
      (if d.command = true then d.on = true ∧ level < s.gateOn leg - 1000 else s.gateOff leg + 1000 ≤ level) →
      ∃ t, exec (.profileTimingFault leg high level) s = .next t ∧ t.Shows (legUnit leg) .idle .W 17
        ∧ ((t.leg leg).driver high).fallback = true ∧ others t
        ∧ (if d.command = true then d.onAt else d.offAt) + s.regN (Item.GATE.PLATEAU_TMAX leg) + 200 ≤ t.time.now) ∧
    (∀ n, s.legSheaf leg = some n →
      let holds (t : State) : Prop := (t.leg leg).shootHold = true ∧ (t.leg leg).hs.command = false ∧ (t.leg leg).ls.command = false ∧ others t
      ((∀ f, s.nextStart n = some f → s.time.now / 5 < fineTime f / 5) → s.Notices (legUnit leg) 16 → (s.leg leg).shootNow = false →
        s.regN (Item.LEG.SHOOT_RUN leg) = 0 →
        ∃ t, exec (.shootThrough leg) s = .next t ∧ holds t ∧ t.Shows (legUnit leg) .idle .W 16 ∧ (t.leg leg).shootNow = true) ∧
      (∀ f, s.nextStart n = some f → fineTime f / 5 ≤ s.time.now / 5 →
        ∃ t, exec (.shootThrough leg) s = .next t ∧ holds t ∧ t.unit = s.unit ∧ (t.leg leg).shootNext = true))

/-- R195, R196, R198, R201 to R205, R213 to R215: a sheaf reload moves the carrier to its next start and counts; a group reload samples the
group's shadow, once in a period; a group-write that is due leaves the crossing, and one that completes on or after the tick of the coming
reload waits for it; a trigger generator issues its event on its tick, or skips it. -/
def Obligations.TheCarrierAdvancesByItsRules : Prop :=
  ∀ (s : State) (n : Fin 12), s.live = true → s.carries n = true →
    (∀ slew f, s.nextStart n = some f → ∃ t, exec (.sheafReload n slew) s = .next t ∧ (t.carrier n).start = f
      ∧ (t.carrier n).count = (s.carrier n).count + 1 ∧ (t.sheaf n).starting = false ∧ fineTime f ≤ t.time.now
      ∧ (t.carrier n).host = (s.carrier n).host.filter (fun p => decide (f / 32 ≤ p.1))
      ∧ ((s.group n 0).held = [] → (t.carrier n).periodWord = none) ∧ (∀ m, m ≠ n.val → t.carrier m = s.carrier m)) ∧
    (∀ g : Fin 8, (s.carrier n).count ≠ 0 → s.groupLegs n g ≠ [] → ((s.group n g).count = 0 ∨ (s.group n g).start < s.groupStart n g) →
      ∃ t, exec (.groupReload n g) s = .next t ∧ (t.group n g).reloaded = s.groupStart n g / 32
      ∧ (t.group n g).count = (s.group n g).count + 1 ∧ (t.group n g).start = s.groupStart n g
      ∧ ((s.group n g).held = [] → (t.group n g).unsampled = [] ∧ (t.group n g).cmp = (s.group n g).cmp) ∧ s.LegsStand t
      ∧ t.sheaf = s.sheaf ∧ t.unit = s.unit) ∧
    (∀ g : Fin 8, 0 < (s.group n g).count → s.groupStart n g ≤ (s.group n g).start →
      ∃ t, exec (.groupReload n g) s = .next t ∧ t.group n g = s.group n g ∧ t.pulses = s.pulses) ∧
    (∀ (g : Fin 8) tick (w : GroupWrite) word, s.writes = [w] → w.sheaf = n.val → w.group = g.val → w.words = [word] →
      bitsOf word 31 30 = 0 → s.regN (Item.PWM.CMP_SRC n) = 0 → s.fabricStopped = false →
      ((∀ k, s.sampleTick n g = some k → tick < k) →
        ∃ t, exec (.groupWrite n g tick) s = .next t ∧ t.writes = []
        ∧ KMap.get (fun _ => none) (t.group n g).cmp (bitsOf word 29 27) = some (bitsOf word 26 0)
        ∧ s.LegsStand t ∧ t.sheaf = s.sheaf ∧ t.unit = s.unit) ∧
      (∀ k, s.sampleTick n g = some k → k ≤ tick →
        ∃ t, exec (.groupWrite n g tick) s = .next t ∧ t.writes = [] ∧ (t.group n g).cmp = (s.group n g).cmp
        ∧ (t.group n g).held = (s.group n g).held ++ [(tick, [word])])) ∧
    (∀ (k : Fin 8) f lo hi count, s.triggerReference n k = some (f, lo, hi, count) → count ≠ 0 →
      count % Nat.max 1 (s.regN (Item.PWM.TRIG_DEC n k)) = 0 → KMap.get (fun _ => 0) (s.carrier n).fired k.val ≠ count →
      bitsOf (s.reg (Item.PWM.TRIG_DST n k)) 15 12 = 1 →
      ∃ t, exec (.triggerEvent n k) s = .next t ∧ KMap.get (fun _ => 0) (t.carrier n).fired k.val = count ∧ t.events =
        if ((f / 32 : Nat) : Int) + s.regI (Item.PWM.TRIG_OFS n k) < lo ∨ (hi : Int) ≤ ((f / 32 : Nat) : Int) + s.regI (Item.PWM.TRIG_OFS n k)
        then s.events
        else s.events ++ [.convert (bitsOf (s.reg (Item.PWM.TRIG_DST n k)) 11 8) (bitsOf (s.reg (Item.PWM.TRIG_DST n k)) 2 0)
          (((f / 32 : Nat) : Int) + s.regI (Item.PWM.TRIG_OFS n k)).toNat])

/-- R161, R181, R206, R207, R216, R218, R192, Table 1-3: an off edge takes a switch its on command; an on edge gives it once the interlock
time is over, turning the switch on where its leg may switch, and meets a conflict where the other switch is commanded on; the stop word ends
RUN; without the fabric's clock no edge line commands on; a recalibration of the interpolators moves nothing. -/
def Obligations.EdgesAndStopsReachTheSwitches : Prop :=
  ∀ s : State, s.live = true →
    (∀ (leg : Fin 48) high plateau phases level n f, s.legSheaf leg = some n → s.carries n = true → s.legSwitches n leg = true →
      let d := (s.leg leg).driver high
      let other := (s.leg leg).driver (!high)
      (s.edgeAt leg high false = some f → d.edge < f → d.command = true →
        ∃ t, exec (.legEdge leg high false plateau phases level) s = .next t ∧ ((t.leg leg).driver high).command = false
          ∧ fineTime f ≤ t.time.now) ∧
      (s.edgeAt leg high true = some f → d.edge < f → d.command = false → other.command = false →
        let at' := max s.time.now (max (fineTime f) (other.offAt + s.regN (Item.LEG.IL_TIME leg)))
        (∀ g, s.edgeAt leg high false = some g → max (fineTime f) (other.offAt + s.regN (Item.LEG.IL_TIME leg)) * 64 < g * 5) →
        s.forceArmed (legUnit leg) (if high then 4 else 5) = false → (d.held at').good = true →
        plateau ≤ s.regN (Item.GATE.PLATEAU_TMAX leg) →
        ∃ t, exec (.legEdge leg high true plateau phases level) s = .next t ∧ ((t.leg leg).driver high).command = true
          ∧ ((t.leg leg).driver (!high)).command = false ∧ t.time.now = at' ∧ t.unit = s.unit ∧ t.sheaf = s.sheaf
          ∧ ((s.leg leg).passes (s.sup.releases.getLsbD leg && !s.cutBlocks leg) high = true → ((t.leg leg).driver high).on = true)) ∧
      (s.edgeAt leg high true = some f → d.edge < f → d.command = false → other.command = true →
        (∀ g, s.edgeAt leg (!high) false = some g → f < g) →
        ∃ t, exec (.legEdge leg high true plateau phases level) s = .next t ∧ (t.leg leg).shootHold = true
          ∧ ∀ side, ((t.leg leg).driver side).command = false)) ∧
    (∀ (n : Fin 12) r, (s.sheaf n).stop = some r → (s.sheaf n).state = .run → r.word = true →
      ∃ t, exec (.sheafRunStop n) s = .next t ∧ (t.sheaf n).state = (if r.toOff then .off else .ready) ∧ (t.sheaf n).stop = none
        ∧ ∀ w ∈ t.writes, w.sheaf ≠ n.val) ∧
    (∃ t, exec .fabricClockStop s = .next t ∧ t.fabricStopped = true ∧ (∀ l < 48, (t.leg l).hs.command = false ∧ (t.leg l).ls.command = false)
      ∧ t.sheaf = s.sheaf ∧ t.unit = s.unit ∧ t.out = s.out) ∧
    (∃ t, exec .interpolatorRecal s = .next t ∧ t.pulses = s.pulses ∧ t.carrier = s.carrier ∧ s.LegsStand t ∧ t.sheaf = s.sheaf
      ∧ t.unit = s.unit ∧ t.writes = s.writes) ∧
    (s.waits = [] → s.swaps = [] → s.dev.state ≠ .safe → s.dev.state ≠ .locked → exec .interpolatorRecal s = .next s)

/-- R209: a compare of 0 or beyond the period is taken as it is; a short pulse is dropped with its width carried on (SUPPRESS_CARRY), dropped
(SUPPRESS) or widened (EXTEND), counted, the carry bounded to one period and its clips counted; and a leg of a sheaf that no other chapter
intervenes in takes exactly that at its group reload. -/
def Obligations.ShortPulsesFollowTheirPolicy : Prop :=
  (∀ (policy cmp period thr : Nat) (carry : Int), policy ≤ 2 → thr ≤ period →
    let r := shortPulse policy cmp period thr carry
    let c : Int := if policy = 0 then (cmp : Int) + carry else cmp
    let p : Int := period
    (cmp = 0 → r.eff = 0 ∧ r.carry = carry ∧ r.short = false ∧ r.clipped = false) ∧
    (period ≤ cmp → r.eff = period ∧ r.carry = carry ∧ r.short = false ∧ r.clipped = false) ∧
    (0 < cmp → cmp < period →
      (c < thr → r.short = decide (c ≠ 0)
        ∧ (policy = 0 → r.eff = 0 ∧ r.carry = max (-p) (min p c) ∧ r.clipped = decide (c < -p))
        ∧ (policy = 1 → r.eff = 0 ∧ r.carry = carry ∧ r.clipped = false) ∧ (policy = 2 → r.eff = thr ∧ r.carry = carry ∧ r.clipped = false)) ∧
      (thr ≤ c → p - c < thr → r.short = decide (c ≠ p)
        ∧ (policy = 0 → r.eff = period ∧ r.carry = max (-p) (min p (c - p)) ∧ r.clipped = decide (p < c - p))
        ∧ (policy = 1 → r.eff = period ∧ r.carry = carry ∧ r.clipped = false)
        ∧ (policy = 2 → r.eff = period - thr ∧ r.carry = carry ∧ r.clipped = false)) ∧
      (thr ≤ c → thr ≤ p - c → (r.eff : Int) = c ∧ r.short = false ∧ r.clipped = false ∧ r.carry = if policy = 0 then 0 else carry))) ∧
  (∀ (s : State) (n : Fin 12) (leg d : Nat), s.bind.position leg < 18 → s.legSwitches n leg = true → s.stype n ≠ SType.auxi → s.stype n ≠ SType.auxb →
    KMap.get (fun _ => none) (s.group n (s.groupOf n leg)).cmp (s.groupPosition n leg) = some d →
    let pos := s.bind.position leg
    let r := shortPulse (s.regN (Item.PWM.SHORT_POLICY n)) (compareOf (s.regN (Item.PWM.MODE n)) (s.regN (Item.PWM.PERIOD_NOW n)) d)
      (s.regN (Item.PWM.PERIOD_NOW n)) (s.shortLimit n leg) (s.regI (Item.PWM.CARRY n pos))
    let t := (s.reloadLeg n leg).1
    (s.reloadLeg n leg).2 = some r.eff ∧ t.reg (Item.PWM.CARRY n pos) = iw r.carry ∧ t.reg (Item.PWM.CMP_NOW n pos) = nw r.eff
      ∧ t.reg (Item.PWM.SHORT_CNT n) = (if r.short then s.reg (Item.PWM.SHORT_CNT n) + 1 else s.reg (Item.PWM.SHORT_CNT n))
      ∧ t.reg (Item.PWM.CARRY_CLIP_CNT n)
        = (if r.clipped then s.reg (Item.PWM.CARRY_CLIP_CNT n) + 1 else s.reg (Item.PWM.CARRY_CLIP_CNT n)))

/-- R275 to R281, R290: a lane's sample set ends its forming when its last slot has joined or when WAIT_TMO has passed; a set with a
missed slot gives no computation, and MISS_MAX of them in a row are class F; a lane without such slots starts every TS_NOM. -/
def Obligations.LanesFormTheirSampleSets : Prop :=
  ∀ (s : State) (n : Fin 32), s.Calm → s.laneRuns n = true →
    (s.setComplete n = true →
      ∃ t, exec (.laneSetComplete n) s = .next t ∧ (t.lane n).opened = none ∧ (t.lane n).joined = [] ∧ (t.lane n).missed = 0) ∧
    (s.setComplete n = true → (s.lane n).missed ≠ 0 → s.forceArmed (laneUnit n) 3 = false →
      (s.lane n).missRun + 1 < s.regN (Item.LOOP.MISS_MAX n) →
      ∃ t, exec (.laneSetComplete n) s = .next t ∧ (t.lane n).missRun = (s.lane n).missRun + 1 ∧ (t.lane n).busy = (s.lane n).busy
        ∧ t.reg (Item.LOOP.MISS_CNT n) = s.reg (Item.LOOP.MISS_CNT n) + 1 ∧ t.writes = s.writes ∧ t.leg = s.leg
        ∧ t.sheaf = s.sheaf) ∧
    (∀ o, (s.lane n).opened = some o → s.setComplete n = false → s.forceArmed (laneUnit n) 3 = false →
      s.regN (Item.LOOP.MISS_MAX n) ≤ (s.lane n).missRun + 1 → s.Notices (laneUnit n) 1 →
      ∃ t, exec (.laneSetTimeout n) s = .next t ∧ s.TakesUp t (laneUnit n) .handling .F 1
        ∧ s.stampTime o + s.regN (Item.LOOP.WAIT_TMO n) ≤ t.time.now) ∧
    (s.waitSlots n = [] → (s.lane n).busy = none →
      let s1 := s.reach ((s.lane n).began + s.regN (Item.LOOP.TS_NOM n))
      s1.slotsMiss n ((List.range 8).map (s1.readSlot n [])) = false →
      ∃ t, exec (.laneTimer n) s = .next t ∧ (t.lane n).busy.isSome = true ∧ (t.lane n).began = t.time.now ∧ (t.lane n).stamp = stamp48 t.time.now
        ∧ t.writes = s.writes ∧ t.leg = s.leg ∧ t.sheaf = s.sheaf)

/-- R279, R284, R293 to R296: a finished computation is published and leaves for its group; one that is not finite or out of range is
class F and is not sent; a generator's step gives its new position, speed and acceleration. -/
def Obligations.LanesAndGeneratorsPublishTheirResults : Prop :=
  ∀ s : State, s.Calm →
    (∀ (n : Fin 32) r, s.laneRuns n = true → (s.lane n).busy = some r → r.bad = false → (s.lane n).waiting = none →
      ∃ t, exec (.laneComputeEnd n) s = .next t ∧ (t.lane n).busy = none ∧ (t.lane n).valid = true ∧ (t.lane n).lastOut = r.outs
        ∧ (t.lane n).reference = r.reference ∧ t.leg = s.leg ∧ t.sheaf = s.sheaf
        ∧ ((∀ p ∈ r.items, p.1 ≠ Item.LOOP.TYPE n ∧ p.1 ≠ Item.LOOP.GROUP n) → t.writes =
            if s.laneWrites n = true ∧ r.words ≠ [] then
              s.writes ++ [{ sheaf := s.laneSheaf n, group := s.regN (Item.LOOP.GROUP n), words := r.words, lane := n, stamp := (s.lane n).stamp }]
            else s.writes)) ∧
    (∀ (n : Fin 32) r, s.laneRuns n = true → (s.lane n).busy = some r → r.bad = true → s.Notices (laneUnit n) 2 →
      ∃ t, exec (.laneComputeEnd n) s = .next t ∧ s.TakesUp t (laneUnit n) .handling .F 2 ∧ t.writes = s.writes) ∧
    (∀ g : Fin 4, s.bind.profSheaf.getD g 15 < 12 → (s.sheaf (s.bind.profSheaf.getD g 15)).state = .run → s.regN (Item.PROF.MODE g) ≠ 0 →
      ∃ t, exec (.profileStep g) s = .next t ∧ t.reg (Item.PROF.X g) = (s.genStep g).x ∧ t.reg (Item.PROF.V g) = (s.genStep g).v
        ∧ t.reg (Item.PROF.A g) = (s.genStep g).a ∧ bitOf (t.reg (Item.PROF.STATUS g)) 0 = ((s.genStep g).done || bitOf (s.reg (Item.PROF.STATUS g)) 0)
        ∧ t.lane = s.lane ∧ t.leg = s.leg ∧ t.sheaf = s.sheaf ∧ t.unit = s.unit)

/-- R305, R309, R318, R323: the traction sheaf's refresh timeouts, the end of a share ramp of a set, the end of the stop ramp. -/
def Obligations.TheTractionSheafKeepsItsTimeouts : Prop :=
  ∀ (s : State) (n : Nat), s.Calm → s.trcSheaf = some n → (s.unit (unitOf Kind.sheaf n)).state = .idle →
    (s.regN Item.TRC.REQ_TMO ≠ 0 → (s.sheaf n).state = .run → s.trac.lost = false → s.Unranked (unitOf Kind.sheaf n) 22 →
      ∃ t, exec .trcRequestTimeout s = .next t ∧ t.trac = { s.trac with lost := true } ∧ t.Shows (unitOf Kind.sheaf n) .idle .W 22
        ∧ t.reg Item.TRC.LIMIT_CAUSE = s.reg Item.TRC.LIMIT_CAUSE ||| 0x80 ∧ t.sheaf = s.sheaf ∧ t.leg = s.leg ∧ t.lane = s.lane) ∧
    (s.regN Item.TRC.LIM_TMO ≠ 0 → s.trac.fallback = false → s.Unranked (unitOf Kind.sheaf n) 21 →
      ∃ t, exec .trcLimitTimeout s = .next t ∧ t.trac = { s.trac with fallback := true } ∧ t.Shows (unitOf Kind.sheaf n) .idle .W 21
        ∧ t.sheaf = s.sheaf ∧ t.leg = s.leg ∧ t.lane = s.lane ∧ t.reg = s.reg) ∧
    (∀ (k : Fin 6) since thermal, s.trac.ramps.find? (fun r => decide (r.1 = k.val)) = some (k.val, since, thermal) →
      ∃ t, exec (.trcWinnowRampEnd k) s = .next t ∧ (∀ r ∈ t.trac.ramps, r.1 ≠ k.val) ∧ (∀ l ∈ s.setLegs k, t.legWinnowed l = true) ∧ (thermal = true → k.val ∈ t.trac.thermal)
        ∧ since + s.regN (if thermal then Item.THM.STOP_RAMP else Item.TRC.WINNOW_RAMP) * 1000000 ≤ t.time.now) ∧
    (∀ r, (s.sheaf n).stop = some r → (s.sheaf n).state = .run → r.word = false →
      ∃ t, exec .trcStopRampEnd s = .next t ∧ (t.sheaf n).state = .run
        ∧ (t.sheaf n).stop = some { toOff := r.toOff, word := true, since := t.time.now })

/-- R221 to R224, R228, R230: a trigger starts a free converter, which abandons a background conversion that it meets, waits in a queue of
two, or is dropped; each result takes 80 ticks and carries the scaled value and its stamp; every BG_PERIOD a free converter takes a
background input. -/
def Obligations.FastConvertersFollowTheirTriggers : Prop :=
  ∀ (s : State) (k : Fin 16), s.Calm →
    (∀ (q : Fin 8) tick rest, s.events = .convert k q tick :: rest → (∀ q' t', .convert k q' t' ∈ rest → tick < t') → s.seqCount k q ≠ 0 →
      ((s.fast k).run = none → (s.fast k).queue = [] →
        ∃ t, exec (.converterTrigger k q) s = .next t ∧ t.events = rest ∧ (t.fast k).run = some (q.val, 0, tick, false)
          ∧ (∀ i tb, (s.fast k).background = some (i, tb) → tick < tb + 80 → (t.fast k).background = none
              ∧ t.reg (Item.ADCF.BG_ABORT_CNT k) = s.reg (Item.ADCF.BG_ABORT_CNT k) + 1)
          ∧ tickTime tick ≤ t.time.now) ∧
      (∀ p j t0 old, (s.fast k).run = some (p, j, t0, old) → t0 < tick → tick < t0 + s.seqCount k p * 80 →
        (∀ w ∈ (s.fast k).queue, w.2 < t0 + s.seqCount k p * 80) →
        ((s.fast k).queue = [] →
          ∃ t, exec (.converterTrigger k q) s = .next t ∧ t.events = rest ∧ (t.fast k).queue = [(q.val, tick)]
            ∧ (t.fast k).run = (s.fast k).run ∧ t.reg (Item.ADCF.QUEUE_CNT k) = s.reg (Item.ADCF.QUEUE_CNT k) + 1) ∧
        (∀ w, (s.fast k).queue = [w] →
          ∃ t, exec (.converterTrigger k q) s = .next t ∧ t.events = rest ∧ (t.fast k).queue = [w, (q.val, tick)]
            ∧ (t.fast k).run = (s.fast k).run ∧ t.reg (Item.ADCF.QUEUE_CNT k) = s.reg (Item.ADCF.QUEUE_CNT k) + 1) ∧
        ((s.fast k).queue.length = 2 → s.Notices (unitOf Kind.fast k) 16 →
          ∃ t, exec (.converterTrigger k q) s = .next t ∧ t.events = rest ∧ t.fast k = s.fast k ∧ t.Shows (unitOf Kind.fast k) .idle .W 16
            ∧ t.reg (Item.ADCF.OVERRUN k) = s.reg (Item.ADCF.OVERRUN k) + 1))) ∧
    (∀ (code : BitVec 14) q j t0 queued, (s.fast k).background = none → (s.fast k).run = some (q, j, t0, queued) →
      let i := s.seqInput k q j
      let ready := t0 + (j + 1) * 80
      let raw := if s.forced (fastInputUnit k i) 1 then BitVec.ofInt 14 (endCodes 14 (s.bipolar k i)).2 else code
      ∃ t, exec (.conversionDone k code) s = .next t
        ∧ t.reg (Item.ADCF.VAL k i) = iw (s.scaled k i raw)
        ∧ t.reg (Item.ADCF.T_LO k i) = nw (stamp48 (tickTime (t0 + 2 + j * 80))) ∧ tickTime ready ≤ t.time.now
        ∧ (j + 1 < s.seqCount k q → (t.fast k).run = some (q, j + 1, t0, queued))
        ∧ (s.firstTrigger k ready = none → s.seqCount k q ≤ j + 1 → (s.fast k).queue = [] → (t.fast k).run = none)
        ∧ (∀ p a rest, s.firstTrigger k ready = none → s.seqCount k q ≤ j + 1 → (s.fast k).queue = (p, a) :: rest →
            (t.fast k).run = some (p, 0, Nat.max ready a, decide (a < ready)) ∧ (t.fast k).queue = rest)) ∧
    (∀ (code : BitVec 14) i tb, (s.fast k).background = some (i, tb) → s.firstTrigger k (tb + 79) = none →
      ∃ t, exec (.conversionDone k code) s = .next t ∧ (t.fast k).background = none ∧ (t.fast k).last = i
        ∧ tickTime (tb + 80) ≤ t.time.now) ∧
    ((s.fast k).run = none → (s.fast k).queue = [] → (s.fast k).background = none → (∀ q tick, .convert k q tick ∉ s.events) →
      ∃ t, exec (.backgroundSlot k) s = .next t
        ∧ (t.fast k).background = (nextInput (s.reg (Item.ADCF.BG_MASK k)) (s.fast k).last).map (fun i => (i, t.tick))
        ∧ s.lastDone (Timer.background k) + s.regN (Item.ADCF.BG_PERIOD k) * 1000 ≤ t.time.now
        ∧ (t.fast k).run = none ∧ t.leg = s.leg ∧ t.unit = s.unit)

/-- R227, R242, R243: a converter moves its corrections toward those that the codes of its references call for by at most a step and is
class F beyond their limits; an open wire is flagged after two checks beyond the threshold, and the flag goes after two within it; the
input of a sensor of a leg in no sheaf is not checked (R48), nor an integrating input but between the windows of a periodic scan. -/
def Obligations.ConvertersCheckThemselvesAndTheirWires : Prop :=
  ∀ s : State, s.Calm →
    (∀ (k : Fin 16) low high gain ofs, (s.fast k).run = none → (s.fast k).queue = [] → (s.fast k).background = none →
      (∀ q tick, .convert k q tick ∉ s.events) → corrections low high = some (gain, ofs) →
      (calibrationBad gain ofs = false →
        ∃ t, exec (.converterCalibration k low high) s = .next t ∧ t.unit = s.unit
          ∧ t.reg (Item.ADCF.CAL_GAIN k)
              = iw (s.regI (Item.ADCF.CAL_GAIN k) + max (-30) (min 30 (gain - s.regI (Item.ADCF.CAL_GAIN k))))
          ∧ t.reg (Item.ADCF.CAL_OFS k)
              = iw (s.regI (Item.ADCF.CAL_OFS k) + max (-152) (min 152 (ofs - s.regI (Item.ADCF.CAL_OFS k))))) ∧
      (10000 < gain.natAbs ∨ 20000 < ofs.natAbs → s.Notices (unitOf Kind.fast k) 1 →
        ∃ t, exec (.converterCalibration k low high) s = .next t ∧ s.TakesUp t (unitOf Kind.fast k) .handling .F 1)) ∧
    (∀ (x : Fin 192) (code : Int), x.val < 128 →
      let k := x.val / 8
      let i := x.val % 8
      let w := s.reg (Item.ADCF.OW_STATUS k)
      let apart := (s.codeVolts k i (BitVec.ofInt 14 code) - s.lastVolts k i).natAbs
      (s.sparedInput k i = true → ∃ t, exec (.openWireCheck x code) s = .next t ∧ t.reg = s.reg ∧ t.unit = s.unit) ∧
      (bitOf (s.reg (Item.ADCF.OW_MASK k)) i = true → s.sparedInput k i = false →
        (s.regN (Item.ADCF.OW_DELTA k) * 16384000000000 < apart → KMap.get (fun _ => 0) (s.fast k).owBad i = 1 → bitOf w i = false →
          s.Notices (fastInputUnit k i) 16 →
          ∃ t, exec (.openWireCheck x code) s = .next t ∧ t.reg (Item.ADCF.OW_STATUS k) = w ||| nw (2 ^ i)
            ∧ t.Shows (fastInputUnit k i) .idle .W 16
            ∧ s.lastDone (Timer.openWire x) + s.regN (Item.ADCF.OW_PERIOD k) * 1000000 ≤ t.time.now) ∧
        (apart ≤ s.regN (Item.ADCF.OW_DELTA k) * 16384000000000 → s.forced (fastInputUnit k i) 0 = false →
          KMap.get (fun _ => 0) (s.fast k).owGood i = 1 →
          ∃ t, exec (.openWireCheck x code) s = .next t ∧ t.reg (Item.ADCF.OW_STATUS k) = w &&& ~~~(nw (2 ^ i)) ∧ t.unit = s.unit))) ∧
    (∀ (x : Fin 192) (code : Int), 128 ≤ x.val →
      let k := (x.val - 128) / 32
      let i := (x.val - 128) % 32
      let w := s.reg (Item.ADCI.OW_STATUS k)
      (s.regN (Item.ADCI.SCAN_MODE k) ≠ 1 ∨ (s.slow k).window.isSome = true →
        ∃ t, exec (.openWireCheck x code) s = .next t ∧ t.reg = s.reg ∧ t.unit = s.unit) ∧
      (bitOf (s.reg (Item.ADCI.OW_MASK k)) i = true → s.regN (Item.ADCI.SCAN_MODE k) = 1 → (s.slow k).window = none →
        s.regN (Item.ADCI.OW_DELTA k) * 1000 * 2 ^ 24 < ((code - s.slowCode k i) * 5000000).natAbs →
        KMap.get (fun _ => 0) (s.slow k).owBad i = 1 → bitOf w i = false → s.Notices (unitOf Kind.slowInput (32 * k + i)) 16 →
        ∃ t, exec (.openWireCheck x code) s = .next t ∧ t.reg (Item.ADCI.OW_STATUS k) = w ||| nw (2 ^ i)
          ∧ t.Shows (unitOf Kind.slowInput (32 * k + i)) .idle .W 16))

/-- R234 to R237, R246: the mains lock on the phase of MAINS_REF, and the windows of the integrating converters, of FIX_WIN or between
crossings, with what they publish. -/
def Obligations.IntegratingConvertersFollowTheirWindows : Prop :=
  ∀ s : State, s.Calm →
    (∀ (phase : Fin 3) time swing rms, s.regN (Item.ADCI.MAINS_EN 0) ≠ 0 → s.regN (Item.ADCI.MAINS_REF 0) = phase.val →
      s.regN (Item.ADCI.MAINS_MIN 0) ≤ swing * 50 →
      (∀ x, s.mainsLocked = false → (s.slow 0).crossing = some x → (s.slow 0).good = 3 → 15385000 ≤ time - x → time - x ≤ 22222000 →
        s.regN (Item.ADCI.MAINS_MIN 0) ≤ rms →
        ∃ t, exec (.mainsCrossing phase time swing rms) s = .next t ∧ t.mainsLocked = true ∧ (t.slow 0).crossing = some time
          ∧ t.reg (Item.ADCI.MAINS_FREQ 0) = nw (roundDiv 1000000000000 (time - x : Nat)).toNat ∧ t.unit = s.unit) ∧
      (s.mainsLocked = true → rms < s.regN (Item.ADCI.MAINS_MIN 0) →
        (s.dev.state = .charge → s.Notices (unitOf Kind.slow 0) 16) →
        ∃ t, exec (.mainsCrossing phase time swing rms) s = .next t ∧ t.mainsLocked = false ∧ t.reg (Item.ADCI.MAINS_FREQ 0) = 0
          ∧ (s.dev.state = .charge → t.Shows (unitOf Kind.slow 0) .idle .W 16) ∧ (s.dev.state ≠ .charge → t.unit = s.unit))) ∧
    (∀ (phase : Fin 3) time swing rms, s.regN (Item.ADCI.MAINS_REF 0) ≠ phase.val →
      ∃ t, exec (.mainsCrossing phase time swing rms) s = .next t ∧ t.slows = s.slows ∧ t.reg = s.reg ∧ t.unit = s.unit) ∧
    (∀ x, (s.slow 0).valid = some x → s.mainsLocked = true → (s.dev.state = .charge → s.Notices (unitOf Kind.slow 0) 16) →
      ∃ t, exec .mainsUnlockTimeout s = .next t ∧ t.mainsLocked = false ∧ x + 44440000 ≤ t.time.now
        ∧ (t.slow 0).window = some t.time.now ∧ (s.dev.state = .charge → t.Shows (unitOf Kind.slow 0) .idle .W 16)) ∧
    (∀ (n : Fin 2) w, (s.slow n).closed = [] → (s.slow n).window = none → s.mainsLocked = false →
      ∃ t, exec (.windowEnd n w) s = .next t ∧ (t.slow n).window = some t.time.now ∧ (t.slow n).mains = false ∧ t.reg = s.reg
        ∧ t.unit = s.unit ∧ (s.regN (Item.ADCI.SCAN_MODE n) ≠ 0 → (t.slow n).passLeft = s.regN (Item.ADCI.SCAN_LEN n)
          ∧ s.lastDone (Timer.scan n) + s.regN (Item.ADCI.SCAN_PERIOD n) * 1000000 ≤ t.time.now)) ∧
    (∀ (n : Fin 2) w x rest, (s.slow n).closed = x :: rest → x.ninth = 31 → x.urgent = none → 1000 < w.refPpm.natAbs →
      s.Notices (unitOf Kind.slow n) 1 →
      ∃ t, exec (.windowEnd n w) s = .next t ∧ s.TakesUp t (unitOf Kind.slow n) .handling .F 1) ∧
    (∀ (n : Fin 2) w x rest i m, (s.slow n).closed = x :: rest → x.urgent = some i → (s.unit (unitOf Kind.slow n)).out = false →
      w.means.find? (fun m => decide (m.1 = i)) = some m →
      ∃ t, exec (.windowEnd n w) s = .next t ∧ t.reg (Item.ADCI.URG_RESULT n) = iw (roundDiv (m.2 * 5000000) (2 ^ 24))
        ∧ (t.slow n).index = (s.slow n).index ∧ (t.slow n).closed = rest ∧ x.stop ≤ t.time.now ∧ t.unit = s.unit) ∧
    (∀ (n : Fin 2) w b i code, (s.slow n).closed = [] → (s.slow n).window = some b → (s.slow n).mains = false → (s.slow n).urgent = none →
      w.refPpm.natAbs ≤ 1000 → w.means = [(i, code)] → bitOf (s.windowMask n false) i = true →
      (s.unit (unitOf Kind.slow n)).out = false → (s.unit (unitOf Kind.slowInput (32 * n + i))).out = false →
      s.forced (unitOf Kind.slowInput (32 * n + i)) 1 = false →
      let e := endCodes 24 (s.slowBipolar n i)
      ∃ t, exec (.windowEnd n w) s = .next t ∧ t.reg (Item.ADCI.VAL n i) = iw (roundDiv (max e.1 (min e.2 code) * 5000000) (2 ^ 24))
        ∧ (t.slow n).index = (s.slow n).index + 1 ∧ b + s.fixWindow n ≤ t.time.now)

/-- R238, R239: the insulation monitor averages ISO_AVG windows of each of its two states ISO_SETTLE after their path is on, stays off 10 ms
between, is off where it must be, and computes the resistances of the poles, with their warning. -/
def Obligations.TheInsulationMonitorMeasuresBothPoles : Prop :=
  ∀ s : State, s.Calm →
    (∀ mp mn : List Int, s.isoOff = false →
      let mean (l : List Int) : Int := windowsMean (l.take (s.regN (Item.ADCI.ISO_AVG 1))) * (s.regN (Item.ADCI.ISO_RATIO 1) : Nat)
      ((s.slow 1).iso = 0 → ∃ t, exec (.isoStateEnd mp mn) s = .next t ∧ (t.slow 1).iso = 1 ∧ (t.slow 1).isoFrom = s.time.now) ∧
      ((s.slow 1).iso = 1 → ∃ t, exec (.isoStateEnd mp mn) s = .next t ∧ (t.slow 1).iso = 2 ∧ (t.slow 1).upP = some (mean mp, -mean mn)
        ∧ s.isoStateEnd ≤ t.time.now ∧ (t.slow 1).isoFrom = t.time.now + 10000000) ∧
      ((s.slow 1).iso = 2 → ∃ t, exec (.isoStateEnd mp mn) s = .next t ∧ (t.slow 1).iso = 1 ∧ (t.slow 1).upN = some (mean mp, -mean mn)
        ∧ s.isoStateEnd ≤ t.time.now ∧ (t.slow 1).isoFrom = t.time.now + 10000000)) ∧
    (∀ mp mn : List Int, s.isoOff = true → ∃ t, exec (.isoStateEnd mp mn) s = .next t ∧ (t.slow 1).iso = 0 ∧ (t.slow 1).upP = none) ∧
    (∀ u1 n1 u2 n2, (s.slow 1).upP = some (u1, n1) → (s.slow 1).upN = some (u2, n2) →
      let bus := u1 + n1 + u2 + n2
      let d := n1 * u2 - u1 * n2
      let rref : Int := (s.regN (Item.ADCI.ISO_RREF 1) : Nat)
      let rnet : Int := (s.regN (Item.ADCI.ISO_RNET 1) : Nat)
      let rp := poleResistance (n2 * (u1 + n1)) d rref rnet
      let rn := poleResistance (u1 * (u2 + n2)) d rref rnet
      (bus < (s.regN (Item.ADCI.ISO_VMIN 1) : Int) * 2000000 →
        ∃ t, exec .isoCycleEnd s = .next t ∧ t.reg (Item.ADCI.ISO_STATUS 1) = 4
          ∧ t.reg (Item.ADCI.ISO_RP 1) = s.reg (Item.ADCI.ISO_RP 1) ∧ t.reg (Item.ADCI.ISO_RN 1) = s.reg (Item.ADCI.ISO_RN 1)
          ∧ t.unit = s.unit ∧ (t.slow 1).upP = none ∧ (t.slow 1).upN = none) ∧
      ((s.regN (Item.ADCI.ISO_VMIN 1) : Int) * 2000000 ≤ bus → d ≠ 0 →
        ∃ t, exec .isoCycleEnd s = .next t ∧ t.reg (Item.ADCI.ISO_RP 1) = rp ∧ t.reg (Item.ADCI.ISO_RN 1) = rn
          ∧ bitOf (t.reg (Item.ADCI.ISO_STATUS 1)) 3 = true ∧ (t.slow 1).upP = none ∧ (t.slow 1).upN = none
          ∧ (s.Notices (unitOf Kind.slow 1) 17 →
              (Nat.min rp.toNat rn.toNat : Int) * 2000 * 1000000 < (s.regN (Item.ADCI.ISO_WARN 1) : Nat) * bus →
              t.Shows (unitOf Kind.slow 1) .idle .W 17)))

/-- R254 to R257, R260 to R262: an edge of a quadrature or Hall pair that has been stable for EDGE_FILT moves the raw position by one, a step
that no pair makes is class F; the first Z edge learns the position; a latch event forms a result at its capture instant, two ticks after
it, with the speed of that instant on an edge port. -/
def Obligations.PortsTurnEdgesIntoPositions : Prop :=
  ∀ (s : State) (p : Fin 4), s.Calm → s.forceArmed (unitOf Kind.port p) 1 = false →
    (∀ (lv : Fin 8) tick stable, stable < s.regN (Item.POS.EDGE_FILT p) →
      ∃ t, exec (.portEdge p lv tick stable) s = .next t ∧ t.port p = s.port p ∧ t.reg = s.reg ∧ t.unit = s.unit) ∧
    (∀ (lv : Fin 8) tick stable, s.regN (Item.POS.EDGE_FILT p) ≤ stable → (s.port p).levels ≠ lv.val →
      (s.portMode p = 3 → s.regN (Item.POS.Z_EN p) ≠ 1 → quadStep (s.port p).levels lv ≠ 0 →
        let c := (s.port p).raw + s.portSign p * quadStep (s.port p).levels lv
        ∃ t, exec (.portEdge p lv tick stable) s = .next t ∧ (t.port p).raw = c ∧ (t.port p).levels = lv
          ∧ (t.port p).edges = ((tick, c) :: (s.port p).edges).take 64 ∧ t.reg (Item.POS.EDGE_T p) = nw tick ∧ t.unit = s.unit
          ∧ tickTime (tick + s.regN (Item.POS.EDGE_FILT p)) ≤ t.time.now) ∧
      (s.portMode p = 4 → (hallPlace (s.port p).levels).isSome = true → hallStep (s.port p).levels lv ≠ 0 →
        ∃ t, exec (.portEdge p lv tick stable) s = .next t
          ∧ (t.port p).raw = (s.port p).raw + s.portSign p * hallStep (s.port p).levels lv ∧ (t.port p).levels = lv ∧ t.unit = s.unit) ∧
      ((s.portMode p = 3 ∧ ((s.port p).levels ^^^ lv.val) % 4 = 3 ∧ s.regN (Item.POS.Z_EN p) ≠ 1)
          ∨ (s.portMode p = 4 ∧ (hallPlace lv = none
            ∨ (hallPlace (s.port p).levels).isSome = true ∧ hallStep (s.port p).levels lv = 0)) → s.Notices (unitOf Kind.port p) 4 →
        ∃ t, exec (.portEdge p lv tick stable) s = .next t ∧ s.TakesUp t (unitOf Kind.port p) .handling .F 4
          ∧ (t.port p).raw = (s.port p).raw ∧ (t.port p).levels = lv) ∧
      (s.portMode p = 3 → s.regN (Item.POS.Z_EN p) = 1 → (s.port p).levels < 4 → lv.val = (s.port p).levels + 4 →
        (s.port p).zLearned = none →
        ∃ t, exec (.portEdge p lv tick stable) s = .next t ∧ (t.port p).zLearned = some (s.port p).raw ∧ (t.port p).ref = true
          ∧ t.reg (Item.POS.Z_POS p) = iw (s.port p).raw ∧ (t.port p).raw = (s.port p).raw)) ∧
    (∀ (k : Fin 8) tick, s.nextLatch p k = some tick → s.portMode p ≠ 0 →
      (KMap.get (fun _ => 0) (s.port p).formed k.val ≤ tick + 2 →
        ∃ t, exec (.latchEvent p k) s = .next t ∧ t.events = s.events.erase (.latch p k tick) ∧ tickTime (tick + 2) ≤ t.time.now
          ∧ tick + 2 ≤ KMap.get (fun _ => 0) (t.port p).formed k.val ∧ KMap.get (fun _ => 0) (t.port p).formed k.val ≤ tick + 18
          ∧ ∃ r, t.latch p k = some r ∧ r.stamp = stamp48 (tickTime (tick + 2))
            ∧ (if s.portMode p = 3 ∨ s.portMode p = 4 then
                let x := s.edgePortSpeed p (tick + 2)
                r.speed = (iw x.1).toInt ∧ r.standstill = x.2 ∧ r.pos = (s.latchPos p (tick + 2) r.speed x.2).1
              else
                r.speed = s.regI (Item.POS.SPEED p) ∧ r.pos = (s.latchPos p (tick + 2) r.speed (s.port p).standstill).1)) ∧
      (tick + 2 < KMap.get (fun _ => 0) (s.port p).formed k.val →
        ∃ t, exec (.latchEvent p k) s = .next t ∧ t.events = s.events.erase (.latch p k tick) ∧ t.latch p k = s.latch p k
          ∧ t.reg (Item.POS.LATCH_OVR p) = s.reg (Item.POS.LATCH_OVR p) + 1))

/-- R263 to R266, R268 to R270: every SPD_PERIOD a port takes its computed speed and is class F beyond SPD_MAX; a compare unit sets its
index, counts the grid points passed, and issues the event scheduled for it on its tick, on the line to its converter. -/
def Obligations.PortsComputeSpeedAndCompare : Prop :=
  ∀ (s : State) (p : Fin 4), s.Calm →
    (let s1 := s.every (Timer.speed p) (s.regN (Item.POS.SPD_PERIOD p) * 1000)
      let x := if s.portMode p = 5 then s1.ssiSpeed p s1.tick else s1.edgePortSpeed p s1.tick
      3 ≤ s.portMode p → s.portMode p ≤ 5 → s.forceArmed (unitOf Kind.port p) 5 = false →
      (x.1.natAbs ≤ s.regN (Item.POS.SPD_MAX p) * 1000 →
        ((s.port p).spoke = true →
          (x.1 - s.regI (Item.POS.SPEED p)).natAbs * 1000000 ≤ s.regN (Item.POS.ACC_MAX p) * 1000 * s.regN (Item.POS.SPD_PERIOD p)) →
        ∃ t, exec (.speedCompute p) s = .next t ∧ t.reg (Item.POS.SPEED p) = iw x.1 ∧ (t.port p).standstill = x.2 ∧ t.unit = s.unit
          ∧ (t.port p).plaus = (s.port p).plaus ∧ (t.port p).raw = (s.port p).raw
          ∧ s.lastDone (Timer.speed p) + s.regN (Item.POS.SPD_PERIOD p) * 1000 ≤ t.time.now) ∧
      (s.regN (Item.POS.SPD_MAX p) * 1000 < x.1.natAbs → s.Notices (unitOf Kind.port p) 7 →
        ∃ t, exec (.speedCompute p) s = .next t ∧ s.TakesUp t (unitOf Kind.port p) .handling .F 7 ∧ (t.port p).plaus = true)) ∧
    (s.portMode p = 1 ∨ s.portMode p = 2 → ∃ t v, exec (.speedCompute p) s = .next t ∧ t.reg (Item.POS.SPEED p) = iw v
      ∧ (t.port p).spoke = true ∧ s.lastDone (Timer.speed p) + s.regN (Item.POS.SPD_PERIOD p) * 1000 ≤ t.time.now) ∧
    (∀ (lv : Fin 8) tick stable (c : Fin 2) j, s.regN (Item.POS.EDGE_FILT p) ≤ stable → (s.port p).levels ≠ lv.val →
      s.forceArmed (unitOf Kind.port p) 1 = false → s.portMode p = 3 → s.regN (Item.POS.Z_EN p) ≠ 1 → quadStep (s.port p).levels lv ≠ 0 →
      s.compareOn p c = true → KMap.get (fun _ => none) (s.port p).index c.val = some j →
      KMap.get (fun _ => none) (s.port p).planned c.val = none →
      ∃ t, exec (.portEdge p lv tick stable) s = .next t ∧
        let g := t.gridStep p c j
        (g.2.1 = 0 → KMap.get (fun _ => none) (t.port p).index c.val = some j ∧ KMap.get (fun _ => none) (t.port p).planned c.val = none) ∧
        (g.2.1 ≠ 0 → KMap.get (fun _ => none) (t.port p).index c.val = some g.1
          ∧ KMap.get (fun _ => none) (t.port p).planned c.val
              = if t.compareDir p c g.2.2 then some { tick := tick + 1, index := g.1, passed := g.2.1 } else none)) ∧
    (∀ c : Fin 2,
      (s.compareOn p c = true → KMap.get (fun _ => none) (s.port p).planned c.val = none →
        KMap.get (fun _ => none) (s.port p).index c.val = none →
        ∃ t, exec (.compareEvent p c) s = .next t ∧ KMap.get (fun _ => none) (t.port p).index c.val = some (s.gridIndex p c)
          ∧ t.reg = s.reg ∧ t.events = s.events) ∧
      (∀ e, KMap.get (fun _ => none) (s.port p).planned c.val = some e → (s.unit (unitOf Kind.port p)).out = false →
        let d := s.reg (Item.POS.CMP_DST p c)
        ∃ t, exec (.compareEvent p c) s = .next t ∧ KMap.get (fun _ => none) (t.port p).index c.val = some e.index
          ∧ KMap.get (fun _ => none) (t.port p).planned c.val = none
          ∧ t.reg (Item.POS.CMP_CNT p c) = s.reg (Item.POS.CMP_CNT p c) + 1
          ∧ t.reg (Item.POS.CMP_SKIP p c) = s.reg (Item.POS.CMP_SKIP p c) + nw (e.passed - 1)
          ∧ t.reg (Item.POS.CMP_T p c) = nw e.tick ∧ tickTime e.tick ≤ t.time.now
          ∧ t.events = s.events ++ (if bitsOf d 15 12 = 1 then [.convert (bitsOf d 11 8) (bitsOf d 2 0) e.tick] else [])))

/-- R250 to R253, R258, R259: an analogue port's amplitude and common mode, the excitation, the wires of a pair and the frames of an SSI
port are checked as their chapters say. -/
def Obligations.PortsCheckTheirSensors : Prop :=
  ∀ (s : State) (p : Fin 4), s.Calm → (s.unit (unitOf Kind.port p)).state = .idle → (s.unit (unitOf Kind.port p)).force = 0 →
    (s.unit (unitOf Kind.port p)).forceArmed = 0 →
    (∀ x : PortSample, s.portMode p = 1 ∨ s.portMode p = 2 →
      let square := PortSample.square x (s.portMode p)
      ∃ t, exec (.observerUpdate p x) s = .next t
        ∧ ((t.unit (unitOf Kind.port p)).state = .idle → t.reg (Item.POS.AMP p) = nw (Nat.sqrt square))
        ∧ (t.port p).observed.natAbs ≤ s.trackLimit p ∧ (t.port p).seen = true ∧ s.lastDone (Timer.observer p) + 625 ≤ t.time.now
        ∧ (square * 10000 < (s.regN (Item.POS.AMP_NOM p) * s.regN (Item.POS.AMP_LO p)) ^ 2 → (s.port p).ampRun = 15 →
            s.Unranked (unitOf Kind.port p) 2 → s.TakesUp t (unitOf Kind.port p) .handling .F 2 ∧ (t.port p).amp = true)) ∧
    (∀ peak, s.portMode p = 1 → (s.port p).excOn = true →
      ∃ t, exec (.excitationPeriod p peak) s = .next t ∧ ((t.unit (unitOf Kind.port p)).state = .idle → t.reg (Item.POS.EXC_I p) = nw peak)
        ∧ (s.regN (Item.POS.EXC_IMIN p) ≤ peak → peak ≤ s.regN (Item.POS.EXC_IMAX p) → (t.port p).excRun = 0 ∧ (t.port p).excOn = true)
        ∧ (peak < s.regN (Item.POS.EXC_IMIN p) → (s.port p).excRun = 3 → s.Unranked (unitOf Kind.port p) 3 →
            s.TakesUp t (unitOf Kind.port p) .handling .F 3 ∧ (t.port p).excOn = false)) ∧
    (∀ (pair : Fin 3) vP vN ticks,
      let vth := s.regN (Item.POS.WIRE_VTH p) * 100
      (s.pairUsed p pair = false ∨ ((vth < vP) ↔ ¬(vth < vN)) →
        ∃ t, exec (.wireDisagreement p pair vP vN ticks) s = .next t ∧ t.port p = s.port p ∧ t.reg = s.reg ∧ t.unit = s.unit) ∧
      (s.pairUsed p pair = true → ((vth < vP) ↔ (vth < vN)) →
        (s.regN (Item.POS.WIRE_T p) * 2 ≤ ticks * 5 → s.Unranked (unitOf Kind.port p) 1 →
          ∃ t, exec (.wireDisagreement p pair vP vN ticks) s = .next t ∧ s.TakesUp t (unitOf Kind.port p) .handling .F 1
            ∧ (t.port p).wire = true) ∧
        (ticks * 5 < s.regN (Item.POS.WIRE_T p) * 2 →
          let recent := s.time.now :: (s.port p).shorts.filter (fun x => decide (s.time.now < x + 100000000))
          ∃ t, exec (.wireDisagreement p pair vP vN ticks) s = .next t ∧ t.reg (Item.POS.WIRE_CNT p) = s.reg (Item.POS.WIRE_CNT p) + 1
            ∧ (t.port p).wire = (s.port p).wire ∧ (t.port p).shorts = recent
            ∧ (recent.length < s.regN (Item.POS.WIRE_MAX p) → t.unit = s.unit)
            ∧ (s.regN (Item.POS.WIRE_MAX p) ≤ recent.length → s.Unranked (unitOf Kind.port p) 16 →
                t.Shows (unitOf Kind.port p) .idle .W 16)))) ∧
    (∀ (word : BitVec 40) release, s.portMode p = 5 → (s.port p).seen = false → release ≤ s.regN (Item.POS.SSI_TMO p) * 1000 →
      word.toNat % 2 ^ s.regN (Item.POS.SSI_STAT p) &&& s.regN (Item.POS.SSI_ERRMASK p) = 0 →
      ∃ t, exec (.ssiFrame p word false release) s = .next t ∧ (t.port p).seen = true ∧ (t.port p).rejectRun = 0
        ∧ (t.port p).ssi = false ∧ (t.port p).raw = s.ssiPosition p word.toNat ∧ t.unit = s.unit
        ∧ s.lastDone (Timer.frame p) + s.regN (Item.POS.SSI_PERIOD p) * 1000 ≤ t.time.now) ∧
    (∀ (word : BitVec 40) lowBefore release, s.portMode p = 5 →
      lowBefore = true ∨ s.regN (Item.POS.SSI_TMO p) * 1000 < release
        ∨ word.toNat % 2 ^ s.regN (Item.POS.SSI_STAT p) &&& s.regN (Item.POS.SSI_ERRMASK p) ≠ 0 →
      ((s.port p).rejectRun = 2 → s.Unranked (unitOf Kind.port p) 6 →
        ∃ t, exec (.ssiFrame p word lowBefore release) s = .next t ∧ s.TakesUp t (unitOf Kind.port p) .handling .F 6
          ∧ (t.port p).raw = (s.port p).raw ∧ (t.port p).ssi = true) ∧
      ((s.port p).rejectRun < 2 → s.Unranked (unitOf Kind.port p) 17 →
        ∃ t, exec (.ssiFrame p word lowBefore release) s = .next t ∧ t.Shows (unitOf Kind.port p) .idle .W 17
          ∧ (t.port p).raw = (s.port p).raw ∧ (t.port p).rejectRun = (s.port p).rejectRun + 1
          ∧ t.reg (Item.POS.SSI_ERR_CNT p) = s.reg (Item.POS.SSI_ERR_CNT p) + 1))

/-- R363 to R366, R373: the limit word of a leg cuts its pulse to the tick on which it is delivered; the zero-current word turns a low side
off in diode emulation; SYNCIN edges are counted while their interval is valid, keep the lock, and their loss ends it. -/
def Obligations.AuxWordsActOnTheTickOfDelivery : Prop :=
  ∀ s : State, s.Calm →
    (∀ (leg : Fin 48) tick n, s.legSheaf leg = some n → s.carries n = true → s.limitActs n leg = true → (s.leg leg).hs.command = true →
      (s.pulse (s.pulseAt leg (tick * 32))).start ≤ tick * 32 →
      tick * 32 - (s.pulse (s.pulseAt leg (tick * 32))).start < (s.pulse (s.pulseAt leg (tick * 32))).cmp.getD 0 →
      let len := tick * 32 - (s.pulse (s.pulseAt leg (tick * 32))).start
      ∃ t, exec (.cycleLimit leg tick) s = .next t
        ∧ t.pulse (s.pulseAt leg (tick * 32)) = (s.pulse (s.pulseAt leg (tick * 32))).cutTo len
        ∧ t.reg (Item.PWM.CMP_NOW n (s.bind.position leg)) = nw len ∧ (t.auxRun (decide (s.stype n = SType.auxb))).cut = true
        ∧ t.leg = s.leg ∧ t.unit = s.unit ∧ tickTime tick ≤ t.time.now) ∧
    (∀ (leg : Fin 48) tick n, s.legSheaf leg = some n → s.carries n = true → s.stype n = SType.auxb → s.updateEmulation.emulates = true →
      (s.leg leg).ls.command = true →
      (let x := s.pulse (s.pulseAt leg (tick * 32))
       fineTime (x.start + x.cmp.getD 0 + x.dtLs) + s.regN Item.AUX.ZCD_BLANK ≤ tickTime tick) →
      ∃ t, exec (.zeroCurrent leg tick) s = .next t ∧ (t.leg leg).ls.command = false ∧ (t.leg leg).hs = (s.leg leg).hs
        ∧ (t.pulse (s.pulseAt leg (tick * 32))).zcd = true ∧ t.reg = s.reg ∧ t.unit = s.unit) ∧
    (∀ tick n, s.bind.sheafOfType SType.auxb = some n → s.forced (unitOf Kind.sheaf n) 2 = false →
      (s.syncIn.edge = none → ∃ t, exec (.syncinEdge tick) s = .next t ∧ t.syncIn = { s.syncIn with edge := some tick } ∧ t.reg = s.reg) ∧
      (∀ e, s.syncIn.edge = some e → ((tick - e) * 32 < (periodRange SType.auxb).1 ∨ (periodRange SType.auxb).2 < (tick - e) * 32) →
        ∃ t, exec (.syncinEdge tick) s = .next t ∧ t.syncIn = { s.syncIn with edge := some tick, agree := 0 } ∧ t.reg = s.reg) ∧
      (∀ e, s.syncIn.edge = some e → (periodRange SType.auxb).1 ≤ (tick - e) * 32 → (tick - e) * 32 ≤ (periodRange SType.auxb).2 →
        s.regN Item.AUX.SYNC_STATE = 3 →
        ∃ t, exec (.syncinEdge tick) s = .next t ∧ t.syncIn.edge = some tick ∧ t.syncIn.interval = tick - e ∧ t.syncIn.missed = 0
          ∧ t.reg Item.AUX.SYNC_STATE = 2 ∧ t.unit = s.unit) ∧
      (s.regN Item.AUX.SYNC_STATE = 3 → 4 ≤ s.syncIn.missed → s.Notices (unitOf Kind.sheaf n) 19 →
        ∃ t, exec .syncinLoss s = .next t ∧ t.reg Item.AUX.SYNC_STATE = 4 ∧ t.Shows (unitOf Kind.sheaf n) .idle .W 19
          ∧ t.reg Item.AUX.SYNC_LOSS_CNT = s.reg Item.AUX.SYNC_LOSS_CNT + 1 ∧ t.sheaf = s.sheaf))

/-- R361, R362, R368, R372: each millisecond the auxiliary setpoints follow their ramp in soft start and their slew against the limit while
regulating. -/
def Obligations.AuxSetpointsFollowRampAndLimit : Prop :=
  ∀ s : State, s.Calm →
    (let p := F32.div (F32.mul (s.laneSource 12 0) (s.laneSource 12 1)) (s.reg Item.AUX.EFF_I)
     let s1 := s.every Timer.auxI 1000000
     (s.auxSheaf false).isSome = true →
      ∃ t, exec .auxPowerLimit s = .next t ∧ t.reg Item.AUX.P_IN_EST = iw (max 0 (F32.toInt p))
        ∧ (s.regN Item.AUX.I_STATE = 1 → t.reg (Item.LOOP.SETPT_A 12) = s1.rampSetpoint false)
        ∧ (s.regN Item.AUX.I_STATE = 2 → t.reg (Item.LOOP.SETPT_A 12)
            = s.slewSetpoint false (F32.lt (F32.ofInt s.inputLimit.1) p) (F32.ofRat (s.regI Item.AUX.V48_MIN) 10))
        ∧ (3 ≤ s.regN Item.AUX.I_STATE → t.reg (Item.LOOP.SETPT_A 12) = s.reg (Item.LOOP.SETPT_A 12))
        ∧ t.leg = s.leg ∧ t.sheaf = s.sheaf ∧ t.unit = s.unit ∧ s.lastDone Timer.auxI + 1000000 ≤ t.time.now) ∧
    (∀ n, s.auxSheaf true = some n →
      let s1 := s.every Timer.auxB 1000000
      ∃ t, exec .auxbCurrentLimit s = .next t
        ∧ (s.regN Item.AUX.B_STATE = 1 → t.reg (Item.LOOP.SETPT_A 13) = s1.rampSetpoint true)
        ∧ (s.regN Item.AUX.B_STATE = 2 → t.reg (Item.LOOP.SETPT_A 13) = s.slewSetpoint true
            (F32.lt (F32.mul (F32.ofRat (s.regI Item.AUX.I12_PH_MAX) 10) (F32.ofInt (s.phasesOn n).length)) (s.laneSource 13 1)) 0)
        ∧ (3 ≤ s.regN Item.AUX.B_STATE → t.reg = s.reg) ∧ t.leg = s.leg ∧ t.sheaf = s.sheaf ∧ t.unit = s.unit
        ∧ s.lastDone Timer.auxB + 1000000 ≤ t.time.now)

/-- R368 to R371, R378, R380, R381: the start attempts of an auxiliary sheaf, its hiccups, its start without a command, an input that is low
and an output that is high. -/
def Obligations.AuxAttemptsSucceedPauseOrFail : Prop :=
  ∀ (s : State) (buck : Bool) (n : Nat), s.Calm → s.auxSheaf buck = some n → (s.unit (unitOf Kind.sheaf n)).state = .idle →
    let u := unitOf Kind.sheaf n
    let x := s.auxRun buck
    let near := F32.le (F32.abs (F32.sub (s.laneSource (auxLane buck) 0) (s.auxTarget buck))) (F32.mul 0x3D4CCCCD (s.auxTarget buck))
    let ramp := x.attemptFrom + s.softStartMs buck * 1000000
    let run := if buck then Item.AUX.B_FAILSTART_RUN else Item.AUX.I_FAILSTART_RUN
    ((s.sheaf n).state = .run → s.auxState n = 1 → x.limited < s.hiccupN buck → near = true →
      ∃ t, exec (.softStartEnd buck) s = .next t ∧ ramp ≤ t.time.now ∧ t.reg (auxStateItem buck) = 2
        ∧ t.reg (Item.LOOP.SETPT_A (auxLane buck)) = s.auxTarget buck ∧ t.reg run = 0 ∧ t.sheaf = s.sheaf ∧ t.unit = s.unit
        ∧ t.leg = s.leg) ∧
    ((s.sheaf n).state = .run → s.auxState n = 1 → s.hiccupN buck ≤ x.limited ∨ near = false ∧ ramp + 10000000 ≤ s.time.now → s.regN run < 7 →
      ∃ t, exec (.softStartEnd buck) s = .next t ∧ t.reg (auxStateItem buck) = 3 ∧ t.regN run = s.regN run + 1
        ∧ (t.auxRun buck).pauseEnd = some (s.time.now + s.hiccupOff buck * 1000000) ∧ t.sheaf = s.sheaf ∧ t.unit = s.unit) ∧
    ((s.sheaf n).state = .run → s.auxState n = 1 → s.hiccupN buck ≤ x.limited ∨ near = false ∧ ramp + 10000000 ≤ s.time.now → s.regN run = 7 →
      s.Unranked u 2 →
      ∃ t, exec (.softStartEnd buck) s = .next t ∧ s.TakesUp t (unitOf Kind.sheaf n) .handling .F 2 ∧ (t.sheaf n).state = .winnowed) ∧
    ((s.sheaf n).state = .run → s.auxState n = 2 → s.hiccupN buck ≤ x.consecutive → s.Unranked u 17 →
      ∃ t, exec (.runningHiccup buck) s = .next t ∧ t.reg (auxStateItem buck) = 3 ∧ t.Shows (unitOf Kind.sheaf n) .idle .W 17
        ∧ (t.auxRun buck).pauseEnd = some (s.time.now + s.hiccupOff buck * 1000000) ∧ t.sheaf = s.sheaf) ∧
    (∀ e, x.pauseEnd = some e → (s.sheaf n).state = .run → s.auxState n = 3 →
      ∃ t, exec (.hiccupPauseEnd buck) s = .next t ∧ e ≤ t.time.now ∧ t.reg (auxStateItem buck) = 1
        ∧ (t.auxRun buck).attemptFrom = t.time.now ∧ (t.auxRun buck).pauseEnd = none ∧ t.sheaf = s.sheaf ∧ t.unit = s.unit) ∧
    (∀ ms checks, 100 ≤ ms → (s.sheaf n).state = .ready → s.regN (if buck then Item.AUX.B_AUTO_START else Item.AUX.I_AUTO_START) ≠ 0 →
      (s.sheaf n).held = false → bitOf (s.reg Item.THM.TA_HOLD) (16 + n) = false → s.runPermitted n false = true →
      (s.auxInputMin buck : Int) ≤ s.auxInput buck → s.anyDeferred n = false →
      ∃ t, exec (.auxAutoStart buck ms checks) s = .next t ∧ (t.sheaf n).state = .run ∧ t.unit = s.unit) ∧
    (∀ us, 1000 ≤ us → (s.sheaf n).state = .run → s.auxInput buck < (s.auxInputMin buck : Int) → s.Unranked u 18 →
      ∃ t, exec (.auxInputLow buck us) s = .next t ∧ t.reg (auxStateItem buck) = 4 ∧ t.Shows (unitOf Kind.sheaf n) .idle .W 18
        ∧ (t.sheaf n).state = .run ∧ ∃ r, (t.sheaf n).stop = some r ∧ r.word = true) ∧
    (∀ us, 10 ≤ us → (s.sheaf n).state = .run → (s.regN (if buck then Item.AUX.V12_OV else Item.AUX.V48_OV) : Int) < s.auxOutput buck →
      s.Unranked u 3 →
      ∃ t, exec (.auxOutputOv buck us) s = .next t ∧ s.TakesUp t (unitOf Kind.sheaf n) .handling .F 3 ∧ (t.sheaf n).state = .winnowed)

/-- R85, R385 to R388, Table 13-7: the SHIP contact, its hold timer, the reset of the 12 V system and the entry to TRANSPORT. -/
def Obligations.ShipResetsTheTwelveVoltsAndOpensTheLatch : Prop :=
  ∀ s : State,
    (∀ low ms, ms < 10 ∨ s.lv.shipLow = low → exec (.shipLevelChange low ms) s = .next s) ∧
    (∀ ms, 10 ≤ ms → s.lv.shipLow = false → exec (.shipLevelChange true ms) s = .next { s with lv := { s.lv with
      shipLow := true, done10 := false, done20 := false
      shipFrom := if s.lv.armed = true ∧ s.live = true then some (s.time.now - ms * 1000000) else none } }) ∧
    (∀ ms, 10 ≤ ms → s.lv.shipLow = true → exec (.shipLevelChange false ms) s = .next { s with lv := { s.lv with
      shipLow := false, shipFrom := none, armed := true, done10 := false, done20 := false } }) ∧
    (s.live = true →
      (∀ f, s.lv.shipFrom = some f → s.lv.done10 = false → s.lv.phase = false →
        ∃ t, exec .shipHold10s s = .next t ∧ t.lv.latchOpen = true ∧ t.lv.phase = true ∧ t.lv.phaseFrom = t.time.now ∧ t.lv.done10 = true
          ∧ f + 10000000000 ≤ t.time.now ∧ t.sheaf = s.sheaf ∧ t.unit = s.unit
          ∧ ∀ n, s.auxSheaf true = some n → (s.sheaf n).state = .run → t.auxB.pauseEnd = none
            ∧ ∀ l ∈ s.bind.legsOf n, (t.leg l).hs.command = false ∧ (t.leg l).ls.command = false) ∧
      (s.lv.phase = true → ∃ t, exec .shipResetEnd s = .next t ∧ t.lv.phase = false ∧ t.lv.latchOpen = s.lv.transport
        ∧ s.lv.phaseFrom + 2000000000 ≤ t.time.now ∧ t.sheaf = s.sheaf ∧ t.unit = s.unit) ∧
      (∀ f, s.lv.shipFrom = some f → s.lv.done20 = false → s.dev.state = .standby ∨ s.dev.state = .safe →
        ∃ t, exec .shipHold20s s = .next t ∧ t.dev.state = .transport ∧ t.lv.latchOpen = true ∧ t.lv.transport = true ∧ t.lv.shipFrom = none
          ∧ (∀ n < 48, (t.leg n).supplies = false) ∧ (∀ n < 8, (t.out n).on = false) ∧ (∀ n < 12, (t.sheaf n).state ≠ .run)
          ∧ (∀ n < 12, (s.sheaf n).state = .safe → (t.sheaf n).state = .off) ∧ f + 20000000000 ≤ t.time.now) ∧
      (∀ f, s.lv.shipFrom = some f → s.lv.done20 = false → s.dev.state ≠ .standby → s.dev.state ≠ .safe → s.Notices (unitOf Kind.device 0) 22 →
        ∃ t, exec .shipHold20s s = .next t ∧ t.Shows (unitOf Kind.device 0) .idle .W 22 ∧ t.dev.state = s.dev.state ∧ t.lv = { s.lv with done20 := true }
          ∧ t.sheaf = s.sheaf ∧ t.out = s.out))

/-- R457 to R459, R463 to R465, R468: estimates of leg temperatures, the rates of rise and the factors they give, and the pauses of the
charger and of image writes while throttled. -/
def Obligations.EstimatesGiveTheDeratingFactors : Prop :=
  ∀ s : State, s.Calm →
    (∀ dies vsup vso, ∃ t, exec (.tempEstimate dies vsup vso) s = .next t ∧ t.sheaf = s.sheaf ∧ t.lane = s.lane ∧ t.out = s.out
      ∧ s.lastDone Timer.estimate + 1000000 ≤ t.time.now
      ∧ t.reg Item.DEV.VSUP_MV = nw (Nat.min vsup 70000) ∧ t.reg Item.DEV.VSO_MV = nw (Nat.min vso 70000)
      ∧ t.reg Item.CHG.DERATE = if t.burstPause then 0 else t.lowestDerating t.chargerLegs) ∧
    (∀ (leg : Fin 48) n vsup vso, s.bind.sheafOfLeg leg = some n →
      let h := s.heat leg
      let now := Nat.max s.time.now (s.lastDone Timer.estimate + 1000000)
      let fresh (x : Nat) : Bool := decide (now ≤ x + s.regN Item.THM.AGE_MAX * 1000000)
      let reading := h.reading.filter (fun r => fresh r.1)
      let ts := match reading with | some (_, v, low) => s.sensorTemp v low | none => h.ts
      ∃ t, exec (.tempEstimate [] vsup vso) s = .next t ∧ (t.heat leg).ts = ts ∧ (t.heat leg).dT = s.heatRise n leg
        ∧ (t.heat leg).csCount = 0 ∧ (t.heat leg).csAbs = 0 ∧ (t.heat leg).csSq = 0
        ∧ (t.heat leg).valid = (reading.isSome && tempPlausible ts
            && (!s.legSwitching leg || (match h.csSeen with | some x => fresh x | none => false)))
        ∧ ((t.heat leg).valid = true → t.reg (Item.LEG.TEMP_EST leg) = iw (F32.toIntScaled (F32.add ts (s.heatRise n leg)) 10 1))
        ∧ ((t.heat leg).valid = false → (t.leg leg).failsafe = true ∧ t.reg (Item.LEG.TEMP_EST leg) = s.reg (Item.LEG.TEMP_EST leg))) ∧
    (∃ t, exec .tempRateEval s = .next t ∧ t.reg = s.reg ∧ t.sheaf = s.sheaf ∧ t.leg = s.leg
      ∧ s.lastDone Timer.rates + 100000000 ≤ t.time.now ∧ (∀ l < 48, (s.bind.sheafOfLeg l).isSome = true → t.heat l = (s.heat l).evaluate)
      ∧ ∀ k < s.setCount, t.rateFactor k
          = if (s.setLegs k).any (fun l => F32.lt (F32.ofInt (s.regI Item.THM.DTDT_MAX)) (t.heat l).rate) = true
            then F32.max (s.reg Item.THM.DTDT_FLOOR) (F32.sub (s.rateFactor k) (s.reg Item.THM.DTDT_STEP))
            else F32.min F32.one (F32.add (s.rateFactor k) (s.reg Item.THM.DTDT_STEP))) ∧
    (∀ since, s.charge.burst = some (true, since) → ∃ t, exec .chargeBurstPause s = .next t ∧ t.charge.burst = some (false, t.time.now)
      ∧ since + s.regN Item.THM.CHG_PAUSE * 1000000 ≤ t.time.now ∧ t.reg Item.CHG.DERATE = t.lowestDerating t.chargerLegs) ∧
    (∀ since, s.charge.burst = some (false, since) → s.charge.running = true → s.throttled s.chargerLegs = true →
      ∃ t, exec .chargeBurstPause s = .next t ∧ t.charge.burst = some (true, t.time.now) ∧ t.reg Item.CHG.DERATE = 0
        ∧ since + s.regN Item.THM.CHG_BURST * 1000000000 ≤ t.time.now) ∧
    (∃ t, exec .nvPauseEnd s = .next t ∧ t.commit = { s.commit with pauseUntil := 0 } ∧ s.commit.pauseUntil ≤ t.time.now
      ∧ t.reg = s.reg ∧ t.store = s.store)

/-- R461, R462, R466, R467, R469, Tables 17-2 and 17-3: an orderly thermal stop and its hold, the end of the hold, a hardware cut and its
release. -/
def Obligations.HotUnitsStopAndAreHeld : Prop :=
  ∀ s : State, s.Calm →
    (∀ (leg : Fin 48) n, s.bind.sheafOfLeg leg = some n → (s.heat leg).valid = true →
      s.regI Item.THM.STOP * 10 ≤ s.regI (Item.LEG.TEMP_EST leg) → s.Notices (unitOf Kind.sheaf n) 24 →
      (s.stype n = SType.auxi → s.holdBit (16 + n) = false → (s.sheaf n).state = .run →
        ∃ t, exec (.thermalStop leg) s = .next t ∧ t.reg Item.THM.TA_HOLD = s.reg Item.THM.TA_HOLD ||| nw (2 ^ (16 + n))
          ∧ t.reg Item.THM.TA_CNT = s.reg Item.THM.TA_CNT + 1 ∧ t.Shows (unitOf Kind.sheaf n) .idle .W 24
          ∧ ∃ r, (t.sheaf n).stop = some r ∧ r.word = true) ∧
      (s.stype n = SType.auxb → ∃ t, exec (.thermalStop leg) s = .next t ∧ t.reg = s.reg ∧ t.unit = s.unit ∧ t.sheaf = s.sheaf) ∧
      (let k := (leg.val - s.bind.firstOf n) / 3
       s.stype n = SType.trc → s.holdBit k = false → s.setWinnowed k = false → s.regN Item.TRC.MIN_SETS < s.setsActive.length →
        (s.sheaf n).state = .run → s.trac.ramps.any (fun r => decide (r.1 = k)) = false →
        ∃ t, exec (.thermalStop leg) s = .next t ∧ t.trac.ramps = s.trac.ramps ++ [(k, s.time.now, true)]
          ∧ t.reg Item.THM.TA_HOLD = s.reg Item.THM.TA_HOLD ||| nw (2 ^ k) ∧ t.Shows (unitOf Kind.sheaf n) .idle .W 24
          ∧ t.sheaf = s.sheaf ∧ t.leg = s.leg)) ∧
    (∀ n < 12, s.holdBit (16 + n) = true → s.cooled (s.stoppedLegs n) = true →
      ∃ t, exec (.thermalHoldRelease (unitOf Kind.sheaf n)) s = .next t
        ∧ t.reg Item.THM.TA_HOLD = s.reg Item.THM.TA_HOLD &&& ~~~(nw (2 ^ (16 + n))) ∧ t.sheaf = s.sheaf ∧ t.unit = s.unit) ∧
    (∀ k < 6, s.holdBit k = true → s.cooled (s.setLegs k) = true →
      ∃ t, exec (.thermalHoldRelease (unitOf Kind.set k)) s = .next t
        ∧ t.reg Item.THM.TA_HOLD = s.reg Item.THM.TA_HOLD &&& ~~~(nw (2 ^ k)) ∧ t.unit = s.unit
        ∧ (∀ n, k ∈ s.trac.thermal → s.trcSheaf = some n → s.sup.asc = false → (s.unit (unitOf Kind.set k)).commanded = false →
            s.provable n = true → ∃ p ∈ t.proofs, p.unit = unitOf Kind.set k ∧ p.recovery = true)) ∧
    (∀ (cut : Fin 6) temp readings, bitOf (s.reg Item.THM.TB_STATE) cut = false → s.Notices (unitOf Kind.device 0) 26 →
      (cut.val ≠ 5 → 1650 < temp) → (cut.val = 5 → ∃ v ∈ readings, v < 252) →
      ∃ t, exec (.tbCut cut temp readings) s = .next t ∧ t.Shows (unitOf Kind.device 0) .idle .W 26 ∧ (∀ l ∈ s.cutLegs cut, (t.leg l).supplies = false)
        ∧ bitOf (t.reg Item.THM.TB_STATE) cut = true ∧ (cut.val = 4 → t.sup.releases = 0)
        ∧ ∀ n ∈ s.cutSheaves cut, (s.sheaf n).state = .proving ∨ (s.sheaf n).state = .ready ∨ (s.sheaf n).state = .run →
            (t.sheaf n).state = .winnowed) ∧
    (∀ (cut : Fin 6) temp readings, bitOf (s.reg Item.THM.TB_STATE) cut = true →
      (cut.val ≠ 5 → temp < 1400) → (cut.val = 5 → ∀ v ∈ readings, 404 < v) →
      ((∀ n < 12, (s.sheaf n).state ≠ .winnowed) → ∃ t, exec (.tbRelease cut temp readings) s = .next t
        ∧ t.reg Item.THM.TB_STATE = s.reg Item.THM.TB_STATE &&& ~~~(nw (2 ^ cut.val)) ∧ t.sheaf = s.sheaf ∧ t.unit = s.unit
        ∧ (cut.val = 4 → s.dev.tested = true → t.sup.releases = BitVec.allOnes 48)) ∧
      (∀ n < 12, (s.sheaf n).state = .winnowed → (s.sheaf n).causes = [unitOf 15 cut] → (s.sheaf n).commanded = false →
        (s.unit (unitOf Kind.sheaf n)).out = false → s.provable n = true →
        ∃ t, exec (.tbRelease cut temp readings) s = .next t ∧ (t.sheaf n).state = .proving ∧ ∃ p ∈ t.proofs, p.unit = unitOf Kind.sheaf n))

/-- R75 to R79, R440, R441, R443 to R447: the ends of a sheaf's proof, of a targeted self-test and of a rest, and the proof of a sheaf whose
causes are gone. -/
def Obligations.UnitsComeBackByTheirRules : Prop :=
  ∀ s : State, s.live = true →
    (∀ n legs link presence p, n < 12 → s.proofs.find? (fun p => decide (p.unit = unitOf Kind.sheaf n)) = some p →
      p.unit = unitOf Kind.sheaf n → p.sheaf = n → p.report = false → p.running = false → (s.sheaf n).state = .proving →
      ∃ t, exec (.sheafProofEnd (unitOf Kind.sheaf n) legs link presence) s = .next t
        ∧ ((t.sheaf n).state = .ready ∨ (t.sheaf n).state = .winnowed) ∧ ∀ q ∈ t.proofs, q.unit ≠ unitOf Kind.sheaf n) ∧
    (∀ u finding, (s.unit u).state = .handling →
      ((s.unit u).cls = .L → ∃ t, exec (.selftestResult u finding) s = .next t ∧ t.unit u = { s.unit u with state := .lasting }) ∧
      ((s.unit u).cls ≠ .L → s.targetedOk u finding = true → (s.unit u).atLimit = false →
        ∃ t, exec (.selftestResult u finding) s = .next t ∧ t.unit u = { s.unit u with
          state := .resting, restEnd := s.time.now + s.regN (Item.FLT.REST (unitType u)) * 1000000 }) ∧
      ((s.unit u).cls ≠ .L → s.targetedOk u finding = false ∨ (s.unit u).atLimit = true → (s.unit u).src < 256 →
        ∃ t, exec (.selftestResult u finding) s = .next t ∧ s.TakesUp t u .lasting .L (s.unit u).src)) ∧
    (∀ u integrated presence, s.dev.state ≠ .locked → (s.unit u).state = .resting → s.heldByCommand u = false →
      s.regN (Item.FLT.AUTO_RECOV (unitType u)) = 1 →
      (unitKind u = Kind.fastInput ∨ unitKind u = Kind.slowInput ∨ unitKind u = Kind.output ∨ unitKind u = Kind.fast
          ∨ unitKind u = Kind.slow ∨ unitKind u = Kind.supervisor →
        ∃ t, exec (.restEnd u integrated presence) s = .next t ∧ (t.unit u).state = .idle ∧ (t.unit u).total = (s.unit u).total + 1
          ∧ (s.unit u).restEnd ≤ t.time.now ∧ s.LegsStand t ∧ t.sheaf = s.sheaf) ∧
      (unitKind u = Kind.can → integrated = true →
        ∃ t, exec (.restEnd u integrated presence) s = .next t ∧ (t.unit u).state = .idle ∧ (t.unit u).total = (s.unit u).total + 1
          ∧ (s.unit u).restEnd ≤ t.time.now) ∧
      (unitKind u = Kind.can → integrated = false →
        ∃ t, exec (.restEnd u integrated presence) s = .next t ∧ s.TakesUp t u .lasting .L 33)) ∧
    (∀ u integrated presence, s.dev.state = .locked →
      ∃ t, exec (.restEnd u integrated presence) s = .next t ∧ t.unit = s.unit ∧ t.dev.state = .locked) ∧
    (∀ n : Fin 12, (s.sheaf n).state = .winnowed → (s.sheaf n).causes ≠ [] → (s.sheaf n).commanded = false →
      (s.unit (unitOf Kind.sheaf n)).out = false → s.provable n = true → (s.sheaf n).causes.all s.causeBack = true →
      ∃ t, exec (.dependentReproof n) s = .next t ∧ (t.sheaf n).state = .proving ∧ (∃ p ∈ t.proofs, p.unit = unitOf Kind.sheaf n)
        ∧ t.unit = s.unit ∧ t.out = s.out)

/-- R29, R30, R155 to R158: the realignment of time, the comparison of a unit's parameters with their mirror, the parameter CRCs. -/
def Obligations.TheDeviceKeepsItsTimeAndParametersWhole : Prop :=
  ∀ s : State, s.Calm →
    (∃ t, exec .timeRealign s = .next t ∧ t.time.now = max s.time.now (s.time.replica + 1024) ∧ t.time.replica = t.time.now
      ∧ t.reg = s.reg ∧ t.unit = s.unit ∧ t.sheaf = s.sheaf) ∧
    (∃ t, exec .paramCrcUpdate s = .next t ∧ t.reg Item.DEV.PARAM_CRC_ACT = s.crcActive ∧ t.reg Item.DEV.PARAM_CRC_SHD = s.crcShadow
      ∧ t.unit = s.unit) ∧
    (∀ u src held, integritySource u = some src → s.unitExists u = true →
      let agrees := s.islandCrc (s.islandItems u) held = s.islandCrc (s.islandItems u) []
      (agrees → ∃ t, exec (.paramCrcCompare u held) s = .next t ∧ KMap.get (fun _ => 0) t.integrity u = 0 ∧ t.unit = s.unit
        ∧ s.lastDone (Timer.compare u) + 100000000 ≤ t.time.now) ∧
      (¬agrees → KMap.get (fun _ => 0) s.integrity u = 0 →
        ∃ t, exec (.paramCrcCompare u held) s = .next t ∧ KMap.get (fun _ => 0) t.integrity u = 1 ∧ t.unit = s.unit) ∧
      (¬agrees → 1 ≤ KMap.get (fun _ => 0) s.integrity u → s.Notices u src →
        ∃ t, exec (.paramCrcCompare u held) s = .next t ∧ s.TakesUp t u .handling .F src
          ∧ ∀ a ∈ t.poison, (s.integrityUnit a).map Prod.fst ≠ some u))

/-- R392 to R398: the steps of a MOVE: its pause, its latch, its way, its settling, what ends it before it has arrived. -/
def Obligations.MovesGoThroughTheirSteps : Prop :=
  ∀ (s : State) (k : Fin 2) (n : Nat) (m : MoveRun), s.Calm → s.actSheaf k = some n → (s.actuator k).move = some m →
    (s.unit (actUnit k)).state = .idle → (s.actuator k).stopAfter = false →
    (m.step = 2 → m.op ≤ 2 → s.parkActuator ≠ some k.val →
      ∃ t, exec (.movePauseEnd k) s = .next t ∧ (t.actuator k).move = some { m with step := 4, since := t.time.now }
        ∧ t.reg (Item.PROF.TARGET (s.actGen n)) = m.target ∧ t.unit = s.unit ∧ t.leg = s.leg) ∧
    (m.step = 2 → s.parkActuator = some k.val → (s.actuator k).lifted = false →
      ∃ t, exec (.movePauseEnd k) s = .next t ∧ (t.actuator k).move = some { m with step := 3, since := t.time.now }
        ∧ t.unit = s.unit ∧ t.leg = s.leg) ∧
    (m.step = 3 → m.op ≤ 2 →
      ∃ t, exec (.latchWaitEnd k) s = .next t ∧ (t.actuator k).lifted = true
        ∧ (t.actuator k).move = some { m with step := 4, since := t.time.now }
        ∧ m.since + s.regN (Item.ACT.LATCH_T k) * 1000000 ≤ t.time.now) ∧
    (m.step = 6 → m.op ≤ 2 → m.ending = none → m.auto = false →
      ∃ t, exec (.latchWaitEnd k) s = .next t ∧ (t.actuator k).move = none
        ∧ t.reg (Item.ACT.MOVE_CNT k) = s.reg (Item.ACT.MOVE_CNT k) + 1 ∧ t.unit = s.unit) ∧
    (∀ g : Fin 4, s.bind.profSheaf.getD g 15 = n → (s.sheaf n).state = .run → s.genDone g = true → s.stype n = SType.act →
      s.actGen n = g → s.actOf n = k → m.step = 4 →
      ∃ t, exec (.generatorDone g) s = .next t ∧ (t.actuator k).move = some { m with step := 5, since := s.time.now }
        ∧ t.reg (Item.PROF.X g) = s.reg (Item.PROF.TARGET g) ∧ t.reg (Item.PROF.V g) = 0 ∧ t.reg (Item.PROF.A g) = 0
        ∧ bitOf (t.reg (Item.PROF.STATUS g)) 0 = true ∧ t.unit = s.unit) ∧
    (m.step = 5 → m.op ≤ 2 → m.ending = none → m.auto = false → s.parkActuator ≠ some k.val →
      F32.le (F32.abs (s.reg (Item.LOOP.ERR_A (s.actLane n)))) (s.reg (Item.ACT.POS_BAND k)) = true →
      ∃ t, exec (.moveSettled k) s = .next t ∧ (t.actuator k).move = none
        ∧ t.reg (Item.ACT.MOVE_CNT k) = s.reg (Item.ACT.MOVE_CNT k) + 1
        ∧ Nat.max m.since ((s.actuator k).bandSince.getD m.since) + s.regN (Item.ACT.SETTLE_T k) * 1000000 ≤ t.time.now
        ∧ (t.actuator k).pauseEnd = t.time.now + s.regN (Item.ACT.PAUSE_MIN k) * 1000000 ∧ t.unit = s.unit) ∧
    (m.step = 4 ∨ m.step = 5 → s.parkActuator ≠ some k.val → s.shiftTorqueOk k = false →
      ∃ t, exec (.moveTorqueCheck k) s = .next t ∧ (t.actuator k).move = none ∧ t.reg (Item.PROF.CMD (s.actGen n)) = 1
        ∧ t.unit = s.unit ∧ s.lastDone (Timer.shiftTorque k) + 1000000 ≤ t.time.now)

/-- R392, R393, R397, R398, R401: stalls, a jam, a following error, the end stops of a homing, its timeout, a lost park-lock proof. -/
def Obligations.ActuatorsAreWatchedWhileTheyMove : Prop :=
  ∀ (s : State) (k : Fin 2) (n : Nat), s.Calm → s.actSheaf k = some n → (s.unit (actUnit k)).state = .idle →
    (s.actuator k).stopAfter = false →
    (∀ m, (s.actuator k).move = some m → m.step = 4 ∨ m.step = 12 → s.stalled k (s.actLane n) = true →
      (m.retries < s.regN (Item.ACT.RETRY_N k) → s.Unranked (actUnit k) 16 →
        ∃ t, exec (.actuatorStall k) s = .next t ∧ t.Shows (actUnit k) .idle .W 16
          ∧ (t.actuator k).move = some { m with step := 12, since := t.time.now, retries := m.retries + 1 }
          ∧ m.since + s.regN (Item.ACT.STALL_T k) * 1000000 ≤ t.time.now) ∧
      (s.regN (Item.ACT.RETRY_N k) ≤ m.retries → s.Unranked (actUnit k) 1 →
        ∃ t, exec (.actuatorStall k) s = .next t ∧ s.TakesUp t (actUnit k) .handling .F 1 ∧ (t.actuator k).move = none)) ∧
    ((s.actuator k).move = none → (s.sheaf n).state = .run → s.regN (Item.PROF.MODE (s.actGen n)) ≠ 0 →
      F32.lt (s.reg (Item.ACT.FOLLOW_MAX k)) (F32.abs (F32.sub (s.reg (Item.PROF.X (s.actGen n))) (s.actPos k))) = true → s.Unranked (actUnit k) 2 →
      ∃ t, exec (.followingError k) s = .next t ∧ s.TakesUp t (actUnit k) .handling .F 2 ∧ (t.sheaf n).state = .winnowed) ∧
    (∀ m, (s.actuator k).move = some m → m.step = 10 → s.forceArmed (actUnit k) 3 = false →
      F32.lt (s.reg (Item.ACT.HOME_ERR k)) (F32.abs (s.reg (Item.LOOP.ERR_A (s.actLane n)))) = true →
      ∃ t, exec (.homingStop k) s = .next t ∧ t.unit = s.unit ∧ t.leg = s.leg
        ∧ (t.actuator k).move = some { m with step := (if m.op = 4 then 11 else 4), since := t.time.now } ∧ m.since + 10000000 ≤ t.time.now) ∧
    (∀ m, (s.actuator k).move = some m → m.step = 10 ∨ m.step = 11 → s.Unranked (actUnit k) 3 →
      ∃ t, exec (.homingTimeout k) s = .next t ∧ s.TakesUp t (actUnit k) .handling .F 3 ∧ (t.actuator k).homed = false
        ∧ (t.actuator k).move = none ∧ m.since + s.regN (Item.ACT.HOME_TMAX k) * 1000000 ≤ t.time.now) ∧
    (s.parkActuator = some k.val → (s.actuator k).move = none → s.parkProved k = false → (s.actuator k).proved = true → s.dev.state ≠ .charge →
      s.Unranked (actUnit k) 18 →
      ∃ t, exec (.parkProofLost k) s = .next t ∧ (t.actuator k).proved = false ∧ t.Shows (actUnit k) .idle .W 18 ∧ t.sheaf = s.sheaf ∧ t.leg = s.leg) ∧
    (s.parkActuator = some k.val → (s.actuator k).move = none → s.parkProved k = true →
      ∃ t, exec (.parkProofLost k) s = .next t ∧ (t.actuator k).proved = true ∧ t.unit = s.unit ∧ t.reg = s.reg)

/-- R392 to R394, R398: a MOVE whose checks pass begins, with its operation and target. -/
def Obligations.MovesBeginWhenTheirChecksPass : Prop :=
  ∀ (s : State) (slot : Fin 8) (index : Fin 64) (r : CmdRec) (k : Fin 2) (n : Nat), s.Calm → s.Due slot index r →
    op r.msg = Op.move → target r.msg = actUnit k → s.actSheaf k = some n → (s.actuator k).move = none → moveFormed r.msg.payload = true →
    (opByte r.msg = 4 → s.dev.state = .service) →
    s.moveCheck k (opByte r.msg) (s.moveTarget k r.msg.payload).1
      (if wordAt r.msg.payload 8 = 0 then s.reg (Item.ACT.VMAX k) else wordAt r.msg.payload 8)
      (if wordAt r.msg.payload 12 = 0 then s.reg (Item.ACT.AMAX k) else wordAt r.msg.payload 12)
      (s.moveTarget k r.msg.payload).2 = 0 →
    let begins (t : State) : Prop := t.Runs slot index r ∧ t.unit = s.unit ∧ t.leg = s.leg
      ∧ ∃ m, (t.actuator k).move = some m ∧ m.op = opByte r.msg ∧ m.target = (s.moveTarget k r.msg.payload).1 ∧ m.auto = false
        ∧ m.ending = none
    (opByte r.msg = 1 → ∃ t, exec (.moveDetent slot index) s = .next t ∧ begins t) ∧
    (opByte r.msg = 2 → ∃ t, exec (.movePosition slot index) s = .next t ∧ begins t) ∧
    (opByte r.msg = 3 → ∃ t, exec (.moveHome slot index) s = .next t ∧ begins t) ∧
    (opByte r.msg = 4 → ∃ t, exec (.moveLearn slot index) s = .next t ∧ begins t)

/-- R327 to R330, R340, R343, R348, R349, R351, Table 12-8: what ends a charge session, and what is latched while a hand-over runs. -/
def Obligations.SessionsEndByTheirCauses : Prop :=
  ∀ s : State, s.Calm →
    (∀ h, s.charge.hand = some h →
      (h.step = 1 → ∃ t, exec .handover s = .next t ∧ t.charge.hand = some { h with step := 3, since := t.time.now }
        ∧ t.charge.cpsw = false ∧ t.reg Item.CHG.I_TGT = 0 ∧ t.unit = s.unit ∧ t.leg = s.leg) ∧
      (∀ plus minus periods ms, s.regN Item.CHG.PILOT_FILT ≤ ms → pilotOf plus minus periods ≠ s.regN Item.CHG.PILOT_STATE ∨ s.charge.pilotNext.isSome = true →
        ∃ t, exec (.pilotState plus minus periods ms) s = .next t
          ∧ t.charge = { s.charge with pilotNext := some (pilotOf plus minus periods, pilotDuty plus periods) } ∧ t.reg = s.reg) ∧
      (∀ plus minus periods ms, s.charge.pilotNext = none → pilotOf plus minus periods ≠ s.regN Item.CHG.PILOT_STATE → ms < s.regN Item.CHG.PILOT_FILT →
        ∃ t, exec (.pilotState plus minus periods ms) s = .next t ∧ t.charge = s.charge ∧ t.reg = s.reg) ∧
      (∀ mv, ∃ t, exec (.proximityChange mv) s = .next t ∧ t.charge = { s.charge with plugNext := some (plugCode mv) } ∧ t.reg = s.reg)) ∧
    (s.charge.hand = none →
      (∀ plus minus periods ms, let pilot := pilotOf plus minus periods; let duty := pilotDuty plus periods
        s.regN Item.CHG.PILOT_FILT ≤ ms → pilot = 1 ∨ pilot = 2 → ∃ t, exec (.pilotState plus minus periods ms) s = .next t
        ∧ t.reg Item.CHG.PILOT_STATE = nw pilot ∧ t.reg Item.CHG.PILOT_DUTY = nw duty ∧ t.reg Item.CHG.PILOT_I = nw (pilotCurrent duty)
        ∧ t.charge.plugSince = some (s.charge.plugSince.getD s.time.now) ∧ t.charge.hand = none ∧ t.unit = s.unit) ∧
      (∀ mv, plugCode mv ≠ 0 → plugCode mv ≠ 255 → s.dev.state ≠ .drive →
        ∃ t, exec (.proximityChange mv) s = .next t ∧ t.reg Item.CHG.PP_I = nw (plugCode mv) ∧ t.charge = s.charge ∧ t.unit = s.unit)) ∧
    (s.charge.hand = none → s.charge.running = true → s.charge.arm = none →
      (∀ plus minus periods ms, s.regN Item.CHG.PILOT_FILT ≤ ms → pilotOf plus minus periods = 0 →
        ∃ t, exec (.pilotState plus minus periods ms) s = .next t ∧ t.reg Item.CHG.STOP_CAUSE = 1 ∧ t.charge.hand.isSome = true
        ∧ t.charge.running = false ∧ t.unit = s.unit) ∧
      (∀ mv, plugCode mv = 0 ∨ plugCode mv = 255 → s.dev.state ≠ .drive → ∃ t, exec (.proximityChange mv) s = .next t ∧ t.reg Item.CHG.STOP_CAUSE = 1
        ∧ t.charge.hand.isSome = true ∧ t.charge.running = false ∧ t.unit = s.unit) ∧
      (∀ n amps ms, s.chgf = some n → s.runs n = true → s.charge.mode ≠ 3 → s.regN Item.CHG.LOSS_T ≤ ms →
        (∀ k ∈ s.phasesInUse, (amps.getD k 0) ^ 2 < 2 * (s.regN Item.CHG.VLOSS * 10) ^ 2) →
        ∃ t, exec (.mainsLoss amps ms) s = .next t ∧ t.reg Item.CHG.STOP_CAUSE = 2
        ∧ t.charge.hand.isSome = true ∧ t.charge.running = false ∧ t.unit = s.unit) ∧
      (s.charge.mode = 0 → ∃ t, exec .safetyTimerExpiry s = .next t ∧ t.reg Item.CHG.STOP_CAUSE = 7 ∧ t.charge.timerLatch = true
        ∧ t.charge.hand.isSome = true ∧ t.charge.running = false ∧ t.unit = s.unit ∧ t.leg = s.leg) ∧
      (s.charge.fallback = false → ∃ t, exec .chargerWatchdog s = .next t ∧ t.charge = { s.charge with fallback := true, ceiling := t.charge.ceiling }
        ∧ t.reg Item.CHG.WDT_CNT = s.reg Item.CHG.WDT_CNT + 1
        ∧ s.charge.watchdog + s.regN Item.CHG.WDT * 1000000 ≤ t.time.now ∧ t.unit = s.unit ∧ t.sheaf = s.sheaf))

/-- R326, R339, R345, R346, R352, R420, Tables 12-7 and 12-9: the steps of an arm, of a hand-over and of the HV connection go on with their
waits and matches, and end with their timeouts. -/
def Obligations.ConnectionsGoThroughTheirSteps : Prop :=
  ∀ s : State, s.Calm →
    (∀ since, s.charge.plugSince = some since → s.charge.debounced = false → s.charge.hand = none → s.charge.arm = none →
      ∃ t, exec .plugDebounceEnd s = .next t ∧ t.charge = { s.charge with debounced := true }
        ∧ since + s.regN Item.CHG.PLUG_DEBOUNCE * 1000000 ≤ t.time.now ∧ t.reg = s.reg) ∧
    (∀ h, s.charge.hand = some h → h.step = 3 → s.contactorsClosed = false →
      ∃ t, exec .relayWaitEnd s = .next t ∧ t.charge.hand = some { h with step := 4, since := t.time.now }
        ∧ h.since + s.regN Item.CHG.RELAY_T * 1000000 ≤ t.time.now) ∧
    (∀ since, s.charge.hand = none → s.charge.arm = none → s.hv = some (since, true) →
      ∃ t, exec .relayWaitEnd s = .next t ∧ t.hv = none ∧ t.unit = s.unit ∧ t.leg = s.leg ∧ t.out = s.out) ∧
    (∀ since, s.charge.hand = none → s.charge.arm = none → s.hv = some (since, false) →
      (s.linksMatch = true → ∃ t, exec .linkMatch s = .next t ∧ t.hv = some (s.time.now, true) ∧ t.unit = s.unit) ∧
      (s.linksMatch = false → (∀ k < 3, s.regN (Item.SOUT.OWNER k) = 0) → ∃ t, exec .linkMatch s = .next t ∧ t.hv = none
        ∧ (∀ k < 3, (t.out k).on = false) ∧ since + s.regN Item.CHG.MATCH_TMAX * 1000000 ≤ t.time.now ∧ t.unit = s.unit)) ∧
    (∀ a, s.charge.hand = none → s.charge.arm = some a →
      (a.step = 5 → s.regN (Item.ADCI.MAINS_STATE 0) = 0 → ∃ t, exec .evseTimeout s = .next t ∧ t.charge.arm = none
        ∧ t.charge.hand.isSome = true ∧ t.reg Item.CHG.STOP_CAUSE = 0 ∧ a.since + s.regN Item.CHG.EVSE_TMO * 1000000 ≤ t.time.now) ∧
      (a.step = 6 → a.stage = 1 → ∃ t, exec .inrushTimeout s = .next t ∧ t.charge.arm = none ∧ t.charge.hand.isSome = true
        ∧ t.reg Item.CHG.STOP_CAUSE = 0 ∧ a.since + s.regN Item.CHG.INRUSH_T * 1000000 ≤ t.time.now)) ∧
    (∀ checks n, s.chgf = some n →
      (∀ h, s.charge.hand = some h → h.step ≠ 1 → ∃ t, exec (.chargerUpdate checks) s = .next t
        ∧ t.reg Item.CHG.I_IN_LIM = nw s.inputCurrent ∧ t.charge = s.charge ∧ t.unit = s.unit) ∧
      (s.charge.hand = none → s.charge.arm = none → s.charge.running = false → (s.dev.state = .charge → s.driveFast = false) →
        ∃ t, exec (.chargerUpdate checks) s = .next t
        ∧ t.reg Item.CHG.I_IN_LIM = nw s.inputCurrent ∧ t.reg Item.CHG.ZONE = nw s.zone ∧ t.charge = s.charge ∧ t.unit = s.unit
        ∧ s.lastDone Timer.charger + 10000000 ≤ t.time.now) ∧
      (s.charge.hand = none → s.charge.arm = none → s.charge.running = false → s.dev.state = .charge → s.driveFast = true →
        ∃ t, exec (.chargerUpdate checks) s = .next t ∧ t.dev.state = .standby ∧ t.reg Item.DEV.MODE_REASON = nw Reason.exitPark) ∧
      (s.charge.hand = none → s.charge.arm = none → s.charge.running = true → s.charge.mode = 1 → s.runs n = true →
        s.bridges.any s.runs = true → s.driveFast = false → ∃ t, exec (.chargerUpdate checks) s = .next t
          ∧ t.reg Item.CHG.I_REQ = 0 ∧ t.reg Item.CHG.TIMER_WALL = nw ((t.time.now - s.charge.stepAt) / 1000000000)
          ∧ t.charge.running = true ∧ t.charge.hand = none ∧ t.unit = s.unit ∧ t.sheaf = s.sheaf)) ∧
    (∀ checks d0 d1 rest, s.bridges = d0 :: d1 :: rest → s.resyncDue = true → s.anyDeferred d1 = false →
      ∃ t, exec (.chgd0StopResync checks) s = .next t ∧ t.charge.alone = true ∧ t.charge.sync.isSome = true
        ∧ (t.sheaf d1).state = .run ∧ s.time.now + 2000000 ≤ t.time.now)

/-- R36, R37, R76, R89, R123 to R126: a sheaf's start and stop, a SWAP, and the same work done when a waiting sequence or a command given with
a time starts; a waiting command over time ends with TIMEOUT. -/
def Obligations.SheafCommandsStartStopAndSwap : Prop :=
  ∀ (s : State) (slot : Fin 8) (index : Fin 64) (r : CmdRec) (n : Nat), s.Calm → n < 12 → target r.msg = unitOf Kind.sheaf n →
    let starts (u : State) : Prop := u.Due slot index r ∧ op r.msg = Op.sheafStart ∧ r.msg.payload = [] ∧ u.startRefusal n = 0
      ∧ u.anyDeferred n = false
    let started (t : State) : Prop := (t.sheaf n).state = .run ∧ (t.sheaf n).held = false
      ∧ t.Answers slot index r Code.ok Reason.none (t.sheafResult n)
    (∀ checks, starts s → ∃ t, exec (.sheafStart slot index checks) s = .next t ∧ started t) ∧
    (∀ f, starts s → ∃ t, exec (.sequenceStart slot index f) s = .next t ∧ started t) ∧
    (∀ f at', r.start = some at' → starts (s.reach at') → ∃ t, exec (.atStart slot index f) s = .next t ∧ started t ∧ at' ≤ t.time.now) ∧
    (s.Due slot index r → op r.msg = Op.sheafStop → r.msg.payload = [0] → (s.sheaf n).state = .run → s.stype n ≠ SType.trc →
      ∃ t, exec (.sheafStopReady slot index) s = .next t ∧ (t.sheaf n).state = .run ∧ (t.sheaf n).held = true
        ∧ (∃ q, (t.sheaf n).stop = some q ∧ q.word = true) ∧ t.Runs slot index r) ∧
    (s.Due slot index r → op r.msg = Op.sheafStop → r.msg.payload = [1] → (s.sheaf n).state = .ready →
      ∃ t, exec (.sheafStopOff slot index) s = .next t ∧ (t.sheaf n).state = .off
        ∧ (∀ l ∈ s.bind.legsOf n, (t.leg l).supplies = false) ∧ t.Answers slot index r Code.ok Reason.none (t.sheafResult n)) ∧
    (s.Due slot index r → op r.msg = Op.swap → r.msg.payload = [] → (s.sheaf n).state ≠ .run → s.swapBlocked (ownedBy n) = false →
      s.swapAgrees (ownedBy n) = true →
      ∃ t, exec (.swap slot index) s = .next t ∧ t.Answers slot index r Code.ok Reason.none (beBytes 8 s.time.now)
        ∧ (∀ a ∈ s.swapItems (ownedBy n), t.reg a = s.shadow a ∧ t.shadow a = s.reg a)
        ∧ (∀ a, a ∉ s.swapItems (ownedBy n) → t.reg a = s.reg a ∧ t.shadow a = s.shadow a) ∧ s.LegsStand t ∧ t.sheaf = s.sheaf) ∧
    (s.cmd slot index = some r → r.state = .waiting → s.dev.fwRunning = true → s.dev.halted = false → (s.slot slot).status ≠ .free →
      ∃ t, exec (.commandTimeout slot index) s = .next t ∧ t.Answers slot index r Code.timeout Reason.none [] ∧ r.deadline ≤ t.time.now
        ∧ t.unit = s.unit ∧ t.sheaf = s.sheaf ∧ t.leg = s.leg ∧ t.reg = s.reg)

/-- R112, R119, R122, R129, R132, R139, Table 4-3: the time, a read, the taking and giving up of claims, the opening and closing of a
stream. -/
def Obligations.HostsReadClaimAndStream : Prop :=
  ∀ (s : State) (slot : Fin 8) (index : Fin 64) (r : CmdRec), s.Calm → s.Due slot index r →
    let p := r.msg.payload
    (op r.msg = Op.timeQuery → p = [] →
      ∃ t, exec (.timeQuery slot index) s = .next t ∧ t.Answers slot index r Code.ok Reason.none s.timeResult
        ∧ t.reg = s.reg ∧ t.unit = s.unit ∧ t.sheaf = s.sheaf ∧ t.leg = s.leg ∧ t.lane = s.lane ∧ t.out = s.out) ∧
    (op r.msg = Op.paramRead → p.length % 4 = 0 → 0 < p.length → p.length ≤ 24 →
      ∃ t, exec (.paramRead slot index) s = .next t
        ∧ t.Answers slot index r Code.ok Reason.none ((payloadWords p).flatMap s.readBytes)
        ∧ t.reg = s.reg ∧ t.unit = s.unit ∧ t.sheaf = s.sheaf ∧ t.leg = s.leg ∧ t.lane = s.lane ∧ t.out = s.out) ∧
    (∀ mask, op r.msg = Op.claim → p = [1, 0] ++ beBytes 2 mask → mask < 4096 → (maskSheaves mask).all (s.mayClaim slot) = true →
      s.dev.state ≠ .service →
      ∃ t, exec (.claimTake slot index) s = .next t ∧ (t.slot slot).claims = (s.slot slot).claims ||| BitVec.ofNat 12 mask
        ∧ (∀ k < 8, k ≠ slot.val → (t.slot k).claims &&& BitVec.ofNat 12 mask = 0)
        ∧ t.Answers slot index r Code.ok Reason.none (beBytes 2 (t.slot slot).claims.toNat)) ∧
    (∀ mask, op r.msg = Op.claim → p = [2, 0] ++ beBytes 2 mask → mask < 4096 →
      let able := [Right.ctrlTrc, Right.ctrlChg, Right.ctrlAux, Right.ctrlAct, Right.svcClaim].any (s.hasRight slot)
      (able = false → ∃ t, exec (.claimRelease slot index) s = .next t ∧ t.Answers slot index r Code.denied Reason.noRight []
        ∧ ∀ k, (t.slot k).claims = (s.slot k).claims) ∧
      (able = true → ∃ t, exec (.claimRelease slot index) s = .next t ∧ (t.slot slot).claims = (s.slot slot).claims &&& BitVec.ofNat 12 (4095 - mask)
        ∧ t.Answers slot index r Code.ok Reason.none (beBytes 2 (t.slot slot).claims.toNat))) ∧
    (∀ load, op r.msg = Op.streamOpen → (s.slot slot).port < 3 → 1 ≤ beAt p 0 1 → beAt p 0 1 ≤ 16 → p.length = 4 + 4 * beAt p 0 1 →
      beAt p 1 1 ≤ 2 → beAt p 2 2 ≠ 0 → (payloadWords (p.drop 4)).all sourceOk = true → s.streamFits slot (beAt p 1 1) load = true →
      ∃ t, exec (.streamOpen slot index load) s = .next t ∧ ∃ x, t.streams = s.streams ++ [x] ∧ x.slot = slot.val ∧ x.port = beAt p 1 1
        ∧ x.decimation = beAt p 2 2 ∧ x.sources = payloadWords (p.drop 4) ∧ x.load = load ∧ x.rows = []
        ∧ t.Answers slot index r Code.ok Reason.none [BitVec.ofNat 8 x.number]) ∧
    (∀ x ∈ s.streams, op r.msg = Op.streamClose → x.slot = slot.val → x.number < 256 → p = [BitVec.ofNat 8 x.number] →
      ∃ t, exec (.streamClose slot index) s = .next t ∧ t.Answers slot index r Code.ok Reason.none []
        ∧ t.streams = s.streams.filter (fun y => !(decide (y.slot = slot.val) && decide (y.number = x.number))))

/-- R335, R340, R344, R345, R349, Tables 12-6 to 12-9: the settings of a charge, its arming, its disarming. -/
def Obligations.ChargesAreSetArmedAndDisarmed : Prop :=
  ∀ (s : State) (slot : Fin 8) (index : Fin 64) (r : CmdRec), s.Calm → s.Due slot index r →
    let p := r.msg.payload
    let mine : Prop := s.chargerSheaves ≠ [] ∧ ∀ n ∈ s.chargerSheaves, s.hasClaim slot n = true
    let begins (t : State) (late : Bool) : Prop :=
      t.charge.arm = some { step := 1, stage := 0, since := s.time.now, late := late,
                                mode := (s.setting Item.CHG.SET_MODE).getD 0, phases := (s.setting Item.CHG.SET_PHASES).getD 0 } ∧ t.Runs slot index r ∧ t.out = s.out
    let mayArm (late : Bool) : Prop := mine ∧ (∀ n ∈ s.chargerSheaves, s.holdBit (16 + n) = false) ∧ s.charge.running = false
      ∧ s.charge.hand = none ∧ s.charge.debounced = false ∧ (s.setting Item.CHG.SET_MODE).getD 0 ≠ 3
      ∧ s.armCheck ((s.setting Item.CHG.SET_MODE).getD 0) late = 0
    (op r.msg = Op.chargeSet → settingsFormed p = true → settingsInRange p = true →
      (beAt p 0 2 % 64 = 0 ∨ s.lacksChgf slot = false) → (beAt p 0 2 / 256 = 0 ∨ s.hasRight slot Right.limits = true) →
      ∃ t, exec (.chargeSet slot index) s = .next t ∧ t.Answers slot index r Code.ok Reason.none []
        ∧ (∀ x ∈ settingItems p, t.reg x.1 = x.2) ∧ (∀ a, a ≠ Item.CHG.WDT_CNT → (∀ x ∈ settingItems p, x.1 ≠ a) → t.reg a = s.reg a)
        ∧ t.reg Item.CHG.WDT_CNT = s.reg Item.CHG.WDT_CNT
            + (if s.armed = true ∧ s.charge.fallback = false ∧ s.watchdogDue ≤ s.time.now then 1 else 0)
        ∧ t.charge.watchdog = s.time.now ∧ t.charge.fallback = false) ∧
    (op r.msg = Op.chargeArm → p = [1] → mayArm false → ∃ t, exec (.chargeArm slot index) s = .next t ∧ begins t false) ∧
    (op r.msg = Op.chargeArm → p = [3] → mayArm true → ∃ t, exec (.chargeArmAfterTimer slot index) s = .next t ∧ begins t true) ∧
    (op r.msg = Op.chargeArm → p = [2] → mine → s.charge.arm = none → s.charge.hand = none →
      ∃ t, exec (.chargeDisarm slot index) s = .next t ∧
        if s.charge.running then
          (∃ h, t.charge.hand = some h ∧ h.step = 1 ∧ h.cause = 9 ∧ h.began = s.time.now) ∧ t.charge.running = false
            ∧ t.reg Item.CHG.STOP_CAUSE = 9 ∧ t.Runs slot index r
        else t.Answers slot index r Code.ok Reason.none (wordBytes s.sessionWord) ∧ t.charge = s.charge)

/-- R95, R97, R98, R505, R506: NV_COMMIT writes a slot that is not in use in order of arrival, holds its first 128 bytes back until the
seal, and a seal checks the slot. -/
def Obligations.ImagesAreWrittenAndSealed : Prop :=
  ∀ (s : State) (slot : Fin 8) (index : Fin 64) (r : CmdRec), s.Calm → s.Due slot index r → op r.msg = Op.nvCommit →
    let p := r.msg.payload
    let off := beAt p 0 4 % 2 ^ 31
    let d := p.drop 8
    let k := s.commitSlot
    let f := 1 - s.store.fwRun
    let formed : Prop := 8 ≤ p.length ∧ p.length ≤ 1032 ∧ beAt p 5 3 = 0
    let ok (t : State) : Prop := t.Answers slot index r Code.ok Reason.none []
    let imageSealed : State :=
      { s with store := { s.store with bytes := putBytes s.store.bytes (imageBase k) (heldHeader s.commit.header) } }
    let fwSealed : State :=
      { s with store := { s.store with fwBytes := putBytes s.store.fwBytes (f * 2 ^ 24) (heldHeader s.commit.fwHeader) } }
    (formed → beAt p 4 1 = 0 → toFirmware r.msg = false → off + d.length ≤ imageSize →
      (s.commit.claim = some slot.val ∨ (s.commit.claim = none ∧ off = 0)) →
      ∃ t, exec (.nvCommitChunk slot index) s = .next t ∧ ok t ∧ t.commit.claim = some slot.val ∧ t.store.fwBytes = s.store.fwBytes
        ∧ (∀ i, i < d.length → 128 ≤ off + i → t.imageByte (imageBase k + off + i) = d.getD i 0)
        ∧ (∀ i, i < d.length → off + i < 128 → KMap.get (fun _ => (0 : Byte)) t.commit.header (off + i) = d.getD i 0)
        ∧ (∀ a, (a < imageBase k ∨ imageBase k + imageSize ≤ a) → t.imageByte a = s.imageByte a)) ∧
    (formed → beAt p 4 1 = 0 → toFirmware r.msg = true → off + d.length ≤ firmwareSize → off < firmwareSize →
      (s.commit.fwClaim = some slot.val ∨ (s.commit.fwClaim = none ∧ off = 0)) →
      ∃ t, exec (.nvCommitFwChunk slot index) s = .next t ∧ ok t ∧ t.commit.fwClaim = some slot.val ∧ t.store.bytes = s.store.bytes
        ∧ (∀ i, i < d.length → 128 ≤ off + i → t.firmwareByte (f * 2 ^ 24 + off + i) = d.getD i 0)
        ∧ (∀ a, (a < f * 2 ^ 24 ∨ f * 2 ^ 24 + firmwareSize ≤ a) → t.firmwareByte a = s.firmwareByte a)) ∧
    (formed → p.length = 8 → beAt p 4 1 = 1 → toFirmware r.msg = false → s.commit.claim = some slot.val →
      ∃ t, exec (.nvCommitSeal slot index) s = .next t ∧ t.commit.claim = none ∧
        if imageSealed.imageValid k = true then
          ok t ∧ t.store.commits = s.store.commits + 1 ∧ t.store.bytes = imageSealed.store.bytes
        else (∃ reason, t.Answers slot index r Code.invalid reason []) ∧ ∀ i < 128, t.imageByte (imageBase k + i) = 0) ∧
    (formed → p.length = 8 → beAt p 4 1 = 1 → toFirmware r.msg = true → s.commit.fwClaim = some slot.val →
      ∃ t, exec (.nvCommitFwSeal slot index) s = .next t ∧ t.commit.fwClaim = none ∧
        if fwSealed.firmwareValid f = true ∧ s.firmwareMin ≤ fwSealed.fwField f 0x16 2 then
          ok t ∧ t.store.commits = s.store.commits + 1 ∧ t.store.fwBytes = fwSealed.store.fwBytes ∧ t.store.fwState = s.store.fwState.set f 3
        else (∃ reason, t.Answers slot index r Code.invalid reason []) ∧ ∀ i < 128, t.firmwareByte (f * 2 ^ 24 + i) = 0)

/-- R79, R80, R187, R241, R298, R299, R318, R456, R499, Table 3-8: PROVE, WINNOW, SELFTEST and FORCE. -/
def Obligations.UnitsAreProvedWinnowedTestedAndForced : Prop :=
  ∀ (s : State) (slot : Fin 8) (index : Fin 64) (r : CmdRec) (n l k : Nat), s.Calm → s.Due slot index r → n < 12 → l < 48 → k < 128 →
    let u := target r.msg
    let p := r.msg.payload
    let forceMask := beAt p 0 4
    let forceValue := beAt p 4 4
    (op r.msg = Op.prove → p = [] → u = unitOf Kind.sheaf n → ((s.sheaf n).state = .off ∨ (s.sheaf n).state = .ready) →
      s.proofOn (s.bind.legsOf n) = false →
      ∃ t, exec (.prove slot index) s = .next t ∧ (t.sheaf n).state = .proving ∧ t.Runs slot index r
        ∧ ∃ q ∈ t.proofs, q.unit = u ∧ q.sheaf = n ∧ q.legs = s.bind.legsOf n ∧ q.report = false ∧ q.started = s.time.now) ∧
    (op r.msg = Op.prove → p = [] → u = unitOf Kind.device 0 → s.dev.state = .standby → s.anyRun = false →
      ∃ t, exec (.prove slot index) s = .next t ∧ t.dev.state = .proof ∧ t.dev.pathTesting = true ∧ t.Runs slot index r) ∧
    (op r.msg = Op.winnow → p = [] → u = unitOf Kind.fastInput k → (s.unit u).out = false → s.inputRead k = false →
      ∃ t, exec (.winnow slot index) s = .next t ∧ (t.unit u).commanded = true ∧ (t.unit u).state = (s.unit u).state
        ∧ t.Answers slot index r Code.ok Reason.none (t.unitResult u) ∧ t.sheaf = s.sheaf ∧ t.leg = s.leg ∧ t.lane = s.lane) ∧
    (op r.msg = Op.winnow → p = [] → u = unitOf Kind.sheaf n → s.stype n ≠ 0 → (s.unit u).out = false →
      ((s.sheaf n).state = .ready ∨ (s.sheaf n).state = .run) →
      ∃ t, exec (.winnow slot index) s = .next t ∧ (t.sheaf n).state = .winnowed ∧ (t.unit u).commanded = true) ∧
    (op r.msg = Op.winnow → p = [] → u = unitOf Kind.leg l → s.bind.sheafOfLeg l = some n → s.stype n = SType.trc →
      s.trcSheaf = some n → (s.sheaf n).state = .run → s.unitOut (s.serviceUnit u) = false → s.winnowSetReason = 0 →
      (∀ x ∈ s.trac.ramps, x.1 ≠ s.bind.position l / 3) →
      ∃ t, exec (.winnow slot index) s = .next t ∧ t.trac.ramps = s.trac.ramps ++ [(s.bind.position l / 3, s.time.now, false)]
        ∧ t.Runs slot index r ∧ t.leg = s.leg) ∧
    (∀ finding, op r.msg = Op.selftest → p = [0, 1] → u = unitOf Kind.fastInput k → (s.unitOut u = true ∨ s.testState = true) →
      s.forceArmed u 2 = false → firstFail (s.testChecks u 1 finding) = 0 →
      ∃ t, exec (.selftest slot index finding) s = .next t
        ∧ t.Answers slot index r Code.ok Reason.none (wordBytes (testWord 1 0 finding.us))
        ∧ t.reg (Item.ADCF.TEST_RESULT (k / 8) (k % 8)) = testWord 1 0 finding.us ∧ (∀ v, v ≠ u → t.unit v = s.unit v)
        ∧ (t.unit u).state = (s.unit u).state ∧ t.sheaf = s.sheaf ∧ t.leg = s.leg) ∧
    (∀ mask, op r.msg = Op.force → p.length = 8 → s.unboundLeg u = false → unitKind u ≠ Kind.can → s.forceMask u = some mask →
      s.forceOpen u = true → forceMask &&& mask = forceMask →
      ∃ t, exec (.force slot index) s = .next t
        ∧ (t.unit (forceUnit u)).force = ((s.unit (forceUnit u)).force &&& ~~~(nw forceMask)) ||| (nw forceValue &&& nw forceMask)
        ∧ t.Answers slot index r Code.ok Reason.none (wordBytes (t.unit (forceUnit u)).force) ∧ t.reg = s.reg
        ∧ t.sheaf = s.sheaf ∧ s.LegsStand t ∧ t.out = s.out)

/-- R440, R443, R447, R531: RESTORE of a measuring unit tests it, unless it rests, and brings it back, leaves it lasting with a new record, or
finds nothing to do; handling is waited for; the other units of the machine are not touched. -/
def Obligations.RestoreBringsUnitsBack : Prop :=
  ∀ (s : State) (slot : Fin 8) (index : Fin 64) (r : CmdRec) (finding : SelftestFinding) (integrated : Bool), s.Calm → s.Due slot index r → op r.msg = Op.restore →
    r.msg.payload = [] →
    let u := target r.msg
    (∃ k, (k < 128 ∧ u = unitOf Kind.fastInput k) ∨ (k < 64 ∧ u = unitOf Kind.slowInput k) ∨ (k < 16 ∧ u = unitOf Kind.fast k)) →
    ∃ t, exec (.restore slot index finding integrated) s = .next t ∧ t.sheaf = s.sheaf ∧ t.leg = s.leg ∧ t.out = s.out
      ∧ (∀ v, v ≠ u → t.unit v = s.unit v) ∧
      if (s.unit u).state = .handling then t.cmd slot index = some r ∧ t.unit u = s.unit u
      else if (s.unit u).out = false then t.Answers slot index r Code.ok Reason.none (t.unitResult u) ∧ t.unit u = s.unit u
      else t.Answers slot index r Code.ok Reason.none (t.unitResult u) ∧
        if (s.unit u).state = .resting ∨ s.targetedOk u finding = true then (t.unit u).state = .idle ∧ (t.unit u).commanded = false ∧ t.store.journal = s.store.journal
        else (t.unit u).state = .lasting ∧ ((s.unit u).state ≠ .idle → ((s.unit u).src < 64 → s.TakesUp t u .lasting .L (s.unit u).src))

/-- R123, R136, R138, R142, R144, R148, Tables 5-3 to 5-5: a write is refused whole with its first failing item; an accepted value goes
into the shadow set, or takes effect at once, or waits for the next boundary of a block that runs. -/
def Obligations.WritesAreCheckedAndTakeEffect : Prop :=
  ∀ (s : State) (slot : Fin 8) (index : Fin 64) (r : CmdRec), s.Calm → s.Due slot index r → op r.msg = Op.paramWrite →
    let n := r.msg.payload.length
    let items := writeItems r.msg
    (∀ i code reason, 0 < n → n ≤ 512 → n % 8 = 0 → (items.length ≤ 1 ∨ ∀ x ∈ items, alone x.1 = false) →
      (∀ x ∈ items, bitsOf x.1 23 0 ≠ Item.DEV.MODE_REQ) → s.firstFailure slot items items 0 = some (i, code, reason) →
      ∃ t, exec (.paramWrite slot index) s = .next t ∧ t.Answers slot index r code reason (beBytes 2 i ++ [0, 0])
        ∧ t.reg = s.reg ∧ t.shadow = s.shadow ∧ t.waits = [] ∧ t.unit = s.unit ∧ t.out = s.out ∧ t.sheaf = s.sheaf) ∧
    (∀ i x, 1 < items.length → n ≤ 512 → n % 8 = 0 → items[i]? = some x → alone x.1 = true →
      (∀ j < i, ∀ y, items[j]? = some y → alone y.1 = false) →
      ∃ t, exec (.paramWrite slot index) s = .next t ∧ t.Answers slot index r Code.invalid Reason.reqAlone (beBytes 2 i ++ [0, 0])
        ∧ t.reg = s.reg ∧ t.shadow = s.shadow ∧ t.waits = [] ∧ t.unit = s.unit ∧ t.out = s.out ∧ t.sheaf = s.sheaf) ∧
    (∀ aw w d, n = 8 → items = [(aw, w)] → s.itemFails slot items aw w = none → s.modeCap = none →
      Catalogue.find (bitsOf aw 23 0) = some d → d.acc = .rw → (d.cls = .L ∨ d.cls = .S) →
      bitsOf aw 23 0 ≠ Item.DEV.MODE_REQ → bitsOf aw 23 0 ≠ Item.DEV.HV_REQ →
      ∃ t, exec (.paramWrite slot index) s = .next t ∧ t.Answers slot index r Code.ok Reason.none [] ∧
        let a := bitsOf aw 23 0
        if d.cls = .S then t.shadow a = w ∧ (∀ b, b ≠ a → t.shadow b = s.shadow b) ∧ t.reg a = s.reg a ∧ t.waits = []
        else if s.blockRunning (s.blockOf a) = true then
          t.reg a = s.reg a ∧ t.waits = [{ addr := a, value := w, both := false, shadow := false, heldFor := none, tick := s.tick }]
        else t.reg a = w ∧ t.waits = [])

/-- R81, R82, R84, R419, R420, R421, R500, Tables 3-6 and 3-7: the requests for device states, for the HV connection, for outputs. -/
def Obligations.RequestsChangeStatesAndOutputs : Prop :=
  ∀ (s : State) (slot : Fin 8) (index : Fin 64) (r : CmdRec), s.live = true → s.waits = [] → s.swaps = [] → s.dev.state ≠ .locked →
    s.Due slot index r →
    let asked (a : Nat) (w : Word) : Prop := op r.msg = Op.paramWrite ∧ r.msg.payload.length = 8
      ∧ ∃ aw, bitsOf aw 23 0 = a ∧ writeItems r.msg = [(aw, w)] ∧ s.itemFails slot [(aw, w)] aw w = none
    let free : Prop := (∀ q ∈ s.seqs, q.kind ≠ SeqKind.mode) ∧ s.dev.exiting = none
    let ok (t : State) : Prop := t.Answers slot index r Code.ok Reason.none []
    let changes (t : State) (d : DevState) : Prop := t.dev.state = d ∧ t.reg Item.DEV.MODE_REASON = 0 ∧ ok t
    (asked Item.DEV.MODE_REQ 3 → free → s.store.fwState.getD s.store.fwRun 0 ≠ 4 → s.dev.state ≠ .safe →
      ∃ t, exec (.modeReqDrive slot index) s = .next t ∧
        if s.modeCheck 3 = 0 then changes t .drive
        else t.dev.state = s.dev.state ∧ t.reg Item.DEV.MODE_REASON = nw (s.modeCheck 3)
          ∧ t.Answers slot index r Code.invalid (s.modeCheck 3) [0, 0, 0, 0]) ∧
    (asked Item.DEV.MODE_REQ 4 → free → s.store.fwState.getD s.store.fwRun 0 ≠ 4 → s.modeCheck 4 = 0 →
      ∃ t, exec (.modeReqCharge slot index) s = .next t ∧ changes t .charge) ∧
    (asked Item.DEV.MODE_REQ 5 → free → s.modeCheck 5 = 0 →
      ∃ t, exec (.modeReqService slot index) s = .next t ∧ changes t .service ∧ t.dev.serviceHost = some slot.val) ∧
    (asked Item.DEV.MODE_REQ 2 → free → s.dev.state = .safe → s.safeCause = false →
      ∃ t, exec (.modeReqStandby slot index) s = .next t ∧ changes t .standby
        ∧ ∀ n < 12, (s.sheaf n).state = .safe → (s.unit (unitOf Kind.sheaf n)).state = .idle → (t.sheaf n).state = .off) ∧
    (asked Item.DEV.HV_REQ 1 → (s.dev.state = .standby ∨ s.dev.state = .drive ∨ s.dev.state = .service) → s.contactorsClosed = false →
      s.hv = none → s.regN (Item.SOUT.OWNER 1) = 0 → s.outPermitted 1 = true → s.offCause 1 = false →
      (s.unit (unitOf Kind.output 1)).out = false →
      ∃ t, exec (.hvConnect slot index) s = .next t ∧ t.hv = some (s.time.now, false) ∧ (t.out 1).on = true ∧ t.Runs slot index r) ∧
    (asked Item.DEV.HV_REQ 0 → s.hv = none → s.regN (Item.SOUT.OWNER 0) = 0 → s.regN (Item.SOUT.OWNER 1) = 0 →
      ∃ t, exec (.hvDisconnect slot index) s = .next t ∧ (t.out 0).on = false ∧ (t.out 1).on = false ∧ ok t) ∧
    (∀ w, asked Item.DEV.SO_USER w →
      ∃ t, exec (.soUserWrite slot index) s = .next t ∧ ok t ∧ ∀ k < 8,
        (s.regN (Item.SOUT.OWNER k) ≠ 3 → t.out k = s.out k) ∧
        (s.regN (Item.SOUT.OWNER k) = 3 → bitOf w k = false → (t.out k).on = false) ∧
        (s.regN (Item.SOUT.OWNER k) = 3 → bitOf w k = true → s.outPermitted k = true → s.offCause k = false →
          (s.unit (unitOf Kind.output k)).out = false → (t.out k).on = true))

/-- R181, R205, R226, R237, R289, R291, R414: the writes that reach the power side and the converters. -/
def Obligations.WritesReachThePowerSide : Prop :=
  ∀ (s : State) (slot : Fin 8) (index : Fin 64) (r : CmdRec), s.Calm → s.Due slot index r →
    let asked (a : Nat) (w : Word) : Prop := op r.msg = Op.paramWrite ∧ r.msg.payload.length = 8
      ∧ ∃ aw, bitsOf aw 23 0 = a ∧ writeItems r.msg = [(aw, w)] ∧ s.itemFails slot [(aw, w)] aw w = none
    let ok (t : State) : Prop := t.Answers slot index r Code.ok Reason.none []
    let takes (t : State) (a : Nat) (w : Word) : Prop :=
      if s.blockRunning (s.blockOf a) = true then
        t.reg a = s.reg a ∧ t.waits = [{ addr := a, value := w, both := false, shadow := false, heldFor := none, tick := s.tick }]
      else t.reg a = w ∧ t.waits = []
    (∀ w, asked Item.DEV.DIR_PERMIT w → ∃ t, exec (.dirPermitWrite slot index) s = .next t ∧ t.reg Item.DEV.DIR_PERMIT = w ∧ ok t) ∧
    (∀ (n : Fin 2) w, asked (Item.ADCI.URG_REQ n) w → (s.slow n).window = none → (s.slow n).ended ≠ some s.time.now →
      s.regN (Item.ADCI.SCAN_MODE n) ≠ 0 → (n.val ≠ 0 ∨ s.mainsLocked = false) →
      ∃ t, exec (.urgReq slot index) s = .next t ∧ (t.slow n).window = some s.time.now ∧ (t.slow n).urgent = some w.toNat ∧ ok t) ∧
    (∀ (n : Fin 2) w, asked (Item.ADCI.URG_REQ n) w →
      let inProgress : Prop := ∃ b, (s.slow n).window = some b ∧ ((s.slow n).mains = true ∨ s.time.now ≤ b + s.fixWindow n)
      let idle : Prop := (s.slow n).window = none
      (inProgress ∨ (idle ∧ (s.slow n).ended = some s.time.now) ∨ s.regN (Item.ADCI.SCAN_MODE n) = 0 ∨ (n.val = 0 ∧ s.mainsLocked = true)) →
      ∃ t, exec (.urgReq slot index) s = .next t ∧ (inProgress ∨ idle → t.slow n = s.slow n)
        ∧ t.Answers slot index r Code.dropped Reason.none []
        ∧ t.reg (Item.ADCI.URG_DROP n) = s.reg (Item.ADCI.URG_DROP n) + 1) ∧
    (∀ (k : Fin 16) w, asked (Item.ADCF.SW_TRIG k) w → s.seqCount k w.toNat ≠ 0 → (s.fast k).run = none →
      (s.fast k).background = none → (s.fast k).queue = [] →
      (∀ q tick, LineEvent.convert k q tick ∉ s.events) →
      ∃ t, exec (.swTrig slot index) s = .next t ∧ (t.fast k).run = some (w.toNat, 0, s.crossTick + 1, false) ∧ ok t) ∧
    (∀ n : Fin 32, asked (Item.LOOP.CLOSE n) 1 → ∃ t, exec (.laneClose slot index) s = .next t ∧ takes t (Item.LOOP.CLOSE n) 1 ∧ ok t) ∧
    (∀ n : Fin 32, asked (Item.LOOP.CLOSE n) 0 → ∃ t, exec (.laneOpen slot index) s = .next t ∧ takes t (Item.LOOP.CLOSE n) 0 ∧ ok t) ∧
    (∀ (n : Fin 32) aw, op r.msg = Op.paramWrite → r.msg.payload.length = 8 → bitsOf aw 23 0 = Item.LOOP.CLOSE n →
      writeItems r.msg = [(aw, 0)] → s.checkItem slot aw 0 = none → s.crossOk [(aw, 0)] aw = true → s.laneAtRest n = false →
      ∃ t, exec (.laneOpen slot index) s = .next t ∧ t.Answers slot index r Code.invalid Reason.laneActive [0, 0, 0, 0]
        ∧ t.reg = s.reg ∧ t.lane = s.lane) ∧
    (∀ (n : Fin 12) (p : Fin 18) w, asked (Item.PWM.HOST_CMP n p) w → (s.sheaf n).state = .run →
      ∃ t, exec (.hostCmpWrite slot index) s = .next t ∧ (t.carrier n).host = (s.carrier n).host ++ [(s.tick, [(p.val, bitsOf w 26 0)])]
        ∧ t.regN (Item.PWM.LATE_CNT n) = (s.regN (Item.PWM.LATE_CNT n)
            + if 0 < (s.carrier n).count ∧ (s.carrier n).start / 32 = s.tick then 1 else 0) % 2 ^ 32
        ∧ (∀ m < 12, m ≠ n.val → t.carrier m = s.carrier m) ∧ ok t) ∧
    (∀ l : Fin 48, asked (Item.LEG.SHOOT l) 0 → ∃ t, exec (.shootClear slot index) s = .next t ∧ takes t (Item.LEG.SHOOT l) 0 ∧ ok t)

/-- R454, R483, R484, R486, R508, R510: the writes that recover a controller, open the windows of objects, journal and service log, and
confirm or select firmware. -/
def Obligations.WritesOpenWindowsAndChooseFirmware : Prop :=
  ∀ (s : State) (slot : Fin 8) (index : Fin 64) (r : CmdRec), s.Calm → s.Due slot index r →
    let asked (a : Nat) (w : Word) : Prop := op r.msg = Op.paramWrite ∧ r.msg.payload.length = 8
      ∧ ∃ aw, bitsOf aw 23 0 = a ∧ writeItems r.msg = [(aw, w)] ∧ s.itemFails slot [(aw, w)] aw w = none
    let ok (t : State) : Prop := t.Answers slot index r Code.ok Reason.none []
    (∀ n : Fin 4, asked (Item.CAN.BO_RECOVER n) 1 →
      ∃ t, exec (.boRecover slot index) s = .next t ∧ t.reg (Item.CAN.STATE n) = 5 ∧ ok t) ∧
    (∀ n : Fin 4, asked (Item.CAN.IDCLASH n) 0 →
      ∃ t, exec (.idclashClear slot index) s = .next t ∧ t.reg (Item.CAN.IDCLASH n) = 0 ∧ ok t) ∧
    (∀ (n : Fin 4) w, asked (Item.CAN.OBJ_SEL n) w →
      ∃ t, exec (.objSel slot index) s = .next t ∧ ok t ∧
        let o := (s.can n).object (bitsOf w 6 0)
        t.reg (Item.CAN.OBJ_SEL n) = w ∧ t.reg (Item.CAN.OBJ_CFG n) = o.cfg ∧ t.reg (Item.CAN.OBJ_ID n) = o.ident
          ∧ t.reg (Item.CAN.OBJ_MASK n) = o.mask ∧ t.reg (Item.CAN.OBJ_T n) = o.stamp ∧ t.reg (Item.CAN.OBJ_PERIOD n) = nw o.period
          ∧ ∀ k < 8, t.reg (Item.CAN.OBJ_D n k) = nw (beAt (padTo 64 o.data) ((if bitOf w 7 then 32 else 0) + 4 * k) 4)) ∧
    (∀ w, asked Item.FLT.JRN_SEL w →
      ∃ t, exec (.jrnSel slot index) s = .next t ∧ ok t ∧ ∀ j, s.store.journal[w.toNat]? = some j →
        t.item (Item.FLT.JRN_W 0) = j.unit ∧ t.item (Item.FLT.JRN_W 1) = nw (j.record.time / 2 ^ 32)
          ∧ t.item (Item.FLT.JRN_W 2) = nw j.record.time ∧ t.item (Item.FLT.JRN_W 3) = j.record.source
          ∧ t.item (Item.FLT.JRN_W 4) = j.record.context) ∧
    (∀ w, asked Item.SVC.LOG_SEL w →
      ∃ t, exec (.logSel slot index) s = .next t ∧ ok t ∧ ∀ e, s.store.log[w.toNat]? = some e →
        t.item (Item.SVC.LOG_W 0) = nw (e.1 / 2 ^ 32) ∧ t.item (Item.SVC.LOG_W 1) = nw e.1 ∧ t.item (Item.SVC.LOG_W 2) = e.2.1
          ∧ t.item (Item.SVC.LOG_W 3) = e.2.2) ∧
    (asked Item.SVC.FW_CONFIRM 1 →
      ∃ t, exec (.fwConfirm slot index) s = .next t ∧ ok t ∧
        let k := s.store.fwRun
        t.store.fwState = (if s.store.fwState.getD (1 - k) 0 ∈ [1, 2, 3] then (s.store.fwState.set k 2).set (1 - k) 1
            else s.store.fwState.set k 2)
          ∧ t.store.fwFloor = max s.store.fwFloor (s.fwField k 0xC 4)) ∧
    (∀ k, s.spareSlot = some k → asked Item.SVC.FW_SELECT 1 →
      ∃ t, exec (.fwSelect slot index) s = .next t ∧ ok t ∧ t.store.fwState = s.store.fwState.set k 3 ∧ t.store.fwFloor = s.store.fwFloor)

/-- R472, R474, R479 to R482, Table 18-3: frames received and stored, an FD frame where only classic ones run, the rate lock, the choice
among requests, the frame sent, the signal that is due. -/
def Obligations.ControllersReceiveAndSendFrames : Prop :=
  ∀ (s : State) (n : Fin 4), s.Calm →
    let c := s.can n
    let st := s.regN (Item.CAN.STATE n)
    let stored (t : State) (f : CanFrame) (sof : Nat) : Prop :=
      match c.match f with
      | some k =>
        ((t.can n).object k).data = f.data ∧ ((t.can n).object k).stamp = canStamp sof ∧ ((t.can n).object k).valid = true
          ∧ ((t.can n).object k).esi = f.esi ∧ (∀ j, j ≠ k → (t.can n).object j = c.object j)
          ∧ t.reg (Item.CAN.RX_CNT n) = s.reg (Item.CAN.RX_CNT n) + 1
      | none => (∀ j, (t.can n).object j = c.object j) ∧ t.reg (Item.CAN.RX_UNMATCHED n) = s.reg (Item.CAN.RX_UNMATCHED n) + 1
    let sound (f : CanFrame) : Prop := ∀ k, c.match f = some k → (c.object k).poisoned = false
    (∀ f sof, (st = 2 ∨ st = 3) → s.canForeign n f = false → sound f →
      ∃ t, exec (.canFrameReceived n f sof) s = .next t ∧ stored t f sof ∧ sof ≤ t.time.now ∧ t.unit = s.unit ∧ t.leg = s.leg
        ∧ (∀ j < 4, j ≠ n.val → t.can j = s.can j)) ∧
    (∀ f sof, (st = 2 ∨ st = 3) → s.canForeign n f = true →
      ∃ t, exec (.canFrameReceived n f sof) s = .next t ∧ t.reg (Item.CAN.ERR_FRAME_CNT n) = s.reg (Item.CAN.ERR_FRAME_CNT n) + 1
        ∧ t.reg (Item.CAN.RX_CNT n) = s.reg (Item.CAN.RX_CNT n) ∧ (t.can n).lastError = 2) ∧
    (∀ f sof, st = 1 → s.canForeign n f = false → sound f →
      ∃ t, exec (.canRateLock n f sof) s = .next t ∧ stored t f sof ∧ t.reg (Item.CAN.STATE n) = 2
        ∧ t.reg (Item.CAN.ARD_LOCK n) = nw (0x80000000 + (if f.brs then 0x40000000 else 0) + c.entry * 0x10000)) ∧
    (∀ time, st = 3 →
      ∃ t, exec (.canTxChoice n time) s = .next t ∧ time ≤ t.time.now ∧ s.time.now ≤ t.time.now ∧
        let due := c.requests (kernelCycle t.time.now)
        (due = [] → (t.can n).chosen = none)
        ∧ (due ≠ [] → ∃ k ∈ due, (t.can n).chosen = some k
          ∧ ∀ j ∈ due, (c.object k).arbitration < (c.object j).arbitration
            ∨ ((c.object k).arbitration = (c.object j).arbitration ∧ k ≤ j))) ∧
    (∀ k sof, st = 3 → c.chosen = some k → (c.object k).pending = true → s.forceArmed (unitOf Kind.can n) 2 = false →
      (32 ≤ k ∨ k % 4 ≠ 1) →
      ∃ t, exec (.canFrameSent n sof) s = .next t ∧ (t.can n).chosen = none ∧ ((t.can n).object k).pending = false
        ∧ ((t.can n).object k).stamp = canStamp sof ∧ ((t.can n).object k).data = (c.object k).data ∧ (t.can n).tec = c.tec - 1
        ∧ (∀ j, j ≠ k → (t.can n).object j = c.object j) ∧ t.reg (Item.CAN.TX_CNT n) = s.reg (Item.CAN.TX_CNT n) + 1
        ∧ sof ≤ t.time.now) ∧
    (∀ k : Fin 128, st = 3 → 32 ≤ k.val → bitOf (c.object k).cfg 31 = true → bitOf (c.object k).cfg 30 = true → (c.object k).period ≠ 0 →
      let x := s.every (Timer.signal n k) ((c.object k).period * 1000000)
      ∃ t, exec (.canSignalPeriod n k) s = .next t ∧ ((t.can n).object k).pending = true ∧ ((t.can n).object k).valid = true
        ∧ ((t.can n).object k).data
            = padTo (bitsOf (c.object k).cfg 6 0) (((c.object k).items.take 16).flatMap (fun a => wordBytes (x.readItem a).2))
        ∧ (∀ j, j ≠ k.val → (t.can n).object j = c.object j) ∧ t.reg = s.reg
        ∧ s.lastDone (Timer.signal n k) + (c.object k).period * 1000000 ≤ t.time.now)

/-- R474, R476, R484, R487, R489, R490, R492: errors by state, bus-off and its end, a dominant bus, heartbeats, and compact messages. -/
def Obligations.ControllersCountErrorsAndKeepHeartbeats : Prop :=
  ∀ (s : State) (n : Fin 4), s.Calm →
    let c := s.can n
    let u := unitOf Kind.can n
    let st := s.regN (Item.CAN.STATE n)
    (∀ (code : Fin 7) tr af ex dp df, st = 1 → (code.val = 1 ∨ code.val = 2 ∨ code.val = 6) → s.ardNominal n (c.entry + 1) ≠ 0 →
      ∃ t, exec (.canError n code tr af ex dp df) s = .next t ∧ (t.can n).entry = c.entry + 1 ∧ t.reg (Item.CAN.STATE n) = 1
        ∧ t.reg (Item.CAN.ERR_FRAME_CNT n) = s.reg (Item.CAN.ERR_FRAME_CNT n) + 1) ∧
    (∀ (code : Fin 7) tr af ex df, st = 2 → code.val ≠ 0 → s.regN (Item.CAN.ARD_EN n) = 1 →
      ∃ t, exec (.canError n code tr af ex false df) s = .next t ∧ t.reg (Item.CAN.STATE n) = 1 ∧ (t.can n).entry = 0
        ∧ t.reg (Item.CAN.ARD_LOCK n) = 0) ∧
    (∀ (code : Fin 7) af dp df, st = 3 → code.val ≠ 0 → c.tec ≤ 127 → c.rec' + 8 ≤ 127 →
      ∃ t, exec (.canError n code false af false dp df) s = .next t ∧ (t.can n).rec' = c.rec' + (if af then 8 else 1)
        ∧ (t.can n).tec = c.tec ∧ (t.can n).lastError = code.val ∧ t.unit = s.unit ∧ t.reg (Item.CAN.STATE n) = 3) ∧
    (∀ (code : Fin 7) af dp, st = 3 → code.val ≠ 0 → c.tec + 8 ≤ 127 → c.rec' ≤ 127 →
      ∃ t, exec (.canError n code true af false dp false) s = .next t ∧ (t.can n).tec = c.tec + 8 ∧ (t.can n).rec' = c.rec'
        ∧ t.unit = s.unit) ∧
    (st = 3 → 255 < c.tec → s.Notices u 1 → s.Notices u 16 →
      ∃ t, exec (.canBusOff n) s = .next t ∧ t.reg (Item.CAN.BO_CNT n) = s.reg (Item.CAN.BO_CNT n) + 1 ∧
        if s.regN (Item.CAN.BO_MAX n) ≤ (c.busOffs.filter (fun x => decide (s.time.now < x + 10000000000))).length + 1 then
          s.TakesUp t u .handling .F 1 ∧ t.reg (Item.CAN.STATE n) = 6
        else t.Shows u .idle .W 16 ∧ t.reg (Item.CAN.STATE n) = if s.regN (Item.CAN.BO_AUTO n) = 1 then 5 else 4) ∧
    (st = 5 →
      ∃ t, exec (.canRecoveryEnd n) s = .next t ∧ t.reg (Item.CAN.STATE n) = 3 ∧ (t.can n).tec = 0 ∧ (t.can n).rec' = 0
        ∧ c.recoverFrom + 128 * 11 * s.bitCycles n * 25 / 2 ≤ t.time.now
        ∧ ∀ j, (t.can n).object j = c.object j) ∧
    (∀ us, st ≠ 0 → st ≠ 6 → s.regN (Item.CAN.DOM_MAX n) ≤ us → s.Notices u 2 →
      ∃ t, exec (.canDominantTimeout n us) s = .next t ∧ s.TakesUp t u .handling .F 2 ∧ t.reg (Item.CAN.STATE n) = 6) ∧
    (∀ us, us < s.regN (Item.CAN.DOM_MAX n) → s.forced u 3 = false →
      ∃ t, exec (.canDominantTimeout n us) s = .next t ∧ t.unit = s.unit ∧ t.reg (Item.CAN.STATE n) = nw st) ∧
    (∀ (k : Fin 8) f sof, (st = 2 ∨ st = 3) → s.canForeign n f = false → k.val ∈ s.canSlots n → c.match f = some (4 * k.val + 2) →
      (c.object (4 * k.val + 2)).poisoned = false → 6 ≤ f.data.length →
      (s.reg (Item.HOST.IDENT k) = 0 ∨ s.reg (Item.HOST.IDENT k) = nw (beAt f.data 0 4)) →
      ∃ t, exec (.canHostHeartbeat n k f sof) s = .next t ∧ t.reg (Item.CAN.STATE n) = 3
        ∧ KMap.get (fun _ => 0) (t.can n).heard k.val = t.time.now ∧ sof ≤ t.time.now) ∧
    (∀ k : Fin 8, (s.slot k).status = .attached → (s.slot k).port = n.val + 3 → s.Notices u 19 →
      ∃ t, exec (.canHeartbeatTimeout n k) s = .next t ∧ (t.slot k).status = .held ∧ t.Shows u .idle .W 19
        ∧ KMap.get (fun _ => 0) c.heard k.val + s.regN (Item.CAN.HB_TMO n) * 1000000 ≤ t.time.now
        ∧ (∀ x ∈ t.streams, x.slot ≠ k.val)) ∧
    (st = 3 →
      ∃ t, exec (.canDeviceHeartbeat n) s = .next t ∧ (t.can n).beat = (c.beat + 1) % 65536
        ∧ s.lastDone (Timer.beat n) + s.regN (Item.CAN.HB_PERIOD n) * 1000000 ≤ t.time.now
        ∧ ∀ k ∈ s.canSlots n, (s.slot k).status ≠ .free →
          ((t.can n).object (4 * k + 3)).pending = true ∧ ((t.can n).object (4 * k + 3)).data
            = [BitVec.ofNat 8 s.dev.state.code, BitVec.ofNat 8 (s.slot k).status.code] ++ beBytes 2 s.runningIface
              ++ beBytes 2 c.beat ++ [0, 0]) ∧
    (∀ (k : Fin 8) f sof, (st = 2 ∨ st = 3) → s.canForeign n f = false → k.val ∈ s.canSlots n →
      nw f.ident = nw (bitsOf (s.reg (Item.CAN.MAP_BASE n)) 28 0 + 4 * k.val) → f.ide = bitOf (s.reg (Item.CAN.MAP_BASE n)) 31 →
      f.rtr = false → (∀ j, c.match f = some j → (c.object j).poisoned = false) →
      let m := s.expand k f.data
      (compactBad f = true →
        ∃ t, exec (.compactMessage n k f sof) s = .next t ∧ t.reg (Item.HOST.LEN_ERR k) = s.reg (Item.HOST.LEN_ERR k) + 1
          ∧ t.slot = s.slot ∧ t.cmd = s.cmd) ∧
      (compactBad f = false → m.kind = 0x10 → m.opcode.toNat ≠ Op.hostAttach → s.MayTake (n.val + 3) m →
        ∃ t, exec (.compactMessage n k f sof) s = .next t ∧ s.Takes t m))

/-- R71, R103 to R105, R110 to R112, R120, R501, R524: links, attachment and detachment, the end of a hold, the SERVICE host that leaves. -/
def Obligations.SlotsAreAttachedHeldAndFreed : Prop :=
  ∀ (s : State), s.Calm →
    (∀ (port : Fin 8) m n, s.portOpen port = true → m.length.toNat = m.payload.length → m.payload.length = 28 → beAt m.payload 0 1 = 1 →
      s.chooseSlot port (nw (beAt m.payload 4 4)) none = some n → authentic m (s.rootKey n) = true → s.attachCount n < m.fresh.toNat →
      ∃ t, exec (.hostAttach port m) s = .next t ∧ (t.slot n).status = .attached ∧ (t.slot n).port = port.val
        ∧ (t.slot n).ident = nw (beAt m.payload 4 4) ∧ (t.slot n).freshIn = 0 ∧ (t.slot n).credits = s.grantedCredits n port
        ∧ (t.slot n).key = s.sessionKey n (Config.deviceNonce s.dev.free) (BitVec.ofNat 128 (beAt m.payload 8 16))
        ∧ t.attachCount n = m.fresh.toNat ∧ ∃ r, r.state = .done ∧ r.code = Code.ok ∧
          if s.cmd n 0 = none then t.cmd n 0 = some r else t.cmd n 0 = s.cmd n 0 ∧ (t.slot n).later = some r) ∧
    (∀ (port : Fin 8) m, s.portOpen port = true → m.length.toNat = m.payload.length → m.payload.length = 28 → beAt m.payload 0 1 = 1 →
      let refused (reason : Nat) : Prop := ∃ t, exec (.hostAttach port m) s = .next t ∧ t.slot = s.slot ∧ t.cmd = s.cmd
        ∧ ∃ x, t.tx = s.tx ++ [x] ∧ x.port = port.val ∧ x.kind = 0x11 ∧ x.code = Code.denied ∧ x.reason = reason
      match s.chooseSlot port (nw (beAt m.payload 4 4)) none with
      | none => refused Reason.noSlot
      | some n =>
        if authentic m (s.rootKey n) = false then refused Reason.auth
        else m.fresh.toNat ≤ s.attachCount n → refused Reason.fresh) ∧
    (∀ (port : Fin 8) m n, s.portOpen port = true → m.length.toNat = m.payload.length → m.payload.length = 28 → beAt m.payload 0 1 = 2 →
      n < 8 → (s.slot n).status = .attached → (s.slot n).ident = nw (beAt m.payload 4 4) → (s.slot n).port = port.val →
      (∀ k < n, (s.slot k).status = .free ∨ (s.slot k).ident ≠ nw (beAt m.payload 4 4) ∨ (s.slot k).port ≠ port.val) →
      authentic m (s.rootKey n) = true → s.attachCount n < m.fresh.toNat →
      ∃ t, exec (.hostDetach port m) s = .next t ∧ (t.slot n).status = .held ∧ (t.slot n).heldAt = s.time.now
        ∧ (t.slot n).claims = (s.slot n).claims ∧ t.attachCount n = m.fresh.toNat) ∧
    (∀ port : Fin 3,
      ∃ t, exec (.linkDown port) s = .next t ∧ t.reg (Item.ETH.LINK port) = 0 ∧ t.cmd = s.cmd
        ∧ ∀ k < 8, (t.slot k).status =
          if (s.slot k).port = port.val ∧ (s.slot k).status = .attached then .held else (s.slot k).status) ∧
    (∀ port : Fin 3, s.dev.fwRunning = true → s.regN (Item.ETH.ENABLE port) = 1 →
      ∃ t, exec (.linkUp port) s = .next t ∧ t.reg (Item.ETH.LINK port) = 1 ∧ t.slot = s.slot) ∧
    (∀ k : Fin 8, (s.slot k).status = .attached →
      ∃ t, exec (.hostIdleTimeout k) s = .next t ∧ (t.slot k).status = .held ∧ (t.slot k).heldAt = t.time.now
        ∧ (s.slot k).lastHeard + s.regN (Item.HOST.IDLE_MAX k) * 1000000 ≤ t.time.now ∧ (∀ x ∈ t.streams, x.slot ≠ k.val)
        ∧ t.cmd = s.cmd) ∧
    (∀ k : Fin 8, (s.slot k).status = .held →
      ∃ t, exec (.slotHoldExpiry k) s = .next t ∧ (t.slot k).status = .free ∧ (t.slot k).claims = 0
        ∧ (s.slot k).heldAt + 2000000000 ≤ t.time.now ∧ (∀ i < 64, ∀ r, t.cmd k i = some r → r.state ≠ .done)
        ∧ (∀ n < 12, s.hasClaim k n = true → (∀ j < 8, j ≠ k.val → s.hasClaim j n = false) → s.stype n = SType.trc →
            (s.sheaf n).state = .run → (t.sheaf n).stop.isSome = true)) ∧
    (∀ k, s.dev.serviceHost = some k → s.dev.state = .service → (s.slot k).status = .free → s.dev.exiting = none →
      (∀ n < 12, standbyType (s.stype n) = true ∨
        ((s.sheaf n).state ≠ .run ∧ (s.sheaf n).state ≠ .proving ∧ (s.sheaf n).state ≠ .safe)) →
      ∃ t, exec .serviceHostDetached s = .next t ∧ t.dev.state = .standby ∧ t.dev.serviceHost = none ∧ t.dev.exiting = none
        ∧ ∀ j < 8, (t.slot j).svcClaims = 0 ∧ (t.slot j).claims = (s.slot j).claims &&& ~~~(s.slot j).svcClaims)

/-- R96, R97, R102, R106, R107, R113 to R116, R129, R130: messages taken, completions collected and sent again, credits, the end of a
store's claim, stream frames, the answer to DISCOVER. -/
def Obligations.MailboxesTakeCollectAndReturn : Prop :=
  ∀ (s : State), s.Calm →
    (∀ port : Fin 3, s.portOpen port = true →
      ∃ t, exec (.discover port) s = .next t ∧ ∃ m, t.tx = s.tx ++ [m] ∧ m.port = port.val ∧ m.kind = 0x02
        ∧ m.payload = beBytes 8 Config.serial.toNat ++ beBytes 2 s.runningIface
          ++ [BitVec.ofNat 8 s.dev.state.code, BitVec.ofNat 8 (s.freeMask port)] ++ List.replicate 4 0) ∧
    (∀ (port : Fin 8) m, s.portOpen port = true → m.kind = 0x10 → s.MayTake port m →
      ∃ t, exec (.commandAccept port m) s = .next t ∧ s.Takes t m ∧ t.reg = s.reg ∧ t.unit = s.unit ∧ t.sheaf = s.sheaf) ∧
    (∀ (port : Fin 8) (m : HostMsg), let k := m.tag.toNat / 64 % 8
      s.portOpen port = true → m.kind = 0x13 → (s.slot k).status = .attached → (s.slot k).port = port.val →
      m.payload.length ≤ 1460 → m.length.toNat = m.payload.length → creditCost m.payload.length ≤ (s.slot k).credits →
      authentic m (s.slot k).key = true → (s.slot k).freshIn < m.fresh.toNat →
      ∃ t, exec (.collect port m) s = .next t ∧ (t.slot k).freshIn = m.fresh.toNat ∧ ∀ i < 64, ∀ r, s.cmd k i = some r →
        t.cmd k i =
          if r.state = .done ∧ (beAt (padTo 8 m.payload) 0 8).testBit i = true then (if i = 0 then (s.slot k).later else none) else some r) ∧
    (∀ k : Fin 8, (s.slot k).status = .attached → isCanPort (s.slot k).port = false →
      ∃ t, exec (.completionResend k) s = .next t ∧
        let due (r : CmdRec) : Prop := r.state = .done ∧ r.sent + 10000000 ≤ t.time.now
        (∀ i < 64, ∀ r, s.cmd k i = some r → (¬due r → t.cmd k i = some r) ∧ (due r → t.cmd k i = some { r with sent := t.time.now }
          ∧ ∃ m ∈ t.tx, m.slot = k.val ∧ m.kind = 0x11 ∧ m.index = i ∧ m.code = r.code ∧ m.reason = r.reason ∧ m.time = r.completed
            ∧ m.payload = r.result))
        ∧ ((∃ i < 64, ∃ r, s.cmd k i = some r ∧ r.state = .done) → ∃ i < 64, ∃ r, s.cmd k i = some r ∧ due r)) ∧
    (∀ k : Fin 8, (s.slot k).status = .attached → isCanPort (s.slot k).port = false →
      ∃ t, exec (.creditSend k) s = .next t ∧ (t.slot k).owed = 0 ∧ (t.slot k).credits = (s.slot k).credits + (s.slot k).owed
        ∧ (s.slot k).lastCredit + (if (s.slot k).owed = 0 then 10000000 else 1000000) ≤ t.time.now
        ∧ ∃ m, t.tx = s.tx ++ [m] ∧ m.slot = k.val ∧ m.kind = 0x12 ∧ m.credits = (s.slot k).owed ∧ m.fresh = (s.slot k).freshOut + 1) ∧
    (s.commit.claim.isSome = true →
      ∃ t, exec .storeClaimExpiry s = .next t ∧ t.commit.claim = none ∧ t.commit.header = [] ∧ t.commit.fwClaim = s.commit.fwClaim
        ∧ s.commit.last + 10000000000 ≤ t.time.now ∧ t.store.bytes = s.store.bytes) ∧
    (s.commit.claim = none → s.commit.fwClaim.isSome = true →
      ∃ t, exec .storeClaimExpiry s = .next t ∧ t.commit.fwClaim = none ∧ t.commit.fwHeader = []
        ∧ s.commit.fwLast + 10000000000 ≤ t.time.now ∧ t.store.fwBytes = s.store.fwBytes) ∧
    (∀ (k : Fin 8) (n : Fin 64) x, s.streams.find? (fun y => decide (y.slot = k.val) && decide (y.number = n.val)) = some x →
      x.rows ≠ [] → (s.slot k).status = .attached →
      (s.time.now ≤ x.last + 2000000 → x.first ≤ x.last →
        ∃ t, exec (.streamFrameSend k n false) s = .next t ∧ ∃ m, t.tx = s.tx ++ [m] ∧ m.kind = 0x20 ∧ m.port = x.port ∧ m.index = n.val
          ∧ m.opcode = x.seq ∧ m.time = x.first ∧ m.payload = x.rows.flatten.flatMap (fun w => beBytes 2 w.toNat)
          ∧ { x with rows := [], seq := (x.seq + 1) % 65536 } ∈ t.streams) ∧
      (∃ t, exec (.streamFrameSend k n true) s = .next t ∧ t.tx = s.tx ∧ x.last + 2000000 < t.time.now
        ∧ { x with rows := [], seq := (x.seq + 1) % 65536 } ∈ t.streams))

/-- R503, R504, R525: discovery of devices on the service port, and the commands of the SPI port. -/
def Obligations.ServicePortsAnswer : Prop :=
  ∀ (s : State), s.Calm →
    let open2 : Prop := s.portOpen 2 = true ∧ s.regN Item.SVC.SD_EN ≠ 0 ∧ s.mayAnswer = true
    let replied (t : State) (nonce : Nat) : Prop := ∃ m, t.tx = s.tx ++ [m] ∧ m.port = 2 ∧ m.kind = 0x04
      ∧ m.payload.take 12 = beBytes 4 (s.regN Item.SVC.DEV_NUM) ++ beBytes 8 Config.serial.toNat ∧ m.payload.drop 24 = beBytes 8 nonce
      ∧ t.reg Item.SVC.SD_CNT = s.reg Item.SVC.SD_CNT + 1
    (∀ bits (len : Fin 19) window nonce, open2 → s.regN Item.SVC.DEV_NUM / 2 ^ (18 - len.val) = bits.val / 2 ^ (18 - len.val) →
      (∀ q ∈ s.net.quiet, q.1 = nonce.toNat → q.2 ≤ s.time.now) →
      ∃ t, exec (.sdQuery bits len window nonce) s = .next t ∧ ∃ at', t.net.replies = s.net.replies ++ [(at', nonce.toNat)]
        ∧ s.time.now ≤ at' ∧ at' ≤ s.time.now + window * 1000000 ∧ t.tx = s.tx) ∧
    (∀ q, earliest s.net.replies = some q →
      ∃ t, exec .sdReply s = .next t ∧ replied t q.2 ∧ t.net.replies = s.net.replies.erase q ∧ q.1 ≤ t.time.now) ∧
    (∀ nonce, open2 →
      ∃ t, exec (.sdQuiet nonce true) s = .next t ∧ replied t nonce.toNat
        ∧ (nonce.toNat, s.time.now + s.regN Item.SVC.SD_QUIET_T * 1000000000) ∈ t.net.quiet) ∧
    (∀ m, s.portOpen 7 = true → m.kind = 0x10 → m.opcode.toNat ≠ Op.hostAttach → s.MayTake 7 m →
      ∃ t, exec (.spiWrite m true) s = .next t ∧ s.Takes t m ∧ t.net.spi = []) ∧
    (∀ m n, s.portOpen 7 = true → n < 8 → bitOf (s.reg (Item.HOST.PORTS n)) 7 = true →
      (∀ k < n, bitOf (s.reg (Item.HOST.PORTS k)) 7 = false) →
      ∃ t, exec (.spiWrite m false) s = .next t ∧ t.reg (Item.HOST.LEN_ERR n) = s.reg (Item.HOST.LEN_ERR n) + 1
        ∧ t.cmd = s.cmd ∧ t.slot = s.slot) ∧
    (∀ m, s.spiWaiting = some m →
      (∃ t, exec (.spiRead true) s = .next t ∧ t.tx = s.tx.erase m ∧ t.net.spi.length = 32 + m.payload.length
        ∧ t.net.spi.drop 32 = m.payload) ∧
      (∃ t, exec (.spiRead false) s = .next t ∧ t.tx = s.tx)) ∧
    (s.spiWaiting = none → ∀ whole, ∃ t, exec (.spiRead whole) s = .next t ∧ t.net.spi = List.replicate 32 0 ∧ t.tx = s.tx) ∧
    (∃ t, exec .spiStatus s = .next t ∧ t.net.spi.length = 4 ∧ t.tx = s.tx
      ∧ t.net.spi.take 2
          = beBytes 2 (min 65535 (((s.tx.filter (fun m => decide (m.port = 7))).map (fun m => 32 + m.payload.length)).sum))) ∧
    (∀ length, ∃ t, exec (.spiOther length) s = .next t ∧ t.net.spi = List.replicate length 0 ∧ t.tx = s.tx)

/-- R31, R131: a sync sets the offset and the held rate, eight good ones in a row are LOCKED; missed ones are HOLDOVER at the last rate. -/
def Obligations.TimeIsSynchronisedAndHeldOver : Prop :=
  ∀ s : State, s.Calm →
    (∀ residual offset rate, s.regN Item.TIME.PTP_PORT ≠ 0 →
      ∃ t, exec (.ptpSync residual offset rate) s = .next t ∧ t.time.offset = offset ∧ t.time.lastSync = some s.time.now
        ∧ t.time.goodRun = (if residual < s.regN Item.TIME.LOCK_NS then s.time.goodRun + 1 else 0)
        ∧ t.reg Item.TIME.SYNC_STATE = (if 8 ≤ t.time.goodRun then 2 else 1)
        ∧ t.reg Item.TIME.RATE_PPB = iw (max (-200000) (min 200000 rate)) ∧ t.time.now = s.time.now) ∧
    ((s.regN Item.TIME.SYNC_STATE = 1 ∨ s.regN Item.TIME.SYNC_STATE = 2) →
      ∃ t, exec .ptpHoldover s = .next t ∧ t.reg Item.TIME.SYNC_STATE = 3 ∧ t.reg Item.TIME.RATE_PPB = s.reg Item.TIME.RATE_PPB
        ∧ t.time.goodRun = 0 ∧ t.time.offset = s.time.offset)

/-- A step runs the front command on the rest of the queue (the block's form of fetch and execute). -/
def Obligations.StepRunsTheFrontCommand : Prop :=
  ∀ (s : State) (c : Sys2Proof.Instr) (rest : List Sys2Proof.Instr),
    step { s with pending := c :: rest } = exec c { s with pending := rest }

/-- Table 2-6, R29, R51, R54, R85: after reset the device is in POWERUP at time 0, every switch, gate supply and output off, every sheaf
OFF, no host attached, nothing waiting, both stores in their canonical form. The values that the spec leaves open, among them
the contents of the two stores, are the model's (assumption logs 2, 8 and 15). -/
def Obligations.ResetLeavesEverythingOff : Prop :=
  State.reset.dev.state = .powerup ∧ State.reset.live = true ∧ State.reset.time.now = 0 ∧ State.reset.Dark ∧ State.reset.pending = []
    ∧ (∀ n, (State.reset.leg n).supplies = false) ∧ State.reset.waits = [] ∧ State.reset.swaps = []
    ∧ KMap.wf (fun _ => (0 : Byte)) State.reset.store.bytes = true ∧ KMap.wf (fun _ => (0 : Byte)) State.reset.store.fwBytes = true

/-- R4, R69, R508: no step marks the part anew or lowers a rollback floor, and a step takes one command off the queue and puts none in; on a
TH9648-AQ0, which no step makes another part, a debug halt of the shell processor has no effect. -/
def Obligations.NoStepLowersAFloorOrMarksThePart : Prop :=
  ∀ s : State, (∀ t : State, step s = .next t → s.Kept t ∧ t.pending = s.pending.tail)
    ∧ (s.dev.partAD0 = false → exec .debugHalt s = .next s)

/-- R14: the device leaves LOCKED on removal of VSUP and when nPOR is held low, and on nothing else. -/
def Obligations.LockedLastsUntilSupplyOrReset : Prop :=
  ∀ s : State, s.live = true → s.dev.state = .locked →
    (∀ (t : State) (c : Sys2Proof.Instr), exec c s = .next t → c ≠ .supplyLoss → c ≠ .nporReset → t.dev.state = .locked) ∧
    (∃ t, exec .supplyLoss s = .next t ∧ t.dev.state ≠ .locked) ∧ (∃ t, exec .nporReset s = .next t ∧ t.dev.state ≠ .locked)

/-- R29: but for the rows of supply, reset, WAKE and SHIP, a step never sets device time back; a device without supply, in reset or in
TRANSPORT stays as it is. -/
def Obligations.TimeGoesOnAndUnsuppliedRests : Prop :=
  ∀ (s t : State) (c : Sys2Proof.Instr), exec c s = .next t →
    c ≠ .vsupStart → c ≠ .supplyLoss → c ≠ .nporReset → c ≠ .nporRelease → (∀ e ms, c ≠ .wake e ms) → (∀ b ms, c ≠ .shipLevelChange b ms) →
    s.time.now ≤ t.time.now ∧ (s.live = false → t = s)

/-- R95 to R98, R505, R506, Table 3-1: the commands that write the two stores keep their sparse form canonical: addresses strictly rising,
no entry equal to what an unlisted address reads as. -/
def Obligations.CommitsKeepTheStoresCanonical : Prop :=
  ∀ (s t : State) (slot : Fin 8) (index : Fin 64) (c : Sys2Proof.Instr),
    (c = .nvCommitChunk slot index ∨ c = .nvCommitSeal slot index ∨ c = .nvCommitFwChunk slot index
      ∨ c = .nvCommitFwSeal slot index) →
    KMap.wf (fun _ => (0 : Byte)) s.store.bytes = true → KMap.wf (fun _ => (0 : Byte)) s.store.fwBytes = true → exec c s = .next t →
    KMap.wf (fun _ => (0 : Byte)) t.store.bytes = true ∧ KMap.wf (fun _ => (0 : Byte)) t.store.fwBytes = true
end

