-- ==== Sys2Proof/Laws/KMap.lean ====
section
/-! SUPPORT. What the sparse maps do: a read after a write, and the canonical form that every write keeps. -/

namespace Sys2Proof.Machine

variable {α : Type}

@[simp] theorem KMap.find_nil (k : Nat) : KMap.find ([] : KMap α) k = none := rfl

@[simp] theorem KMap.get_nil (d : Nat → α) (k : Nat) : KMap.get d [] k = d k := rfl

theorem KMap.find_ins (m : KMap α) (k : Nat) (v : α) (j : Nat) :
    KMap.find (KMap.ins m k v) j = if j = k then some v else KMap.find m j := by
  induction m with
  | nil => simp only [KMap.ins, KMap.find, eq_comm]
  | cons p t ih =>
    obtain ⟨a, x⟩ := p
    simp only [KMap.ins]
    split
    · simp only [KMap.find, eq_comm]
    · split
      · next h => subst h; by_cases hj : j = a <;> simp [KMap.find, hj, eq_comm]
      · next h =>
        simp only [KMap.find, ih]
        by_cases hj : j = k
        · subst hj; simp [h]
        · simp [hj]

theorem KMap.find_del (m : KMap α) (k j : Nat) :
    KMap.find (KMap.del m k) j = if j = k then none else KMap.find m j := by
  induction m with
  | nil => simp [KMap.del]
  | cons p t ih =>
    obtain ⟨a, x⟩ := p
    simp only [KMap.del]
    by_cases ha : a = k
    · subst ha
      by_cases hj : j = a
      · subst hj; simpa using ih
      · simp [ih, hj, KMap.find, Ne.symm hj]
    · by_cases hj : j = k
      · subst hj; simp [KMap.find, ha, ih]
      · simp [KMap.find, ha, ih, hj]

/-- Reading a map after a write: the value at the written key, every other key as before. -/
theorem KMap.get_put [DecidableEq α] (d : Nat → α) (m : KMap α) (k : Nat) (v : α) (j : Nat) :
    KMap.get d (KMap.put d m k v) j = if j = k then v else KMap.get d m j := by
  unfold KMap.put KMap.get
  by_cases hv : v = d k
  · by_cases hj : j = k
    · subst hj; simp [hv, KMap.find_del]
    · simp [hv, KMap.find_del, hj]
  · by_cases hj : j = k
    · subst hj; simp [hv, KMap.find_ins]
    · simp [hv, KMap.find_ins, hj]

@[simp] theorem KMap.get_put_same [DecidableEq α] (d : Nat → α) (m : KMap α) (k : Nat) (v : α) :
    KMap.get d (KMap.put d m k v) k = v := by simp [KMap.get_put]

theorem KMap.get_put_other [DecidableEq α] (d : Nat → α) (m : KMap α) {k j : Nat} (v : α) (h : j ≠ k) :
    KMap.get d (KMap.put d m k v) j = KMap.get d m j := by simp [KMap.get_put, h]

theorem KMap.rising_weaken {n n' : Nat} (h : n' ≤ n) {m : KMap α} (hm : KMap.rising n m = true) : KMap.rising n' m = true := by
  cases m with
  | nil => rfl
  | cons p t =>
    obtain ⟨a, x⟩ := p
    simp only [KMap.rising, Bool.and_eq_true, decide_eq_true_eq] at hm ⊢
    exact ⟨le_trans h hm.1, hm.2⟩

theorem KMap.rising_ins (m : KMap α) (n k : Nat) (v : α) (hn : n ≤ k) (hm : KMap.rising n m = true) :
    KMap.rising n (KMap.ins m k v) = true := by
  induction m generalizing n with
  | nil => simp [KMap.ins, KMap.rising, hn]
  | cons p t ih =>
    obtain ⟨a, x⟩ := p
    simp only [KMap.rising, Bool.and_eq_true, decide_eq_true_eq] at hm
    simp only [KMap.ins]
    split
    · simp only [KMap.rising, Bool.and_eq_true, decide_eq_true_eq]; exact ⟨hn, by omega, hm.2⟩
    · split
      · next h => subst h; simp only [KMap.rising, Bool.and_eq_true, decide_eq_true_eq]; exact ⟨hn, hm.2⟩
      · simp only [KMap.rising, Bool.and_eq_true, decide_eq_true_eq]; exact ⟨hm.1, ih _ (by omega) hm.2⟩

theorem KMap.rising_del (m : KMap α) (n k : Nat) (hm : KMap.rising n m = true) : KMap.rising n (KMap.del m k) = true := by
  induction m generalizing n with
  | nil => rfl
  | cons p t ih =>
    obtain ⟨a, x⟩ := p
    simp only [KMap.rising, Bool.and_eq_true, decide_eq_true_eq] at hm
    simp only [KMap.del]
    split
    · exact ih _ (KMap.rising_weaken (by omega) hm.2)
    · simp only [KMap.rising, Bool.and_eq_true, decide_eq_true_eq]; exact ⟨hm.1, ih _ hm.2⟩

theorem KMap.mem_ins {m : KMap α} {k : Nat} {v : α} {p : Nat × α} (h : p ∈ KMap.ins m k v) : p = (k, v) ∨ p ∈ m := by
  induction m with
  | nil => simp only [KMap.ins, List.mem_singleton] at h; exact .inl h
  | cons q t ih =>
    obtain ⟨a, x⟩ := q
    simp only [KMap.ins] at h
    split at h
    · simp only [List.mem_cons] at h ⊢; tauto
    · split at h
      · simp only [List.mem_cons] at h ⊢; tauto
      · simp only [List.mem_cons] at h ⊢
        rcases h with h | h
        · tauto
        · rcases ih h with h | h <;> tauto

theorem KMap.mem_del {m : KMap α} {k : Nat} {p : Nat × α} (h : p ∈ KMap.del m k) : p ∈ m := by
  induction m with
  | nil => exact h
  | cons q t ih =>
    obtain ⟨a, x⟩ := q
    simp only [KMap.del] at h
    split at h
    · exact List.mem_cons_of_mem _ (ih h)
    · simp only [List.mem_cons] at h ⊢
      rcases h with h | h
      · exact .inl h
      · exact .inr (ih h)

/-- Every write keeps the canonical form. -/
theorem KMap.put_wf [DecidableEq α] (d : Nat → α) (m : KMap α) (k : Nat) (v : α) (h : KMap.wf d m = true) :
    KMap.wf d (KMap.put d m k v) = true := by
  simp only [KMap.wf, Bool.and_eq_true, List.all_eq_true, decide_eq_true_eq] at h ⊢
  unfold KMap.put
  split
  · exact ⟨KMap.rising_del m 0 k h.1, fun p hp => h.2 p (KMap.mem_del hp)⟩
  · next hv =>
    refine ⟨KMap.rising_ins m 0 k v (Nat.zero_le k) h.1, fun p hp => ?_⟩
    rcases KMap.mem_ins hp with rfl | hp
    · exact hv
    · exact h.2 p hp

end Sys2Proof.Machine
end

