-- ==== Sys2Proof/Laws/State.lean ====
section
/-! SUPPORT. What each named write of the state changes and what it leaves: one lemma per field per write, and each reader after its
own write. -/

namespace Sys2Proof.Machine

variable (s : State)

@[simp] theorem State.setReg_dev (a : Nat) (w : Word) : (s.setReg a w).dev = s.dev := rfl
@[simp] theorem State.setReg_time (a : Nat) (w : Word) : (s.setReg a w).time = s.time := rfl
@[simp] theorem State.setReg_bind (a : Nat) (w : Word) : (s.setReg a w).bind = s.bind := rfl
@[simp] theorem State.setReg_shd (a : Nat) (w : Word) : (s.setReg a w).shd = s.shd := rfl
@[simp] theorem State.setReg_waits (a : Nat) (w : Word) : (s.setReg a w).waits = s.waits := rfl
@[simp] theorem State.setReg_poison (a : Nat) (w : Word) : (s.setReg a w).poison = s.poison := rfl
@[simp] theorem State.setReg_badWords (a : Nat) (w : Word) : (s.setReg a w).badWords = s.badWords := rfl
@[simp] theorem State.setReg_integrity (a : Nat) (w : Word) : (s.setReg a w).integrity = s.integrity := rfl
@[simp] theorem State.setReg_swaps (a : Nat) (w : Word) : (s.setReg a w).swaps = s.swaps := rfl
@[simp] theorem State.setReg_store (a : Nat) (w : Word) : (s.setReg a w).store = s.store := rfl
@[simp] theorem State.setReg_commit (a : Nat) (w : Word) : (s.setReg a w).commit = s.commit := rfl
@[simp] theorem State.setReg_lv (a : Nat) (w : Word) : (s.setReg a w).lv = s.lv := rfl
@[simp] theorem State.setReg_slots (a : Nat) (w : Word) : (s.setReg a w).slots = s.slots := rfl
@[simp] theorem State.setReg_recs (a : Nat) (w : Word) : (s.setReg a w).recs = s.recs := rfl
@[simp] theorem State.setReg_tx (a : Nat) (w : Word) : (s.setReg a w).tx = s.tx := rfl
@[simp] theorem State.setReg_seqs (a : Nat) (w : Word) : (s.setReg a w).seqs = s.seqs := rfl
@[simp] theorem State.setReg_streams (a : Nat) (w : Word) : (s.setReg a w).streams = s.streams := rfl
@[simp] theorem State.setReg_proofs (a : Nat) (w : Word) : (s.setReg a w).proofs = s.proofs := rfl
@[simp] theorem State.setReg_units (a : Nat) (w : Word) : (s.setReg a w).units = s.units := rfl
@[simp] theorem State.setReg_sheaves (a : Nat) (w : Word) : (s.setReg a w).sheaves = s.sheaves := rfl
@[simp] theorem State.setReg_legs (a : Nat) (w : Word) : (s.setReg a w).legs = s.legs := rfl
@[simp] theorem State.setReg_sup (a : Nat) (w : Word) : (s.setReg a w).sup = s.sup := rfl
@[simp] theorem State.setReg_outs (a : Nat) (w : Word) : (s.setReg a w).outs = s.outs := rfl
@[simp] theorem State.setReg_lanes (a : Nat) (w : Word) : (s.setReg a w).lanes = s.lanes := rfl
@[simp] theorem State.setReg_carriers (a : Nat) (w : Word) : (s.setReg a w).carriers = s.carriers := rfl
@[simp] theorem State.setReg_groups (a : Nat) (w : Word) : (s.setReg a w).groups = s.groups := rfl
@[simp] theorem State.setReg_pulses (a : Nat) (w : Word) : (s.setReg a w).pulses = s.pulses := rfl
@[simp] theorem State.setReg_events (a : Nat) (w : Word) : (s.setReg a w).events = s.events := rfl
@[simp] theorem State.setReg_writes (a : Nat) (w : Word) : (s.setReg a w).writes = s.writes := rfl
@[simp] theorem State.setReg_fabricStopped (a : Nat) (w : Word) : (s.setReg a w).fabricStopped = s.fabricStopped := rfl
@[simp] theorem State.setReg_trac (a : Nat) (w : Word) : (s.setReg a w).trac = s.trac := rfl
@[simp] theorem State.setReg_auxI (a : Nat) (w : Word) : (s.setReg a w).auxI = s.auxI := rfl
@[simp] theorem State.setReg_auxB (a : Nat) (w : Word) : (s.setReg a w).auxB = s.auxB := rfl
@[simp] theorem State.setReg_syncIn (a : Nat) (w : Word) : (s.setReg a w).syncIn = s.syncIn := rfl
@[simp] theorem State.setReg_shed (a : Nat) (w : Word) : (s.setReg a w).shed = s.shed := rfl
@[simp] theorem State.setReg_charge (a : Nat) (w : Word) : (s.setReg a w).charge = s.charge := rfl
@[simp] theorem State.setReg_hv (a : Nat) (w : Word) : (s.setReg a w).hv = s.hv := rfl
@[simp] theorem State.setReg_acts (a : Nat) (w : Word) : (s.setReg a w).acts = s.acts := rfl
@[simp] theorem State.setReg_therm (a : Nat) (w : Word) : (s.setReg a w).therm = s.therm := rfl
@[simp] theorem State.setReg_net (a : Nat) (w : Word) : (s.setReg a w).net = s.net := rfl
@[simp] theorem State.setReg_ports (a : Nat) (w : Word) : (s.setReg a w).ports = s.ports := rfl
@[simp] theorem State.setReg_fasts (a : Nat) (w : Word) : (s.setReg a w).fasts = s.fasts := rfl
@[simp] theorem State.setReg_slows (a : Nat) (w : Word) : (s.setReg a w).slows = s.slows := rfl
@[simp] theorem State.setReg_cans (a : Nat) (w : Word) : (s.setReg a w).cans = s.cans := rfl
@[simp] theorem State.setReg_timers (a : Nat) (w : Word) : (s.setReg a w).timers = s.timers := rfl
@[simp] theorem State.setReg_pending (a : Nat) (w : Word) : (s.setReg a w).pending = s.pending := rfl

@[simp] theorem State.setShadow_dev (a : Nat) (w : Word) : (s.setShadow a w).dev = s.dev := rfl
@[simp] theorem State.setShadow_time (a : Nat) (w : Word) : (s.setShadow a w).time = s.time := rfl
@[simp] theorem State.setShadow_bind (a : Nat) (w : Word) : (s.setShadow a w).bind = s.bind := rfl
@[simp] theorem State.setShadow_regs (a : Nat) (w : Word) : (s.setShadow a w).regs = s.regs := rfl
@[simp] theorem State.setShadow_waits (a : Nat) (w : Word) : (s.setShadow a w).waits = s.waits := rfl
@[simp] theorem State.setShadow_poison (a : Nat) (w : Word) : (s.setShadow a w).poison = s.poison := rfl
@[simp] theorem State.setShadow_badWords (a : Nat) (w : Word) : (s.setShadow a w).badWords = s.badWords := rfl
@[simp] theorem State.setShadow_integrity (a : Nat) (w : Word) : (s.setShadow a w).integrity = s.integrity := rfl
@[simp] theorem State.setShadow_swaps (a : Nat) (w : Word) : (s.setShadow a w).swaps = s.swaps := rfl
@[simp] theorem State.setShadow_store (a : Nat) (w : Word) : (s.setShadow a w).store = s.store := rfl
@[simp] theorem State.setShadow_commit (a : Nat) (w : Word) : (s.setShadow a w).commit = s.commit := rfl
@[simp] theorem State.setShadow_lv (a : Nat) (w : Word) : (s.setShadow a w).lv = s.lv := rfl
@[simp] theorem State.setShadow_slots (a : Nat) (w : Word) : (s.setShadow a w).slots = s.slots := rfl
@[simp] theorem State.setShadow_recs (a : Nat) (w : Word) : (s.setShadow a w).recs = s.recs := rfl
@[simp] theorem State.setShadow_tx (a : Nat) (w : Word) : (s.setShadow a w).tx = s.tx := rfl
@[simp] theorem State.setShadow_seqs (a : Nat) (w : Word) : (s.setShadow a w).seqs = s.seqs := rfl
@[simp] theorem State.setShadow_streams (a : Nat) (w : Word) : (s.setShadow a w).streams = s.streams := rfl
@[simp] theorem State.setShadow_proofs (a : Nat) (w : Word) : (s.setShadow a w).proofs = s.proofs := rfl
@[simp] theorem State.setShadow_units (a : Nat) (w : Word) : (s.setShadow a w).units = s.units := rfl
@[simp] theorem State.setShadow_sheaves (a : Nat) (w : Word) : (s.setShadow a w).sheaves = s.sheaves := rfl
@[simp] theorem State.setShadow_legs (a : Nat) (w : Word) : (s.setShadow a w).legs = s.legs := rfl
@[simp] theorem State.setShadow_sup (a : Nat) (w : Word) : (s.setShadow a w).sup = s.sup := rfl
@[simp] theorem State.setShadow_outs (a : Nat) (w : Word) : (s.setShadow a w).outs = s.outs := rfl
@[simp] theorem State.setShadow_lanes (a : Nat) (w : Word) : (s.setShadow a w).lanes = s.lanes := rfl
@[simp] theorem State.setShadow_carriers (a : Nat) (w : Word) : (s.setShadow a w).carriers = s.carriers := rfl
@[simp] theorem State.setShadow_groups (a : Nat) (w : Word) : (s.setShadow a w).groups = s.groups := rfl
@[simp] theorem State.setShadow_pulses (a : Nat) (w : Word) : (s.setShadow a w).pulses = s.pulses := rfl
@[simp] theorem State.setShadow_events (a : Nat) (w : Word) : (s.setShadow a w).events = s.events := rfl
@[simp] theorem State.setShadow_writes (a : Nat) (w : Word) : (s.setShadow a w).writes = s.writes := rfl
@[simp] theorem State.setShadow_fabricStopped (a : Nat) (w : Word) : (s.setShadow a w).fabricStopped = s.fabricStopped := rfl
@[simp] theorem State.setShadow_trac (a : Nat) (w : Word) : (s.setShadow a w).trac = s.trac := rfl
@[simp] theorem State.setShadow_auxI (a : Nat) (w : Word) : (s.setShadow a w).auxI = s.auxI := rfl
@[simp] theorem State.setShadow_auxB (a : Nat) (w : Word) : (s.setShadow a w).auxB = s.auxB := rfl
@[simp] theorem State.setShadow_syncIn (a : Nat) (w : Word) : (s.setShadow a w).syncIn = s.syncIn := rfl
@[simp] theorem State.setShadow_shed (a : Nat) (w : Word) : (s.setShadow a w).shed = s.shed := rfl
@[simp] theorem State.setShadow_charge (a : Nat) (w : Word) : (s.setShadow a w).charge = s.charge := rfl
@[simp] theorem State.setShadow_hv (a : Nat) (w : Word) : (s.setShadow a w).hv = s.hv := rfl
@[simp] theorem State.setShadow_acts (a : Nat) (w : Word) : (s.setShadow a w).acts = s.acts := rfl
@[simp] theorem State.setShadow_therm (a : Nat) (w : Word) : (s.setShadow a w).therm = s.therm := rfl
@[simp] theorem State.setShadow_net (a : Nat) (w : Word) : (s.setShadow a w).net = s.net := rfl
@[simp] theorem State.setShadow_ports (a : Nat) (w : Word) : (s.setShadow a w).ports = s.ports := rfl
@[simp] theorem State.setShadow_fasts (a : Nat) (w : Word) : (s.setShadow a w).fasts = s.fasts := rfl
@[simp] theorem State.setShadow_slows (a : Nat) (w : Word) : (s.setShadow a w).slows = s.slows := rfl
@[simp] theorem State.setShadow_cans (a : Nat) (w : Word) : (s.setShadow a w).cans = s.cans := rfl
@[simp] theorem State.setShadow_timers (a : Nat) (w : Word) : (s.setShadow a w).timers = s.timers := rfl
@[simp] theorem State.setShadow_pending (a : Nat) (w : Word) : (s.setShadow a w).pending = s.pending := rfl

@[simp] theorem State.bump_dev (a : Nat) : (s.bump a).dev = s.dev := rfl
@[simp] theorem State.bump_time (a : Nat) : (s.bump a).time = s.time := rfl
@[simp] theorem State.bump_bind (a : Nat) : (s.bump a).bind = s.bind := rfl
@[simp] theorem State.bump_shd (a : Nat) : (s.bump a).shd = s.shd := rfl
@[simp] theorem State.bump_waits (a : Nat) : (s.bump a).waits = s.waits := rfl
@[simp] theorem State.bump_poison (a : Nat) : (s.bump a).poison = s.poison := rfl
@[simp] theorem State.bump_badWords (a : Nat) : (s.bump a).badWords = s.badWords := rfl
@[simp] theorem State.bump_integrity (a : Nat) : (s.bump a).integrity = s.integrity := rfl
@[simp] theorem State.bump_swaps (a : Nat) : (s.bump a).swaps = s.swaps := rfl
@[simp] theorem State.bump_store (a : Nat) : (s.bump a).store = s.store := rfl
@[simp] theorem State.bump_commit (a : Nat) : (s.bump a).commit = s.commit := rfl
@[simp] theorem State.bump_lv (a : Nat) : (s.bump a).lv = s.lv := rfl
@[simp] theorem State.bump_slots (a : Nat) : (s.bump a).slots = s.slots := rfl
@[simp] theorem State.bump_recs (a : Nat) : (s.bump a).recs = s.recs := rfl
@[simp] theorem State.bump_tx (a : Nat) : (s.bump a).tx = s.tx := rfl
@[simp] theorem State.bump_seqs (a : Nat) : (s.bump a).seqs = s.seqs := rfl
@[simp] theorem State.bump_streams (a : Nat) : (s.bump a).streams = s.streams := rfl
@[simp] theorem State.bump_proofs (a : Nat) : (s.bump a).proofs = s.proofs := rfl
@[simp] theorem State.bump_units (a : Nat) : (s.bump a).units = s.units := rfl
@[simp] theorem State.bump_sheaves (a : Nat) : (s.bump a).sheaves = s.sheaves := rfl
@[simp] theorem State.bump_legs (a : Nat) : (s.bump a).legs = s.legs := rfl
@[simp] theorem State.bump_sup (a : Nat) : (s.bump a).sup = s.sup := rfl
@[simp] theorem State.bump_outs (a : Nat) : (s.bump a).outs = s.outs := rfl
@[simp] theorem State.bump_lanes (a : Nat) : (s.bump a).lanes = s.lanes := rfl
@[simp] theorem State.bump_carriers (a : Nat) : (s.bump a).carriers = s.carriers := rfl
@[simp] theorem State.bump_groups (a : Nat) : (s.bump a).groups = s.groups := rfl
@[simp] theorem State.bump_pulses (a : Nat) : (s.bump a).pulses = s.pulses := rfl
@[simp] theorem State.bump_events (a : Nat) : (s.bump a).events = s.events := rfl
@[simp] theorem State.bump_writes (a : Nat) : (s.bump a).writes = s.writes := rfl
@[simp] theorem State.bump_fabricStopped (a : Nat) : (s.bump a).fabricStopped = s.fabricStopped := rfl
@[simp] theorem State.bump_trac (a : Nat) : (s.bump a).trac = s.trac := rfl
@[simp] theorem State.bump_auxI (a : Nat) : (s.bump a).auxI = s.auxI := rfl
@[simp] theorem State.bump_auxB (a : Nat) : (s.bump a).auxB = s.auxB := rfl
@[simp] theorem State.bump_syncIn (a : Nat) : (s.bump a).syncIn = s.syncIn := rfl
@[simp] theorem State.bump_shed (a : Nat) : (s.bump a).shed = s.shed := rfl
@[simp] theorem State.bump_charge (a : Nat) : (s.bump a).charge = s.charge := rfl
@[simp] theorem State.bump_hv (a : Nat) : (s.bump a).hv = s.hv := rfl
@[simp] theorem State.bump_acts (a : Nat) : (s.bump a).acts = s.acts := rfl
@[simp] theorem State.bump_therm (a : Nat) : (s.bump a).therm = s.therm := rfl
@[simp] theorem State.bump_net (a : Nat) : (s.bump a).net = s.net := rfl
@[simp] theorem State.bump_ports (a : Nat) : (s.bump a).ports = s.ports := rfl
@[simp] theorem State.bump_fasts (a : Nat) : (s.bump a).fasts = s.fasts := rfl
@[simp] theorem State.bump_slows (a : Nat) : (s.bump a).slows = s.slows := rfl
@[simp] theorem State.bump_cans (a : Nat) : (s.bump a).cans = s.cans := rfl
@[simp] theorem State.bump_timers (a : Nat) : (s.bump a).timers = s.timers := rfl
@[simp] theorem State.bump_pending (a : Nat) : (s.bump a).pending = s.pending := rfl

@[simp] theorem State.setUnit_dev (u : Nat) (r : UnitRec) : (s.setUnit u r).dev = s.dev := rfl
@[simp] theorem State.setUnit_time (u : Nat) (r : UnitRec) : (s.setUnit u r).time = s.time := rfl
@[simp] theorem State.setUnit_bind (u : Nat) (r : UnitRec) : (s.setUnit u r).bind = s.bind := rfl
@[simp] theorem State.setUnit_regs (u : Nat) (r : UnitRec) : (s.setUnit u r).regs = s.regs := rfl
@[simp] theorem State.setUnit_shd (u : Nat) (r : UnitRec) : (s.setUnit u r).shd = s.shd := rfl
@[simp] theorem State.setUnit_waits (u : Nat) (r : UnitRec) : (s.setUnit u r).waits = s.waits := rfl
@[simp] theorem State.setUnit_poison (u : Nat) (r : UnitRec) : (s.setUnit u r).poison = s.poison := rfl
@[simp] theorem State.setUnit_badWords (u : Nat) (r : UnitRec) : (s.setUnit u r).badWords = s.badWords := rfl
@[simp] theorem State.setUnit_integrity (u : Nat) (r : UnitRec) : (s.setUnit u r).integrity = s.integrity := rfl
@[simp] theorem State.setUnit_swaps (u : Nat) (r : UnitRec) : (s.setUnit u r).swaps = s.swaps := rfl
@[simp] theorem State.setUnit_store (u : Nat) (r : UnitRec) : (s.setUnit u r).store = s.store := rfl
@[simp] theorem State.setUnit_commit (u : Nat) (r : UnitRec) : (s.setUnit u r).commit = s.commit := rfl
@[simp] theorem State.setUnit_lv (u : Nat) (r : UnitRec) : (s.setUnit u r).lv = s.lv := rfl
@[simp] theorem State.setUnit_slots (u : Nat) (r : UnitRec) : (s.setUnit u r).slots = s.slots := rfl
@[simp] theorem State.setUnit_recs (u : Nat) (r : UnitRec) : (s.setUnit u r).recs = s.recs := rfl
@[simp] theorem State.setUnit_tx (u : Nat) (r : UnitRec) : (s.setUnit u r).tx = s.tx := rfl
@[simp] theorem State.setUnit_seqs (u : Nat) (r : UnitRec) : (s.setUnit u r).seqs = s.seqs := rfl
@[simp] theorem State.setUnit_streams (u : Nat) (r : UnitRec) : (s.setUnit u r).streams = s.streams := rfl
@[simp] theorem State.setUnit_proofs (u : Nat) (r : UnitRec) : (s.setUnit u r).proofs = s.proofs := rfl
@[simp] theorem State.setUnit_sheaves (u : Nat) (r : UnitRec) : (s.setUnit u r).sheaves = s.sheaves := rfl
@[simp] theorem State.setUnit_legs (u : Nat) (r : UnitRec) : (s.setUnit u r).legs = s.legs := rfl
@[simp] theorem State.setUnit_sup (u : Nat) (r : UnitRec) : (s.setUnit u r).sup = s.sup := rfl
@[simp] theorem State.setUnit_outs (u : Nat) (r : UnitRec) : (s.setUnit u r).outs = s.outs := rfl
@[simp] theorem State.setUnit_lanes (u : Nat) (r : UnitRec) : (s.setUnit u r).lanes = s.lanes := rfl
@[simp] theorem State.setUnit_carriers (u : Nat) (r : UnitRec) : (s.setUnit u r).carriers = s.carriers := rfl
@[simp] theorem State.setUnit_groups (u : Nat) (r : UnitRec) : (s.setUnit u r).groups = s.groups := rfl
@[simp] theorem State.setUnit_pulses (u : Nat) (r : UnitRec) : (s.setUnit u r).pulses = s.pulses := rfl
@[simp] theorem State.setUnit_events (u : Nat) (r : UnitRec) : (s.setUnit u r).events = s.events := rfl
@[simp] theorem State.setUnit_writes (u : Nat) (r : UnitRec) : (s.setUnit u r).writes = s.writes := rfl
@[simp] theorem State.setUnit_fabricStopped (u : Nat) (r : UnitRec) : (s.setUnit u r).fabricStopped = s.fabricStopped := rfl
@[simp] theorem State.setUnit_trac (u : Nat) (r : UnitRec) : (s.setUnit u r).trac = s.trac := rfl
@[simp] theorem State.setUnit_auxI (u : Nat) (r : UnitRec) : (s.setUnit u r).auxI = s.auxI := rfl
@[simp] theorem State.setUnit_auxB (u : Nat) (r : UnitRec) : (s.setUnit u r).auxB = s.auxB := rfl
@[simp] theorem State.setUnit_syncIn (u : Nat) (r : UnitRec) : (s.setUnit u r).syncIn = s.syncIn := rfl
@[simp] theorem State.setUnit_shed (u : Nat) (r : UnitRec) : (s.setUnit u r).shed = s.shed := rfl
@[simp] theorem State.setUnit_charge (u : Nat) (r : UnitRec) : (s.setUnit u r).charge = s.charge := rfl
@[simp] theorem State.setUnit_hv (u : Nat) (r : UnitRec) : (s.setUnit u r).hv = s.hv := rfl
@[simp] theorem State.setUnit_acts (u : Nat) (r : UnitRec) : (s.setUnit u r).acts = s.acts := rfl
@[simp] theorem State.setUnit_therm (u : Nat) (r : UnitRec) : (s.setUnit u r).therm = s.therm := rfl
@[simp] theorem State.setUnit_net (u : Nat) (r : UnitRec) : (s.setUnit u r).net = s.net := rfl
@[simp] theorem State.setUnit_ports (u : Nat) (r : UnitRec) : (s.setUnit u r).ports = s.ports := rfl
@[simp] theorem State.setUnit_fasts (u : Nat) (r : UnitRec) : (s.setUnit u r).fasts = s.fasts := rfl
@[simp] theorem State.setUnit_slows (u : Nat) (r : UnitRec) : (s.setUnit u r).slows = s.slows := rfl
@[simp] theorem State.setUnit_cans (u : Nat) (r : UnitRec) : (s.setUnit u r).cans = s.cans := rfl
@[simp] theorem State.setUnit_timers (u : Nat) (r : UnitRec) : (s.setUnit u r).timers = s.timers := rfl
@[simp] theorem State.setUnit_pending (u : Nat) (r : UnitRec) : (s.setUnit u r).pending = s.pending := rfl

@[simp] theorem State.setSheaf_dev (n : Nat) (h : Sheaf) : (s.setSheaf n h).dev = s.dev := rfl
@[simp] theorem State.setSheaf_time (n : Nat) (h : Sheaf) : (s.setSheaf n h).time = s.time := rfl
@[simp] theorem State.setSheaf_bind (n : Nat) (h : Sheaf) : (s.setSheaf n h).bind = s.bind := rfl
@[simp] theorem State.setSheaf_regs (n : Nat) (h : Sheaf) : (s.setSheaf n h).regs = s.regs := rfl
@[simp] theorem State.setSheaf_shd (n : Nat) (h : Sheaf) : (s.setSheaf n h).shd = s.shd := rfl
@[simp] theorem State.setSheaf_waits (n : Nat) (h : Sheaf) : (s.setSheaf n h).waits = s.waits := rfl
@[simp] theorem State.setSheaf_poison (n : Nat) (h : Sheaf) : (s.setSheaf n h).poison = s.poison := rfl
@[simp] theorem State.setSheaf_badWords (n : Nat) (h : Sheaf) : (s.setSheaf n h).badWords = s.badWords := rfl
@[simp] theorem State.setSheaf_integrity (n : Nat) (h : Sheaf) : (s.setSheaf n h).integrity = s.integrity := rfl
@[simp] theorem State.setSheaf_swaps (n : Nat) (h : Sheaf) : (s.setSheaf n h).swaps = s.swaps := rfl
@[simp] theorem State.setSheaf_store (n : Nat) (h : Sheaf) : (s.setSheaf n h).store = s.store := rfl
@[simp] theorem State.setSheaf_commit (n : Nat) (h : Sheaf) : (s.setSheaf n h).commit = s.commit := rfl
@[simp] theorem State.setSheaf_lv (n : Nat) (h : Sheaf) : (s.setSheaf n h).lv = s.lv := rfl
@[simp] theorem State.setSheaf_slots (n : Nat) (h : Sheaf) : (s.setSheaf n h).slots = s.slots := rfl
@[simp] theorem State.setSheaf_recs (n : Nat) (h : Sheaf) : (s.setSheaf n h).recs = s.recs := rfl
@[simp] theorem State.setSheaf_tx (n : Nat) (h : Sheaf) : (s.setSheaf n h).tx = s.tx := rfl
@[simp] theorem State.setSheaf_seqs (n : Nat) (h : Sheaf) : (s.setSheaf n h).seqs = s.seqs := rfl
@[simp] theorem State.setSheaf_streams (n : Nat) (h : Sheaf) : (s.setSheaf n h).streams = s.streams := rfl
@[simp] theorem State.setSheaf_proofs (n : Nat) (h : Sheaf) : (s.setSheaf n h).proofs = s.proofs := rfl
@[simp] theorem State.setSheaf_units (n : Nat) (h : Sheaf) : (s.setSheaf n h).units = s.units := rfl
@[simp] theorem State.setSheaf_legs (n : Nat) (h : Sheaf) : (s.setSheaf n h).legs = s.legs := rfl
@[simp] theorem State.setSheaf_sup (n : Nat) (h : Sheaf) : (s.setSheaf n h).sup = s.sup := rfl
@[simp] theorem State.setSheaf_outs (n : Nat) (h : Sheaf) : (s.setSheaf n h).outs = s.outs := rfl
@[simp] theorem State.setSheaf_lanes (n : Nat) (h : Sheaf) : (s.setSheaf n h).lanes = s.lanes := rfl
@[simp] theorem State.setSheaf_carriers (n : Nat) (h : Sheaf) : (s.setSheaf n h).carriers = s.carriers := rfl
@[simp] theorem State.setSheaf_groups (n : Nat) (h : Sheaf) : (s.setSheaf n h).groups = s.groups := rfl
@[simp] theorem State.setSheaf_pulses (n : Nat) (h : Sheaf) : (s.setSheaf n h).pulses = s.pulses := rfl
@[simp] theorem State.setSheaf_events (n : Nat) (h : Sheaf) : (s.setSheaf n h).events = s.events := rfl
@[simp] theorem State.setSheaf_writes (n : Nat) (h : Sheaf) : (s.setSheaf n h).writes = s.writes := rfl
@[simp] theorem State.setSheaf_fabricStopped (n : Nat) (h : Sheaf) : (s.setSheaf n h).fabricStopped = s.fabricStopped := rfl
@[simp] theorem State.setSheaf_trac (n : Nat) (h : Sheaf) : (s.setSheaf n h).trac = s.trac := rfl
@[simp] theorem State.setSheaf_auxI (n : Nat) (h : Sheaf) : (s.setSheaf n h).auxI = s.auxI := rfl
@[simp] theorem State.setSheaf_auxB (n : Nat) (h : Sheaf) : (s.setSheaf n h).auxB = s.auxB := rfl
@[simp] theorem State.setSheaf_syncIn (n : Nat) (h : Sheaf) : (s.setSheaf n h).syncIn = s.syncIn := rfl
@[simp] theorem State.setSheaf_shed (n : Nat) (h : Sheaf) : (s.setSheaf n h).shed = s.shed := rfl
@[simp] theorem State.setSheaf_charge (n : Nat) (h : Sheaf) : (s.setSheaf n h).charge = s.charge := rfl
@[simp] theorem State.setSheaf_hv (n : Nat) (h : Sheaf) : (s.setSheaf n h).hv = s.hv := rfl
@[simp] theorem State.setSheaf_acts (n : Nat) (h : Sheaf) : (s.setSheaf n h).acts = s.acts := rfl
@[simp] theorem State.setSheaf_therm (n : Nat) (h : Sheaf) : (s.setSheaf n h).therm = s.therm := rfl
@[simp] theorem State.setSheaf_net (n : Nat) (h : Sheaf) : (s.setSheaf n h).net = s.net := rfl
@[simp] theorem State.setSheaf_ports (n : Nat) (h : Sheaf) : (s.setSheaf n h).ports = s.ports := rfl
@[simp] theorem State.setSheaf_fasts (n : Nat) (h : Sheaf) : (s.setSheaf n h).fasts = s.fasts := rfl
@[simp] theorem State.setSheaf_slows (n : Nat) (h : Sheaf) : (s.setSheaf n h).slows = s.slows := rfl
@[simp] theorem State.setSheaf_cans (n : Nat) (h : Sheaf) : (s.setSheaf n h).cans = s.cans := rfl
@[simp] theorem State.setSheaf_timers (n : Nat) (h : Sheaf) : (s.setSheaf n h).timers = s.timers := rfl
@[simp] theorem State.setSheaf_pending (n : Nat) (h : Sheaf) : (s.setSheaf n h).pending = s.pending := rfl

@[simp] theorem State.setLeg_dev (n : Nat) (l : Leg) : (s.setLeg n l).dev = s.dev := rfl
@[simp] theorem State.setLeg_time (n : Nat) (l : Leg) : (s.setLeg n l).time = s.time := rfl
@[simp] theorem State.setLeg_bind (n : Nat) (l : Leg) : (s.setLeg n l).bind = s.bind := rfl
@[simp] theorem State.setLeg_regs (n : Nat) (l : Leg) : (s.setLeg n l).regs = s.regs := rfl
@[simp] theorem State.setLeg_shd (n : Nat) (l : Leg) : (s.setLeg n l).shd = s.shd := rfl
@[simp] theorem State.setLeg_waits (n : Nat) (l : Leg) : (s.setLeg n l).waits = s.waits := rfl
@[simp] theorem State.setLeg_poison (n : Nat) (l : Leg) : (s.setLeg n l).poison = s.poison := rfl
@[simp] theorem State.setLeg_badWords (n : Nat) (l : Leg) : (s.setLeg n l).badWords = s.badWords := rfl
@[simp] theorem State.setLeg_integrity (n : Nat) (l : Leg) : (s.setLeg n l).integrity = s.integrity := rfl
@[simp] theorem State.setLeg_swaps (n : Nat) (l : Leg) : (s.setLeg n l).swaps = s.swaps := rfl
@[simp] theorem State.setLeg_store (n : Nat) (l : Leg) : (s.setLeg n l).store = s.store := rfl
@[simp] theorem State.setLeg_commit (n : Nat) (l : Leg) : (s.setLeg n l).commit = s.commit := rfl
@[simp] theorem State.setLeg_lv (n : Nat) (l : Leg) : (s.setLeg n l).lv = s.lv := rfl
@[simp] theorem State.setLeg_slots (n : Nat) (l : Leg) : (s.setLeg n l).slots = s.slots := rfl
@[simp] theorem State.setLeg_recs (n : Nat) (l : Leg) : (s.setLeg n l).recs = s.recs := rfl
@[simp] theorem State.setLeg_tx (n : Nat) (l : Leg) : (s.setLeg n l).tx = s.tx := rfl
@[simp] theorem State.setLeg_seqs (n : Nat) (l : Leg) : (s.setLeg n l).seqs = s.seqs := rfl
@[simp] theorem State.setLeg_streams (n : Nat) (l : Leg) : (s.setLeg n l).streams = s.streams := rfl
@[simp] theorem State.setLeg_proofs (n : Nat) (l : Leg) : (s.setLeg n l).proofs = s.proofs := rfl
@[simp] theorem State.setLeg_units (n : Nat) (l : Leg) : (s.setLeg n l).units = s.units := rfl
@[simp] theorem State.setLeg_sheaves (n : Nat) (l : Leg) : (s.setLeg n l).sheaves = s.sheaves := rfl
@[simp] theorem State.setLeg_sup (n : Nat) (l : Leg) : (s.setLeg n l).sup = s.sup := rfl
@[simp] theorem State.setLeg_outs (n : Nat) (l : Leg) : (s.setLeg n l).outs = s.outs := rfl
@[simp] theorem State.setLeg_lanes (n : Nat) (l : Leg) : (s.setLeg n l).lanes = s.lanes := rfl
@[simp] theorem State.setLeg_carriers (n : Nat) (l : Leg) : (s.setLeg n l).carriers = s.carriers := rfl
@[simp] theorem State.setLeg_groups (n : Nat) (l : Leg) : (s.setLeg n l).groups = s.groups := rfl
@[simp] theorem State.setLeg_pulses (n : Nat) (l : Leg) : (s.setLeg n l).pulses = s.pulses := rfl
@[simp] theorem State.setLeg_events (n : Nat) (l : Leg) : (s.setLeg n l).events = s.events := rfl
@[simp] theorem State.setLeg_writes (n : Nat) (l : Leg) : (s.setLeg n l).writes = s.writes := rfl
@[simp] theorem State.setLeg_fabricStopped (n : Nat) (l : Leg) : (s.setLeg n l).fabricStopped = s.fabricStopped := rfl
@[simp] theorem State.setLeg_trac (n : Nat) (l : Leg) : (s.setLeg n l).trac = s.trac := rfl
@[simp] theorem State.setLeg_auxI (n : Nat) (l : Leg) : (s.setLeg n l).auxI = s.auxI := rfl
@[simp] theorem State.setLeg_auxB (n : Nat) (l : Leg) : (s.setLeg n l).auxB = s.auxB := rfl
@[simp] theorem State.setLeg_syncIn (n : Nat) (l : Leg) : (s.setLeg n l).syncIn = s.syncIn := rfl
@[simp] theorem State.setLeg_shed (n : Nat) (l : Leg) : (s.setLeg n l).shed = s.shed := rfl
@[simp] theorem State.setLeg_charge (n : Nat) (l : Leg) : (s.setLeg n l).charge = s.charge := rfl
@[simp] theorem State.setLeg_hv (n : Nat) (l : Leg) : (s.setLeg n l).hv = s.hv := rfl
@[simp] theorem State.setLeg_acts (n : Nat) (l : Leg) : (s.setLeg n l).acts = s.acts := rfl
@[simp] theorem State.setLeg_therm (n : Nat) (l : Leg) : (s.setLeg n l).therm = s.therm := rfl
@[simp] theorem State.setLeg_net (n : Nat) (l : Leg) : (s.setLeg n l).net = s.net := rfl
@[simp] theorem State.setLeg_ports (n : Nat) (l : Leg) : (s.setLeg n l).ports = s.ports := rfl
@[simp] theorem State.setLeg_fasts (n : Nat) (l : Leg) : (s.setLeg n l).fasts = s.fasts := rfl
@[simp] theorem State.setLeg_slows (n : Nat) (l : Leg) : (s.setLeg n l).slows = s.slows := rfl
@[simp] theorem State.setLeg_cans (n : Nat) (l : Leg) : (s.setLeg n l).cans = s.cans := rfl
@[simp] theorem State.setLeg_timers (n : Nat) (l : Leg) : (s.setLeg n l).timers = s.timers := rfl
@[simp] theorem State.setLeg_pending (n : Nat) (l : Leg) : (s.setLeg n l).pending = s.pending := rfl

@[simp] theorem State.setSlot_dev (n : Nat) (h : HostSlot) : (s.setSlot n h).dev = s.dev := rfl
@[simp] theorem State.setSlot_time (n : Nat) (h : HostSlot) : (s.setSlot n h).time = s.time := rfl
@[simp] theorem State.setSlot_bind (n : Nat) (h : HostSlot) : (s.setSlot n h).bind = s.bind := rfl
@[simp] theorem State.setSlot_regs (n : Nat) (h : HostSlot) : (s.setSlot n h).regs = s.regs := rfl
@[simp] theorem State.setSlot_shd (n : Nat) (h : HostSlot) : (s.setSlot n h).shd = s.shd := rfl
@[simp] theorem State.setSlot_waits (n : Nat) (h : HostSlot) : (s.setSlot n h).waits = s.waits := rfl
@[simp] theorem State.setSlot_poison (n : Nat) (h : HostSlot) : (s.setSlot n h).poison = s.poison := rfl
@[simp] theorem State.setSlot_badWords (n : Nat) (h : HostSlot) : (s.setSlot n h).badWords = s.badWords := rfl
@[simp] theorem State.setSlot_integrity (n : Nat) (h : HostSlot) : (s.setSlot n h).integrity = s.integrity := rfl
@[simp] theorem State.setSlot_swaps (n : Nat) (h : HostSlot) : (s.setSlot n h).swaps = s.swaps := rfl
@[simp] theorem State.setSlot_store (n : Nat) (h : HostSlot) : (s.setSlot n h).store = s.store := rfl
@[simp] theorem State.setSlot_commit (n : Nat) (h : HostSlot) : (s.setSlot n h).commit = s.commit := rfl
@[simp] theorem State.setSlot_lv (n : Nat) (h : HostSlot) : (s.setSlot n h).lv = s.lv := rfl
@[simp] theorem State.setSlot_recs (n : Nat) (h : HostSlot) : (s.setSlot n h).recs = s.recs := rfl
@[simp] theorem State.setSlot_tx (n : Nat) (h : HostSlot) : (s.setSlot n h).tx = s.tx := rfl
@[simp] theorem State.setSlot_seqs (n : Nat) (h : HostSlot) : (s.setSlot n h).seqs = s.seqs := rfl
@[simp] theorem State.setSlot_streams (n : Nat) (h : HostSlot) : (s.setSlot n h).streams = s.streams := rfl
@[simp] theorem State.setSlot_proofs (n : Nat) (h : HostSlot) : (s.setSlot n h).proofs = s.proofs := rfl
@[simp] theorem State.setSlot_units (n : Nat) (h : HostSlot) : (s.setSlot n h).units = s.units := rfl
@[simp] theorem State.setSlot_sheaves (n : Nat) (h : HostSlot) : (s.setSlot n h).sheaves = s.sheaves := rfl
@[simp] theorem State.setSlot_legs (n : Nat) (h : HostSlot) : (s.setSlot n h).legs = s.legs := rfl
@[simp] theorem State.setSlot_sup (n : Nat) (h : HostSlot) : (s.setSlot n h).sup = s.sup := rfl
@[simp] theorem State.setSlot_outs (n : Nat) (h : HostSlot) : (s.setSlot n h).outs = s.outs := rfl
@[simp] theorem State.setSlot_lanes (n : Nat) (h : HostSlot) : (s.setSlot n h).lanes = s.lanes := rfl
@[simp] theorem State.setSlot_carriers (n : Nat) (h : HostSlot) : (s.setSlot n h).carriers = s.carriers := rfl
@[simp] theorem State.setSlot_groups (n : Nat) (h : HostSlot) : (s.setSlot n h).groups = s.groups := rfl
@[simp] theorem State.setSlot_pulses (n : Nat) (h : HostSlot) : (s.setSlot n h).pulses = s.pulses := rfl
@[simp] theorem State.setSlot_events (n : Nat) (h : HostSlot) : (s.setSlot n h).events = s.events := rfl
@[simp] theorem State.setSlot_writes (n : Nat) (h : HostSlot) : (s.setSlot n h).writes = s.writes := rfl
@[simp] theorem State.setSlot_fabricStopped (n : Nat) (h : HostSlot) : (s.setSlot n h).fabricStopped = s.fabricStopped := rfl
@[simp] theorem State.setSlot_trac (n : Nat) (h : HostSlot) : (s.setSlot n h).trac = s.trac := rfl
@[simp] theorem State.setSlot_auxI (n : Nat) (h : HostSlot) : (s.setSlot n h).auxI = s.auxI := rfl
@[simp] theorem State.setSlot_auxB (n : Nat) (h : HostSlot) : (s.setSlot n h).auxB = s.auxB := rfl
@[simp] theorem State.setSlot_syncIn (n : Nat) (h : HostSlot) : (s.setSlot n h).syncIn = s.syncIn := rfl
@[simp] theorem State.setSlot_shed (n : Nat) (h : HostSlot) : (s.setSlot n h).shed = s.shed := rfl
@[simp] theorem State.setSlot_charge (n : Nat) (h : HostSlot) : (s.setSlot n h).charge = s.charge := rfl
@[simp] theorem State.setSlot_hv (n : Nat) (h : HostSlot) : (s.setSlot n h).hv = s.hv := rfl
@[simp] theorem State.setSlot_acts (n : Nat) (h : HostSlot) : (s.setSlot n h).acts = s.acts := rfl
@[simp] theorem State.setSlot_therm (n : Nat) (h : HostSlot) : (s.setSlot n h).therm = s.therm := rfl
@[simp] theorem State.setSlot_net (n : Nat) (h : HostSlot) : (s.setSlot n h).net = s.net := rfl
@[simp] theorem State.setSlot_ports (n : Nat) (h : HostSlot) : (s.setSlot n h).ports = s.ports := rfl
@[simp] theorem State.setSlot_fasts (n : Nat) (h : HostSlot) : (s.setSlot n h).fasts = s.fasts := rfl
@[simp] theorem State.setSlot_slows (n : Nat) (h : HostSlot) : (s.setSlot n h).slows = s.slows := rfl
@[simp] theorem State.setSlot_cans (n : Nat) (h : HostSlot) : (s.setSlot n h).cans = s.cans := rfl
@[simp] theorem State.setSlot_timers (n : Nat) (h : HostSlot) : (s.setSlot n h).timers = s.timers := rfl
@[simp] theorem State.setSlot_pending (n : Nat) (h : HostSlot) : (s.setSlot n h).pending = s.pending := rfl

@[simp] theorem State.setCmd_dev (i j : Nat) (r : Option CmdRec) : (s.setCmd i j r).dev = s.dev := rfl
@[simp] theorem State.setCmd_time (i j : Nat) (r : Option CmdRec) : (s.setCmd i j r).time = s.time := rfl
@[simp] theorem State.setCmd_bind (i j : Nat) (r : Option CmdRec) : (s.setCmd i j r).bind = s.bind := rfl
@[simp] theorem State.setCmd_regs (i j : Nat) (r : Option CmdRec) : (s.setCmd i j r).regs = s.regs := rfl
@[simp] theorem State.setCmd_shd (i j : Nat) (r : Option CmdRec) : (s.setCmd i j r).shd = s.shd := rfl
@[simp] theorem State.setCmd_waits (i j : Nat) (r : Option CmdRec) : (s.setCmd i j r).waits = s.waits := rfl
@[simp] theorem State.setCmd_poison (i j : Nat) (r : Option CmdRec) : (s.setCmd i j r).poison = s.poison := rfl
@[simp] theorem State.setCmd_badWords (i j : Nat) (r : Option CmdRec) : (s.setCmd i j r).badWords = s.badWords := rfl
@[simp] theorem State.setCmd_integrity (i j : Nat) (r : Option CmdRec) : (s.setCmd i j r).integrity = s.integrity := rfl
@[simp] theorem State.setCmd_swaps (i j : Nat) (r : Option CmdRec) : (s.setCmd i j r).swaps = s.swaps := rfl
@[simp] theorem State.setCmd_store (i j : Nat) (r : Option CmdRec) : (s.setCmd i j r).store = s.store := rfl
@[simp] theorem State.setCmd_commit (i j : Nat) (r : Option CmdRec) : (s.setCmd i j r).commit = s.commit := rfl
@[simp] theorem State.setCmd_lv (i j : Nat) (r : Option CmdRec) : (s.setCmd i j r).lv = s.lv := rfl
@[simp] theorem State.setCmd_slots (i j : Nat) (r : Option CmdRec) : (s.setCmd i j r).slots = s.slots := rfl
@[simp] theorem State.setCmd_tx (i j : Nat) (r : Option CmdRec) : (s.setCmd i j r).tx = s.tx := rfl
@[simp] theorem State.setCmd_seqs (i j : Nat) (r : Option CmdRec) : (s.setCmd i j r).seqs = s.seqs := rfl
@[simp] theorem State.setCmd_streams (i j : Nat) (r : Option CmdRec) : (s.setCmd i j r).streams = s.streams := rfl
@[simp] theorem State.setCmd_proofs (i j : Nat) (r : Option CmdRec) : (s.setCmd i j r).proofs = s.proofs := rfl
@[simp] theorem State.setCmd_units (i j : Nat) (r : Option CmdRec) : (s.setCmd i j r).units = s.units := rfl
@[simp] theorem State.setCmd_sheaves (i j : Nat) (r : Option CmdRec) : (s.setCmd i j r).sheaves = s.sheaves := rfl
@[simp] theorem State.setCmd_legs (i j : Nat) (r : Option CmdRec) : (s.setCmd i j r).legs = s.legs := rfl
@[simp] theorem State.setCmd_sup (i j : Nat) (r : Option CmdRec) : (s.setCmd i j r).sup = s.sup := rfl
@[simp] theorem State.setCmd_outs (i j : Nat) (r : Option CmdRec) : (s.setCmd i j r).outs = s.outs := rfl
@[simp] theorem State.setCmd_lanes (i j : Nat) (r : Option CmdRec) : (s.setCmd i j r).lanes = s.lanes := rfl
@[simp] theorem State.setCmd_carriers (i j : Nat) (r : Option CmdRec) : (s.setCmd i j r).carriers = s.carriers := rfl
@[simp] theorem State.setCmd_groups (i j : Nat) (r : Option CmdRec) : (s.setCmd i j r).groups = s.groups := rfl
@[simp] theorem State.setCmd_pulses (i j : Nat) (r : Option CmdRec) : (s.setCmd i j r).pulses = s.pulses := rfl
@[simp] theorem State.setCmd_events (i j : Nat) (r : Option CmdRec) : (s.setCmd i j r).events = s.events := rfl
@[simp] theorem State.setCmd_writes (i j : Nat) (r : Option CmdRec) : (s.setCmd i j r).writes = s.writes := rfl
@[simp] theorem State.setCmd_fabricStopped (i j : Nat) (r : Option CmdRec) : (s.setCmd i j r).fabricStopped = s.fabricStopped := rfl
@[simp] theorem State.setCmd_trac (i j : Nat) (r : Option CmdRec) : (s.setCmd i j r).trac = s.trac := rfl
@[simp] theorem State.setCmd_auxI (i j : Nat) (r : Option CmdRec) : (s.setCmd i j r).auxI = s.auxI := rfl
@[simp] theorem State.setCmd_auxB (i j : Nat) (r : Option CmdRec) : (s.setCmd i j r).auxB = s.auxB := rfl
@[simp] theorem State.setCmd_syncIn (i j : Nat) (r : Option CmdRec) : (s.setCmd i j r).syncIn = s.syncIn := rfl
@[simp] theorem State.setCmd_shed (i j : Nat) (r : Option CmdRec) : (s.setCmd i j r).shed = s.shed := rfl
@[simp] theorem State.setCmd_charge (i j : Nat) (r : Option CmdRec) : (s.setCmd i j r).charge = s.charge := rfl
@[simp] theorem State.setCmd_hv (i j : Nat) (r : Option CmdRec) : (s.setCmd i j r).hv = s.hv := rfl
@[simp] theorem State.setCmd_acts (i j : Nat) (r : Option CmdRec) : (s.setCmd i j r).acts = s.acts := rfl
@[simp] theorem State.setCmd_therm (i j : Nat) (r : Option CmdRec) : (s.setCmd i j r).therm = s.therm := rfl
@[simp] theorem State.setCmd_net (i j : Nat) (r : Option CmdRec) : (s.setCmd i j r).net = s.net := rfl
@[simp] theorem State.setCmd_ports (i j : Nat) (r : Option CmdRec) : (s.setCmd i j r).ports = s.ports := rfl
@[simp] theorem State.setCmd_fasts (i j : Nat) (r : Option CmdRec) : (s.setCmd i j r).fasts = s.fasts := rfl
@[simp] theorem State.setCmd_slows (i j : Nat) (r : Option CmdRec) : (s.setCmd i j r).slows = s.slows := rfl
@[simp] theorem State.setCmd_cans (i j : Nat) (r : Option CmdRec) : (s.setCmd i j r).cans = s.cans := rfl
@[simp] theorem State.setCmd_timers (i j : Nat) (r : Option CmdRec) : (s.setCmd i j r).timers = s.timers := rfl
@[simp] theorem State.setCmd_pending (i j : Nat) (r : Option CmdRec) : (s.setCmd i j r).pending = s.pending := rfl

@[simp] theorem State.setOut_dev (n : Nat) (o : Output) : (s.setOut n o).dev = s.dev := rfl
@[simp] theorem State.setOut_time (n : Nat) (o : Output) : (s.setOut n o).time = s.time := rfl
@[simp] theorem State.setOut_bind (n : Nat) (o : Output) : (s.setOut n o).bind = s.bind := rfl
@[simp] theorem State.setOut_regs (n : Nat) (o : Output) : (s.setOut n o).regs = s.regs := rfl
@[simp] theorem State.setOut_shd (n : Nat) (o : Output) : (s.setOut n o).shd = s.shd := rfl
@[simp] theorem State.setOut_waits (n : Nat) (o : Output) : (s.setOut n o).waits = s.waits := rfl
@[simp] theorem State.setOut_poison (n : Nat) (o : Output) : (s.setOut n o).poison = s.poison := rfl
@[simp] theorem State.setOut_badWords (n : Nat) (o : Output) : (s.setOut n o).badWords = s.badWords := rfl
@[simp] theorem State.setOut_integrity (n : Nat) (o : Output) : (s.setOut n o).integrity = s.integrity := rfl
@[simp] theorem State.setOut_swaps (n : Nat) (o : Output) : (s.setOut n o).swaps = s.swaps := rfl
@[simp] theorem State.setOut_store (n : Nat) (o : Output) : (s.setOut n o).store = s.store := rfl
@[simp] theorem State.setOut_commit (n : Nat) (o : Output) : (s.setOut n o).commit = s.commit := rfl
@[simp] theorem State.setOut_lv (n : Nat) (o : Output) : (s.setOut n o).lv = s.lv := rfl
@[simp] theorem State.setOut_slots (n : Nat) (o : Output) : (s.setOut n o).slots = s.slots := rfl
@[simp] theorem State.setOut_recs (n : Nat) (o : Output) : (s.setOut n o).recs = s.recs := rfl
@[simp] theorem State.setOut_tx (n : Nat) (o : Output) : (s.setOut n o).tx = s.tx := rfl
@[simp] theorem State.setOut_seqs (n : Nat) (o : Output) : (s.setOut n o).seqs = s.seqs := rfl
@[simp] theorem State.setOut_streams (n : Nat) (o : Output) : (s.setOut n o).streams = s.streams := rfl
@[simp] theorem State.setOut_proofs (n : Nat) (o : Output) : (s.setOut n o).proofs = s.proofs := rfl
@[simp] theorem State.setOut_units (n : Nat) (o : Output) : (s.setOut n o).units = s.units := rfl
@[simp] theorem State.setOut_sheaves (n : Nat) (o : Output) : (s.setOut n o).sheaves = s.sheaves := rfl
@[simp] theorem State.setOut_legs (n : Nat) (o : Output) : (s.setOut n o).legs = s.legs := rfl
@[simp] theorem State.setOut_sup (n : Nat) (o : Output) : (s.setOut n o).sup = s.sup := rfl
@[simp] theorem State.setOut_lanes (n : Nat) (o : Output) : (s.setOut n o).lanes = s.lanes := rfl
@[simp] theorem State.setOut_carriers (n : Nat) (o : Output) : (s.setOut n o).carriers = s.carriers := rfl
@[simp] theorem State.setOut_groups (n : Nat) (o : Output) : (s.setOut n o).groups = s.groups := rfl
@[simp] theorem State.setOut_pulses (n : Nat) (o : Output) : (s.setOut n o).pulses = s.pulses := rfl
@[simp] theorem State.setOut_events (n : Nat) (o : Output) : (s.setOut n o).events = s.events := rfl
@[simp] theorem State.setOut_writes (n : Nat) (o : Output) : (s.setOut n o).writes = s.writes := rfl
@[simp] theorem State.setOut_fabricStopped (n : Nat) (o : Output) : (s.setOut n o).fabricStopped = s.fabricStopped := rfl
@[simp] theorem State.setOut_trac (n : Nat) (o : Output) : (s.setOut n o).trac = s.trac := rfl
@[simp] theorem State.setOut_auxI (n : Nat) (o : Output) : (s.setOut n o).auxI = s.auxI := rfl
@[simp] theorem State.setOut_auxB (n : Nat) (o : Output) : (s.setOut n o).auxB = s.auxB := rfl
@[simp] theorem State.setOut_syncIn (n : Nat) (o : Output) : (s.setOut n o).syncIn = s.syncIn := rfl
@[simp] theorem State.setOut_shed (n : Nat) (o : Output) : (s.setOut n o).shed = s.shed := rfl
@[simp] theorem State.setOut_charge (n : Nat) (o : Output) : (s.setOut n o).charge = s.charge := rfl
@[simp] theorem State.setOut_hv (n : Nat) (o : Output) : (s.setOut n o).hv = s.hv := rfl
@[simp] theorem State.setOut_acts (n : Nat) (o : Output) : (s.setOut n o).acts = s.acts := rfl
@[simp] theorem State.setOut_therm (n : Nat) (o : Output) : (s.setOut n o).therm = s.therm := rfl
@[simp] theorem State.setOut_net (n : Nat) (o : Output) : (s.setOut n o).net = s.net := rfl
@[simp] theorem State.setOut_ports (n : Nat) (o : Output) : (s.setOut n o).ports = s.ports := rfl
@[simp] theorem State.setOut_fasts (n : Nat) (o : Output) : (s.setOut n o).fasts = s.fasts := rfl
@[simp] theorem State.setOut_slows (n : Nat) (o : Output) : (s.setOut n o).slows = s.slows := rfl
@[simp] theorem State.setOut_cans (n : Nat) (o : Output) : (s.setOut n o).cans = s.cans := rfl
@[simp] theorem State.setOut_timers (n : Nat) (o : Output) : (s.setOut n o).timers = s.timers := rfl
@[simp] theorem State.setOut_pending (n : Nat) (o : Output) : (s.setOut n o).pending = s.pending := rfl

@[simp] theorem State.setLane_dev (n : Nat) (l : Lane) : (s.setLane n l).dev = s.dev := rfl
@[simp] theorem State.setLane_time (n : Nat) (l : Lane) : (s.setLane n l).time = s.time := rfl
@[simp] theorem State.setLane_bind (n : Nat) (l : Lane) : (s.setLane n l).bind = s.bind := rfl
@[simp] theorem State.setLane_regs (n : Nat) (l : Lane) : (s.setLane n l).regs = s.regs := rfl
@[simp] theorem State.setLane_shd (n : Nat) (l : Lane) : (s.setLane n l).shd = s.shd := rfl
@[simp] theorem State.setLane_waits (n : Nat) (l : Lane) : (s.setLane n l).waits = s.waits := rfl
@[simp] theorem State.setLane_poison (n : Nat) (l : Lane) : (s.setLane n l).poison = s.poison := rfl
@[simp] theorem State.setLane_badWords (n : Nat) (l : Lane) : (s.setLane n l).badWords = s.badWords := rfl
@[simp] theorem State.setLane_integrity (n : Nat) (l : Lane) : (s.setLane n l).integrity = s.integrity := rfl
@[simp] theorem State.setLane_swaps (n : Nat) (l : Lane) : (s.setLane n l).swaps = s.swaps := rfl
@[simp] theorem State.setLane_store (n : Nat) (l : Lane) : (s.setLane n l).store = s.store := rfl
@[simp] theorem State.setLane_commit (n : Nat) (l : Lane) : (s.setLane n l).commit = s.commit := rfl
@[simp] theorem State.setLane_lv (n : Nat) (l : Lane) : (s.setLane n l).lv = s.lv := rfl
@[simp] theorem State.setLane_slots (n : Nat) (l : Lane) : (s.setLane n l).slots = s.slots := rfl
@[simp] theorem State.setLane_recs (n : Nat) (l : Lane) : (s.setLane n l).recs = s.recs := rfl
@[simp] theorem State.setLane_tx (n : Nat) (l : Lane) : (s.setLane n l).tx = s.tx := rfl
@[simp] theorem State.setLane_seqs (n : Nat) (l : Lane) : (s.setLane n l).seqs = s.seqs := rfl
@[simp] theorem State.setLane_streams (n : Nat) (l : Lane) : (s.setLane n l).streams = s.streams := rfl
@[simp] theorem State.setLane_proofs (n : Nat) (l : Lane) : (s.setLane n l).proofs = s.proofs := rfl
@[simp] theorem State.setLane_units (n : Nat) (l : Lane) : (s.setLane n l).units = s.units := rfl
@[simp] theorem State.setLane_sheaves (n : Nat) (l : Lane) : (s.setLane n l).sheaves = s.sheaves := rfl
@[simp] theorem State.setLane_legs (n : Nat) (l : Lane) : (s.setLane n l).legs = s.legs := rfl
@[simp] theorem State.setLane_sup (n : Nat) (l : Lane) : (s.setLane n l).sup = s.sup := rfl
@[simp] theorem State.setLane_outs (n : Nat) (l : Lane) : (s.setLane n l).outs = s.outs := rfl
@[simp] theorem State.setLane_carriers (n : Nat) (l : Lane) : (s.setLane n l).carriers = s.carriers := rfl
@[simp] theorem State.setLane_groups (n : Nat) (l : Lane) : (s.setLane n l).groups = s.groups := rfl
@[simp] theorem State.setLane_pulses (n : Nat) (l : Lane) : (s.setLane n l).pulses = s.pulses := rfl
@[simp] theorem State.setLane_events (n : Nat) (l : Lane) : (s.setLane n l).events = s.events := rfl
@[simp] theorem State.setLane_writes (n : Nat) (l : Lane) : (s.setLane n l).writes = s.writes := rfl
@[simp] theorem State.setLane_fabricStopped (n : Nat) (l : Lane) : (s.setLane n l).fabricStopped = s.fabricStopped := rfl
@[simp] theorem State.setLane_trac (n : Nat) (l : Lane) : (s.setLane n l).trac = s.trac := rfl
@[simp] theorem State.setLane_auxI (n : Nat) (l : Lane) : (s.setLane n l).auxI = s.auxI := rfl
@[simp] theorem State.setLane_auxB (n : Nat) (l : Lane) : (s.setLane n l).auxB = s.auxB := rfl
@[simp] theorem State.setLane_syncIn (n : Nat) (l : Lane) : (s.setLane n l).syncIn = s.syncIn := rfl
@[simp] theorem State.setLane_shed (n : Nat) (l : Lane) : (s.setLane n l).shed = s.shed := rfl
@[simp] theorem State.setLane_charge (n : Nat) (l : Lane) : (s.setLane n l).charge = s.charge := rfl
@[simp] theorem State.setLane_hv (n : Nat) (l : Lane) : (s.setLane n l).hv = s.hv := rfl
@[simp] theorem State.setLane_acts (n : Nat) (l : Lane) : (s.setLane n l).acts = s.acts := rfl
@[simp] theorem State.setLane_therm (n : Nat) (l : Lane) : (s.setLane n l).therm = s.therm := rfl
@[simp] theorem State.setLane_net (n : Nat) (l : Lane) : (s.setLane n l).net = s.net := rfl
@[simp] theorem State.setLane_ports (n : Nat) (l : Lane) : (s.setLane n l).ports = s.ports := rfl
@[simp] theorem State.setLane_fasts (n : Nat) (l : Lane) : (s.setLane n l).fasts = s.fasts := rfl
@[simp] theorem State.setLane_slows (n : Nat) (l : Lane) : (s.setLane n l).slows = s.slows := rfl
@[simp] theorem State.setLane_cans (n : Nat) (l : Lane) : (s.setLane n l).cans = s.cans := rfl
@[simp] theorem State.setLane_timers (n : Nat) (l : Lane) : (s.setLane n l).timers = s.timers := rfl
@[simp] theorem State.setLane_pending (n : Nat) (l : Lane) : (s.setLane n l).pending = s.pending := rfl

@[simp] theorem State.setCarrier_dev (n : Nat) (c : Carrier) : (s.setCarrier n c).dev = s.dev := rfl
@[simp] theorem State.setCarrier_time (n : Nat) (c : Carrier) : (s.setCarrier n c).time = s.time := rfl
@[simp] theorem State.setCarrier_bind (n : Nat) (c : Carrier) : (s.setCarrier n c).bind = s.bind := rfl
@[simp] theorem State.setCarrier_regs (n : Nat) (c : Carrier) : (s.setCarrier n c).regs = s.regs := rfl
@[simp] theorem State.setCarrier_shd (n : Nat) (c : Carrier) : (s.setCarrier n c).shd = s.shd := rfl
@[simp] theorem State.setCarrier_waits (n : Nat) (c : Carrier) : (s.setCarrier n c).waits = s.waits := rfl
@[simp] theorem State.setCarrier_poison (n : Nat) (c : Carrier) : (s.setCarrier n c).poison = s.poison := rfl
@[simp] theorem State.setCarrier_badWords (n : Nat) (c : Carrier) : (s.setCarrier n c).badWords = s.badWords := rfl
@[simp] theorem State.setCarrier_integrity (n : Nat) (c : Carrier) : (s.setCarrier n c).integrity = s.integrity := rfl
@[simp] theorem State.setCarrier_swaps (n : Nat) (c : Carrier) : (s.setCarrier n c).swaps = s.swaps := rfl
@[simp] theorem State.setCarrier_store (n : Nat) (c : Carrier) : (s.setCarrier n c).store = s.store := rfl
@[simp] theorem State.setCarrier_commit (n : Nat) (c : Carrier) : (s.setCarrier n c).commit = s.commit := rfl
@[simp] theorem State.setCarrier_lv (n : Nat) (c : Carrier) : (s.setCarrier n c).lv = s.lv := rfl
@[simp] theorem State.setCarrier_slots (n : Nat) (c : Carrier) : (s.setCarrier n c).slots = s.slots := rfl
@[simp] theorem State.setCarrier_recs (n : Nat) (c : Carrier) : (s.setCarrier n c).recs = s.recs := rfl
@[simp] theorem State.setCarrier_tx (n : Nat) (c : Carrier) : (s.setCarrier n c).tx = s.tx := rfl
@[simp] theorem State.setCarrier_seqs (n : Nat) (c : Carrier) : (s.setCarrier n c).seqs = s.seqs := rfl
@[simp] theorem State.setCarrier_streams (n : Nat) (c : Carrier) : (s.setCarrier n c).streams = s.streams := rfl
@[simp] theorem State.setCarrier_proofs (n : Nat) (c : Carrier) : (s.setCarrier n c).proofs = s.proofs := rfl
@[simp] theorem State.setCarrier_units (n : Nat) (c : Carrier) : (s.setCarrier n c).units = s.units := rfl
@[simp] theorem State.setCarrier_sheaves (n : Nat) (c : Carrier) : (s.setCarrier n c).sheaves = s.sheaves := rfl
@[simp] theorem State.setCarrier_legs (n : Nat) (c : Carrier) : (s.setCarrier n c).legs = s.legs := rfl
@[simp] theorem State.setCarrier_sup (n : Nat) (c : Carrier) : (s.setCarrier n c).sup = s.sup := rfl
@[simp] theorem State.setCarrier_outs (n : Nat) (c : Carrier) : (s.setCarrier n c).outs = s.outs := rfl
@[simp] theorem State.setCarrier_lanes (n : Nat) (c : Carrier) : (s.setCarrier n c).lanes = s.lanes := rfl
@[simp] theorem State.setCarrier_groups (n : Nat) (c : Carrier) : (s.setCarrier n c).groups = s.groups := rfl
@[simp] theorem State.setCarrier_pulses (n : Nat) (c : Carrier) : (s.setCarrier n c).pulses = s.pulses := rfl
@[simp] theorem State.setCarrier_events (n : Nat) (c : Carrier) : (s.setCarrier n c).events = s.events := rfl
@[simp] theorem State.setCarrier_writes (n : Nat) (c : Carrier) : (s.setCarrier n c).writes = s.writes := rfl
@[simp] theorem State.setCarrier_fabricStopped (n : Nat) (c : Carrier) : (s.setCarrier n c).fabricStopped = s.fabricStopped := rfl
@[simp] theorem State.setCarrier_trac (n : Nat) (c : Carrier) : (s.setCarrier n c).trac = s.trac := rfl
@[simp] theorem State.setCarrier_auxI (n : Nat) (c : Carrier) : (s.setCarrier n c).auxI = s.auxI := rfl
@[simp] theorem State.setCarrier_auxB (n : Nat) (c : Carrier) : (s.setCarrier n c).auxB = s.auxB := rfl
@[simp] theorem State.setCarrier_syncIn (n : Nat) (c : Carrier) : (s.setCarrier n c).syncIn = s.syncIn := rfl
@[simp] theorem State.setCarrier_shed (n : Nat) (c : Carrier) : (s.setCarrier n c).shed = s.shed := rfl
@[simp] theorem State.setCarrier_charge (n : Nat) (c : Carrier) : (s.setCarrier n c).charge = s.charge := rfl
@[simp] theorem State.setCarrier_hv (n : Nat) (c : Carrier) : (s.setCarrier n c).hv = s.hv := rfl
@[simp] theorem State.setCarrier_acts (n : Nat) (c : Carrier) : (s.setCarrier n c).acts = s.acts := rfl
@[simp] theorem State.setCarrier_therm (n : Nat) (c : Carrier) : (s.setCarrier n c).therm = s.therm := rfl
@[simp] theorem State.setCarrier_net (n : Nat) (c : Carrier) : (s.setCarrier n c).net = s.net := rfl
@[simp] theorem State.setCarrier_ports (n : Nat) (c : Carrier) : (s.setCarrier n c).ports = s.ports := rfl
@[simp] theorem State.setCarrier_fasts (n : Nat) (c : Carrier) : (s.setCarrier n c).fasts = s.fasts := rfl
@[simp] theorem State.setCarrier_slows (n : Nat) (c : Carrier) : (s.setCarrier n c).slows = s.slows := rfl
@[simp] theorem State.setCarrier_cans (n : Nat) (c : Carrier) : (s.setCarrier n c).cans = s.cans := rfl
@[simp] theorem State.setCarrier_timers (n : Nat) (c : Carrier) : (s.setCarrier n c).timers = s.timers := rfl
@[simp] theorem State.setCarrier_pending (n : Nat) (c : Carrier) : (s.setCarrier n c).pending = s.pending := rfl

@[simp] theorem State.setGroup_dev (n g : Nat) (x : Group) : (s.setGroup n g x).dev = s.dev := rfl
@[simp] theorem State.setGroup_time (n g : Nat) (x : Group) : (s.setGroup n g x).time = s.time := rfl
@[simp] theorem State.setGroup_bind (n g : Nat) (x : Group) : (s.setGroup n g x).bind = s.bind := rfl
@[simp] theorem State.setGroup_regs (n g : Nat) (x : Group) : (s.setGroup n g x).regs = s.regs := rfl
@[simp] theorem State.setGroup_shd (n g : Nat) (x : Group) : (s.setGroup n g x).shd = s.shd := rfl
@[simp] theorem State.setGroup_waits (n g : Nat) (x : Group) : (s.setGroup n g x).waits = s.waits := rfl
@[simp] theorem State.setGroup_poison (n g : Nat) (x : Group) : (s.setGroup n g x).poison = s.poison := rfl
@[simp] theorem State.setGroup_badWords (n g : Nat) (x : Group) : (s.setGroup n g x).badWords = s.badWords := rfl
@[simp] theorem State.setGroup_integrity (n g : Nat) (x : Group) : (s.setGroup n g x).integrity = s.integrity := rfl
@[simp] theorem State.setGroup_swaps (n g : Nat) (x : Group) : (s.setGroup n g x).swaps = s.swaps := rfl
@[simp] theorem State.setGroup_store (n g : Nat) (x : Group) : (s.setGroup n g x).store = s.store := rfl
@[simp] theorem State.setGroup_commit (n g : Nat) (x : Group) : (s.setGroup n g x).commit = s.commit := rfl
@[simp] theorem State.setGroup_lv (n g : Nat) (x : Group) : (s.setGroup n g x).lv = s.lv := rfl
@[simp] theorem State.setGroup_slots (n g : Nat) (x : Group) : (s.setGroup n g x).slots = s.slots := rfl
@[simp] theorem State.setGroup_recs (n g : Nat) (x : Group) : (s.setGroup n g x).recs = s.recs := rfl
@[simp] theorem State.setGroup_tx (n g : Nat) (x : Group) : (s.setGroup n g x).tx = s.tx := rfl
@[simp] theorem State.setGroup_seqs (n g : Nat) (x : Group) : (s.setGroup n g x).seqs = s.seqs := rfl
@[simp] theorem State.setGroup_streams (n g : Nat) (x : Group) : (s.setGroup n g x).streams = s.streams := rfl
@[simp] theorem State.setGroup_proofs (n g : Nat) (x : Group) : (s.setGroup n g x).proofs = s.proofs := rfl
@[simp] theorem State.setGroup_units (n g : Nat) (x : Group) : (s.setGroup n g x).units = s.units := rfl
@[simp] theorem State.setGroup_sheaves (n g : Nat) (x : Group) : (s.setGroup n g x).sheaves = s.sheaves := rfl
@[simp] theorem State.setGroup_legs (n g : Nat) (x : Group) : (s.setGroup n g x).legs = s.legs := rfl
@[simp] theorem State.setGroup_sup (n g : Nat) (x : Group) : (s.setGroup n g x).sup = s.sup := rfl
@[simp] theorem State.setGroup_outs (n g : Nat) (x : Group) : (s.setGroup n g x).outs = s.outs := rfl
@[simp] theorem State.setGroup_lanes (n g : Nat) (x : Group) : (s.setGroup n g x).lanes = s.lanes := rfl
@[simp] theorem State.setGroup_carriers (n g : Nat) (x : Group) : (s.setGroup n g x).carriers = s.carriers := rfl
@[simp] theorem State.setGroup_pulses (n g : Nat) (x : Group) : (s.setGroup n g x).pulses = s.pulses := rfl
@[simp] theorem State.setGroup_events (n g : Nat) (x : Group) : (s.setGroup n g x).events = s.events := rfl
@[simp] theorem State.setGroup_writes (n g : Nat) (x : Group) : (s.setGroup n g x).writes = s.writes := rfl
@[simp] theorem State.setGroup_fabricStopped (n g : Nat) (x : Group) : (s.setGroup n g x).fabricStopped = s.fabricStopped := rfl
@[simp] theorem State.setGroup_trac (n g : Nat) (x : Group) : (s.setGroup n g x).trac = s.trac := rfl
@[simp] theorem State.setGroup_auxI (n g : Nat) (x : Group) : (s.setGroup n g x).auxI = s.auxI := rfl
@[simp] theorem State.setGroup_auxB (n g : Nat) (x : Group) : (s.setGroup n g x).auxB = s.auxB := rfl
@[simp] theorem State.setGroup_syncIn (n g : Nat) (x : Group) : (s.setGroup n g x).syncIn = s.syncIn := rfl
@[simp] theorem State.setGroup_shed (n g : Nat) (x : Group) : (s.setGroup n g x).shed = s.shed := rfl
@[simp] theorem State.setGroup_charge (n g : Nat) (x : Group) : (s.setGroup n g x).charge = s.charge := rfl
@[simp] theorem State.setGroup_hv (n g : Nat) (x : Group) : (s.setGroup n g x).hv = s.hv := rfl
@[simp] theorem State.setGroup_acts (n g : Nat) (x : Group) : (s.setGroup n g x).acts = s.acts := rfl
@[simp] theorem State.setGroup_therm (n g : Nat) (x : Group) : (s.setGroup n g x).therm = s.therm := rfl
@[simp] theorem State.setGroup_net (n g : Nat) (x : Group) : (s.setGroup n g x).net = s.net := rfl
@[simp] theorem State.setGroup_ports (n g : Nat) (x : Group) : (s.setGroup n g x).ports = s.ports := rfl
@[simp] theorem State.setGroup_fasts (n g : Nat) (x : Group) : (s.setGroup n g x).fasts = s.fasts := rfl
@[simp] theorem State.setGroup_slows (n g : Nat) (x : Group) : (s.setGroup n g x).slows = s.slows := rfl
@[simp] theorem State.setGroup_cans (n g : Nat) (x : Group) : (s.setGroup n g x).cans = s.cans := rfl
@[simp] theorem State.setGroup_timers (n g : Nat) (x : Group) : (s.setGroup n g x).timers = s.timers := rfl
@[simp] theorem State.setGroup_pending (n g : Nat) (x : Group) : (s.setGroup n g x).pending = s.pending := rfl

@[simp] theorem State.setPulse_dev (n : Nat) (x : Pulse) : (s.setPulse n x).dev = s.dev := rfl
@[simp] theorem State.setPulse_time (n : Nat) (x : Pulse) : (s.setPulse n x).time = s.time := rfl
@[simp] theorem State.setPulse_bind (n : Nat) (x : Pulse) : (s.setPulse n x).bind = s.bind := rfl
@[simp] theorem State.setPulse_regs (n : Nat) (x : Pulse) : (s.setPulse n x).regs = s.regs := rfl
@[simp] theorem State.setPulse_shd (n : Nat) (x : Pulse) : (s.setPulse n x).shd = s.shd := rfl
@[simp] theorem State.setPulse_waits (n : Nat) (x : Pulse) : (s.setPulse n x).waits = s.waits := rfl
@[simp] theorem State.setPulse_poison (n : Nat) (x : Pulse) : (s.setPulse n x).poison = s.poison := rfl
@[simp] theorem State.setPulse_badWords (n : Nat) (x : Pulse) : (s.setPulse n x).badWords = s.badWords := rfl
@[simp] theorem State.setPulse_integrity (n : Nat) (x : Pulse) : (s.setPulse n x).integrity = s.integrity := rfl
@[simp] theorem State.setPulse_swaps (n : Nat) (x : Pulse) : (s.setPulse n x).swaps = s.swaps := rfl
@[simp] theorem State.setPulse_store (n : Nat) (x : Pulse) : (s.setPulse n x).store = s.store := rfl
@[simp] theorem State.setPulse_commit (n : Nat) (x : Pulse) : (s.setPulse n x).commit = s.commit := rfl
@[simp] theorem State.setPulse_lv (n : Nat) (x : Pulse) : (s.setPulse n x).lv = s.lv := rfl
@[simp] theorem State.setPulse_slots (n : Nat) (x : Pulse) : (s.setPulse n x).slots = s.slots := rfl
@[simp] theorem State.setPulse_recs (n : Nat) (x : Pulse) : (s.setPulse n x).recs = s.recs := rfl
@[simp] theorem State.setPulse_tx (n : Nat) (x : Pulse) : (s.setPulse n x).tx = s.tx := rfl
@[simp] theorem State.setPulse_seqs (n : Nat) (x : Pulse) : (s.setPulse n x).seqs = s.seqs := rfl
@[simp] theorem State.setPulse_streams (n : Nat) (x : Pulse) : (s.setPulse n x).streams = s.streams := rfl
@[simp] theorem State.setPulse_proofs (n : Nat) (x : Pulse) : (s.setPulse n x).proofs = s.proofs := rfl
@[simp] theorem State.setPulse_units (n : Nat) (x : Pulse) : (s.setPulse n x).units = s.units := rfl
@[simp] theorem State.setPulse_sheaves (n : Nat) (x : Pulse) : (s.setPulse n x).sheaves = s.sheaves := rfl
@[simp] theorem State.setPulse_legs (n : Nat) (x : Pulse) : (s.setPulse n x).legs = s.legs := rfl
@[simp] theorem State.setPulse_sup (n : Nat) (x : Pulse) : (s.setPulse n x).sup = s.sup := rfl
@[simp] theorem State.setPulse_outs (n : Nat) (x : Pulse) : (s.setPulse n x).outs = s.outs := rfl
@[simp] theorem State.setPulse_lanes (n : Nat) (x : Pulse) : (s.setPulse n x).lanes = s.lanes := rfl
@[simp] theorem State.setPulse_carriers (n : Nat) (x : Pulse) : (s.setPulse n x).carriers = s.carriers := rfl
@[simp] theorem State.setPulse_groups (n : Nat) (x : Pulse) : (s.setPulse n x).groups = s.groups := rfl
@[simp] theorem State.setPulse_events (n : Nat) (x : Pulse) : (s.setPulse n x).events = s.events := rfl
@[simp] theorem State.setPulse_writes (n : Nat) (x : Pulse) : (s.setPulse n x).writes = s.writes := rfl
@[simp] theorem State.setPulse_fabricStopped (n : Nat) (x : Pulse) : (s.setPulse n x).fabricStopped = s.fabricStopped := rfl
@[simp] theorem State.setPulse_trac (n : Nat) (x : Pulse) : (s.setPulse n x).trac = s.trac := rfl
@[simp] theorem State.setPulse_auxI (n : Nat) (x : Pulse) : (s.setPulse n x).auxI = s.auxI := rfl
@[simp] theorem State.setPulse_auxB (n : Nat) (x : Pulse) : (s.setPulse n x).auxB = s.auxB := rfl
@[simp] theorem State.setPulse_syncIn (n : Nat) (x : Pulse) : (s.setPulse n x).syncIn = s.syncIn := rfl
@[simp] theorem State.setPulse_shed (n : Nat) (x : Pulse) : (s.setPulse n x).shed = s.shed := rfl
@[simp] theorem State.setPulse_charge (n : Nat) (x : Pulse) : (s.setPulse n x).charge = s.charge := rfl
@[simp] theorem State.setPulse_hv (n : Nat) (x : Pulse) : (s.setPulse n x).hv = s.hv := rfl
@[simp] theorem State.setPulse_acts (n : Nat) (x : Pulse) : (s.setPulse n x).acts = s.acts := rfl
@[simp] theorem State.setPulse_therm (n : Nat) (x : Pulse) : (s.setPulse n x).therm = s.therm := rfl
@[simp] theorem State.setPulse_net (n : Nat) (x : Pulse) : (s.setPulse n x).net = s.net := rfl
@[simp] theorem State.setPulse_ports (n : Nat) (x : Pulse) : (s.setPulse n x).ports = s.ports := rfl
@[simp] theorem State.setPulse_fasts (n : Nat) (x : Pulse) : (s.setPulse n x).fasts = s.fasts := rfl
@[simp] theorem State.setPulse_slows (n : Nat) (x : Pulse) : (s.setPulse n x).slows = s.slows := rfl
@[simp] theorem State.setPulse_cans (n : Nat) (x : Pulse) : (s.setPulse n x).cans = s.cans := rfl
@[simp] theorem State.setPulse_timers (n : Nat) (x : Pulse) : (s.setPulse n x).timers = s.timers := rfl
@[simp] theorem State.setPulse_pending (n : Nat) (x : Pulse) : (s.setPulse n x).pending = s.pending := rfl

@[simp] theorem State.setPort_dev (n : Nat) (p : Port) : (s.setPort n p).dev = s.dev := rfl
@[simp] theorem State.setPort_time (n : Nat) (p : Port) : (s.setPort n p).time = s.time := rfl
@[simp] theorem State.setPort_bind (n : Nat) (p : Port) : (s.setPort n p).bind = s.bind := rfl
@[simp] theorem State.setPort_regs (n : Nat) (p : Port) : (s.setPort n p).regs = s.regs := rfl
@[simp] theorem State.setPort_shd (n : Nat) (p : Port) : (s.setPort n p).shd = s.shd := rfl
@[simp] theorem State.setPort_waits (n : Nat) (p : Port) : (s.setPort n p).waits = s.waits := rfl
@[simp] theorem State.setPort_poison (n : Nat) (p : Port) : (s.setPort n p).poison = s.poison := rfl
@[simp] theorem State.setPort_badWords (n : Nat) (p : Port) : (s.setPort n p).badWords = s.badWords := rfl
@[simp] theorem State.setPort_integrity (n : Nat) (p : Port) : (s.setPort n p).integrity = s.integrity := rfl
@[simp] theorem State.setPort_swaps (n : Nat) (p : Port) : (s.setPort n p).swaps = s.swaps := rfl
@[simp] theorem State.setPort_store (n : Nat) (p : Port) : (s.setPort n p).store = s.store := rfl
@[simp] theorem State.setPort_commit (n : Nat) (p : Port) : (s.setPort n p).commit = s.commit := rfl
@[simp] theorem State.setPort_lv (n : Nat) (p : Port) : (s.setPort n p).lv = s.lv := rfl
@[simp] theorem State.setPort_slots (n : Nat) (p : Port) : (s.setPort n p).slots = s.slots := rfl
@[simp] theorem State.setPort_recs (n : Nat) (p : Port) : (s.setPort n p).recs = s.recs := rfl
@[simp] theorem State.setPort_tx (n : Nat) (p : Port) : (s.setPort n p).tx = s.tx := rfl
@[simp] theorem State.setPort_seqs (n : Nat) (p : Port) : (s.setPort n p).seqs = s.seqs := rfl
@[simp] theorem State.setPort_streams (n : Nat) (p : Port) : (s.setPort n p).streams = s.streams := rfl
@[simp] theorem State.setPort_proofs (n : Nat) (p : Port) : (s.setPort n p).proofs = s.proofs := rfl
@[simp] theorem State.setPort_units (n : Nat) (p : Port) : (s.setPort n p).units = s.units := rfl
@[simp] theorem State.setPort_sheaves (n : Nat) (p : Port) : (s.setPort n p).sheaves = s.sheaves := rfl
@[simp] theorem State.setPort_legs (n : Nat) (p : Port) : (s.setPort n p).legs = s.legs := rfl
@[simp] theorem State.setPort_sup (n : Nat) (p : Port) : (s.setPort n p).sup = s.sup := rfl
@[simp] theorem State.setPort_outs (n : Nat) (p : Port) : (s.setPort n p).outs = s.outs := rfl
@[simp] theorem State.setPort_lanes (n : Nat) (p : Port) : (s.setPort n p).lanes = s.lanes := rfl
@[simp] theorem State.setPort_carriers (n : Nat) (p : Port) : (s.setPort n p).carriers = s.carriers := rfl
@[simp] theorem State.setPort_groups (n : Nat) (p : Port) : (s.setPort n p).groups = s.groups := rfl
@[simp] theorem State.setPort_pulses (n : Nat) (p : Port) : (s.setPort n p).pulses = s.pulses := rfl
@[simp] theorem State.setPort_events (n : Nat) (p : Port) : (s.setPort n p).events = s.events := rfl
@[simp] theorem State.setPort_writes (n : Nat) (p : Port) : (s.setPort n p).writes = s.writes := rfl
@[simp] theorem State.setPort_fabricStopped (n : Nat) (p : Port) : (s.setPort n p).fabricStopped = s.fabricStopped := rfl
@[simp] theorem State.setPort_trac (n : Nat) (p : Port) : (s.setPort n p).trac = s.trac := rfl
@[simp] theorem State.setPort_auxI (n : Nat) (p : Port) : (s.setPort n p).auxI = s.auxI := rfl
@[simp] theorem State.setPort_auxB (n : Nat) (p : Port) : (s.setPort n p).auxB = s.auxB := rfl
@[simp] theorem State.setPort_syncIn (n : Nat) (p : Port) : (s.setPort n p).syncIn = s.syncIn := rfl
@[simp] theorem State.setPort_shed (n : Nat) (p : Port) : (s.setPort n p).shed = s.shed := rfl
@[simp] theorem State.setPort_charge (n : Nat) (p : Port) : (s.setPort n p).charge = s.charge := rfl
@[simp] theorem State.setPort_hv (n : Nat) (p : Port) : (s.setPort n p).hv = s.hv := rfl
@[simp] theorem State.setPort_acts (n : Nat) (p : Port) : (s.setPort n p).acts = s.acts := rfl
@[simp] theorem State.setPort_therm (n : Nat) (p : Port) : (s.setPort n p).therm = s.therm := rfl
@[simp] theorem State.setPort_net (n : Nat) (p : Port) : (s.setPort n p).net = s.net := rfl
@[simp] theorem State.setPort_fasts (n : Nat) (p : Port) : (s.setPort n p).fasts = s.fasts := rfl
@[simp] theorem State.setPort_slows (n : Nat) (p : Port) : (s.setPort n p).slows = s.slows := rfl
@[simp] theorem State.setPort_cans (n : Nat) (p : Port) : (s.setPort n p).cans = s.cans := rfl
@[simp] theorem State.setPort_timers (n : Nat) (p : Port) : (s.setPort n p).timers = s.timers := rfl
@[simp] theorem State.setPort_pending (n : Nat) (p : Port) : (s.setPort n p).pending = s.pending := rfl

@[simp] theorem State.setFast_dev (n : Nat) (c : Fast) : (s.setFast n c).dev = s.dev := rfl
@[simp] theorem State.setFast_time (n : Nat) (c : Fast) : (s.setFast n c).time = s.time := rfl
@[simp] theorem State.setFast_bind (n : Nat) (c : Fast) : (s.setFast n c).bind = s.bind := rfl
@[simp] theorem State.setFast_regs (n : Nat) (c : Fast) : (s.setFast n c).regs = s.regs := rfl
@[simp] theorem State.setFast_shd (n : Nat) (c : Fast) : (s.setFast n c).shd = s.shd := rfl
@[simp] theorem State.setFast_waits (n : Nat) (c : Fast) : (s.setFast n c).waits = s.waits := rfl
@[simp] theorem State.setFast_poison (n : Nat) (c : Fast) : (s.setFast n c).poison = s.poison := rfl
@[simp] theorem State.setFast_badWords (n : Nat) (c : Fast) : (s.setFast n c).badWords = s.badWords := rfl
@[simp] theorem State.setFast_integrity (n : Nat) (c : Fast) : (s.setFast n c).integrity = s.integrity := rfl
@[simp] theorem State.setFast_swaps (n : Nat) (c : Fast) : (s.setFast n c).swaps = s.swaps := rfl
@[simp] theorem State.setFast_store (n : Nat) (c : Fast) : (s.setFast n c).store = s.store := rfl
@[simp] theorem State.setFast_commit (n : Nat) (c : Fast) : (s.setFast n c).commit = s.commit := rfl
@[simp] theorem State.setFast_lv (n : Nat) (c : Fast) : (s.setFast n c).lv = s.lv := rfl
@[simp] theorem State.setFast_slots (n : Nat) (c : Fast) : (s.setFast n c).slots = s.slots := rfl
@[simp] theorem State.setFast_recs (n : Nat) (c : Fast) : (s.setFast n c).recs = s.recs := rfl
@[simp] theorem State.setFast_tx (n : Nat) (c : Fast) : (s.setFast n c).tx = s.tx := rfl
@[simp] theorem State.setFast_seqs (n : Nat) (c : Fast) : (s.setFast n c).seqs = s.seqs := rfl
@[simp] theorem State.setFast_streams (n : Nat) (c : Fast) : (s.setFast n c).streams = s.streams := rfl
@[simp] theorem State.setFast_proofs (n : Nat) (c : Fast) : (s.setFast n c).proofs = s.proofs := rfl
@[simp] theorem State.setFast_units (n : Nat) (c : Fast) : (s.setFast n c).units = s.units := rfl
@[simp] theorem State.setFast_sheaves (n : Nat) (c : Fast) : (s.setFast n c).sheaves = s.sheaves := rfl
@[simp] theorem State.setFast_legs (n : Nat) (c : Fast) : (s.setFast n c).legs = s.legs := rfl
@[simp] theorem State.setFast_sup (n : Nat) (c : Fast) : (s.setFast n c).sup = s.sup := rfl
@[simp] theorem State.setFast_outs (n : Nat) (c : Fast) : (s.setFast n c).outs = s.outs := rfl
@[simp] theorem State.setFast_lanes (n : Nat) (c : Fast) : (s.setFast n c).lanes = s.lanes := rfl
@[simp] theorem State.setFast_carriers (n : Nat) (c : Fast) : (s.setFast n c).carriers = s.carriers := rfl
@[simp] theorem State.setFast_groups (n : Nat) (c : Fast) : (s.setFast n c).groups = s.groups := rfl
@[simp] theorem State.setFast_pulses (n : Nat) (c : Fast) : (s.setFast n c).pulses = s.pulses := rfl
@[simp] theorem State.setFast_events (n : Nat) (c : Fast) : (s.setFast n c).events = s.events := rfl
@[simp] theorem State.setFast_writes (n : Nat) (c : Fast) : (s.setFast n c).writes = s.writes := rfl
@[simp] theorem State.setFast_fabricStopped (n : Nat) (c : Fast) : (s.setFast n c).fabricStopped = s.fabricStopped := rfl
@[simp] theorem State.setFast_trac (n : Nat) (c : Fast) : (s.setFast n c).trac = s.trac := rfl
@[simp] theorem State.setFast_auxI (n : Nat) (c : Fast) : (s.setFast n c).auxI = s.auxI := rfl
@[simp] theorem State.setFast_auxB (n : Nat) (c : Fast) : (s.setFast n c).auxB = s.auxB := rfl
@[simp] theorem State.setFast_syncIn (n : Nat) (c : Fast) : (s.setFast n c).syncIn = s.syncIn := rfl
@[simp] theorem State.setFast_shed (n : Nat) (c : Fast) : (s.setFast n c).shed = s.shed := rfl
@[simp] theorem State.setFast_charge (n : Nat) (c : Fast) : (s.setFast n c).charge = s.charge := rfl
@[simp] theorem State.setFast_hv (n : Nat) (c : Fast) : (s.setFast n c).hv = s.hv := rfl
@[simp] theorem State.setFast_acts (n : Nat) (c : Fast) : (s.setFast n c).acts = s.acts := rfl
@[simp] theorem State.setFast_therm (n : Nat) (c : Fast) : (s.setFast n c).therm = s.therm := rfl
@[simp] theorem State.setFast_net (n : Nat) (c : Fast) : (s.setFast n c).net = s.net := rfl
@[simp] theorem State.setFast_ports (n : Nat) (c : Fast) : (s.setFast n c).ports = s.ports := rfl
@[simp] theorem State.setFast_slows (n : Nat) (c : Fast) : (s.setFast n c).slows = s.slows := rfl
@[simp] theorem State.setFast_cans (n : Nat) (c : Fast) : (s.setFast n c).cans = s.cans := rfl
@[simp] theorem State.setFast_timers (n : Nat) (c : Fast) : (s.setFast n c).timers = s.timers := rfl
@[simp] theorem State.setFast_pending (n : Nat) (c : Fast) : (s.setFast n c).pending = s.pending := rfl

@[simp] theorem State.setSlow_dev (n : Nat) (c : Slow) : (s.setSlow n c).dev = s.dev := rfl
@[simp] theorem State.setSlow_time (n : Nat) (c : Slow) : (s.setSlow n c).time = s.time := rfl
@[simp] theorem State.setSlow_bind (n : Nat) (c : Slow) : (s.setSlow n c).bind = s.bind := rfl
@[simp] theorem State.setSlow_regs (n : Nat) (c : Slow) : (s.setSlow n c).regs = s.regs := rfl
@[simp] theorem State.setSlow_shd (n : Nat) (c : Slow) : (s.setSlow n c).shd = s.shd := rfl
@[simp] theorem State.setSlow_waits (n : Nat) (c : Slow) : (s.setSlow n c).waits = s.waits := rfl
@[simp] theorem State.setSlow_poison (n : Nat) (c : Slow) : (s.setSlow n c).poison = s.poison := rfl
@[simp] theorem State.setSlow_badWords (n : Nat) (c : Slow) : (s.setSlow n c).badWords = s.badWords := rfl
@[simp] theorem State.setSlow_integrity (n : Nat) (c : Slow) : (s.setSlow n c).integrity = s.integrity := rfl
@[simp] theorem State.setSlow_swaps (n : Nat) (c : Slow) : (s.setSlow n c).swaps = s.swaps := rfl
@[simp] theorem State.setSlow_store (n : Nat) (c : Slow) : (s.setSlow n c).store = s.store := rfl
@[simp] theorem State.setSlow_commit (n : Nat) (c : Slow) : (s.setSlow n c).commit = s.commit := rfl
@[simp] theorem State.setSlow_lv (n : Nat) (c : Slow) : (s.setSlow n c).lv = s.lv := rfl
@[simp] theorem State.setSlow_slots (n : Nat) (c : Slow) : (s.setSlow n c).slots = s.slots := rfl
@[simp] theorem State.setSlow_recs (n : Nat) (c : Slow) : (s.setSlow n c).recs = s.recs := rfl
@[simp] theorem State.setSlow_tx (n : Nat) (c : Slow) : (s.setSlow n c).tx = s.tx := rfl
@[simp] theorem State.setSlow_seqs (n : Nat) (c : Slow) : (s.setSlow n c).seqs = s.seqs := rfl
@[simp] theorem State.setSlow_streams (n : Nat) (c : Slow) : (s.setSlow n c).streams = s.streams := rfl
@[simp] theorem State.setSlow_proofs (n : Nat) (c : Slow) : (s.setSlow n c).proofs = s.proofs := rfl
@[simp] theorem State.setSlow_units (n : Nat) (c : Slow) : (s.setSlow n c).units = s.units := rfl
@[simp] theorem State.setSlow_sheaves (n : Nat) (c : Slow) : (s.setSlow n c).sheaves = s.sheaves := rfl
@[simp] theorem State.setSlow_legs (n : Nat) (c : Slow) : (s.setSlow n c).legs = s.legs := rfl
@[simp] theorem State.setSlow_sup (n : Nat) (c : Slow) : (s.setSlow n c).sup = s.sup := rfl
@[simp] theorem State.setSlow_outs (n : Nat) (c : Slow) : (s.setSlow n c).outs = s.outs := rfl
@[simp] theorem State.setSlow_lanes (n : Nat) (c : Slow) : (s.setSlow n c).lanes = s.lanes := rfl
@[simp] theorem State.setSlow_carriers (n : Nat) (c : Slow) : (s.setSlow n c).carriers = s.carriers := rfl
@[simp] theorem State.setSlow_groups (n : Nat) (c : Slow) : (s.setSlow n c).groups = s.groups := rfl
@[simp] theorem State.setSlow_pulses (n : Nat) (c : Slow) : (s.setSlow n c).pulses = s.pulses := rfl
@[simp] theorem State.setSlow_events (n : Nat) (c : Slow) : (s.setSlow n c).events = s.events := rfl
@[simp] theorem State.setSlow_writes (n : Nat) (c : Slow) : (s.setSlow n c).writes = s.writes := rfl
@[simp] theorem State.setSlow_fabricStopped (n : Nat) (c : Slow) : (s.setSlow n c).fabricStopped = s.fabricStopped := rfl
@[simp] theorem State.setSlow_trac (n : Nat) (c : Slow) : (s.setSlow n c).trac = s.trac := rfl
@[simp] theorem State.setSlow_auxI (n : Nat) (c : Slow) : (s.setSlow n c).auxI = s.auxI := rfl
@[simp] theorem State.setSlow_auxB (n : Nat) (c : Slow) : (s.setSlow n c).auxB = s.auxB := rfl
@[simp] theorem State.setSlow_syncIn (n : Nat) (c : Slow) : (s.setSlow n c).syncIn = s.syncIn := rfl
@[simp] theorem State.setSlow_shed (n : Nat) (c : Slow) : (s.setSlow n c).shed = s.shed := rfl
@[simp] theorem State.setSlow_charge (n : Nat) (c : Slow) : (s.setSlow n c).charge = s.charge := rfl
@[simp] theorem State.setSlow_hv (n : Nat) (c : Slow) : (s.setSlow n c).hv = s.hv := rfl
@[simp] theorem State.setSlow_acts (n : Nat) (c : Slow) : (s.setSlow n c).acts = s.acts := rfl
@[simp] theorem State.setSlow_therm (n : Nat) (c : Slow) : (s.setSlow n c).therm = s.therm := rfl
@[simp] theorem State.setSlow_net (n : Nat) (c : Slow) : (s.setSlow n c).net = s.net := rfl
@[simp] theorem State.setSlow_ports (n : Nat) (c : Slow) : (s.setSlow n c).ports = s.ports := rfl
@[simp] theorem State.setSlow_fasts (n : Nat) (c : Slow) : (s.setSlow n c).fasts = s.fasts := rfl
@[simp] theorem State.setSlow_cans (n : Nat) (c : Slow) : (s.setSlow n c).cans = s.cans := rfl
@[simp] theorem State.setSlow_timers (n : Nat) (c : Slow) : (s.setSlow n c).timers = s.timers := rfl
@[simp] theorem State.setSlow_pending (n : Nat) (c : Slow) : (s.setSlow n c).pending = s.pending := rfl

@[simp] theorem State.setActuator_dev (k : Nat) (a : ActRun) : (s.setActuator k a).dev = s.dev := rfl
@[simp] theorem State.setActuator_time (k : Nat) (a : ActRun) : (s.setActuator k a).time = s.time := rfl
@[simp] theorem State.setActuator_bind (k : Nat) (a : ActRun) : (s.setActuator k a).bind = s.bind := rfl
@[simp] theorem State.setActuator_regs (k : Nat) (a : ActRun) : (s.setActuator k a).regs = s.regs := rfl
@[simp] theorem State.setActuator_shd (k : Nat) (a : ActRun) : (s.setActuator k a).shd = s.shd := rfl
@[simp] theorem State.setActuator_waits (k : Nat) (a : ActRun) : (s.setActuator k a).waits = s.waits := rfl
@[simp] theorem State.setActuator_poison (k : Nat) (a : ActRun) : (s.setActuator k a).poison = s.poison := rfl
@[simp] theorem State.setActuator_badWords (k : Nat) (a : ActRun) : (s.setActuator k a).badWords = s.badWords := rfl
@[simp] theorem State.setActuator_integrity (k : Nat) (a : ActRun) : (s.setActuator k a).integrity = s.integrity := rfl
@[simp] theorem State.setActuator_swaps (k : Nat) (a : ActRun) : (s.setActuator k a).swaps = s.swaps := rfl
@[simp] theorem State.setActuator_store (k : Nat) (a : ActRun) : (s.setActuator k a).store = s.store := rfl
@[simp] theorem State.setActuator_commit (k : Nat) (a : ActRun) : (s.setActuator k a).commit = s.commit := rfl
@[simp] theorem State.setActuator_lv (k : Nat) (a : ActRun) : (s.setActuator k a).lv = s.lv := rfl
@[simp] theorem State.setActuator_slots (k : Nat) (a : ActRun) : (s.setActuator k a).slots = s.slots := rfl
@[simp] theorem State.setActuator_recs (k : Nat) (a : ActRun) : (s.setActuator k a).recs = s.recs := rfl
@[simp] theorem State.setActuator_tx (k : Nat) (a : ActRun) : (s.setActuator k a).tx = s.tx := rfl
@[simp] theorem State.setActuator_seqs (k : Nat) (a : ActRun) : (s.setActuator k a).seqs = s.seqs := rfl
@[simp] theorem State.setActuator_streams (k : Nat) (a : ActRun) : (s.setActuator k a).streams = s.streams := rfl
@[simp] theorem State.setActuator_proofs (k : Nat) (a : ActRun) : (s.setActuator k a).proofs = s.proofs := rfl
@[simp] theorem State.setActuator_units (k : Nat) (a : ActRun) : (s.setActuator k a).units = s.units := rfl
@[simp] theorem State.setActuator_sheaves (k : Nat) (a : ActRun) : (s.setActuator k a).sheaves = s.sheaves := rfl
@[simp] theorem State.setActuator_legs (k : Nat) (a : ActRun) : (s.setActuator k a).legs = s.legs := rfl
@[simp] theorem State.setActuator_sup (k : Nat) (a : ActRun) : (s.setActuator k a).sup = s.sup := rfl
@[simp] theorem State.setActuator_outs (k : Nat) (a : ActRun) : (s.setActuator k a).outs = s.outs := rfl
@[simp] theorem State.setActuator_lanes (k : Nat) (a : ActRun) : (s.setActuator k a).lanes = s.lanes := rfl
@[simp] theorem State.setActuator_carriers (k : Nat) (a : ActRun) : (s.setActuator k a).carriers = s.carriers := rfl
@[simp] theorem State.setActuator_groups (k : Nat) (a : ActRun) : (s.setActuator k a).groups = s.groups := rfl
@[simp] theorem State.setActuator_pulses (k : Nat) (a : ActRun) : (s.setActuator k a).pulses = s.pulses := rfl
@[simp] theorem State.setActuator_events (k : Nat) (a : ActRun) : (s.setActuator k a).events = s.events := rfl
@[simp] theorem State.setActuator_writes (k : Nat) (a : ActRun) : (s.setActuator k a).writes = s.writes := rfl
@[simp] theorem State.setActuator_fabricStopped (k : Nat) (a : ActRun) : (s.setActuator k a).fabricStopped = s.fabricStopped := rfl
@[simp] theorem State.setActuator_trac (k : Nat) (a : ActRun) : (s.setActuator k a).trac = s.trac := rfl
@[simp] theorem State.setActuator_auxI (k : Nat) (a : ActRun) : (s.setActuator k a).auxI = s.auxI := rfl
@[simp] theorem State.setActuator_auxB (k : Nat) (a : ActRun) : (s.setActuator k a).auxB = s.auxB := rfl
@[simp] theorem State.setActuator_syncIn (k : Nat) (a : ActRun) : (s.setActuator k a).syncIn = s.syncIn := rfl
@[simp] theorem State.setActuator_shed (k : Nat) (a : ActRun) : (s.setActuator k a).shed = s.shed := rfl
@[simp] theorem State.setActuator_charge (k : Nat) (a : ActRun) : (s.setActuator k a).charge = s.charge := rfl
@[simp] theorem State.setActuator_hv (k : Nat) (a : ActRun) : (s.setActuator k a).hv = s.hv := rfl
@[simp] theorem State.setActuator_therm (k : Nat) (a : ActRun) : (s.setActuator k a).therm = s.therm := rfl
@[simp] theorem State.setActuator_net (k : Nat) (a : ActRun) : (s.setActuator k a).net = s.net := rfl
@[simp] theorem State.setActuator_ports (k : Nat) (a : ActRun) : (s.setActuator k a).ports = s.ports := rfl
@[simp] theorem State.setActuator_fasts (k : Nat) (a : ActRun) : (s.setActuator k a).fasts = s.fasts := rfl
@[simp] theorem State.setActuator_slows (k : Nat) (a : ActRun) : (s.setActuator k a).slows = s.slows := rfl
@[simp] theorem State.setActuator_cans (k : Nat) (a : ActRun) : (s.setActuator k a).cans = s.cans := rfl
@[simp] theorem State.setActuator_timers (k : Nat) (a : ActRun) : (s.setActuator k a).timers = s.timers := rfl
@[simp] theorem State.setActuator_pending (k : Nat) (a : ActRun) : (s.setActuator k a).pending = s.pending := rfl

@[simp] theorem State.setHeat_dev (k : Nat) (h : Heat) : (s.setHeat k h).dev = s.dev := rfl
@[simp] theorem State.setHeat_time (k : Nat) (h : Heat) : (s.setHeat k h).time = s.time := rfl
@[simp] theorem State.setHeat_bind (k : Nat) (h : Heat) : (s.setHeat k h).bind = s.bind := rfl
@[simp] theorem State.setHeat_regs (k : Nat) (h : Heat) : (s.setHeat k h).regs = s.regs := rfl
@[simp] theorem State.setHeat_shd (k : Nat) (h : Heat) : (s.setHeat k h).shd = s.shd := rfl
@[simp] theorem State.setHeat_waits (k : Nat) (h : Heat) : (s.setHeat k h).waits = s.waits := rfl
@[simp] theorem State.setHeat_poison (k : Nat) (h : Heat) : (s.setHeat k h).poison = s.poison := rfl
@[simp] theorem State.setHeat_badWords (k : Nat) (h : Heat) : (s.setHeat k h).badWords = s.badWords := rfl
@[simp] theorem State.setHeat_integrity (k : Nat) (h : Heat) : (s.setHeat k h).integrity = s.integrity := rfl
@[simp] theorem State.setHeat_swaps (k : Nat) (h : Heat) : (s.setHeat k h).swaps = s.swaps := rfl
@[simp] theorem State.setHeat_store (k : Nat) (h : Heat) : (s.setHeat k h).store = s.store := rfl
@[simp] theorem State.setHeat_commit (k : Nat) (h : Heat) : (s.setHeat k h).commit = s.commit := rfl
@[simp] theorem State.setHeat_lv (k : Nat) (h : Heat) : (s.setHeat k h).lv = s.lv := rfl
@[simp] theorem State.setHeat_slots (k : Nat) (h : Heat) : (s.setHeat k h).slots = s.slots := rfl
@[simp] theorem State.setHeat_recs (k : Nat) (h : Heat) : (s.setHeat k h).recs = s.recs := rfl
@[simp] theorem State.setHeat_tx (k : Nat) (h : Heat) : (s.setHeat k h).tx = s.tx := rfl
@[simp] theorem State.setHeat_seqs (k : Nat) (h : Heat) : (s.setHeat k h).seqs = s.seqs := rfl
@[simp] theorem State.setHeat_streams (k : Nat) (h : Heat) : (s.setHeat k h).streams = s.streams := rfl
@[simp] theorem State.setHeat_proofs (k : Nat) (h : Heat) : (s.setHeat k h).proofs = s.proofs := rfl
@[simp] theorem State.setHeat_units (k : Nat) (h : Heat) : (s.setHeat k h).units = s.units := rfl
@[simp] theorem State.setHeat_sheaves (k : Nat) (h : Heat) : (s.setHeat k h).sheaves = s.sheaves := rfl
@[simp] theorem State.setHeat_legs (k : Nat) (h : Heat) : (s.setHeat k h).legs = s.legs := rfl
@[simp] theorem State.setHeat_sup (k : Nat) (h : Heat) : (s.setHeat k h).sup = s.sup := rfl
@[simp] theorem State.setHeat_outs (k : Nat) (h : Heat) : (s.setHeat k h).outs = s.outs := rfl
@[simp] theorem State.setHeat_lanes (k : Nat) (h : Heat) : (s.setHeat k h).lanes = s.lanes := rfl
@[simp] theorem State.setHeat_carriers (k : Nat) (h : Heat) : (s.setHeat k h).carriers = s.carriers := rfl
@[simp] theorem State.setHeat_groups (k : Nat) (h : Heat) : (s.setHeat k h).groups = s.groups := rfl
@[simp] theorem State.setHeat_pulses (k : Nat) (h : Heat) : (s.setHeat k h).pulses = s.pulses := rfl
@[simp] theorem State.setHeat_events (k : Nat) (h : Heat) : (s.setHeat k h).events = s.events := rfl
@[simp] theorem State.setHeat_writes (k : Nat) (h : Heat) : (s.setHeat k h).writes = s.writes := rfl
@[simp] theorem State.setHeat_fabricStopped (k : Nat) (h : Heat) : (s.setHeat k h).fabricStopped = s.fabricStopped := rfl
@[simp] theorem State.setHeat_trac (k : Nat) (h : Heat) : (s.setHeat k h).trac = s.trac := rfl
@[simp] theorem State.setHeat_auxI (k : Nat) (h : Heat) : (s.setHeat k h).auxI = s.auxI := rfl
@[simp] theorem State.setHeat_auxB (k : Nat) (h : Heat) : (s.setHeat k h).auxB = s.auxB := rfl
@[simp] theorem State.setHeat_syncIn (k : Nat) (h : Heat) : (s.setHeat k h).syncIn = s.syncIn := rfl
@[simp] theorem State.setHeat_shed (k : Nat) (h : Heat) : (s.setHeat k h).shed = s.shed := rfl
@[simp] theorem State.setHeat_charge (k : Nat) (h : Heat) : (s.setHeat k h).charge = s.charge := rfl
@[simp] theorem State.setHeat_hv (k : Nat) (h : Heat) : (s.setHeat k h).hv = s.hv := rfl
@[simp] theorem State.setHeat_acts (k : Nat) (h : Heat) : (s.setHeat k h).acts = s.acts := rfl
@[simp] theorem State.setHeat_net (k : Nat) (h : Heat) : (s.setHeat k h).net = s.net := rfl
@[simp] theorem State.setHeat_ports (k : Nat) (h : Heat) : (s.setHeat k h).ports = s.ports := rfl
@[simp] theorem State.setHeat_fasts (k : Nat) (h : Heat) : (s.setHeat k h).fasts = s.fasts := rfl
@[simp] theorem State.setHeat_slows (k : Nat) (h : Heat) : (s.setHeat k h).slows = s.slows := rfl
@[simp] theorem State.setHeat_cans (k : Nat) (h : Heat) : (s.setHeat k h).cans = s.cans := rfl
@[simp] theorem State.setHeat_timers (k : Nat) (h : Heat) : (s.setHeat k h).timers = s.timers := rfl
@[simp] theorem State.setHeat_pending (k : Nat) (h : Heat) : (s.setHeat k h).pending = s.pending := rfl

@[simp] theorem State.setCan_dev (n : Nat) (c : Can) : (s.setCan n c).dev = s.dev := rfl
@[simp] theorem State.setCan_time (n : Nat) (c : Can) : (s.setCan n c).time = s.time := rfl
@[simp] theorem State.setCan_bind (n : Nat) (c : Can) : (s.setCan n c).bind = s.bind := rfl
@[simp] theorem State.setCan_regs (n : Nat) (c : Can) : (s.setCan n c).regs = s.regs := rfl
@[simp] theorem State.setCan_shd (n : Nat) (c : Can) : (s.setCan n c).shd = s.shd := rfl
@[simp] theorem State.setCan_waits (n : Nat) (c : Can) : (s.setCan n c).waits = s.waits := rfl
@[simp] theorem State.setCan_poison (n : Nat) (c : Can) : (s.setCan n c).poison = s.poison := rfl
@[simp] theorem State.setCan_badWords (n : Nat) (c : Can) : (s.setCan n c).badWords = s.badWords := rfl
@[simp] theorem State.setCan_integrity (n : Nat) (c : Can) : (s.setCan n c).integrity = s.integrity := rfl
@[simp] theorem State.setCan_swaps (n : Nat) (c : Can) : (s.setCan n c).swaps = s.swaps := rfl
@[simp] theorem State.setCan_store (n : Nat) (c : Can) : (s.setCan n c).store = s.store := rfl
@[simp] theorem State.setCan_commit (n : Nat) (c : Can) : (s.setCan n c).commit = s.commit := rfl
@[simp] theorem State.setCan_lv (n : Nat) (c : Can) : (s.setCan n c).lv = s.lv := rfl
@[simp] theorem State.setCan_slots (n : Nat) (c : Can) : (s.setCan n c).slots = s.slots := rfl
@[simp] theorem State.setCan_recs (n : Nat) (c : Can) : (s.setCan n c).recs = s.recs := rfl
@[simp] theorem State.setCan_tx (n : Nat) (c : Can) : (s.setCan n c).tx = s.tx := rfl
@[simp] theorem State.setCan_seqs (n : Nat) (c : Can) : (s.setCan n c).seqs = s.seqs := rfl
@[simp] theorem State.setCan_streams (n : Nat) (c : Can) : (s.setCan n c).streams = s.streams := rfl
@[simp] theorem State.setCan_proofs (n : Nat) (c : Can) : (s.setCan n c).proofs = s.proofs := rfl
@[simp] theorem State.setCan_units (n : Nat) (c : Can) : (s.setCan n c).units = s.units := rfl
@[simp] theorem State.setCan_sheaves (n : Nat) (c : Can) : (s.setCan n c).sheaves = s.sheaves := rfl
@[simp] theorem State.setCan_legs (n : Nat) (c : Can) : (s.setCan n c).legs = s.legs := rfl
@[simp] theorem State.setCan_sup (n : Nat) (c : Can) : (s.setCan n c).sup = s.sup := rfl
@[simp] theorem State.setCan_outs (n : Nat) (c : Can) : (s.setCan n c).outs = s.outs := rfl
@[simp] theorem State.setCan_lanes (n : Nat) (c : Can) : (s.setCan n c).lanes = s.lanes := rfl
@[simp] theorem State.setCan_carriers (n : Nat) (c : Can) : (s.setCan n c).carriers = s.carriers := rfl
@[simp] theorem State.setCan_groups (n : Nat) (c : Can) : (s.setCan n c).groups = s.groups := rfl
@[simp] theorem State.setCan_pulses (n : Nat) (c : Can) : (s.setCan n c).pulses = s.pulses := rfl
@[simp] theorem State.setCan_events (n : Nat) (c : Can) : (s.setCan n c).events = s.events := rfl
@[simp] theorem State.setCan_writes (n : Nat) (c : Can) : (s.setCan n c).writes = s.writes := rfl
@[simp] theorem State.setCan_fabricStopped (n : Nat) (c : Can) : (s.setCan n c).fabricStopped = s.fabricStopped := rfl
@[simp] theorem State.setCan_trac (n : Nat) (c : Can) : (s.setCan n c).trac = s.trac := rfl
@[simp] theorem State.setCan_auxI (n : Nat) (c : Can) : (s.setCan n c).auxI = s.auxI := rfl
@[simp] theorem State.setCan_auxB (n : Nat) (c : Can) : (s.setCan n c).auxB = s.auxB := rfl
@[simp] theorem State.setCan_syncIn (n : Nat) (c : Can) : (s.setCan n c).syncIn = s.syncIn := rfl
@[simp] theorem State.setCan_shed (n : Nat) (c : Can) : (s.setCan n c).shed = s.shed := rfl
@[simp] theorem State.setCan_charge (n : Nat) (c : Can) : (s.setCan n c).charge = s.charge := rfl
@[simp] theorem State.setCan_hv (n : Nat) (c : Can) : (s.setCan n c).hv = s.hv := rfl
@[simp] theorem State.setCan_acts (n : Nat) (c : Can) : (s.setCan n c).acts = s.acts := rfl
@[simp] theorem State.setCan_therm (n : Nat) (c : Can) : (s.setCan n c).therm = s.therm := rfl
@[simp] theorem State.setCan_net (n : Nat) (c : Can) : (s.setCan n c).net = s.net := rfl
@[simp] theorem State.setCan_ports (n : Nat) (c : Can) : (s.setCan n c).ports = s.ports := rfl
@[simp] theorem State.setCan_fasts (n : Nat) (c : Can) : (s.setCan n c).fasts = s.fasts := rfl
@[simp] theorem State.setCan_slows (n : Nat) (c : Can) : (s.setCan n c).slows = s.slows := rfl
@[simp] theorem State.setCan_timers (n : Nat) (c : Can) : (s.setCan n c).timers = s.timers := rfl
@[simp] theorem State.setCan_pending (n : Nat) (c : Can) : (s.setCan n c).pending = s.pending := rfl

@[simp] theorem State.useFree_time : (s.useFree).time = s.time := rfl
@[simp] theorem State.useFree_bind : (s.useFree).bind = s.bind := rfl
@[simp] theorem State.useFree_regs : (s.useFree).regs = s.regs := rfl
@[simp] theorem State.useFree_shd : (s.useFree).shd = s.shd := rfl
@[simp] theorem State.useFree_waits : (s.useFree).waits = s.waits := rfl
@[simp] theorem State.useFree_poison : (s.useFree).poison = s.poison := rfl
@[simp] theorem State.useFree_badWords : (s.useFree).badWords = s.badWords := rfl
@[simp] theorem State.useFree_integrity : (s.useFree).integrity = s.integrity := rfl
@[simp] theorem State.useFree_swaps : (s.useFree).swaps = s.swaps := rfl
@[simp] theorem State.useFree_store : (s.useFree).store = s.store := rfl
@[simp] theorem State.useFree_commit : (s.useFree).commit = s.commit := rfl
@[simp] theorem State.useFree_lv : (s.useFree).lv = s.lv := rfl
@[simp] theorem State.useFree_slots : (s.useFree).slots = s.slots := rfl
@[simp] theorem State.useFree_recs : (s.useFree).recs = s.recs := rfl
@[simp] theorem State.useFree_tx : (s.useFree).tx = s.tx := rfl
@[simp] theorem State.useFree_seqs : (s.useFree).seqs = s.seqs := rfl
@[simp] theorem State.useFree_streams : (s.useFree).streams = s.streams := rfl
@[simp] theorem State.useFree_proofs : (s.useFree).proofs = s.proofs := rfl
@[simp] theorem State.useFree_units : (s.useFree).units = s.units := rfl
@[simp] theorem State.useFree_sheaves : (s.useFree).sheaves = s.sheaves := rfl
@[simp] theorem State.useFree_legs : (s.useFree).legs = s.legs := rfl
@[simp] theorem State.useFree_sup : (s.useFree).sup = s.sup := rfl
@[simp] theorem State.useFree_outs : (s.useFree).outs = s.outs := rfl
@[simp] theorem State.useFree_lanes : (s.useFree).lanes = s.lanes := rfl
@[simp] theorem State.useFree_carriers : (s.useFree).carriers = s.carriers := rfl
@[simp] theorem State.useFree_groups : (s.useFree).groups = s.groups := rfl
@[simp] theorem State.useFree_pulses : (s.useFree).pulses = s.pulses := rfl
@[simp] theorem State.useFree_events : (s.useFree).events = s.events := rfl
@[simp] theorem State.useFree_writes : (s.useFree).writes = s.writes := rfl
@[simp] theorem State.useFree_fabricStopped : (s.useFree).fabricStopped = s.fabricStopped := rfl
@[simp] theorem State.useFree_trac : (s.useFree).trac = s.trac := rfl
@[simp] theorem State.useFree_auxI : (s.useFree).auxI = s.auxI := rfl
@[simp] theorem State.useFree_auxB : (s.useFree).auxB = s.auxB := rfl
@[simp] theorem State.useFree_syncIn : (s.useFree).syncIn = s.syncIn := rfl
@[simp] theorem State.useFree_shed : (s.useFree).shed = s.shed := rfl
@[simp] theorem State.useFree_charge : (s.useFree).charge = s.charge := rfl
@[simp] theorem State.useFree_hv : (s.useFree).hv = s.hv := rfl
@[simp] theorem State.useFree_acts : (s.useFree).acts = s.acts := rfl
@[simp] theorem State.useFree_therm : (s.useFree).therm = s.therm := rfl
@[simp] theorem State.useFree_net : (s.useFree).net = s.net := rfl
@[simp] theorem State.useFree_ports : (s.useFree).ports = s.ports := rfl
@[simp] theorem State.useFree_fasts : (s.useFree).fasts = s.fasts := rfl
@[simp] theorem State.useFree_slows : (s.useFree).slows = s.slows := rfl
@[simp] theorem State.useFree_cans : (s.useFree).cans = s.cans := rfl
@[simp] theorem State.useFree_timers : (s.useFree).timers = s.timers := rfl
@[simp] theorem State.useFree_pending : (s.useFree).pending = s.pending := rfl

/-! Each reader after its own write. -/

theorem State.unit_setUnit (u : Nat) (r : UnitRec) (j : Nat) : (s.setUnit u r).unit j = if j = u then r else s.unit j := KMap.get_put ..

@[simp] theorem State.unit_setUnit_same (u : Nat) (r : UnitRec) : (s.setUnit u r).unit u = r := by simp [State.unit_setUnit]

theorem State.unit_setUnit_other (u : Nat) (r : UnitRec) (j : Nat) (hj : j ≠ u) : (s.setUnit u r).unit j = s.unit j := by simp [State.unit_setUnit, hj]

theorem State.sheaf_setSheaf (n : Nat) (h : Sheaf) (j : Nat) : (s.setSheaf n h).sheaf j = if j = n then h else s.sheaf j := KMap.get_put ..

@[simp] theorem State.sheaf_setSheaf_same (n : Nat) (h : Sheaf) : (s.setSheaf n h).sheaf n = h := by simp [State.sheaf_setSheaf]

theorem State.sheaf_setSheaf_other (n : Nat) (h : Sheaf) (j : Nat) (hj : j ≠ n) : (s.setSheaf n h).sheaf j = s.sheaf j := by simp [State.sheaf_setSheaf, hj]

theorem State.leg_setLeg (n : Nat) (l : Leg) (j : Nat) : (s.setLeg n l).leg j = if j = n then l else s.leg j := KMap.get_put ..

@[simp] theorem State.leg_setLeg_same (n : Nat) (l : Leg) : (s.setLeg n l).leg n = l := by simp [State.leg_setLeg]

theorem State.leg_setLeg_other (n : Nat) (l : Leg) (j : Nat) (hj : j ≠ n) : (s.setLeg n l).leg j = s.leg j := by simp [State.leg_setLeg, hj]

theorem State.slot_setSlot (n : Nat) (h : HostSlot) (j : Nat) : (s.setSlot n h).slot j = if j = n then h else s.slot j := KMap.get_put ..

@[simp] theorem State.slot_setSlot_same (n : Nat) (h : HostSlot) : (s.setSlot n h).slot n = h := by simp [State.slot_setSlot]

theorem State.slot_setSlot_other (n : Nat) (h : HostSlot) (j : Nat) (hj : j ≠ n) : (s.setSlot n h).slot j = s.slot j := by simp [State.slot_setSlot, hj]

theorem State.out_setOut (n : Nat) (o : Output) (j : Nat) : (s.setOut n o).out j = if j = n then o else s.out j := KMap.get_put ..

@[simp] theorem State.out_setOut_same (n : Nat) (o : Output) : (s.setOut n o).out n = o := by simp [State.out_setOut]

theorem State.out_setOut_other (n : Nat) (o : Output) (j : Nat) (hj : j ≠ n) : (s.setOut n o).out j = s.out j := by simp [State.out_setOut, hj]

theorem State.lane_setLane (n : Nat) (l : Lane) (j : Nat) : (s.setLane n l).lane j = if j = n then l else s.lane j := KMap.get_put ..

@[simp] theorem State.lane_setLane_same (n : Nat) (l : Lane) : (s.setLane n l).lane n = l := by simp [State.lane_setLane]

theorem State.lane_setLane_other (n : Nat) (l : Lane) (j : Nat) (hj : j ≠ n) : (s.setLane n l).lane j = s.lane j := by simp [State.lane_setLane, hj]

theorem State.carrier_setCarrier (n : Nat) (c : Carrier) (j : Nat) : (s.setCarrier n c).carrier j = if j = n then c else s.carrier j := KMap.get_put ..

@[simp] theorem State.carrier_setCarrier_same (n : Nat) (c : Carrier) : (s.setCarrier n c).carrier n = c := by simp [State.carrier_setCarrier]

theorem State.carrier_setCarrier_other (n : Nat) (c : Carrier) (j : Nat) (hj : j ≠ n) : (s.setCarrier n c).carrier j = s.carrier j := by simp [State.carrier_setCarrier, hj]

theorem State.pulse_setPulse (n : Nat) (x : Pulse) (j : Nat) : (s.setPulse n x).pulse j = if j = n then x else s.pulse j := KMap.get_put ..

@[simp] theorem State.pulse_setPulse_same (n : Nat) (x : Pulse) : (s.setPulse n x).pulse n = x := by simp [State.pulse_setPulse]

theorem State.pulse_setPulse_other (n : Nat) (x : Pulse) (j : Nat) (hj : j ≠ n) : (s.setPulse n x).pulse j = s.pulse j := by simp [State.pulse_setPulse, hj]

theorem State.port_setPort (n : Nat) (p : Port) (j : Nat) : (s.setPort n p).port j = if j = n then p else s.port j := KMap.get_put ..

@[simp] theorem State.port_setPort_same (n : Nat) (p : Port) : (s.setPort n p).port n = p := by simp [State.port_setPort]

theorem State.port_setPort_other (n : Nat) (p : Port) (j : Nat) (hj : j ≠ n) : (s.setPort n p).port j = s.port j := by simp [State.port_setPort, hj]

theorem State.fast_setFast (n : Nat) (c : Fast) (j : Nat) : (s.setFast n c).fast j = if j = n then c else s.fast j := KMap.get_put ..

@[simp] theorem State.fast_setFast_same (n : Nat) (c : Fast) : (s.setFast n c).fast n = c := by simp [State.fast_setFast]

theorem State.fast_setFast_other (n : Nat) (c : Fast) (j : Nat) (hj : j ≠ n) : (s.setFast n c).fast j = s.fast j := by simp [State.fast_setFast, hj]

theorem State.slow_setSlow (n : Nat) (c : Slow) (j : Nat) : (s.setSlow n c).slow j = if j = n then c else s.slow j := KMap.get_put ..

@[simp] theorem State.slow_setSlow_same (n : Nat) (c : Slow) : (s.setSlow n c).slow n = c := by simp [State.slow_setSlow]

theorem State.slow_setSlow_other (n : Nat) (c : Slow) (j : Nat) (hj : j ≠ n) : (s.setSlow n c).slow j = s.slow j := by simp [State.slow_setSlow, hj]

theorem State.actuator_setActuator (k : Nat) (a : ActRun) (j : Nat) : (s.setActuator k a).actuator j = if j = k then a else s.actuator j := KMap.get_put ..

@[simp] theorem State.actuator_setActuator_same (k : Nat) (a : ActRun) : (s.setActuator k a).actuator k = a := by simp [State.actuator_setActuator]

theorem State.actuator_setActuator_other (k : Nat) (a : ActRun) (j : Nat) (hj : j ≠ k) : (s.setActuator k a).actuator j = s.actuator j := by simp [State.actuator_setActuator, hj]

theorem State.heat_setHeat (k : Nat) (h : Heat) (j : Nat) : (s.setHeat k h).heat j = if j = k then h else s.heat j := KMap.get_put ..

@[simp] theorem State.heat_setHeat_same (k : Nat) (h : Heat) : (s.setHeat k h).heat k = h := by simp [State.heat_setHeat]

theorem State.heat_setHeat_other (k : Nat) (h : Heat) (j : Nat) (hj : j ≠ k) : (s.setHeat k h).heat j = s.heat j := by simp [State.heat_setHeat, hj]

theorem State.can_setCan (n : Nat) (c : Can) (j : Nat) : (s.setCan n c).can j = if j = n then c else s.can j := KMap.get_put ..

@[simp] theorem State.can_setCan_same (n : Nat) (c : Can) : (s.setCan n c).can n = c := by simp [State.can_setCan]

theorem State.can_setCan_other (n : Nat) (c : Can) (j : Nat) (hj : j ≠ n) : (s.setCan n c).can j = s.can j := by simp [State.can_setCan, hj]

theorem State.reg_setReg (a : Nat) (w : Word) (j : Nat) : (s.setReg a w).reg j = if j = a then w else s.reg j := KMap.get_put ..

@[simp] theorem State.reg_setReg_same (a : Nat) (w : Word) : (s.setReg a w).reg a = w := by simp [State.reg_setReg]

theorem State.reg_setReg_other (a : Nat) (w : Word) (j : Nat) (hj : j ≠ a) : (s.setReg a w).reg j = s.reg j := by simp [State.reg_setReg, hj]

theorem State.shadow_setShadow (a : Nat) (w : Word) (j : Nat) : (s.setShadow a w).shadow j = if j = a then w else s.shadow j := KMap.get_put ..

@[simp] theorem State.shadow_setShadow_same (a : Nat) (w : Word) : (s.setShadow a w).shadow a = w := by simp [State.shadow_setShadow]

theorem State.shadow_setShadow_other (a : Nat) (w : Word) (j : Nat) (hj : j ≠ a) : (s.setShadow a w).shadow j = s.shadow j := by simp [State.shadow_setShadow, hj]

theorem State.cmd_setCmd (i k : Nat) (r : Option CmdRec) (i' k' : Nat) :
    (s.setCmd i k r).cmd i' k' = if i' * 64 + k' = i * 64 + k then r else s.cmd i' k' := KMap.get_put ..

@[simp] theorem State.cmd_setCmd_same (i k : Nat) (r : Option CmdRec) : (s.setCmd i k r).cmd i k = r := by
  simp [State.cmd_setCmd]

/-- The record of another tag of the same or another slot is not touched. -/
theorem State.cmd_setCmd_other (i k : Nat) (r : Option CmdRec) (i' k' : Nat) (h : k < 64) (h' : k' < 64) (hne : i' ≠ i ∨ k' ≠ k) :
    (s.setCmd i k r).cmd i' k' = s.cmd i' k' := by
  rw [State.cmd_setCmd, if_neg]; omega

/-- Readers that a write of another table leaves. -/

@[simp] theorem State.unit_setReg' (a : Nat) (w : Word) (q : Nat) : (s.setReg a w).unit q = s.unit q := rfl
@[simp] theorem State.sheaf_setReg' (a : Nat) (w : Word) (q : Nat) : (s.setReg a w).sheaf q = s.sheaf q := rfl
@[simp] theorem State.leg_setReg' (a : Nat) (w : Word) (q : Nat) : (s.setReg a w).leg q = s.leg q := rfl
@[simp] theorem State.slot_setReg' (a : Nat) (w : Word) (q : Nat) : (s.setReg a w).slot q = s.slot q := rfl
@[simp] theorem State.out_setReg' (a : Nat) (w : Word) (q : Nat) : (s.setReg a w).out q = s.out q := rfl
@[simp] theorem State.lane_setReg' (a : Nat) (w : Word) (q : Nat) : (s.setReg a w).lane q = s.lane q := rfl
@[simp] theorem State.carrier_setReg' (a : Nat) (w : Word) (q : Nat) : (s.setReg a w).carrier q = s.carrier q := rfl
@[simp] theorem State.pulse_setReg' (a : Nat) (w : Word) (q : Nat) : (s.setReg a w).pulse q = s.pulse q := rfl
@[simp] theorem State.port_setReg' (a : Nat) (w : Word) (q : Nat) : (s.setReg a w).port q = s.port q := rfl
@[simp] theorem State.fast_setReg' (a : Nat) (w : Word) (q : Nat) : (s.setReg a w).fast q = s.fast q := rfl
@[simp] theorem State.slow_setReg' (a : Nat) (w : Word) (q : Nat) : (s.setReg a w).slow q = s.slow q := rfl
@[simp] theorem State.actuator_setReg' (a : Nat) (w : Word) (q : Nat) : (s.setReg a w).actuator q = s.actuator q := rfl
@[simp] theorem State.heat_setReg' (a : Nat) (w : Word) (q : Nat) : (s.setReg a w).heat q = s.heat q := rfl
@[simp] theorem State.can_setReg' (a : Nat) (w : Word) (q : Nat) : (s.setReg a w).can q = s.can q := rfl
@[simp] theorem State.cmd_setReg' (a : Nat) (w : Word) (q z : Nat) : (s.setReg a w).cmd q z = s.cmd q z := rfl
@[simp] theorem State.unit_setShadow' (a : Nat) (w : Word) (q : Nat) : (s.setShadow a w).unit q = s.unit q := rfl
@[simp] theorem State.sheaf_setShadow' (a : Nat) (w : Word) (q : Nat) : (s.setShadow a w).sheaf q = s.sheaf q := rfl
@[simp] theorem State.leg_setShadow' (a : Nat) (w : Word) (q : Nat) : (s.setShadow a w).leg q = s.leg q := rfl
@[simp] theorem State.slot_setShadow' (a : Nat) (w : Word) (q : Nat) : (s.setShadow a w).slot q = s.slot q := rfl
@[simp] theorem State.out_setShadow' (a : Nat) (w : Word) (q : Nat) : (s.setShadow a w).out q = s.out q := rfl
@[simp] theorem State.lane_setShadow' (a : Nat) (w : Word) (q : Nat) : (s.setShadow a w).lane q = s.lane q := rfl
@[simp] theorem State.carrier_setShadow' (a : Nat) (w : Word) (q : Nat) : (s.setShadow a w).carrier q = s.carrier q := rfl
@[simp] theorem State.pulse_setShadow' (a : Nat) (w : Word) (q : Nat) : (s.setShadow a w).pulse q = s.pulse q := rfl
@[simp] theorem State.port_setShadow' (a : Nat) (w : Word) (q : Nat) : (s.setShadow a w).port q = s.port q := rfl
@[simp] theorem State.fast_setShadow' (a : Nat) (w : Word) (q : Nat) : (s.setShadow a w).fast q = s.fast q := rfl
@[simp] theorem State.slow_setShadow' (a : Nat) (w : Word) (q : Nat) : (s.setShadow a w).slow q = s.slow q := rfl
@[simp] theorem State.actuator_setShadow' (a : Nat) (w : Word) (q : Nat) : (s.setShadow a w).actuator q = s.actuator q := rfl
@[simp] theorem State.heat_setShadow' (a : Nat) (w : Word) (q : Nat) : (s.setShadow a w).heat q = s.heat q := rfl
@[simp] theorem State.can_setShadow' (a : Nat) (w : Word) (q : Nat) : (s.setShadow a w).can q = s.can q := rfl
@[simp] theorem State.reg_setShadow' (a : Nat) (w : Word) (q : Nat) : (s.setShadow a w).reg q = s.reg q := rfl
@[simp] theorem State.cmd_setShadow' (a : Nat) (w : Word) (q z : Nat) : (s.setShadow a w).cmd q z = s.cmd q z := rfl
@[simp] theorem State.unit_bump' (a : Nat) (q : Nat) : (s.bump a).unit q = s.unit q := rfl
@[simp] theorem State.sheaf_bump' (a : Nat) (q : Nat) : (s.bump a).sheaf q = s.sheaf q := rfl
@[simp] theorem State.leg_bump' (a : Nat) (q : Nat) : (s.bump a).leg q = s.leg q := rfl
@[simp] theorem State.slot_bump' (a : Nat) (q : Nat) : (s.bump a).slot q = s.slot q := rfl
@[simp] theorem State.out_bump' (a : Nat) (q : Nat) : (s.bump a).out q = s.out q := rfl
@[simp] theorem State.lane_bump' (a : Nat) (q : Nat) : (s.bump a).lane q = s.lane q := rfl
@[simp] theorem State.carrier_bump' (a : Nat) (q : Nat) : (s.bump a).carrier q = s.carrier q := rfl
@[simp] theorem State.pulse_bump' (a : Nat) (q : Nat) : (s.bump a).pulse q = s.pulse q := rfl
@[simp] theorem State.port_bump' (a : Nat) (q : Nat) : (s.bump a).port q = s.port q := rfl
@[simp] theorem State.fast_bump' (a : Nat) (q : Nat) : (s.bump a).fast q = s.fast q := rfl
@[simp] theorem State.slow_bump' (a : Nat) (q : Nat) : (s.bump a).slow q = s.slow q := rfl
@[simp] theorem State.actuator_bump' (a : Nat) (q : Nat) : (s.bump a).actuator q = s.actuator q := rfl
@[simp] theorem State.heat_bump' (a : Nat) (q : Nat) : (s.bump a).heat q = s.heat q := rfl
@[simp] theorem State.can_bump' (a : Nat) (q : Nat) : (s.bump a).can q = s.can q := rfl
@[simp] theorem State.cmd_bump' (a : Nat) (q z : Nat) : (s.bump a).cmd q z = s.cmd q z := rfl
@[simp] theorem State.sheaf_setUnit' (u : Nat) (r : UnitRec) (q : Nat) : (s.setUnit u r).sheaf q = s.sheaf q := rfl
@[simp] theorem State.leg_setUnit' (u : Nat) (r : UnitRec) (q : Nat) : (s.setUnit u r).leg q = s.leg q := rfl
@[simp] theorem State.slot_setUnit' (u : Nat) (r : UnitRec) (q : Nat) : (s.setUnit u r).slot q = s.slot q := rfl
@[simp] theorem State.out_setUnit' (u : Nat) (r : UnitRec) (q : Nat) : (s.setUnit u r).out q = s.out q := rfl
@[simp] theorem State.lane_setUnit' (u : Nat) (r : UnitRec) (q : Nat) : (s.setUnit u r).lane q = s.lane q := rfl
@[simp] theorem State.carrier_setUnit' (u : Nat) (r : UnitRec) (q : Nat) : (s.setUnit u r).carrier q = s.carrier q := rfl
@[simp] theorem State.pulse_setUnit' (u : Nat) (r : UnitRec) (q : Nat) : (s.setUnit u r).pulse q = s.pulse q := rfl
@[simp] theorem State.port_setUnit' (u : Nat) (r : UnitRec) (q : Nat) : (s.setUnit u r).port q = s.port q := rfl
@[simp] theorem State.fast_setUnit' (u : Nat) (r : UnitRec) (q : Nat) : (s.setUnit u r).fast q = s.fast q := rfl
@[simp] theorem State.slow_setUnit' (u : Nat) (r : UnitRec) (q : Nat) : (s.setUnit u r).slow q = s.slow q := rfl
@[simp] theorem State.actuator_setUnit' (u : Nat) (r : UnitRec) (q : Nat) : (s.setUnit u r).actuator q = s.actuator q := rfl
@[simp] theorem State.heat_setUnit' (u : Nat) (r : UnitRec) (q : Nat) : (s.setUnit u r).heat q = s.heat q := rfl
@[simp] theorem State.can_setUnit' (u : Nat) (r : UnitRec) (q : Nat) : (s.setUnit u r).can q = s.can q := rfl
@[simp] theorem State.reg_setUnit' (u : Nat) (r : UnitRec) (q : Nat) : (s.setUnit u r).reg q = s.reg q := rfl
@[simp] theorem State.cmd_setUnit' (u : Nat) (r : UnitRec) (q z : Nat) : (s.setUnit u r).cmd q z = s.cmd q z := rfl
@[simp] theorem State.unit_setSheaf' (n : Nat) (h : Sheaf) (q : Nat) : (s.setSheaf n h).unit q = s.unit q := rfl
@[simp] theorem State.leg_setSheaf' (n : Nat) (h : Sheaf) (q : Nat) : (s.setSheaf n h).leg q = s.leg q := rfl
@[simp] theorem State.slot_setSheaf' (n : Nat) (h : Sheaf) (q : Nat) : (s.setSheaf n h).slot q = s.slot q := rfl
@[simp] theorem State.out_setSheaf' (n : Nat) (h : Sheaf) (q : Nat) : (s.setSheaf n h).out q = s.out q := rfl
@[simp] theorem State.lane_setSheaf' (n : Nat) (h : Sheaf) (q : Nat) : (s.setSheaf n h).lane q = s.lane q := rfl
@[simp] theorem State.carrier_setSheaf' (n : Nat) (h : Sheaf) (q : Nat) : (s.setSheaf n h).carrier q = s.carrier q := rfl
@[simp] theorem State.pulse_setSheaf' (n : Nat) (h : Sheaf) (q : Nat) : (s.setSheaf n h).pulse q = s.pulse q := rfl
@[simp] theorem State.port_setSheaf' (n : Nat) (h : Sheaf) (q : Nat) : (s.setSheaf n h).port q = s.port q := rfl
@[simp] theorem State.fast_setSheaf' (n : Nat) (h : Sheaf) (q : Nat) : (s.setSheaf n h).fast q = s.fast q := rfl
@[simp] theorem State.slow_setSheaf' (n : Nat) (h : Sheaf) (q : Nat) : (s.setSheaf n h).slow q = s.slow q := rfl
@[simp] theorem State.actuator_setSheaf' (n : Nat) (h : Sheaf) (q : Nat) : (s.setSheaf n h).actuator q = s.actuator q := rfl
@[simp] theorem State.heat_setSheaf' (n : Nat) (h : Sheaf) (q : Nat) : (s.setSheaf n h).heat q = s.heat q := rfl
@[simp] theorem State.can_setSheaf' (n : Nat) (h : Sheaf) (q : Nat) : (s.setSheaf n h).can q = s.can q := rfl
@[simp] theorem State.reg_setSheaf' (n : Nat) (h : Sheaf) (q : Nat) : (s.setSheaf n h).reg q = s.reg q := rfl
@[simp] theorem State.cmd_setSheaf' (n : Nat) (h : Sheaf) (q z : Nat) : (s.setSheaf n h).cmd q z = s.cmd q z := rfl
@[simp] theorem State.unit_setLeg' (n : Nat) (l : Leg) (q : Nat) : (s.setLeg n l).unit q = s.unit q := rfl
@[simp] theorem State.sheaf_setLeg' (n : Nat) (l : Leg) (q : Nat) : (s.setLeg n l).sheaf q = s.sheaf q := rfl
@[simp] theorem State.slot_setLeg' (n : Nat) (l : Leg) (q : Nat) : (s.setLeg n l).slot q = s.slot q := rfl
@[simp] theorem State.out_setLeg' (n : Nat) (l : Leg) (q : Nat) : (s.setLeg n l).out q = s.out q := rfl
@[simp] theorem State.lane_setLeg' (n : Nat) (l : Leg) (q : Nat) : (s.setLeg n l).lane q = s.lane q := rfl
@[simp] theorem State.carrier_setLeg' (n : Nat) (l : Leg) (q : Nat) : (s.setLeg n l).carrier q = s.carrier q := rfl
@[simp] theorem State.pulse_setLeg' (n : Nat) (l : Leg) (q : Nat) : (s.setLeg n l).pulse q = s.pulse q := rfl
@[simp] theorem State.port_setLeg' (n : Nat) (l : Leg) (q : Nat) : (s.setLeg n l).port q = s.port q := rfl
@[simp] theorem State.fast_setLeg' (n : Nat) (l : Leg) (q : Nat) : (s.setLeg n l).fast q = s.fast q := rfl
@[simp] theorem State.slow_setLeg' (n : Nat) (l : Leg) (q : Nat) : (s.setLeg n l).slow q = s.slow q := rfl
@[simp] theorem State.actuator_setLeg' (n : Nat) (l : Leg) (q : Nat) : (s.setLeg n l).actuator q = s.actuator q := rfl
@[simp] theorem State.heat_setLeg' (n : Nat) (l : Leg) (q : Nat) : (s.setLeg n l).heat q = s.heat q := rfl
@[simp] theorem State.can_setLeg' (n : Nat) (l : Leg) (q : Nat) : (s.setLeg n l).can q = s.can q := rfl
@[simp] theorem State.reg_setLeg' (n : Nat) (l : Leg) (q : Nat) : (s.setLeg n l).reg q = s.reg q := rfl
@[simp] theorem State.cmd_setLeg' (n : Nat) (l : Leg) (q z : Nat) : (s.setLeg n l).cmd q z = s.cmd q z := rfl
@[simp] theorem State.unit_setSlot' (n : Nat) (h : HostSlot) (q : Nat) : (s.setSlot n h).unit q = s.unit q := rfl
@[simp] theorem State.sheaf_setSlot' (n : Nat) (h : HostSlot) (q : Nat) : (s.setSlot n h).sheaf q = s.sheaf q := rfl
@[simp] theorem State.leg_setSlot' (n : Nat) (h : HostSlot) (q : Nat) : (s.setSlot n h).leg q = s.leg q := rfl
@[simp] theorem State.out_setSlot' (n : Nat) (h : HostSlot) (q : Nat) : (s.setSlot n h).out q = s.out q := rfl
@[simp] theorem State.lane_setSlot' (n : Nat) (h : HostSlot) (q : Nat) : (s.setSlot n h).lane q = s.lane q := rfl
@[simp] theorem State.carrier_setSlot' (n : Nat) (h : HostSlot) (q : Nat) : (s.setSlot n h).carrier q = s.carrier q := rfl
@[simp] theorem State.pulse_setSlot' (n : Nat) (h : HostSlot) (q : Nat) : (s.setSlot n h).pulse q = s.pulse q := rfl
@[simp] theorem State.port_setSlot' (n : Nat) (h : HostSlot) (q : Nat) : (s.setSlot n h).port q = s.port q := rfl
@[simp] theorem State.fast_setSlot' (n : Nat) (h : HostSlot) (q : Nat) : (s.setSlot n h).fast q = s.fast q := rfl
@[simp] theorem State.slow_setSlot' (n : Nat) (h : HostSlot) (q : Nat) : (s.setSlot n h).slow q = s.slow q := rfl
@[simp] theorem State.actuator_setSlot' (n : Nat) (h : HostSlot) (q : Nat) : (s.setSlot n h).actuator q = s.actuator q := rfl
@[simp] theorem State.heat_setSlot' (n : Nat) (h : HostSlot) (q : Nat) : (s.setSlot n h).heat q = s.heat q := rfl
@[simp] theorem State.can_setSlot' (n : Nat) (h : HostSlot) (q : Nat) : (s.setSlot n h).can q = s.can q := rfl
@[simp] theorem State.reg_setSlot' (n : Nat) (h : HostSlot) (q : Nat) : (s.setSlot n h).reg q = s.reg q := rfl
@[simp] theorem State.cmd_setSlot' (n : Nat) (h : HostSlot) (q z : Nat) : (s.setSlot n h).cmd q z = s.cmd q z := rfl
@[simp] theorem State.unit_setCmd' (i j : Nat) (r : Option CmdRec) (q : Nat) : (s.setCmd i j r).unit q = s.unit q := rfl
@[simp] theorem State.sheaf_setCmd' (i j : Nat) (r : Option CmdRec) (q : Nat) : (s.setCmd i j r).sheaf q = s.sheaf q := rfl
@[simp] theorem State.leg_setCmd' (i j : Nat) (r : Option CmdRec) (q : Nat) : (s.setCmd i j r).leg q = s.leg q := rfl
@[simp] theorem State.slot_setCmd' (i j : Nat) (r : Option CmdRec) (q : Nat) : (s.setCmd i j r).slot q = s.slot q := rfl
@[simp] theorem State.out_setCmd' (i j : Nat) (r : Option CmdRec) (q : Nat) : (s.setCmd i j r).out q = s.out q := rfl
@[simp] theorem State.lane_setCmd' (i j : Nat) (r : Option CmdRec) (q : Nat) : (s.setCmd i j r).lane q = s.lane q := rfl
@[simp] theorem State.carrier_setCmd' (i j : Nat) (r : Option CmdRec) (q : Nat) : (s.setCmd i j r).carrier q = s.carrier q := rfl
@[simp] theorem State.pulse_setCmd' (i j : Nat) (r : Option CmdRec) (q : Nat) : (s.setCmd i j r).pulse q = s.pulse q := rfl
@[simp] theorem State.port_setCmd' (i j : Nat) (r : Option CmdRec) (q : Nat) : (s.setCmd i j r).port q = s.port q := rfl
@[simp] theorem State.fast_setCmd' (i j : Nat) (r : Option CmdRec) (q : Nat) : (s.setCmd i j r).fast q = s.fast q := rfl
@[simp] theorem State.slow_setCmd' (i j : Nat) (r : Option CmdRec) (q : Nat) : (s.setCmd i j r).slow q = s.slow q := rfl
@[simp] theorem State.actuator_setCmd' (i j : Nat) (r : Option CmdRec) (q : Nat) : (s.setCmd i j r).actuator q = s.actuator q := rfl
@[simp] theorem State.heat_setCmd' (i j : Nat) (r : Option CmdRec) (q : Nat) : (s.setCmd i j r).heat q = s.heat q := rfl
@[simp] theorem State.can_setCmd' (i j : Nat) (r : Option CmdRec) (q : Nat) : (s.setCmd i j r).can q = s.can q := rfl
@[simp] theorem State.reg_setCmd' (i j : Nat) (r : Option CmdRec) (q : Nat) : (s.setCmd i j r).reg q = s.reg q := rfl
@[simp] theorem State.unit_setOut' (n : Nat) (o : Output) (q : Nat) : (s.setOut n o).unit q = s.unit q := rfl
@[simp] theorem State.sheaf_setOut' (n : Nat) (o : Output) (q : Nat) : (s.setOut n o).sheaf q = s.sheaf q := rfl
@[simp] theorem State.leg_setOut' (n : Nat) (o : Output) (q : Nat) : (s.setOut n o).leg q = s.leg q := rfl
@[simp] theorem State.slot_setOut' (n : Nat) (o : Output) (q : Nat) : (s.setOut n o).slot q = s.slot q := rfl
@[simp] theorem State.lane_setOut' (n : Nat) (o : Output) (q : Nat) : (s.setOut n o).lane q = s.lane q := rfl
@[simp] theorem State.carrier_setOut' (n : Nat) (o : Output) (q : Nat) : (s.setOut n o).carrier q = s.carrier q := rfl
@[simp] theorem State.pulse_setOut' (n : Nat) (o : Output) (q : Nat) : (s.setOut n o).pulse q = s.pulse q := rfl
@[simp] theorem State.port_setOut' (n : Nat) (o : Output) (q : Nat) : (s.setOut n o).port q = s.port q := rfl
@[simp] theorem State.fast_setOut' (n : Nat) (o : Output) (q : Nat) : (s.setOut n o).fast q = s.fast q := rfl
@[simp] theorem State.slow_setOut' (n : Nat) (o : Output) (q : Nat) : (s.setOut n o).slow q = s.slow q := rfl
@[simp] theorem State.actuator_setOut' (n : Nat) (o : Output) (q : Nat) : (s.setOut n o).actuator q = s.actuator q := rfl
@[simp] theorem State.heat_setOut' (n : Nat) (o : Output) (q : Nat) : (s.setOut n o).heat q = s.heat q := rfl
@[simp] theorem State.can_setOut' (n : Nat) (o : Output) (q : Nat) : (s.setOut n o).can q = s.can q := rfl
@[simp] theorem State.reg_setOut' (n : Nat) (o : Output) (q : Nat) : (s.setOut n o).reg q = s.reg q := rfl
@[simp] theorem State.cmd_setOut' (n : Nat) (o : Output) (q z : Nat) : (s.setOut n o).cmd q z = s.cmd q z := rfl
@[simp] theorem State.unit_setLane' (n : Nat) (l : Lane) (q : Nat) : (s.setLane n l).unit q = s.unit q := rfl
@[simp] theorem State.sheaf_setLane' (n : Nat) (l : Lane) (q : Nat) : (s.setLane n l).sheaf q = s.sheaf q := rfl
@[simp] theorem State.leg_setLane' (n : Nat) (l : Lane) (q : Nat) : (s.setLane n l).leg q = s.leg q := rfl
@[simp] theorem State.slot_setLane' (n : Nat) (l : Lane) (q : Nat) : (s.setLane n l).slot q = s.slot q := rfl
@[simp] theorem State.out_setLane' (n : Nat) (l : Lane) (q : Nat) : (s.setLane n l).out q = s.out q := rfl
@[simp] theorem State.carrier_setLane' (n : Nat) (l : Lane) (q : Nat) : (s.setLane n l).carrier q = s.carrier q := rfl
@[simp] theorem State.pulse_setLane' (n : Nat) (l : Lane) (q : Nat) : (s.setLane n l).pulse q = s.pulse q := rfl
@[simp] theorem State.port_setLane' (n : Nat) (l : Lane) (q : Nat) : (s.setLane n l).port q = s.port q := rfl
@[simp] theorem State.fast_setLane' (n : Nat) (l : Lane) (q : Nat) : (s.setLane n l).fast q = s.fast q := rfl
@[simp] theorem State.slow_setLane' (n : Nat) (l : Lane) (q : Nat) : (s.setLane n l).slow q = s.slow q := rfl
@[simp] theorem State.actuator_setLane' (n : Nat) (l : Lane) (q : Nat) : (s.setLane n l).actuator q = s.actuator q := rfl
@[simp] theorem State.heat_setLane' (n : Nat) (l : Lane) (q : Nat) : (s.setLane n l).heat q = s.heat q := rfl
@[simp] theorem State.can_setLane' (n : Nat) (l : Lane) (q : Nat) : (s.setLane n l).can q = s.can q := rfl
@[simp] theorem State.reg_setLane' (n : Nat) (l : Lane) (q : Nat) : (s.setLane n l).reg q = s.reg q := rfl
@[simp] theorem State.cmd_setLane' (n : Nat) (l : Lane) (q z : Nat) : (s.setLane n l).cmd q z = s.cmd q z := rfl
@[simp] theorem State.unit_setCarrier' (n : Nat) (c : Carrier) (q : Nat) : (s.setCarrier n c).unit q = s.unit q := rfl
@[simp] theorem State.sheaf_setCarrier' (n : Nat) (c : Carrier) (q : Nat) : (s.setCarrier n c).sheaf q = s.sheaf q := rfl
@[simp] theorem State.leg_setCarrier' (n : Nat) (c : Carrier) (q : Nat) : (s.setCarrier n c).leg q = s.leg q := rfl
@[simp] theorem State.slot_setCarrier' (n : Nat) (c : Carrier) (q : Nat) : (s.setCarrier n c).slot q = s.slot q := rfl
@[simp] theorem State.out_setCarrier' (n : Nat) (c : Carrier) (q : Nat) : (s.setCarrier n c).out q = s.out q := rfl
@[simp] theorem State.lane_setCarrier' (n : Nat) (c : Carrier) (q : Nat) : (s.setCarrier n c).lane q = s.lane q := rfl
@[simp] theorem State.pulse_setCarrier' (n : Nat) (c : Carrier) (q : Nat) : (s.setCarrier n c).pulse q = s.pulse q := rfl
@[simp] theorem State.port_setCarrier' (n : Nat) (c : Carrier) (q : Nat) : (s.setCarrier n c).port q = s.port q := rfl
@[simp] theorem State.fast_setCarrier' (n : Nat) (c : Carrier) (q : Nat) : (s.setCarrier n c).fast q = s.fast q := rfl
@[simp] theorem State.slow_setCarrier' (n : Nat) (c : Carrier) (q : Nat) : (s.setCarrier n c).slow q = s.slow q := rfl
@[simp] theorem State.actuator_setCarrier' (n : Nat) (c : Carrier) (q : Nat) : (s.setCarrier n c).actuator q = s.actuator q := rfl
@[simp] theorem State.heat_setCarrier' (n : Nat) (c : Carrier) (q : Nat) : (s.setCarrier n c).heat q = s.heat q := rfl
@[simp] theorem State.can_setCarrier' (n : Nat) (c : Carrier) (q : Nat) : (s.setCarrier n c).can q = s.can q := rfl
@[simp] theorem State.reg_setCarrier' (n : Nat) (c : Carrier) (q : Nat) : (s.setCarrier n c).reg q = s.reg q := rfl
@[simp] theorem State.cmd_setCarrier' (n : Nat) (c : Carrier) (q z : Nat) : (s.setCarrier n c).cmd q z = s.cmd q z := rfl
@[simp] theorem State.unit_setGroup' (n g : Nat) (x : Group) (q : Nat) : (s.setGroup n g x).unit q = s.unit q := rfl
@[simp] theorem State.sheaf_setGroup' (n g : Nat) (x : Group) (q : Nat) : (s.setGroup n g x).sheaf q = s.sheaf q := rfl
@[simp] theorem State.leg_setGroup' (n g : Nat) (x : Group) (q : Nat) : (s.setGroup n g x).leg q = s.leg q := rfl
@[simp] theorem State.slot_setGroup' (n g : Nat) (x : Group) (q : Nat) : (s.setGroup n g x).slot q = s.slot q := rfl
@[simp] theorem State.out_setGroup' (n g : Nat) (x : Group) (q : Nat) : (s.setGroup n g x).out q = s.out q := rfl
@[simp] theorem State.lane_setGroup' (n g : Nat) (x : Group) (q : Nat) : (s.setGroup n g x).lane q = s.lane q := rfl
@[simp] theorem State.carrier_setGroup' (n g : Nat) (x : Group) (q : Nat) : (s.setGroup n g x).carrier q = s.carrier q := rfl
@[simp] theorem State.pulse_setGroup' (n g : Nat) (x : Group) (q : Nat) : (s.setGroup n g x).pulse q = s.pulse q := rfl
@[simp] theorem State.port_setGroup' (n g : Nat) (x : Group) (q : Nat) : (s.setGroup n g x).port q = s.port q := rfl
@[simp] theorem State.fast_setGroup' (n g : Nat) (x : Group) (q : Nat) : (s.setGroup n g x).fast q = s.fast q := rfl
@[simp] theorem State.slow_setGroup' (n g : Nat) (x : Group) (q : Nat) : (s.setGroup n g x).slow q = s.slow q := rfl
@[simp] theorem State.actuator_setGroup' (n g : Nat) (x : Group) (q : Nat) : (s.setGroup n g x).actuator q = s.actuator q := rfl
@[simp] theorem State.heat_setGroup' (n g : Nat) (x : Group) (q : Nat) : (s.setGroup n g x).heat q = s.heat q := rfl
@[simp] theorem State.can_setGroup' (n g : Nat) (x : Group) (q : Nat) : (s.setGroup n g x).can q = s.can q := rfl
@[simp] theorem State.reg_setGroup' (n g : Nat) (x : Group) (q : Nat) : (s.setGroup n g x).reg q = s.reg q := rfl
@[simp] theorem State.cmd_setGroup' (n g : Nat) (x : Group) (q z : Nat) : (s.setGroup n g x).cmd q z = s.cmd q z := rfl
@[simp] theorem State.unit_setPulse' (n : Nat) (x : Pulse) (q : Nat) : (s.setPulse n x).unit q = s.unit q := rfl
@[simp] theorem State.sheaf_setPulse' (n : Nat) (x : Pulse) (q : Nat) : (s.setPulse n x).sheaf q = s.sheaf q := rfl
@[simp] theorem State.leg_setPulse' (n : Nat) (x : Pulse) (q : Nat) : (s.setPulse n x).leg q = s.leg q := rfl
@[simp] theorem State.slot_setPulse' (n : Nat) (x : Pulse) (q : Nat) : (s.setPulse n x).slot q = s.slot q := rfl
@[simp] theorem State.out_setPulse' (n : Nat) (x : Pulse) (q : Nat) : (s.setPulse n x).out q = s.out q := rfl
@[simp] theorem State.lane_setPulse' (n : Nat) (x : Pulse) (q : Nat) : (s.setPulse n x).lane q = s.lane q := rfl
@[simp] theorem State.carrier_setPulse' (n : Nat) (x : Pulse) (q : Nat) : (s.setPulse n x).carrier q = s.carrier q := rfl
@[simp] theorem State.port_setPulse' (n : Nat) (x : Pulse) (q : Nat) : (s.setPulse n x).port q = s.port q := rfl
@[simp] theorem State.fast_setPulse' (n : Nat) (x : Pulse) (q : Nat) : (s.setPulse n x).fast q = s.fast q := rfl
@[simp] theorem State.slow_setPulse' (n : Nat) (x : Pulse) (q : Nat) : (s.setPulse n x).slow q = s.slow q := rfl
@[simp] theorem State.actuator_setPulse' (n : Nat) (x : Pulse) (q : Nat) : (s.setPulse n x).actuator q = s.actuator q := rfl
@[simp] theorem State.heat_setPulse' (n : Nat) (x : Pulse) (q : Nat) : (s.setPulse n x).heat q = s.heat q := rfl
@[simp] theorem State.can_setPulse' (n : Nat) (x : Pulse) (q : Nat) : (s.setPulse n x).can q = s.can q := rfl
@[simp] theorem State.reg_setPulse' (n : Nat) (x : Pulse) (q : Nat) : (s.setPulse n x).reg q = s.reg q := rfl
@[simp] theorem State.cmd_setPulse' (n : Nat) (x : Pulse) (q z : Nat) : (s.setPulse n x).cmd q z = s.cmd q z := rfl
@[simp] theorem State.unit_setPort' (n : Nat) (p : Port) (q : Nat) : (s.setPort n p).unit q = s.unit q := rfl
@[simp] theorem State.sheaf_setPort' (n : Nat) (p : Port) (q : Nat) : (s.setPort n p).sheaf q = s.sheaf q := rfl
@[simp] theorem State.leg_setPort' (n : Nat) (p : Port) (q : Nat) : (s.setPort n p).leg q = s.leg q := rfl
@[simp] theorem State.slot_setPort' (n : Nat) (p : Port) (q : Nat) : (s.setPort n p).slot q = s.slot q := rfl
@[simp] theorem State.out_setPort' (n : Nat) (p : Port) (q : Nat) : (s.setPort n p).out q = s.out q := rfl
@[simp] theorem State.lane_setPort' (n : Nat) (p : Port) (q : Nat) : (s.setPort n p).lane q = s.lane q := rfl
@[simp] theorem State.carrier_setPort' (n : Nat) (p : Port) (q : Nat) : (s.setPort n p).carrier q = s.carrier q := rfl
@[simp] theorem State.pulse_setPort' (n : Nat) (p : Port) (q : Nat) : (s.setPort n p).pulse q = s.pulse q := rfl
@[simp] theorem State.fast_setPort' (n : Nat) (p : Port) (q : Nat) : (s.setPort n p).fast q = s.fast q := rfl
@[simp] theorem State.slow_setPort' (n : Nat) (p : Port) (q : Nat) : (s.setPort n p).slow q = s.slow q := rfl
@[simp] theorem State.actuator_setPort' (n : Nat) (p : Port) (q : Nat) : (s.setPort n p).actuator q = s.actuator q := rfl
@[simp] theorem State.heat_setPort' (n : Nat) (p : Port) (q : Nat) : (s.setPort n p).heat q = s.heat q := rfl
@[simp] theorem State.can_setPort' (n : Nat) (p : Port) (q : Nat) : (s.setPort n p).can q = s.can q := rfl
@[simp] theorem State.reg_setPort' (n : Nat) (p : Port) (q : Nat) : (s.setPort n p).reg q = s.reg q := rfl
@[simp] theorem State.cmd_setPort' (n : Nat) (p : Port) (q z : Nat) : (s.setPort n p).cmd q z = s.cmd q z := rfl
@[simp] theorem State.unit_setFast' (n : Nat) (c : Fast) (q : Nat) : (s.setFast n c).unit q = s.unit q := rfl
@[simp] theorem State.sheaf_setFast' (n : Nat) (c : Fast) (q : Nat) : (s.setFast n c).sheaf q = s.sheaf q := rfl
@[simp] theorem State.leg_setFast' (n : Nat) (c : Fast) (q : Nat) : (s.setFast n c).leg q = s.leg q := rfl
@[simp] theorem State.slot_setFast' (n : Nat) (c : Fast) (q : Nat) : (s.setFast n c).slot q = s.slot q := rfl
@[simp] theorem State.out_setFast' (n : Nat) (c : Fast) (q : Nat) : (s.setFast n c).out q = s.out q := rfl
@[simp] theorem State.lane_setFast' (n : Nat) (c : Fast) (q : Nat) : (s.setFast n c).lane q = s.lane q := rfl
@[simp] theorem State.carrier_setFast' (n : Nat) (c : Fast) (q : Nat) : (s.setFast n c).carrier q = s.carrier q := rfl
@[simp] theorem State.pulse_setFast' (n : Nat) (c : Fast) (q : Nat) : (s.setFast n c).pulse q = s.pulse q := rfl
@[simp] theorem State.port_setFast' (n : Nat) (c : Fast) (q : Nat) : (s.setFast n c).port q = s.port q := rfl
@[simp] theorem State.slow_setFast' (n : Nat) (c : Fast) (q : Nat) : (s.setFast n c).slow q = s.slow q := rfl
@[simp] theorem State.actuator_setFast' (n : Nat) (c : Fast) (q : Nat) : (s.setFast n c).actuator q = s.actuator q := rfl
@[simp] theorem State.heat_setFast' (n : Nat) (c : Fast) (q : Nat) : (s.setFast n c).heat q = s.heat q := rfl
@[simp] theorem State.can_setFast' (n : Nat) (c : Fast) (q : Nat) : (s.setFast n c).can q = s.can q := rfl
@[simp] theorem State.reg_setFast' (n : Nat) (c : Fast) (q : Nat) : (s.setFast n c).reg q = s.reg q := rfl
@[simp] theorem State.cmd_setFast' (n : Nat) (c : Fast) (q z : Nat) : (s.setFast n c).cmd q z = s.cmd q z := rfl
@[simp] theorem State.unit_setSlow' (n : Nat) (c : Slow) (q : Nat) : (s.setSlow n c).unit q = s.unit q := rfl
@[simp] theorem State.sheaf_setSlow' (n : Nat) (c : Slow) (q : Nat) : (s.setSlow n c).sheaf q = s.sheaf q := rfl
@[simp] theorem State.leg_setSlow' (n : Nat) (c : Slow) (q : Nat) : (s.setSlow n c).leg q = s.leg q := rfl
@[simp] theorem State.slot_setSlow' (n : Nat) (c : Slow) (q : Nat) : (s.setSlow n c).slot q = s.slot q := rfl
@[simp] theorem State.out_setSlow' (n : Nat) (c : Slow) (q : Nat) : (s.setSlow n c).out q = s.out q := rfl
@[simp] theorem State.lane_setSlow' (n : Nat) (c : Slow) (q : Nat) : (s.setSlow n c).lane q = s.lane q := rfl
@[simp] theorem State.carrier_setSlow' (n : Nat) (c : Slow) (q : Nat) : (s.setSlow n c).carrier q = s.carrier q := rfl
@[simp] theorem State.pulse_setSlow' (n : Nat) (c : Slow) (q : Nat) : (s.setSlow n c).pulse q = s.pulse q := rfl
@[simp] theorem State.port_setSlow' (n : Nat) (c : Slow) (q : Nat) : (s.setSlow n c).port q = s.port q := rfl
@[simp] theorem State.fast_setSlow' (n : Nat) (c : Slow) (q : Nat) : (s.setSlow n c).fast q = s.fast q := rfl
@[simp] theorem State.actuator_setSlow' (n : Nat) (c : Slow) (q : Nat) : (s.setSlow n c).actuator q = s.actuator q := rfl
@[simp] theorem State.heat_setSlow' (n : Nat) (c : Slow) (q : Nat) : (s.setSlow n c).heat q = s.heat q := rfl
@[simp] theorem State.can_setSlow' (n : Nat) (c : Slow) (q : Nat) : (s.setSlow n c).can q = s.can q := rfl
@[simp] theorem State.reg_setSlow' (n : Nat) (c : Slow) (q : Nat) : (s.setSlow n c).reg q = s.reg q := rfl
@[simp] theorem State.cmd_setSlow' (n : Nat) (c : Slow) (q z : Nat) : (s.setSlow n c).cmd q z = s.cmd q z := rfl
@[simp] theorem State.unit_setActuator' (k : Nat) (a : ActRun) (q : Nat) : (s.setActuator k a).unit q = s.unit q := rfl
@[simp] theorem State.sheaf_setActuator' (k : Nat) (a : ActRun) (q : Nat) : (s.setActuator k a).sheaf q = s.sheaf q := rfl
@[simp] theorem State.leg_setActuator' (k : Nat) (a : ActRun) (q : Nat) : (s.setActuator k a).leg q = s.leg q := rfl
@[simp] theorem State.slot_setActuator' (k : Nat) (a : ActRun) (q : Nat) : (s.setActuator k a).slot q = s.slot q := rfl
@[simp] theorem State.out_setActuator' (k : Nat) (a : ActRun) (q : Nat) : (s.setActuator k a).out q = s.out q := rfl
@[simp] theorem State.lane_setActuator' (k : Nat) (a : ActRun) (q : Nat) : (s.setActuator k a).lane q = s.lane q := rfl
@[simp] theorem State.carrier_setActuator' (k : Nat) (a : ActRun) (q : Nat) : (s.setActuator k a).carrier q = s.carrier q := rfl
@[simp] theorem State.pulse_setActuator' (k : Nat) (a : ActRun) (q : Nat) : (s.setActuator k a).pulse q = s.pulse q := rfl
@[simp] theorem State.port_setActuator' (k : Nat) (a : ActRun) (q : Nat) : (s.setActuator k a).port q = s.port q := rfl
@[simp] theorem State.fast_setActuator' (k : Nat) (a : ActRun) (q : Nat) : (s.setActuator k a).fast q = s.fast q := rfl
@[simp] theorem State.slow_setActuator' (k : Nat) (a : ActRun) (q : Nat) : (s.setActuator k a).slow q = s.slow q := rfl
@[simp] theorem State.heat_setActuator' (k : Nat) (a : ActRun) (q : Nat) : (s.setActuator k a).heat q = s.heat q := rfl
@[simp] theorem State.can_setActuator' (k : Nat) (a : ActRun) (q : Nat) : (s.setActuator k a).can q = s.can q := rfl
@[simp] theorem State.reg_setActuator' (k : Nat) (a : ActRun) (q : Nat) : (s.setActuator k a).reg q = s.reg q := rfl
@[simp] theorem State.cmd_setActuator' (k : Nat) (a : ActRun) (q z : Nat) : (s.setActuator k a).cmd q z = s.cmd q z := rfl
@[simp] theorem State.unit_setHeat' (k : Nat) (h : Heat) (q : Nat) : (s.setHeat k h).unit q = s.unit q := rfl
@[simp] theorem State.sheaf_setHeat' (k : Nat) (h : Heat) (q : Nat) : (s.setHeat k h).sheaf q = s.sheaf q := rfl
@[simp] theorem State.leg_setHeat' (k : Nat) (h : Heat) (q : Nat) : (s.setHeat k h).leg q = s.leg q := rfl
@[simp] theorem State.slot_setHeat' (k : Nat) (h : Heat) (q : Nat) : (s.setHeat k h).slot q = s.slot q := rfl
@[simp] theorem State.out_setHeat' (k : Nat) (h : Heat) (q : Nat) : (s.setHeat k h).out q = s.out q := rfl
@[simp] theorem State.lane_setHeat' (k : Nat) (h : Heat) (q : Nat) : (s.setHeat k h).lane q = s.lane q := rfl
@[simp] theorem State.carrier_setHeat' (k : Nat) (h : Heat) (q : Nat) : (s.setHeat k h).carrier q = s.carrier q := rfl
@[simp] theorem State.pulse_setHeat' (k : Nat) (h : Heat) (q : Nat) : (s.setHeat k h).pulse q = s.pulse q := rfl
@[simp] theorem State.port_setHeat' (k : Nat) (h : Heat) (q : Nat) : (s.setHeat k h).port q = s.port q := rfl
@[simp] theorem State.fast_setHeat' (k : Nat) (h : Heat) (q : Nat) : (s.setHeat k h).fast q = s.fast q := rfl
@[simp] theorem State.slow_setHeat' (k : Nat) (h : Heat) (q : Nat) : (s.setHeat k h).slow q = s.slow q := rfl
@[simp] theorem State.actuator_setHeat' (k : Nat) (h : Heat) (q : Nat) : (s.setHeat k h).actuator q = s.actuator q := rfl
@[simp] theorem State.can_setHeat' (k : Nat) (h : Heat) (q : Nat) : (s.setHeat k h).can q = s.can q := rfl
@[simp] theorem State.reg_setHeat' (k : Nat) (h : Heat) (q : Nat) : (s.setHeat k h).reg q = s.reg q := rfl
@[simp] theorem State.cmd_setHeat' (k : Nat) (h : Heat) (q z : Nat) : (s.setHeat k h).cmd q z = s.cmd q z := rfl
@[simp] theorem State.unit_setCan' (n : Nat) (c : Can) (q : Nat) : (s.setCan n c).unit q = s.unit q := rfl
@[simp] theorem State.sheaf_setCan' (n : Nat) (c : Can) (q : Nat) : (s.setCan n c).sheaf q = s.sheaf q := rfl
@[simp] theorem State.leg_setCan' (n : Nat) (c : Can) (q : Nat) : (s.setCan n c).leg q = s.leg q := rfl
@[simp] theorem State.slot_setCan' (n : Nat) (c : Can) (q : Nat) : (s.setCan n c).slot q = s.slot q := rfl
@[simp] theorem State.out_setCan' (n : Nat) (c : Can) (q : Nat) : (s.setCan n c).out q = s.out q := rfl
@[simp] theorem State.lane_setCan' (n : Nat) (c : Can) (q : Nat) : (s.setCan n c).lane q = s.lane q := rfl
@[simp] theorem State.carrier_setCan' (n : Nat) (c : Can) (q : Nat) : (s.setCan n c).carrier q = s.carrier q := rfl
@[simp] theorem State.pulse_setCan' (n : Nat) (c : Can) (q : Nat) : (s.setCan n c).pulse q = s.pulse q := rfl
@[simp] theorem State.port_setCan' (n : Nat) (c : Can) (q : Nat) : (s.setCan n c).port q = s.port q := rfl
@[simp] theorem State.fast_setCan' (n : Nat) (c : Can) (q : Nat) : (s.setCan n c).fast q = s.fast q := rfl
@[simp] theorem State.slow_setCan' (n : Nat) (c : Can) (q : Nat) : (s.setCan n c).slow q = s.slow q := rfl
@[simp] theorem State.actuator_setCan' (n : Nat) (c : Can) (q : Nat) : (s.setCan n c).actuator q = s.actuator q := rfl
@[simp] theorem State.heat_setCan' (n : Nat) (c : Can) (q : Nat) : (s.setCan n c).heat q = s.heat q := rfl
@[simp] theorem State.reg_setCan' (n : Nat) (c : Can) (q : Nat) : (s.setCan n c).reg q = s.reg q := rfl
@[simp] theorem State.cmd_setCan' (n : Nat) (c : Can) (q z : Nat) : (s.setCan n c).cmd q z = s.cmd q z := rfl
@[simp] theorem State.unit_useFree' (q : Nat) : (s.useFree).unit q = s.unit q := rfl
@[simp] theorem State.sheaf_useFree' (q : Nat) : (s.useFree).sheaf q = s.sheaf q := rfl
@[simp] theorem State.leg_useFree' (q : Nat) : (s.useFree).leg q = s.leg q := rfl
@[simp] theorem State.slot_useFree' (q : Nat) : (s.useFree).slot q = s.slot q := rfl
@[simp] theorem State.out_useFree' (q : Nat) : (s.useFree).out q = s.out q := rfl
@[simp] theorem State.lane_useFree' (q : Nat) : (s.useFree).lane q = s.lane q := rfl
@[simp] theorem State.carrier_useFree' (q : Nat) : (s.useFree).carrier q = s.carrier q := rfl
@[simp] theorem State.pulse_useFree' (q : Nat) : (s.useFree).pulse q = s.pulse q := rfl
@[simp] theorem State.port_useFree' (q : Nat) : (s.useFree).port q = s.port q := rfl
@[simp] theorem State.fast_useFree' (q : Nat) : (s.useFree).fast q = s.fast q := rfl
@[simp] theorem State.slow_useFree' (q : Nat) : (s.useFree).slow q = s.slow q := rfl
@[simp] theorem State.actuator_useFree' (q : Nat) : (s.useFree).actuator q = s.actuator q := rfl
@[simp] theorem State.heat_useFree' (q : Nat) : (s.useFree).heat q = s.heat q := rfl
@[simp] theorem State.can_useFree' (q : Nat) : (s.useFree).can q = s.can q := rfl
@[simp] theorem State.reg_useFree' (q : Nat) : (s.useFree).reg q = s.reg q := rfl
@[simp] theorem State.cmd_useFree' (q z : Nat) : (s.useFree).cmd q z = s.cmd q z := rfl

end Sys2Proof.Machine
end

