-- ==== Sys2Proof/Laws/Report.lean ====
section
/-! SUPPORT. What the device's messages and completions can change: the slots' own books, the messages on their way, the free
counter, and for a completion the records and sequences; everything else stays. -/

namespace Sys2Proof.Machine

/-- Nothing but messages: slots, transmit lists and the free counter. -/
def State.Talks (s t : State) : Prop :=
  t = { s with slots := t.slots, tx := t.tx, cans := t.cans, dev := { s.dev with free := t.dev.free } }

/-- Nothing but messages, command records and sequences. -/
def State.Completes (s t : State) : Prop :=
  t = { s with slots := t.slots, tx := t.tx, cans := t.cans, recs := t.recs, seqs := t.seqs, dev := { s.dev with free := t.dev.free } }

/-- The device's own books stay but for the free counter. -/
def State.SameDev (s t : State) : Prop := ∃ c, t.dev = { s.dev with free := c }

theorem State.SameDev.refl (s : State) : s.SameDev s := ⟨s.dev.free, rfl⟩

theorem State.SameDev.trans {s t u : State} (h : s.SameDev t) (k : t.SameDev u) : s.SameDev u := by
  obtain ⟨_, h⟩ := h; obtain ⟨c, k⟩ := k; exact ⟨c, by rw [k, h]⟩

theorem State.Completes.sameDev {s t : State} (h : s.Completes t) : s.SameDev t := ⟨t.dev.free, congrArg State.dev h⟩

theorem State.Talks.refl (s : State) : s.Talks s := rfl

theorem State.Talks.trans {s t u : State} (h : s.Talks t) (k : t.Talks u) : s.Talks u := by
  unfold State.Talks at *; rw [k, h]

theorem State.Completes.refl (s : State) : s.Completes s := rfl

theorem State.Completes.trans {s t u : State} (h : s.Completes t) (k : t.Completes u) : s.Completes u := by
  unfold State.Completes at *; rw [k, h]

theorem State.Talks.completes {s t : State} (h : s.Talks t) : s.Completes t := by
  unfold State.Talks at h; unfold State.Completes; rw [h]

/-- Doing a thing for each of a list keeps what the thing keeps. -/
theorem State.forEach_rel {α : Type} {R : State → State → Prop} (hr : ∀ s, R s s) (ht : ∀ s t u, R s t → R t u → R s u)
    (f : State → α → State) (hf : ∀ s a, R s (f s a)) (l : List α) (s : State) : R s (s.forEach l f) := by
  induction l generalizing s with
  | nil => exact hr s
  | cons a l ih => exact ht _ _ _ (hf s a) (ih (f s a))

@[simp] theorem State.forEach_nil {α : Type} (s : State) (f : State → α → State) : s.forEach [] f = s := rfl

@[simp] theorem State.forEach_cons {α : Type} (s : State) (a : α) (l : List α) (f : State → α → State) :
    s.forEach (a :: l) f = (f s a).forEach l f := rfl

theorem State.talks_useFree (s : State) : s.Talks s.useFree := rfl

theorem State.talks_setCan (s : State) (n : Nat) (c : Can) : s.Talks (s.setCan n c) := rfl

theorem State.talks_setSlot (s : State) (n : Nat) (h : HostSlot) : s.Talks (s.setSlot n h) := rfl

theorem State.talks_canLoad (s : State) (n slot : Nat) : s.Talks (s.canLoad n slot) := by
  unfold State.canLoad
  simp only
  split
  · rfl
  · split
    · rfl
    · rfl

theorem State.talks_canQueue (s : State) (n : Nat) (m : OutMsg) : s.Talks (s.canQueue n m) := by
  unfold State.canQueue
  exact (s.talks_setCan ..).trans (State.talks_canLoad ..)

theorem State.talks_emit (s : State) (m : OutMsg) : s.Talks (s.emit m) := by
  unfold State.emit
  split
  · exact s.talks_canQueue ..
  · rfl

theorem State.talks_sendAt (s : State) (slot kind code index opcode reason time : Nat) (port : Option Nat) (payload : List Byte) :
    s.Talks (s.sendAt slot kind code index opcode reason time port payload) := by
  unfold State.sendAt
  simp only
  split
  · exact (s.talks_setSlot ..).trans (State.talks_emit ..)
  · rfl

theorem State.talks_send (s : State) (slot kind code index opcode reason : Nat) (payload : List Byte) :
    s.Talks (s.send slot kind code index opcode reason payload) := s.talks_sendAt ..

theorem State.talks_eventTo (s : State) (slot code : Nat) (payload : List Byte) : s.Talks (s.eventTo slot code payload) := by
  unfold State.eventTo
  split
  · exact s.talks_send ..
  · rfl

theorem State.talks_event (s : State) (code : Nat) (payload : List Byte) : s.Talks (s.event code payload) :=
  State.forEach_rel State.Talks.refl (fun _ _ _ => State.Talks.trans) _ (fun t n => t.talks_eventTo n code payload) _ s

theorem State.talks_faultEvent (s : State) (u : Nat) (cls : FaultClass) (src : Nat) : s.Talks (s.faultEvent u cls src) :=
  s.talks_event ..

theorem State.completes_setCmd (s : State) (i k : Nat) (r : Option CmdRec) : s.Completes (s.setCmd i k r) := rfl

theorem State.talks_sendCompletion (s : State) (slot index : Nat) (r : CmdRec) (again : Bool) :
    s.Talks (s.sendCompletion slot index r again) := by
  unfold State.sendCompletion
  simp only
  split
  · rfl
  · exact s.talks_sendAt ..

theorem State.completes_complete (s : State) (slot index code reason : Nat) (result : List Byte) :
    s.Completes (s.complete slot index code reason result) := by
  unfold State.complete
  split
  · rfl
  · split
    · rfl
    · exact (s.completes_setCmd ..).trans (State.talks_sendCompletion ..).completes

theorem State.completes_endSequence (s : State) (q : Sequence) (code reason : Nat) (result : List Byte) :
    s.Completes (s.endSequence q code reason result) :=
  State.Completes.trans (t := { s with seqs := s.seqs.filter (fun x => decide (x ≠ q)) }) rfl (State.completes_complete ..)

theorem State.completes_endSequences (s : State) (p : Sequence → Bool) (code reason : Nat) (result : Sequence → List Byte) :
    s.Completes (s.endSequences p code reason result) :=
  State.forEach_rel State.Completes.refl (fun _ _ _ => State.Completes.trans) _
    (fun t q => t.completes_endSequence q code reason (result q)) _ s

@[simp] theorem State.send_recs (s : State) (slot kind code index opcode reason : Nat) (payload : List Byte) :
    (s.send slot kind code index opcode reason payload).recs = s.recs := by rw [s.talks_send slot kind code index opcode reason payload]

@[simp] theorem State.sendCompletion_recs (s : State) (slot index : Nat) (r : CmdRec) (again : Bool) :
    (s.sendCompletion slot index r again).recs = s.recs := by rw [s.talks_sendCompletion slot index r again]
/-- A completion of a command that is held, on a slot that is not free: its record holds the completion. -/
theorem State.complete_cmd (s : State) (slot index code reason : Nat) (result : List Byte) (r : CmdRec)
    (hr : s.cmd slot index = some r) (hs : (s.slot slot).status ≠ .free) :
    (s.complete slot index code reason result).cmd slot index
      = some { r with state := .done, code := code, reason := reason, result := result, completed := s.time.now, sent := s.time.now } := by
  unfold State.complete
  rw [hr]
  simp only [if_neg hs]
  show KMap.get _ _ _ = _
  rw [State.sendCompletion_recs]
  exact State.cmd_setCmd_same ..

end Sys2Proof.Machine
end

