-- ==== Sys2Proof/Laws/Runs.lean ====
section
/-! SUPPORT. What the frame of every command keeps, and what settling after a command can change. -/

namespace Sys2Proof.Machine


theorem Leg.Banded.refl (l : Leg) : l.Banded l := rfl

theorem Leg.Banded.trans {l m k : Leg} (h : l.Banded m) (g : m.Banded k) : l.Banded k := by
  unfold Leg.Banded at *; rw [g, h]


/-- What settling can change: items and the values on their way, the charge session, messages, records, sequences, the two blocks
whose items do something as they take effect (ports, integrating converters), and the legs' bands. Everything else stays. -/
def State.Settles (s t : State) : Prop :=
  t = { s with
    regs := t.regs, shd := t.shd, waits := t.waits, swaps := t.swaps, ports := t.ports, slows := t.slows, charge := t.charge
    slots := t.slots, tx := t.tx, cans := t.cans, recs := t.recs, seqs := t.seqs, legs := t.legs, dev := { s.dev with free := t.dev.free } }
  ∧ s.LegsStand t

theorem State.banded_of_eq {s t : State} (h : t.legs = s.legs) : s.LegsStand t := fun n => by
  unfold State.leg; rw [h]; exact .refl _

theorem State.Settles.of_eq {s t : State} (h : t = { s with
    regs := t.regs, shd := t.shd, waits := t.waits, swaps := t.swaps, ports := t.ports, slows := t.slows, charge := t.charge
    slots := t.slots, tx := t.tx, cans := t.cans, recs := t.recs, seqs := t.seqs, dev := { s.dev with free := t.dev.free } }) :
    s.Settles t := ⟨by rw [h], State.banded_of_eq (by rw [h])⟩

theorem State.Settles.refl (s : State) : s.Settles s := .of_eq rfl

theorem State.Settles.trans {s t u : State} (h : s.Settles t) (k : t.Settles u) : s.Settles u :=
  ⟨by rw [k.1, h.1], fun n => (h.2 n).trans (k.2 n)⟩

theorem State.Completes.settles {s t : State} (h : s.Completes t) : s.Settles t := by
  unfold State.Completes at h; exact .of_eq (by rw [h])

theorem State.settles_setReg (s : State) (a : Nat) (w : Word) : s.Settles (s.setReg a w) := .of_eq rfl

theorem State.settles_setShadow (s : State) (a : Nat) (w : Word) : s.Settles (s.setShadow a w) := .of_eq rfl

theorem State.settles_setBand (s : State) (leg : Nat) (l : Leg) (h : (s.leg leg).Banded l) : s.Settles (s.setLeg leg l) :=
  ⟨rfl, fun n => by
    by_cases hn : n = leg
    · subst hn; rw [State.leg_setLeg_same]; exact h
    · rw [State.leg_setLeg_other _ _ _ _ hn]; exact .refl _⟩

theorem State.settles_takeBand (s : State) (leg b : Nat) (f : Bool) : s.Settles (s.takeBand leg b f) := by
  unfold State.takeBand
  extract_lets src l u band running
  split
  · exact s.settles_setBand leg _ rfl
  · split
    · exact s.settles_setBand leg _ rfl
    · split
      · exact s.settles_setBand leg _ rfl
      · exact (s.settles_setBand leg { l with bandNext := some (band, s.crossTick) } rfl).trans (.of_eq rfl)

theorem State.settles_tookEffect (s : State) (a : Nat) : s.Settles (s.tookEffect a) := by
  unfold State.tookEffect State.setIso State.bandAgain
  simp only
  split
  · exact .of_eq rfl
  · split
    · split
      · exact .of_eq rfl
      · split <;> exact .of_eq rfl
    · split
      · exact s.settles_takeBand ..
      · exact .refl s

theorem State.settles_land (s : State) (p : PendingWrite) : s.Settles (s.land p) := by
  unfold State.land
  split
  · exact .of_eq rfl
  · simp only
    refine State.Settles.trans ?_ ((State.settles_setReg ..).trans (State.settles_tookEffect ..))
    split <;> exact .of_eq rfl

theorem State.settles_forEach {α : Type} (f : State → α → State) (hf : ∀ s a, State.Settles s (f s a)) (l : List α) (s : State) :
    s.Settles (s.forEach l f) := State.forEach_rel State.Settles.refl (fun _ _ _ => State.Settles.trans) f hf l s

theorem State.settles_swapNow (s : State) (n : Nat) : s.Settles (s.swapNow n) := by
  have h1 : s.Settles (s.exchange (s.swapItems (ownedBy n))) := State.settles_forEach
    (fun t a => ((t.setReg a (s.shadow a)).setShadow a (s.reg a)).tookEffect a)
    (fun t a => ((t.settles_setReg ..).trans (State.settles_setShadow ..)).trans (State.settles_tookEffect ..)) _ s
  refine h1.trans (State.Settles.trans (t := { s.exchange (s.swapItems (ownedBy n)) with
    waits := (s.exchange (s.swapItems (ownedBy n))).waits.filter (fun p => !decide (p.heldFor = some n))
    swaps := (s.exchange (s.swapItems (ownedBy n))).swaps.filter (fun w => decide (w.sheaf ≠ n)) }) (.of_eq rfl) ?_)
  exact State.settles_forEach _ (fun t p => t.settles_land p) _ _

theorem State.settles_finishWrites (s : State) (n : Nat) : s.Settles (s.finishWrites n) :=
  State.Settles.trans (t := { s with seqs := s.seqs.map (fun q =>
    if q.kind = .write then { q with units := q.units.filter (fun x => decide (x ≠ unitOf Kind.sheaf n)) } else q) }) (.of_eq rfl)
    (State.completes_endSequences ..).settles

theorem State.settles_finishSwap (s : State) (n : Nat) : s.Settles (s.finishSwap n) := by
  unfold State.finishSwap
  refine (s.settles_swapNow n).trans (State.Settles.trans (State.settles_forEach _ (fun t w => ?_) _ _) (State.settles_finishWrites ..))
  split
  · exact .refl t
  · exact (State.completes_complete ..).settles

/-- Settling changes only what it may. -/
theorem State.settles_settle (s : State) : s.Settles s.settle := by
  unfold State.settle
  split
  · exact .refl s
  · refine State.Settles.trans ?_ (State.settles_forEach _ (fun t p => t.settles_land p) _ _)
    exact (State.settles_forEach _ State.settles_finishSwap _ s).trans (.of_eq rfl)

/-- Ending a session for a SAFE cause changes only what settling may. -/
theorem State.settles_chargeSafe (s : State) : s.Settles s.chargeSafe := by
  unfold State.chargeSafe
  simp only
  split
  · refine State.Settles.trans ?_ (State.completes_endSequences ..).settles
    split <;> exact .of_eq rfl
  · exact .refl s

/-- Ending a session for a SAFE cause: items, the session, messages, records and sequences. -/
theorem State.chargeSafe_reach (s : State) : s.chargeSafe = { s with
    regs := s.chargeSafe.regs, charge := s.chargeSafe.charge, slots := s.chargeSafe.slots, tx := s.chargeSafe.tx
    cans := s.chargeSafe.cans, recs := s.chargeSafe.recs, seqs := s.chargeSafe.seqs
    dev := { s.dev with free := s.chargeSafe.dev.free } } := by
  unfold State.chargeSafe
  simp only
  split
  · generalize hu : (State.mk ..) = u
    have h := u.completes_endSequences (fun q => decide (q.kind = SeqKind.arm ∨ q.kind = SeqKind.disarm)) Code.aborted Reason.none (fun _ => [])
    unfold State.Completes at h
    rw [h, ← hu]
    split <;> rfl
  · rfl

theorem State.settles_done (s : State) : s.Settles s.chargeSafe.settle := s.settles_chargeSafe.trans (State.settles_settle _)

/-- With nothing on its way, settling changes nothing. -/
theorem State.settle_nothing (s : State) (hw : s.waits = []) (hs : s.swaps = []) : s.settle = s := by
  unfold State.settle; rw [if_pos ⟨hw, hs⟩]

/-- Outside SAFE and LOCKED no session ends for a SAFE cause. -/
theorem State.chargeSafe_outside (s : State) (h1 : s.dev.state ≠ .safe) (h2 : s.dev.state ≠ .locked) : s.chargeSafe = s := by
  unfold State.chargeSafe
  simp only
  rw [if_neg]
  rintro ⟨h | h, -⟩
  · exact h1 h
  · exact h2 h

/-- A live device's command, where its work leaves nothing on its way and no SAFE cause: its work is all that happens. -/
theorem State.act_eq (s : State) (f : State → State) (hl : s.live = true) (hw : (f s).waits = []) (hs : (f s).swaps = [])
    (h1 : (f s).dev.state ≠ .safe) (h2 : (f s).dev.state ≠ .locked) : s.act f = s.keepLive (f s) := by
  unfold State.act
  rw [if_pos hl, State.chargeSafe_outside _ h1 h2, State.settle_nothing _ hw hs]

/-- A live device's command is known by what its work makes of this state. -/
theorem State.act_to (s : State) (f : State → State) (g : State) (h : f s = g) : s.act f = s.act (fun _ => g) := by unfold State.act; rw [h]

theorem State.act_dead (s : State) (f : State → State) (hl : s.live = false) : s.act f = s := by
  unfold State.act; rw [if_neg (by simp [hl])]

/-! Fields that settling and the frame leave as the command's work made them. -/

theorem State.act_bind (s : State) (f : State → State) (hl : s.live = true) : (s.act f).bind = (f s).bind := by
  unfold State.act; rw [if_pos hl]; show (f s).chargeSafe.settle.bind = (f s).bind; rw [(f s).settles_done.1]

theorem State.act_poison (s : State) (f : State → State) (hl : s.live = true) : (s.act f).poison = (f s).poison := by
  unfold State.act; rw [if_pos hl]; show (f s).chargeSafe.settle.poison = (f s).poison; rw [(f s).settles_done.1]

theorem State.act_integrity (s : State) (f : State → State) (hl : s.live = true) : (s.act f).integrity = (f s).integrity := by
  unfold State.act; rw [if_pos hl]; show (f s).chargeSafe.settle.integrity = (f s).integrity; rw [(f s).settles_done.1]

theorem State.act_commit (s : State) (f : State → State) (hl : s.live = true) : (s.act f).commit = (f s).commit := by
  unfold State.act; rw [if_pos hl]; show (f s).chargeSafe.settle.commit = (f s).commit; rw [(f s).settles_done.1]

theorem State.act_lv (s : State) (f : State → State) (hl : s.live = true) : (s.act f).lv = (f s).lv := by
  unfold State.act; rw [if_pos hl]; show (f s).chargeSafe.settle.lv = (f s).lv; rw [(f s).settles_done.1]

theorem State.act_streams (s : State) (f : State → State) (hl : s.live = true) : (s.act f).streams = (f s).streams := by
  unfold State.act; rw [if_pos hl]; show (f s).chargeSafe.settle.streams = (f s).streams; rw [(f s).settles_done.1]

theorem State.act_proofs (s : State) (f : State → State) (hl : s.live = true) : (s.act f).proofs = (f s).proofs := by
  unfold State.act; rw [if_pos hl]; show (f s).chargeSafe.settle.proofs = (f s).proofs; rw [(f s).settles_done.1]

theorem State.act_units (s : State) (f : State → State) (hl : s.live = true) : (s.act f).units = (f s).units := by
  unfold State.act; rw [if_pos hl]; show (f s).chargeSafe.settle.units = (f s).units; rw [(f s).settles_done.1]

theorem State.act_sheaves (s : State) (f : State → State) (hl : s.live = true) : (s.act f).sheaves = (f s).sheaves := by
  unfold State.act; rw [if_pos hl]; show (f s).chargeSafe.settle.sheaves = (f s).sheaves; rw [(f s).settles_done.1]

theorem State.act_sup (s : State) (f : State → State) (hl : s.live = true) : (s.act f).sup = (f s).sup := by
  unfold State.act; rw [if_pos hl]; show (f s).chargeSafe.settle.sup = (f s).sup; rw [(f s).settles_done.1]

theorem State.act_outs (s : State) (f : State → State) (hl : s.live = true) : (s.act f).outs = (f s).outs := by
  unfold State.act; rw [if_pos hl]; show (f s).chargeSafe.settle.outs = (f s).outs; rw [(f s).settles_done.1]

theorem State.act_lanes (s : State) (f : State → State) (hl : s.live = true) : (s.act f).lanes = (f s).lanes := by
  unfold State.act; rw [if_pos hl]; show (f s).chargeSafe.settle.lanes = (f s).lanes; rw [(f s).settles_done.1]

theorem State.act_carriers (s : State) (f : State → State) (hl : s.live = true) : (s.act f).carriers = (f s).carriers := by
  unfold State.act; rw [if_pos hl]; show (f s).chargeSafe.settle.carriers = (f s).carriers; rw [(f s).settles_done.1]

theorem State.act_groups (s : State) (f : State → State) (hl : s.live = true) : (s.act f).groups = (f s).groups := by
  unfold State.act; rw [if_pos hl]; show (f s).chargeSafe.settle.groups = (f s).groups; rw [(f s).settles_done.1]

theorem State.act_pulses (s : State) (f : State → State) (hl : s.live = true) : (s.act f).pulses = (f s).pulses := by
  unfold State.act; rw [if_pos hl]; show (f s).chargeSafe.settle.pulses = (f s).pulses; rw [(f s).settles_done.1]

theorem State.act_events (s : State) (f : State → State) (hl : s.live = true) : (s.act f).events = (f s).events := by
  unfold State.act; rw [if_pos hl]; show (f s).chargeSafe.settle.events = (f s).events; rw [(f s).settles_done.1]

theorem State.act_writes (s : State) (f : State → State) (hl : s.live = true) : (s.act f).writes = (f s).writes := by
  unfold State.act; rw [if_pos hl]; show (f s).chargeSafe.settle.writes = (f s).writes; rw [(f s).settles_done.1]

theorem State.act_fabricStopped (s : State) (f : State → State) (hl : s.live = true) : (s.act f).fabricStopped = (f s).fabricStopped := by
  unfold State.act; rw [if_pos hl]; show (f s).chargeSafe.settle.fabricStopped = (f s).fabricStopped; rw [(f s).settles_done.1]

theorem State.act_trac (s : State) (f : State → State) (hl : s.live = true) : (s.act f).trac = (f s).trac := by
  unfold State.act; rw [if_pos hl]; show (f s).chargeSafe.settle.trac = (f s).trac; rw [(f s).settles_done.1]

theorem State.act_auxI (s : State) (f : State → State) (hl : s.live = true) : (s.act f).auxI = (f s).auxI := by
  unfold State.act; rw [if_pos hl]; show (f s).chargeSafe.settle.auxI = (f s).auxI; rw [(f s).settles_done.1]

theorem State.act_auxB (s : State) (f : State → State) (hl : s.live = true) : (s.act f).auxB = (f s).auxB := by
  unfold State.act; rw [if_pos hl]; show (f s).chargeSafe.settle.auxB = (f s).auxB; rw [(f s).settles_done.1]

theorem State.act_syncIn (s : State) (f : State → State) (hl : s.live = true) : (s.act f).syncIn = (f s).syncIn := by
  unfold State.act; rw [if_pos hl]; show (f s).chargeSafe.settle.syncIn = (f s).syncIn; rw [(f s).settles_done.1]

theorem State.act_shed (s : State) (f : State → State) (hl : s.live = true) : (s.act f).shed = (f s).shed := by
  unfold State.act; rw [if_pos hl]; show (f s).chargeSafe.settle.shed = (f s).shed; rw [(f s).settles_done.1]

theorem State.act_hv (s : State) (f : State → State) (hl : s.live = true) : (s.act f).hv = (f s).hv := by
  unfold State.act; rw [if_pos hl]; show (f s).chargeSafe.settle.hv = (f s).hv; rw [(f s).settles_done.1]

theorem State.act_acts (s : State) (f : State → State) (hl : s.live = true) : (s.act f).acts = (f s).acts := by
  unfold State.act; rw [if_pos hl]; show (f s).chargeSafe.settle.acts = (f s).acts; rw [(f s).settles_done.1]

theorem State.act_therm (s : State) (f : State → State) (hl : s.live = true) : (s.act f).therm = (f s).therm := by
  unfold State.act; rw [if_pos hl]; show (f s).chargeSafe.settle.therm = (f s).therm; rw [(f s).settles_done.1]

theorem State.act_net (s : State) (f : State → State) (hl : s.live = true) : (s.act f).net = (f s).net := by
  unfold State.act; rw [if_pos hl]; show (f s).chargeSafe.settle.net = (f s).net; rw [(f s).settles_done.1]

theorem State.act_fasts (s : State) (f : State → State) (hl : s.live = true) : (s.act f).fasts = (f s).fasts := by
  unfold State.act; rw [if_pos hl]; show (f s).chargeSafe.settle.fasts = (f s).fasts; rw [(f s).settles_done.1]

@[simp] theorem State.keepLive_bind (s t : State) : (s.keepLive t).bind = t.bind := rfl
@[simp] theorem State.keep_bind (s t : State) : (s.keep t).bind = t.bind := rfl
@[simp] theorem State.keepLive_regs (s t : State) : (s.keepLive t).regs = t.regs := rfl
@[simp] theorem State.keep_regs (s t : State) : (s.keep t).regs = t.regs := rfl
@[simp] theorem State.keepLive_shd (s t : State) : (s.keepLive t).shd = t.shd := rfl
@[simp] theorem State.keep_shd (s t : State) : (s.keep t).shd = t.shd := rfl
@[simp] theorem State.keepLive_waits (s t : State) : (s.keepLive t).waits = t.waits := rfl
@[simp] theorem State.keep_waits (s t : State) : (s.keep t).waits = t.waits := rfl
@[simp] theorem State.keepLive_poison (s t : State) : (s.keepLive t).poison = t.poison := rfl
@[simp] theorem State.keep_poison (s t : State) : (s.keep t).poison = t.poison := rfl
@[simp] theorem State.keepLive_integrity (s t : State) : (s.keepLive t).integrity = t.integrity := rfl
@[simp] theorem State.keep_integrity (s t : State) : (s.keep t).integrity = t.integrity := rfl
@[simp] theorem State.keepLive_swaps (s t : State) : (s.keepLive t).swaps = t.swaps := rfl
@[simp] theorem State.keep_swaps (s t : State) : (s.keep t).swaps = t.swaps := rfl
@[simp] theorem State.keepLive_commit (s t : State) : (s.keepLive t).commit = t.commit := rfl
@[simp] theorem State.keep_commit (s t : State) : (s.keep t).commit = t.commit := rfl
@[simp] theorem State.keepLive_lv (s t : State) : (s.keepLive t).lv = t.lv := rfl
@[simp] theorem State.keep_lv (s t : State) : (s.keep t).lv = t.lv := rfl
@[simp] theorem State.keepLive_slots (s t : State) : (s.keepLive t).slots = t.slots := rfl
@[simp] theorem State.keep_slots (s t : State) : (s.keep t).slots = t.slots := rfl
@[simp] theorem State.keepLive_recs (s t : State) : (s.keepLive t).recs = t.recs := rfl
@[simp] theorem State.keep_recs (s t : State) : (s.keep t).recs = t.recs := rfl
@[simp] theorem State.keepLive_tx (s t : State) : (s.keepLive t).tx = t.tx := rfl
@[simp] theorem State.keep_tx (s t : State) : (s.keep t).tx = t.tx := rfl
@[simp] theorem State.keepLive_seqs (s t : State) : (s.keepLive t).seqs = t.seqs := rfl
@[simp] theorem State.keep_seqs (s t : State) : (s.keep t).seqs = t.seqs := rfl
@[simp] theorem State.keepLive_streams (s t : State) : (s.keepLive t).streams = t.streams := rfl
@[simp] theorem State.keep_streams (s t : State) : (s.keep t).streams = t.streams := rfl
@[simp] theorem State.keepLive_proofs (s t : State) : (s.keepLive t).proofs = t.proofs := rfl
@[simp] theorem State.keep_proofs (s t : State) : (s.keep t).proofs = t.proofs := rfl
@[simp] theorem State.keepLive_units (s t : State) : (s.keepLive t).units = t.units := rfl
@[simp] theorem State.keep_units (s t : State) : (s.keep t).units = t.units := rfl
@[simp] theorem State.keepLive_sheaves (s t : State) : (s.keepLive t).sheaves = t.sheaves := rfl
@[simp] theorem State.keep_sheaves (s t : State) : (s.keep t).sheaves = t.sheaves := rfl
@[simp] theorem State.keepLive_legs (s t : State) : (s.keepLive t).legs = t.legs := rfl
@[simp] theorem State.keep_legs (s t : State) : (s.keep t).legs = t.legs := rfl
@[simp] theorem State.keepLive_sup (s t : State) : (s.keepLive t).sup = t.sup := rfl
@[simp] theorem State.keep_sup (s t : State) : (s.keep t).sup = t.sup := rfl
@[simp] theorem State.keepLive_outs (s t : State) : (s.keepLive t).outs = t.outs := rfl
@[simp] theorem State.keep_outs (s t : State) : (s.keep t).outs = t.outs := rfl
@[simp] theorem State.keepLive_lanes (s t : State) : (s.keepLive t).lanes = t.lanes := rfl
@[simp] theorem State.keep_lanes (s t : State) : (s.keep t).lanes = t.lanes := rfl
@[simp] theorem State.keepLive_carriers (s t : State) : (s.keepLive t).carriers = t.carriers := rfl
@[simp] theorem State.keep_carriers (s t : State) : (s.keep t).carriers = t.carriers := rfl
@[simp] theorem State.keepLive_groups (s t : State) : (s.keepLive t).groups = t.groups := rfl
@[simp] theorem State.keep_groups (s t : State) : (s.keep t).groups = t.groups := rfl
@[simp] theorem State.keepLive_pulses (s t : State) : (s.keepLive t).pulses = t.pulses := rfl
@[simp] theorem State.keep_pulses (s t : State) : (s.keep t).pulses = t.pulses := rfl
@[simp] theorem State.keepLive_events (s t : State) : (s.keepLive t).events = t.events := rfl
@[simp] theorem State.keep_events (s t : State) : (s.keep t).events = t.events := rfl
@[simp] theorem State.keepLive_writes (s t : State) : (s.keepLive t).writes = t.writes := rfl
@[simp] theorem State.keep_writes (s t : State) : (s.keep t).writes = t.writes := rfl
@[simp] theorem State.keepLive_fabricStopped (s t : State) : (s.keepLive t).fabricStopped = t.fabricStopped := rfl
@[simp] theorem State.keep_fabricStopped (s t : State) : (s.keep t).fabricStopped = t.fabricStopped := rfl
@[simp] theorem State.keepLive_trac (s t : State) : (s.keepLive t).trac = t.trac := rfl
@[simp] theorem State.keep_trac (s t : State) : (s.keep t).trac = t.trac := rfl
@[simp] theorem State.keepLive_auxI (s t : State) : (s.keepLive t).auxI = t.auxI := rfl
@[simp] theorem State.keep_auxI (s t : State) : (s.keep t).auxI = t.auxI := rfl
@[simp] theorem State.keepLive_auxB (s t : State) : (s.keepLive t).auxB = t.auxB := rfl
@[simp] theorem State.keep_auxB (s t : State) : (s.keep t).auxB = t.auxB := rfl
@[simp] theorem State.keepLive_syncIn (s t : State) : (s.keepLive t).syncIn = t.syncIn := rfl
@[simp] theorem State.keep_syncIn (s t : State) : (s.keep t).syncIn = t.syncIn := rfl
@[simp] theorem State.keepLive_shed (s t : State) : (s.keepLive t).shed = t.shed := rfl
@[simp] theorem State.keep_shed (s t : State) : (s.keep t).shed = t.shed := rfl
@[simp] theorem State.keepLive_charge (s t : State) : (s.keepLive t).charge = t.charge := rfl
@[simp] theorem State.keep_charge (s t : State) : (s.keep t).charge = t.charge := rfl
@[simp] theorem State.keepLive_hv (s t : State) : (s.keepLive t).hv = t.hv := rfl
@[simp] theorem State.keep_hv (s t : State) : (s.keep t).hv = t.hv := rfl
@[simp] theorem State.keepLive_acts (s t : State) : (s.keepLive t).acts = t.acts := rfl
@[simp] theorem State.keep_acts (s t : State) : (s.keep t).acts = t.acts := rfl
@[simp] theorem State.keepLive_therm (s t : State) : (s.keepLive t).therm = t.therm := rfl
@[simp] theorem State.keep_therm (s t : State) : (s.keep t).therm = t.therm := rfl
@[simp] theorem State.keepLive_net (s t : State) : (s.keepLive t).net = t.net := rfl
@[simp] theorem State.keep_net (s t : State) : (s.keep t).net = t.net := rfl
@[simp] theorem State.keepLive_ports (s t : State) : (s.keepLive t).ports = t.ports := rfl
@[simp] theorem State.keep_ports (s t : State) : (s.keep t).ports = t.ports := rfl
@[simp] theorem State.keepLive_fasts (s t : State) : (s.keepLive t).fasts = t.fasts := rfl
@[simp] theorem State.keep_fasts (s t : State) : (s.keep t).fasts = t.fasts := rfl
@[simp] theorem State.keepLive_slows (s t : State) : (s.keepLive t).slows = t.slows := rfl
@[simp] theorem State.keep_slows (s t : State) : (s.keep t).slows = t.slows := rfl
@[simp] theorem State.keepLive_cans (s t : State) : (s.keepLive t).cans = t.cans := rfl
@[simp] theorem State.keep_cans (s t : State) : (s.keep t).cans = t.cans := rfl

/-! The readers after the frame. -/

@[simp] theorem State.keep_unit' (s t : State) (n : Nat) : (s.keep t).unit n = t.unit n := rfl
@[simp] theorem State.keep_sheaf' (s t : State) (n : Nat) : (s.keep t).sheaf n = t.sheaf n := rfl
@[simp] theorem State.keep_leg' (s t : State) (n : Nat) : (s.keep t).leg n = t.leg n := rfl
@[simp] theorem State.keep_slot' (s t : State) (n : Nat) : (s.keep t).slot n = t.slot n := rfl
@[simp] theorem State.keep_out' (s t : State) (n : Nat) : (s.keep t).out n = t.out n := rfl
@[simp] theorem State.keep_lane' (s t : State) (n : Nat) : (s.keep t).lane n = t.lane n := rfl
@[simp] theorem State.keep_carrier' (s t : State) (n : Nat) : (s.keep t).carrier n = t.carrier n := rfl
@[simp] theorem State.keep_pulse' (s t : State) (n : Nat) : (s.keep t).pulse n = t.pulse n := rfl
@[simp] theorem State.keep_port' (s t : State) (n : Nat) : (s.keep t).port n = t.port n := rfl
@[simp] theorem State.keep_fast' (s t : State) (n : Nat) : (s.keep t).fast n = t.fast n := rfl
@[simp] theorem State.keep_slow' (s t : State) (n : Nat) : (s.keep t).slow n = t.slow n := rfl
@[simp] theorem State.keep_actuator' (s t : State) (n : Nat) : (s.keep t).actuator n = t.actuator n := rfl
@[simp] theorem State.keep_heat' (s t : State) (n : Nat) : (s.keep t).heat n = t.heat n := rfl
@[simp] theorem State.keep_can' (s t : State) (n : Nat) : (s.keep t).can n = t.can n := rfl
@[simp] theorem State.keep_reg' (s t : State) (n : Nat) : (s.keep t).reg n = t.reg n := rfl
@[simp] theorem State.keep_cmd (s t : State) (i k : Nat) : (s.keep t).cmd i k = t.cmd i k := rfl
@[simp] theorem State.keep_shadow (s t : State) (a : Nat) : (s.keep t).shadow a = t.shadow a := rfl
@[simp] theorem State.keep_journal (s t : State) : (s.keep t).store.journal = t.store.journal := rfl
@[simp] theorem State.keep_bytes (s t : State) : (s.keep t).store.bytes = t.store.bytes := rfl
@[simp] theorem State.keep_causes (s t : State) : (s.keep t).dev.causes = t.dev.causes := rfl
theorem State.keep_dark (s : State) (t : State) (h : t.Dark) : (s.keep t).Dark := ⟨h.1, h.2, h.3, h.4⟩
theorem State.keep_lasts (r s t : State) (h : r.Lasts t) : r.Lasts (s.keep t) := ⟨h.1, h.2, h.3⟩
@[simp] theorem State.keepLive_unit' (s t : State) (n : Nat) : (s.keepLive t).unit n = t.unit n := rfl
@[simp] theorem State.keepLive_sheaf' (s t : State) (n : Nat) : (s.keepLive t).sheaf n = t.sheaf n := rfl
@[simp] theorem State.keepLive_leg' (s t : State) (n : Nat) : (s.keepLive t).leg n = t.leg n := rfl
@[simp] theorem State.keepLive_slot' (s t : State) (n : Nat) : (s.keepLive t).slot n = t.slot n := rfl
@[simp] theorem State.keepLive_out' (s t : State) (n : Nat) : (s.keepLive t).out n = t.out n := rfl
@[simp] theorem State.keepLive_lane' (s t : State) (n : Nat) : (s.keepLive t).lane n = t.lane n := rfl
@[simp] theorem State.keepLive_carrier' (s t : State) (n : Nat) : (s.keepLive t).carrier n = t.carrier n := rfl
@[simp] theorem State.keepLive_pulse' (s t : State) (n : Nat) : (s.keepLive t).pulse n = t.pulse n := rfl
@[simp] theorem State.keepLive_port' (s t : State) (n : Nat) : (s.keepLive t).port n = t.port n := rfl
@[simp] theorem State.keepLive_fast' (s t : State) (n : Nat) : (s.keepLive t).fast n = t.fast n := rfl
@[simp] theorem State.keepLive_slow' (s t : State) (n : Nat) : (s.keepLive t).slow n = t.slow n := rfl
@[simp] theorem State.keepLive_actuator' (s t : State) (n : Nat) : (s.keepLive t).actuator n = t.actuator n := rfl
@[simp] theorem State.keepLive_heat' (s t : State) (n : Nat) : (s.keepLive t).heat n = t.heat n := rfl
@[simp] theorem State.keepLive_can' (s t : State) (n : Nat) : (s.keepLive t).can n = t.can n := rfl
@[simp] theorem State.keepLive_reg' (s t : State) (n : Nat) : (s.keepLive t).reg n = t.reg n := rfl
@[simp] theorem State.keepLive_cmd (s t : State) (i k : Nat) : (s.keepLive t).cmd i k = t.cmd i k := rfl
@[simp] theorem State.keepLive_shadow (s t : State) (a : Nat) : (s.keepLive t).shadow a = t.shadow a := rfl
@[simp] theorem State.keepLive_journal (s t : State) : (s.keepLive t).store.journal = t.store.journal := rfl
@[simp] theorem State.keepLive_bytes (s t : State) : (s.keepLive t).store.bytes = t.store.bytes := rfl
@[simp] theorem State.keepLive_causes (s t : State) : (s.keepLive t).dev.causes = t.dev.causes := rfl
theorem State.keepLive_dark (s : State) (t : State) (h : t.Dark) : (s.keepLive t).Dark := ⟨h.1, h.2, h.3, h.4⟩
theorem State.keepLive_lasts (r s t : State) (h : r.Lasts t) : r.Lasts (s.keepLive t) := ⟨h.1, h.2, h.3⟩
@[simp] theorem State.keep_powered (s t : State) : (s.keep t).dev.powered = t.dev.powered := rfl
@[simp] theorem State.keep_nporLow (s t : State) : (s.keep t).dev.nporLow = t.dev.nporLow := rfl
@[simp] theorem State.keep_devState (s t : State) : (s.keep t).dev.state = t.dev.state := rfl
@[simp] theorem State.keep_time (s t : State) : (s.keep t).time = t.time := rfl
theorem State.keepLive_devState (s t : State) (h : s.dev.state ≠ .locked) : (s.keepLive t).dev.state = t.dev.state := if_neg h

/-! Readers after a live device's command. -/

theorem State.act_unit (s : State) (f : State → State) (hl : s.live = true) (n : Nat) : (s.act f).unit n = (f s).unit n := by
  unfold State.unit; rw [s.act_units f hl]

theorem State.act_sheaf (s : State) (f : State → State) (hl : s.live = true) (n : Nat) : (s.act f).sheaf n = (f s).sheaf n := by
  unfold State.sheaf; rw [s.act_sheaves f hl]

/-- The legs are as the command's work made them, but for a band that an item which took effect changed. -/
theorem State.act_banded (s : State) (f : State → State) (hl : s.live = true) : (f s).LegsStand (s.act f) := fun n => by
  unfold State.act; rw [if_pos hl]; exact (f s).settles_done.2 n

/-- With nothing left on its way and no SAFE cause, the legs are as the command's work made them. -/
theorem State.act_legs (s : State) (f : State → State) (hl : s.live = true) (hw : (f s).waits = []) (hs : (f s).swaps = []) :
    (s.act f).legs = (f s).legs := by
  have hc : (f s).chargeSafe = { (f s) with
      regs := (f s).chargeSafe.regs, charge := (f s).chargeSafe.charge, slots := (f s).chargeSafe.slots, tx := (f s).chargeSafe.tx,
      cans := (f s).chargeSafe.cans, recs := (f s).chargeSafe.recs, seqs := (f s).chargeSafe.seqs
      dev := { (f s).dev with free := (f s).chargeSafe.dev.free } } := (f s).chargeSafe_reach
  unfold State.act
  rw [if_pos hl, State.settle_nothing _ (by rw [hc]; exact hw) (by rw [hc]; exact hs)]
  show (f s).chargeSafe.legs = _
  rw [hc]

theorem State.act_out (s : State) (f : State → State) (hl : s.live = true) (n : Nat) : (s.act f).out n = (f s).out n := by
  unfold State.out; rw [s.act_outs f hl]

theorem State.act_lane (s : State) (f : State → State) (hl : s.live = true) (n : Nat) : (s.act f).lane n = (f s).lane n := by
  unfold State.lane; rw [s.act_lanes f hl]

theorem State.act_carrier (s : State) (f : State → State) (hl : s.live = true) (n : Nat) : (s.act f).carrier n = (f s).carrier n := by
  unfold State.carrier; rw [s.act_carriers f hl]

theorem State.act_pulse (s : State) (f : State → State) (hl : s.live = true) (n : Nat) : (s.act f).pulse n = (f s).pulse n := by
  unfold State.pulse; rw [s.act_pulses f hl]

theorem State.act_fast (s : State) (f : State → State) (hl : s.live = true) (n : Nat) : (s.act f).fast n = (f s).fast n := by
  unfold State.fast; rw [s.act_fasts f hl]

theorem State.act_actuator (s : State) (f : State → State) (hl : s.live = true) (n : Nat) : (s.act f).actuator n = (f s).actuator n := by
  unfold State.actuator; rw [s.act_acts f hl]

theorem State.act_group (s : State) (f : State → State) (hl : s.live = true) (n g : Nat) : (s.act f).group n g = (f s).group n g := by
  unfold State.group; rw [s.act_groups f hl]

theorem State.act_heat (s : State) (f : State → State) (hl : s.live = true) (n : Nat) : (s.act f).heat n = (f s).heat n := by
  unfold State.heat; rw [s.act_therm f hl]

theorem State.act_devState (s : State) (f : State → State) (hl : s.live = true) (h : s.dev.state ≠ .locked) :
    (s.act f).dev.state = (f s).dev.state := by
  unfold State.act
  rw [if_pos hl, State.keepLive_devState _ _ h, (f s).settles_done.1]

theorem State.act_causes (s : State) (f : State → State) (hl : s.live = true) : (s.act f).dev.causes = (f s).dev.causes := by
  unfold State.act
  rw [if_pos hl, State.keepLive_causes, (f s).settles_done.1]

/-- The device's own books after a live device's command. -/
theorem State.act_dev (s : State) (f : State → State) (hl : s.live = true) (h : s.dev.state ≠ .locked) :
    ∃ c, (s.act f).dev = { (f s).dev with partAD0 := s.dev.partAD0, free := c } := by
  have hd : (f s).chargeSafe.settle.dev = { (f s).dev with free := (f s).chargeSafe.settle.dev.free } :=
    congrArg State.dev (f s).settles_done.1
  refine ⟨(f s).chargeSafe.settle.dev.free, ?_⟩
  unfold State.act
  rw [if_pos hl]
  have hk : ∀ u : State, (s.keepLive u).dev = { u.dev with partAD0 := s.dev.partAD0 } := fun u => by
    unfold State.keepLive
    simp only [if_neg h]
    rfl
  rw [hk, hd]

theorem State.act_halted (s : State) (f : State → State) (hl : s.live = true) : (s.act f).dev.halted = (f s).dev.halted := by
  unfold State.act
  rw [if_pos hl]
  show (f s).chargeSafe.settle.dev.halted = _
  rw [(f s).settles_done.1]

theorem State.act_journal (s : State) (f : State → State) (hl : s.live = true) : (s.act f).store.journal = (f s).store.journal := by
  unfold State.act
  rw [if_pos hl, State.keepLive_journal, (f s).settles_done.1]

theorem State.act_log (s : State) (f : State → State) (hl : s.live = true) : (s.act f).store.log = (f s).store.log := by
  unfold State.act
  rw [if_pos hl]
  show (f s).chargeSafe.settle.store.log = _
  rw [(f s).settles_done.1]

theorem State.act_time (s : State) (f : State → State) (hl : s.live = true) : (s.act f).time.now = max s.time.now (f s).time.now := by
  unfold State.act
  rw [if_pos hl]
  show Nat.max s.time.now (f s).chargeSafe.settle.time.now = _
  rw [(f s).settles_done.1]

/-- What every command keeps. -/
theorem State.keep_kept (s t : State) : s.Kept (s.keep t) := ⟨rfl, Nat.le_max_left .., Nat.le_max_left ..⟩

theorem State.keepLive_kept (s t : State) : s.Kept (s.keepLive t) := ⟨rfl, Nat.le_max_left .., Nat.le_max_left ..⟩

theorem State.act_kept (s : State) (f : State → State) : s.Kept (s.act f) := by
  unfold State.act
  split
  · exact s.keepLive_kept _
  · exact ⟨rfl, le_refl _, le_refl _⟩

theorem State.always_kept (s : State) (f : State → State) : s.Kept (s.always f) := s.keep_kept _

theorem State.act_pending (s : State) (f : State → State) : (s.act f).pending = s.pending := by
  unfold State.act; split <;> rfl

theorem State.always_pending (s : State) (f : State → State) : (s.always f).pending = s.pending := rfl

theorem State.act_now (s : State) (f : State → State) : s.time.now ≤ (s.act f).time.now := by
  unfold State.act
  split
  · exact Nat.le_max_left ..
  · exact le_refl _

theorem State.act_locked (s : State) (f : State → State) (h : s.dev.state = .locked) : (s.act f).dev.state = .locked := by
  unfold State.act
  split
  · exact if_pos h
  · exact h

end Sys2Proof.Machine
end

