-- ==== Sys2Proof/Laws/Faults.lean ====
section
/-! SUPPORT. What a detection does: the unit's own status, the records, and what fencing the unit can change. -/

namespace Sys2Proof.Machine

/-- What taking a unit out of service can change: the blocks of its sheaf, items, messages, sequences, what a slot that loses its link
holds. The device's state, what waits for a boundary, device time, the store and the supervisor stay. -/
def State.Fences (s t : State) : Prop :=
  t = { s with
    regs := t.regs, slots := t.slots, tx := t.tx, cans := t.cans, recs := t.recs, seqs := t.seqs, proofs := t.proofs
    legs := t.legs, sheaves := t.sheaves, acts := t.acts, units := t.units, outs := t.outs, trac := t.trac, shed := t.shed
    commit := t.commit, streams := t.streams, dev := { s.dev with free := t.dev.free } }

theorem State.Fences.refl (s : State) : s.Fences s := rfl

theorem State.Fences.trans {s t u : State} (h : s.Fences t) (k : t.Fences u) : s.Fences u := by
  unfold State.Fences at *; rw [k, h]

theorem State.Completes.fences {s t : State} (h : s.Completes t) : s.Fences t := by
  unfold State.Completes at h; unfold State.Fences; rw [h]

theorem State.Talks.fences {s t : State} (h : s.Talks t) : s.Fences t := h.completes.fences

/-- What keeps, besides, the fault status of every unit that is no sheaf. -/
def State.FencesOnly (s t : State) : Prop :=
  s.Fences t ∧ ∀ u, (∀ n < 12, u ≠ unitOf Kind.sheaf n) → t.unit u = s.unit u

theorem State.FencesOnly.refl (s : State) : s.FencesOnly s := ⟨rfl, fun _ _ => rfl⟩

theorem State.FencesOnly.trans {s t u : State} (h : s.FencesOnly t) (k : t.FencesOnly u) : s.FencesOnly u :=
  ⟨h.1.trans k.1, fun v hv => (k.2 v hv).trans (h.2 v hv)⟩

theorem State.Completes.fencesOnly {s t : State} (h : s.Completes t) : s.FencesOnly t :=
  ⟨h.fences, fun u _ => by unfold State.Completes at h; rw [h]; rfl⟩

theorem State.Talks.fencesOnly {s t : State} (h : s.Talks t) : s.FencesOnly t := h.completes.fencesOnly

theorem State.fencesOnly_of_eq {s t : State} (h : s.Fences t) (hu : t.units = s.units) : s.FencesOnly t :=
  ⟨h, fun u _ => by show KMap.get _ _ _ = KMap.get _ _ _; rw [hu]⟩

theorem State.fencesOnly_forEach {α : Type} (f : State → α → State) (hf : ∀ s a, State.FencesOnly s (f s a)) (l : List α) (s : State) :
    s.FencesOnly (s.forEach l f) := State.forEach_rel State.FencesOnly.refl (fun _ _ _ => State.FencesOnly.trans) f hf l s

theorem State.fencesOnly_setReg (s : State) (a : Nat) (w : Word) : s.FencesOnly (s.setReg a w) := State.fencesOnly_of_eq rfl rfl

theorem State.fencesOnly_bump (s : State) (a : Nat) : s.FencesOnly (s.bump a) := State.fencesOnly_of_eq rfl rfl

theorem State.fencesOnly_setRegs (s : State) (l : List (Nat × Word)) : s.FencesOnly (s.setRegs l) := by
  induction l generalizing s with
  | nil => exact .refl s
  | cons p l ih => exact (s.fencesOnly_setReg p.1 p.2).trans (ih _)

theorem State.fencesOnly_setLeg (s : State) (n : Nat) (l : Leg) : s.FencesOnly (s.setLeg n l) := State.fencesOnly_of_eq rfl rfl

theorem State.fencesOnly_setSheaf (s : State) (n : Nat) (h : Sheaf) : s.FencesOnly (s.setSheaf n h) := State.fencesOnly_of_eq rfl rfl

theorem State.fencesOnly_setActuator (s : State) (n : Nat) (h : ActRun) : s.FencesOnly (s.setActuator n h) := State.fencesOnly_of_eq rfl rfl

theorem State.fencesOnly_setOut (s : State) (n : Nat) (h : Output) : s.FencesOnly (s.setOut n h) := State.fencesOnly_of_eq rfl rfl

theorem State.fencesOnly_legOff (s : State) (n : Nat) : s.FencesOnly (s.legOff n) := s.fencesOnly_setLeg ..

theorem State.fencesOnly_legsOff (s : State) (n : Nat) : s.FencesOnly (s.legsOff n) :=
  State.fencesOnly_forEach _ State.fencesOnly_legOff _ s

theorem State.fencesOnly_clearCarry (s : State) (n : Nat) : s.FencesOnly (s.clearCarry n) := by
  unfold State.clearCarry; split
  · exact s.fencesOnly_setReg ..
  · exact .refl s

theorem State.fencesOnly_winnowLeg (s : State) (n : Nat) (c : WinnowCause) : s.FencesOnly (s.winnowLeg n c) :=
  ((s.fencesOnly_legOff n).trans (State.fencesOnly_setLeg ..)).trans (State.fencesOnly_clearCarry ..)

theorem State.fencesOnly_leaveRun (s : State) (n : Nat) : s.FencesOnly (s.leaveRun n) := by
  unfold State.leaveRun
  extract_lets s1 s2 c b
  have h : s.FencesOnly s2 := (State.fencesOnly_forEach _ (fun t g => t.fencesOnly_setRegs _) _ s).trans
    (State.fencesOnly_forEach _ (fun t leg => t.fencesOnly_setLeg leg _) _ s1)
  refine h.trans ?_
  split
  · exact State.fencesOnly_of_eq rfl rfl
  · split
    · exact .refl _
    · exact State.fencesOnly_setReg ..
  · have hb : s2.FencesOnly b := by
      unfold b; split
      · exact .refl _
      · exact State.fencesOnly_setReg ..
    clear_value b
    exact hb.trans (State.fencesOnly_of_eq rfl rfl)
  · exact .refl _

theorem State.fencesOnly_dropMove (s : State) (n : Nat) : s.FencesOnly (s.dropMove n) := by
  unfold State.dropMove; split
  · exact State.fencesOnly_setActuator ..
  · exact .refl s

theorem State.fencesOnly_stopFollowers (s : State) (n : Nat) : s.FencesOnly (s.stopFollowers n) :=
  State.fencesOnly_forEach _ (fun t m => t.fencesOnly_setSheaf m _) _ s

theorem State.fencesOnly_supplies (s : State) (legs : List Nat) (on : Bool) : s.FencesOnly (s.supplies legs on) :=
  State.fencesOnly_forEach _ (fun t n => t.fencesOnly_setLeg n _) _ s

theorem State.fencesOnly_quietSheaf (s : State) (n : Nat) (st : SheafState) : s.FencesOnly (s.quietSheaf n st) := by
  unfold State.quietSheaf
  refine State.FencesOnly.trans (State.FencesOnly.trans ?_ (State.fencesOnly_dropMove _ n)) (State.fencesOnly_setSheaf ..)
  have h := (s.fencesOnly_legsOff n).trans (State.fencesOnly_forEach _ State.fencesOnly_clearCarry (s.bind.legsOf n) _)
  split
  · exact (h.trans (State.fencesOnly_leaveRun ..)).trans (State.fencesOnly_stopFollowers ..)
  · exact h

theorem State.fencesOnly_abortProofs (s : State) (n : Nat) : s.FencesOnly (s.abortProofs n) := by
  unfold State.abortProofs
  extract_lets ps s0 s1
  split
  · exact .refl s
  · have h0 : s.FencesOnly s0 := State.fencesOnly_of_eq rfl rfl
    have h1 : s.FencesOnly s1 := by
      unfold s1; split
      · exact h0.trans (State.fencesOnly_supplies ..)
      · exact h0
    exact (h1.trans (State.fencesOnly_setReg ..)).trans (State.completes_endSequences ..).fencesOnly

theorem State.fencesOnly_endSheafSequences (s : State) (n : Nat) (k : List SeqKind) (code reason : Nat) :
    s.FencesOnly (s.endSheafSequences n k code reason) := (State.completes_endSequences ..).fencesOnly

theorem State.fencesOnly_driveHeld (s : State) (n leg : Nat) : s.FencesOnly (s.driveHeld n leg) := by
  unfold State.driveHeld
  extract_lets l held asc l1 soft
  split
  · exact State.fencesOnly_setLeg ..
  · split <;> exact State.fencesOnly_setLeg ..

theorem State.fencesOnly_applySelection (s : State) : s.FencesOnly s.applySelection := by
  unfold State.applySelection; split
  · exact .refl s
  · exact State.fencesOnly_forEach _ (fun t leg => t.fencesOnly_driveHeld _ leg) _ s

theorem Bind.sheafOfLeg_lt {b : Bind} {leg n : Nat} (h : b.sheafOfLeg leg = some n) : n < 12 := by
  have := List.mem_of_find?_eq_some h; simpa using this

theorem Bind.sheafOfType_lt {b : Bind} {ty n : Nat} (h : b.sheafOfType ty = some n) : n < 12 := by
  have := List.mem_of_find?_eq_some h; simpa using this

theorem State.actSheaf_lt {s : State} {k n : Nat} (h : s.actSheaf k = some n) : n < 12 := by
  have := List.mem_of_getElem? h
  simp only [Bind.sheavesOfType, List.mem_filter, List.mem_range] at this
  exact this.1

theorem State.fencesOnly_setSheafUnit (s : State) (n : Nat) (hn : n < 12) (r : UnitRec) :
    s.FencesOnly (s.setUnit (unitOf Kind.sheaf n) r) := ⟨rfl, fun _ hu => State.unit_setUnit_other _ _ _ _ (hu n hn)⟩

/-- A class-W record of a sheaf changes no other unit's status. -/
theorem State.fencesOnly_recordSheafW (s : State) (n src : Nat) (hn : n < 12) :
    s.FencesOnly (s.record (unitOf Kind.sheaf n) .W src false) := by
  have hk : unitKind (unitOf Kind.sheaf n) ≠ Kind.leg := by simp only [unitKind, unitOf, Kind.sheaf, Kind.leg]; omega
  unfold State.record State.legLog
  simp only [if_neg hk]
  split
  · exact (s.talks_faultEvent ..).fencesOnly.trans (State.fencesOnly_setSheafUnit _ n hn _)
  · exact .refl s

theorem State.fencesOnly_blame (s : State) (n : Nat) (hn : n < 12) (u : Nat) : s.FencesOnly (s.blame n u) := by
  unfold State.blame
  simp only
  have h := (s.fencesOnly_setSheaf n { s.sheaf n with causes := insertNew u (s.sheaf n).causes }).trans
    (State.fencesOnly_recordSheafW _ n 16 hn)
  split
  · exact h.trans (State.fencesOnly_setSheafUnit _ n hn _)
  · exact h

theorem State.fencesOnly_winnowSheaf (s : State) (n : Nat) (hn : n < 12) (cause : Option Nat) : s.FencesOnly (s.winnowSheaf n cause) := by
  unfold State.winnowSheaf
  simp only
  split
  · refine State.FencesOnly.trans ?_ (State.fencesOnly_applySelection _)
    have h := ((((s.fencesOnly_abortProofs n).trans (State.fencesOnly_quietSheaf _ n .winnowed)).trans
      (State.fencesOnly_forEach (fun t l => t.winnowLeg l .sheaf) (fun t l => t.fencesOnly_winnowLeg l .sheaf)
        (((s.abortProofs n).quietSheaf n .winnowed).bind.legsOf n) _)).trans
      (State.fencesOnly_endSheafSequences _ n [.move] Code.invalid 89)).trans
      (State.fencesOnly_endSheafSequences _ n [.start, .stop] Code.aborted Reason.none)
    split
    · exact h
    · exact h.trans (State.fencesOnly_blame _ n hn _)
  · split
    · exact .refl s
    · split
      · exact State.fencesOnly_setSheaf ..
      · exact .refl s

theorem State.fencesOnly_winnowSet (s : State) (k : Nat) (own : Option Nat) (c : WinnowCause) (cause : Nat) :
    s.FencesOnly (s.winnowSet k own c cause) := by
  unfold State.winnowSet
  split
  · exact .refl s
  · next n hn =>
    extract_lets fresh s1 s2
    have h1 : s.FencesOnly s1 := State.fencesOnly_forEach _ (fun t l => t.fencesOnly_winnowLeg l _) _ s
    have h2 : s.FencesOnly s2 := by
      unfold s2; split
      · exact h1.trans (State.fencesOnly_bump ..)
      · exact h1
    split
    · exact h2.trans (State.fencesOnly_winnowSheaf _ n (Bind.sheafOfType_lt hn) _)
    · exact h2.trans (State.fencesOnly_applySelection _)

theorem State.fencesOnly_fenceLeg (s : State) (leg : Nat) (c : WinnowCause) : s.FencesOnly (s.fenceLeg leg c) := by
  unfold State.fenceLeg
  split
  · exact .refl s
  · next n hn =>
    have hn := Bind.sheafOfLeg_lt hn
    have h := s.fencesOnly_winnowLeg leg c
    simp only
    split
    · exact State.fencesOnly_winnowSet ..
    · split
      · split
        · exact h.trans (State.fencesOnly_winnowSheaf _ n hn _)
        · exact h
      · exact h.trans (State.fencesOnly_winnowSheaf _ n hn _)

theorem State.fencesOnly_fenceLane (s : State) (m : Nat) : s.FencesOnly (s.fenceLane m) := by
  unfold State.fenceLane
  simp only
  split
  · exact .refl s
  · next h =>
    have hn : s.bind.loopSheaf.getD m 15 < 12 := by omega
    split
    · split
      · exact State.fencesOnly_winnowSet ..
      · exact State.fencesOnly_winnowSheaf _ _ hn _
    · split
      · exact .refl s
      · exact State.fencesOnly_winnowSheaf _ _ hn _

theorem State.fencesOnly_detachSlot (s : State) (slot : Nat) : s.FencesOnly (s.detachSlot slot) := by
  unfold State.detachSlot State.closeStreams
  simp only
  split
  · split <;> split <;> exact State.fencesOnly_of_eq rfl rfl
  · exact .refl s

theorem State.fencesOnly_fenceCan (s : State) (n : Nat) : s.FencesOnly (s.fenceCan n) := by
  unfold State.fenceCan
  simp only
  refine State.FencesOnly.trans ?_ (State.fencesOnly_forEach _ State.fencesOnly_detachSlot _ _)
  exact State.fencesOnly_of_eq rfl rfl

/-- Taking a unit out of service: no other unit's fault status changes but a sheaf's, and no SAFE cause comes of it. -/
theorem State.fencesOnly_fence (s : State) (u : Nat) (hu : unitKind u = Kind.sheaf → unitIndex u < 12) : s.FencesOnly (s.fence u) := by
  unfold State.fence
  simp only
  split
  · next h => exact State.fencesOnly_winnowSheaf _ _ (hu h) _
  · exact State.fencesOnly_fenceLeg ..
  · split
    · next n hn => exact State.fencesOnly_winnowSheaf _ n (State.actSheaf_lt hn) _
    · exact .refl s
  · split
    · next h => exact State.fencesOnly_winnowSheaf _ _ h.1 _
    · exact .refl s
  · exact State.fencesOnly_setOut ..
  · exact State.fencesOnly_fenceLane ..
  · exact State.fencesOnly_fenceCan ..
  · exact .refl s

/-! ## Detections -/

/-- What a detection can change: what fencing can, and the journal. -/
def State.Detects (s t : State) : Prop :=
  t = { s with
    regs := t.regs, slots := t.slots, tx := t.tx, cans := t.cans, recs := t.recs, seqs := t.seqs, proofs := t.proofs
    legs := t.legs, sheaves := t.sheaves, acts := t.acts, units := t.units, outs := t.outs, trac := t.trac, shed := t.shed
    commit := t.commit, streams := t.streams, store := t.store, dev := { s.dev with free := t.dev.free } }

theorem State.Detects.refl (s : State) : s.Detects s := rfl

theorem State.Detects.trans {s t u : State} (h : s.Detects t) (k : t.Detects u) : s.Detects u := by
  unfold State.Detects at *; rw [k, h]

theorem State.Fences.detects {s t : State} (h : s.Fences t) : s.Detects t := by
  unfold State.Fences at h; unfold State.Detects; rw [h]

theorem State.Talks.detects {s t : State} (h : s.Talks t) : s.Detects t := h.fences.detects

theorem State.detects_legLog (s : State) (u : Nat) (r : FaultRec) : s.Detects (s.legLog u r) := by
  unfold State.legLog; split <;> rfl

theorem State.detects_record (s : State) (u : Nat) (cls : FaultClass) (src : Nat) (forced : Bool) :
    s.Detects (s.record u cls src forced) := by
  unfold State.record
  extract_lets r s1
  have h1 : s.Detects s1 := s.detects_legLog ..
  split
  · rfl
  · split
    · exact (h1.trans (State.talks_faultEvent ..).detects).trans rfl
    · exact h1
  · exact (h1.trans (u := s1.journalPut _) rfl).trans (State.talks_faultEvent ..).detects

/-- A record leaves every unit's fault status: it notes at most when a class-W source last sent its event. -/
theorem State.record_unit (s : State) (u : Nat) (cls : FaultClass) (src : Nat) (forced : Bool) (v : Nat) :
    ∃ l, (s.record u cls src forced).unit v = { s.unit v with lastEvent := l } := by
  have hl : ∀ r, (s.legLog u r).units = s.units := fun r => by unfold State.legLog; split <;> rfl
  have hf : ∀ (t : State) c, (t.faultEvent u c src).units = t.units := fun t c => by rw [t.talks_faultEvent u c src]
  unfold State.record
  extract_lets r s1
  have h1 : s1.units = s.units := hl r
  have same : ∀ t : State, t.units = s.units → ∃ l, t.unit v = { s.unit v with lastEvent := l } := fun t ht =>
    ⟨(s.unit v).lastEvent, by show KMap.get _ t.units v = _; rw [ht]; rfl⟩
  split
  · exact same s rfl
  · split
    · by_cases hv : v = u
      · subst hv
        refine ⟨KMap.ins ((s1.faultEvent v .W src).unit v).lastEvent src (s1.faultEvent v .W src).time.now, ?_⟩
        have hu : (s1.faultEvent v .W src).unit v = s.unit v := by
          show KMap.get _ (s1.faultEvent v .W src).units v = _; rw [hf, h1]; rfl
        unfold State.noteEvent
        rw [State.unit_setUnit_same, hu]
      · refine ⟨(s.unit v).lastEvent, ?_⟩
        unfold State.noteEvent
        rw [State.unit_setUnit_other _ _ _ _ hv]
        show KMap.get _ (s1.faultEvent u .W src).units v = _; rw [hf, h1]; rfl
    · exact same s1 h1
  · refine same _ ?_
    rw [hf]; exact h1

/-- The record of a detection leaves every unit's fault status: it notes at most when the unit last sent an event and made a record. -/
theorem State.note_unit (s : State) (u : Nat) (cls : FaultClass) (src : Nat) (forced : Bool) (v : Nat) :
    ∃ l e, (s.note u cls src forced).unit v = { s.unit v with lastEvent := l, edge := e } := by
  unfold State.note
  split
  · exact ⟨_, _, rfl⟩
  · obtain ⟨l, h⟩ := s.record_unit u cls src forced v
    by_cases hv : v = u
    · subst hv; exact ⟨l, some (s.time.now, src), by rw [State.unit_setUnit_same, h]⟩
    · exact ⟨l, (s.unit v).edge, by rw [State.unit_setUnit_other _ _ _ _ hv, h]⟩

theorem State.detects_setUnit (s : State) (u : Nat) (r : UnitRec) : s.Detects (s.setUnit u r) := rfl

theorem State.detects_note (s : State) (u : Nat) (cls : FaultClass) (src : Nat) (forced : Bool) :
    s.Detects (s.note u cls src forced) := by
  unfold State.note
  split
  · exact .refl s
  · exact (s.detects_record ..).trans (State.detects_setUnit ..)

theorem State.detects_startHandling (s : State) (u : Nat) (cls : FaultClass) (src : Nat) (forced : Bool)
    (hu : unitKind u = Kind.sheaf → unitIndex u < 12) : s.Detects (s.startHandling u cls src forced) := by
  unfold State.startHandling
  extract_lets limit s1 st r s2
  exact ((s.detects_note ..).trans (State.detects_setUnit ..)).trans (State.fencesOnly_fence s2 u hu).1.detects

/-- A detection's whole reach: the device's state, its causes, device time and what waits for a boundary stay. -/
theorem State.detects_detect (s : State) (u : Nat) (cls : FaultClass) (src : Nat) (forced : Bool)
    (hu : unitKind u = Kind.sheaf → unitIndex u < 12) : s.Detects (s.detect u cls src forced) := by
  unfold State.detect
  split
  · rfl
  · rfl
  · rfl
  · split
    · rfl
    · exact (s.detects_note u .W src forced).trans (State.detects_setUnit ..)
  · exact s.detects_note ..
  · exact s.detects_note ..
  · exact s.detects_startHandling _ _ _ _ hu

/-- No unit word of a kind other than sheaf is a sheaf's. -/
theorem unit_ne_sheaf {u : Nat} (h : unitKind u ≠ Kind.sheaf) : ∀ n < 12, u ≠ unitOf Kind.sheaf n := by
  rintro n hn rfl
  exact h (by simp only [unitKind, unitOf, Kind.sheaf]; omega)

/-- A class-W detection of an idle unit, without one of a lower number on the same edge (R438, Table 16-3): its fault status names the
source, and it stays idle. -/
theorem State.detect_W_unit (s : State) (u src : Nat) (forced : Bool) (h : (s.unit u).state = .idle)
    (he : (s.unit u).outranks u s.time.now src = false) :
    ((s.detect u .W src forced).unit u).state = .idle ∧ ((s.detect u .W src forced).unit u).cls = .W
      ∧ ((s.detect u .W src forced).unit u).src = src := by
  unfold State.detect
  rw [h]
  simp [he, State.setFault]

/-- A class-F or class-L detection of a unit that is idle or resting: it goes to handling with that class and source (R440), or, for the
device or the supervisor with class L, to lasting. -/
theorem State.detect_handling (s : State) (u src : Nat) (cls : FaultClass) (forced : Bool)
    (hc : cls = .F ∨ cls = .L) (h : (s.unit u).state = .idle ∨ (s.unit u).state = .resting)
    (hu : unitKind u = Kind.sheaf → unitIndex u < 12) (hs : unitKind u ≠ Kind.sheaf) :
    ((s.detect u cls src forced).unit u).state
        = (if cls = .L ∧ (unitType u = 0 ∨ unitType u = 1) then .lasting else .handling)
      ∧ ((s.detect u cls src forced).unit u).cls = cls ∧ ((s.detect u cls src forced).unit u).src = src := by
  have hd : s.detect u cls src forced = s.startHandling u cls src forced := by
    unfold State.detect
    rcases hc with rfl | rfl <;> rcases h with h | h <;> rw [h]
  rw [hd]
  unfold State.startHandling
  extract_lets limit s1 st r s2
  have hf := (State.fencesOnly_fence s2 u hu).2 u (unit_ne_sheaf hs)
  rw [hf]
  unfold s2
  simp [st]

/-! ## Warnings -/

/-- What a class-W detection of a unit that is no leg can change: fault statuses and messages. -/
def State.Warns (s t : State) : Prop :=
  t = { s with units := t.units, slots := t.slots, tx := t.tx, cans := t.cans, dev := { s.dev with free := t.dev.free } }

theorem State.Warns.refl (s : State) : s.Warns s := rfl

theorem State.Warns.trans {s t u : State} (h : s.Warns t) (k : t.Warns u) : s.Warns u := by
  unfold State.Warns at *; rw [k, h]

theorem State.Talks.warns {s t : State} (h : s.Talks t) : s.Warns t := by
  unfold State.Talks at h; unfold State.Warns; rw [h]

theorem State.warns_recordW (s : State) (u src : Nat) (forced : Bool) (hu : unitKind u ≠ Kind.leg) :
    s.Warns (s.record u .W src forced) := by
  unfold State.record State.legLog
  simp only [if_neg hu]
  split
  · exact (s.talks_faultEvent ..).warns.trans rfl
  · rfl

theorem State.warns_noteW (s : State) (u src : Nat) (forced : Bool) (hu : unitKind u ≠ Kind.leg) :
    s.Warns (s.note u .W src forced) := by
  unfold State.note
  split
  · exact .refl s
  · exact (s.warns_recordW u src forced hu).trans rfl

/-- A class-W detection of a unit that is no leg stops nothing: only fault statuses and messages change. -/
theorem State.warns_detect (s : State) (u src : Nat) (forced : Bool) (hu : unitKind u ≠ Kind.leg) :
    s.Warns (s.detect u .W src forced) := by
  have h := s.warns_noteW u src forced hu
  unfold State.detect
  cases (s.unit u).state
  · simp only
    split
    · exact .refl s
    · exact h.trans rfl
  · exact .refl s
  · exact h
  · exact h

end Sys2Proof.Machine
end

