-- ==== Sys2Proof/Laws/Safe.lean ====
section
/-! SUPPORT. What a safe demand, and a grave fault, do to every sheaf and to the device's state. -/

namespace Sys2Proof.Machine

/-! ## Operations that leave the sheaves and the fault statuses alone -/

/-- The sheaves and every unit's fault status stay. -/
def State.Aside (s t : State) : Prop := t.sheaves = s.sheaves ∧ t.units = s.units

theorem State.Aside.refl (s : State) : s.Aside s := ⟨rfl, rfl⟩

theorem State.Aside.trans {s t u : State} (h : s.Aside t) (k : t.Aside u) : s.Aside u := ⟨k.1.trans h.1, k.2.trans h.2⟩

theorem State.aside_forEach {α : Type} (f : State → α → State) (hf : ∀ s a, State.Aside s (f s a)) (l : List α) (s : State) :
    s.Aside (s.forEach l f) := State.forEach_rel State.Aside.refl (fun _ _ _ => State.Aside.trans) f hf l s

theorem State.Completes.aside {s t : State} (h : s.Completes t) : s.Aside t := by
  unfold State.Completes at h; rw [h]; exact ⟨rfl, rfl⟩

theorem State.aside_legsOff (s : State) (n : Nat) : s.Aside (s.legsOff n) := State.aside_forEach State.legOff (fun _ _ => ⟨rfl, rfl⟩) _ s

theorem State.aside_clearCarry (s : State) (n : Nat) : s.Aside (s.clearCarry n) := by
  unfold State.clearCarry; split <;> exact ⟨rfl, rfl⟩

theorem State.aside_winnowLeg (s : State) (n : Nat) (c : WinnowCause) : s.Aside (s.winnowLeg n c) :=
  State.Aside.trans (t := (s.legOff n).setLeg n _) ⟨rfl, rfl⟩ (State.aside_clearCarry ..)

theorem State.aside_setRegs (s : State) (l : List (Nat × Word)) : s.Aside (s.setRegs l) := by
  induction l generalizing s with
  | nil => exact .refl s
  | cons p l ih => exact State.Aside.trans ⟨rfl, rfl⟩ (ih _)

theorem State.aside_supplies (s : State) (l : List Nat) (b : Bool) : s.Aside (s.supplies l b) := by
  refine State.aside_forEach _ (fun t n => ?_) _ s; exact ⟨rfl, rfl⟩

theorem State.aside_leaveRun (s : State) (n : Nat) : s.Aside (s.leaveRun n) := by
  unfold State.leaveRun
  extract_lets s1 s2 c b
  have h1 : s.Aside s1 := by
    refine State.aside_forEach _ (fun t n => ?_) _ s; exact State.aside_setRegs ..
  have h : s.Aside s2 := h1.trans (by refine State.aside_forEach _ (fun t n => ?_) _ s1; exact ⟨rfl, rfl⟩)
  split
  · exact h
  · split <;> exact h
  · have k : s.Aside b := by unfold b; split <;> exact h
    clear_value b
    exact k.trans ⟨rfl, rfl⟩
  · exact h

theorem State.aside_dropMove (s : State) (n : Nat) : s.Aside (s.dropMove n) := by
  unfold State.dropMove; split <;> exact ⟨rfl, rfl⟩

theorem State.aside_driveHeld (s : State) (n l : Nat) : s.Aside (s.driveHeld n l) := by
  unfold State.driveHeld
  extract_lets l held asc l1 soft
  split
  · exact ⟨rfl, rfl⟩
  · split <;> exact ⟨rfl, rfl⟩

theorem State.aside_applySelection (s : State) : s.Aside s.applySelection := by
  unfold State.applySelection; split
  · exact .refl s
  · exact State.aside_forEach _ (fun t l => t.aside_driveHeld _ l) _ s

theorem State.aside_abortProofs (s : State) (n : Nat) : s.Aside (s.abortProofs n) := by
  unfold State.abortProofs
  extract_lets ps s0 s1
  split
  · exact .refl s
  · have h1 : s.Aside s1 := by
      unfold s1; split
      · exact State.Aside.trans (t := s0) ⟨rfl, rfl⟩ (State.aside_supplies ..)
      · exact ⟨rfl, rfl⟩
    exact State.Aside.trans (t := s1.setReg (Item.SHEAF.PROOF_RESULT n) _) h1 (State.completes_endSequences ..).aside

theorem State.aside_outDemand (s : State) (n : Nat) : s.Aside (s.outDemand n) := by
  unfold State.outDemand
  simp only
  split <;> exact ⟨rfl, rfl⟩

theorem State.aside_outOff (s : State) (n : Nat) : s.Aside (s.outOff n) := by
  unfold State.outOff
  exact State.Aside.trans (s.aside_outDemand n) ⟨rfl, rfl⟩

theorem State.aside_applyOffCauses (s : State) : s.Aside s.applyOffCauses := by
  refine State.aside_forEach _ (fun t n => ?_) _ s
  simp only
  split
  · exact State.Aside.trans (t.aside_outOff n) ⟨rfl, rfl⟩
  · exact ⟨rfl, rfl⟩

theorem State.aside_dropLatch (s : State) (n : Nat) : s.Aside (s.dropLatch n) := by
  unfold State.dropLatch
  split
  · split
    · exact State.Aside.trans ⟨rfl, rfl⟩ (State.aside_forEach _ State.aside_outOff _ _)
    · exact .refl s
  · exact .refl s

/-- Stopping the followers of a sheaf leaves every sheaf's state, and every fault status. -/
theorem State.stopFollowers_spec (s : State) (n : Nat) :
    (s.stopFollowers n).units = s.units ∧ ∀ m, ((s.stopFollowers n).sheaf m).state = (s.sheaf m).state := by
  refine State.forEach_rel (R := fun s t => t.units = s.units ∧ ∀ m, (t.sheaf m).state = (s.sheaf m).state)
    (fun _ => ⟨rfl, fun _ => rfl⟩) (fun _ _ _ h k => ⟨k.1.trans h.1, fun m => (k.2 m).trans (h.2 m)⟩) _ (fun t m => ?_) _ s
  refine ⟨rfl, fun j => ?_⟩
  by_cases e : j = m
  · subst e; rw [State.sheaf_setSheaf_same]
  · rw [State.sheaf_setSheaf_other _ _ _ _ e]

/-- A sheaf that takes its quiet state: the others keep theirs, and no fault status changes. -/
theorem State.quietSheaf_spec (s : State) (n : Nat) (st : SheafState) :
    (s.quietSheaf n st).units = s.units ∧ ∀ m, ((s.quietSheaf n st).sheaf m).state = if m = n then st else (s.sheaf m).state := by
  unfold State.quietSheaf
  extract_lets s0 s1
  have h0 : s.Aside s0 := (s.aside_legsOff n).trans (State.aside_forEach _ State.aside_clearCarry _ _)
  have h1 : s1.units = s.units ∧ ∀ m, (s1.sheaf m).state = (s.sheaf m).state := by
    have k0 := h0.trans (State.aside_leaveRun s0 n)
    have q := (s0.leaveRun n).stopFollowers_spec n
    unfold s1; split
    · have d := State.aside_dropMove ((s0.leaveRun n).stopFollowers n) n
      exact ⟨d.2.trans (q.1.trans k0.2), fun m => by
        show (KMap.get _ _ m : Sheaf).state = _; rw [d.1]; exact (q.2 m).trans (by unfold State.sheaf; rw [k0.1])⟩
    · have d := h0.trans (State.aside_dropMove s0 n)
      exact ⟨d.2, fun m => by unfold State.sheaf; rw [d.1]⟩
  refine ⟨h1.1, fun m => ?_⟩
  by_cases hm : m = n
  · subst hm; simp
  · rw [State.sheaf_setSheaf_other _ _ _ _ hm, if_neg hm]
    exact h1.2 m

theorem State.Aside.sheaf {s t : State} (h : s.Aside t) (n : Nat) : t.sheaf n = s.sheaf n := by unfold State.sheaf; rw [h.1]
theorem State.Aside.unit {s t : State} (h : s.Aside t) (n : Nat) : t.unit n = s.unit n := by unfold State.unit; rw [h.2]

/-- Winnowing a sheaf for no other unit's sake: no fault status changes, the sheaf is WINNOWED where it was proving, ready or running. -/
theorem State.winnowSheaf_spec (s : State) (n : Nat) :
    (s.winnowSheaf n none).units = s.units ∧ ((s.sheaf n).state = .proving ∨ (s.sheaf n).state = .ready ∨ (s.sheaf n).state = .run →
      ((s.winnowSheaf n none).sheaf n).state = .winnowed) := by
  unfold State.winnowSheaf
  extract_lets h s1 s2 s3 s4
  have e2 : s1.Aside s2 := State.aside_forEach _ (fun t l => t.aside_winnowLeg l _) _ _
  have e4 : s1.Aside s4 := (e2.trans (State.completes_endSequences ..).aside).trans (State.completes_endSequences ..).aside
  have q := (s.abortProofs n).quietSheaf_spec n .winnowed
  split
  · have e5 : s1.Aside s4.applySelection := e4.trans (State.aside_applySelection _)
    refine ⟨e5.2.trans (q.1.trans (s.aside_abortProofs n).2), fun _ => ?_⟩
    rw [e5.sheaf, q.2 n, if_pos rfl]
  · next hs => exact ⟨rfl, fun h => absurd h hs⟩

/-- What a change of the device's state can change: its own books, slots, statuses, messages, outputs, the insulation monitor, a leg's
forced band; no sheaf, no gate supply. -/
def State.Enters (s t : State) : Prop :=
  t = { s with
    dev := t.dev, slots := t.slots, units := t.units, store := t.store, tx := t.tx, cans := t.cans, recs := t.recs, seqs := t.seqs
    outs := t.outs, regs := t.regs, slows := t.slows, legs := t.legs } ∧ t.store.journal = s.store.journal
    ∧ ∀ n, (t.leg n).supplies = (s.leg n).supplies

theorem State.Enters.refl (s : State) : s.Enters s := ⟨rfl, rfl, fun _ => rfl⟩

theorem State.Enters.trans {s t u : State} (h : s.Enters t) (k : t.Enters u) : s.Enters u :=
  ⟨by rw [k.1, h.1], k.2.1.trans h.2.1, fun n => (k.2.2 n).trans (h.2.2 n)⟩

/-- A change of state that leaves the legs as they are. -/
theorem State.enters_of_eq {s t : State} (h : t = { s with
    dev := t.dev, slots := t.slots, units := t.units, store := t.store, tx := t.tx, cans := t.cans, recs := t.recs, seqs := t.seqs
    outs := t.outs, regs := t.regs, slows := t.slows }) (hj : t.store.journal = s.store.journal) : s.Enters t :=
  ⟨by rw [h], hj, fun n => by rw [h]; rfl⟩

theorem State.Completes.enters {s t : State} (h : s.Completes t) : s.Enters t := by
  unfold State.Completes at h; exact State.enters_of_eq (by rw [h]) (by rw [h])

theorem State.enters_forEach {α : Type} (f : State → α → State) (hf : ∀ s a, State.Enters s (f s a)) (l : List α) (s : State) :
    s.Enters (s.forEach l f) := State.forEach_rel State.Enters.refl (fun _ _ _ => State.Enters.trans) f hf l s

theorem State.enters_outOff (s : State) (n : Nat) : s.Enters (s.outOff n) := by
  have h : s.Enters (s.outDemand n) := by
    unfold State.outDemand
    simp only
    split <;> exact State.enters_of_eq rfl rfl
  unfold State.outOff
  exact h.trans (State.enters_of_eq rfl rfl)

theorem State.enters_applyOffCauses (s : State) : s.Enters s.applyOffCauses := by
  refine State.enters_forEach _ (fun t n => ?_) _ s
  simp only
  split
  · exact (t.enters_outOff n).trans (State.enters_of_eq rfl rfl)
  · exact State.enters_of_eq rfl rfl

theorem State.enters_isoCheck (s : State) : s.Enters s.isoCheck := by
  unfold State.isoCheck
  split
  · exact State.enters_of_eq rfl rfl
  · exact .refl s

theorem State.enters_bandAgain (s : State) (n : Nat) : s.Enters (s.bandAgain n) := by
  have set : ∀ (t : State) (l : Leg), l.supplies = (t.leg n).supplies → t.Enters (t.setLeg n l) := fun t l h =>
    ⟨rfl, rfl, fun m => by
      by_cases e : m = n
      · subst e; rw [State.leg_setLeg_same]; exact h
      · rw [State.leg_setLeg_other _ _ _ _ e]⟩
  unfold State.bandAgain State.takeBand
  extract_lets l0 l u band running
  split
  · exact set s _ rfl
  · split
    · exact set s _ rfl
    · split
      · exact set s _ rfl
      · exact (set s { l with bandNext := some (band, s.crossTick) } rfl).trans (State.enters_of_eq rfl rfl)

theorem State.enters_setUnit (s : State) (u : Nat) (r : UnitRec) : s.Enters (s.setUnit u r) := State.enters_of_eq rfl rfl

theorem State.enters_setDev (s : State) (d : Dev) : s.Enters { s with dev := d } := State.enters_of_eq rfl rfl

theorem State.enters_serviceLog (s : State) (a b c d : Nat) : s.Enters (s.serviceLog a b c d) := State.enters_of_eq rfl rfl

theorem State.enters_clearForce (s : State) (u : Nat) : s.Enters (s.clearForce u) := by
  unfold State.clearForce
  split
  · exact (s.enters_setUnit u _).trans (State.enters_bandAgain ..)
  · exact s.enters_setUnit u _

theorem State.enters_setSlot (s : State) (n : Nat) (h : HostSlot) : s.Enters (s.setSlot n h) := State.enters_of_eq rfl rfl

theorem State.enters_leaveService (s : State) : s.Enters s.leaveService := by
  unfold State.leaveService
  exact (State.enters_forEach _ (fun t n => t.enters_setSlot n _) _ s).trans (State.enters_setDev _ _)

theorem State.enters_enterState (s : State) (t : DevState) : s.Enters (s.enterState t) := by
  unfold State.enterState
  split
  · exact .refl s
  · extract_lets old b s0 d0 s1 s2 s3
    have h0 : s.Enters s0 := State.enters_forEach _ (fun t (p : Nat × UnitRec) => t.enters_clearForce p.1) _ s
    have h1 : s0.Enters s1 := s0.enters_setDev _
    have h2 : s1.Enters s2 := by
      unfold s2; split
      · exact s1.enters_leaveService.trans (State.enters_serviceLog ..)
      · exact .refl s1
    exact ((((h0.trans h1).trans h2).trans (State.talks_event ..).completes.enters).trans (State.enters_applyOffCauses _)).trans
      (State.enters_isoCheck _)

theorem State.Enters.sheaf {s t : State} (h : s.Enters t) (n : Nat) : t.sheaf n = s.sheaf n := by rw [h.1]; rfl
theorem State.Enters.supplies {s t : State} (h : s.Enters t) (n : Nat) : (t.leg n).supplies = (s.leg n).supplies := h.2.2 n

/-! ## One sheaf in SAFE -/

/-- Putting a sheaf in SAFE: it is in SAFE unless it was OFF; every other sheaf keeps its state. -/
theorem State.safeSheaf_state (s : State) (n m : Nat) :
    ((s.safeSheaf n).sheaf m).state = if m = n ∧ (s.sheaf n).state ≠ .off then .safe else (s.sheaf m).state := by
  unfold State.safeSheaf
  simp only
  generalize hs1 : (s.abortProofs n).quietSheaf n .safe = s1
  split
  · next h =>
    rcases h with h | h
    · simp [h]
    · by_cases hm : m = n
      · subst hm; simp [h]
      · simp [hm]
  · next ho =>
    have e : s1.Aside (((s1.endSheafSequences n [.prove, .start, .stop, .winnow, .restore, .selftest, .move, .arm, .disarm]
        Code.aborted Reason.none).dropLatch n).applySelection) :=
      ((State.completes_endSequences ..).aside.trans (State.aside_dropLatch ..)).trans (State.aside_applySelection _)
    have q := ((s.abortProofs n).quietSheaf_spec n .safe).2 m
    rw [(s.aside_abortProofs n).sheaf, hs1] at q
    rw [e.sheaf, q]
    by_cases hm : m = n
    · subst hm; simp only [not_or] at ho; simp [ho.1]
    · simp [hm]

/-- Every sheaf in turn: each of them is in SAFE unless it was OFF. -/
theorem State.safeSheaves_state (l : List Nat) (s : State) (m : Nat) :
    ((s.forEach l State.safeSheaf).sheaf m).state = if m ∈ l ∧ (s.sheaf m).state ≠ .off then .safe else (s.sheaf m).state := by
  induction l generalizing s with
  | nil => simp
  | cons n l ih =>
    rw [State.forEach_cons, ih, State.safeSheaf_state]
    by_cases hm : m = n
    · subst hm
      by_cases ho : (s.sheaf m).state = .off <;> simp [ho]
    · simp [hm]

theorem State.fences_outOff (s : State) (n : Nat) : s.Fences (s.outOff n) := by
  have h : s.Fences (s.outDemand n) := by
    unfold State.outDemand
    simp only
    split <;> rfl
  unfold State.outOff
  exact h.trans rfl

theorem State.fences_forEach {α : Type} (f : State → α → State) (hf : ∀ s a, State.Fences s (f s a)) (l : List α) (s : State) :
    s.Fences (s.forEach l f) := State.forEach_rel State.Fences.refl (fun _ _ _ => State.Fences.trans) f hf l s

theorem State.fences_dropLatch (s : State) (n : Nat) : s.Fences (s.dropLatch n) := by
  unfold State.dropLatch
  split
  · split
    · exact State.Fences.trans (t := s.setActuator _ _) rfl (State.fences_forEach _ State.fences_outOff _ _)
    · rfl
  · rfl

theorem State.fences_safeSheaf (s : State) (n : Nat) : s.Fences (s.safeSheaf n) := by
  unfold State.safeSheaf
  simp only
  split
  · rfl
  · exact ((((State.fencesOnly_abortProofs s n).1.trans (State.fencesOnly_quietSheaf _ n .safe).1).trans
      (State.fencesOnly_endSheafSequences _ n _ _ _).1).trans (State.fences_dropLatch _ n)).trans (State.fencesOnly_applySelection _).1

theorem State.fences_supplies (s : State) (l : List Nat) (b : Bool) : s.Fences (s.supplies l b) := by
  refine State.fences_forEach _ (fun t n => ?_) _ s; rfl

theorem State.Fences.sameDev {s t : State} (h : s.Fences t) : s.SameDev t := ⟨t.dev.free, congrArg State.dev h⟩
theorem State.Detects.sameDev {s t : State} (h : s.Detects t) : s.SameDev t := ⟨t.dev.free, congrArg State.dev h⟩
theorem State.Fences.dev {s t : State} (h : s.Fences t) : t.dev = { s.dev with free := t.dev.free } := congrArg State.dev h
theorem State.Talks.dev {s t : State} (h : s.Talks t) : t.dev = { s.dev with free := t.dev.free } := congrArg State.dev h
theorem State.Fences.devState {s t : State} (h : s.Fences t) : t.dev.state = s.dev.state := by unfold State.Fences at h; rw [h]
theorem State.Fences.causes {s t : State} (h : s.Fences t) : t.dev.causes = s.dev.causes := by unfold State.Fences at h; rw [h]
theorem State.Fences.sup {s t : State} (h : s.Fences t) : t.sup = s.sup := by unfold State.Fences at h; rw [h]
theorem State.Fences.bind {s t : State} (h : s.Fences t) : t.bind = s.bind := by unfold State.Fences at h; rw [h]
theorem State.Detects.devState {s t : State} (h : s.Detects t) : t.dev.state = s.dev.state := by unfold State.Detects at h; rw [h]
theorem State.Detects.causes {s t : State} (h : s.Detects t) : t.dev.causes = s.dev.causes := by unfold State.Detects at h; rw [h]
theorem State.Detects.sup {s t : State} (h : s.Detects t) : t.sup = s.sup := by unfold State.Detects at h; rw [h]

/-! ## Changes of the device's state -/

theorem State.fences_applyOffCauses (s : State) : s.Fences s.applyOffCauses := by
  refine State.fences_forEach _ (fun t n => ?_) _ s
  simp only
  split
  · exact (t.fences_outOff n).trans rfl
  · rfl

theorem State.leaveService_dev (s : State) : s.leaveService.dev = { s.dev with serviceHost := none } := by
  unfold State.leaveService
  extract_lets s1
  have h1 : s1.dev = s.dev := by
    refine State.forEach_rel (R := fun s t => t.dev = s.dev) (fun _ => rfl) (fun _ _ _ h k => k.trans h) _ (fun t n => ?_) _ s; rfl
  show { s1.dev with serviceHost := none } = _
  rw [h1]

theorem State.Enters.books {s t : State} (h : s.Enters t) : t = { s with
    dev := t.dev, slots := t.slots, units := t.units, store := t.store, tx := t.tx, cans := t.cans, recs := t.recs, seqs := t.seqs
    outs := t.outs, regs := t.regs, slows := t.slows, legs := t.legs } := h.1

theorem State.sameDev_clearForce (s : State) (u : Nat) : s.SameDev (s.clearForce u) := by
  unfold State.clearForce State.bandAgain State.takeBand
  extract_lets r s1 l0 l u band running
  split
  · split
    · exact ⟨_, rfl⟩
    · split
      · exact ⟨_, rfl⟩
      · split <;> exact ⟨_, rfl⟩
  · exact ⟨_, rfl⟩

/-- A change of the device's state: besides the state only the exit in progress, the service host and the free counter. -/
theorem State.enterState_dev (s : State) (t : DevState) :
    ∃ e h f, (s.enterState t).dev = { s.dev with state := t, exiting := e, serviceHost := h, free := f } := by
  unfold State.enterState
  split
  · next h => subst h; exact ⟨_, _, _, rfl⟩
  · extract_lets old b s0 d0 s1 s2 s3
    obtain ⟨f0, h0⟩ : s.SameDev s0 := State.forEach_rel State.SameDev.refl (fun _ _ _ => State.SameDev.trans) _
      (fun t (p : Nat × UnitRec) => t.sameDev_clearForce p.1) _ s
    have h2 : ∃ h, s2.dev = { s.dev with state := t, exiting := none, serviceHost := h, free := f0 } := by
      have d1 : s1.dev = { s0.dev with state := t, exiting := none } := rfl
      unfold s2; split
      · refine ⟨none, ?_⟩
        show s1.leaveService.dev = _
        rw [State.leaveService_dev, d1, h0]
      · exact ⟨s.dev.serviceHost, by rw [d1, h0]⟩
    obtain ⟨h, h2⟩ := h2
    have h3 : s3.dev = { s2.dev with free := s3.dev.free } := (s2.talks_event ..).dev
    have h4 : s3.applyOffCauses.dev = { s3.dev with free := s3.applyOffCauses.dev.free } := s3.fences_applyOffCauses.dev
    have h5 : s3.applyOffCauses.isoCheck.dev = s3.applyOffCauses.dev := by unfold State.isoCheck; split <;> rfl
    refine ⟨none, h, s3.applyOffCauses.dev.free, ?_⟩
    rw [h5, h4, h3, h2]

theorem State.enterState_state (s : State) (t : DevState) : (s.enterState t).dev.state = t := by
  obtain ⟨_, _, _, h⟩ := s.enterState_dev t; rw [h]

theorem State.enterState_causes (s : State) (t : DevState) : (s.enterState t).dev.causes = s.dev.causes := by
  obtain ⟨_, _, _, h⟩ := s.enterState_dev t; rw [h]

/-- The device states from which a SAFE cause leads to SAFE (Table 3-6). -/
def DevState.stops (d : DevState) : Prop :=
  d = .proof ∨ d = .standby ∨ d = .drive ∨ d = .charge ∨ d = .service ∨ d = .safe

theorem State.Fences.halted {s t : State} (h : s.Fences t) : t.dev.halted = s.dev.halted := by unfold State.Fences at h; rw [h]

theorem State.safeDevice_halted (s : State) (c : SafeCause) : (s.safeDevice c).dev.halted = s.dev.halted := by
  unfold State.safeDevice
  extract_lets d0 s1 s2 s3
  have hf : s1.Fences s2 := State.fences_forEach _ State.fences_safeSheaf _ s1
  have h3 : s2.Fences s3 := (State.completes_endSequences ..).fences
  split
  · have h1 : s1.dev.halted = s.dev.halted := rfl
    clear_value s3 s2 s1
    obtain ⟨_, _, _, h⟩ := s3.enterState_dev .safe
    exact (State.fences_applyOffCauses _).halted.trans ((congrArg Dev.halted h).trans (h3.halted.trans (hf.halted.trans h1)))
  · rfl

/-- A SAFE cause: it is present, the device is in SAFE, and every sheaf that was not OFF is in SAFE. -/
theorem State.safeDevice_spec (s : State) (c : SafeCause) (h : s.dev.state.stops) :
    (s.safeDevice c).dev.state = .safe ∧ c ∈ (s.safeDevice c).dev.causes
      ∧ ∀ n < 12, ((s.safeDevice c).sheaf n).state = if (s.sheaf n).state = .off then .off else .safe := by
  unfold State.safeDevice
  extract_lets d0 s1 s2 s3
  unfold DevState.stops at h
  rw [if_pos h]
  have hf : s1.Fences s2 := State.fences_forEach _ State.fences_safeSheaf _ s1
  have h3 : s2.Fences s3 := (State.completes_endSequences ..).fences
  refine ⟨?_, ?_, fun n hn => ?_⟩
  · rw [(State.fences_applyOffCauses _).devState, State.enterState_state]
  · rw [(State.fences_applyOffCauses _).causes, State.enterState_causes, h3.causes, hf.causes]
    show c ∈ insertNew c s.dev.causes
    unfold insertNew; split <;> simp_all
  · have hs : s2.Enters ((s3.enterState .safe).applyOffCauses) :=
      ((State.completes_endSequences ..).enters.trans (State.enters_enterState ..)).trans (State.enters_applyOffCauses _)
    rw [hs.sheaf, State.safeSheaves_state]
    have e : (s1.sheaf n).state = (s.sheaf n).state := rfl
    rw [e]
    by_cases ho : (s.sheaf n).state = .off <;> simp [ho, hn]

theorem State.demandBoth_spec (s : State) (c : SafeCause) (h : s.dev.state.stops) :
    (s.demandBoth c).dev.state = .safe ∧ c ∈ (s.demandBoth c).dev.causes
      ∧ ∀ n < 12, ((s.demandBoth c).sheaf n).state = if (s.sheaf n).state = .off then .off else .safe := by
  unfold State.demandBoth
  extract_lets p0 s1 s2
  have hf : s1.Fences s2 := by
    unfold s2; split
    · exact State.fences_supplies ..
    · rfl
  have hd : (s2.bump Item.SAFE.DEMAND_CNT).dev.state = s.dev.state := hf.devState
  obtain ⟨a, b, d⟩ := (s2.bump Item.SAFE.DEMAND_CNT).safeDevice_spec c (hd ▸ h)
  have hu : s.Aside s2 := by
    unfold s2; split
    · exact State.Aside.trans (t := s1) ⟨rfl, rfl⟩ (State.aside_supplies ..)
    · exact ⟨rfl, rfl⟩
  refine ⟨(State.fencesOnly_applySelection _).1.devState.trans a, ?_, fun n hn => ?_⟩
  · rw [(State.fencesOnly_applySelection _).1.causes]; exact b
  · rw [(State.aside_applySelection _).sheaf, d n hn]
    have : (s2.bump Item.SAFE.DEMAND_CNT).sheaf n = s.sheaf n := hu.sheaf n
    rw [this]

/-! ## Grave faults -/

/-- An output that is switched off is off; the others keep what they are. -/
theorem State.outOff_out (s : State) (n m : Nat) : ((s.outOff n).out m).on = if m = n then false else (s.out m).on := by
  unfold State.outOff State.outDemand
  extract_lets o d s1
  by_cases h : m = n
  · subst h; rw [State.out_setOut_same, if_pos rfl]
  · rw [State.out_setOut_other _ _ _ _ h, if_neg h]
    unfold s1
    split
    · rw [State.out_setOut_other _ _ _ _ h]; rfl
    · rw [State.out_setOut_other _ _ _ _ h]

theorem State.outsOff_out (l : List Nat) (s : State) (m : Nat) :
    ((s.forEach l State.outOff).out m).on = if m ∈ l then false else (s.out m).on := by
  induction l generalizing s with
  | nil => simp
  | cons n l ih =>
    rw [State.forEach_cons, ih, State.outOff_out]
    by_cases h : m = n <;> simp [h]

theorem State.fences_outsOff (s : State) (l : List Nat) : s.Fences (s.forEach l State.outOff) := State.fences_forEach _ State.fences_outOff l s

theorem State.Detects.time {s t : State} (h : s.Detects t) : t.time = s.time := by unfold State.Detects at h; rw [h]

theorem State.Fences.journal {s t : State} (h : s.Fences t) : t.store.journal = s.store.journal := by unfold State.Fences at h; rw [h]

/-! ## Records -/

theorem sourceWord_spec (cls : FaultClass) (src : Nat) (forced : Bool) (h : src < 256) :
    bitsOf (sourceWord cls src forced) 31 24 = cls.code ∧ bitsOf (sourceWord cls src forced) 23 16 = src := by
  have hc : cls.code ≤ 4 := by cases cls <;> decide
  have hf : (if forced = true then 1 else 0) ≤ 1 := by split <;> omega
  unfold bitsOf sourceWord nw
  rw [BitVec.toNat_ofNat, Nat.shiftRight_eq_div_pow, Nat.shiftRight_eq_div_pow]
  generalize (if forced = true then 1 else 0) = b at *
  constructor <;> omega

/-- A record of class F, L or G stands first in the journal. -/
theorem State.journals_record (s : State) (u : Nat) (cls : FaultClass) (src : Nat) (forced : Bool) (h : src < 256)
    (hc : cls = .F ∨ cls = .L ∨ cls = .G) : s.Journals (s.record u cls src forced) u cls src := by
  unfold State.Journals State.record
  extract_lets r s1
  have h1 : s1.store = s.store := by unfold s1 State.legLog; split <;> rfl
  have key : ∀ c, ((s1.journalPut { unit := nw u, record := r }).faultEvent u c src).store.journal
      = ({ unit := nw u, record := r } :: s.store.journal).take 1024 := fun c => by
    rw [State.talks_faultEvent]; show (_ :: s1.store.journal).take 1024 = _; rw [h1]
  obtain ⟨a, b⟩ := sourceWord_spec cls src forced h
  rcases hc with rfl | rfl | rfl <;> exact ⟨_, key _, rfl, a, b⟩

/-- What a record can change: the leg's log, the journal, messages, when a source last sent its event. -/
def State.Records (s t : State) : Prop :=
  t = { s with legs := t.legs, units := t.units, store := t.store, slots := t.slots, tx := t.tx, cans := t.cans
               dev := { s.dev with free := t.dev.free } }

theorem State.Records.dev {s t : State} (h : s.Records t) : t.dev = { s.dev with free := t.dev.free } := congrArg State.dev h

theorem State.Records.trans {s t u : State} (h : s.Records t) (k : t.Records u) : s.Records u := by
  unfold State.Records at *; rw [k, h]

theorem State.Talks.records {s t : State} (h : s.Talks t) : s.Records t := by
  unfold State.Talks at h; unfold State.Records; rw [h]

theorem State.records_record (s : State) (u : Nat) (cls : FaultClass) (src : Nat) (forced : Bool) :
    s.Records (s.record u cls src forced) := by
  unfold State.record
  extract_lets r s1
  have h1 : s.Records s1 := by unfold s1 State.legLog; split <;> rfl
  split
  · rfl
  · split
    · exact (h1.trans (State.talks_faultEvent ..).records).trans rfl
    · exact h1
  · exact (h1.trans (t := s1) (u := s1.journalPut _) rfl).trans (State.talks_faultEvent ..).records

/-- A class-F or class-L detection of a unit that is idle or resting (R440, R444, R454): its fault status and the record. -/
theorem State.detect_takesUp (s : State) (u src : Nat) (cls : FaultClass) (forced : Bool)
    (hc : cls = .F ∨ cls = .L) (h : (s.unit u).state = .idle ∨ (s.unit u).state = .resting) (hsrc : src < 256)
    (hu : unitKind u = Kind.sheaf → unitIndex u < 12) (hr : (s.unit u).outranks u s.time.now src = false) :
    s.TakesUp (s.detect u cls src forced) u
      (if cls = .L ∧ (unitType u = 0 ∨ unitType u = 1) then .lasting else .handling) cls src := by
  have hd : s.detect u cls src forced = s.startHandling u cls src forced := by
    unfold State.detect
    rcases hc with rfl | rfl <;> rcases h with h | h <;> rw [h]
  rw [hd]
  unfold State.startHandling State.note
  rw [if_neg (by simp [hr])]
  extract_lets limit r0 s1 st r s2
  refine ⟨?_, ?_⟩
  · have hf : (s2.fence u).unit u = s2.unit u := by
      by_cases hs : unitKind u = Kind.sheaf
      · unfold State.fence
        simp only [hs]
        show (s2.winnowSheaf (unitIndex u) none).unit u = _
        unfold State.unit
        rw [(s2.winnowSheaf_spec (unitIndex u)).1]
      · exact (State.fencesOnly_fence s2 u hu).2 u (unit_ne_sheaf hs)
    unfold State.Shows
    rw [hf]
    unfold s2
    simp [st]
  · obtain ⟨r', a, b⟩ := s.journals_record u cls src forced hsrc (by tauto)
    exact ⟨r', ((State.fencesOnly_fence s2 u hu).1.journal).trans a, b⟩

/-- No output goes on. -/
def State.OnlyOff (s t : State) : Prop := ∀ m, (s.out m).on = false → (t.out m).on = false

theorem State.OnlyOff.trans {s t u : State} (h : s.OnlyOff t) (k : t.OnlyOff u) : s.OnlyOff u := fun m hm => k m (h m hm)

theorem State.onlyOff_of_eq {s t : State} (h : t.outs = s.outs) : s.OnlyOff t := fun m hm => by unfold State.out; rw [h]; exact hm

theorem State.onlyOff_applyOffCauses (s : State) : s.OnlyOff s.applyOffCauses := by
  refine State.forEach_rel (R := State.OnlyOff) (fun _ _ h => h) (fun _ _ _ => State.OnlyOff.trans) _ (fun t n => ?_) _ s
  have h1 : ∀ (c : Bool) (v : State), t.OnlyOff v → t.OnlyOff (v.setOut n { v.out n with caused := c }) := fun c v h m hm => by
    by_cases e : m = n
    · subst e; rw [State.out_setOut_same]; exact h m hm
    · rw [State.out_setOut_other _ _ _ _ e]; exact h m hm
  refine h1 _ _ ?_
  split
  · intro m hm
    rw [State.outOff_out]
    split
    · rfl
    · exact hm
  · exact fun _ h => h

theorem State.outs_clearForce (s : State) (u : Nat) : (s.clearForce u).outs = s.outs := by
  unfold State.clearForce State.bandAgain State.takeBand
  extract_lets r s1 l0 l u band running
  split
  · split
    · rfl
    · split
      · rfl
      · split <;> rfl
  · rfl

theorem State.outs_serviceLog (s : State) (a b c d : Nat) : (s.serviceLog a b c d).outs = s.outs := rfl

theorem State.outs_leaveService (s : State) : s.leaveService.outs = s.outs := by
  unfold State.leaveService
  extract_lets s1
  have h : s1.outs = s.outs := by
    refine State.forEach_rel (R := fun s t => t.outs = s.outs) (fun _ => rfl) (fun _ _ _ h k => k.trans h) _ (fun t n => ?_) _ s
    rfl
  clear_value s1
  exact h

theorem State.onlyOff_isoCheck (s : State) : s.OnlyOff s.isoCheck := by
  unfold State.isoCheck; split <;> exact fun _ h => h

theorem State.onlyOff_enterState (s : State) (t : DevState) : s.OnlyOff (s.enterState t) := by
  unfold State.enterState
  split
  · exact fun _ h => h
  · extract_lets old b s0 d0 s1 s2 s3
    have h0 : s0.outs = s.outs := State.forEach_rel (R := fun s t => t.outs = s.outs) (fun _ => rfl) (fun _ _ _ h k => k.trans h) _
      (fun t (p : Nat × UnitRec) => t.outs_clearForce p.1) _ s
    have h2 : s2.outs = s.outs := by
      unfold s2; split
      · exact (State.outs_serviceLog ..).trans ((State.outs_leaveService _).trans h0)
      · exact h0
    have h3 : s3.outs = s.outs := by
      unfold s3; rw [State.talks_event]; exact h2
    exact ((State.onlyOff_of_eq h3).trans (State.onlyOff_applyOffCauses _)).trans (State.onlyOff_isoCheck _)

theorem State.setLeg_legs (s : State) (n : Nat) (l : Leg) : ∃ m, s.setLeg n l = { s with legs := m } := ⟨_, rfl⟩

/-- The release signals stop: the legs go to OPEN and nothing else changes but the signals. -/
theorem State.stopRelease_spec (s : State) : ∃ l, s.stopRelease = { s with sup := { s.sup with releases := 0 }, legs := l } := by
  unfold State.stopRelease
  generalize List.range 48 = l
  refine State.forEach_rel (R := fun s t => ∃ m, t = { s with legs := m }) (fun _ => ⟨_, rfl⟩)
    (fun _ _ _ h k => by obtain ⟨_, rfl⟩ := h; obtain ⟨_, rfl⟩ := k; exact ⟨_, rfl⟩) _ (fun t n => ?_) l
    { s with sup := { s.sup with releases := 0 } }
  obtain ⟨a, ha⟩ := t.setLeg_legs n { t.leg n with hs := t.turnOff n (t.leg n).hs, ls := t.turnOff n (t.leg n).ls }
  have e : t.legOff n = { t with legs := a } := ha
  obtain ⟨b, hb⟩ := (t.legOff n).setLeg_legs n { (t.legOff n).leg n with asc := false }
  exact ⟨b, by rw [hb, e]⟩

theorem State.aside_stopRelease (s : State) : s.Aside s.stopRelease := by
  obtain ⟨l, h⟩ := s.stopRelease_spec
  rw [h]; exact ⟨rfl, rfl⟩

theorem State.stopRelease_books (s : State) : s.stopRelease.store = s.store ∧ s.stopRelease.dev = s.dev := by
  obtain ⟨l, h⟩ := s.stopRelease_spec
  rw [h]; exact ⟨rfl, rfl⟩

theorem State.Fences.stopRelease_dev {s t : State} (h : s.Fences t) :
    t.stopRelease.dev = { s.dev with free := t.stopRelease.dev.free } := by
  rw [t.stopRelease_books.2]; exact h.dev

/-- Every leg of a list without its gate supplies, the others as they were. -/
theorem State.cutLegs_supplies (f : State → Nat → State) (hf : ∀ t n, ((f t n).leg n).supplies = false)
    (ho : ∀ t n m, m ≠ n → (f t n).leg m = t.leg m) (l : List Nat) (s : State) (m : Nat) (hm : m ∈ l) :
    ((s.forEach l f).leg m).supplies = false := by
  have keep : ∀ (l : List Nat) (t : State), (t.leg m).supplies = false → ((t.forEach l f).leg m).supplies = false := fun l => by
    induction l with
    | nil => exact fun t h => h
    | cons n l ih =>
      intro t h
      rw [State.forEach_cons]
      refine ih _ ?_
      by_cases e : m = n
      · subst e; exact hf t m
      · rw [ho t n m e]; exact h
  induction l generalizing s with
  | nil => cases hm
  | cons n l ih =>
    rw [State.forEach_cons]
    by_cases e : m = n
    · subst e; exact keep l _ (hf s m)
    · exact ih _ (by simpa [e] using hm)

/-- A grave fault (R448): the device LOCKED, every sheaf in SAFE but those in OFF, every gate supply and every output off, and the
record in the journal. -/
theorem State.grave_spec (s : State) (src : Nat) (hsrc : src < 256) :
    s.Locks (s.grave src) src := by
  unfold State.grave
  extract_lets u s1 s2 st s3 s4 s5 s6 s7
  have d1 : s.Detects s1 := s.detects_record ..
  have j := s.journals_record u .G src false hsrc (by tauto)
  have f4 : s3.Fences (s3.forEach (List.range 12) State.safeSheaf) := State.fences_forEach _ State.fences_safeSheaf _ s3
  have r4 : (s3.forEach (List.range 12) State.safeSheaf).Aside s4 ∧
      s4.store = (s3.forEach (List.range 12) State.safeSheaf).store := ⟨State.aside_stopRelease _, (State.stopRelease_books _).1⟩
  have a5 : s4.Fences s5 ∧ s4.Aside s5 := ⟨State.fences_supplies .., State.aside_supplies ..⟩
  have e6 : s5.Enters s6 := State.enters_forEach _ State.enters_outOff _ s5
  have e7 : s6.Enters s7 := (State.completes_endSequences ..).enters
  have e8 : s5.Enters (s7.enterState .locked) := (e6.trans e7).trans (State.enters_enterState ..)
  refine ⟨⟨State.enterState_state .., fun n hn => ?_⟩, fun n hn => ?_, fun n hn => ?_, ?_⟩
  · rw [e8.sheaf, a5.2.sheaf, r4.1.sheaf, State.safeSheaves_state]
    have e : s3.sheaf n = s.sheaf n := by
      have h1 : s1.sheaves = s.sheaves := by unfold s1; rw [State.records_record]
      show KMap.get _ s1.sheaves n = _
      rw [h1]; rfl
    rw [e]
    by_cases ho : (s.sheaf n).state = .off <;> simp [ho, hn]
  · rw [e8.supplies]
    refine State.cutLegs_supplies _ (fun t n => ?_) (fun t n m h => ?_) _ s4 n (by simpa using hn)
    · rw [State.leg_setLeg_same]; rfl
    · rw [State.leg_setLeg_other _ _ _ _ h]
  · refine State.onlyOff_enterState _ _ n ?_
    have : s7.out n = s6.out n := by
      show KMap.get _ s7.outs n = KMap.get _ s6.outs n
      unfold s7; rw [State.completes_endSequences]
    rw [this]
    unfold s6
    rw [State.outsOff_out, if_pos (by simpa using hn)]
  · obtain ⟨r, h1, h2⟩ := j
    refine ⟨r, ?_, h2⟩
    rw [e8.2.1, a5.1.journal, r4.2, f4.journal]
    exact h1

/-- The device's own books after a grave fault. -/
theorem State.grave_dev (s : State) (src : Nat) :
    ∃ e h f, (s.grave src).dev = { s.dev with state := .locked, exiting := e, serviceHost := h, free := f } := by
  unfold State.grave
  extract_lets u s1 s2 st s3 s4 s5 s6 s7
  have d1 : s.Records s1 := s.records_record ..
  have d3 : s3.dev = s1.dev := rfl
  have d4 : s4.dev = { s3.dev with free := s4.dev.free } :=
    State.Fences.stopRelease_dev (State.fences_forEach _ State.fences_safeSheaf _ s3)
  have d5 : s4.Fences s5 := State.fences_supplies ..
  have d6 : s5.Fences s6 := State.fences_outsOff s5 _
  have d7 : s6.Completes s7 := State.completes_endSequences ..
  clear_value s7 s6 s5 s4 s3 s2 s1
  obtain ⟨e, h, f, hd⟩ := s7.enterState_dev .locked
  refine ⟨e, h, f, ?_⟩
  rw [hd, d7.fences.dev, d6.dev, d5.dev, d4, d3, d1.dev]

/-! ## Fault statuses over a change of state -/

/-- Every unit's fault status stays: its state, class and source. -/
def State.SameShown (s t : State) : Prop :=
  ∀ u, (t.unit u).state = (s.unit u).state ∧ (t.unit u).cls = (s.unit u).cls ∧ (t.unit u).src = (s.unit u).src

theorem State.SameShown.refl (s : State) : s.SameShown s := fun _ => ⟨rfl, rfl, rfl⟩

theorem State.SameShown.trans {s t u : State} (h : s.SameShown t) (k : t.SameShown u) : s.SameShown u := fun v =>
  ⟨(k v).1.trans (h v).1, (k v).2.1.trans (h v).2.1, (k v).2.2.trans (h v).2.2⟩

theorem State.sameShown_of_units {s t : State} (h : t.units = s.units) : s.SameShown t := fun v => by
  unfold State.unit; rw [h]; exact ⟨rfl, rfl, rfl⟩

theorem State.sameShown_clearForce (s : State) (u : Nat) : s.SameShown (s.clearForce u) := by
  unfold State.clearForce
  extract_lets r s1
  have h1 : s.SameShown s1 := fun v => by
    unfold s1
    by_cases h : v = u
    · subst h; rw [State.unit_setUnit_same]; exact ⟨rfl, rfl, rfl⟩
    · rw [State.unit_setUnit_other _ _ _ _ h]; exact ⟨rfl, rfl, rfl⟩
  split
  · refine h1.trans (State.sameShown_of_units ?_)
    unfold State.bandAgain State.takeBand
    extract_lets l0 l u band running
    split
    · rfl
    · split
      · rfl
      · split <;> rfl
  · exact h1

theorem State.units_leaveService (s : State) : s.leaveService.units = s.units := by
  unfold State.leaveService
  extract_lets s1
  have h : s1.units = s.units := by
    refine State.forEach_rel (R := fun s t => t.units = s.units) (fun _ => rfl) (fun _ _ _ h k => k.trans h) _ (fun t n => ?_) _ s
    rfl
  clear_value s1
  exact h

theorem State.units_serviceLog (s : State) (a b c d : Nat) : (s.serviceLog a b c d).units = s.units := rfl

theorem State.units_isoCheck (s : State) : s.isoCheck.units = s.units := by unfold State.isoCheck; split <;> rfl

theorem State.sameShown_enterState (s : State) (t : DevState) : s.SameShown (s.enterState t) := by
  unfold State.enterState
  split
  · exact .refl s
  · extract_lets old b s0 d0 s1 s2 s3
    have h0 : s.SameShown s0 := State.forEach_rel State.SameShown.refl (fun _ _ _ => State.SameShown.trans) _
      (fun t (p : Nat × UnitRec) => t.sameShown_clearForce p.1) _ s
    have h2 : s1.SameShown s2 := by
      unfold s2; split
      · exact State.sameShown_of_units ((State.units_serviceLog ..).trans s1.units_leaveService)
      · exact .refl s1
    have h3 : s2.SameShown s3 := State.sameShown_of_units (State.talks_event ..).completes.aside.2
    have h1 : s0.SameShown s1 := State.sameShown_of_units rfl
    refine ((((h0.trans h1).trans h2).trans h3).trans (State.sameShown_of_units (State.aside_applyOffCauses _).2)).trans
      (State.sameShown_of_units (State.units_isoCheck _))

theorem State.units_safeSheaf (s : State) (n : Nat) : (s.safeSheaf n).units = s.units := by
  unfold State.safeSheaf
  simp only
  split
  · rfl
  · exact (((State.completes_endSequences ..).aside.trans (State.aside_dropLatch ..)).trans (State.aside_applySelection _)).2.trans
      (((s.abortProofs n).quietSheaf_spec n .safe).1.trans (s.aside_abortProofs n).2)

theorem State.safeDevice_shown (s : State) (c : SafeCause) : s.SameShown (s.safeDevice c) ∧ (s.safeDevice c).store.journal = s.store.journal := by
  unfold State.safeDevice
  extract_lets d0 s1 s2 s3
  have f2 : s1.Fences s2 := State.fences_forEach _ State.fences_safeSheaf _ s1
  have u2 : s2.units = s1.units := State.forEach_rel (R := fun s t => t.units = s.units) (fun _ => rfl) (fun _ _ _ h k => k.trans h) _
    State.units_safeSheaf _ s1
  have c3 : s2.Completes s3 := State.completes_endSequences ..
  split
  · refine ⟨?_, ?_⟩
    · have h3 : s.SameShown s3 := State.sameShown_of_units (c3.aside.2.trans (u2.trans rfl))
      exact (h3.trans (State.sameShown_enterState _ _)).trans (State.sameShown_of_units (State.aside_applyOffCauses _).2)
    · rw [(State.enters_applyOffCauses _).2.1, (State.enters_enterState ..).2.1, c3.enters.2.1, f2.journal]
  · exact ⟨State.sameShown_of_units rfl, rfl⟩

theorem State.TakesUp.shown {s t v : State} {u : Nat} {st : Handling} {cls : FaultClass} {src : Nat} (h : s.TakesUp t u st cls src)
    (k : t.SameShown v) (j : v.store.journal = t.store.journal) : s.TakesUp v u st cls src :=
  ⟨⟨(k u).1.trans h.1.1, (k u).2.1.trans h.1.2.1, (k u).2.2.trans h.1.2.2⟩, by obtain ⟨r, a, b⟩ := h.2; exact ⟨r, j.trans a, b⟩⟩

/-! ## Detections of units that nothing hangs on -/

/-- The unit kinds that leave service without any block stopping: the device, sets, analogue inputs, converters, the supervisor. -/
def unitAlone (u : Nat) : Prop := unitKind u = 0 ∨ unitKind u = 3 ∨ unitKind u = 5 ∨ unitKind u = 6 ∨ unitKind u = 10 ∨ unitKind u = 11
  ∨ unitKind u = 13

/-- What a detection of such a unit can change: fault statuses, records, messages. -/
def State.Notes (s t : State) : Prop :=
  t = { s with units := t.units, store := t.store, slots := t.slots, tx := t.tx, cans := t.cans, dev := { s.dev with free := t.dev.free } }

theorem State.Notes.trans {s t u : State} (h : s.Notes t) (k : t.Notes u) : s.Notes u := by
  unfold State.Notes at *; rw [k, h]

theorem State.notes_record (s : State) (u : Nat) (cls : FaultClass) (src : Nat) (forced : Bool) (hu : unitKind u ≠ 2) :
    s.Notes (s.record u cls src forced) := by
  have hT : ∀ s t : State, s.Talks t → s.Notes t := fun s t h => by unfold State.Talks at h; unfold State.Notes; rw [h]
  unfold State.record State.legLog
  simp only [if_neg hu]
  split
  · rfl
  · split
    · exact (hT _ _ (State.talks_faultEvent ..)).trans rfl
    · rfl
  · exact State.Notes.trans (t := s.journalPut _) rfl (hT _ _ (State.talks_faultEvent ..))

theorem State.notes_note (s : State) (u : Nat) (cls : FaultClass) (src : Nat) (forced : Bool) (hu : unitKind u ≠ 2) :
    s.Notes (s.note u cls src forced) := by
  unfold State.note
  split
  · rfl
  · exact (s.notes_record u cls src forced hu).trans rfl

theorem State.fence_alone (s : State) (u : Nat) (hu : unitAlone u) : s.fence u = s := by
  unfold State.fence
  rcases hu with h | h | h | h | h | h | h <;> simp only [h]

theorem State.notes_detect (s : State) (u : Nat) (cls : FaultClass) (src : Nat) (forced : Bool) (hu : unitAlone u) :
    s.Notes (s.detect u cls src forced) := by
  have h2 : unitKind u ≠ 2 := by
    intro h; unfold unitAlone at hu; omega
  have hr := fun c => s.notes_note u c src forced h2
  unfold State.detect
  split
  · rfl
  · rfl
  · rfl
  · split
    · rfl
    · exact (hr _).trans rfl
  · exact hr _
  · exact hr _
  · unfold State.startHandling
    extract_lets limit s1 st r s2
    rw [State.fence_alone _ _ hu]
    exact (hr _).trans rfl

/-! ## The device's own books -/

theorem State.sameDev_forEach {α : Type} (f : State → α → State) (hf : ∀ s a, State.SameDev s (f s a)) (l : List α) (s : State) :
    s.SameDev (s.forEach l f) := State.forEach_rel State.SameDev.refl (fun _ _ _ => State.SameDev.trans) f hf l s

theorem State.sameDev_setRegs (s : State) (l : List (Nat × Word)) : s.SameDev (s.setRegs l) := by
  induction l generalizing s with
  | nil => exact .refl s
  | cons p l ih => exact State.SameDev.trans (State.SameDev.refl _) (ih _)

/-- Commands that wait for a restored unit complete with a service log entry; nothing else of the device changes. -/
theorem State.endRestores_spec (s : State) (p : Sequence → Bool) : s.Enters (s.endRestores p) ∧ s.SameDev (s.endRestores p) := by
  unfold State.endRestores
  refine State.forEach_rel (R := fun s t => s.Enters t ∧ s.SameDev t) (fun _ => ⟨.refl _, .refl _⟩)
    (fun a b c h k => ⟨h.1.trans k.1, h.2.trans k.2⟩) _ (fun t q => ?_) _ s
  have h1 : (t.serviceLog 4 q.slot (t.unitState (q.units.headD 0)) (nw (q.units.headD 0))).Completes _ :=
    State.completes_endSequence _ q Code.ok Reason.none (t.unitResult (q.units.headD 0))
  exact ⟨State.Enters.trans (t := t.serviceLog 4 q.slot (t.unitState (q.units.headD 0)) (nw (q.units.headD 0))) (State.enters_of_eq rfl rfl) h1.enters,
    State.SameDev.trans (t := t.serviceLog 4 q.slot (t.unitState (q.units.headD 0)) (nw (q.units.headD 0))) ⟨_, rfl⟩ h1.sameDev⟩

end Sys2Proof.Machine
end

