-- ==== Sys2Proof/Laws/Power.lean ====
section
/-! SUPPORT. What the boot ROM's choice of firmware and leaving reset can change. -/

namespace Sys2Proof.Machine

/-- What the boot ROM can change: the firmware slots' books and the service log, and whether a slot could boot. -/
def State.Boots (s t : State) : Prop :=
  ∃ fw fv fr fb log cnt b, t = { s with
    store := { s.store with fwState := fw, fwVersion := fv, fwRun := fr, fwFallbacks := fb, log := log, logCount := cnt }
    dev := { s.dev with bootable := b } }

theorem State.Boots.refl (s : State) : s.Boots s := ⟨_, _, _, _, _, _, _, rfl⟩

theorem State.Boots.trans {s t u : State} (h : s.Boots t) (k : t.Boots u) : s.Boots u := by
  obtain ⟨_, _, _, _, _, _, _, rfl⟩ := h
  obtain ⟨_, _, _, _, _, _, _, rfl⟩ := k
  exact ⟨_, _, _, _, _, _, _, rfl⟩

theorem State.boots_rejectTrials (s : State) : s.Boots s.rejectTrials := by
  refine State.forEach_rel State.Boots.refl (fun _ _ _ => State.Boots.trans) _ (fun t k => ?_) _ s
  simp only
  split
  · exact ⟨_, _, _, _, _, _, _, rfl⟩
  · exact .refl t

theorem State.boots_bootFirmware (s : State) : s.Boots s.bootFirmware := by
  unfold State.bootFirmware
  extract_lets s1 st
  have h : s.Boots s1 := s.boots_rejectTrials
  split
  · exact h.trans ⟨_, _, _, _, _, _, _, rfl⟩
  · split
    · exact h.trans ⟨_, _, _, _, _, _, _, rfl⟩
    · exact h.trans ⟨_, _, _, _, _, _, _, rfl⟩

/-- A state with nothing in its tables is dark. -/
theorem State.dark_of_empty (s : State) (h1 : s.legs = []) (h2 : s.outs = []) (h3 : s.sheaves = []) (h4 : s.slots = []) :
    s.Dark := by
  refine ⟨fun n => ?_, fun n => ?_, fun n => ?_, fun n => ?_⟩
  · unfold State.leg; rw [h1]; exact ⟨rfl, rfl⟩
  · unfold State.out; rw [h2]; rfl
  · unfold State.sheaf; rw [h3]; rfl
  · unfold State.slot; rw [h4]; rfl

/-- Leaving reset: POWERUP with every block at rest, device time as given, the cause reported; the latch, the journal and the images
stay, and so do the queue and the part. -/
theorem State.leaveReset_spec (s : State) (cause now : Nat) :
    (s.leaveReset cause now).dev.state = .powerup ∧ (s.leaveReset cause now).dev.powered = true
      ∧ (s.leaveReset cause now).dev.nporLow = false ∧ (s.leaveReset cause now).time.now = now ∧ (s.leaveReset cause now).Dark
      ∧ s.Lasts (s.leaveReset cause now) ∧ (s.leaveReset cause now).reg Item.DEV.BOOT_CAUSE = nw cause := by
  obtain ⟨fw, fv, fr, fb, log, cnt, b, h⟩ := (s.inReset true false cause now).boots_bootFirmware
  unfold State.leaveReset
  rw [h]
  simp only
  split
  · exact ⟨rfl, rfl, rfl, rfl, State.dark_of_empty _ rfl rfl rfl rfl, ⟨rfl, rfl, rfl⟩, State.reg_setReg_same _ _ _⟩
  · exact ⟨rfl, rfl, rfl, rfl, State.dark_of_empty _ rfl rfl rfl rfl, ⟨rfl, rfl, rfl⟩, State.reg_setReg_same _ _ _⟩

/-! ## The end of POWERUP -/

theorem State.sameDev_raise (s : State) (u : Nat) (c : FaultClass) (src : Nat) (hu : unitKind u = Kind.sheaf → unitIndex u < 12) :
    s.SameDev (s.raise u c src) := (s.detects_detect u c src false hu).sameDev

theorem State.sameDev_bandAgain (s : State) (n : Nat) : s.SameDev (s.bandAgain n) := by
  unfold State.bandAgain State.takeBand
  extract_lets l0 l u band running
  split
  · exact ⟨_, rfl⟩
  · split
    · exact ⟨_, rfl⟩
    · split <;> exact ⟨_, rfl⟩

theorem State.sameDev_applyItems (s : State) (l : List (Nat × Word)) : s.SameDev (s.applyItems l) := by
  unfold State.applyItems
  extract_lets its b extra s1 s2 s3
  have h1 : s.SameDev s1 := ⟨s.dev.free, rfl⟩
  have h2 : s1.SameDev s2 := by
    refine State.sameDev_forEach _ (fun t p => ?_) _ s1; exact ⟨t.dev.free, rfl⟩
  have h3 : s2.SameDev s3 := by
    refine State.sameDev_forEach _ (fun t p => ?_) _ s2
    split
    · split <;> exact ⟨t.dev.free, rfl⟩
    · exact .refl t
  exact (((h1.trans h2).trans h3).trans (State.sameDev_forEach _ (fun t _ => t.sameDev_raise _ _ _ (by decide)) _ s3)).trans
    (State.sameDev_forEach _ State.sameDev_bandAgain _ _)

theorem State.sameDev_canStart (s : State) (l : List CanEntry) (n : Nat) : s.SameDev (s.canStart l n) := by
  unfold State.canStart
  extract_lets c maps tbl c0 s1
  split
  · exact ⟨s.dev.free, rfl⟩
  · split
    · refine State.SameDev.trans (t := s1.setReg (Item.CAN.STATE n) 0) ⟨s.dev.free, rfl⟩ (State.sameDev_raise _ _ _ _ ?_)
      simp only [unitKind, unitIndex, unitOf, Kind.can, Kind.sheaf]; omega
    · exact ⟨s.dev.free, rfl⟩

theorem State.sameDev_bootImage (s : State) (a b : ImageBody) : s.SameDev (s.bootImage a b) := by
  unfold State.bootImage
  extract_lets k items objects s1 floor st0 s2
  have h1 : s.SameDev s1 := s.sameDev_setRegs _
  have h2 : s1.SameDev s2 := by
    unfold s2; split
    · exact ⟨s1.dev.free, rfl⟩
    · exact .refl s1
  exact ((h1.trans h2).trans (s2.sameDev_applyItems items)).trans (State.sameDev_forEach _ (fun t n => t.sameDev_canStart objects n) _ _)

/-- The work at the end of POWERUP: firmware runs, and the device's state and its SAFE causes are as they were. -/
theorem State.powerupWork_dev (s : State) (a b : ImageBody) : ∃ c, (s.powerupWork a b).dev = { s.dev with fwRunning := true, free := c } := by
  unfold State.powerupWork
  extract_lets s1 s2 d0 s3 l0 s4
  have h1 : s.SameDev s1 := s.sameDev_bootImage a b
  have h2 : s1.SameDev s2 := s1.sameDev_setRegs _
  replace h2 := h1.trans h2
  clear_value s2 s1
  have h3 : s3.dev = { s2.dev with fwRunning := true } := rfl
  clear_value s3
  have h4 : s3.SameDev s4 := by
    unfold s4; split
    · exact ⟨s3.dev.free, rfl⟩
    · exact .refl s3
  clear_value s4
  have fin : ∀ t : State, s4.SameDev t → ∃ c, t.dev = { s.dev with fwRunning := true, free := c } := fun t ht => by
    obtain ⟨_, h2⟩ := h2; obtain ⟨c, ht⟩ := h4.trans ht
    exact ⟨c, by rw [ht, h3, h2]⟩
  split
  · split
    · next n hn =>
      refine fin _ (s4.sameDev_raise _ _ _ (fun _ => ?_))
      have := Bind.sheafOfType_lt hn
      simp only [unitIndex, unitOf, Kind.sheaf]; omega
    · exact fin _ (.refl s4)
  · exact fin _ (.refl s4)

theorem State.beginDeviceProof_dev (s : State) : s.beginDeviceProof.dev.state = .proof ∧ s.beginDeviceProof.dev.causes = s.dev.causes
    ∧ s.beginDeviceProof.dev.fwRunning = s.dev.fwRunning := by
  unfold State.beginDeviceProof
  extract_lets s1 l d0 s2
  obtain ⟨e, h, f, hd⟩ := s.enterState_dev .proof
  have h2 : s2.SameDev (s2.forEach l (fun t n => t.proveSheaf n false)) := by
    refine State.sameDev_forEach _ (fun t n => ?_) _ s2
    unfold State.proveSheaf State.beginProof
    extract_lets p r1 r2
    have h1 : t.SameDev r1 := (t.fences_supplies _ _).sameDev
    have h2 : r1.SameDev r2 := ⟨_, rfl⟩
    split
    · exact h1.trans h2
    · exact (h1.trans h2).trans ⟨_, rfl⟩
  obtain ⟨c, h2⟩ := h2
  have h3 : s2.dev = { s1.dev with proofStart := s1.time.now, pathTesting := true, proved := l } := rfl
  have h4 : s1.dev = (s.enterState .proof).dev := rfl
  rw [h2, h3, h4, hd]
  exact ⟨rfl, rfl, rfl⟩

end Sys2Proof.Machine
end

