-- ==== Sys2Proof/Laws/Acts.lean ====
section
/-! SUPPORT. What a command's own work says of the state after it: detections through the frame, and the frame where nothing waits. -/

namespace Sys2Proof.Machine

/-- A detection that a command's work takes up stands after the command. -/
theorem State.act_takesUp (s g : State) (hl : s.live = true) {u st cls src} (h : s.TakesUp g u st cls src) :
    s.TakesUp (s.act (fun _ => g)) u st cls src := by
  obtain ⟨⟨a, b, c⟩, r, j, k⟩ := h
  refine ⟨⟨?_, ?_, ?_⟩, r, ?_, k⟩
  · rw [State.act_unit s _ hl]; exact a
  · rw [State.act_unit s _ hl]; exact b
  · rw [State.act_unit s _ hl]; exact c
  · rw [State.act_journal s _ hl]; exact j

/-- A fault status that a command's work leaves stands after the command. -/
theorem State.act_shows (s g : State) (hl : s.live = true) {u st cls src} (h : g.Shows u st cls src) :
    (s.act (fun _ => g)).Shows u st cls src := by
  unfold State.Shows; rw [State.act_unit s _ hl]; exact h

/-- A class-F detection, or a class-L one of a unit that is no leg and no sheaf, on a state with this state's journal. -/
theorem State.detect_takesUp_of (s g : State) (u src : Nat) (cls : FaultClass) (forced : Bool)
    (hj : g.store.journal = s.store.journal)
    (hc : cls = .F ∨ cls = .L) (h : (g.unit u).state = .idle ∨ (g.unit u).state = .resting) (hsrc : src < 256)
    (hu : unitKind u = Kind.sheaf → unitIndex u < 12) (ht : cls = .F ∨ (unitType u ≠ 0 ∧ unitType u ≠ 1))
    (hr : (g.unit u).outranks u g.time.now src = false) :
    s.TakesUp (g.detect u cls src forced) u .handling cls src := by
  obtain ⟨a, r, b, c⟩ := g.detect_takesUp u src cls forced hc h hsrc hu hr
  rw [if_neg (by rcases ht with rfl | ⟨h1, h2⟩ <;> simp_all)] at a
  exact ⟨a, r, by rw [b, hj], c⟩

/-- A class-W detection of an idle unit shows on it, unless a lower source of the same clock edge has its record. -/
theorem State.detect_shows_W (s : State) (u src : Nat) (forced : Bool) (h : (s.unit u).state = .idle)
    (hr : (s.unit u).outranks u s.time.now src = false) :
    (s.detect u .W src forced).Shows u .idle .W src := s.detect_W_unit u src forced h hr

/-- Where nothing waits for a boundary, passing one changes nothing. -/
theorem State.boundary_nothing (s : State) (b : Block) (tick : Nat) (h : s.waits = []) : s.boundary b tick = s := by
  unfold State.boundary
  simp only [h, List.filter_nil, State.forEach_nil]
  rw [← h]

/-- In a calm state a command whose work leaves the waiting values and the device's state alone does just that work. -/
theorem State.Calm.act {s : State} (h : s.Calm) (g : State) (hw : g.waits = s.waits) (hs : g.swaps = s.swaps)
    (hd : g.dev.state = s.dev.state) : s.act (fun _ => g) = s.keepLive g :=
  State.act_eq s (fun _ => g) h.live (hw.trans h.waits) (hs.trans h.swaps) (fun e => h.safe (hd.symm.trans e)) (fun e => h.locked (hd.symm.trans e))

/-- The items after a calm state's command. -/
theorem State.Calm.reg {s : State} (h : s.Calm) (g : State) (hw : g.waits = s.waits) (hs : g.swaps = s.swaps)
    (hd : g.dev.state = s.dev.state) (a : Nat) : (s.act (fun _ => g)).reg a = g.reg a := by
  rw [h.act g hw hs hd]; rfl

end Sys2Proof.Machine
end

