-- ==== Sys2Proof/Laws/Images.lean ====
section
/-! SUPPORT. What writing bytes into a store does: the canonical form stays, the written addresses read as written, the others as
before. -/

namespace Sys2Proof.Machine

/-- Writing bytes keeps the canonical form of a store. -/
theorem putBytes_wf (l : List Byte) (m : KMap Byte) (a : Nat) (h : KMap.wf (fun _ => (0 : Byte)) m = true) :
    KMap.wf (fun _ => (0 : Byte)) (putBytes m a l) = true := by
  induction l generalizing m a with
  | nil => exact h
  | cons b t ih => exact ih _ _ (KMap.put_wf _ _ _ _ h)

/-- Reading a store after bytes were written into it. -/
theorem putBytes_get (l : List Byte) (m : KMap Byte) (a j : Nat) :
    KMap.get (fun _ => (0 : Byte)) (putBytes m a l) j
      = if a ≤ j ∧ j < a + l.length then l.getD (j - a) 0 else KMap.get (fun _ => (0 : Byte)) m j := by
  induction l generalizing m a with
  | nil => simp only [putBytes, List.length_nil]; rw [if_neg (by omega)]
  | cons b t ih =>
    simp only [putBytes, ih, KMap.get_put, List.length_cons]
    by_cases hj : j = a
    · subst hj; simp
    · by_cases h : a + 1 ≤ j ∧ j < a + 1 + t.length
      · obtain ⟨i, rfl⟩ : ∃ i, j = a + 1 + i := ⟨j - (a + 1), by omega⟩
        have h1 : a + 1 + i - a = i + 1 := by omega
        rw [if_pos h, if_pos (by omega), h1, Nat.add_sub_cancel_left]; rfl
      · rw [if_neg h, if_neg hj, if_neg (by omega)]

/-- The stores of the machine after reset are in their canonical form. -/
theorem reset_stores_wf :
    KMap.wf (fun _ => (0 : Byte)) State.reset.store.bytes = true ∧ KMap.wf (fun _ => (0 : Byte)) State.reset.store.fwBytes = true :=
  ⟨rfl, rfl⟩

end Sys2Proof.Machine
end

