-- ==== Sys2Proof/Laws/Shorts.lean ====
section
/-! SUPPORT. What no stop of a leg undoes (R176, R177): a removed on command, a desaturation or over-current latch, a soft turn-off that
runs. Every operation that takes a leg, a set or a sheaf out of service keeps them, and so does a detection of a leg. -/

namespace Sys2Proof.Machine

/-- A driver that keeps what a short-circuit response has done to it. -/
def Driver.Quieter (d e : Driver) : Prop :=
  (d.command = false → e.command = false) ∧ (d.desat = true → e.desat = true)
    ∧ (d.soft = true → d.on = true → e.soft = true ∧ e.on = true)

theorem Driver.Quieter.refl (d : Driver) : d.Quieter d := ⟨id, id, fun a b => ⟨a, b⟩⟩

theorem Driver.Quieter.trans {d e f : Driver} (h : d.Quieter e) (k : e.Quieter f) : d.Quieter f :=
  ⟨fun a => k.1 (h.1 a), fun a => k.2.1 (h.2.1 a), fun a b => let ⟨x, y⟩ := h.2.2 a b; k.2.2 x y⟩

theorem Driver.quieter_off (d : Driver) (now : Nat) : d.Quieter (d.off now) :=
  ⟨fun _ => rfl, id, fun a b => ⟨a, by simp [Driver.off, a, b]⟩⟩

theorem Driver.quieter_softOff (d : Driver) (now : Nat) : d.Quieter (d.softOff now) :=
  ⟨fun _ => rfl, id, fun a b => by simp [Driver.softOff, a, b]⟩

/-- A leg that keeps what a short-circuit response has done to it. -/
def Leg.Quieter (l m : Leg) : Prop := l.hs.Quieter m.hs ∧ l.ls.Quieter m.ls ∧ (l.oc = true → m.oc = true)

theorem Leg.Quieter.refl (l : Leg) : l.Quieter l := ⟨.refl _, .refl _, id⟩

theorem Leg.Quieter.trans {l m k : Leg} (h : l.Quieter m) (i : m.Quieter k) : l.Quieter k :=
  ⟨h.1.trans i.1, h.2.1.trans i.2.1, fun a => i.2.2 (h.2.2 a)⟩

/-- Every leg keeps what a short-circuit response has done to it. -/
structure State.Quiets (s t : State) : Prop where
  leg : ∀ n, (s.leg n).Quieter (t.leg n)

theorem State.Quiets.refl (s : State) : s.Quiets s := ⟨fun _ => .refl _⟩

theorem State.Quiets.trans {s t u : State} (h : s.Quiets t) (k : t.Quiets u) : s.Quiets u := ⟨fun n => (h.leg n).trans (k.leg n)⟩

theorem State.quiets_of_legs {s t : State} (h : t.legs = s.legs) : s.Quiets t := ⟨fun n => by
  unfold State.leg; rw [h]; exact .refl _⟩

theorem State.Completes.quiets {s t : State} (h : s.Completes t) : s.Quiets t := by
  refine State.quiets_of_legs ?_; unfold State.Completes at h; rw [h]

theorem State.quiets_forEach {α : Type} (f : State → α → State) (hf : ∀ s a, State.Quiets s (f s a)) (l : List α) (s : State) :
    s.Quiets (s.forEach l f) := State.forEach_rel State.Quiets.refl (fun _ _ _ => State.Quiets.trans) f hf l s

theorem State.quiets_setLeg (s : State) (n : Nat) (l : Leg) (h : (s.leg n).Quieter l) : s.Quiets (s.setLeg n l) := ⟨fun m => by
  by_cases e : m = n
  · subst e; rw [State.leg_setLeg_same]; exact h
  · rw [State.leg_setLeg_other _ _ _ _ e]; exact .refl _⟩

theorem State.quieter_turnOff (s : State) (n : Nat) (d : Driver) : d.Quieter (s.turnOff n d) := d.quieter_off s.time.now

theorem State.quieter_softOff (s : State) (n : Nat) (d : Driver) : d.Quieter (s.softOff n d) := d.quieter_softOff s.time.now

theorem State.quiets_legOff (s : State) (n : Nat) : s.Quiets (s.legOff n) :=
  s.quiets_setLeg n _ ⟨s.quieter_turnOff n _, s.quieter_turnOff n _, id⟩

theorem State.quiets_legsOff (s : State) (n : Nat) : s.Quiets (s.legsOff n) := State.quiets_forEach _ State.quiets_legOff _ s

theorem State.quiets_clearCarry (s : State) (n : Nat) : s.Quiets (s.clearCarry n) := by
  refine State.quiets_of_legs ?_
  unfold State.clearCarry; split <;> rfl

theorem State.quiets_winnowLeg (s : State) (n : Nat) (c : WinnowCause) : s.Quiets (s.winnowLeg n c) := by
  unfold State.winnowLeg
  refine ((s.quiets_legOff n).trans ?_).trans (State.quiets_clearCarry ..)
  exact State.quiets_setLeg _ _ _ ⟨.refl _, .refl _, id⟩

theorem State.setRegs_legs (s : State) (l : List (Nat × Word)) : (s.setRegs l).legs = s.legs := by
  induction l generalizing s with
  | nil => rfl
  | cons p l ih => exact (ih _).trans rfl

theorem State.quiets_leaveRun (s : State) (n : Nat) : s.Quiets (s.leaveRun n) := by
  unfold State.leaveRun
  extract_lets s1 s2 c b
  have h1 : s.Quiets s1 := State.quiets_forEach _ (fun t g => State.quiets_of_legs (t.setRegs_legs _)) _ s
  have h2 : s1.Quiets s2 := by
    refine State.quiets_forEach _ (fun t l => ?_) _ s1
    exact t.quiets_setLeg _ _ ⟨.refl _, .refl _, id⟩
  have h := h1.trans h2
  clear_value s2
  refine h.trans (State.quiets_of_legs ?_)
  split
  · rfl
  · split <;> rfl
  · unfold b; split <;> rfl
  · rfl

theorem State.quiets_stopFollowers (s : State) (n : Nat) : s.Quiets (s.stopFollowers n) := by
  unfold State.stopFollowers
  refine State.quiets_forEach _ (fun t m => ?_) _ s
  exact State.quiets_of_legs rfl

theorem State.quiets_supplies (s : State) (l : List Nat) (on : Bool) : s.Quiets (s.supplies l on) := by
  unfold State.supplies
  refine State.quiets_forEach _ (fun t n => ?_) _ s
  exact t.quiets_setLeg _ _ ⟨⟨id, id, fun a b => ⟨a, b⟩⟩, ⟨id, id, fun a b => ⟨a, b⟩⟩, id⟩

theorem State.quiets_dropMove (s : State) (n : Nat) : s.Quiets (s.dropMove n) := by
  refine State.quiets_of_legs ?_
  unfold State.dropMove; split <;> rfl

theorem State.quiets_quietSheaf (s : State) (n : Nat) (st : SheafState) : s.Quiets (s.quietSheaf n st) := by
  unfold State.quietSheaf
  refine State.Quiets.trans (State.Quiets.trans ?_ (State.quiets_dropMove _ n)) (State.quiets_of_legs rfl)
  have h := (s.quiets_legsOff n).trans (State.quiets_forEach _ State.quiets_clearCarry (s.bind.legsOf n) _)
  split
  · exact (h.trans (State.quiets_leaveRun ..)).trans (State.quiets_stopFollowers ..)
  · exact h

theorem State.quiets_abortProofs (s : State) (n : Nat) : s.Quiets (s.abortProofs n) := by
  unfold State.abortProofs
  extract_lets ps s0 s1
  split
  · exact .refl s
  · have h1 : s.Quiets s1 := by
      unfold s1; split
      · exact State.Quiets.trans (t := s0) (State.quiets_of_legs rfl) (State.quiets_supplies ..)
      · exact State.quiets_of_legs rfl
    refine State.Quiets.trans (t := s1.setReg (Item.SHEAF.PROOF_RESULT n) _) ?_ (State.completes_endSequences ..).quiets
    exact h1.trans (State.quiets_of_legs rfl)

theorem State.quiets_endSheafSequences (s : State) (n : Nat) (k : List SeqKind) (code reason : Nat) :
    s.Quiets (s.endSheafSequences n k code reason) := (State.completes_endSequences ..).quiets

theorem State.quiets_driveHeld (s : State) (n leg : Nat) : s.Quiets (s.driveHeld n leg) := by
  unfold State.driveHeld
  extract_lets l held asc l1 soft
  split
  · refine s.quiets_setLeg _ _ ⟨s.quieter_turnOff leg _, ?_, id⟩
    unfold State.toAsc
    simp only
    split
    · exact .refl _
    · next h => exact ⟨id, id, fun _ b => absurd b h⟩
  · split
    · refine s.quiets_setLeg _ _ ⟨s.quieter_turnOff leg _, ?_, id⟩
      show Driver.Quieter _ (if soft then _ else _)
      split
      · exact s.quieter_softOff leg _
      · exact s.quieter_turnOff leg _
    · exact s.quiets_setLeg _ _ ⟨.refl _, .refl _, id⟩

theorem State.quiets_applySelection (s : State) : s.Quiets s.applySelection := by
  unfold State.applySelection; split
  · exact .refl s
  · exact State.quiets_forEach _ (fun t leg => t.quiets_driveHeld _ leg) _ s

theorem State.faultEvent_legs (s : State) (u : Nat) (c : FaultClass) (src : Nat) : (s.faultEvent u c src).legs = s.legs := by
  rw [s.talks_faultEvent u c src]

theorem State.quiets_legLog (s : State) (u : Nat) (r : FaultRec) : s.Quiets (s.legLog u r) := by
  unfold State.legLog
  split
  · exact s.quiets_setLeg _ _ ⟨.refl _, .refl _, id⟩
  · exact .refl s

theorem State.quiets_record (s : State) (u : Nat) (cls : FaultClass) (src : Nat) (forced : Bool) :
    s.Quiets (s.record u cls src forced) := by
  unfold State.record
  extract_lets r s1
  have h1 : s.Quiets s1 := s.quiets_legLog ..
  split
  · exact .refl s
  · split
    · exact h1.trans (State.quiets_of_legs (State.faultEvent_legs ..))
    · exact h1
  · exact h1.trans (State.quiets_of_legs (State.faultEvent_legs ..))

theorem State.quiets_note (s : State) (u : Nat) (cls : FaultClass) (src : Nat) (forced : Bool) :
    s.Quiets (s.note u cls src forced) := by
  unfold State.note
  split
  · exact .refl s
  · exact (s.quiets_record ..).trans (State.quiets_of_legs rfl)

theorem State.quiets_blame (s : State) (n u : Nat) : s.Quiets (s.blame n u) := by
  unfold State.blame
  simp only
  have h := State.Quiets.trans (State.quiets_of_legs (s := s) (t := s.setSheaf n { s.sheaf n with causes := insertNew u (s.sheaf n).causes }) rfl)
    (State.quiets_record _ (unitOf Kind.sheaf n) .W 16 false)
  split
  · exact h.trans (State.quiets_of_legs rfl)
  · exact h

theorem State.quiets_winnowSheaf (s : State) (n : Nat) (cause : Option Nat) : s.Quiets (s.winnowSheaf n cause) := by
  unfold State.winnowSheaf
  simp only
  split
  · refine State.Quiets.trans ?_ (State.quiets_applySelection _)
    have h := ((((s.quiets_abortProofs n).trans (State.quiets_quietSheaf _ n .winnowed)).trans
      (State.quiets_forEach (fun t l => t.winnowLeg l .sheaf) (fun t l => t.quiets_winnowLeg l .sheaf)
        (((s.abortProofs n).quietSheaf n .winnowed).bind.legsOf n) _)).trans
      (State.quiets_endSheafSequences _ n [.move] Code.invalid 89)).trans
      (State.quiets_endSheafSequences _ n [.start, .stop] Code.aborted Reason.none)
    split
    · exact h
    · exact h.trans (State.quiets_blame _ n _)
  · split
    · exact .refl s
    · split
      · exact State.quiets_of_legs rfl
      · exact .refl s

theorem State.quiets_winnowSet (s : State) (k : Nat) (own : Option Nat) (c : WinnowCause) (cause : Nat) :
    s.Quiets (s.winnowSet k own c cause) := by
  unfold State.winnowSet
  split
  · exact .refl s
  · next n hn =>
    extract_lets fresh s1 s2
    have h1 : s.Quiets s1 := State.quiets_forEach _ (fun t l => t.quiets_winnowLeg l _) _ s
    have h2 : s.Quiets s2 := by
      unfold s2; split
      · exact h1.trans (State.quiets_of_legs rfl)
      · exact h1
    split
    · exact h2.trans (State.quiets_winnowSheaf ..)
    · exact h2.trans (State.quiets_applySelection _)

theorem State.quiets_fenceLeg (s : State) (leg : Nat) (c : WinnowCause) : s.Quiets (s.fenceLeg leg c) := by
  unfold State.fenceLeg
  split
  · exact .refl s
  · have h := s.quiets_winnowLeg leg c
    simp only
    split
    · exact State.quiets_winnowSet ..
    · split
      · split
        · exact h.trans (State.quiets_winnowSheaf ..)
        · exact h
      · exact h.trans (State.quiets_winnowSheaf ..)

theorem State.quiets_detachSlot (s : State) (slot : Nat) : s.Quiets (s.detachSlot slot) := by
  refine State.quiets_of_legs ?_
  unfold State.detachSlot State.closeStreams
  simp only
  split
  · split <;> split <;> rfl
  · rfl

theorem State.quiets_fence (s : State) (u : Nat) : s.Quiets (s.fence u) := by
  unfold State.fence
  simp only
  split
  · exact State.quiets_winnowSheaf ..
  · exact State.quiets_fenceLeg ..
  · split
    · exact State.quiets_winnowSheaf ..
    · exact .refl s
  · split
    · exact State.quiets_winnowSheaf ..
    · exact .refl s
  · exact State.quiets_of_legs rfl
  · unfold State.fenceLane
    simp only
    split
    · exact .refl s
    · split
      · split
        · exact State.quiets_winnowSet ..
        · exact State.quiets_winnowSheaf ..
      · split
        · exact .refl s
        · exact State.quiets_winnowSheaf ..
  · unfold State.fenceCan
    simp only
    refine State.Quiets.trans ?_ (State.quiets_forEach _ State.quiets_detachSlot _ _)
    exact State.quiets_of_legs rfl
  · exact .refl s

/-- A detection of any unit leaves what a short-circuit response has done to a leg. -/
theorem State.quiets_detect (s : State) (u : Nat) (cls : FaultClass) (src : Nat) (forced : Bool) :
    s.Quiets (s.detect u cls src forced) := by
  have h : s.Quiets (s.startHandling u cls src forced) := by
    unfold State.startHandling
    extract_lets limit s1 st r s2
    have h2 : s1.Quiets s2 := State.quiets_of_legs rfl
    exact ((s.quiets_note ..).trans h2).trans (State.quiets_fence s2 u)
  unfold State.detect
  split
  · exact .refl s
  · exact .refl s
  · exact .refl s
  · split
    · exact .refl s
    · exact (s.quiets_note ..).trans (State.quiets_of_legs rfl)
  · exact s.quiets_note ..
  · exact s.quiets_note ..
  · exact h

theorem State.quiets_dropLatch (s : State) (n : Nat) : s.Quiets (s.dropLatch n) := by
  unfold State.dropLatch
  split
  · simp only
    split
    · refine State.Quiets.trans ?_ (State.quiets_forEach _ (fun t o => ?_) _ _)
      · exact State.quiets_of_legs rfl
      · refine State.quiets_of_legs ?_
        unfold State.outOff State.outDemand; simp only; split <;> rfl
    · exact .refl s
  · exact .refl s

theorem State.quiets_safeSheaf (s : State) (n : Nat) : s.Quiets (s.safeSheaf n) := by
  unfold State.safeSheaf
  simp only
  split
  · exact .refl s
  · exact ((((s.quiets_abortProofs n).trans (State.quiets_quietSheaf _ n .safe)).trans
      (State.quiets_endSheafSequences _ n _ Code.aborted Reason.none)).trans (State.quiets_dropLatch _ n)).trans (State.quiets_applySelection _)

theorem State.quiets_secondShort (s : State) (n : Nat) : s.Quiets (s.secondShort n) := by
  unfold State.secondShort
  have h1 : s.Quiets (s.setSheaf n { s.sheaf n with forceOpen := true }) := State.quiets_of_legs rfl
  exact (((h1.trans (State.quiets_safeSheaf _ n)).trans (State.quiets_legsOff _ n)).trans (State.quiets_applySelection _)).trans
    (State.quiets_detect ..)

/-- What follows a short-circuit response leaves the response itself (R176, R177, R180). -/
theorem State.quiets_shortFault (s : State) (leg src : Nat) (forced : Bool) :
    s.Quiets (s.shortFault leg src forced) := by
  unfold State.shortFault
  split
  · exact .refl s
  · extract_lets lost s1
    have h1 : s.Quiets s1 := s.quiets_detect ..
    split
    · exact h1.trans (State.quiets_secondShort ..)
    · exact h1.trans (State.quiets_applySelection _)

end Sys2Proof.Machine
end

