-- ==== Sys2Proof/WellFormed.lean ====
section
/-! DEFINITION. The well-formed commands: what a bus, a contact or an island can bring. The operands whose type already
holds them to the spec's range (a slot, a leg, a converter) need no check; the others are checked here. -/

namespace Sys2Proof

/-- A host message: a payload that the 16-bit length field of Table 4-4 can count. -/
def HostMsg.wf (m : HostMsg) : Bool := decide (m.payload.length < 65536)

/-- The lengths of the data field of a CAN FD frame (Table 18-1). -/
def canLengths : List Nat := [0, 1, 2, 3, 4, 5, 6, 7, 8, 12, 16, 20, 24, 32, 48, 64]

/-- A frame in a format of Table 18-1: an identifier of 11 or 29 bits, a length the format has, no remote frame and no rate switch
outside its format. -/
def CanFrame.wf (f : CanFrame) : Bool :=
  decide (f.ident < (if f.ide then 536870912 else 2048)) && decide (f.data.length ∈ canLengths)
    && (f.fdf || (decide (f.data.length ≤ 8) && !f.brs && !f.esi)) && (!f.rtr || (!f.fdf && decide (f.data = [])))

/-- The finding of a proof on legs: legs of the module, each once. -/
def legsOnce (l : List Nat) : Bool := l.all (fun n => decide (n < 48)) && decide l.Nodup

/-- An island of Table 1-2. -/
def Island.wf : Island → Bool
  | .leg n => decide (n < 48)
  | .pulse => true
  | .engine => true
  | .measurement => true
  | .ports => true
  | .shell => true
  | .supervisor => true

/-- A memory of Table 16-4 that the module has. -/
def Memory.wf : Memory → Bool
  | .supervisor => true
  | .leg n => decide (n < 48)
  | .sheaf n => decide (n < 12)
  | .lane n => decide (n < 32)
  | .generator n => decide (n < 4)
  | .fast n => decide (n < 16)
  | .slow n => decide (n < 2)
  | .port n => decide (n < 4)
  | .shell => true
  | .mirror addr => decide (addr < 4294967296)
  | .mailbox slot index => decide (slot < 8) && decide (index < 64)
  | .message controller object => decide (controller < 4) && decide (object < 128)
  | .store slot => decide (slot < 2)

/-- What an image body sets: objects of the four controllers, items of the 32-bit address form. -/
def ImageBody.wf (b : ImageBody) : Bool :=
  b.objects.all (fun o => decide (o.controller < 4) && decide (o.object < 128) && decide (o.items.length ≤ 16))
    && b.items.all (fun p => decide (p.1 < 4294967296))

/-- A finding: deferred steps of distinct legs. -/
def Finding.wf (f : Finding) : Bool := legsOnce (f.checks.map (·.leg)) && legsOnce (f.test.offs.map (·.1))

/-- What a self-test measures: each leg's off-state checks once. -/
def SelftestFinding.wf (f : SelftestFinding) : Bool := legsOnce (f.offs.map (·.1))

/-- The unit words of Table 4-6 and R436: a kind from 0x00 to 0x0D. -/
def unitWordWf (u : Nat) : Bool := decide (u < 0x0E000000)

/-- The means of a window: inputs and references of an integrating converter, three phases. -/
def WindowMeans.wf (w : WindowMeans) : Bool :=
  decide (w.phases.length ≤ 3) && decide ((w.means.map Prod.fst).Nodup)

/-- A command that the device can meet. -/
def Instr.wf : Instr → Bool
  | .vsupStart => true
  | .vsupLowOperation _ => true
  | .vsupHighOperation _ => true
  | .vsupOverVoltage _ => true
  | .supplyLoss => true
  | .nporReset => true
  | .startTestsEnd _ _ _ => true
  | .firmwareStartTimeout => true
  | .powerupEnd a b => a.wf && b.wf
  | .proofEnd => true
  | .shutdownPathTestEnd _ => true
  | .sheafProofEnd unit legs _ _ => unitWordWf unit && legsOnce (legs.map (·.leg))
  | .wake _ _ => true
  | .shipHold10s => true
  | .shipResetEnd => true
  | .shipHold20s => true
  | .debugHalt => true
  | .debugResume => true
  | .islandClockLoss island _ _ => island.wf
  | .fabricClockStop => true
  | .timeRealign => true
  | .memoryScrub memory _ => memory.wf
  | .paramCrcCompare unit _ => unitWordWf unit
  | .paramCrcUpdate => true
  | .discover _ => true
  | .hostAttach _ msg => msg.wf
  | .hostDetach _ msg => msg.wf
  | .linkDown _ => true
  | .linkUp _ => true
  | .hostIdleTimeout _ => true
  | .slotHoldExpiry _ => true
  | .commandAccept _ msg => msg.wf
  | .collect _ msg => msg.wf
  | .completionResend _ => true
  | .creditSend _ => true
  | .sequenceStart _ _ finding => finding.wf
  | .commandTimeout _ _ => true
  | .atStart _ _ finding => finding.wf
  | .storeClaimExpiry => true
  | .timeQuery _ _ => true
  | .paramRead _ _ => true
  | .paramWrite _ _ => true
  | .swap _ _ => true
  | .claimTake _ _ => true
  | .claimRelease _ _ => true
  | .prove _ _ => true
  | .sheafStart _ _ checks => legsOnce (checks.map (·.leg))
  | .sheafStopReady _ _ => true
  | .sheafStopOff _ _ => true
  | .winnow _ _ => true
  | .restore _ _ finding _ => finding.wf
  | .selftest _ _ finding => finding.wf
  | .force _ _ => true
  | .moveDetent _ _ => true
  | .movePosition _ _ => true
  | .moveHome _ _ => true
  | .moveLearn _ _ => true
  | .chargeSet _ _ => true
  | .chargeArm _ _ => true
  | .chargeDisarm _ _ => true
  | .chargeArmAfterTimer _ _ => true
  | .nvCommitChunk _ _ => true
  | .nvCommitSeal _ _ => true
  | .nvCommitFwChunk _ _ => true
  | .nvCommitFwSeal _ _ => true
  | .streamOpen _ _ _ => true
  | .streamClose _ _ => true
  | .streamFrameSend _ _ _ => true
  | .modeReqDrive _ _ => true
  | .modeReqCharge _ _ => true
  | .modeReqService _ _ => true
  | .modeReqStandby _ _ => true
  | .hvConnect _ _ => true
  | .hvDisconnect _ _ => true
  | .soUserWrite _ _ => true
  | .dirPermitWrite _ _ => true
  | .urgReq _ _ => true
  | .swTrig _ _ => true
  | .laneClose _ _ => true
  | .laneOpen _ _ => true
  | .hostCmpWrite _ _ => true
  | .shootClear _ _ => true
  | .boRecover _ _ => true
  | .idclashClear _ _ => true
  | .objSel _ _ => true
  | .jrnSel _ _ => true
  | .logSel _ _ => true
  | .fwConfirm _ _ => true
  | .fwSelect _ _ => true
  | .serviceHostDetached => true
  | .sdQuery _ _ _ _ => true
  | .sdReply => true
  | .sdQuiet _ _ => true
  | .spiWrite msg _ => msg.wf
  | .spiRead _ => true
  | .spiStatus => true
  | .spiOther _ => true
  | .ptpSync _ _ _ => true
  | .ptpHoldover => true
  | .sheafReload _ _ => true
  | .groupReload _ _ => true
  | .groupWrite _ _ _ => true
  | .legEdge _ _ _ _ _ _ => true
  | .interpolatorRecal => true
  | .triggerEvent _ _ => true
  | .sheafRunStop _ => true
  | .syncinEdge _ => true
  | .syncinLoss => true
  | .profileWord _ _ _ _ _ => true
  | .desaturation _ _ _ => true
  | .overCurrent _ _ _ => true
  | .softTurnOffEnd _ => true
  | .shootThrough _ => true
  | .profileTimingFault _ _ _ => true
  | .gateSupplyUndervoltage _ _ _ _ _ => true
  | .offStateDiag _ _ => true
  | .cycleLimit _ _ => true
  | .zeroCurrent _ _ => true
  | .conversionDone _ _ => true
  | .converterTrigger _ _ => true
  | .backgroundSlot _ => true
  | .backgroundStarve _ _ => true
  | .converterCalibration _ _ _ => true
  | .openWireCheck _ _ => true
  | .mainsCrossing _ _ _ _ => true
  | .mainsUnlockTimeout => true
  | .windowEnd _ w => w.wf
  | .isoStateEnd _ _ => true
  | .isoCycleEnd => true
  | .latchEvent _ _ => true
  | .portEdge _ _ _ _ => true
  | .observerUpdate _ _ => true
  | .excitationPeriod _ _ => true
  | .wireDisagreement _ _ _ _ _ => true
  | .ssiFrame _ _ _ _ => true
  | .speedCompute _ => true
  | .compareEvent _ _ => true
  | .laneSetComplete _ => true
  | .laneSetTimeout _ => true
  | .laneTimer _ => true
  | .laneComputeEnd _ => true
  | .profileStep _ => true
  | .trcRequestTimeout => true
  | .trcLimitTimeout => true
  | .trcWinnowRampEnd _ => true
  | .trcStopRampEnd => true
  | .auxPowerLimit => true
  | .auxbCurrentLimit => true
  | .softStartEnd _ => true
  | .runningHiccup _ => true
  | .hiccupPauseEnd _ => true
  | .auxAutoStart _ _ checks => legsOnce (checks.map (·.leg))
  | .auxInputLow _ _ => true
  | .auxOutputOv _ _ => true
  | .pilotState _ _ _ _ => true
  | .proximityChange _ => true
  | .chargerUpdate checks => legsOnce (checks.map (·.leg))
  | .chargerWatchdog => true
  | .safetyTimerExpiry => true
  | .mainsLoss _ _ => true
  | .plugDebounceEnd => true
  | .handover => true
  | .relayWaitEnd => true
  | .linkMatch => true
  | .chgd0StopResync checks => legsOnce (checks.map (·.leg))
  | .chargeBurstPause => true
  | .movePauseEnd _ => true
  | .latchWaitEnd _ => true
  | .generatorDone _ => true
  | .moveSettled _ => true
  | .moveTorqueCheck _ => true
  | .actuatorStall _ => true
  | .followingError _ => true
  | .homingStop _ => true
  | .homingTimeout _ => true
  | .parkProofLost _ => true
  | .stoRequest _ _ _ => true
  | .stoRelease => true
  | .stoDiscrepancy => true
  | .torqueMonitor _ _ => true
  | .supervisorSpeedEval _ _ _ _ => true
  | .speedCrossCheck _ => true
  | .channelTest _ => true
  | .outputRequest _ _ => true
  | .testPulseCycle _ _ => true
  | .testCycleMissing _ => true
  | .pathAgeExceeded => true
  | .graveFault _ => true
  | .selftestResult unit finding => unitWordWf unit && finding.wf
  | .restEnd unit _ _ => unitWordWf unit
  | .dependentReproof _ => true
  | .tempEstimate dies _ _ => decide (dies.length = 5)
  | .tempRateEval => true
  | .thermalStop _ => true
  | .thermalHoldRelease unit => unitWordWf unit
  | .tbCut _ _ _ => true
  | .tbRelease _ _ _ => true
  | .canFrameReceived _ frame _ => frame.wf
  | .canFrameSent _ _ => true
  | .canTxChoice _ _ => true
  | .canSignalPeriod _ _ => true
  | .canError _ _ _ _ _ _ _ => true
  | .canBusOff _ => true
  | .canRecoveryEnd _ => true
  | .canRateLock _ frame _ => frame.wf
  | .canDominantTimeout _ _ => true
  | .canHostHeartbeat _ _ frame _ => frame.wf
  | .canHeartbeatTimeout _ _ => true
  | .canDeviceHeartbeat _ => true
  | .compactMessage _ _ frame _ => frame.wf
  | .nporRelease => true
  | .shipLevelChange _ _ => true
  | .vsupOverVoltageEnd _ => true
  | .gatePowerWarning powers => decide (powers.length = 96)
  | .supplyOutputShort _ _ _ => true
  | .evseTimeout => true
  | .inrushTimeout => true
  | .nvPauseEnd => true
  | .readbackFault _ _ _ _ => true

end Sys2Proof
end

