-- ==== Sys2Proof/Tests/Slice0.lean ====
section
/-! SUPPORT. Witnesses: for every obligation with hypotheses, states and operands that meet them; ill-formed commands refused; and
values that the spec works out. -/

open Sys2Proof Sys2Proof.Machine

namespace Sys2Proof.Tests

/-- A device in a state of its own, all else as after reset, POWERUP done. -/
def at' (d : DevState) : State :=
  { State.reset with dev := { State.reset.dev with state := d, tested := true, pathPassed := true, fwRunning := true } }
def standby : State := at' .standby

def dev0 : Nat := unitOf Kind.device 0
def sup0 : Nat := unitOf Kind.supervisor 0

/-- A state that is calm by its fields. -/
theorem calm_of {s : State} (h : s.live = true ∧ s.waits = [] ∧ s.swaps = [] ∧ s.dev.state ≠ .safe ∧ s.dev.state ≠ .locked) : s.Calm :=
  ⟨h.1, h.2.1, h.2.2.1, h.2.2.2.1, h.2.2.2.2⟩

/-- A unit without a fault and without a record: it takes note of every source. -/
def quiet (s : State) (u : Nat) : Bool := decide ((s.unit u).state = .idle ∧ (s.unit u).edge = none)
theorem notices_of_quiet {s : State} {u : Nat} (h : quiet s u = true) (src : Nat) : s.Notices u src := by
  simp only [quiet, decide_eq_true_eq] at h
  exact ⟨h.1, fun now _ => by simp [UnitRec.outranks, h.2]⟩

/-! ## Supplies and reset -/

def unsupplied : State := { standby with dev := { standby.dev with powered := false, cause := 3 } }
def inReset : State := { standby with dev := { standby.dev with nporLow := true, cause := 2 } }
def shipped : State := { at' .transport with lv := { standby.lv with latchOpen := true } }
def woken : State := { standby with lv := { standby.lv with latchOpen := true } }

theorem witness_SupplyLossAndResetSwitchEverythingOff : standby.dev.powered = true ∧ standby.dev.nporLow = false := by decide
theorem witness_StartLeavesResetIntoPowerup :
    (unsupplied.dev.powered = false ∧ unsupplied.dev.nporLow = false) ∧ (inReset.dev.powered = true ∧ inReset.dev.nporLow = true) := by decide
theorem witness_WakeClosesTheLatch :
    shipped.dev.powered = true ∧ shipped.lv.latchOpen = true ∧ shipped.dev.state = .transport ∧ shipped.dev.nporLow = false
      ∧ woken.dev.powered = true ∧ woken.lv.latchOpen = true ∧ woken.dev.state ≠ .transport := by decide

/-! ## Warnings, SAFE causes, grave faults -/

def differing : State := { standby with sup := { standby.sup with differSince := some 0 } }
def starving : State := standby.setReg (Item.ADCF.BG_MASK 15) 0x80
def fed : State := standby.setRegs [(Item.POS.SUP_V 0, 1), (Item.POS.SUP_V 3, 1)]
theorem witness_WarningsStopNothing :
    standby.live = true ∧ quiet standby dev0 = true ∧ standby.regN Item.DEV.GATE_PWR_WARN < [30000, 1].sum
      ∧ fed.live = true ∧ fed.portSupplyOn 0 = true ∧ fed.portSupplyOn 3 = true ∧ quiet fed (unitOf Kind.port 0) = true
      ∧ quiet fed (unitOf Kind.port 3) = true ∧ fed.regN (Item.POS.SUP_IMAX 3) < 1001
      ∧ starving.live = true ∧ bitOf (starving.reg (Item.ADCF.BG_MASK 15)) 7 = true ∧ quiet starving (unitOf Kind.fast 15) = true
      ∧ differing.live = true ∧ differing.sup.differSince = some 0 ∧ differing.sup.discrepancy = false ∧ quiet differing sup0 = true
      ∧ standby.sup.pathAgeRaised = false ∧ quiet standby sup0 = true := by decide

/-- DRIVE with the traction sheaf in RUN and another in READY. -/
def drive : State := ((at' .drive).setSheaf 0 { standby.sheaf 0 with state := .run }).setSheaf 5 { standby.sheaf 0 with state := .ready }
def torque : State :=
  { drive with sup := { drive.sup with torqueSince := some 0 },
               time := { drive.time with now := 1000000000000 } }.setRegs [(Item.SAFE.KT, 1000), (Item.SAFE.UT_MARGIN, 0), (Item.PWM.LEG_EN 0, 0), (Item.LOOP.Y 6 7, 0x3F800000)]
def debugPart : State := { drive with dev := { drive.dev with partAD0 := true } }
theorem witness_SafeCausesStopThePowerSide :
    drive.live = true ∧ drive.dev.state = .drive ∧ SafeCause.sto ∉ drive.dev.causes ∧ quiet drive dev0 = true
      ∧ 300 + drive.regN Item.SAFE.STO_TP_TOL * 1000 < 1000301 ∧ drive.sup.stoA = true ∧ drive.sup.stoB = true
      ∧ drive.forced supUnit 0 = false ∧ drive.forced supUnit 1 = false
      ∧ Island.lost .engine 100 0 = true ∧ Island.lost .shell 0 0 = true
      ∧ debugPart.live = true ∧ debugPart.dev.state = .drive ∧ debugPart.dev.partAD0 = true ∧ debugPart.dev.halted = false := by decide
set_option maxRecDepth 100000 in
theorem witness_TorqueMonitor :
    torque.live = true ∧ torque.dev.state = .drive ∧ torque.regN Item.SAFE.KT ≠ 0 ∧ torque.forced supUnit 5 = false
      ∧ SafeCause.torque ∉ torque.dev.causes ∧ torque.sup.torqueSince = some 0
      ∧ 0 + torque.regN Item.SAFE.UT_T * 1000000 ≤ torque.time.now
      ∧ F32.lt (F32.ofInt (torque.regI Item.SAFE.UT_MARGIN)) (F32.abs (F32.sub (torque.supTorque 1000 []) torque.torqueShared)) = true := by
  decide

def proving : State := { at' .proof with dev := { (at' .proof).dev with pathTesting := true } }
def pathOk : PathTest := { blockRead := true, ascRead := true, absentNs := 300, lockoutUs := 100, regulateUs := 1000, drives := 15, us := 5000 }
def pathBad : PathTest := { pathOk with blockRead := false, lockoutUs := 101 }
def wrongWord : MemRead := { address := 5, parity := true, wrong := 3 }
def goodWord : MemRead := { address := 7, parity := true, wrong := 2 }
theorem witness_GraveFaultsLockTheDevice :
    drive.live = true ∧ wrongWord.wrong = 3 ∧ goodWord.wrong ≤ 2 ∧ goodWord.parity = addressParity goodWord.address
      ∧ { goodWord with address := 5 }.parity ≠ addressParity 5
      ∧ State.reset.live = true ∧ State.reset.dev.tested = false ∧ State.reset.dev.state = .powerup
      ∧ proving.live = true ∧ proving.dev.state ≠ .locked ∧ proving.dev.pathTesting = true
      ∧ pathAFailed (PathTest.failed pathBad) (PathTest.silentA pathBad) = true
      ∧ pathBFailed (PathTest.failed pathBad) (PathTest.silentB pathBad) = true := by decide

/-! ## Start-up -/

def testedUp : State := { State.reset with dev := { State.reset.dev with tested := true } }
def causedUp : State := { testedUp with dev := { testedUp.dev with causes := [.sto] } }
def proofDone : State := at' .proof
theorem witness_StartUpTakesItsCourse :
    State.reset.live = true ∧ State.reset.dev.tested = false ∧ State.reset.dev.state = .powerup ∧ State.reset.dev.fwRunning = false
      ∧ State.reset.dev.bootable = true ∧ testedUp.live = true ∧ testedUp.dev.state = .powerup ∧ testedUp.dev.tested = true
      ∧ testedUp.dev.bootable = true ∧ testedUp.dev.fwRunning = false ∧ testedUp.dev.causes = [] ∧ causedUp.live = true
      ∧ causedUp.dev.causes ≠ [] ∧ proving.live = true ∧ proving.dev.pathTesting = true ∧ pathOk.absentNs ≤ 300
      ∧ pathOk.lockoutUs ≤ 100 ∧ pathOk.regulateUs ≤ 1000 ∧ pathOk.drives = 15 ∧ pathOk.blockRead = true ∧ pathOk.ascRead = true
      ∧ proofDone.live = true ∧ proofDone.dev.state = .proof ∧ proofDone.dev.pathTesting = false ∧ proofDone.proofs = [] := by decide

/-! ## Causes that go, outputs, supervision -/

def stoLatched (disc seen : Bool) : State :=
  { at' .safe with dev := { (at' .safe).dev with causes := [.sto] },
                   sup := { standby.sup with latched := true, discrepancy := disc, bothLowSeen := seen, highSince := some 0 } }
def halted : State :=
  { at' .safe with dev := { (at' .safe).dev with causes := [.debugHalt], halted := true } }
theorem witness_SafeCausesGoWithTheirReason :
    (stoLatched false false).live = true ∧ (stoLatched false false).sup.highSince = some 0
      ∧ (stoLatched false false).sup.latched = true ∧ (stoLatched false false).forced supUnit 0 = false
      ∧ (stoLatched false false).forced supUnit 1 = false ∧ (stoLatched false false).sup.discrepancy = false
      ∧ (stoLatched true true).sup.bothLowSeen = true ∧ (stoLatched true true).sup.latched = true
      ∧ (stoLatched true false).live = true ∧ (stoLatched true false).sup.discrepancy = true
      ∧ (stoLatched true false).sup.bothLowSeen = false ∧ (stoLatched true false).forced supUnit 0 = false ∧ halted.live = true ∧ halted.dev.halted = true
      ∧ SafeCause.island ∉ halted.dev.causes ∧ SafeCause.shellWord ∉ halted.dev.causes := by decide

def outTesting : State := standby.setOut 7 { standby.out 7 with testing := true }
def outWarned : State := standby.setOut 7 { standby.out 7 with warned := true }
def outAsked : State := standby.setOut 7 { standby.out 7 with demand := some 12, nextCycle := 64 }
def pulseOk : PulseTest := { vso := 24000, hsP := 1000, hsN := 0, lsP := 24000, lsN := 23000 }
theorem witness_SafetyOutputsFollowRequestsAndTests :
    standby.live = true ∧ standby.outPermitted 1 = true ∧ standby.offCause 1 = false ∧ (standby.unit (outUnit 1)).out = false
      ∧ standby.outs = [] ∧ (standby.out 7).testing = false ∧ (standby.unit (outUnit 7)).out = false
      ∧ (standby.out 7).demand ≠ some (max standby.time.now (standby.out 7).nextCycle / 5)
      ∧ outAsked.live = true ∧ (outAsked.out 7).testing = false ∧ (outAsked.unit (outUnit 7)).out = false
      ∧ (outAsked.out 7).demand = some (max outAsked.time.now (outAsked.out 7).nextCycle / 5)
      ∧ outTesting.live = true ∧ (outTesting.out 7).testing = true ∧ quiet outTesting (outUnit 7) = true
      ∧ (PulseTest.highOk { pulseOk with hsP := 24000 } false = false ∨ PulseTest.lowOk { pulseOk with hsP := 24000 } false = false)
      ∧ (standby.out 7).warned = false ∧ quiet standby (outUnit 7) = true ∧ outWarned.live = true
      ∧ (outWarned.out 7).warned = true ∧ (outWarned.unit (outUnit 7)).out = false ∧ quiet outWarned (outUnit 7) = true
      ∧ (standby.out 7).on = false := by decide

/-- Port 3 reports the traction machine. -/
def onPort : State := drive.setRegs [(Item.POS.SHEAF 0, 15), (Item.POS.SHEAF 3, 0), (Item.POS.SHEAF 1, 15), (Item.POS.SHEAF 2, 15), (Item.POS.MODE 3, 3)]
def blind : State := { onPort with sup := { onPort.sup with invalidSince := some 0 }, time := { onPort.time with now := 1000000000 } }
def crossed : State := { onPort with sup := { onPort.sup with crossRuns := [(3, 2)], speeds := [(3, 10000000)] } }
theorem witness_TheSupervisorWatchesSpeedAndChannels :
    onPort.live = true ∧ onPort.regN (Item.POS.SHEAF 3) = 0 ∧ onPort.portOf 0 = some 3 ∧ onPort.stype 0 = SType.trc
      ∧ blind.live = true ∧ blind.regN (Item.POS.SHEAF 3) = 0 ∧ blind.portOf 0 = some 3 ∧ blind.stype 0 = SType.trc
      ∧ (blind.sheaf 0).state = .run ∧ blind.sup.invalidSince = some 0 ∧ 0 + blind.regN Item.SAFE.SPD_INV_T * 1000 ≤ blind.time.now
      ∧ crossed.live = true ∧ crossed.portOf 0 = some 3 ∧ crossed.stype 0 = SType.trc
      ∧ crossed.regN Item.SAFE.XCHK_TOL * 1000
          < (KMap.get (fun _ => (0 : Int)) crossed.sup.speeds 3 - crossed.regI (Item.POS.SPEED 3)).natAbs
      ∧ KMap.get (fun _ => 0) crossed.sup.crossRuns 3 = 2 ∧ quiet crossed (unitOf Kind.port 3) = true
      ∧ ¬onPort.regN Item.SAFE.XCHK_TOL * 1000
          < (KMap.get (fun _ => (0 : Int)) onPort.sup.speeds 3 - onPort.regI (Item.POS.SPEED 3)).natAbs
      ∧ drive.trcSheaf = some 0 ∧ quiet drive (legUnit (drive.bind.firstOf 0 + drive.sup.channel % drive.bind.countOf 0)) = true
      ∧ unitKind (legUnit (drive.bind.firstOf 0 + drive.sup.channel % drive.bind.countOf 0)) = Kind.leg := by decide

/-! ## Legs -/

def onSwitch (s : State) (leg : Nat) : Driver := { (s.leg leg).hs with on := true, command := true, uv := false }
def legOn : State :=
  { drive.setLeg 17 { drive.leg 17 with hs := onSwitch drive 17, ls := { (drive.leg 17).ls with uv := false }, supplies := true } with
    time := { drive.time with now := 1000000 } }
def justOn : State := { legOn with time := { legOn.time with now := 0 } }.setReg (Item.LEG.DESAT_BLANK 17) 0x14141414
def twoShort : State := legOn.setUnit (legUnit 0) { legOn.unit (legUnit 0) with state := .handling, cls := .F, src := 3 }
def legReady : State := drive.setLeg 34 { drive.leg 34 with supplies := true }
def offCheck : OffCheck :=
  { gateHs := legReady.gateOff 34, gateLs := legReady.gateOff 34, cs := 2500, mid := 100, link := 400, desatHs := false, desatLs := false
    oc := false, ts := 250 }
theorem witness_ShortCircuitsLatchTheLeg :
    legOn.live = true ∧ legOn.legSheaf 17 = some 0 ∧ quiet legOn (legUnit 17) = true ∧ ((legOn.leg 17).driver true).lit legOn.time.now = true
      ∧ ((legOn.leg 17).driver true).onAt + legOn.blanking 17 ≤ legOn.time.now ∧ legOn.desatActs 17 true = true
      ∧ legOn.desatActs 17 false = false ∧ justOn.live = true ∧ justOn.legSheaf 17 = some 0 ∧ quiet justOn (legUnit 17) = true
      ∧ justOn.time.now < ((justOn.leg 17).driver true).onAt + justOn.blanking 17 ∧ justOn.forced (legUnit 17) 1 = false
      ∧ legOn.otherShort 0 17 = false ∧ twoShort.otherShort 0 17 = true ∧ (twoShort.sheaf 0).state ≠ .off
      ∧ quiet twoShort (legUnit 17) = true ∧ twoShort.live = true ∧ ((twoShort.leg 17).driver true).lit twoShort.time.now = true
      ∧ (legOn.regN (Item.LEG.OC_POS 17) : Int) < 5000 ∧ railsLow 12999 (-4000) = true ∧ legOn.legStateCode 17 ≠ 2
      ∧ (legOn.leg 17).supplies = true ∧ legOn.sup.pathB = false ∧ ((legOn.leg 17).driver true).uv = false
      ∧ legReady.live = true ∧ legReady.legSheaf 34 = some 5 ∧ quiet legReady (legUnit 34) = true ∧ legReady.offDiagRuns 34 = true
      ∧ offDiagF (legReady.offBits 34 { offCheck with desatHs := true }) = true
      ∧ offDiagF (legReady.offBits 34 { offCheck with cs := 2751 }) = false ∧ legReady.offBits 34 { offCheck with cs := 2751 } ≠ 0
      ∧ legReady.forceArmed (legUnit 34) 13 = false := by decide

def softOff : State := legOn.setLeg 17 { legOn.leg 17 with hs := { (legOn.leg 17).hs with soft := true } }
/-- Sheaf 0 in RUN with a counted period, one trigger that refers to it, one group-write on its way. -/
def carrying : State :=
  { (drive.setCarrier 0 { drive.carrier 0 with count := 3, start := 320000 }).setRegs
      [(Item.PWM.PERIOD_NOW 0, 320000), (Item.PWM.TRIG_REF 0 7, 0x1000), (Item.PWM.TRIG_DST 0 7, 0x1F07), (Item.PWM.TRIG_OFS 0 7, 5),
       (Item.PWM.TRIG_DEC 0 7, 1)] with
    writes := [{ sheaf := 0, group := 5, words := [0x01000040], lane := 3, stamp := 9 }] }
def atStart : State := { carrying with time := { carrying.time with now := 1000000 } }
theorem witness_LegRowsActOnTheirDriversAlone :
    legOn.live = true ∧ legOn.forceArmed (legUnit 17) 12 = false ∧ legOn.forced (legUnit 17) 8 = false ∧ softOff.live = true
      ∧ (softOff.leg 17).hs.soft = true ∧ legOn.legSheaf 17 = some 0 ∧ quiet legOn (legUnit 17) = true
      ∧ 1 < legOn.regN (Item.LEG.PROF_FAULT_MAX 17) ∧ (legOn.leg 17).profFaults = []
      ∧ ((legOn.leg 17).driver true).command = true ∧ ((legOn.leg 17).driver true).on = true ∧ ((legOn.leg 17).driver true).soft = false
      ∧ ((legOn.leg 17).driver true).uv = false ∧ legOn.gateOn 17 - 1001 < legOn.gateOn 17 - 1000
      ∧ ((legOn.leg 17).driver false).command = false ∧ ((legOn.leg 17).driver false).soft = false
      ∧ ((legOn.leg 17).driver false).uv = false ∧ legOn.gateOff 17 + 1000 ≤ legOn.gateOff 17 + 1000
      ∧ carrying.live = true ∧ carrying.legSheaf 17 = some 0 ∧ carrying.nextStart 0 = some 640000
      ∧ carrying.time.now / 5 < fineTime 640000 / 5 ∧ quiet carrying (legUnit 17) = true ∧ (carrying.leg 17).shootNow = false
      ∧ carrying.regN (Item.LEG.SHOOT_RUN 17) = 0 ∧ atStart.live = true ∧ atStart.nextStart 0 = some 640000
      ∧ fineTime 640000 / 5 ≤ atStart.time.now / 5 := by decide

/-! ## The fabric -/

def lateWrite : State := { carrying with writes := [{ sheaf := 0, group := 5, words := [0x01000040], lane := 3, stamp := 9 }] }
def sampled : State := carrying.setGroup 0 5 { carrying.group 0 5 with count := 2, start := carrying.groupStart 0 5 }
theorem witness_TheCarrierAdvancesByItsRules :
    carrying.live = true ∧ carrying.carries 0 = true ∧ carrying.nextStart 0 = some 640000 ∧ (carrying.carrier 0).count ≠ 0
      ∧ carrying.groupLegs 0 5 ≠ [] ∧ (carrying.group 0 5).count = 0 ∧ sampled.live = true ∧ sampled.carries 0 = true
      ∧ 0 < (sampled.group 0 5).count ∧ sampled.groupStart 0 5 ≤ (sampled.group 0 5).start
      ∧ bitsOf (0x01000040 : Word) 31 30 = 0 ∧ carrying.regN (Item.PWM.CMP_SRC 0) = 0 ∧ carrying.fabricStopped = false
      ∧ carrying.sampleTick 0 5 = some 18333 ∧ sampled.sampleTick 0 5 = some 20000
      ∧ carrying.triggerReference 0 7 = some (320000, 10000, 20000, 3)
      ∧ 3 % Nat.max 1 (carrying.regN (Item.PWM.TRIG_DEC 0 7)) = 0 ∧ KMap.get (fun _ => 0) (carrying.carrier 0).fired 7 ≠ 3
      ∧ bitsOf (carrying.reg (Item.PWM.TRIG_DST 0 7)) 15 12 = 1 := by decide
/-- Leg 3 in the middle of its period, with a compare. -/
def pulsing : State :=
  { ((carrying.setReg (Item.PWM.LEG_EN 0) 0x3FFFF).setLeg 3 { carrying.leg 3 with
      hs := { (carrying.leg 3).hs with uv := false, words := [(0, { ProfileWord.none with good := true })] }
      ls := { (carrying.leg 3).ls with uv := false } }) with
    pulses := [(3, { start := 320000, period := 320000, cmp := some 160000, dtHs := 640, dtLs := 640, carriedHigh := false, cut := false, zcd := false })] }
/-- The low side still commanded on at the end of the period before, its off edge missed. -/
def crossing : State :=
  { pulsing.setLeg 3 { pulsing.leg 3 with ls := { (pulsing.leg 3).ls with command := true } } with
    time := { pulsing.time with now := 24950 }
    pulses := (3, pulsing.pulse 3) :: [(67, { pulsing.pulse 3 with start := 319000 })] }
def falling : State :=
  { pulsing with time := { pulsing.time with now := 30000 } }.setLeg 3 { pulsing.leg 3 with hs := { (pulsing.leg 3).hs with command := true } }
def stopping (word : Bool) : State :=
  drive.setSheaf 0 { drive.sheaf 0 with stop := some { toOff := true, word := word, since := 0 } }
theorem witness_EdgesAndStopsReachTheSwitches :
    pulsing.live = true ∧ pulsing.legSheaf 3 = some 0 ∧ pulsing.carries 0 = true ∧ pulsing.legSwitches 0 3 = true
      ∧ ((pulsing.leg 3).driver true).command = false ∧ ((pulsing.leg 3).driver false).command = false
      ∧ pulsing.edgeAt 3 true true = some 320640 ∧ ((pulsing.leg 3).driver true).edge < 320640
      ∧ pulsing.edgeAt 3 true false = some 480000
      ∧ max (fineTime 320640) (((pulsing.leg 3).driver false).offAt + pulsing.regN (Item.LEG.IL_TIME 3)) * 64 < 480000 * 5
      ∧ pulsing.forceArmed (legUnit 3) 4 = false
      ∧ (((pulsing.leg 3).driver true).held (max pulsing.time.now (max (fineTime 320640)
          (((pulsing.leg 3).driver false).offAt + pulsing.regN (Item.LEG.IL_TIME 3))))).good = true
      ∧ crossing.live = true ∧ crossing.legSheaf 3 = some 0 ∧ crossing.carries 0 = true ∧ crossing.legSwitches 0 3 = true
      ∧ crossing.edgeAt 3 true true = some 319640 ∧ ((crossing.leg 3).driver false).command = true
      ∧ ((crossing.leg 3).driver true).command = false ∧ crossing.edgeAt 3 false false = some 320000
      ∧ falling.live = true ∧ falling.legSheaf 3 = some 0 ∧ falling.carries 0 = true ∧ falling.legSwitches 0 3 = true
      ∧ falling.edgeAt 3 true false = some 480000 ∧ ((falling.leg 3).driver true).edge < 480000
      ∧ ((falling.leg 3).driver true).command = true
      ∧ (stopping true).live = true ∧ ((stopping true).sheaf 0).stop = some { toOff := true, word := true, since := 0 }
      ∧ ((stopping true).sheaf 0).state = .run
      ∧ drive.waits = [] ∧ drive.swaps = [] ∧ drive.dev.state ≠ .safe ∧ drive.dev.state ≠ .locked := by decide
/-- Leg 17, at position 2 of its set, with a compare written. -/
def compareWritten : State := legOn.setGroup 0 5 { legOn.group 0 5 with cmp := [(2, some 40)] }
theorem witness_ShortPulsesFollowTheirPolicy :
    ((100 : Nat) ≤ 1000 ∧ (0 : Nat) < 40 ∧ (40 : Nat) < 1000) ∧ compareWritten.bind.position 17 < 18 ∧ compareWritten.legSwitches 0 17 = true
      ∧ compareWritten.stype 0 ≠ SType.auxi ∧ compareWritten.stype 0 ≠ SType.auxb
      ∧ KMap.get (fun _ => none) (compareWritten.group 0 (compareWritten.groupOf 0 17)).cmp (compareWritten.groupPosition 0 17) = some 40 := by
  decide

/-! ## Lanes, generators, the traction sheaf -/

/-- Lane 2 of the running sheaf forms a set, its one WAIT slot known missed or not. -/
def forming (missed missRun max : Nat) : State :=
  (drive.setLane 2 { drive.lane 2 with opened := some 1000, missed := missed, missRun := missRun }).setRegs
    [(Item.LOOP.SRC 2 0, 0x18000005), (Item.LOOP.SRC 2 1, 0), (Item.LOOP.SRC 2 2, 0), (Item.LOOP.SRC 2 3, 0), (Item.LOOP.MISS_MAX 2, nw max)]
def idleLane : State := drive.setRegs ((List.range 8).map (fun j => (Item.LOOP.SRC 2 j, 0)))
def laneTimed : State := idleLane.reach ((idleLane.lane 2).began + idleLane.regN (Item.LOOP.TS_NOM 2))
theorem witness_LanesFormTheirSampleSets :
    (forming 1 0 3).live = true ∧ (forming 1 0 3).laneRuns 2 = true ∧ (forming 1 0 3).setComplete 2 = true
      ∧ ((forming 1 0 3).lane 2).missed ≠ 0 ∧ (forming 1 0 3).forceArmed (laneUnit 2) 3 = false
      ∧ ((forming 1 0 3).lane 2).missRun + 1 < (forming 1 0 3).regN (Item.LOOP.MISS_MAX 2)
      ∧ (forming 0 2 3).laneRuns 2 = true ∧ ((forming 0 2 3).lane 2).opened = some 1000 ∧ (forming 0 2 3).forceArmed (laneUnit 2) 3 = false
      ∧ (forming 0 2 3).setComplete 2 = false ∧ (forming 0 2 3).regN (Item.LOOP.MISS_MAX 2) ≤ ((forming 0 2 3).lane 2).missRun + 1
      ∧ quiet (forming 0 2 3) (laneUnit 2) = true ∧ idleLane.laneRuns 2 = true ∧ idleLane.waitSlots 2 = []
      ∧ (idleLane.lane 2).busy = none ∧ laneTimed.slotsMiss 2 ((List.range 8).map (laneTimed.readSlot 2 [])) = false := by decide
theorem calm_forming : (forming 1 0 3).Calm := calm_of (by decide)
theorem calm_forming' : (forming 0 2 3).Calm := calm_of (by decide)
theorem calm_idleLane : idleLane.Calm := calm_of (by decide)

def result (bad : Bool) : LaneResult :=
  { words := [0x08000005], y := [], errors := [], integrals := [], outs := [0x3F800000], derivative := 0, reference := [0x40000000], pll := [],
    items := [], closed := true, saturated := false, bad := bad, rest := false, step := false, load := 0 }
def busyLane (bad : Bool) : State := drive.setLane 2 { drive.lane 2 with busy := some (result bad) }
def generating : State :=
  ((at' .standby).setSheaf 6 { standby.sheaf 6 with state := .run }).setRegs
    [(Item.PROF.MODE 0, 1), (Item.PROF.TARGET 0, 0x3F800000), (Item.PROF.TS 0, 100), (Item.PROF.VMAX 0, 0x42C80000),
     (Item.PROF.AMAX 0, 0x42C80000), (Item.PROF.DMAX 0, 0x42C80000), (Item.PROF.JMAX 0, 0x447A0000)]
theorem witness_LanesAndGeneratorsPublishTheirResults :
    (busyLane false).laneWrites 2 = true ∧ (result false).words ≠ [] ∧ (result false).items = [] ∧ (result false).bad = false
      ∧ (busyLane false).laneRuns 2 = true ∧ ((busyLane false).lane 2).busy = some (result false) ∧ ((busyLane false).lane 2).waiting = none
      ∧ (busyLane true).laneRuns 2 = true ∧ ((busyLane true).lane 2).busy = some (result true) ∧ (result true).bad = true
      ∧ quiet (busyLane true) (laneUnit 2) = true ∧ generating.bind.profSheaf.getD 0 15 = 6
      ∧ (generating.sheaf 6).state = .run ∧ generating.regN (Item.PROF.MODE 0) ≠ 0 := by decide
theorem calm_busyLane : (busyLane false).Calm ∧ (busyLane true).Calm ∧ generating.Calm :=
  ⟨calm_of (by decide), calm_of (by decide), calm_of (by decide)⟩

def refreshed : State := drive.setRegs [(Item.TRC.REQ_TMO, 100), (Item.TRC.LIM_TMO, 100)]
def ramping : State := { drive with trac := { drive.trac with ramps := [(5, 0, true)] } }
theorem witness_TheTractionSheafKeepsItsTimeouts :
    refreshed.trcSheaf = some 0 ∧ quiet refreshed (unitOf Kind.sheaf 0) = true ∧ refreshed.regN Item.TRC.REQ_TMO ≠ 0
      ∧ (refreshed.sheaf 0).state = .run ∧ refreshed.trac.lost = false ∧ refreshed.regN Item.TRC.LIM_TMO ≠ 0
      ∧ refreshed.trac.fallback = false ∧ ramping.trcSheaf = some 0 ∧ quiet ramping (unitOf Kind.sheaf 0) = true
      ∧ ramping.trac.ramps.find? (fun r => decide (r.1 = 5)) = some (5, 0, true) ∧ (stopping false).trcSheaf = some 0
      ∧ quiet (stopping false) (unitOf Kind.sheaf 0) = true
      ∧ ((stopping false).sheaf 0).stop = some { toOff := true, word := false, since := 0 } ∧ ((stopping false).sheaf 0).state = .run := by
  decide
theorem calm_refreshed : refreshed.Calm ∧ ramping.Calm ∧ (stopping false).Calm :=
  ⟨calm_of (by decide), calm_of (by decide), calm_of (by decide)⟩

/-! ## Converters -/

def queued (q : List (Nat × Nat)) (run : Bool) (trigger : Bool) : State :=
  { standby.setFast 15 { standby.fast 15 with queue := q, run := if run then some (7, 0, 890, false) else none } with
    events := if trigger then [.convert 15 7 900] else [] }.setReg (Item.ADCF.SEQ 15 7) 0x01000000
def backing : State := standby.setFast 15 { standby.fast 15 with background := some (7, 880) }
theorem witness_FastConvertersFollowTheirTriggers :
    (queued [] false true).events = [.convert 15 7 900] ∧ (queued [] false true).seqCount 15 7 ≠ 0
      ∧ ((queued [] false true).fast 15).run = none ∧ ((queued [] false true).fast 15).queue = []
      ∧ ((queued [] true true).fast 15).run = some (7, 0, 890, false) ∧ 900 < 890 + (queued [] true true).seqCount 15 7 * 80
      ∧ ((queued [] true true).fast 15).queue = [] ∧ ((queued [(1, 895)] true true).fast 15).queue = [(1, 895)]
      ∧ ((queued [(1, 891), (2, 895)] true true).fast 15).queue.length = 2
      ∧ quiet (queued [(1, 891), (2, 895)] true true) (unitOf Kind.fast 15) = true ∧ (queued [] true false).events = []
      ∧ ((queued [] true false).fast 15).run = some (7, 0, 890, false) ∧ ((queued [] true false).fast 15).background = none
      ∧ (queued [] true false).firstTrigger 15 (890 + 80) = none ∧ (queued [] true false).seqCount 15 7 ≤ 0 + 1
      ∧ (backing.fast 15).background = some (7, 880) ∧ backing.firstTrigger 15 (880 + 79) = none
      ∧ standby.events = [] ∧ (standby.fast 15).run = none ∧ (standby.fast 15).queue = [] ∧ (standby.fast 15).background = none := by
  decide
theorem calm_queued : (queued [] false true).Calm ∧ (queued [] true true).Calm ∧ (queued [(1, 891), (2, 895)] true true).Calm ∧ backing.Calm
    ∧ standby.Calm :=
  ⟨calm_of (by decide), calm_of (by decide), calm_of (by decide), calm_of (by decide), calm_of (by decide)⟩

/-- Input 7 of converter 15 checked for its wire, with one check behind it. -/
def wired (bad good : Nat) : State :=
  (standby.setFast 15 { standby.fast 15 with owBad := KMap.put (fun _ => 0) [] 7 bad, owGood := KMap.put (fun _ => 0) [] 7 good }).setRegs
    [(Item.ADCF.OW_MASK 15, 0x80), (Item.ADCF.OW_DELTA 15, 100)]
def slowWired : State :=
  (standby.setSlow 1 { standby.slow 1 with owBad := KMap.put (fun _ => 0) [] 31 1 }).setRegs
    [(Item.ADCI.SCAN_MODE 1, 1), (Item.ADCI.OW_MASK 1, 0x80000000), (Item.ADCI.OW_DELTA 1, 100)]
def unscanned : State := standby.setReg (Item.ADCI.SCAN_MODE 1) 0
theorem witness_ConvertersCheckThemselvesAndTheirWires :
    (corrections 1638 14746).isSome = true ∧ (corrections 100 14746).isSome = true ∧ quiet standby (unitOf Kind.fast 15) = true
      ∧ (corrections 1638 14746).any (fun p => !calibrationBad p.1 p.2) = true
      ∧ (corrections 100 14746).any (fun p => decide (10000 < p.1.natAbs ∨ 20000 < p.2.natAbs)) = true
      ∧ bitOf ((wired 1 0).reg (Item.ADCF.OW_MASK (127 / 8))) (127 % 8) = true ∧ (wired 1 0).sparedInput (127 / 8) (127 % 8) = false
      ∧ KMap.get (fun _ => 0) ((wired 1 0).fast (127 / 8)).owBad (127 % 8) = 1
      ∧ bitOf ((wired 1 0).reg (Item.ADCF.OW_STATUS (127 / 8))) (127 % 8) = false
      ∧ quiet (wired 1 0) (fastInputUnit (127 / 8) (127 % 8)) = true
      ∧ (wired 0 1).forced (fastInputUnit (127 / 8) (127 % 8)) 0 = false
      ∧ KMap.get (fun _ => 0) ((wired 0 1).fast (127 / 8)).owGood (127 % 8) = 1
      ∧ unscanned.regN (Item.ADCI.SCAN_MODE ((191 - 128) / 32)) ≠ 1 ∧ (128 : Nat) ≤ 191
      ∧ slowWired.regN (Item.ADCI.SCAN_MODE 1) = 1 ∧ (slowWired.slow 1).window = none
      ∧ bitOf (slowWired.reg (Item.ADCI.OW_MASK 1)) 31 = true ∧ KMap.get (fun _ => 0) (slowWired.slow 1).owBad 31 = 1
      ∧ bitOf (slowWired.reg (Item.ADCI.OW_STATUS 1)) 31 = false ∧ quiet slowWired (unitOf Kind.slowInput (32 * 1 + 31)) = true
      ∧ slowWired.regN (Item.ADCI.OW_DELTA 1) * 1000 * 2 ^ 24 < ((8000000 - slowWired.slowCode 1 31) * 5000000).natAbs := by decide
theorem witness_open_wire_reading :
    (wired 1 0).regN (Item.ADCF.OW_DELTA (127 / 8)) * 16384000000000
        < ((wired 1 0).codeVolts (127 / 8) (127 % 8) (BitVec.ofInt 14 8000) - (wired 1 0).lastVolts (127 / 8) (127 % 8)).natAbs
      ∧ ((wired 0 1).codeVolts (127 / 8) (127 % 8) (BitVec.ofInt 14 0) - (wired 0 1).lastVolts (127 / 8) (127 % 8)).natAbs
        ≤ (wired 0 1).regN (Item.ADCF.OW_DELTA (127 / 8)) * 16384000000000 := by decide

def mains (locked : Bool) (good : Nat) : State :=
  (standby.setSlow 0 { standby.slow 0 with crossing := some 1000, valid := some 1000, good := good }).setRegs
    [(Item.ADCI.MAINS_EN 0, 1), (Item.ADCI.MAINS_REF 0, 2), (Item.ADCI.MAINS_STATE 0, if locked then 2 else 1)]
def window (n : Nat) (urgent : Option Nat) : State :=
  (standby.setSlow n { standby.slow n with window := some 500, urgent := urgent }).setRegs
    [(Item.ADCI.SCAN 1 0, 0x80000000), (Item.ADCI.SCAN_LEN 1, 1)]
def ended (urgent : Option Nat) : State :=
  standby.setSlow 1 { standby.slow 1 with closed := [{ start := 0, stop := 500, mains := false, urgent := urgent, mask := 0, ninth := 31 }] }
def means : WindowMeans := { means := [(31, 77)], phases := [], refPpm := 1000 }
theorem witness_IntegratingConvertersFollowTheirWindows :
    (mains false 3).regN (Item.ADCI.MAINS_EN 0) ≠ 0 ∧ (mains false 3).regN (Item.ADCI.MAINS_REF 0) = 2
      ∧ (mains false 3).regN (Item.ADCI.MAINS_MIN 0) ≤ 100000 * 50
      ∧ (mains false 3).mainsLocked = false ∧ ((mains false 3).slow 0).crossing = some 1000
      ∧ ((mains false 3).slow 0).good = 3 ∧ 15385000 ≤ 15386000 - 1000 ∧ (mains false 3).regN (Item.ADCI.MAINS_MIN 0) ≤ 100000
      ∧ (mains true 4).mainsLocked = true ∧ 0 < (mains true 4).regN (Item.ADCI.MAINS_MIN 0) ∧ ((mains true 4).slow 0).valid = some 1000
      ∧ quiet (mains true 4) (unitOf Kind.slow 0) = true ∧ (standby.slow 1).window = none ∧ (standby.slow 1).closed = []
      ∧ standby.mainsLocked = false ∧ ((ended none).slow 1).closed.length = 1 ∧ 1000 < (1001 : Int).natAbs
      ∧ quiet (ended none) (unitOf Kind.slow 1) = true ∧ ((ended (some 31)).unit (unitOf Kind.slow 1)).out = false
      ∧ means.means.find? (fun m => decide (m.1 = 31)) = some (31, 77) ∧ ((window 1 none).slow 1).window = some 500
      ∧ ((window 1 none).slow 1).closed = [] ∧ ((window 1 none).slow 1).mains = false ∧ ((window 1 none).slow 1).urgent = none
      ∧ bitOf ((window 1 none).windowMask 1 false) 31 = true ∧ ((window 1 none).unit (unitOf Kind.slow 1)).out = false
      ∧ ((window 1 none).unit (unitOf Kind.slowInput (32 + 31))).out = false
      ∧ (window 1 none).forced (unitOf Kind.slowInput (32 + 31)) 1 = false := by decide
theorem calm_window : (window 1 none).Calm ∧ (mains false 3).Calm ∧ (mains true 4).Calm ∧ (ended none).Calm ∧ (ended (some 31)).Calm :=
  ⟨calm_of (by decide), calm_of (by decide), calm_of (by decide), calm_of (by decide), calm_of (by decide)⟩

def iso (st : Nat) : State :=
  (standby.setSlow 1 { standby.slow 1 with iso := st, upP := some (100000000, 300000000), upN := some (300000000, 100000000) }).setRegs
    [(Item.ADCI.ISO_EN 1, 1), (Item.ADCI.ISO_VMIN 1, 0)]
def noBus : State := (iso 1).setReg (Item.ADCI.ISO_VMIN 1) 900
theorem witness_TheInsulationMonitorMeasuresBothPoles :
    (iso 0).isoOff = false ∧ ((iso 0).slow 1).iso = 0 ∧ (iso 1).isoOff = false ∧ ((iso 1).slow 1).iso = 1 ∧ (iso 2).isoOff = false
      ∧ ((iso 2).slow 1).iso = 2
      ∧ ((iso 1).setReg (Item.ADCI.ISO_EN 1) 0).isoOff = true ∧ ((iso 1).slow 1).upP = some (100000000, 300000000)
      ∧ ((iso 1).slow 1).upN = some (300000000, 100000000)
      ∧ ((iso 1).regN (Item.ADCI.ISO_VMIN 1) : Int) * 2000000 ≤ 300000000 + 100000000 + 100000000 + 300000000
      ∧ (noBus.slow 1).upP = some (100000000, 300000000) ∧ (noBus.slow 1).upN = some (300000000, 100000000)
      ∧ 300000000 + 100000000 + 100000000 + 300000000 < (noBus.regN (Item.ADCI.ISO_VMIN 1) : Int) * 2000000
      ∧ (300000000 * 300000000 - 100000000 * 100000000 : Int) ≠ 0 ∧ quiet (iso 1) (unitOf Kind.slow 1) = true := by decide
theorem calm_iso : (iso 0).Calm ∧ (iso 1).Calm ∧ (iso 2).Calm ∧ noBus.Calm :=
  ⟨calm_of (by decide), calm_of (by decide), calm_of (by decide), calm_of (by decide)⟩

/-! ## Position ports -/

def port (mode : Nat) (f : Port → Port) : State :=
  (standby.setPort 3 (f (standby.port 3))).setRegs [(Item.POS.MODE 3, nw mode), (Item.POS.Z_EN 3, 0)]
def latching (formed : Nat) : State :=
  { port 3 (fun r => { r with formed := KMap.put (fun _ => 0) [] 7 formed }) with events := [.latch 3 7 100] }
theorem witness_PortsTurnEdgesIntoPositions :
    (port 3 id).forceArmed (unitOf Kind.port 3) 1 = false ∧ 0 < ((port 3 id).setReg (Item.POS.EDGE_FILT 3) 4).regN (Item.POS.EDGE_FILT 3)
      ∧ (port 3 id).regN (Item.POS.EDGE_FILT 3) ≤ 1000 ∧ ((port 3 id).port 3).levels ≠ 1 ∧ (port 3 id).portMode 3 = 3
      ∧ (port 3 id).regN (Item.POS.Z_EN 3) ≠ 1 ∧ quadStep ((port 3 id).port 3).levels 1 ≠ 0
      ∧ (port 4 (fun r => { r with levels := 1 })).portMode 3 = 4
      ∧ (hallPlace ((port 4 (fun r => { r with levels := 1 })).port 3).levels).isSome = true
      ∧ hallStep 1 3 ≠ 0 ∧ hallStep 1 6 = 0 ∧ hallPlace 7 = none ∧ (0 ^^^ 3) % 4 = 3 ∧ quiet (port 3 id) (unitOf Kind.port 3) = true
      ∧ quiet (port 4 (fun r => { r with levels := 1 })) (unitOf Kind.port 3) = true
      ∧ ((port 3 id).setReg (Item.POS.Z_EN 3) 1).regN (Item.POS.Z_EN 3) = 1 ∧ ((port 3 id).port 3).levels < 4
      ∧ ((port 3 id).port 3).zLearned = none ∧ (latching 0).nextLatch 3 7 = some 100 ∧ (latching 0).portMode 3 ≠ 0
      ∧ KMap.get (fun _ => 0) ((latching 0).port 3).formed 7 ≤ 100 + 2 ∧ (latching 9000).nextLatch 3 7 = some 100
      ∧ 100 + 2 < KMap.get (fun _ => 0) ((latching 9000).port 3).formed 7 := by decide

def speedPort (most : Nat) (edges : List (Nat × Int)) : State :=
  (port 3 (fun r => { r with edges := edges, levels := 0 })).setRegs
    [(Item.POS.SPD_MAX 3, nw most), (Item.POS.ACC_MAX 3, 60000), (Item.POS.SPD_PERIOD 3, 1000), (Item.POS.CPR 3, 4096)]
def computed (s : State) : Int × Bool :=
  let s1 := s.every (Timer.speed 3) (s.regN (Item.POS.SPD_PERIOD 3) * 1000)
  s1.edgePortSpeed 3 s1.tick
def fast3 : State := speedPort 0 [(399990, 2), (399980, 1), (390000, 0)]
def comparing (i : Option Int) (e : Option Crossing) : State :=
  (port 3 (fun r => { r with index := KMap.put (fun _ => none) [] 1 i, raw := 4096, planned := KMap.put (fun _ => none) [] 1 e })).setRegs
    [(Item.POS.CMP_STEP 3 1, 1000), (Item.POS.CMP_DIR 3 1, 1), (Item.POS.CPR 3, 4096), (Item.POS.CMP_HYST 3 1, 0)]
theorem witness_PortsComputeSpeedAndCompare :
    (speedPort 20000 []).portMode 3 = 3 ∧ (speedPort 20000 []).forceArmed (unitOf Kind.port 3) 5 = false
      ∧ (computed (speedPort 20000 [])).1.natAbs ≤ (speedPort 20000 []).regN (Item.POS.SPD_MAX 3) * 1000
      ∧ ((speedPort 20000 []).port 3).spoke = false ∧ fast3.portMode 3 = 3 ∧ fast3.forceArmed (unitOf Kind.port 3) 5 = false
      ∧ fast3.regN (Item.POS.SPD_MAX 3) * 1000 < (computed fast3).1.natAbs ∧ quiet fast3 (unitOf Kind.port 3) = true
      ∧ (port 1 id).portMode 3 = 1 ∧ (comparing (some 7) none).regN (Item.POS.EDGE_FILT 3) ≤ 1000
      ∧ ((comparing (some 7) none).port 3).levels ≠ 1 ∧ (comparing (some 7) none).forceArmed (unitOf Kind.port 3) 1 = false
      ∧ (comparing (some 7) none).portMode 3 = 3 ∧ (comparing (some 7) none).regN (Item.POS.Z_EN 3) ≠ 1
      ∧ quadStep ((comparing (some 7) none).port 3).levels 1 ≠ 0 ∧ (comparing (some 7) none).compareOn 3 1 = true
      ∧ KMap.get (fun _ => none) ((comparing (some 7) none).port 3).index 1 = some 7
      ∧ KMap.get (fun _ => none) ((comparing (some 7) none).port 3).planned 1 = none
      ∧ (comparing none none).compareOn 3 1 = true ∧ KMap.get (fun _ => none) ((comparing none none).port 3).planned 1 = none
      ∧ KMap.get (fun _ => none) ((comparing none none).port 3).index 1 = none
      ∧ KMap.get (fun _ => none) ((comparing (some 7) (some { tick := 900, index := 8, passed := 1 })).port 3).planned 1
          = some { tick := 900, index := 8, passed := 1 }
      ∧ ((comparing (some 7) (some { tick := 900, index := 8, passed := 1 })).unit (unitOf Kind.port 3)).out = false := by decide

def still : PortSample := { aP := 2500000, aN := 2500000, bP := 2500000, bN := 2500000, sin := 0, cos := 0 }
theorem witness_PortsCheckTheirSensors :
    ((port 1 id).unit (unitOf Kind.port 3)).state = .idle ∧ ((port 1 id).unit (unitOf Kind.port 3)).force = 0
      ∧ ((port 1 id).unit (unitOf Kind.port 3)).forceArmed = 0 ∧ quiet (port 1 id) (unitOf Kind.port 3) = true ∧ (port 1 id).portMode 3 = 1
      ∧ PortSample.square still 1 * 10000 < ((port 1 id).regN (Item.POS.AMP_NOM 3) * (port 1 id).regN (Item.POS.AMP_LO 3)) ^ 2
      ∧ ((port 1 (fun r => { r with ampRun := 15 })).port 3).ampRun = 15 ∧ ((port 1 (fun r => { r with excOn := true })).port 3).excOn = true
      ∧ (port 1 id).regN (Item.POS.EXC_IMIN 3) ≤ (port 1 id).regN (Item.POS.EXC_IMAX 3) ∧ 0 < (port 1 id).regN (Item.POS.EXC_IMIN 3)
      ∧ ((port 1 (fun r => { r with excOn := true, excRun := 3 })).port 3).excRun = 3
      ∧ (port 4 id).pairUsed 3 2 = false ∧ (port 3 id).pairUsed 3 0 = true ∧ quiet (port 3 id) (unitOf Kind.port 3) = true
      ∧ ((port 3 id).regN (Item.POS.WIRE_VTH 3) * 100 < 5000 ↔ ¬((port 3 id).regN (Item.POS.WIRE_VTH 3) * 100 < 0))
      ∧ ((port 3 id).regN (Item.POS.WIRE_VTH 3) * 100 < 5000 ↔ (port 3 id).regN (Item.POS.WIRE_VTH 3) * 100 < 5000)
      ∧ (port 3 id).regN (Item.POS.WIRE_T 3) * 2 ≤ 400000 * 5 ∧ 0 * 5 < (port 3 id).regN (Item.POS.WIRE_T 3) * 2
      ∧ 1 < (port 3 id).regN (Item.POS.WIRE_MAX 3) ∧ (port 5 id).portMode 3 = 5
      ∧ ((port 5 id).port 3).seen = false
      ∧ (0 : BitVec 40).toNat % 2 ^ (port 5 id).regN (Item.POS.SSI_STAT 3) &&& (port 5 id).regN (Item.POS.SSI_ERRMASK 3) = 0
      ∧ quiet (port 5 id) (unitOf Kind.port 3) = true ∧ ((port 5 id).port 3).rejectRun < 2
      ∧ ((port 5 (fun r => { r with rejectRun := 2 })).port 3).rejectRun = 2 := by decide
theorem calm_port : (port 5 id).Calm ∧ (port 1 id).Calm ∧ (speedPort 20000 []).Calm ∧ fast3.Calm ∧ (comparing none none).Calm ∧ (latching 0).Calm :=
  ⟨calm_of (by decide), calm_of (by decide), calm_of (by decide), calm_of (by decide), calm_of (by decide), calm_of (by decide)⟩

/-! ## Auxiliary converters -/

/-- The 12 V sheaf in a state of its own, with its course. -/
def auxb (st : SheafState) (b : Nat) (f : AuxRun → AuxRun) : State :=
  ({ standby.setSheaf 5 { standby.sheaf 5 with state := st } with auxB := f standby.auxB }).setReg Item.AUX.B_STATE (nw b)
/-- Its leg 34 in the middle of a period. -/
def cutting : State :=
  let s := (auxb .run 2 id).setRegs [(Item.AUX.B_CBC_EN, 1), (Item.AUX.DE_MODE, 1), (Item.AUX.ZCD_BLANK, 10)]
  { s.setLeg 34 { s.leg 34 with hs := { (s.leg 34).hs with command := true }, ls := { (s.leg 34).ls with command := true } } with
    pulses := [(34, { start := 0, period := 100000, cmp := some 64000, dtHs := 640, dtLs := 640, carriedHigh := false, cut := false,
                      zcd := false })] }
def synced (edge : Option Nat) (st missed : Nat) : State :=
  { standby with syncIn := { standby.syncIn with edge := edge, missed := missed, agree := 5 } }.setReg Item.AUX.SYNC_STATE (nw st)
theorem witness_AuxWordsActOnTheTickOfDelivery :
    cutting.legSheaf 34 = some 5 ∧ cutting.carries 5 = true ∧ cutting.limitActs 5 34 = true ∧ (cutting.leg 34).hs.command = true
      ∧ (cutting.pulse (cutting.pulseAt 34 (1000 * 32))).start ≤ 1000 * 32
      ∧ 1000 * 32 - (cutting.pulse (cutting.pulseAt 34 (1000 * 32))).start < (cutting.pulse (cutting.pulseAt 34 (1000 * 32))).cmp.getD 0
      ∧ cutting.stype 5 = SType.auxb ∧ cutting.updateEmulation.emulates = true ∧ (cutting.leg 34).ls.command = true
      ∧ fineTime ((cutting.pulse (cutting.pulseAt 34 (3000 * 32))).start + (cutting.pulse (cutting.pulseAt 34 (3000 * 32))).cmp.getD 0
          + (cutting.pulse (cutting.pulseAt 34 (3000 * 32))).dtLs) + cutting.regN Item.AUX.ZCD_BLANK ≤ tickTime 3000
      ∧ standby.bind.sheafOfType SType.auxb = some 5 ∧ standby.forced (unitOf Kind.sheaf 5) 2 = false ∧ standby.syncIn.edge = none
      ∧ (synced (some 0) 3 4).bind.sheafOfType SType.auxb = some 5 ∧ (synced (some 0) 3 4).forced (unitOf Kind.sheaf 5) 2 = false
      ∧ (synced (some 0) 3 4).syncIn.edge = some 0 ∧ (synced (some 0) 3 4).regN Item.AUX.SYNC_STATE = 3
      ∧ (1 - 0) * 32 < (periodRange SType.auxb).1 ∧ (periodRange SType.auxb).1 ≤ (1000 - 0) * 32
      ∧ (1000 - 0) * 32 ≤ (periodRange SType.auxb).2 ∧ 4 ≤ (synced (some 0) 3 4).syncIn.missed
      ∧ quiet (synced (some 0) 3 4) (unitOf Kind.sheaf 5) = true := by decide
theorem calm_cutting : cutting.Calm ∧ (synced (some 0) 3 4).Calm := ⟨calm_of (by decide), calm_of (by decide)⟩

theorem witness_AuxSetpointsFollowRampAndLimit :
    standby.Calm ∧ (standby.auxSheaf false).isSome = true ∧ (standby.setReg Item.AUX.I_STATE 1).regN Item.AUX.I_STATE = 1
      ∧ (standby.setReg Item.AUX.I_STATE 2).regN Item.AUX.I_STATE = 2 ∧ 3 ≤ (standby.setReg Item.AUX.I_STATE 3).regN Item.AUX.I_STATE
      ∧ (auxb .run 2 id).auxSheaf true = some 5 ∧ (auxb .run 2 id).regN Item.AUX.B_STATE = 2
      ∧ (auxb .run 1 id).regN Item.AUX.B_STATE = 1 ∧ 3 ≤ (auxb .run 3 id).regN Item.AUX.B_STATE :=
  ⟨calm_of (by decide), by decide⟩

def limited (n : Nat) : State := auxb .run 1 (fun x => { x with limited := n })
/-- The bus and the output of the 12 V sheaf as read, in volts. -/
def volted (s : State) (bus out : Nat) : State := s.setRegs [(Item.ADCF.VAL 3 6, nw bus), (Item.ADCF.VAL 5 6, nw out)]
def nearTarget (s : State) : Bool :=
  F32.le (F32.abs (F32.sub (s.laneSource (auxLane true) 0) (s.auxTarget true))) (F32.mul 0x3D4CCCCD (s.auxTarget true))
def late (s : State) : State := s.reach 1000000000000
theorem witness_AuxAttemptsSucceedPauseOrFail :
    (auxb .run 1 id).auxSheaf true = some 5 ∧ quiet (auxb .run 1 id) (unitOf Kind.sheaf 5) = true
      ∧ ((auxb .run 1 id).sheaf 5).state = .run ∧ (auxb .run 1 id).auxState 5 = 1
      ∧ ((volted (auxb .run 1 id) 48 14).auxRun true).limited < (volted (auxb .run 1 id) 48 14).hiccupN true
      ∧ nearTarget (volted (auxb .run 1 id) 48 14) = true ∧ nearTarget (volted (late (auxb .run 1 id)) 48 1) = false
      ∧ ((late (auxb .run 1 id)).auxRun true).attemptFrom + (late (auxb .run 1 id)).softStartMs true * 1000000 + 10000000
          ≤ (late (auxb .run 1 id)).time.now
      ∧ (limited 60000).hiccupN true ≤ ((limited 60000).auxRun true).limited ∧ (limited 60000).regN Item.AUX.B_FAILSTART_RUN < 7
      ∧ ((limited 60000).setReg Item.AUX.B_FAILSTART_RUN 7).regN Item.AUX.B_FAILSTART_RUN = 7
      ∧ (auxb .run 2 (fun x => { x with consecutive := 60000 })).hiccupN true ≤ ((auxb .run 2 (fun x => { x with consecutive := 60000 })).auxRun true).consecutive
      ∧ (auxb .run 2 id).auxState 5 = 2 ∧ ((auxb .run 3 (fun x => { x with pauseEnd := some 9 })).auxRun true).pauseEnd = some 9
      ∧ (auxb .run 3 id).auxState 5 = 3
      ∧ ((auxb .ready 0 id).sheaf 5).state = .ready ∧ (auxb .ready 0 id).regN Item.AUX.B_AUTO_START ≠ 0
      ∧ ((auxb .ready 0 id).sheaf 5).held = false ∧ bitOf ((auxb .ready 0 id).reg Item.THM.TA_HOLD) (16 + 5) = false
      ∧ (auxb .ready 0 id).runPermitted 5 false = true
      ∧ ((volted (auxb .ready 0 id) 48 0).auxInputMin true : Int) ≤ (volted (auxb .ready 0 id) 48 0).auxInput true
      ∧ (auxb .ready 0 id).anyDeferred 5 = false
      ∧ (auxb .run 2 id).auxInput true < ((auxb .run 2 id).auxInputMin true : Int)
      ∧ ((volted (auxb .run 2 id) 48 17).regN Item.AUX.V12_OV : Int) < (volted (auxb .run 2 id) 48 17).auxOutput true := by decide
theorem calm_auxb : (auxb .run 1 id).Calm ∧ (limited 60000).Calm ∧ (auxb .ready 0 id).Calm :=
  ⟨calm_of (by decide), calm_of (by decide), calm_of (by decide)⟩

/-! ## SHIP -/

def shipHeld (d : DevState) : State := { at' d with lv := { standby.lv with shipFrom := some 0, shipLow := true } }
theorem witness_ShipResetsTheTwelveVoltsAndOpensTheLatch :
    (shipHeld .standby).live = true ∧ (shipHeld .standby).lv.shipFrom = some 0 ∧ (shipHeld .standby).lv.done10 = false
      ∧ (shipHeld .standby).lv.phase = false ∧ (shipHeld .standby).lv.done20 = false
      ∧ ({ shipHeld .standby with lv := { (shipHeld .standby).lv with phase := true } } : State).lv.phase = true
      ∧ (shipHeld .standby).dev.state = .standby ∧ (shipHeld .drive).dev.state ≠ .standby ∧ (shipHeld .drive).dev.state ≠ .safe
      ∧ (shipHeld .drive).lv.done20 = false ∧ quiet (shipHeld .drive) dev0 = true ∧ (shipHeld .standby).lv.shipLow = true
      ∧ standby.lv.shipLow = false := by decide

/-! ## Temperatures -/

def bursting (p : Bool) : State :=
  { (standby.setSheaf 1 { standby.sheaf 1 with state := .run }) with charge := { standby.charge with running := true, burst := some (p, 5) } }.setHeat 18
    { standby.heat 18 with rate := 0x447A0000 }
theorem witness_EstimatesGiveTheDeratingFactors :
    standby.Calm ∧ standby.bind.sheafOfLeg 47 = some 7 ∧ 5 < standby.setCount ∧ (bursting true).charge.burst = some (true, 5)
      ∧ (bursting false).charge.burst = some (false, 5) ∧ (bursting false).charge.running = true
      ∧ (bursting false).throttled (bursting false).chargerLegs = true := ⟨calm_of (by decide), by decide⟩
theorem calm_bursting : (bursting false).Calm ∧ (bursting true).Calm := ⟨calm_of (by decide), calm_of (by decide)⟩

/-- A leg at its stop temperature, its sheaf in RUN. -/
def hot (l n : Nat) : State :=
  (((at' .drive).setSheaf n { standby.sheaf n with state := .run }).setHeat l { standby.heat l with valid := true }).setReg (Item.LEG.TEMP_EST l) 2000
def thermalHeld (k : Nat) : State := standby.setRegs [(Item.THM.TA_HOLD, nw (2 ^ k)), (Item.THM.WARN, 0)]
def setHeld : State :=
  { (thermalHeld 5).setSheaf 0 { standby.sheaf 0 with state := .ready } with trac := { standby.trac with thermal := [5] } }
def cutOff (cut : Nat) : State :=
  (standby.setReg Item.THM.TB_STATE (nw (2 ^ cut))).setSheaf 5
    { standby.sheaf 5 with state := .winnowed, causes := [unitOf 15 cut] }
theorem witness_HotUnitsStopAndAreHeld :
    (hot 33 4).bind.sheafOfLeg 33 = some 4 ∧ ((hot 33 4).heat 33).valid = true
      ∧ (hot 33 4).regI Item.THM.STOP * 10 ≤ (hot 33 4).regI (Item.LEG.TEMP_EST 33) ∧ quiet (hot 33 4) (unitOf Kind.sheaf 4) = true
      ∧ (hot 33 4).stype 4 = SType.auxi ∧ (hot 33 4).holdBit 20 = false ∧ ((hot 33 4).sheaf 4).state = .run
      ∧ (hot 41 5).bind.sheafOfLeg 41 = some 5 ∧ ((hot 41 5).heat 41).valid = true ∧ (hot 41 5).stype 5 = SType.auxb
      ∧ (hot 41 5).regI Item.THM.STOP * 10 ≤ (hot 41 5).regI (Item.LEG.TEMP_EST 41) ∧ quiet (hot 41 5) (unitOf Kind.sheaf 5) = true
      ∧ (hot 17 0).bind.sheafOfLeg 17 = some 0 ∧ ((hot 17 0).heat 17).valid = true ∧ (hot 17 0).stype 0 = SType.trc
      ∧ (hot 17 0).regI Item.THM.STOP * 10 ≤ (hot 17 0).regI (Item.LEG.TEMP_EST 17) ∧ quiet (hot 17 0) (unitOf Kind.sheaf 0) = true
      ∧ (hot 17 0).holdBit 5 = false ∧ (hot 17 0).setWinnowed 5 = false ∧ (hot 17 0).regN Item.TRC.MIN_SETS < (hot 17 0).setsActive.length
      ∧ ((hot 17 0).sheaf 0).state = .run ∧ (hot 17 0).trac.ramps.any (fun r => decide (r.1 = 5)) = false := by decide
theorem witness_HoldsAndCutsEnd :
    (thermalHeld 21).holdBit (16 + 5) = true ∧ (thermalHeld 21).cooled ((thermalHeld 21).stoppedLegs 5) = true
      ∧ setHeld.holdBit 5 = true ∧ setHeld.cooled (setHeld.setLegs 5) = true ∧ 5 ∈ setHeld.trac.thermal ∧ setHeld.trcSheaf = some 0
      ∧ setHeld.sup.asc = false ∧ (setHeld.unit (unitOf Kind.set 5)).commanded = false ∧ setHeld.provable 0 = true
      ∧ bitOf (standby.reg Item.THM.TB_STATE) 5 = false ∧ quiet standby dev0 = true ∧ (∃ v ∈ [500, 251], v < 252)
      ∧ bitOf ((cutOff 5).reg Item.THM.TB_STATE) 5 = true ∧ (∀ v ∈ [405, 500], 404 < v)
      ∧ ((cutOff 5).sheaf 5).state = .winnowed ∧ ((cutOff 5).sheaf 5).causes = [unitOf 15 5] ∧ ((cutOff 5).sheaf 5).commanded = false
      ∧ ((cutOff 5).unit (unitOf Kind.sheaf 5)).out = false ∧ (cutOff 5).provable 5 = true
      ∧ bitOf ((thermalHeld 4).setReg Item.THM.TB_STATE 16 |>.reg Item.THM.TB_STATE) 4 = true
      ∧ (thermalHeld 4).sheaves = [] ∧ (thermalHeld 4).dev.tested = true := by decide
theorem calm_hot : (hot 33 4).Calm ∧ (hot 41 5).Calm ∧ (hot 17 0).Calm ∧ (thermalHeld 21).Calm ∧ setHeld.Calm ∧ (cutOff 5).Calm :=
  ⟨calm_of (by decide), calm_of (by decide), calm_of (by decide), calm_of (by decide), calm_of (by decide), calm_of (by decide)⟩

/-! ## Recovery and parameters -/

def sheafProof : ProofRun :=
  { unit := unitOf Kind.sheaf 7, sheaf := 7, legs := [45, 46, 47], started := 0, report := false, recovery := false, running := false }
def sheafProved : State :=
  { standby.setSheaf 7 { standby.sheaf 7 with state := .proving } with proofs := [sheafProof] }
def unitIn (u : Nat) (st : Handling) (cls : FaultClass) : State :=
  standby.setUnit u { standby.unit u with state := st, cls := cls, src := 32 }
def blamed : State := standby.setSheaf 7 { standby.sheaf 7 with state := .winnowed, causes := [unitOf Kind.port 0] }
def freePresence : Presence :=
  { supply := 0, excitation := 0, samples := [], phase := 0, wires := 0, hall := none, frames := 0, jump := 0 }
def finding (pulse : PulseTest) : SelftestFinding :=
  { trips := 0, releases := 0, qgHs := 0, qgLs := 0, link := 0, midMax := 0, offs := [], levels := [], injected := 0, low := 0, high := 0
    windows := [], pairs := 0, converters := [], presence := freePresence, vectors := [], loops := [], pulse := pulse, us := 0 }
theorem witness_UnitsComeBackByTheirRules :
    sheafProved.live = true ∧ sheafProved.proofs.find? (fun p => decide (p.unit = unitOf Kind.sheaf 7)) = some sheafProof
      ∧ (sheafProved.sheaf 7).state = .proving
      ∧ ((unitIn dev0 .handling .L).unit dev0).state = .handling ∧ ((unitIn dev0 .handling .L).unit dev0).cls = .L
      ∧ ((unitIn (outUnit 7) .handling .F).unit (outUnit 7)).state = .handling ∧ ((unitIn (outUnit 7) .handling .F).unit (outUnit 7)).cls ≠ .L
      ∧ ((unitIn (outUnit 7) .handling .F).unit (outUnit 7)).atLimit = false
      ∧ (unitIn (outUnit 7) .handling .F).targetedOk (outUnit 7) (finding { pulseOk with lsN := 1000, hsP := 24000 }) = true
      ∧ (unitIn (outUnit 7) .handling .F).targetedOk (outUnit 7) (finding pulseOk) = false
      ∧ ((unitIn (outUnit 7) .handling .F).unit (outUnit 7)).src < 256
      ∧ (unitIn (unitOf Kind.fastInput 127) .resting .F).dev.state ≠ .locked
      ∧ ((unitIn (unitOf Kind.fastInput 127) .resting .F).unit (unitOf Kind.fastInput 127)).state = .resting
      ∧ (unitIn (unitOf Kind.fastInput 127) .resting .F).heldByCommand (unitOf Kind.fastInput 127) = false
      ∧ (unitIn (unitOf Kind.fastInput 127) .resting .F).regN (Item.FLT.AUTO_RECOV (unitType (unitOf Kind.fastInput 127))) = 1
      ∧ unitKind (unitOf Kind.fastInput 127) = Kind.fastInput
      ∧ ((unitIn (unitOf Kind.can 3) .resting .F).unit (unitOf Kind.can 3)).state = .resting
      ∧ (unitIn (unitOf Kind.can 3) .resting .F).heldByCommand (unitOf Kind.can 3) = false
      ∧ (unitIn (unitOf Kind.can 3) .resting .F).regN (Item.FLT.AUTO_RECOV (unitType (unitOf Kind.can 3))) = 1
      ∧ unitKind (unitOf Kind.can 3) = Kind.can ∧ (at' .locked).live = true ∧ (at' .locked).dev.state = .locked
      ∧ blamed.live = true ∧ (blamed.sheaf 7).state = .winnowed ∧ (blamed.sheaf 7).causes ≠ [] ∧ (blamed.sheaf 7).commanded = false
      ∧ (blamed.unit (unitOf Kind.sheaf 7)).out = false ∧ blamed.provable 7 = true ∧ (blamed.sheaf 7).causes.all blamed.causeBack = true := by
  decide

def can3 : Nat := unitOf Kind.can 3
def miscounted : State := { standby with integrity := [(can3, 1)] }
theorem witness_TheDeviceKeepsItsTimeAndParametersWhole :
    standby.Calm ∧ miscounted.Calm ∧ integritySource can3 = some 3 ∧ standby.unitExists can3 = true
      ∧ KMap.get (fun _ => 0) standby.integrity can3 = 0 ∧ 1 ≤ KMap.get (fun _ => 0) miscounted.integrity can3
      ∧ quiet miscounted can3 = true := ⟨calm_of (by decide), calm_of (by decide), by decide⟩
theorem witness_islands_agree_or_not :
    miscounted.islandCrc (miscounted.islandItems can3) [] = miscounted.islandCrc (miscounted.islandItems can3) []
      ∧ miscounted.islandCrc (miscounted.islandItems can3) [(Item.CAN.DOM_MAX 3, 7)]
        ≠ miscounted.islandCrc (miscounted.islandItems can3) [] := by
  refine ⟨rfl, ?_⟩
  decide +kernel

/-! ## Gearbox actuators -/

def moveOf (op step : Nat) (auto : Bool) : MoveRun :=
  { op := op, target := 0x3F800000, vmax := 0x3F800000, amax := 0x3F800000, step := step, since := 0, retries := 0, auto := auto, ending := none }
/-- Actuator `k` in one step of a MOVE, its sheaf in RUN. -/
def shifting (k op step : Nat) (auto : Bool) : State :=
  ((at' .drive).setSheaf (6 + k) { standby.sheaf 6 with state := .run }).setActuator k { standby.actuator k with move := some (moveOf op step auto) }
def arrived (g : Nat) : State := (shifting g 1 4 false).setReg (Item.PROF.STATUS g) 1
/-- A traction machine in RUN whose torque is above SHIFT_T_MAX. -/
def pulling : State :=
  ((shifting 0 2 5 false).setSheaf 0 { standby.sheaf 0 with state := .run }).setReg (Item.LOOP.Y 6 7) 0x47C35000

theorem calm_moves (k op step : Nat) (auto : Bool) (_ : k < 2) : (shifting k op step auto).Calm := by
  have h : (shifting k op step auto).dev.state = .drive := rfl
  exact calm_of ⟨rfl, rfl, rfl, by simp [h], by simp [h]⟩

theorem witness_MovesGoThroughTheirSteps :
    (shifting 0 1 2 false).actSheaf 0 = some 6 ∧ (shifting 1 1 2 false).actSheaf 1 = some 7
      ∧ ((shifting 1 1 2 false).actuator 1).move = some (moveOf 1 2 false)
      ∧ quiet (shifting 1 1 2 false) (actUnit 1) = true ∧ ((shifting 1 1 2 false).actuator 1).stopAfter = false
      ∧ (shifting 0 2 2 false).parkActuator ≠ some 0 ∧ (shifting 1 2 2 false).parkActuator = some 1
      ∧ ((shifting 1 2 2 false).actuator 1).lifted = false
      ∧ (arrived 0).bind.profSheaf.getD 0 15 = 6 ∧ ((arrived 0).sheaf 6).state = .run ∧ (arrived 0).genDone 0 = true
      ∧ (arrived 0).stype 6 = SType.act ∧ (arrived 0).actGen 6 = 0 ∧ (arrived 0).actOf 6 = 0
      ∧ (arrived 1).bind.profSheaf.getD 1 15 = 7 ∧ (arrived 1).actGen 7 = 1 ∧ (arrived 1).actOf 7 = 1 ∧ (arrived 1).genDone 1 = true
      ∧ F32.le (F32.abs ((shifting 0 2 5 false).reg (Item.LOOP.ERR_A ((shifting 0 2 5 false).actLane 6))))
          ((shifting 0 2 5 false).reg (Item.ACT.POS_BAND 0)) = true
      ∧ pulling.parkActuator ≠ some 0 ∧ pulling.shiftTorqueOk 0 = false ∧ pulling.actSheaf 0 = some 6 := by decide

def stuck (retries : Nat) : State :=
  ((shifting 0 1 4 false).setActuator 0 { standby.actuator 0 with move := some { moveOf 1 4 false with retries := retries } }).setReg
    (Item.LOOP.Y 29 0) 0x3F800000
def following : State :=
  ((at' .drive).setSheaf 7 { standby.sheaf 6 with state := .run }).setRegs [(Item.PROF.MODE 1, 1), (Item.PROF.X 1, 0x41200000)]
/-- The park lock, once proved engaged. -/
def parked : State :=
  (at' .drive).setActuator 1 { standby.actuator 1 with proved := true }
/-- The park lock proved engaged. -/
def engagedPark : State :=
  let s := (at' .drive).setActuator 1 { standby.actuator 1 with homed := true }
  { s.setRegs [(Item.ACT.HOME_MODE 1, 1), (Item.POS.MODE (s.actPort 1), 3), (Item.ACT.POS 1 0, 0),
      (Item.SAFE.ACT_POS 1, s.reg Item.SAFE.PARK_WIN_LO)] with
    sup := { s.sup with actValid := [(1, true)] } }
def atStop (op : Nat) : State := (shifting 0 op 10 false).setReg (Item.LOOP.ERR_A 29) 0x41200000

theorem witness_ActuatorsAreWatchedWhileTheyMove :
    (stuck 0).actSheaf 0 = some 6 ∧ quiet (stuck 0) (actUnit 0) = true ∧ ((stuck 0).actuator 0).stopAfter = false
      ∧ (stuck 0).stalled 0 ((stuck 0).actLane 6) = true ∧ 0 < (stuck 0).regN (Item.ACT.RETRY_N 0) ∧ (stuck 2).regN (Item.ACT.RETRY_N 0) ≤ 2
      ∧ (stuck 2).stalled 0 ((stuck 2).actLane 6) = true ∧ following.actSheaf 1 = some 7 ∧ (following.actuator 1).move = none
      ∧ (following.sheaf 7).state = .run ∧ following.actGen 7 = 1 ∧ following.regN (Item.PROF.MODE 1) ≠ 0
      ∧ F32.lt (following.reg (Item.ACT.FOLLOW_MAX 1)) (F32.abs (F32.sub (following.reg (Item.PROF.X 1)) (following.actPos 1))) = true
      ∧ (atStop 3).forceArmed (actUnit 0) 3 = false ∧ ((atStop 4).actuator 0).move = some (moveOf 4 10 false) ∧ (atStop 4).actLane 6 = 29
      ∧ F32.lt ((atStop 3).reg (Item.ACT.HOME_ERR 0)) (F32.abs ((atStop 3).reg (Item.LOOP.ERR_A 29))) = true
      ∧ following.parkActuator = some 1 ∧ following.parkProved 1 = false ∧ parked.parkActuator = some 1
      ∧ (parked.actuator 1).move = none ∧ parked.parkProved 1 = false ∧ (parked.actuator 1).proved = true
      ∧ quiet parked (actUnit 1) = true ∧ quiet following (actUnit 1) = true ∧ parked.dev.state ≠ .charge ∧ engagedPark.parkActuator = some 1
      ∧ (engagedPark.actuator 1).move = none ∧ engagedPark.parkProved 1 = true ∧ following.dev.state ≠ .charge
      ∧ following.live = true ∧ following.waits = [] ∧ following.swaps = [] ∧ following.dev.state = .drive := by decide

/-! ## Commands of hosts -/

/-- A message of slot 0 with tag 63. -/
def msg (o u : Nat) (payload : List Byte) : HostMsg :=
  { kind := 1, flags := 0, tag := 63, opcode := BitVec.ofNat 16 o, length := BitVec.ofNat 16 payload.length, fresh := 1, unit := nw u,
    timeout := 0, atTime := 0, payload := payload, mac := 0 }
/-- Its record, accepted and next in turn. -/
def asked (m : HostMsg) : CmdRec :=
  { state := .waiting, msg := m, order := 5, accepted := 0, start := none, code := 0, reason := 0, result := [], completed := 0, sent := 0 }
/-- A state with that record, in an attached slot of port E0 that holds every claim. -/
def withCmd (s : State) (m : HostMsg) : State :=
  (s.setSlot 0 { s.slot 0 with status := .attached, claims := 0xFFF, credits := 100 }).setCmd 0 63 (some (asked m))

/-- A command is due when its fields say so and nothing was accepted before it. -/
theorem due_of {s : State} {slot index : Nat} {r : CmdRec}
    (h : s.cmd slot index = some r ∧ r.state = .waiting ∧ s.mayStart r = true ∧ r.start = none
      ∧ s.lacksClaim slot r.msg = false ∧ s.time.now < r.deadline ∧ (s.slot slot).status ≠ .free ∧ s.waitingBefore r.order = [] ∧ s.seqs = []) :
    s.Due slot index r where
  cmd := h.1
  waiting := h.2.1
  may := h.2.2.1
  time := .inl h.2.2.2.1
  claim := h.2.2.2.2.1
  early := h.2.2.2.2.2.1
  held := h.2.2.2.2.2.2.1
  alone := by simp [State.endWaiting, h.2.2.2.2.2.2.2.1, State.forEach]
  fresh q hq := by simp [h.2.2.2.2.2.2.2.2] at hq

def moveMsg (o : Nat) (k : Nat) : HostMsg := msg Op.move (actUnit k) 
  ([BitVec.ofNat 8 o, 0, 0, 0] ++ wordBytes (if o = 2 then 0x3F800000 else 0) ++ List.replicate 8 0)
/-- An actuator whose sheaf is in RUN with lanes closed on a live port; SERVICE for LEARN. -/
def movable (o k : Nat) : State :=
  withCmd
    ((((at' (if o = 4 then .service else .standby)).setSheaf (6 + k) { standby.sheaf 6 with state := .run }).setRegs
      [(Item.LOOP.CLOSE (28 + 2 * k), 1), (Item.LOOP.CLOSE (29 + 2 * k), 1), (Item.POS.MODE (1 + k), 3), (Item.ACT.HOME_MODE k, 1)]).setActuator k
      { standby.actuator k with homed := true }) (moveMsg o k)
theorem witness_MovesBeginWhenTheirChecksPass (o : Nat) (ho : o = 1 ∨ o = 2 ∨ o = 3 ∨ o = 4) :
    (movable o 0).cmd 0 63 = some (asked (moveMsg o 0)) ∧ op (moveMsg o 0) = Op.move ∧ target (moveMsg o 0) = actUnit 0
      ∧ (movable o 0).actSheaf 0 = some 6 ∧ ((movable o 0).actuator 0).move = none ∧ moveFormed (moveMsg o 0).payload = true
      ∧ opByte (moveMsg o 0) = o ∧ (o = 4 → (movable o 0).dev.state = .service)
      ∧ wordAt (moveMsg o 0).payload 8 = 0 ∧ wordAt (moveMsg o 0).payload 12 = 0
      ∧ (movable o 0).moveCheck 0 o ((movable o 0).moveTarget 0 (moveMsg o 0).payload).1 ((movable o 0).reg (Item.ACT.VMAX 0))
          ((movable o 0).reg (Item.ACT.AMAX 0)) ((movable o 0).moveTarget 0 (moveMsg o 0).payload).2 = 0
      ∧ (movable o 0).live = true ∧ (movable o 0).waits = [] ∧ (movable o 0).swaps = [] := by
  rcases ho with rfl | rfl | rfl | rfl <;> decide
theorem due_movable (o : Nat) (ho : o = 1 ∨ o = 2 ∨ o = 3 ∨ o = 4) : (movable o 0).Due 0 63 (asked (moveMsg o 0)) := by
  rcases ho with rfl | rfl | rfl | rfl <;> exact due_of (by decide)

/-! ## Charging -/

/-- CHARGE with the charger's sheaves in RUN and a session of the given fields. -/
def charging (f : Charge → Charge) : State :=
  let s := at' .charge
  let run (x : State) (n : Nat) : State := x.setSheaf n { x.sheaf n with state := .run }
  (run (run (run s 1) 2) 3).setCharge (f { s.charge with running := true, mode := 1, phases := 3 })
def handing (step : Nat) : State :=
  charging (fun c => { c with running := false, hand := some { step := step, cause := 1, began := 0, since := 0, failure := none } })
def battery : State := charging (fun c => { c with mode := 0 })
def plugged : State := charging (fun c => { c with running := false, plugSince := some 7 })

theorem witness_SessionsEndByTheirCauses :
    ((handing 1).charge.hand.map (·.step)) = some 1 ∧ (handing 1).regN Item.CHG.PILOT_FILT ≤ 1000
      ∧ pilotOf 9000 (-12000) [(500000, 1000000)] = 1 ∧ pilotOf 9000 (-12000) [(500000, 1000000)] ≠ (handing 1).regN Item.CHG.PILOT_STATE
      ∧ (handing 1).charge.pilotNext = none ∧ 0 < (handing 1).regN Item.CHG.PILOT_FILT ∧ (charging id).charge.hand = none
      ∧ (charging id).regN Item.CHG.PILOT_FILT ≤ 1000 ∧ pilotOf 12000 0 [] = 0
      ∧ plugCode 1480 = 63 ∧ plugCode 4700 = 0 ∧ (charging id).dev.state ≠ .drive ∧ (charging id).charge.running = true
      ∧ (charging id).charge.arm = none ∧ (charging id).chgf = some 1 ∧ (charging id).runs 1 = true ∧ (charging id).charge.mode ≠ 3
      ∧ (charging id).regN Item.CHG.LOSS_T ≤ 100000 ∧ 0 < (charging id).regN Item.CHG.VLOSS
      ∧ (∀ k ∈ (charging id).phasesInUse, ([0, 0, 0].getD k 0) ^ 2 < 2 * ((charging id).regN Item.CHG.VLOSS * 10) ^ 2)
      ∧ battery.charge.mode = 0 ∧ (charging id).charge.fallback = false := by decide
theorem calm_sessions : (handing 1).Calm ∧ (charging id).Calm ∧ battery.Calm := ⟨calm_of (by decide), calm_of (by decide), calm_of (by decide)⟩

def arming (step stage : Nat) : State :=
  charging (fun c => { c with running := false, arm := some { step := step, stage := stage, since := 0, late := false, mode := 1, phases := 3 } })
def connecting (matched : Bool) (v : Word) : State := { standby.setReg (Item.ADCF.VAL 0 6) v with hv := some (0, matched) }
/-- CHARGE without a session, the traction machine reported at standstill on port 3, or on no port. -/
def resting (port : Bool) : State :=
  (charging (fun c => { c with running := false })).setRegs
    ((if port then [(Item.POS.MODE 3, 3), (Item.POS.SHEAF 3, 0)] else [(Item.POS.SHEAF 3, 15)]) ++
      [(Item.POS.SHEAF 0, 15), (Item.POS.SHEAF 1, 15), (Item.POS.SHEAF 2, 15)])
def regenerating : State :=
  (charging id).setRegs [(Item.POS.MODE 3, 3), (Item.POS.SHEAF 3, 0), (Item.POS.SHEAF 0, 15), (Item.POS.SHEAF 1, 15), (Item.POS.SHEAF 2, 15)]
/-- CHGD0 stopped while CHGD1 follows its carrier. -/
def loneBridge : State :=
  ((charging id).setSheaf 2 { standby.sheaf 2 with state := .ready }).setReg (Item.PWM.SYNC_SHEAF 3) 2

theorem witness_ConnectionsGoThroughTheirSteps :
    plugged.charge.plugSince = some 7 ∧ plugged.charge.debounced = false ∧ plugged.charge.hand = none
      ∧ plugged.charge.arm = none ∧ ((handing 3).charge.hand.map (·.step)) = some 3 ∧ (handing 3).contactorsClosed = false
      ∧ (connecting true 0).hv = some (0, true) ∧ (connecting false 0).hv = some (0, false) ∧ (connecting false 0).linksMatch = true
      ∧ (connecting false 8000).linksMatch = false ∧ (∀ k < 3, (connecting false 8000).regN (Item.SOUT.OWNER k) = 0)
      ∧ (connecting false 0).charge.hand = none ∧ (connecting false 0).charge.arm = none
      ∧ (arming 5 0).regN (Item.ADCI.MAINS_STATE 0) = 0 ∧ ((arming 5 0).charge.arm.map (·.step)) = some 5
      ∧ ((arming 6 1).charge.arm.map (·.stage)) = some 1 ∧ (arming 6 1).charge.hand = none
      ∧ (handing 3).chgf = some 1 ∧ plugged.charge.running = false ∧ (resting true).driveFast = false ∧ (resting false).driveFast = true
      ∧ (resting false).dev.state = .charge ∧ (resting true).charge.running = false ∧ (resting true).charge.hand = none
      ∧ (resting true).chgf = some 1 ∧ regenerating.driveFast = false ∧ regenerating.charge.running = true ∧ regenerating.charge.mode = 1
      ∧ regenerating.runs 1 = true ∧ regenerating.bridges.any regenerating.runs = true
      ∧ loneBridge.bridges = [2, 3] ∧ loneBridge.resyncDue = true ∧ loneBridge.anyDeferred 3 = false := by decide
theorem calm_connecting : plugged.Calm ∧ (connecting false 8000).Calm ∧ (arming 5 0).Calm ∧ (resting true).Calm ∧ (resting false).Calm ∧ regenerating.Calm
    ∧ loneBridge.Calm :=
  ⟨calm_of (by decide), calm_of (by decide), calm_of (by decide), calm_of (by decide), calm_of (by decide), calm_of (by decide),
    calm_of (by decide)⟩

/-! ## Sheaves, hosts, charges and images -/

/-- A command with a time of its own. -/
def timed (s : State) (m : HostMsg) (at' : Nat) : State := (withCmd s m).setCmd 0 63 (some { asked m with start := some at' })
def auxSheaf (st : SheafState) : State := standby.setSheaf 5 { standby.sheaf 5 with state := st }
def startMsg : HostMsg := msg Op.sheafStart (unitOf Kind.sheaf 5) []
def stopMsg (o : Byte) : HostMsg := msg Op.sheafStop (unitOf Kind.sheaf 5) [o]
def swapMsg : HostMsg := msg Op.swap (unitOf Kind.sheaf 5) []
def startAt (t : Nat) : State := timed (auxSheaf .ready) startMsg t

theorem due_sheaf : (withCmd (auxSheaf .ready) startMsg).Due 0 63 (asked startMsg) ∧ (withCmd (auxSheaf .run) (stopMsg 0)).Due 0 63 (asked (stopMsg 0))
    ∧ (withCmd (auxSheaf .ready) (stopMsg 1)).Due 0 63 (asked (stopMsg 1)) ∧ (withCmd (auxSheaf .ready) swapMsg).Due 0 63 (asked swapMsg) :=
  ⟨due_of (by decide), due_of (by decide), due_of (by decide), due_of (by decide)⟩
theorem due_timed : ((startAt 5000).reach 5000).Due 0 63 { asked startMsg with start := some 5000 } where
  cmd := by decide
  waiting := by decide
  may := by decide
  time := .inr ⟨5000, rfl, by decide, by decide⟩
  claim := by decide
  early := by decide
  held := by decide
  alone := by
    have h : ((startAt 5000).reach 5000).waitingBefore 5 = [] := by decide
    simp [State.endWaiting, State.forEach, asked, h]
  fresh q hq := by
    have h : ((startAt 5000).reach 5000).seqs = [] := by decide
    simp [h] at hq
theorem witness_SheafCommandsStartStopAndSwap :
    (withCmd (auxSheaf .ready) startMsg).startRefusal 5 = 0 ∧ (withCmd (auxSheaf .ready) startMsg).anyDeferred 5 = false
      ∧ target startMsg = unitOf Kind.sheaf 5 ∧ op startMsg = Op.sheafStart ∧ startMsg.payload = []
      ∧ ((startAt 5000).reach 5000).startRefusal 5 = 0 ∧ ((startAt 5000).reach 5000).anyDeferred 5 = false
      ∧ op (stopMsg 0) = Op.sheafStop ∧ ((auxSheaf .run).sheaf 5).state = .run ∧ (auxSheaf .run).stype 5 ≠ SType.trc
      ∧ op swapMsg = Op.swap ∧ swapMsg.payload = [] ∧ ((auxSheaf .ready).sheaf 5).state ≠ .run
      ∧ (withCmd (auxSheaf .ready) swapMsg).swapBlocked (ownedBy 5) = false
      ∧ (withCmd (auxSheaf .ready) swapMsg).dev.fwRunning = true ∧ (withCmd (auxSheaf .ready) swapMsg).dev.halted = false
      ∧ (withCmd (auxSheaf .ready) swapMsg).live = true ∧ (withCmd (auxSheaf .ready) swapMsg).waits = []
      ∧ (withCmd (auxSheaf .ready) swapMsg).swaps = [] ∧ (withCmd (auxSheaf .ready) swapMsg).dev.state = .standby := by decide
theorem witness_SwapAgrees : (withCmd (auxSheaf .ready) swapMsg).swapAgrees (ownedBy 5) = true := by decide

def timeMsg : HostMsg := msg Op.timeQuery 0 []
def readMsg : HostMsg := msg Op.paramRead 0 (wordBytes (nw Item.DEV.STATE))
def takeMsg (o : Byte) : HostMsg := msg Op.claim 0 ([o, 0] ++ beBytes 2 0x21)
def openMsg : HostMsg := msg Op.streamOpen 0 ([1, 2, 0, 1] ++ wordBytes 127)
def closeMsg : HostMsg := msg Op.streamClose 0 [3]
def entitled (m : HostMsg) : State :=
  withCmd { standby.setRegs [(Item.IMG.BOOT_SLOT, 0), (Item.HOST.RIGHTS 0, 0x1FFF)] with
    streams := [{ slot := 0, number := 3, port := 1, decimation := 2, sources := [0], load := 10, seq := 0, skipped := 0, rows := [],
                  first := 0, last := 0 }] } m
theorem witness_HostsReadClaimAndStream :
    op timeMsg = Op.timeQuery ∧ timeMsg.payload = [] ∧ op readMsg = Op.paramRead ∧ readMsg.payload.length = 4
      ∧ op (takeMsg 1) = Op.claim ∧ (takeMsg 1).payload = [1, 0] ++ beBytes 2 0x21
      ∧ (maskSheaves 0x21).all ((entitled (takeMsg 1)).mayClaim 0) = true ∧ (takeMsg 2).payload = [2, 0] ++ beBytes 2 0x21
      ∧ op openMsg = Op.streamOpen ∧ ((entitled openMsg).slot 0).port < 3 ∧ beAt openMsg.payload 0 1 = 1 ∧ openMsg.payload.length = 4 + 4 * 1
      ∧ beAt openMsg.payload 1 1 = 2 ∧ beAt openMsg.payload 2 2 = 1 ∧ (payloadWords (openMsg.payload.drop 4)).all sourceOk = true
      ∧ (entitled openMsg).streamFits 0 2 100 = true ∧ op closeMsg = Op.streamClose ∧ (entitled closeMsg).streams.any (fun x => x.number = 3) = true
      := by decide
/-- A host with no right that lets it release a claim. -/
def unentitled (m : HostMsg) : State := withCmd (standby.setRegs [(Item.IMG.BOOT_SLOT, 0), (Item.HOST.RIGHTS 0, 0x81)]) m
theorem witness_ReleasesDeniedAndDone :
    [Right.ctrlTrc, Right.ctrlChg, Right.ctrlAux, Right.ctrlAct, Right.svcClaim].any ((unentitled (takeMsg 2)).hasRight 0) = false
      ∧ [Right.ctrlTrc, Right.ctrlChg, Right.ctrlAux, Right.ctrlAct, Right.svcClaim].any ((entitled (takeMsg 2)).hasRight 0) = true
      ∧ (entitled (takeMsg 1)).dev.state ≠ .service := by decide
theorem due_unentitled : (unentitled (takeMsg 2)).Due 0 63 (asked (takeMsg 2)) := due_of (by decide)
theorem due_entitled : (entitled timeMsg).Due 0 63 (asked timeMsg) ∧ (entitled readMsg).Due 0 63 (asked readMsg)
    ∧ (entitled (takeMsg 1)).Due 0 63 (asked (takeMsg 1)) ∧ (entitled (takeMsg 2)).Due 0 63 (asked (takeMsg 2))
    ∧ (entitled openMsg).Due 0 63 (asked openMsg) ∧ (entitled closeMsg).Due 0 63 (asked closeMsg) :=
  ⟨due_of (by decide), due_of (by decide), due_of (by decide), due_of (by decide), due_of (by decide), due_of (by decide)⟩

def settings : List Byte := beBytes 2 0x101 ++ [0, 0] ++ beBytes 2 160 ++ List.replicate 6 0 ++ beBytes 2 500 ++ List.replicate 10 0
def setMsg : HostMsg := msg Op.chargeSet 0 settings
def armMsg (o : Byte) : HostMsg := msg Op.chargeArm 0 [o]
/-- CHARGE with a cable and a vehicle at the pilot. -/
def cabled (m : HostMsg) : State :=
  withCmd ((at' .charge).setRegs [(Item.CHG.PP_I, 32), (Item.CHG.PILOT_STATE, 2), (Item.CHG.SET_MODE, 1), (Item.IMG.BOOT_SLOT, 0), (Item.HOST.RIGHTS 0, 0x1FFF)]) m
def armed (m : HostMsg) : State := (cabled m).setCharge { (cabled m).charge with running := true, mode := 1 }
theorem witness_ChargesAreSetArmedAndDisarmed :
    op setMsg = Op.chargeSet ∧ settingsFormed settings = true ∧ settingsInRange settings = true ∧ (cabled setMsg).lacksChgf 0 = false
      ∧ (cabled setMsg).hasRight 0 Right.limits = true ∧ (cabled (armMsg 1)).chargerSheaves = [1, 2, 3]
      ∧ (∀ n ∈ (cabled (armMsg 1)).chargerSheaves, (cabled (armMsg 1)).hasClaim 0 n = true ∧ (cabled (armMsg 1)).holdBit (16 + n) = false)
      ∧ (cabled (armMsg 1)).charge.running = false ∧ (cabled (armMsg 1)).charge.hand = none ∧ (cabled (armMsg 1)).charge.debounced = false
      ∧ ((cabled (armMsg 1)).setting Item.CHG.SET_MODE).getD 0 = 1 ∧ (cabled (armMsg 1)).armCheck 1 false = 0
      ∧ (cabled (armMsg 3)).armCheck 1 true = 0 ∧ (armed (armMsg 2)).charge.running = true ∧ (armed (armMsg 2)).charge.arm = none := by decide
theorem due_cabled : (cabled setMsg).Due 0 63 (asked setMsg) ∧ (cabled (armMsg 1)).Due 0 63 (asked (armMsg 1))
    ∧ (cabled (armMsg 3)).Due 0 63 (asked (armMsg 3)) ∧ (armed (armMsg 2)).Due 0 63 (asked (armMsg 2)) :=
  ⟨due_of (by decide), due_of (by decide), due_of (by decide), due_of (by decide)⟩

def chunkMsg (fw : Nat) (off : Nat) (end1 : Byte) (d : List Byte) : HostMsg :=
  msg Op.nvCommit 0 (beBytes 4 (fw * 2 ^ 31 + off) ++ [end1, 0, 0, 0] ++ d)
def storing (m : HostMsg) : State :=
  { withCmd standby m with commit := { standby.commit with claim := some 0, fwClaim := some 0 } }
theorem witness_ImagesAreWrittenAndSealed :
    op (chunkMsg 0 0 0 [1]) = Op.nvCommit ∧ toFirmware (chunkMsg 0 126 0 [1, 2, 3]) = false ∧ toFirmware (chunkMsg 1 0 0 [1]) = true
      ∧ 126 + 3 ≤ imageSize ∧ (withCmd standby (chunkMsg 0 0 0 [1])).commit.claim = none ∧ (storing (chunkMsg 0 0 1 [])).commit.claim = some 0
      ∧ (chunkMsg 0 0 1 []).payload.length = 8 ∧ beAt (chunkMsg 0 0 1 []).payload 4 1 = 1 ∧ beAt (chunkMsg 0 0 1 []).payload 5 3 = 0
      ∧ firmwareSize - 1 + 1 ≤ firmwareSize ∧ (storing (chunkMsg 1 0 1 [])).commit.fwClaim = some 0 := by decide
theorem due_storing : (storing (chunkMsg 0 126 0 [1, 2, 3])).Due 0 63 (asked (chunkMsg 0 126 0 [1, 2, 3]))
    ∧ (withCmd standby (chunkMsg 0 0 0 [1])).Due 0 63 (asked (chunkMsg 0 0 0 [1])) ∧ (storing (chunkMsg 1 0 1 [])).Due 0 63 (asked (chunkMsg 1 0 1 [])) :=
  ⟨due_of (by decide), due_of (by decide), due_of (by decide)⟩
/-- The header held back for a slot whose check passes (Table 3-2, R505). -/
def heldHead (fw : Bool) : KMap Byte := putBytes [] 0 ([0x54, 0x48] ++ (if fw then [0x46, 0x57] else [0x49, 0x31]) ++ [0, 1, 0x96, 0x48])
def sealing (fw : Bool) : State :=
  let s := storing (chunkMsg (if fw then 1 else 0) 0 1 [])
  { s with commit := { s.commit with header := heldHead false, fwHeader := heldHead true } }
theorem due_sealing : (sealing false).Due 0 63 (asked (chunkMsg 0 0 1 [])) ∧ (sealing true).Due 0 63 (asked (chunkMsg 1 0 1 [])) :=
  ⟨due_of (by decide), due_of (by decide)⟩

/-! ## Services -/

def sheaf7 (st : SheafState) : State := standby.setSheaf 7 { standby.sheaf 7 with state := st }
def proveMsg : HostMsg := msg Op.prove (unitOf Kind.sheaf 7) []
def proveAllMsg : HostMsg := msg Op.prove (unitOf Kind.device 0) []
def input127 : Nat := unitOf Kind.fastInput 127
def winnowMsg (u : Nat) : HostMsg := msg Op.winnow u []
def selftestMsg : HostMsg := msg Op.selftest input127 [0, 1]
def forceMsg (u : Nat) : HostMsg := msg Op.force u (wordBytes 5 ++ wordBytes 4)
/-- The traction sheaf in RUN with every set. -/
def allSets (m : HostMsg) : State := withCmd (drive.setLeg 17 { drive.leg 17 with supplies := true }) m
def restingInput (m : HostMsg) : State :=
  (withCmd standby m).setUnit input127 { standby.unit input127 with state := .resting, cls := .F, src := 1 }
theorem witness_UnitsAreProvedWinnowedTestedAndForced :
    op proveMsg = Op.prove ∧ target proveMsg = unitOf Kind.sheaf 7 ∧ ((withCmd (sheaf7 .off) proveMsg).sheaf 7).state = .off
      ∧ ((withCmd (sheaf7 .ready) proveMsg).sheaf 7).state = .ready
      ∧ (withCmd (sheaf7 .off) proveMsg).proofOn ((withCmd (sheaf7 .off) proveMsg).bind.legsOf 7) = false
      ∧ target proveAllMsg = unitOf Kind.device 0 ∧ (withCmd standby proveAllMsg).anyRun = false
      ∧ op (winnowMsg input127) = Op.winnow ∧ target (winnowMsg input127) = input127
      ∧ ((withCmd standby (winnowMsg input127)).unit input127).out = false ∧ (withCmd standby (winnowMsg input127)).inputRead 127 = false
      ∧ (sheaf7 .run).stype 7 ≠ 0 ∧ ((sheaf7 .run).sheaf 7).state = .run ∧ ((sheaf7 .run).unit (unitOf Kind.sheaf 7)).out = false
      ∧ (allSets (winnowMsg (unitOf Kind.leg 17))).bind.sheafOfLeg 17 = some 0 ∧ (allSets (winnowMsg (unitOf Kind.leg 17))).stype 0 = SType.trc
      ∧ (allSets (winnowMsg (unitOf Kind.leg 17))).trcSheaf = some 0 ∧ ((allSets (winnowMsg (unitOf Kind.leg 17))).sheaf 0).state = .run
      ∧ (allSets (winnowMsg (unitOf Kind.leg 17))).unitOut ((allSets (winnowMsg (unitOf Kind.leg 17))).serviceUnit (unitOf Kind.leg 17)) = false
      ∧ (allSets (winnowMsg (unitOf Kind.leg 17))).winnowSetReason = 0
      ∧ (∀ x ∈ (allSets (winnowMsg (unitOf Kind.leg 17))).trac.ramps, x.1 ≠ (allSets (winnowMsg (unitOf Kind.leg 17))).bind.position 17 / 3)
      ∧ op selftestMsg = Op.selftest ∧ selftestMsg.payload = [0, 1] ∧ (restingInput selftestMsg).unitOut input127 = true
      ∧ (restingInput selftestMsg).forceArmed input127 2 = false
      ∧ op (forceMsg input127) = Op.force ∧ (restingInput (forceMsg input127)).unboundLeg input127 = false ∧ unitKind input127 ≠ Kind.can
      ∧ (restingInput (forceMsg input127)).forceMask input127 = some 0xF ∧ (restingInput (forceMsg input127)).forceOpen input127 = true
      ∧ 5 &&& 0xF = 5 := by decide
theorem due_services : (withCmd (sheaf7 .off) proveMsg).Due 0 63 (asked proveMsg) ∧ (withCmd standby proveAllMsg).Due 0 63 (asked proveAllMsg)
    ∧ (withCmd standby (winnowMsg input127)).Due 0 63 (asked (winnowMsg input127))
    ∧ (withCmd (sheaf7 .run) (winnowMsg (unitOf Kind.sheaf 7))).Due 0 63 (asked (winnowMsg (unitOf Kind.sheaf 7)))
    ∧ (allSets (winnowMsg (unitOf Kind.leg 17))).Due 0 63 (asked (winnowMsg (unitOf Kind.leg 17)))
    ∧ (restingInput selftestMsg).Due 0 63 (asked selftestMsg) ∧ (restingInput (forceMsg input127)).Due 0 63 (asked (forceMsg input127)) :=
  ⟨due_of (by decide), due_of (by decide), due_of (by decide), due_of (by decide), due_of (by decide), due_of (by decide), due_of (by decide)⟩

def restoreMsg : HostMsg := msg Op.restore input127 []
theorem witness_RestoreBringsUnitsBack :
    (restingInput restoreMsg).Calm ∧ op restoreMsg = Op.restore ∧ restoreMsg.payload = [] ∧ target restoreMsg = unitOf Kind.fastInput 127
      ∧ ((restingInput restoreMsg).unit input127).state = .resting ∧ ((restingInput restoreMsg).unit input127).out = true
      ∧ ((withCmd standby restoreMsg).unit input127).out = false
      ∧ ((unitIn input127 .handling .F).unit input127).state = .handling := ⟨calm_of (by decide), by decide⟩
theorem due_restore : (restingInput restoreMsg).Due 0 63 (asked restoreMsg) ∧ (withCmd standby restoreMsg).Due 0 63 (asked restoreMsg)
    ∧ (withCmd (unitIn input127 .handling .F) restoreMsg).Due 0 63 (asked restoreMsg) :=
  ⟨due_of (by decide), due_of (by decide), due_of (by decide)⟩

/-- What a sound fast input gives at its three test levels. -/
def levelsOk : SelftestFinding := { finding pulseOk with levels := if standby.bipolar 15 7 then [[-6554], [0], [6554]] else [[1638], [8192], [14746]] }
theorem witness_SelftestsPass :
    firstFail ((restingInput selftestMsg).testChecks input127 1 levelsOk) = 0
      ∧ firstFail ((restingInput selftestMsg).testChecks input127 1 (finding pulseOk)) ≠ 0
      ∧ (restingInput restoreMsg).targetedOk input127 levelsOk = true := by decide

/-! ## Writes -/

def writeMsg (a : Nat) (w : Word) : HostMsg := msg Op.paramWrite 0 (wordBytes (nw a) ++ wordBytes w)
/-- A host with every right and claim, its write next in turn. -/
def writing (d : DevState) (a : Nat) (w : Word) : State :=
  withCmd ((at' d).setRegs [(Item.IMG.BOOT_SLOT, 0), (Item.HOST.RIGHTS 0, 0x1FFF)]) (writeMsg a w)
def fits (s : State) (a : Nat) (w : Word) : Prop :=
  s.cmd 0 63 = some (asked (writeMsg a w)) ∧ op (writeMsg a w) = Op.paramWrite ∧ (writeMsg a w).payload.length = 8
    ∧ bitsOf (nw a) 23 0 = a ∧ writeItems (writeMsg a w) = [(nw a, w)] ∧ s.itemFails 0 [(nw a, w)] (nw a) w = none
/-- The check of `fits` and of the fields that `Due` asks for, in one. -/
def fitB (s : State) (a : Nat) (w : Word) : Bool :=
  let m := writeMsg a w
  decide (s.cmd 0 63 = some (asked m)) && decide (op m = Op.paramWrite ∧ m.payload.length = 8 ∧ bitsOf (nw a) 23 0 = a)
    && decide (writeItems m = [(nw a, w)]) && decide (s.itemFails 0 [(nw a, w)] (nw a) w = none) && s.mayStart (asked m)
    && decide (s.lacksClaim 0 m = false ∧ s.time.now < (asked m).deadline) && decide ((s.slot 0).status ≠ .free ∧ s.waitingBefore 5 = [] ∧ s.seqs = [] ∧ s.waits = [] ∧ s.swaps = [])
    && s.live && decide (s.dev.state ≠ .locked)
theorem fits_of {s : State} {a : Nat} {w : Word} (h : fitB s a w = true) : fits s a w ∧ s.Due 0 63 (asked (writeMsg a w)) := by
  simp only [fitB, Bool.and_eq_true, decide_eq_true_eq] at h
  obtain ⟨⟨⟨⟨⟨⟨⟨⟨hc, hop, hl, ha⟩, hw⟩, hf⟩, hm⟩, hn, he⟩, hs, hb, hq, -, -⟩, -⟩, -⟩ := h
  exact ⟨⟨hc, hop, hl, ha, hw, hf⟩, due_of ⟨hc, rfl, hm, rfl, hn, he, hs, hb, hq⟩⟩

theorem witness_WritesAreCheckedAndTakeEffect :
    (writing .standby Item.DEV.STATE 1).firstFailure 0 [(nw Item.DEV.STATE, 1)] [(nw Item.DEV.STATE, 1)] 0
        = some (0, Code.invalid, Reason.readOnly)
      ∧ (writing .standby Item.DEV.STATE 1).mayStart (asked (writeMsg Item.DEV.STATE 1)) = true
      ∧ fitB (writing .standby Item.DEV.GATE_PWR_WARN 10000) Item.DEV.GATE_PWR_WARN 10000 = true
      ∧ (Catalogue.find Item.DEV.GATE_PWR_WARN).any (fun d => d.acc = .rw && d.cls = .L) = true
      ∧ (writing .standby Item.DEV.GATE_PWR_WARN 10000).modeCap = none
      ∧ (writing .standby 0 0).blockRunning ((writing .standby 0 0).blockOf Item.DEV.GATE_PWR_WARN) = false
      ∧ (Catalogue.find (Item.ADCF.BG_MASK 0)).any (fun d => d.acc = .rw && d.cls = .L) = true
      ∧ fitB (writing .standby (Item.ADCF.BG_MASK 0) 1) (Item.ADCF.BG_MASK 0) 1 = true
      ∧ (writing .standby 0 0).blockRunning ((writing .standby 0 0).blockOf (Item.ADCF.BG_MASK 0)) = true := by decide
/-- Two items written together, the second of which must stand alone. -/
def twoItems : HostMsg := msg Op.paramWrite 0 (wordBytes (nw Item.DEV.GATE_PWR_WARN) ++ wordBytes 1 ++ wordBytes (nw Item.DEV.MODE_REQ) ++ wordBytes 3)
theorem witness_WritesThatMustStandAlone :
    1 < (writeItems twoItems).length ∧ twoItems.payload.length = 16 ∧ (writeItems twoItems)[1]? = some (nw Item.DEV.MODE_REQ, 3)
      ∧ alone (nw Item.DEV.MODE_REQ) = true ∧ alone (nw Item.DEV.GATE_PWR_WARN) = false := by decide
theorem due_twoItems : (withCmd standby twoItems).Due 0 63 (asked twoItems) := due_of (by decide)
theorem witness_ShadowWrites :
    (Catalogue.find (Item.LEG.BAND_FAILSAFE 47)).any (fun d => d.acc = .rw && d.cls = .S) = true
      ∧ fitB (writing .standby (Item.LEG.BAND_FAILSAFE 47) 1) (Item.LEG.BAND_FAILSAFE 47) 1 = true := by decide

def readied (d : DevState) (a : Nat) (w : Word) : State :=
  (((writing d a w).setSheaf 0 { standby.sheaf 0 with state := .ready }).setSheaf 1 { standby.sheaf 0 with state := .ready }).setSheaf 3
    { standby.sheaf 0 with state := .ready }
/-- Park lock proved, cable in. -/
def parkedWith : State :=
  let s := ((readied .standby Item.DEV.MODE_REQ 4).setActuator 1 { standby.actuator 1 with homed := true }).setRegs
    [(Item.ACT.HOME_MODE 1, 1), (Item.POS.SHEAF 2, 7), (Item.POS.MODE 3, 3), (Item.POS.SHEAF 3, 0), (Item.POS.SHEAF 0, 15), (Item.POS.SHEAF 1, 15), (Item.POS.MODE 2, 3), (Item.ACT.POS 1 0, 0), (Item.CHG.PP_I, 32),
     (Item.SAFE.PARK_WIN_LO, 0), (Item.SAFE.PARK_WIN_HI, 100)]
  { s.setPort 2 { s.port 2 with seen := true } with sup := { s.sup with actValid := [(1, true)] } }
def stoppedSafe : State := (writing .safe Item.DEV.MODE_REQ 2).setSheaf 7 { standby.sheaf 7 with state := .safe }
def owned (a : Nat) (w : Word) : State :=
  (writing .standby a w).setRegs [(Item.SOUT.OWNER 0, 0), (Item.SOUT.OWNER 1, 0), (Item.SOUT.PERMIT 1, 0xFF), (Item.SOUT.OWNER 7, 3),
    (Item.SOUT.PERMIT 7, 0xFF)]
theorem witness_RequestsChangeStatesAndOutputs :
    fitB (readied .standby Item.DEV.MODE_REQ 3) Item.DEV.MODE_REQ 3 = true ∧ (readied .standby Item.DEV.MODE_REQ 3).modeCheck 3 = 0
      ∧ fitB (writing .standby Item.DEV.MODE_REQ 3) Item.DEV.MODE_REQ 3 = true ∧ (writing .standby Item.DEV.MODE_REQ 3).modeCheck 3 ≠ 0
      ∧ standby.dev.exiting = none ∧ standby.store.fwState.getD standby.store.fwRun 0 ≠ 4
      ∧ fitB (writing .standby Item.DEV.MODE_REQ 5) Item.DEV.MODE_REQ 5 = true ∧ (writing .standby Item.DEV.MODE_REQ 5).modeCheck 5 = 0
      ∧ fitB stoppedSafe Item.DEV.MODE_REQ 2 = true ∧ stoppedSafe.safeCause = false ∧ stoppedSafe.dev.state = .safe
      ∧ (stoppedSafe.sheaf 7).state = .safe ∧ (stoppedSafe.unit (unitOf Kind.sheaf 7)).state = .idle := by decide
theorem witness_RequestForCharge : fitB parkedWith Item.DEV.MODE_REQ 4 = true ∧ parkedWith.modeCheck 4 = 0 := by decide
theorem witness_RequestsForOutputs :
    fitB (owned Item.DEV.HV_REQ 1) Item.DEV.HV_REQ 1 = true ∧ (owned Item.DEV.HV_REQ 1).contactorsClosed = false
      ∧ (owned Item.DEV.HV_REQ 1).hv = none ∧ (owned Item.DEV.HV_REQ 1).regN (Item.SOUT.OWNER 1) = 0
      ∧ (owned Item.DEV.HV_REQ 1).outPermitted 1 = true ∧ (owned Item.DEV.HV_REQ 1).offCause 1 = false
      ∧ ((owned Item.DEV.HV_REQ 1).unit (unitOf Kind.output 1)).out = false ∧ fitB (owned Item.DEV.HV_REQ 0) Item.DEV.HV_REQ 0 = true
      ∧ fitB (owned Item.DEV.SO_USER 0x80) Item.DEV.SO_USER 0x80 = true ∧ (owned Item.DEV.SO_USER 0x80).regN (Item.SOUT.OWNER 7) = 3
      ∧ (owned Item.DEV.SO_USER 0x80).outPermitted 7 = true ∧ (owned Item.DEV.SO_USER 0x80).offCause 7 = false := by decide

def lane5 (w : Word) : State :=
  (((writing .drive (Item.LOOP.CLOSE 5) w).setSheaf 0 { standby.sheaf 0 with state := .run }).setReg (Item.LOOP.CLOSE 5) 1)
def sequenced (k : Nat) (q : Nat) : State :=
  let s := (writing .standby (Item.ADCF.SW_TRIG k) (nw q)).setReg (Item.ADCF.SEQ k q) 0x01000007
  { s with fasts := KMap.put (fun _ => standby.fast 0) s.fasts k (standby.fast k) }
def scanning (w : Option Nat) : State :=
  let s := (writing .standby (Item.ADCI.URG_REQ 1) 29).setReg (Item.ADCI.SCAN_MODE 1) 1
  s.setSlow 1 { s.slow 1 with window := w }
def compared : State := ((writing .drive (Item.PWM.HOST_CMP 0 17) 64).setSheaf 0 { standby.sheaf 0 with state := .run }).setReg (Item.PWM.CMP_SRC 0) 1
theorem witness_WritesReachThePowerSide :
    fitB (writing .standby Item.DEV.DIR_PERMIT 2) Item.DEV.DIR_PERMIT 2 = true
      ∧ fitB (scanning none) (Item.ADCI.URG_REQ 1) 29 = true ∧ ((scanning none).slow 1).window = none
      ∧ (scanning none).regN (Item.ADCI.SCAN_MODE 1) ≠ 0 ∧ fitB (scanning (some 5)) (Item.ADCI.URG_REQ 1) 29 = true
      ∧ ((scanning (some 5)).slow 1).window = some 5 ∧ (scanning (some 5)).time.now ≤ 5 + (scanning (some 5)).fixWindow 1
      ∧ ((scanning none).slow 1).ended ≠ some (scanning none).time.now ∧ ((scanning (some 5)).slow 1).ended = none := by decide
/-- The window that ended on this edge. -/
def justEnded : State := (scanning none).setSlow 1 { (scanning none).slow 1 with ended := some (scanning none).time.now }
theorem witness_RequestsAtAWindowsEnd : fitB justEnded (Item.ADCI.URG_REQ 1) 29 = true ∧ (justEnded.slow 1).window = none
      ∧ (justEnded.slow 1).ended = some justEnded.time.now := by decide
theorem witness_LanesCloseAndOpen :
    fitB (lane5 1) (Item.LOOP.CLOSE 5) 1 = true
      ∧ fitB ((lane5 0).setLane 5 { (lane5 0).lane 5 with restRun := 8 }) (Item.LOOP.CLOSE 5) 0 = true
      ∧ (lane5 0).checkItem 0 (nw (Item.LOOP.CLOSE 5)) 0 = none ∧ (lane5 0).laneAtRest 5 = false
      ∧ (lane5 0).crossOk [(nw (Item.LOOP.CLOSE 5), 0)] (nw (Item.LOOP.CLOSE 5)) = true
      ∧ (lane5 0).blockRunning ((lane5 0).blockOf (Item.LOOP.CLOSE 5)) = true := by decide
theorem witness_TriggersComparesAndShoots :
    fitB (sequenced 15 7) (Item.ADCF.SW_TRIG 15) 7 = true ∧ (sequenced 15 7).seqCount 15 7 ≠ 0 ∧ ((sequenced 15 7).fast 15).run = none
      ∧ ((sequenced 15 7).fast 15).background = none ∧ ((sequenced 15 7).fast 15).queue = []
      ∧ (sequenced 15 7).events = []
      ∧ fitB compared (Item.PWM.HOST_CMP 0 17) 64 = true ∧ (compared.sheaf 0).state = .run
      ∧ fitB (writing .standby (Item.LEG.SHOOT 47) 0) (Item.LEG.SHOOT 47) 0 = true := by decide
def recovering : State := (writing .standby (Item.CAN.BO_RECOVER 3) 1).setReg (Item.CAN.STATE 3) 4
def journalled : State :=
  let s := writing .standby Item.FLT.JRN_SEL 0
  { s with store := { s.store with journal := [{ unit := 1, record := { time := 2 * 2 ^ 32 + 3, source := 4, context := 5 } }] } }
def logged : State :=
  let s := writing .standby Item.SVC.LOG_SEL 0
  { s with store := { s.store with log := [(2 * 2 ^ 32 + 3, 4, 5)] } }
def withFirmware (l : List Nat) (a : Nat) : State :=
  let s := writing .standby a 1
  { s with store := { s.store with fwState := l, fwRun := 0 } }
def trialled : State := withFirmware [4, 2] Item.SVC.FW_CONFIRM
def spared : State := withFirmware [2, 1] Item.SVC.FW_SELECT
theorem witness_WritesOpenWindowsAndChooseFirmware :
    fitB recovering (Item.CAN.BO_RECOVER 3) 1 = true ∧ fitB (writing .standby (Item.CAN.IDCLASH 3) 0) (Item.CAN.IDCLASH 3) 0 = true
      ∧ fitB (writing .standby (Item.CAN.OBJ_SEL 3) 0xFF) (Item.CAN.OBJ_SEL 3) 0xFF = true := by decide
theorem witness_WindowsAndFirmware :
    fitB journalled Item.FLT.JRN_SEL 0 = true ∧ (journalled.store.journal[0]?).isSome = true ∧ fitB logged Item.SVC.LOG_SEL 0 = true
      ∧ (logged.store.log[0]?).isSome = true ∧ fitB trialled Item.SVC.FW_CONFIRM 1 = true ∧ fitB spared Item.SVC.FW_SELECT 1 = true
      ∧ spared.spareSlot = some 1 := by decide

/-! ## CAN FD -/

def rxObj : CanObj := { CanObj.init with cfg := 0x80000040, ident := 0x123, mask := 0x7FF }
def txObj : CanObj :=
  { CanObj.init with cfg := 0xC0000010, ident := 0x55, items := [nw Item.DEV.STATE, nw Item.DEV.GATE_PWR_WARN], period := 10 }
def frame (ident : Nat) (data : List Byte) : CanFrame :=
  { ident := ident, ide := false, fdf := true, brs := true, rtr := false, esi := false, data := data }
/-- Controller 3 in one of its states, with a receive object 40, transmit objects 50 and 127, the mapping of slot 7. -/
def bus (st : Nat) (f : Can → Can) : State :=
  let s := standby.setRegs [(Item.CAN.STATE 3, nw st), (Item.HOST.PORTS 7, 0x40), (Item.HOST.IDENT 7, 0x01020304), (Item.CAN.ARD 3 1, 0x01F40000),
    (Item.CAN.ARD_EN 3, 1), (Item.CAN.MAP_BASE 3, 0x100), (Item.IMG.BOOT_SLOT, 0), (Item.HOST.RIGHTS 7, 0x1FFF)]
  s.setCan 3 (f ((((Can.init.setObject 40 rxObj).setObject 50 { txObj with pending := true }).setObject 127 { txObj with ident := 0x44 }).setObject 30
    { rxObj with ident := 0x11E, mask := 0x7FF }))
/-- The controller while it runs classic frames only. -/
def classicBus : State := (bus 2 id).setReg (Item.CAN.DBT 3) 0
def seen123 : CanFrame := frame 0x123 [1, 2, 3, 4]
theorem witness_ControllersReceiveAndSendFrames :
    (bus 2 id).regN (Item.CAN.STATE 3) = 2 ∧ (bus 2 id).canForeign 3 seen123 = false ∧ classicBus.canForeign 3 seen123 = true
      ∧ classicBus.regN (Item.CAN.STATE 3) = 2 ∧ ((bus 2 id).can 3).match seen123 = some 40
      ∧ ((bus 2 id).can 3).match (frame 0x777 []) = none ∧ (((bus 2 id).can 3).object 40).poisoned = false
      ∧ (bus 3 id).regN (Item.CAN.STATE 3) = 3 ∧ ((bus 3 id).can 3).requests 1 ≠ []
      ∧ ((bus 3 (fun c => { c with chosen := some 50 })).can 3).chosen = some 50
      ∧ (((bus 3 id).can 3).object 50).pending = true ∧ (bus 3 id).forceArmed (unitOf Kind.can 3) 2 = false
      ∧ bitOf (((bus 3 id).can 3).object 127).cfg 31 = true ∧ bitOf (((bus 3 id).can 3).object 127).cfg 30 = true
      ∧ (((bus 3 id).can 3).object 127).period ≠ 0 := by decide

def beatFrame : CanFrame := frame 0x11E [1, 2, 3, 4, 0, 0]
def slotOn (st : Nat) : State := let s := bus st id; s.setSlot 7 { s.slot 7 with status := .attached, port := 6, credits := 100 }
/-- TIME_QUERY of slot 7, tag 5, freshness 9, with its CMAC under the slot's session key, and one of a wrong length. -/
def compact (bad : Bool) : CanFrame := frame 0x11C ([0x10, 5, 2, if bad then 49 else 0, 0, 9, 0, 0] ++ beBytes 8 6235223675765185988)
theorem witness_ControllersCountErrorsAndKeepHeartbeats :
    (bus 1 id).regN (Item.CAN.STATE 3) = 1 ∧ (bus 1 id).canForeign 3 { seen123 with fdf := false, brs := false } = false ∧ (bus 1 id).ardNominal 3 (((bus 1 id).can 3).entry + 1) ≠ 0
      ∧ (bus 2 id).regN (Item.CAN.ARD_EN 3) = 1 ∧ ((bus 3 id).can 3).tec + 8 ≤ 127 ∧ ((bus 3 id).can 3).rec' + 8 ≤ 127
      ∧ 255 < ((bus 3 (fun c => { c with tec := 256 })).can 3).tec ∧ quiet (bus 3 (fun c => { c with tec := 256 })) (unitOf Kind.can 3) = true
      ∧ (bus 5 id).regN (Item.CAN.STATE 3) = 5 ∧ quiet (bus 3 id) (unitOf Kind.can 3) = true
      ∧ (bus 3 id).regN (Item.CAN.DOM_MAX 3) ≤ 100000 ∧ 0 < (bus 3 id).regN (Item.CAN.DOM_MAX 3) ∧ (bus 3 id).forced (unitOf Kind.can 3) 3 = false
      ∧ 7 ∈ (bus 3 id).canSlots 3 ∧ ((bus 3 id).can 3).match beatFrame = some (4 * 7 + 2) ∧ (((bus 3 id).can 3).object 30).poisoned = false
      ∧ (bus 3 id).canForeign 3 beatFrame = false ∧ quiet (slotOn 3) (unitOf Kind.can 3) = true
      ∧ (bus 3 id).reg (Item.HOST.IDENT 7) = nw (beAt beatFrame.data 0 4) ∧ ((slotOn 3).slot 7).status = .attached ∧ ((slotOn 3).slot 7).port = 3 + 3
      ∧ 7 ∈ (slotOn 3).canSlots 3 ∧ (slotOn 3).canForeign 3 (compact false) = false
      ∧ compactBad (compact false) = false ∧ compactBad (compact true) = true
      ∧ nw (compact false).ident = nw (bitsOf ((slotOn 3).reg (Item.CAN.MAP_BASE 3)) 28 0 + 4 * 7)
      ∧ (compact false).ide = bitOf ((slotOn 3).reg (Item.CAN.MAP_BASE 3)) 31
      ∧ ((slotOn 3).can 3).match (compact false) = none := by decide
set_option maxRecDepth 100000 in
theorem witness_CompactMessageTaken : (slotOn 3).MayTake 6 ((slotOn 3).expand 7 (compact false).data) where
  attached := by decide
  port := by decide
  short := by decide
  length := by decide
  free := by decide
  credits := by decide
  mac := by decide +kernel
  fresh := by decide
  allowed := by decide
theorem calm_bus : (bus 1 id).Calm ∧ (bus 2 id).Calm ∧ (bus 3 id).Calm ∧ (slotOn 3).Calm ∧ classicBus.Calm :=
  ⟨calm_of (by decide), calm_of (by decide), calm_of (by decide), calm_of (by decide), calm_of (by decide)⟩

/-! ## Hosts -/

def hostMsg (kind o tag fresh : Nat) (payload : List Byte) : HostMsg :=
  { kind := BitVec.ofNat 8 kind, flags := 0, tag := BitVec.ofNat 16 tag, opcode := BitVec.ofNat 16 o, length := BitVec.ofNat 16 payload.length,
    fresh := nw fresh, unit := 0, timeout := 0, atTime := 0, payload := payload, mac := 0 }
/-- A message with its CMAC under a key. -/
def signed (key : BitVec 128) (m : HostMsg) : HostMsg := { m with mac := Crypto.mac key (hostHeader m ++ m.payload) }
theorem authentic_signed (key : BitVec 128) (m : HostMsg) : authentic (signed key m) key = true := by
  simp [authentic, signed, hostHeader]
/-- Ports up; slots 3 and 7 serve E1, SPI and C3; slot 7 in a status of its own. -/
def hosts (port : Nat) (st : SlotStatus) : State :=
  let s := standby.setRegs ([(Item.ETH.LINK 1, 1), (Item.ETH.LINK 2, 1), (Item.IMG.BOOT_SLOT, 0), (Item.HOST.PORTS 3, 0), (Item.HOST.PORTS 7, 0xC6),
    (Item.HOST.RIGHTS 7, 0x1FFF), (Item.HOST.IDENT 7, 0x01020304), (Item.SVC.SD_EN, 1), (Item.ETH.ENABLE 1, 1)]
    ++ [0, 1, 2, 4, 5, 6].map (fun k => (Item.HOST.PORTS k, 0)))
  s.setSlot 7 { s.slot 7 with status := st, port := port, ident := 0x01020304, claims := 0x21, credits := 50, owed := 3, lastHeard := 9, heldAt := 11 }
def attachMsg (o : Byte) : HostMsg := hostMsg 0x10 Op.hostAttach 0 77 ([o, 0, 0, 0, 1, 2, 3, 4] ++ List.replicate 20 0)
/-- The same, authentic under the root key of slot 7. -/
def trueAttach (o : Byte) : HostMsg := signed ((hosts 1 .free).rootKey 7) (attachMsg o)
def serviced : State :=
  let s := hosts 1 .free
  { s.setSlot 2 { s.slot 2 with claims := 7, svcClaims := 3 } with dev := { s.dev with state := .service, serviceHost := some 7 } }
/-- An attachment with counter 0. -/
def spentAttach : HostMsg := signed ((hosts 1 .free).rootKey 7) { attachMsg 1 with fresh := 0 }
theorem witness_SlotsAreAttachedHeldAndFreed :
    (hosts 1 .free).portOpen 1 = true ∧ (hosts 1 .free).portOpen 7 = true ∧ (attachMsg 1).length.toNat = 28 ∧ (attachMsg 1).payload.length = 28
      ∧ beAt (attachMsg 1).payload 0 1 = 1 ∧ (hosts 1 .free).chooseSlot 1 0x01020304 none = some 7
      ∧ (hosts 1 .held).chooseSlot 7 0x01020304 none = some 7 ∧ (hosts 1 .free).attachCount 7 < (attachMsg 1).fresh.toNat
      ∧ beAt (attachMsg 2).payload 0 1 = 2 ∧ ((hosts 1 .attached).slot 7).status = .attached
      ∧ ((hosts 1 .attached).slot 7).ident = nw (beAt (attachMsg 2).payload 4 4) ∧ ((hosts 1 .attached).slot 7).port = 1
      ∧ (∀ k < 7, ((hosts 1 .attached).slot k).status = .free) ∧ standby.dev.fwRunning = true ∧ (hosts 1 .free).regN (Item.ETH.ENABLE 1) = 1
      ∧ ((hosts 1 .held).slot 7).status = .held ∧ (hosts 1 .held).hasClaim 7 0 = true ∧ (∀ j < 7, (hosts 1 .held).hasClaim j 0 = false)
      ∧ (hosts 1 .held).stype 0 = SType.trc := by decide
/-- Both take the message through the root key of slot 7 as it stands. -/
theorem witness_AttachmentsAreAuthentic (o : Byte) (st : SlotStatus) :
    authentic (trueAttach o) ((hosts 1 st).rootKey 7) = true ∧ (trueAttach o).payload = (attachMsg o).payload
      ∧ (trueAttach o).length = (attachMsg o).length ∧ (trueAttach o).fresh = (attachMsg o).fresh :=
  ⟨(by rfl : (hosts 1 st).rootKey 7 = (hosts 1 .free).rootKey 7) ▸ authentic_signed _ _, rfl, rfl, rfl⟩
/-- An attachment with one bit of its CMAC wrong. -/
def forgedAttach : HostMsg := { trueAttach 1 with mac := (trueAttach 1).mac + 1 }
theorem not_authentic_forged (key : BitVec 128) (m : HostMsg) :
    authentic { signed key m with mac := (signed key m).mac + 1 } key = false := by
  simp [authentic, signed, hostHeader]
theorem forged_not_authentic : authentic forgedAttach ((hosts 1 .free).rootKey 7) = false := not_authentic_forged _ _
/-- An attachment that is not authentic, one that no slot serves, one whose counter is not above the stored one. -/
theorem witness_AttachmentsRefused :
    authentic forgedAttach ((hosts 1 .free).rootKey 7) = false ∧ forgedAttach.payload = (attachMsg 1).payload
      ∧ (hosts 1 .free).chooseSlot 1 0x01020304 none = some 7
      ∧ (hosts 1 .attached).chooseSlot 1 0x01020304 none = none ∧ (hosts 1 .attached).portOpen 1 = true
      ∧ spentAttach.fresh.toNat ≤ (hosts 1 .free).attachCount 7 :=
  ⟨forged_not_authentic, rfl, by decide, by decide, by decide, by decide⟩
theorem witness_ServiceHostGone :
    serviced.dev.serviceHost = some 7 ∧ serviced.dev.state = .service ∧ (serviced.slot 7).status = .free ∧ serviced.dev.exiting = none
      ∧ (∀ n < 12, (serviced.sheaf n).state = .off) ∧ serviced.live = true ∧ serviced.waits = [] ∧ serviced.swaps = [] := by decide
theorem calm_hosts : (hosts 1 .held).Calm ∧ serviced.Calm := ⟨calm_of (by decide), calm_of (by decide)⟩

def queryMsg (kind tag : Nat) : HostMsg := hostMsg kind Op.timeQuery tag 5 []
def collectMsg : HostMsg := hostMsg 0x13 0 (7 * 64) 5 ([0, 0, 0, 0, 0, 0, 0, 8])
def finished : CmdRec := { asked (msg Op.timeQuery 0 []) with state := .done, code := 1, reason := 2, result := [3] }
def answered (port : Nat) : State := ((hosts port .attached).setCmd 7 3 (some finished)).setCmd 7 4 (some (asked (msg Op.timeQuery 0 [])))
def streaming : State :=
  { hosts 1 .attached with
    streams := [{ slot := 7, number := 63, port := 1, decimation := 2, sources := [0], load := 10, seq := 65535, skipped := 0, rows := [[0x1234]],
                  first := 0, last := 0 }] }
def signedQuery (port : Nat) : HostMsg := signed ((hosts port .attached).slot 7).key (queryMsg 0x10 (7 * 64 + 63))
theorem mayTake_query (port : Nat) (h : port = 1 ∨ port = 7) : (hosts port .attached).MayTake port (signedQuery port) := by
  rcases h with rfl | rfl <;> exact ⟨by decide, by decide, by decide, by decide, by decide, by decide, authentic_signed _ _, by decide, by decide⟩
theorem witness_CollectIsAuthentic :
    authentic (signed ((answered 1).slot 7).key collectMsg) ((answered 1).slot 7).key = true
      ∧ (signed ((answered 1).slot 7).key collectMsg).payload = collectMsg.payload := ⟨authentic_signed _ _, rfl⟩
theorem witness_MailboxesTakeCollectAndReturn :
    (hosts 1 .attached).portOpen 2 = true ∧ (signedQuery 1).kind = 0x10 ∧ collectMsg.kind = 0x13 ∧ collectMsg.tag.toNat / 64 % 8 = 7
      ∧ collectMsg.length.toNat = 8 ∧ creditCost 8 ≤ ((answered 1).slot 7).credits ∧ ((answered 1).slot 7).freshIn < collectMsg.fresh.toNat
      ∧ (answered 1).cmd 7 3 = some finished ∧ (beAt collectMsg.payload 0 8).testBit 3 = true ∧ isCanPort ((answered 1).slot 7).port = false
      ∧ (storing (queryMsg 0x10 0)).commit.claim.isSome = true
      ∧ streaming.streams.find? (fun y => decide (y.slot = 7) && decide (y.number = 63)) = streaming.streams.head?
      ∧ (streaming.slot 7).status = .attached := by decide

def discovered : State := { hosts 1 .free with net := { standby.net with replies := [(900, 5), (700, 6)] } }
def waitingSpi : State :=
  { hosts 7 .attached with
    tx := [{ slot := 7, port := 7, kind := 0x12, code := 0, index := 0, opcode := 0, reason := 0, fresh := 1, credits := 3, time := 0, payload := [1, 2], mac := 0 }] }
theorem witness_ServicePortsAnswer :
    (hosts 1 .free).portOpen 2 = true ∧ (hosts 1 .free).regN Item.SVC.SD_EN ≠ 0 ∧ (hosts 1 .free).mayAnswer = true
      ∧ (hosts 1 .free).net.quiet = [] ∧ earliest discovered.net.replies = some (700, 6) ∧ (hosts 7 .attached).portOpen 7 = true
      ∧ bitOf ((hosts 7 .attached).reg (Item.HOST.PORTS 7)) 7 = true ∧ (∀ k < 7, bitOf ((hosts 7 .attached).reg (Item.HOST.PORTS k)) 7 = false)
      ∧ waitingSpi.spiWaiting.isSome = true ∧ (hosts 1 .free).spiWaiting = none := by decide

def synchronised (st : Nat) : State := standby.setRegs [(Item.TIME.PTP_PORT, 1), (Item.TIME.SYNC_STATE, nw st)]
theorem witness_TimeIsSynchronisedAndHeldOver :
    (synchronised 2).Calm ∧ (synchronised 2).regN Item.TIME.PTP_PORT ≠ 0 ∧ (synchronised 2).regN Item.TIME.SYNC_STATE = 2
      ∧ 0 < (synchronised 2).regN Item.TIME.LOCK_NS := ⟨calm_of (by decide), by decide⟩

/-! ## The whole machine -/

theorem witness_LockedLastsUntilSupplyOrReset :
    (at' .locked).live = true ∧ (at' .locked).dev.state = .locked ∧ ∃ t, exec .timeRealign (at' .locked) = .next t := ⟨rfl, rfl, _, rfl⟩
theorem witness_TimeGoesOnAndUnsuppliedRests : ∃ t, exec .timeRealign unsupplied = .next t ∧ unsupplied.live = false := ⟨_, rfl, rfl⟩
theorem witness_NoStepLowersAFloorOrMarksThePart : (∃ t, step { standby with pending := [.timeRealign, .handover] } = .next t)
    ∧ standby.dev.partAD0 = false := ⟨⟨_, rfl⟩, rfl⟩
theorem witness_CommitsKeepTheStoresCanonical :
    KMap.wf (fun _ => (0 : Byte)) (storing (chunkMsg 0 126 0 [1, 2, 3])).store.bytes = true
      ∧ KMap.wf (fun _ => (0 : Byte)) (storing (chunkMsg 0 126 0 [1, 2, 3])).store.fwBytes = true
      ∧ ∃ t, exec (.nvCommitChunk 0 63) (storing (chunkMsg 0 126 0 [1, 2, 3])) = .next t := ⟨by decide, by decide, _, rfl⟩

/-! ## Ill-formed commands are refused -/

theorem test_wf_message : (Sys2Proof.Instr.hostAttach 0 { attachMsg 1 with payload := List.replicate 65536 0 }).wf = false := by
  simp only [Instr.wf, HostMsg.wf, List.length_replicate, Nat.lt_irrefl, decide_false]
theorem test_wf_frame_ident : (Sys2Proof.Instr.canFrameReceived 0 (frame 0x800 []) 0).wf = false := by decide
theorem test_wf_frame_length : (Sys2Proof.Instr.canFrameReceived 0 (frame 1 (List.replicate 9 0)) 0).wf = false := by decide
theorem test_wf_frame_classic :
    (Sys2Proof.Instr.canFrameReceived 0 { frame 1 (List.replicate 12 0) with fdf := false, brs := false } 0).wf = false := by decide
theorem test_wf_frame_remote : (Sys2Proof.Instr.canFrameReceived 0 { frame 1 [] with rtr := true } 0).wf = false := by decide
theorem test_wf_legs_once :
    (Sys2Proof.Instr.sheafStart 0 0 [{ leg := 3, link := 0, mid := 0 }, { leg := 3, link := 0, mid := 1 }]).wf = false := by decide
theorem test_wf_leg_exists : (Sys2Proof.Instr.chargerUpdate [{ leg := 48, link := 0, mid := 0 }]).wf = false := by decide
theorem test_wf_island : (Sys2Proof.Instr.islandClockLoss (.leg 48) 0 0).wf = false := by decide
theorem test_wf_memory : (Sys2Proof.Instr.memoryScrub (.leg 48) { address := 0, parity := true, wrong := 0 }).wf = false := by decide
theorem test_wf_unit : (Sys2Proof.Instr.restEnd 0x0E000000 true freePresence).wf = false := by decide
theorem test_wf_window : (Sys2Proof.Instr.windowEnd 0 { means with means := [(3, 0), (3, 1)] }).wf = false := by decide
theorem test_wf_dies : (Sys2Proof.Instr.tempEstimate [0, 0, 0, 0] 24000 24000).wf = false := by decide
theorem test_wf_finding :
    (Sys2Proof.Instr.selftest 0 0 { finding pulseOk with offs := [(48, offCheck)] }).wf = false := by decide
theorem test_wf_good : (Sys2Proof.Instr.hostAttach 0 (attachMsg 1)).wf = true ∧ (Sys2Proof.Instr.canFrameReceived 0 beatFrame 0).wf = true := by decide

/-! ## Values of the spec -/

/-- No row of the table has bits. -/
theorem test_no_word_spells_a_command : decodeTableWord 32 0 = none ∧ State.reset.withFetchWord 32 0 = State.reset := ⟨rfl, rfl⟩
set_option maxRecDepth 100000 in
/-- The check value of the CRC-32 of R157: "123456789" gives 0xCBF43926. -/
theorem test_crc32 : crc32 [0x31, 0x32, 0x33, 0x34, 0x35, 0x36, 0x37, 0x38, 0x39] = 0xCBF43926 := by decide
/-- R437: a unit word is a kind and a number. -/
theorem test_unit_word : unitOf Kind.lane 31 = 0x0900001F := by decide
/-- R9 and chapter Parameter Space: HOST[5].CREDIT_INIT lies at 0x02_1405, item 0x012 of LEG 7 at 0x09_1C12. -/
theorem test_addresses : Item.HOST.CREDIT_INIT 5 = 0x021405 ∧ Item.addr 0x09 7 0x012 = 0x091C12 := by decide
/-- Chapter Charger, worked example: 53.3 % duty gives 32.0 A (D × 0.6 A, to the nearest 0.1 A), 2.00 V at PPS gives 32 A; Table 12-3. -/
theorem test_pilot_and_plug : pilotCurrent 533 = 320 ∧ plugCode 2000 = 32 ∧ pilotCurrent 850 = 510 ∧ pilotCurrent 900 = 650
    ∧ pilotCurrent 970 = 800 ∧ pilotCurrent 971 = 0 ∧ pilotCurrent 80 = 60 ∧ pilotCurrent 29 = 0 := by decide
/-- A step on an empty queue leaves the block as it is (assumption log 1). -/
theorem test_idle : step State.reset = .next State.reset := rfl
def rfcKey : List Byte := Crypto.number 16 0x2b7e151628aed2a6abf7158809cf4f3c
/-- AES-CMAC as RFC 4493 works it out (examples 1 and 2), SHA-256 of "abc" as FIPS 180 does: the algorithms that R66 and R104 to R106 name. -/
theorem test_crypto :
    Crypto.value (Crypto.cmac rfcKey []) = 0xbb1d6929e95937287fa37d129b756746
      ∧ Crypto.value (Crypto.cmac rfcKey (Crypto.number 16 0x6bc1bee22e409f96e93d7e117393172a)) = 0x070a16b46b4d4144f79bdd9dd04a287c
      ∧ Crypto.value (Crypto.sha256 [0x61, 0x62, 0x63]) = 0xba7816bf8f01cfea414140de5dae2223b00361a396177a9cb410ff61f20015ad := by
  decide +kernel

end Sys2Proof.Tests
end

namespace Sys2Proof.Machine

/-! ## The frame of every command -/

/-- The rows of the supply and reset contacts, of WAKE and of the SHIP level: the only ones with an effect on a device that is not live. -/
inductive ContactRow : Instr → Prop where
  | vsupStart : ContactRow .vsupStart
  | supplyLoss : ContactRow .supplyLoss
  | nporReset : ContactRow .nporReset
  | nporRelease : ContactRow .nporRelease
  | wake (elapsed ms : Nat) : ContactRow (.wake elapsed ms)
  | shipLevelChange (low : Bool) (ms : Nat) : ContactRow (.shipLevelChange low ms)

/-- R4: debug halt is unavailable on a part that is no TH9648-AD0. -/
theorem execDebugHalt_of_not_partAD0 (s : State) (h : s.dev.partAD0 = false) : execDebugHalt s = .next s := by
  simp [execDebugHalt, h]

theorem execDebugHalt_of_partAD0 (s : State) (h : s.dev.partAD0 = true) : ∃ f, execDebugHalt s = .next (s.act f) :=
  ⟨_, if_pos h⟩

/-- Every command answers a next state through one of the two frames; the one exception is the debug halt of a part without it. -/
theorem exec_frames (c : Instr) (s : State) :
    (∃ f, exec c s = .next (s.act f)) ∨ (ContactRow c ∧ ∃ f, exec c s = .next (s.always f))
      ∨ (c = .debugHalt ∧ s.dev.partAD0 = false ∧ exec c s = .next s) := by
  cases c with
  | vsupStart => exact .inr (.inl ⟨.vsupStart, _, rfl⟩)
  | supplyLoss => exact .inr (.inl ⟨.supplyLoss, _, rfl⟩)
  | nporReset => exact .inr (.inl ⟨.nporReset, _, rfl⟩)
  | nporRelease => exact .inr (.inl ⟨.nporRelease, _, rfl⟩)
  | wake elapsed ms => exact .inr (.inl ⟨.wake elapsed ms, _, rfl⟩)
  | shipLevelChange low ms => exact .inr (.inl ⟨.shipLevelChange low ms, _, rfl⟩)
  | debugHalt =>
    by_cases h : s.dev.partAD0 = true
    · exact .inl (execDebugHalt_of_partAD0 s h)
    · have hpart : s.dev.partAD0 = false := Bool.eq_false_of_not_eq_true h
      exact .inr (.inr ⟨rfl, hpart, execDebugHalt_of_not_partAD0 s hpart⟩)
  | _ => exact .inl ⟨_, rfl⟩

/-- A command that answers a next state: the frame of a live device, that of the contacts, or no effect. -/
theorem exec_next_cases {c : Instr} {s t : State} (h : exec c s = .next t) :
    (∃ f, t = s.act f) ∨ (ContactRow c ∧ ∃ f, t = s.always f) ∨ t = s := by
  obtain ⟨f, hf⟩ | ⟨hc, f, hf⟩ | ⟨-, -, hs⟩ := exec_frames c s
  · exact .inl ⟨f, Host.Outcome.next.inj (h.symm.trans hf)⟩
  · exact .inr (.inl ⟨hc, f, Host.Outcome.next.inj (h.symm.trans hf)⟩)
  · exact .inr (.inr (Host.Outcome.next.inj (h.symm.trans hs)))

/-! ## What no command and no step undoes (R4, R69, R508) -/

theorem State.Kept.refl (s : State) : s.Kept s := ⟨rfl, le_refl _, le_refl _⟩

theorem exec_kept {c : Instr} {s t : State} (h : exec c s = .next t) : s.Kept t := by
  obtain ⟨f, rfl⟩ | ⟨-, f, rfl⟩ | rfl := exec_next_cases h
  · exact s.act_kept f
  · exact s.always_kept f
  · exact .refl _

theorem exec_pending {c : Instr} {s t : State} (h : exec c s = .next t) : t.pending = s.pending := by
  obtain ⟨f, rfl⟩ | ⟨-, f, rfl⟩ | rfl := exec_next_cases h
  · exact s.act_pending f
  · exact s.always_pending f
  · rfl

theorem step_of_pending_nil {s : State} (h : s.pending = []) : step s = .next s := by
  unfold step; rw [h]

theorem step_of_pending_cons {s : State} {c : Instr} {rest : List Instr} (h : s.pending = c :: rest) :
    step s = exec c { s with pending := rest } := by
  unfold step; rw [h]

/-- A step keeps what its command keeps, and takes that command off the queue (assumption log 1). -/
theorem step_kept_and_pending {s t : State} (h : step s = .next t) : s.Kept t ∧ t.pending = s.pending.tail := by
  cases hp : s.pending with
  | nil =>
    rw [step_of_pending_nil hp] at h
    cases h
    exact ⟨.refl s, hp⟩
  | cons c rest =>
    rw [step_of_pending_cons hp] at h
    exact ⟨exec_kept (s := { s with pending := rest }) h, exec_pending h⟩

/-- Settles O57: every command goes through a frame that keeps the part (R4), the floors (R69, R508) and the queue (assumption logs
10 and 17), and the debug halt looks at the part first. -/
theorem noStepLowersAFloorOrMarksThePart : Obligations.NoStepLowersAFloorOrMarksThePart := fun s =>
  ⟨fun _ h => step_kept_and_pending h, execDebugHalt_of_not_partAD0 s⟩

/-! ## The way out of LOCKED -/

theorem State.live_iff (s : State) :
    s.live = true ↔ s.dev.powered = true ∧ s.dev.nporLow = false ∧ s.dev.state ≠ .transport := by
  simp [State.live, and_assoc]

theorem State.always_devState (s : State) (f : State → State) : (s.always f).dev.state = (f s).dev.state := rfl

theorem State.inReset_devState (s : State) (powered nporLow : Bool) (cause now : Nat) :
    (s.inReset powered nporLow cause now).dev.state = .powerup := rfl

/-- On a live device the contacts move the device state by loss of supply and by nPOR alone (Table 2-6). -/
theorem contactRow_devState {c : Instr} {s t : State} (hc : ContactRow c) (hl : s.live = true) (h : exec c s = .next t)
    (hsupply : c ≠ .supplyLoss) (hnpor : c ≠ .nporReset) : t.dev.state = s.dev.state := by
  obtain ⟨hpow, hpor, hship⟩ := s.live_iff.mp hl
  cases hc with
  | supplyLoss => exact absurd rfl hsupply
  | nporReset => exact absurd rfl hnpor
  | vsupStart =>
    cases h
    rw [State.always_devState, if_pos hpow]
  | nporRelease =>
    cases h
    rw [State.always_devState, if_pos (by simp [hpor])]
  | wake elapsed ms =>
    cases h
    rw [State.always_devState]
    split
    · rfl
    · rw [if_neg (fun hw => hship hw.1)]
  | shipLevelChange low ms =>
    cases h
    rw [State.always_devState]
    extract_lets l
    split
    · rfl
    · split <;> rfl

/-- R14: every other command leaves a locked device locked. -/
theorem exec_keeps_locked {c : Instr} {s t : State} (hl : s.live = true) (hk : s.dev.state = .locked) (h : exec c s = .next t)
    (hsupply : c ≠ .supplyLoss) (hnpor : c ≠ .nporReset) : t.dev.state = .locked := by
  obtain ⟨f, rfl⟩ | ⟨hc, -⟩ | rfl := exec_next_cases h
  · exact s.act_locked f hk
  · exact (contactRow_devState hc hl h hsupply hnpor).trans hk
  · exact hk

/-- Loss of supply takes a supplied device into reset (R55). -/
theorem exec_supplyLoss_devState (s : State) (hpow : s.dev.powered = true) :
    ∃ t, exec .supplyLoss s = .next t ∧ t.dev.state = .powerup := by
  refine ⟨_, rfl, ?_⟩
  rw [State.always_devState, if_neg (by simp [hpow]), State.inReset_devState]

/-- nPOR held low takes a supplied device into reset (R54). -/
theorem exec_nporReset_devState (s : State) (hpow : s.dev.powered = true) (hpor : s.dev.nporLow = false) :
    ∃ t, exec .nporReset s = .next t ∧ t.dev.state = .powerup := by
  refine ⟨_, rfl, ?_⟩
  rw [State.always_devState, if_neg (by simp [hpor]), if_pos hpow, State.inReset_devState]

/-- Settles O58: the frame of a live device holds LOCKED, the contacts leave a live device's state alone, and the two resets end in the
state after reset. -/
theorem lockedLastsUntilSupplyOrReset : Obligations.LockedLastsUntilSupplyOrReset := by
  intro s hl hk
  obtain ⟨hpow, hpor, -⟩ := s.live_iff.mp hl
  refine ⟨fun t c h => exec_keeps_locked hl hk h, ?_, ?_⟩
  · obtain ⟨t, h, ht⟩ := exec_supplyLoss_devState s hpow
    exact ⟨t, h, by simp [ht]⟩
  · obtain ⟨t, h, ht⟩ := exec_nporReset_devState s hpow hpor
    exact ⟨t, h, by simp [ht]⟩

end Sys2Proof.Machine

namespace Sys2Proof.Machine

/-! ## Device time, rest without supply, and the two ways out of reset (R29, Table 2-6) -/

/-- R29: a command that is not a row of the contacts never sets device time back, and a device that is not live stays as it is. -/
theorem exec_now_le_and_rests {c : Instr} {s t : State} (hc : ¬ ContactRow c) (h : exec c s = .next t) :
    s.time.now ≤ t.time.now ∧ (s.live = false → t = s) := by
  obtain ⟨f, rfl⟩ | ⟨hrow, -⟩ | rfl := exec_next_cases h
  · exact ⟨s.act_now f, s.act_dead f⟩
  · exact absurd hrow hc
  · exact ⟨le_refl _, fun _ => rfl⟩

/-- Settles O59: the frame of a live device keeps device time from going back (R29) and gives a device at rest no effect (assumption
log 10); the rows named are the ones with the frame of the contacts. -/
theorem timeGoesOnAndUnsuppliedRests : Obligations.TimeGoesOnAndUnsuppliedRests := by
  intro s t c h hstart hloss hreset hrelease hwake hship
  refine exec_now_le_and_rests (fun hc => ?_) h
  cases hc with
  | vsupStart => exact hstart rfl
  | supplyLoss => exact hloss rfl
  | nporReset => exact hreset rfl
  | nporRelease => exact hrelease rfl
  | wake elapsed ms => exact hwake elapsed ms rfl
  | shipLevelChange low ms => exact hship low ms rfl

/-- Settles O55: by the definition of a step (assumption logs 1 and 17). -/
theorem stepRunsTheFrontCommand : Obligations.StepRunsTheFrontCommand := fun _ _ _ => step_of_pending_cons rfl

/-- Settles O56: every table of the state after reset is empty, so every block stands at its rest. -/
theorem resetLeavesEverythingOff : Obligations.ResetLeavesEverythingOff :=
  have hdark : State.reset.Dark := State.dark_of_empty _ rfl rfl rfl rfl
  ⟨rfl, rfl, rfl, hdark, rfl, fun _ => rfl, rfl, rfl, reset_stores_wf⟩

/-- Leaving reset with device time at 0 (Table 2-6): in POWERUP, dark, what lasts kept, and the cause in BOOT_CAUSE. -/
structure State.Starts (s t : State) (cause : Nat) : Prop where
  powered : t.dev.powered = true
  nporHigh : t.dev.nporLow = false
  powerup : t.dev.state = .powerup
  now : t.time.now = 0
  dark : t.Dark
  lasts : s.Lasts t
  bootCause : t.reg Item.DEV.BOOT_CAUSE = nw cause

/-- A contact row whose work is to leave reset at time 0 starts the device. -/
theorem State.always_leaveReset (s : State) {f : State → State} {cause : Nat} (hf : f s = s.leaveReset cause 0) :
    s.Starts (s.always f) cause := by
  obtain ⟨hstate, hpow, hpor, hnow, hdark, hlasts, hcause⟩ := s.leaveReset_spec cause 0
  unfold State.always
  rw [hf]
  generalize s.leaveReset cause 0 = u at *
  exact ⟨hpow, hpor, hstate, hnow, s.keep_dark u hdark, s.keep_lasts s u hlasts, hcause⟩

/-- VSUP rising through 8.6 V with nPOR high starts the device (Table 2-6). -/
theorem exec_vsupStart_starts (s : State) (hpow : s.dev.powered = false) (hpor : s.dev.nporLow = false) :
    ∃ t, exec .vsupStart s = .next t ∧ s.Starts t (if s.store.supplied then s.dev.cause else 0) :=
  ⟨_, rfl, s.always_leaveReset (by simp [hpow, hpor])⟩

/-- nPOR going high with VSUP present starts the device (Table 2-6). -/
theorem exec_nporRelease_starts (s : State) (hpow : s.dev.powered = true) (hpor : s.dev.nporLow = true) :
    ∃ t, exec .nporRelease s = .next t ∧ s.Starts t s.dev.cause :=
  ⟨_, rfl, s.always_leaveReset (by simp [hpow, hpor])⟩

/-- Settles O2: both rows leave reset at time 0, each with its cause (R54, R72; assumption log 24). -/
theorem startLeavesResetIntoPowerup : Obligations.StartLeavesResetIntoPowerup := by
  refine fun s => ⟨fun hpow hpor => ?_, fun hpow hpor => ?_⟩
  · obtain ⟨t, h, st⟩ := exec_vsupStart_starts s hpow hpor
    exact ⟨t, h, st.powered, st.powerup, st.now, st.dark, st.lasts, st.bootCause⟩
  · obtain ⟨t, h, st⟩ := exec_nporRelease_starts s hpow hpor
    exact ⟨t, h, st.nporHigh, st.powerup, st.now, st.dark, st.lasts, st.bootCause⟩

end Sys2Proof.Machine

namespace Sys2Proof.Machine

/-! ## Synchronised time and the parameters' comparison (R29 to R31, R131, R155 to R158) -/

/-- In a calm state a command whose work is known, and leaves the waiting values and the device's state alone, does just that work. -/
theorem State.Calm.next {s g : State} {f : State → State} {P : State → Prop} (hc : s.Calm) (hf : f s = g) (hw : g.waits = s.waits)
    (hs : g.swaps = s.swaps) (hd : g.dev.state = s.dev.state) (hP : P (s.keepLive g)) :
    ∃ t, (.next (s.act f) : Host.Outcome State Fault Refusal) = .next t ∧ P t :=
  ⟨_, rfl, by rw [s.act_to f g hf, hc.act g hw hs hd]; exact hP⟩

/-- Two items written one after the other read as written. -/
theorem State.reg_setRegs_pair (s : State) {a b : Nat} (v w : Word) (hab : a ≠ b) :
    (s.setRegs [(a, v), (b, w)]).reg a = v ∧ (s.setRegs [(a, v), (b, w)]).reg b = w :=
  ⟨((s.setReg a v).reg_setReg_other b w a hab).trans (s.reg_setReg_same a v), (s.setReg a v).reg_setReg_same b w⟩

/-- Settles O54: with a port for PTP a sync writes its two items over the new offset and run of good syncs, LOCKING also from LOCKED
(assumption log 75); holdover writes SYNC_STATE alone. -/
theorem timeIsSynchronisedAndHeldOver : Obligations.TimeIsSynchronisedAndHeldOver := by
  intro s hc
  refine ⟨fun residual offset rate hport => hc.next (if_neg hport) rfl rfl rfl ?_,
    fun hsync => hc.next (if_pos hsync) rfl rfl rfl ?_⟩
  · have hne : Item.TIME.SYNC_STATE ≠ Item.TIME.RATE_PPB := by decide
    exact ⟨rfl, rfl, rfl, (State.keepLive_reg' ..).trans (State.reg_setRegs_pair _ _ _ hne).1,
      (State.keepLive_reg' ..).trans (State.reg_setRegs_pair _ _ _ hne).2, max_self _⟩
  · exact ⟨(State.keepLive_reg' ..).trans (State.reg_setReg_same ..),
      (State.keepLive_reg' ..).trans (State.reg_setReg_other _ _ _ _ (by decide)), rfl, rfl⟩

end Sys2Proof.Machine

namespace Sys2Proof.Machine

/-! ## What a configurable item reads as does not hang on device time -/

/-- The items, as group and number, whose report runs with device time: what is lit or due now, ages, recoveries in their window. -/
def clockItems : List (Nat × Nat) :=
  [(0x08, 0x00B), (0x09, 0x004), (0x09, 0x061), (0x0C, 0x01A), (0x0D, 0x012), (0x0D, 0x03B), (0x0E, 0x052), (0x10, 0x064),
    (0x12, 0x049), (0x14, 0x05F), (0x15, 0x034), (0x15, 0x03B), (0x18, 0x021), (0x19, 0x00C), (0x19, 0x012), (0x1C, 0x033)]

/-- None of them is writable: no configurable row of the catalogue holds one. -/
theorem clockItems_not_configurable : ∀ p ∈ clockItems, ∀ d ∈ Catalogue.rows p.1, d.lo ≤ p.2 → p.2 ≤ d.hi → d.acc ≠ .rw := by
  decide

/-- Every row of the catalogue lies within the 1,024 items that a number can name. -/
theorem rows_hi_lt : ∀ g < 0x20, ∀ d ∈ Catalogue.rows g, d.hi < 0x400 := by decide

theorem instances_le : ∀ g < 0x20, Catalogue.instances g ≤ 64 := by decide

/-- An item's address names its group, the block and the number. -/
theorem Item.addr_fields {g n i : Nat} (hg : g < 0x20) (hn : n < 64) (hi : i < 0x400) :
    Item.group (Item.addr g n i) = g ∧ Item.inst (Item.addr g n i) = n ∧ Item.num (Item.addr g n i) = i := by
  unfold Item.group Item.inst Item.num Item.addr
  omega

/-- A configurable item lies in a row that may be read and written. -/
theorem row_of_configurable {a : Nat} (ha : a ∈ Catalogue.configurable) :
    ∃ d ∈ Catalogue.rows (Item.group a), d.acc = .rw ∧ d.lo ≤ Item.num a ∧ Item.num a ≤ d.hi := by
  simp only [Catalogue.configurable, List.mem_flatMap, List.mem_range] at ha
  obtain ⟨g, hg, n, hn, d, hd, hrow⟩ := ha
  split at hrow
  case isTrue hacc =>
    obtain ⟨k, hk, rfl⟩ := List.mem_map.mp hrow
    rw [List.mem_range] at hk
    have hhi := rows_hi_lt g hg d hd
    have hin := instances_le g hg
    obtain ⟨hgroup, -, hnum⟩ := Item.addr_fields hg (show n < 64 by omega) (show d.lo + k < 0x400 by omega)
    rw [hgroup, hnum]
    exact ⟨d, hd, hacc, by omega, by omega⟩
  case isFalse => simp at hrow

/-- No configurable item reports device time. -/
theorem configurable_not_clock {a : Nat} (ha : a ∈ Catalogue.configurable) : (Item.group a, Item.num a) ∉ clockItems := fun hclock => by
  obtain ⟨d, hd, hacc, hlo, hhi⟩ := row_of_configurable ha
  exact clockItems_not_configurable _ hclock d hd hlo hhi hacc

/-- Nothing but device time, the turns of periodic works and the marks of bad items differs. -/
def State.Later (s t : State) : Prop := t = { s with time := t.time, timers := t.timers, poison := t.poison }

section
variable {s t : State} (h : s.Later t) (n i : Nat)
include h

theorem State.Later.viewSheaf (hi : (0x08, i) ∉ clockItems) : t.viewSheaf n i = s.viewSheaf n i := by
  rw [h]; unfold State.viewSheaf
  split
  case h_4 => exact absurd (by decide) hi
  all_goals rfl

theorem State.Later.viewLeg (hi : (0x09, i) ∉ clockItems) : t.viewLeg n i = s.viewLeg n i := by
  rw [h]; unfold State.viewLeg
  split
  case h_4 | h_9 => exact absurd (by decide) hi
  all_goals rfl

theorem State.Later.viewPos (hi : (0x0E, i) ∉ clockItems) : t.viewPos n i = s.viewPos n i := by
  rw [h]; unfold State.viewPos
  split
  case h_8 => exact absurd (by decide) hi
  all_goals rfl

theorem State.Later.viewTrc (hi : (0x12, i) ∉ clockItems) : t.viewTrc i = s.viewTrc i := by
  rw [h]; unfold State.viewTrc
  split
  case h_3 => exact absurd (by decide) hi
  all_goals rfl

theorem State.Later.viewAux (hi : (0x14, i) ∉ clockItems) : t.viewAux i = s.viewAux i := by
  rw [h]; unfold State.viewAux
  split
  case h_4 => exact absurd (by decide) hi
  all_goals rfl

theorem State.Later.viewAct (hi : (0x15, i) ∉ clockItems) : t.viewAct n i = s.viewAct n i := by
  rw [h]; unfold State.viewAct
  split
  case h_6 | h_9 => exact absurd (by decide) hi
  all_goals rfl

theorem State.Later.viewSafe (hi : (0x18, i) ∉ clockItems) : t.viewSafe i = s.viewSafe i := by
  rw [h]; unfold State.viewSafe
  split
  case h_2 => exact absurd (by decide) hi
  all_goals rfl

theorem State.Later.viewOut (hi : (0x19, i) ∉ clockItems) : t.viewOut n i = s.viewOut n i := by
  rw [h]; unfold State.viewOut
  split
  case h_3 | h_6 => exact absurd (by decide) hi
  all_goals rfl

theorem State.Later.viewUnits (g : Nat) (hi : (g, i) ∉ clockItems) : t.viewUnits g n i = s.viewUnits g n i := by
  rw [h]; unfold State.viewUnits
  split
  case h_2 | h_4 | h_5 | h_9 | h_13 => exact absurd (by decide) hi
  all_goals rfl

end

/-- An item that does not report device time reads the same later. -/
theorem State.Later.item {s t : State} (h : s.Later t) {a : Nat} (ha : (Item.group a, Item.num a) ∉ clockItems) :
    t.item a = s.item a := by
  have hreg : t.reg a = s.reg a := by rw [h]; rfl
  unfold State.item
  rw [hreg]
  simp only
  split
  · rfl
  · congr 1
    split
    case h_4 hg => rw [hg] at ha; exact h.viewSheaf _ _ ha
    case h_5 hg => rw [hg] at ha; exact h.viewLeg _ _ ha
    case h_7 hg => rw [hg] at ha; exact h.viewPos _ _ ha
    case h_8 hg => rw [hg] at ha; exact h.viewTrc _ ha
    case h_10 hg => rw [hg] at ha; exact h.viewAux _ ha
    case h_11 hg => rw [hg] at ha; exact h.viewAct _ _ ha
    case h_12 hg => rw [hg] at ha; exact h.viewSafe _ ha
    case h_13 hg => rw [hg] at ha; exact h.viewOut _ _ ha
    case h_17 => exact h.viewUnits _ _ _ ha
    all_goals rw [h]; rfl

/-- The configuration that an island uses, and its CRC, are the same later. -/
theorem State.Later.islandItems {s t : State} (h : s.Later t) (u : Nat) : t.islandItems u = s.islandItems u := by
  rw [h]; rfl

theorem State.Later.islandCrc {s t : State} (h : s.Later t) (u : Nat) (held : List (Nat × Word)) :
    t.islandCrc (t.islandItems u) held = s.islandCrc (s.islandItems u) held := by
  unfold State.islandCrc
  rw [h.islandItems]
  refine congrArg crc32 (List.flatMap_congr fun a ha => ?_)
  rw [h.item (configurable_not_clock (List.mem_of_mem_filter ha))]

end Sys2Proof.Machine

namespace Sys2Proof.Machine

/-- Whether an item is one of a unit's island (R155). -/
def State.itemOf (s : State) (u a : Nat) : Bool := decide ((s.integrityUnit a).map Prod.fst = some u)

/-- The state at a unit's next comparison: its turn has come, and its own items and those of no island bear no mark any more. -/
def State.compared (s : State) (u : Nat) : State :=
  let t := s.every (Timer.compare u) 100000000
  { t with poison := t.poison.filter (fun a => !t.itemOf u a && (t.integrityUnit a).isSome) }

/-- The state with a unit's count of differing comparisons in a row. -/
def State.setMismatches (s : State) (u n : Nat) : State :=
  { s with integrity := KMap.put (fun _ => 0) s.integrity u n }

theorem State.compared_later (s : State) (u : Nat) : s.Later (s.compared u) := rfl

/-- What a comparison comes to (R155): it agrees, or it is the first mismatch, or the second in a row. -/
def State.compareWork (s : State) (u src : Nat) (held : List (Nat × Word)) : State :=
  if s.islandCrc (s.islandItems u) held = s.islandCrc (s.islandItems u) [] then (s.compared u).setMismatches u 0
  else if KMap.get (fun _ => 0) s.integrity u = 0 then (s.compared u).setMismatches u 1
  else (((s.compared u).setMismatches u 0).bump Item.DEV.PARAM_MISMATCH).raise u .F src

/-- Where nothing waits for a boundary, the comparison of a unit's island is that work. -/
theorem exec_paramCrcCompare {s : State} (hw : s.waits = []) {u src : Nat} (hsrc : integritySource u = some src)
    (hex : s.unitExists u = true) (held : List (Nat × Word)) :
    exec (.paramCrcCompare u held) s = .next (s.act (fun _ => s.compareWork u src held)) := by
  refine congrArg Host.Outcome.next (s.act_to _ _ ?_)
  have hl := s.compared_later u
  have hrun : (s.every (Timer.compare u) 100000000).waits = [] := hw
  rw [hsrc]
  refine (if_neg (by simp [hex])).trans ((if_neg (by simp [hrun])).trans ?_)
  unfold State.compareWork
  rw [← hl.islandCrc u held, ← hl.islandCrc u []]
  refine if_congr Iff.rfl rfl ?_
  by_cases hruns : KMap.get (fun _ => 0) s.integrity u = 0
  · rw [if_pos hruns]
    refine (if_pos (show KMap.get (fun _ => 0) s.integrity u + 1 < 2 by omega)).trans ?_
    show (s.compared u).setMismatches u (KMap.get (fun _ => 0) s.integrity u + 1) = _
    rw [hruns]
  · rw [if_neg hruns]
    exact if_neg (show ¬ KMap.get (fun _ => 0) s.integrity u + 1 < 2 by omega)

/-- The source of a parameter-integrity fault (R155) fits the source field of a record. -/
theorem integritySource_lt {u src : Nat} (hsrc : integritySource u = some src) : src < 256 := by
  unfold integritySource at hsrc
  split at hsrc <;> cases hsrc <;> decide

theorem State.sheafIndex_lt {s : State} {u : Nat} (hex : s.unitExists u = true) (hk : unitKind u = Kind.sheaf) : unitIndex u < 12 := by
  unfold State.unitExists at hex
  simp only [hk, Kind.sheaf, Bool.and_eq_true, decide_eq_true_eq] at hex
  exact hex.1

theorem State.Detects.poison {s t : State} (h : s.Detects t) : t.poison = s.poison := by unfold State.Detects at h; rw [h]

/-- R29, R30: the realignment takes device time on to its replica's next instant. -/
theorem exec_timeRealign {s : State} (hc : s.Calm) :
    ∃ t, exec .timeRealign s = .next t ∧ t.time.now = max s.time.now (s.time.replica + 1024) ∧ t.time.replica = t.time.now
      ∧ t.reg = s.reg ∧ t.unit = s.unit ∧ t.sheaf = s.sheaf :=
  hc.next rfl rfl rfl rfl ⟨max_eq_right (le_max_left ..), (max_eq_right (le_max_left ..)).symm, rfl, rfl, rfl⟩

/-- Two items set to values of the state before: they read so, and no unit's status changes. -/
theorem State.Calm.set_pair {s : State} (hc : s.Calm) {a b : Nat} (v w : State → Word) (hab : a ≠ b) :
    ∃ t, (.next (s.act (fun t => t.setRegs [(a, v t), (b, w t)])) : Host.Outcome State Fault Refusal) = .next t
      ∧ t.reg a = v s ∧ t.reg b = w s ∧ t.unit = s.unit :=
  have hread := s.reg_setRegs_pair (v s) (w s) hab
  hc.next rfl rfl rfl rfl ⟨hread.1, hread.2, rfl⟩

/-- R157, R158: the two CRC items are written with the CRCs of the two sets. -/
theorem exec_paramCrcUpdate {s : State} (hc : s.Calm) :
    ∃ t, exec .paramCrcUpdate s = .next t ∧ t.reg Item.DEV.PARAM_CRC_ACT = s.crcActive ∧ t.reg Item.DEV.PARAM_CRC_SHD = s.crcShadow
      ∧ t.unit = s.unit :=
  hc.set_pair State.crcActive State.crcShadow (by decide)

/-- A comparison without a fault: the count as given, no unit's status changed, the turn's time there. -/
theorem State.Calm.compare_counts {s : State} (hc : s.Calm) {u src n : Nat} {held : List (Nat × Word)}
    (hwork : s.compareWork u src held = (s.compared u).setMismatches u n) :
    ∃ t, (.next (s.act (fun _ => s.compareWork u src held)) : Host.Outcome State Fault Refusal) = .next t
      ∧ KMap.get (fun _ => 0) t.integrity u = n ∧ t.unit = s.unit ∧ s.lastDone (Timer.compare u) + 100000000 ≤ t.time.now :=
  hc.next hwork rfl rfl rfl ⟨KMap.get_put_same .., rfl, le_trans (le_max_right s.time.now _) (le_max_right s.time.now _)⟩

/-- The second mismatch in a row (R155): a class-F detection of the unit, and no item of its island marked bad any more. -/
theorem State.compare_fault {s : State} (hl : s.live = true) {u src : Nat} {held : List (Nat × Word)} (hsrc : integritySource u = some src)
    (hex : s.unitExists u = true) (hnote : s.Notices u src)
    (hwork : s.compareWork u src held = (((s.compared u).setMismatches u 0).bump Item.DEV.PARAM_MISMATCH).raise u .F src) :
    s.TakesUp (s.act fun _ => s.compareWork u src held) u .handling .F src
      ∧ ∀ a ∈ (s.act fun _ => s.compareWork u src held).poison, (s.integrityUnit a).map Prod.fst ≠ some u := by
  rw [hwork]
  obtain ⟨hidle, hrank⟩ := hnote
  have hu := State.sheafIndex_lt hex
  refine ⟨s.act_takesUp _ hl (s.detect_takesUp_of _ u src .F false rfl (.inl rfl) (.inl hidle) (integritySource_lt hsrc) hu (.inl rfl)
    (hrank _ (le_max_left s.time.now _))), fun a ha => ?_⟩
  rw [s.act_poison _ hl, (State.detects_detect _ u .F src false hu).poison] at ha
  have hkeep := (List.mem_filter.mp ha).2
  simp only [State.itemOf, Bool.and_eq_true, Bool.not_eq_true', decide_eq_false_iff_not] at hkeep
  exact hkeep.1

/-- Settles O33: time goes on to the replica; the two CRCs are written; a comparison is of items that report no device time, and
the second mismatch in a row is class F of the unit (assumption logs 48 and 126). -/
theorem theDeviceKeepsItsTimeAndParametersWhole : Obligations.TheDeviceKeepsItsTimeAndParametersWhole := by
  refine fun s hc => ⟨exec_timeRealign hc, exec_paramCrcUpdate hc, fun u src held hsrc hex => ?_⟩
  extract_lets agrees
  rw [exec_paramCrcCompare hc.waits hsrc hex]
  refine ⟨fun hagree => ?_, fun hdiff hruns => ?_, fun hdiff hruns hnote => ?_⟩
  · exact hc.compare_counts (if_pos hagree)
  · obtain ⟨t, h, hcount, hunit, -⟩ := hc.compare_counts ((if_neg hdiff).trans (if_pos hruns) : s.compareWork u src held = _)
    exact ⟨t, h, hcount, hunit⟩
  · have hsecond : ¬ KMap.get (fun _ => 0) s.integrity u = 0 := by omega
    exact ⟨_, rfl, State.compare_fault hc.live hsrc hex hnote ((if_neg hdiff).trans (if_neg hsecond))⟩

end Sys2Proof.Machine

namespace Sys2Proof.Machine

/-! ## SAFE causes (Tables 2-5 and 3-6, R27, R84, R405, R406, R409, R450, R532) -/

/-- The power side of a state stopped for a SAFE cause: every sheaf in SAFE but those that were OFF, the cause present. -/
def State.StopsFor (s t : State) (c : SafeCause) : Prop := s.AllSafe t .safe ∧ c ∈ t.dev.causes

/-- What stops a state stops any state with the same sheaves. -/
theorem State.StopsFor.of_sheaf {s u t : State} {c : SafeCause} (h : u.StopsFor t c) (hu : ∀ n, u.sheaf n = s.sheaf n) : s.StopsFor t c :=
  ⟨⟨h.1.1, fun n hn => by rw [h.1.2 n hn, hu]⟩, h.2⟩

/-- What follows and leaves the sheaves, the device's state and its causes alone leaves the stop as it is. -/
theorem State.StopsFor.trans {s t u : State} {c : SafeCause} (h : s.StopsFor t c) (hsheaf : ∀ n, u.sheaf n = t.sheaf n)
    (hstate : u.dev.state = t.dev.state) (hcauses : u.dev.causes = t.dev.causes) : s.StopsFor u c :=
  ⟨⟨hstate.trans h.1.1, fun n hn => by rw [hsheaf, h.1.2 n hn]⟩, by rw [hcauses]; exact h.2⟩

theorem State.stopsFor_safeDevice (s : State) (c : SafeCause) (h : s.dev.state.stops) : s.StopsFor (s.safeDevice c) c := by
  obtain ⟨hstate, hcause, hsheaf⟩ := s.safeDevice_spec c h
  exact ⟨⟨hstate, hsheaf⟩, hcause⟩

theorem State.stopsFor_demandBoth (s : State) (c : SafeCause) (h : s.dev.state.stops) : s.StopsFor (s.demandBoth c) c := by
  obtain ⟨hstate, hcause, hsheaf⟩ := s.demandBoth_spec c h
  exact ⟨⟨hstate, hsheaf⟩, hcause⟩

/-- A stop that a command's work makes stands after the command. -/
theorem State.stopsFor_act {s g : State} {c : SafeCause} (hl : s.live = true) (hk : s.dev.state ≠ .locked) (h : s.StopsFor g c) :
    s.StopsFor (s.act fun _ => g) c :=
  h.trans (s.act_sheaf _ hl) (s.act_devState _ hl hk) (s.act_causes _ hl)

theorem State.Enters.sup {s t : State} (h : s.Enters t) : t.sup = s.sup := by rw [h.1]

/-- A safe demand leaves the supervisor's own state alone. -/
theorem State.safeDevice_sup (s : State) (c : SafeCause) : (s.safeDevice c).sup = s.sup := by
  unfold State.safeDevice
  extract_lets d0 s1 s2 s3
  have h2 : s1.Fences s2 := State.fences_forEach _ State.fences_safeSheaf _ s1
  have h3 : s2.Fences s3 := (State.completes_endSequences ..).fences
  have h1 : s1.sup = s.sup := rfl
  split
  · rw [(State.fences_applyOffCauses _).sup, (s3.enters_enterState .safe).sup, h3.sup, h2.sup, h1]
  · exact h1

/-- A demand on both paths opens path B and changes nothing else of the supervisor's (R405). -/
theorem State.demandBoth_sup (s : State) (c : SafeCause) : (s.demandBoth c).sup = { s.sup with pathB := true } := by
  unfold State.demandBoth
  extract_lets p0 s1 s2
  have h2 : s1.Fences s2 := by
    unfold s2; split
    · exact State.fences_supplies ..
    · rfl
  rw [(State.fencesOnly_applySelection _).1.sup, State.safeDevice_sup]
  exact h2.sup

/-- A detection of the device stops no sheaf: its state, causes and sheaves stay. -/
theorem State.raise_device_sheaf (s : State) (cls : FaultClass) (src n : Nat) :
    (s.raise (unitOf Kind.device 0) cls src).sheaf n = s.sheaf n := by
  have h := s.notes_detect (unitOf Kind.device 0) cls src false (.inl (by decide))
  show (s.detect (unitOf Kind.device 0) cls src false).sheaf n = _
  rw [h]; rfl

theorem State.detects_raise_device (s : State) (cls : FaultClass) (src : Nat) : s.Detects (s.raise (unitOf Kind.device 0) cls src) :=
  s.detects_detect _ cls src false (by decide)

/-- The loss of a device island: the record, and the stop with its cause. -/
theorem State.stopsFor_lostIsland (s : State) (src : Nat) (c : SafeCause) (h : s.dev.state.stops) : s.StopsFor (s.lostIsland src c) c := by
  have hstate := (s.detects_raise_device .L src).devState
  exact (State.stopsFor_safeDevice _ c (by rw [hstate]; exact h)).of_sheaf (s.raise_device_sheaf .L src)

theorem State.lostIsland_halted (s : State) (src : Nat) (c : SafeCause) : (s.lostIsland src c).dev.halted = s.dev.halted := by
  obtain ⟨f, hdev⟩ := (s.detects_raise_device .L src).sameDev
  unfold State.lostIsland
  rw [State.safeDevice_halted, hdev]

/-- The detection of a lost device island is taken up (R450): class L, lasting, first in the journal. -/
theorem State.takesUp_lostIsland (s : State) (c : SafeCause) (h : s.Notices (unitOf Kind.device 0) 32) :
    s.TakesUp (s.lostIsland 32 c) (unitOf Kind.device 0) .lasting .L 32 := by
  have hup := s.detect_takesUp (unitOf Kind.device 0) 32 .L false (.inr rfl) (.inl h.1) (by decide) (by decide) (h.2 _ (le_refl _))
  rw [if_pos (by decide)] at hup
  obtain ⟨hshown, hjournal⟩ := (s.raise (unitOf Kind.device 0) .L 32).safeDevice_shown c
  exact hup.shown hshown hjournal


/-- The over-voltage of VSUP noted (Table 2-5): its value, the warning, the mark that it lasts. -/
def State.overVoltageNoted (s : State) (mv : Nat) : State :=
  let u := (s.setReg Item.DEV.VSUP_MV (nw (Nat.min mv 70000))).raise (unitOf Kind.device 0) .W 18
  { u with dev := { u.dev with vsupOver := true } }

theorem State.overVoltageNoted_state (s : State) (mv : Nat) : (s.overVoltageNoted mv).dev.state = s.dev.state :=
  ((s.setReg Item.DEV.VSUP_MV (nw (Nat.min mv 70000))).detects_raise_device .W 18).devState

theorem State.overVoltageNoted_sheaf (s : State) (mv n : Nat) : (s.overVoltageNoted mv).sheaf n = s.sheaf n :=
  (s.setReg Item.DEV.VSUP_MV (nw (Nat.min mv 70000))).raise_device_sheaf .W 18 n

/-- VSUP above 64 V (Table 2-5): the stop, and every output off. -/
theorem exec_vsupOverVoltage_stops {s : State} (hl : s.live = true) (hk : s.dev.state ≠ .locked) (hst : s.dev.state.stops) {mv : Nat}
    (hmv : 64000 < mv) :
    ∃ t, exec (.vsupOverVoltage mv) s = .next t ∧ s.StopsFor t .overVoltage ∧ ∀ n < 8, (t.out n).on = false := by
  have hstop : s.StopsFor ((s.overVoltageNoted mv).safeDevice .overVoltage) .overVoltage :=
    (State.stopsFor_safeDevice _ _ (by rw [s.overVoltageNoted_state mv]; exact hst)).of_sheaf (s.overVoltageNoted_sheaf mv)
  refine ⟨_, congrArg Host.Outcome.next (s.act_to _ (((s.overVoltageNoted mv).safeDevice .overVoltage).forEach (List.range 8) State.outOff)
    (if_pos hmv)), State.stopsFor_act hl hk ?_, fun n hn => ?_⟩
  · generalize (s.overVoltageNoted mv).safeDevice .overVoltage = u at hstop
    have hoff := u.fences_outsOff (List.range 8)
    exact hstop.trans (State.aside_forEach State.outOff State.aside_outOff (List.range 8) u).sheaf hoff.devState hoff.causes
  · rw [State.act_out _ _ hl, State.outsOff_out, if_pos (List.mem_range.mpr hn)]

/-- A level of an STO input that is low beyond its filter reads low (R406). -/
theorem State.stoLevel_low (s : State) (was : Bool) {ns : Nat} (bit : Nat) (hns : 300 + s.regN Item.SAFE.STO_TP_TOL * 1000 < ns) :
    s.stoLevel was false ns bit = false := by
  unfold State.stoLevel
  simp [Nat.not_le.mpr hns]

/-- A level of an STO input within its filter, on an input that was high and is not forced, reads high (R406). -/
theorem State.stoLevel_high (s : State) (level : Bool) {ns bit : Nat} (hns : ns ≤ 300 + s.regN Item.SAFE.STO_TP_TOL * 1000)
    (hforce : s.forced supUnit bit = false) : s.stoLevel true level ns bit = true := by
  unfold State.stoLevel
  rw [hforce]
  simp [hns]

/-- The state with the levels of the two STO inputs taken in (R406, R407). -/
def State.stoSeen (s : State) (a b : Bool) : State :=
  { s with sup := { s.sup with
      stoA := a, stoB := b
      latched := s.sup.latched || !(a && b)
      bothLowSeen := s.sup.bothLowSeen || (!a && !b)
      highSince := if a && b then some (s.sup.highSince.getD s.time.now) else none
      differSince := if a = b then none else some (s.sup.differSince.getD s.time.now) } }

/-- What STO_REQUEST does: the levels, and a demand on both paths where one is low and STO is not demanded yet. -/
theorem exec_stoRequest (s : State) (a b : Bool) (ns : Nat) :
    exec (.stoRequest a b ns) s = .next (s.act (fun t =>
      let u := t.stoSeen (t.stoLevel t.sup.stoA a ns 0) (t.stoLevel t.sup.stoB b ns 1)
      if (t.stoLevel t.sup.stoA a ns 0 && t.stoLevel t.sup.stoB b ns 1) || decide (SafeCause.sto ∈ t.dev.causes) then u
      else u.demandBoth .sto)) := rfl

/-- An STO input low beyond its filter (R406): the stop, latched, with path B opened. -/
theorem exec_stoRequest_stops {s : State} (hl : s.live = true) (hk : s.dev.state ≠ .locked) (hst : s.dev.state.stops) {a b : Bool} {ns : Nat}
    (hlow : a = false ∨ b = false) (hns : 300 + s.regN Item.SAFE.STO_TP_TOL * 1000 < ns) (hnew : SafeCause.sto ∉ s.dev.causes) :
    ∃ t, exec (.stoRequest a b ns) s = .next t ∧ s.StopsFor t .sto ∧ t.sup.latched = true ∧ t.sup.pathB = true := by
  have hboth : (s.stoLevel s.sup.stoA a ns 0 && s.stoLevel s.sup.stoB b ns 1) = false := by
    rcases hlow with rfl | rfl
    · rw [s.stoLevel_low _ _ hns, Bool.false_and]
    · rw [s.stoLevel_low _ _ hns, Bool.and_false]
  generalize ha : s.stoLevel s.sup.stoA a ns 0 = x at hboth
  generalize hb : s.stoLevel s.sup.stoB b ns 1 = y at hboth
  rw [exec_stoRequest]
  refine ⟨_, congrArg Host.Outcome.next (s.act_to _ ((s.stoSeen x y).demandBoth .sto) ?_), State.stopsFor_act hl hk ?_, ?_⟩
  · simp only [ha, hb]
    exact if_neg (by simp [hboth, hnew])
  · exact ((s.stoSeen x y).stopsFor_demandBoth .sto hst).of_sheaf fun _ => rfl
  · rw [State.act_sup _ _ hl, State.demandBoth_sup]
    exact ⟨by simp [State.stoSeen, hboth], rfl⟩

/-- A low pulse within the filter stops nothing (R406). -/
theorem exec_stoRequest_within {s : State} (hl : s.live = true) (hk : s.dev.state ≠ .locked) {a b : Bool} {ns : Nat}
    (hns : ns ≤ 300 + s.regN Item.SAFE.STO_TP_TOL * 1000) (ha : s.sup.stoA = true) (hb : s.sup.stoB = true)
    (hfa : s.forced supUnit 0 = false) (hfb : s.forced supUnit 1 = false) :
    ∃ t, exec (.stoRequest a b ns) s = .next t ∧ t.sup.stoA = true ∧ t.sup.stoB = true ∧ t.sup.latched = s.sup.latched
      ∧ t.dev.state = s.dev.state ∧ t.dev.causes = s.dev.causes ∧ t.sheaf = s.sheaf ∧ t.out = s.out := by
  have hx : s.stoLevel s.sup.stoA a ns 0 = true := by rw [ha]; exact s.stoLevel_high a hns hfa
  have hy : s.stoLevel s.sup.stoB b ns 1 = true := by rw [hb]; exact s.stoLevel_high b hns hfb
  rw [exec_stoRequest]
  refine ⟨_, congrArg Host.Outcome.next (s.act_to _ (s.stoSeen true true) ?_), ?_⟩
  · simp only [hx, hy]
    rfl
  · rw [State.act_sup _ _ hl, State.act_devState _ _ hl hk, State.act_causes _ _ hl]
    exact ⟨rfl, rfl, by simp [State.stoSeen], rfl, rfl, funext (s.act_sheaf _ hl), funext (s.act_out _ hl)⟩

/-- A monitor that is beyond its bound, whose cause is not present yet, demands both paths. -/
theorem State.monitor_beyond (s : State) {c : SafeCause} {beyond : Bool} (hb : beyond = true) (hnew : c ∉ s.dev.causes) :
    s.monitor c beyond = s.demandBoth c := by
  unfold State.monitor
  rw [if_pos hb, if_neg hnew]

/-- The state in which the torque monitor finds the torque beyond its margin (R409): its turn, its own torque, since when. -/
def State.torqueBeyond (s : State) (sup : Word) : State :=
  let t := (s.every Timer.torque 50000).setReg Item.SAFE.T_SUP sup
  { t with sup := { t.sup with torqueSince := some (t.sup.torqueSince.getD t.time.now) } }

/-- Torque beyond its margin for UT_T (R409): the stop, with path B opened. -/
theorem exec_torqueMonitor_stops {s : State} (hl : s.live = true) (hk : s.dev.state ≠ .locked) (hst : s.dev.state.stops)
    {angle : BitVec 16} {mv : List Nat} {since : Nat} (hkt : s.regN Item.SAFE.KT ≠ 0) (hforce : s.forced supUnit 5 = false)
    (hnew : SafeCause.torque ∉ s.dev.causes)
    (hbeyond : F32.lt (F32.ofInt (s.regI Item.SAFE.UT_MARGIN)) (F32.abs (F32.sub (s.supTorque angle mv) s.torqueShared)) = true)
    (hsince : s.sup.torqueSince = some since) (hlong : since + s.regN Item.SAFE.UT_T * 1000000 ≤ s.time.now) :
    ∃ t, exec (.torqueMonitor angle mv) s = .next t ∧ s.StopsFor t .torque ∧ t.sup.pathB = true := by
  have hforce' : (s.every Timer.torque 50000).forced supUnit 5 = false := hforce
  have hut : (s.torqueBeyond (s.supTorque angle mv)).regN Item.SAFE.UT_T = s.regN Item.SAFE.UT_T :=
    congrArg BitVec.toNat ((s.every Timer.torque 50000).reg_setReg_other Item.SAFE.T_SUP _ _ (by decide))
  have hlate : s.sup.torqueSince.getD (s.every Timer.torque 50000).time.now
      + (s.torqueBeyond (s.supTorque angle mv)).regN Item.SAFE.UT_T * 1000000 ≤ (s.every Timer.torque 50000).time.now := by
    rw [hut, hsince]; exact le_trans hlong (le_max_left s.time.now _)
  refine ⟨_, congrArg Host.Outcome.next (s.act_to _ ((s.torqueBeyond (s.supTorque angle mv)).demandBoth .torque) ?_),
    State.stopsFor_act hl hk ?_, ?_⟩
  · refine (if_neg hkt).trans ?_
    simp only [hforce', Bool.false_or, Bool.false_eq_true, if_false]
    exact (if_pos hbeyond).trans
      (State.monitor_beyond (s.torqueBeyond (s.supTorque angle mv)) ((Bool.or_eq_true _ _).mpr (.inl (decide_eq_true hlate))) hnew)
  · exact ((s.torqueBeyond (s.supTorque angle mv)).stopsFor_demandBoth .torque hst).of_sheaf fun _ => rfl
  · rw [State.act_sup _ _ hl, State.demandBoth_sup]

/-- The loss of a device island's clock (R27, R450): the stop, and the record of the device's unit. -/
theorem exec_islandClockLoss_stops {s : State} (hl : s.live = true) (hk : s.dev.state ≠ .locked) (hst : s.dev.state.stops)
    {i : Island} {gap edges : Nat} (hi : i = .pulse ∨ i = .engine ∨ i = .measurement ∨ i = .shell) (hlost : Island.lost i gap edges = true)
    (hnote : s.Notices (unitOf Kind.device 0) 32) :
    ∃ t, exec (.islandClockLoss i gap edges) s = .next t ∧ s.StopsFor t .island ∧ s.TakesUp t (unitOf Kind.device 0) .lasting .L 32 := by
  have hstop := State.stopsFor_act hl hk (s.stopsFor_lostIsland 32 .island hst)
  have hup := s.act_takesUp _ hl (s.takesUp_lostIsland .island hnote)
  refine ⟨_, congrArg Host.Outcome.next (s.act_to _ (s.lostIsland 32 .island) ?_), hstop, hup⟩
  simp only [hlost, Bool.not_true, Bool.false_eq_true, if_false]
  rcases hi with rfl | rfl | rfl | rfl <;> rfl

/-- A debug halt on a TH9648-AD0 (R532): the stop, halted. -/
theorem exec_debugHalt_stops {s : State} (hl : s.live = true) (hk : s.dev.state ≠ .locked) (hst : s.dev.state.stops)
    (hpart : s.dev.partAD0 = true) (hrun : s.dev.halted = false) :
    ∃ t, exec .debugHalt s = .next t ∧ s.StopsFor t .debugHalt ∧ t.dev.halted = true := by
  have hstop := ({ s with dev := { s.dev with halted := true } } : State).stopsFor_lostIsland 32 .debugHalt hst
  refine ⟨_, (if_pos hpart).trans (congrArg Host.Outcome.next
    (s.act_to _ (({ s with dev := { s.dev with halted := true } } : State).lostIsland 32 .debugHalt) (if_neg (by simp [hrun])))),
    State.stopsFor_act hl hk (hstop.of_sheaf fun _ => rfl), ?_⟩
  rw [State.act_halted _ _ hl, State.lostIsland_halted]

/-- Settles O5: each cause ends in a safe demand of the device, whose stop the frame of the command leaves as it is (assumption logs 54,
64 and 66). -/
theorem safeCausesStopThePowerSide : Obligations.SafeCausesStopThePowerSide := by
  intro s hl hstate
  have hst : s.dev.state.stops := by unfold DevState.stops; tauto
  have hk : s.dev.state ≠ .locked := by rcases hstate with h | h | h | h | h <;> simp [h]
  refine ⟨fun mv hmv => ?_, fun a b ns hlow hns hnew => ?_, fun a b ns hns ha hb hfa hfb => exec_stoRequest_within hl hk hns ha hb hfa hfb,
    fun angle mv since hkt hforce hnew hbeyond hsince hlong => ?_, fun i gap edges hi hlost hnote => ?_, fun hpart hrun => ?_⟩
  · obtain ⟨t, h, ⟨hsafe, hcause⟩, hout⟩ := exec_vsupOverVoltage_stops hl hk hst hmv
    exact ⟨t, h, hsafe, hcause, hout⟩
  · obtain ⟨t, h, ⟨hsafe, hcause⟩, hsup⟩ := exec_stoRequest_stops hl hk hst hlow hns hnew
    exact ⟨t, h, hsafe, hcause, hsup⟩
  · obtain ⟨t, h, ⟨hsafe, hcause⟩, hpath⟩ := exec_torqueMonitor_stops hl hk hst hkt hforce hnew hbeyond hsince hlong
    exact ⟨t, h, hsafe, hcause, hpath⟩
  · obtain ⟨t, h, ⟨hsafe, hcause⟩, hup⟩ := exec_islandClockLoss_stops hl hk hst hi hlost hnote
    exact ⟨t, h, hsafe, hcause, hup⟩
  · obtain ⟨t, h, ⟨hsafe, hcause⟩, hhalted⟩ := exec_debugHalt_stops hl hk hst hpart hrun
    exact ⟨t, h, hsafe, hcause, hhalted⟩

end Sys2Proof.Machine

namespace Sys2Proof.Machine

/-! ## A stop whose record another tag reaches (R37, R123, R124) -/

/-- SHEAF_STOP to READY of sheaf 1, the front charger's. -/
def stopMessage : HostMsg :=
  { kind := 0, flags := 0, tag := 64, opcode := 0x0022, length := 1, fresh := 0, unit := 0x01000001, timeout := 0, atTime := 0,
    payload := [0], mac := 0 }

/-- The record of that command, waiting. -/
def stopRecord : CmdRec :=
  { state := .waiting, msg := stopMessage, order := 0, accepted := 0, start := none, code := 0, reason := 0, result := [],
    completed := 0, sent := 0 }

/-- Sheaf 1 in RUN, its stop waiting in tag 0 of slot 1, and a self-test of one of its legs under tag 64 of slot 0. No command gets such a
tag, but the statement speaks of every state, and records are kept by slot * 64 + tag: the self-test's record is the stop's. -/
def straySelftest : State :=
  { State.reset with
    dev := { State.reset.dev with state := .standby, fwRunning := true }
    slots := [(1, { HostSlot.init with status := .attached, claims := 0x002 })]
    recs := [(64, some stopRecord)]
    seqs := [{ kind := .selftest, units := [unitOf Kind.leg 18], slot := 0, index := 64, arg := 0, started := 0 }]
    sheaves := [(1, { Sheaf.init with state := .run })] }

theorem straySelftest_calm : straySelftest.Calm := ⟨by decide, rfl, rfl, by decide, by decide⟩

theorem straySelftest_due : straySelftest.Due 1 0 stopRecord where
  cmd := rfl
  waiting := rfl
  may := by decide
  time := .inl rfl
  claim := by decide
  early := by decide
  held := by decide
  alone := rfl
  fresh := by decide

/-- The stop ends the self-test, whose completion takes the record of the stop with it (slot 0 is free). -/
theorem straySelftest_stop {t : State} (h : exec (.sheafStopReady 1 0) straySelftest = .next t) : t.cmd 1 0 = none := by
  cases h
  decide

/-- Refutes O39: its condition that no running sequence bears the command's tag does not keep a sequence from a tag of 64 or more, which
reaches the record of another slot. The SHEAF_STOP of a running sheaf ends the self-test under such a tag, and its own record with it, so
that it is not in execution after the command. -/
theorem not_sheafCommandsStartStopAndSwap : ¬ Obligations.SheafCommandsStartStopAndSwap := by
  intro h
  obtain ⟨-, -, -, hstop, -⟩ := h straySelftest 1 0 stopRecord 1 straySelftest_calm (by decide) (by decide)
  obtain ⟨t, ht, -, -, -, hruns⟩ := hstop straySelftest_due (by decide) rfl (by decide) (by decide)
  have hnone := straySelftest_stop ht
  rw [State.Runs, Fin.val_one, Fin.val_zero] at hruns
  exact absurd (hnone.symm.trans hruns) (by simp)

end Sys2Proof.Machine

namespace Sys2Proof.Machine

/-! ## Loss of supply and nPOR (R54, R55, Table 2-8) -/

/-- What the two contacts leave until the device starts again: supply and nPOR as the contacts have them, the device not live, everything
off, what lasts, and the last fault record written. -/
structure State.Rests (s t : State) (powered nporLow : Bool) : Prop where
  powered : t.dev.powered = powered
  nporLow : t.dev.nporLow = nporLow
  notLive : t.live = false
  dark : t.Dark
  lasts : s.Lasts t
  lastRecord : t.store.lastRecord = s.store.journal.head?

/-- A contact row whose work is to write the last record and lie in reset, without supply or held by nPOR, puts the device to rest. -/
theorem State.always_writeLastRecord (s : State) {f : State → State} {powered nporLow : Bool} {cause : Nat}
    (hf : f s = s.writeLastRecord.inReset powered nporLow cause 0) (hheld : powered = false ∨ nporLow = true) :
    s.Rests (s.always f) powered nporLow := by
  unfold State.always
  rw [hf]
  refine ⟨rfl, rfl, ?_, s.keep_dark _ (State.dark_of_empty _ rfl rfl rfl rfl), s.keep_lasts s _ ⟨rfl, rfl, rfl⟩, rfl⟩
  have hlive : (s.keep (s.writeLastRecord.inReset powered nporLow cause 0)).live = (powered && !nporLow && true) := rfl
  rw [hlive]
  rcases hheld with rfl | rfl <;> simp

/-- Loss of supply puts a supplied device to rest (R55). -/
theorem exec_supplyLoss_rests (s : State) (hpow : s.dev.powered = true) :
    ∃ t, exec .supplyLoss s = .next t ∧ s.Rests t false s.dev.nporLow :=
  ⟨_, rfl, s.always_writeLastRecord (if_neg (by simp [hpow])) (.inl rfl)⟩

/-- nPOR held low puts a supplied device to rest (R54). -/
theorem exec_nporReset_rests (s : State) (hpow : s.dev.powered = true) (hpor : s.dev.nporLow = false) :
    ∃ t, exec .nporReset s = .next t ∧ s.Rests t true true :=
  ⟨_, rfl, s.always_writeLastRecord ((if_neg (by simp [hpor])).trans (if_pos hpow)) (.inr rfl)⟩

/-- Settles O1: both contacts write the last record and lie in reset, whose tables are empty (assumption logs 22 and 100). -/
theorem supplyLossAndResetSwitchEverythingOff : Obligations.SupplyLossAndResetSwitchEverythingOff := by
  refine fun s => ⟨fun hpow => ?_, fun hpow hpor => ?_⟩
  · obtain ⟨t, h, hrest⟩ := exec_supplyLoss_rests s hpow
    exact ⟨t, h, hrest.powered, hrest.notLive, hrest.dark, hrest.lasts, hrest.lastRecord⟩
  · obtain ⟨t, h, hrest⟩ := exec_nporReset_rests s hpow hpor
    exact ⟨t, h, hrest.nporLow, hrest.notLive, hrest.dark, hrest.lasts, hrest.lastRecord⟩

end Sys2Proof.Machine

namespace Sys2Proof.Machine

/-! ## A state from which a detection is made (R438) -/

/-- A state from which a unit's detection is as good as from another: its handling, its last record, the journal are the same, and device
time has at most gone on. -/
structure State.Poised (s g : State) (u : Nat) : Prop where
  handling : (g.unit u).state = (s.unit u).state
  edge : (g.unit u).edge = (s.unit u).edge
  journal : g.store.journal = s.store.journal
  now : s.time.now ≤ g.time.now

theorem State.Poised.trans {s g t : State} {u : Nat} (h : s.Poised g u) (k : g.Poised t u) : s.Poised t u :=
  ⟨k.handling.trans h.handling, k.edge.trans h.edge, k.journal.trans h.journal, h.now.trans k.now⟩

/-- What an idle unit takes note of, it makes a record of in a poised state. -/
theorem State.Poised.notices {s g : State} {u src : Nat} (h : s.Poised g u) (hn : s.Notices u src) :
    (g.unit u).state = .idle ∧ (g.unit u).outranks u g.time.now src = false := by
  obtain ⟨hidle, hrank⟩ := hn
  refine ⟨h.handling.trans hidle, ?_⟩
  have hsame : (g.unit u).outranks u g.time.now src = (s.unit u).outranks u g.time.now src := by
    unfold UnitRec.outranks
    rw [h.edge]
  rw [hsame]
  exact hrank _ h.now

/-- A warning from a poised state shows. -/
theorem State.Poised.shows {s g : State} {u src : Nat} (h : s.Poised g u) (hn : s.Notices u src) (forced : Bool) :
    (g.detect u .W src forced).Shows u .idle .W src := by
  obtain ⟨hidle, hrank⟩ := h.notices hn
  exact g.detect_shows_W u src forced hidle hrank

/-- A class-F detection of a unit that is no sheaf is taken up from a poised state. -/
theorem State.Poised.takesUp {s g : State} {u src : Nat} (h : s.Poised g u) (hn : s.Notices u src) (forced : Bool) (hsrc : src < 256)
    (hu : unitKind u ≠ Kind.sheaf) : s.TakesUp (g.detect u .F src forced) u .handling .F src := by
  obtain ⟨hidle, hrank⟩ := h.notices hn
  exact s.detect_takesUp_of g u src .F forced h.journal (.inl rfl) (.inl hidle) hsrc (fun hk => absurd hk hu) (.inl rfl) hrank

/-! ## Warnings that stop nothing (Tables 2-5, 2-9 and 15-5, R58, R225, R408, R433, R438, R522) -/

/-- What the measuring part of a warning's row may change: items, device time, the turns of periodic works, the supervisor's own marks. -/
structure State.Measures (s g : State) : Prop where
  eq : g = { s with regs := g.regs, timers := g.timers, sup := g.sup, time := g.time }
  now : s.time.now ≤ g.time.now

theorem State.Measures.trans {s g t : State} (h : s.Measures g) (k : g.Measures t) : s.Measures t :=
  ⟨by rw [k.eq, h.eq], h.now.trans k.now⟩

theorem State.Measures.poised {s g : State} (h : s.Measures g) (u : Nat) : s.Poised g u := by
  have hunits : g.units = s.units := by rw [h.eq]
  have hunit : g.unit u = s.unit u := by unfold State.unit; rw [hunits]
  exact ⟨by rw [hunit], by rw [hunit], by rw [h.eq], h.now⟩

theorem State.measures_setReg (s : State) (a : Nat) (w : Word) : s.Measures (s.setReg a w) := ⟨rfl, le_rfl⟩

theorem State.measures_reach (s : State) (t : Nat) : s.Measures (s.reach t) := ⟨rfl, le_max_left ..⟩

theorem State.measures_every (s : State) (timer period : Nat) : s.Measures (s.every timer period) := ⟨rfl, le_max_left ..⟩

/-- A live device's command leaves the device's state where its work does. -/
theorem State.act_keeps_devState {s g : State} (hl : s.live = true) (h : g.dev.state = s.dev.state) :
    (s.act fun _ => g).dev.state = s.dev.state := by
  by_cases hk : s.dev.state = .locked
  · rw [hk]; exact s.act_locked _ hk
  · exact (s.act_devState _ hl hk).trans h

/-- A measurement and a warning of a unit that is no leg: the warning and nothing more. -/
theorem State.Measures.warnsOnly {s g : State} (h : s.Measures g) (hl : s.live = true) {u src : Nat} (hu : unitKind u ≠ Kind.leg)
    (hn : s.Notices u src) : s.WarnsOnly (s.act fun _ => g.raise u .W src) u src := by
  have hw : g.Warns (g.raise u .W src) := g.warns_detect u src false hu
  have hshow : (g.raise u .W src).Shows u .idle .W src := (h.poised u).shows hn false
  generalize g.raise u .W src = t at hw hshow
  have hlegs : t.legs = s.legs := by rw [hw, h.eq]
  have hsheaf : t.sheaf = s.sheaf := by rw [hw, h.eq]; rfl
  have hout : t.out = s.out := by rw [hw, h.eq]; rfl
  have hlane : t.lane = s.lane := by rw [hw, h.eq]; rfl
  refine ⟨s.act_shows t hl hshow, fun n => ?_, ?_, ?_, ?_, State.act_keeps_devState hl (by rw [hw, h.eq])⟩
  · exact (State.banded_of_eq hlegs n).trans (s.act_banded (fun _ => t) hl n)
  · exact funext fun n => (s.act_sheaf _ hl n).trans (congrFun hsheaf n)
  · exact funext fun n => (s.act_out _ hl n).trans (congrFun hout n)
  · exact funext fun n => (s.act_lane _ hl n).trans (congrFun hlane n)

/-- After a warning's row the supervisor's marks and device time are at least as the measuring part left them. -/
theorem State.act_raiseW_marks {s : State} (g : State) (hl : s.live = true) {u : Nat} (src : Nat) (hu : unitKind u ≠ Kind.leg) :
    (s.act fun _ => g.raise u .W src).sup = g.sup ∧ g.time.now ≤ (s.act fun _ => g.raise u .W src).time.now := by
  have hw : g.Warns (g.raise u .W src) := g.warns_detect u src false hu
  rw [State.act_sup _ _ hl, State.act_time _ _ hl, hw]
  exact ⟨rfl, le_max_right ..⟩

theorem unitKind_unitOf {k i : Nat} (hi : i < 0x1000000) : unitKind (unitOf k i) = k := by
  unfold unitKind unitOf
  omega

/-- Items that are not written keep their value. -/
theorem State.reg_setRegs_other (s : State) (l : List (Nat × Word)) {a : Nat} (h : ∀ p ∈ l, a ≠ p.1) : (s.setRegs l).reg a = s.reg a := by
  induction l generalizing s with
  | nil => rfl
  | cons p l ih =>
    exact (ih (s.setReg p.1 p.2) fun q hq => h q (List.mem_cons_of_mem _ hq)).trans (s.reg_setReg_other _ _ _ (h p List.mem_cons_self))

theorem State.measures_setRegs (s : State) (l : List (Nat × Word)) : s.Measures (s.setRegs l) := by
  induction l generalizing s with
  | nil => exact ⟨rfl, le_rfl⟩
  | cons p l ih => exact (s.measures_setReg p.1 p.2).trans (ih _)

/-- The gate power of both domains of every leg written (Table 6-10). -/
def State.gatePowers (s : State) (powers : List Nat) : State :=
  s.forEach (List.range 48) (fun t n => t.setRegs
    [(Item.GATE.PWR_HS n, nw (Nat.min (powers.getD (2 * n) 0) 2000)), (Item.GATE.PWR_LS n, nw (Nat.min (powers.getD (2 * n + 1) 0) 2000))])

theorem State.gatePowers_spec (s : State) (powers : List Nat) :
    s.Measures (s.gatePowers powers) ∧ (s.gatePowers powers).reg Item.DEV.GATE_PWR_WARN = s.reg Item.DEV.GATE_PWR_WARN := by
  refine State.forEach_rel (R := fun s t => s.Measures t ∧ t.reg Item.DEV.GATE_PWR_WARN = s.reg Item.DEV.GATE_PWR_WARN)
    (fun _ => ⟨⟨rfl, le_rfl⟩, rfl⟩) (fun _ _ _ h k => ⟨h.1.trans k.1, k.2.trans h.2⟩) _ (fun t n => ?_) _ s
  refine ⟨t.measures_setRegs _, t.reg_setRegs_other _ ?_⟩
  simp only [List.mem_cons, List.not_mem_nil, or_false, forall_eq_or_imp, forall_eq, Item.DEV.GATE_PWR_WARN,
    Item.GATE.PWR_HS, Item.GATE.PWR_LS, Item.addr]
  omega

end Sys2Proof.Machine

namespace Sys2Proof.Machine

/-- A row that measures and then warns (Tables 2-5, 2-9 and 15-5): the warning and nothing more. -/
theorem exec_warnsOnly {c : Instr} {s g : State} {f : State → State} {u src : Nat} (hexec : exec c s = .next (s.act f))
    (hf : f s = g.raise u .W src) (h : s.Measures g) (hl : s.live = true) (hu : unitKind u ≠ Kind.leg) (hn : s.Notices u src) :
    ∃ t, exec c s = .next t ∧ s.WarnsOnly t u src :=
  ⟨_, hexec.trans (congrArg Host.Outcome.next (s.act_to f _ hf)), h.warnsOnly hl hu hn⟩

/-- Such a row whose measuring part leaves a mark of the supervisor's at a time. -/
theorem exec_warnsOnly_marks {c : Instr} {s g : State} {f : State → State} {u src : Nat} (hexec : exec c s = .next (s.act f))
    (hf : f s = g.raise u .W src) (h : s.Measures g) (hl : s.live = true) (hu : unitKind u ≠ Kind.leg) (hn : s.Notices u src) :
    ∃ t, exec c s = .next t ∧ s.WarnsOnly t u src ∧ t.sup = g.sup ∧ g.time.now ≤ t.time.now :=
  ⟨_, hexec.trans (congrArg Host.Outcome.next (s.act_to f _ hf)), h.warnsOnly hl hu hn, State.act_raiseW_marks g hl src hu⟩

theorem unitKind_port (o : Fin 6) : unitKind (unitOf Kind.port (o.val - 2)) ≠ Kind.leg := by
  rw [unitKind_unitOf (by omega)]; decide

theorem unitKind_fast (c : Fin 16) : unitKind (unitOf Kind.fast c) ≠ Kind.leg := by
  rw [unitKind_unitOf (by omega)]; decide

/-- The discrepancy of the STO inputs marked, STO_DISC_T after they began to differ (R408). -/
def State.discrepant (s : State) (since : Nat) : State :=
  let t := s.reach (since + s.regN Item.SAFE.STO_DISC_T * 1000000)
  { t with sup := { t.sup with discrepancy := true, bothLowSeen := false } }

/-- The overdue path test marked, a minute past PATH_AGE_MAX (R433). -/
def State.pathOverdue (s : State) : State :=
  let t := s.reach (s.sup.pathAt + (s.regN Item.SAFE.PATH_AGE_MAX * 60 + 1) * 60000000000)
  { t with sup := { t.sup with pathAgeRaised := true } }

section
variable {s : State} (hl : s.live = true)
include hl

theorem exec_vsupLowOperation_warns {mv : Nat} (hlo : 8200 ≤ mv) (hhi : mv ≤ 9000) (hn : s.Notices (unitOf Kind.device 0) 16) :
    ∃ t, exec (.vsupLowOperation mv) s = .next t ∧ s.WarnsOnly t (unitOf Kind.device 0) 16 :=
  exec_warnsOnly rfl (if_pos ⟨hlo, hhi⟩) (s.measures_setReg _ _) hl (by decide) hn

theorem exec_vsupHighOperation_warns {mv : Nat} (hlo : 60000 ≤ mv) (hhi : mv ≤ 64000) (hn : s.Notices (unitOf Kind.device 0) 17) :
    ∃ t, exec (.vsupHighOperation mv) s = .next t ∧ s.WarnsOnly t (unitOf Kind.device 0) 17 :=
  exec_warnsOnly rfl (if_pos ⟨hlo, hhi⟩) (s.measures_setReg _ _) hl (by decide) hn

/-- R58: writing the gate powers leaves the limit they are compared with. -/
theorem exec_gatePowerWarning_warns {powers : List Nat} (hsum : s.regN Item.DEV.GATE_PWR_WARN < powers.sum)
    (hn : s.Notices (unitOf Kind.device 0) 19) :
    ∃ t, exec (.gatePowerWarning powers) s = .next t ∧ s.WarnsOnly t (unitOf Kind.device 0) 19 := by
  obtain ⟨hmeas, hlimit⟩ := (s.every Timer.gatePower 100000000).gatePowers_spec powers
  have hkeep := (((s.every Timer.gatePower 100000000).gatePowers powers).reg_setReg_other Item.DEV.GATE_PWR
    (nw (Nat.min powers.sum 40000)) Item.DEV.GATE_PWR_WARN (by decide)).trans hlimit
  refine exec_warnsOnly rfl (if_pos ?_) (((s.measures_every _ _).trans hmeas).trans (State.measures_setReg _ _ _)) hl (by decide) hn
  exact lt_of_eq_of_lt (congrArg BitVec.toNat hkeep) hsum

/-- R522: a short of VIO or VREFO is the device's. -/
theorem exec_supplyOutputShort_device {o : Fin 6} (ho : o.val < 2) (ma : Nat) (hn : s.Notices (unitOf Kind.device 0) 25) :
    ∃ t, exec (.supplyOutputShort o true ma) s = .next t ∧ s.WarnsOnly t (unitOf Kind.device 0) 25 :=
  exec_warnsOnly rfl (if_pos ho) ⟨rfl, le_rfl⟩ hl (by decide) hn

/-- Table 2-9: a short of a port's supply, or a current outside its limits, is the port's. -/
theorem exec_supplyOutputShort_port {o : Fin 6} (ho : 2 ≤ o.val) {short : Bool} {ma : Nat} (hon : s.portSupplyOn (o.val - 2) = true)
    (hn : s.Notices (unitOf Kind.port (o.val - 2)) 18)
    (hbad : short = true ∨ ma < s.regN (Item.POS.SUP_IMIN (o.val - 2)) ∨ s.regN (Item.POS.SUP_IMAX (o.val - 2)) < ma) :
    ∃ t, exec (.supplyOutputShort o short ma) s = .next t ∧ s.WarnsOnly t (unitOf Kind.port (o.val - 2)) 18 :=
  exec_warnsOnly rfl ((if_neg (by omega)).trans ((if_neg (by simp [hon])).trans (if_pos hbad))) (s.measures_setReg _ _) hl
    (unitKind_port o) hn

theorem exec_backgroundStarve_warns {c : Fin 16} {i : Fin 8} (hbg : bitOf (s.reg (Item.ADCF.BG_MASK c)) i = true)
    (hn : s.Notices (unitOf Kind.fast c) 17) :
    ∃ t, exec (.backgroundStarve c i) s = .next t ∧ s.WarnsOnly t (unitOf Kind.fast c) 17 :=
  exec_warnsOnly rfl (if_pos hbg) (s.measures_reach _) hl (unitKind_fast c) hn

/-- R408: the discrepancy is marked once STO_DISC_T has passed. -/
theorem exec_stoDiscrepancy_warns {since : Nat} (hdiff : s.sup.differSince = some since) (hnew : s.sup.discrepancy = false)
    (hn : s.Notices (unitOf Kind.supervisor 0) 16) :
    ∃ t, exec .stoDiscrepancy s = .next t ∧ s.WarnsOnly t (unitOf Kind.supervisor 0) 16 ∧ t.sup.discrepancy = true
      ∧ since + s.regN Item.SAFE.STO_DISC_T * 1000000 ≤ t.time.now := by
  obtain ⟨t, h, hwarn, hsup, hnow⟩ := exec_warnsOnly_marks (c := .stoDiscrepancy) (s := s) (g := s.discrepant since) rfl
    (by simp only [hdiff]; exact if_neg (by simp [hnew])) ⟨rfl, le_max_left ..⟩ hl (by decide) hn
  exact ⟨t, h, hwarn, by rw [hsup]; rfl, le_trans (le_max_right ..) hnow⟩

/-- R433: the overdue path test is marked once the minute after PATH_AGE_MAX has passed. -/
theorem exec_pathAgeExceeded_warns (hnew : s.sup.pathAgeRaised = false) (hn : s.Notices (unitOf Kind.supervisor 0) 17) :
    ∃ t, exec .pathAgeExceeded s = .next t ∧ s.WarnsOnly t (unitOf Kind.supervisor 0) 17 ∧ t.sup.pathAgeRaised = true
      ∧ s.sup.pathAt + s.regN Item.SAFE.PATH_AGE_MAX * 3600000000000 < t.time.now := by
  obtain ⟨t, h, hwarn, hsup, hnow⟩ := exec_warnsOnly_marks (c := .pathAgeExceeded) (s := s) (g := s.pathOverdue) rfl (if_neg (by simp [hnew]))
    ⟨rfl, le_max_left ..⟩ hl (by decide) hn
  have hpast : s.sup.pathAt + (s.regN Item.SAFE.PATH_AGE_MAX * 60 + 1) * 60000000000 ≤ t.time.now := le_trans (le_max_right ..) hnow
  exact ⟨t, h, hwarn, by rw [hsup]; rfl, by omega⟩

end

/-- Settles O4: every row measures, and then makes a class-W detection of a unit that is no leg, which changes no block (R438, R439). -/
theorem warningsStopNothing : Obligations.WarningsStopNothing := fun _ hl =>
  ⟨fun _ hlo hhi hn => exec_vsupLowOperation_warns hl hlo hhi hn, fun _ hlo hhi hn => exec_vsupHighOperation_warns hl hlo hhi hn,
    fun _ hsum hn => exec_gatePowerWarning_warns hl hsum hn, fun _ ma ho hn => exec_supplyOutputShort_device hl ho ma hn,
    fun _ _ _ ho hon hn hbad => exec_supplyOutputShort_port hl ho hon hn hbad, fun _ _ hbg hn => exec_backgroundStarve_warns hl hbg hn,
    fun _ hdiff hnew hn => exec_stoDiscrepancy_warns hl hdiff hnew hn, fun hnew hn => exec_pathAgeExceeded_warns hl hnew hn⟩

end Sys2Proof.Machine

namespace Sys2Proof.Machine

/-! ## What a class-F or class-L detection comes to (R438 to R444) -/

/-- Such a detection is lost, or makes its record alone, or starts the unit's handling. -/
theorem State.detect_cases (s : State) (u src : Nat) {cls : FaultClass} (forced : Bool) (hc : cls = .F ∨ cls = .L) :
    s.detect u cls src forced = s ∨ s.detect u cls src forced = s.note u cls src forced
      ∨ ∃ r, s.detect u cls src forced = ((s.note u cls src forced).setUnit u r).fence u := by
  unfold State.detect
  cases (s.unit u).state <;> rcases hc with rfl | rfl
  case idle.inl | idle.inr | resting.inl | resting.inr => exact .inr (.inr ⟨_, rfl⟩)
  case handling.inl | handling.inr => exact .inl rfl
  case lasting.inl | lasting.inr => exact .inr (.inl rfl)

/-- Making a record leaves every sheaf. -/
theorem State.note_sheaf (s : State) (u : Nat) (cls : FaultClass) (src : Nat) (forced : Bool) (m : Nat) :
    (s.note u cls src forced).sheaf m = s.sheaf m := by
  unfold State.note
  split
  · rfl
  · have h := s.records_record u cls src forced
    show (s.record u cls src forced).sheaf m = _
    rw [h]
    rfl

/-! ## No stop puts a sheaf in OFF -/

/-- A sheaf that is OFF after was OFF before. -/
structure State.NoneGoesOff (s t : State) : Prop where
  sheaf : ∀ m, (t.sheaf m).state = .off → (s.sheaf m).state = .off

theorem State.NoneGoesOff.trans {s t u : State} (h : s.NoneGoesOff t) (k : t.NoneGoesOff u) : s.NoneGoesOff u :=
  ⟨fun m hm => h.sheaf m (k.sheaf m hm)⟩

theorem State.noneGoesOff_of_states {s t : State} (h : ∀ m, (t.sheaf m).state = (s.sheaf m).state) : s.NoneGoesOff t :=
  ⟨fun m hm => (h m).symm.trans hm⟩

theorem State.NoneGoesOff.refl (s : State) : s.NoneGoesOff s := ⟨fun _ => id⟩

theorem State.Aside.noneGoesOff {s t : State} (h : s.Aside t) : s.NoneGoesOff t :=
  State.noneGoesOff_of_states fun m => by rw [h.sheaf m]

theorem State.noneGoesOff_setUnit (s : State) (u : Nat) (r : UnitRec) : s.NoneGoesOff (s.setUnit u r) :=
  State.noneGoesOff_of_states fun _ => rfl

theorem State.noneGoesOff_note (s : State) (u : Nat) (cls : FaultClass) (src : Nat) (forced : Bool) :
    s.NoneGoesOff (s.note u cls src forced) := State.noneGoesOff_of_states fun m => by rw [s.note_sheaf]

/-- A sheaf given a record with the same state. -/
theorem State.noneGoesOff_setSheaf (s : State) (n : Nat) (h : Sheaf) (hs : h.state = (s.sheaf n).state) : s.NoneGoesOff (s.setSheaf n h) :=
  State.noneGoesOff_of_states fun m => by
    by_cases e : m = n
    · subst e; rw [State.sheaf_setSheaf_same, hs]
    · rw [State.sheaf_setSheaf_other _ _ _ _ e]

theorem State.noneGoesOff_quietSheaf (s : State) (n : Nat) {st : SheafState} (hst : st ≠ .off) : s.NoneGoesOff (s.quietSheaf n st) :=
  ⟨fun m hm => by
    rw [(s.quietSheaf_spec n st).2 m] at hm
    split at hm
    · exact absurd hm hst
    · exact hm⟩

theorem State.noneGoesOff_blame (s : State) (n u : Nat) : s.NoneGoesOff (s.blame n u) := by
  unfold State.blame
  extract_lets h0 s1 s2
  have h1 : s.NoneGoesOff s1 := s.noneGoesOff_setSheaf n _ rfl
  have h2 : s1.NoneGoesOff s2 := State.noneGoesOff_of_states fun m => by
    have h := s1.records_record (unitOf Kind.sheaf n) .W 16 false
    show ((s1.record (unitOf Kind.sheaf n) .W 16 false).sheaf m).state = _
    rw [h]
    rfl
  split
  · exact (h1.trans h2).trans (s2.noneGoesOff_setUnit _ _)
  · exact h1.trans h2

theorem State.noneGoesOff_winnowSheaf (s : State) (n : Nat) (cause : Option Nat) : s.NoneGoesOff (s.winnowSheaf n cause) := by
  unfold State.winnowSheaf
  extract_lets h s1 s2 s3 s4
  have h1 : s.NoneGoesOff s1 := (s.aside_abortProofs n).noneGoesOff.trans (State.noneGoesOff_quietSheaf _ n (by decide))
  have h2 : s1.Aside s2 := State.aside_forEach _ (fun t l => t.aside_winnowLeg l _) _ _
  have h4 : s1.Aside s4 := (h2.trans (State.completes_endSequences ..).aside).trans (State.completes_endSequences ..).aside
  split
  · refine (h1.trans h4.noneGoesOff).trans (State.NoneGoesOff.trans ?_ (State.aside_applySelection _).noneGoesOff)
    cases cause with
    | none => exact .refl s4
    | some u => exact s4.noneGoesOff_blame n u
  · cases cause with
    | none => exact .refl s
    | some u =>
      show s.NoneGoesOff (if _ then _ else _)
      split
      · exact s.noneGoesOff_setSheaf n _ rfl
      · exact .refl s

theorem State.noneGoesOff_winnowSet (s : State) (k : Nat) (own : Option Nat) (c : WinnowCause) (cause : Nat) :
    s.NoneGoesOff (s.winnowSet k own c cause) := by
  unfold State.winnowSet
  split
  · exact .refl s
  · extract_lets fresh s1 s2
    have h1 : s.Aside s1 := State.aside_forEach _ (fun t l => t.aside_winnowLeg l _) _ s
    have h2 : s.Aside s2 := by
      unfold s2
      split
      · exact h1.trans ⟨rfl, rfl⟩
      · exact h1
    split
    · exact h2.noneGoesOff.trans (State.noneGoesOff_winnowSheaf ..)
    · exact h2.noneGoesOff.trans (State.aside_applySelection _).noneGoesOff

theorem State.noneGoesOff_fenceLeg (s : State) (leg : Nat) (c : WinnowCause) : s.NoneGoesOff (s.fenceLeg leg c) := by
  unfold State.fenceLeg
  split
  · exact .refl s
  · next n _ =>
    have h := (s.aside_winnowLeg leg c).noneGoesOff
    extract_lets u s1
    split
    · exact s.noneGoesOff_winnowSet ..
    · split
      · split
        · exact h.trans (State.noneGoesOff_winnowSheaf ..)
        · exact h
      · exact h.trans (State.noneGoesOff_winnowSheaf ..)

theorem unitKind_legUnit (leg : Fin 48) : unitKind (legUnit leg) = Kind.leg := unitKind_unitOf (by omega)

theorem unitKind_legUnit_ne_sheaf (leg : Fin 48) : unitKind (legUnit leg) ≠ Kind.sheaf := by rw [unitKind_legUnit]; decide

theorem State.fence_legUnit (s : State) (leg : Fin 48) : s.fence (legUnit leg) = s.fenceLeg (unitIndex (legUnit leg)) .own := by
  unfold State.fence
  simp only [unitKind_legUnit]

/-- A class-F detection of a leg puts no sheaf in OFF. -/
theorem State.noneGoesOff_detectLeg (s : State) (leg : Fin 48) (src : Nat) (forced : Bool) :
    s.NoneGoesOff (s.detect (legUnit leg) .F src forced) := by
  have hnote := s.noneGoesOff_note (legUnit leg) .F src forced
  obtain h | h | ⟨r, h⟩ := s.detect_cases (legUnit leg) src forced (.inl rfl : FaultClass.F = .F ∨ _)
  · rw [h]; exact .refl s
  · rw [h]; exact hnote
  · rw [h, State.fence_legUnit]
    exact (hnote.trans (State.noneGoesOff_setUnit _ _ r)).trans (State.noneGoesOff_fenceLeg _ _ _)

/-! ## The second short of a sheaf (R180) -/

/-- A sheaf in SAFE is not winnowed. -/
theorem State.winnowSheaf_of_safe (s : State) (n : Nat) (h : (s.sheaf n).state = .safe) : s.winnowSheaf n none = s := by
  unfold State.winnowSheaf
  exact if_neg (by simp [h])

theorem State.fence_sheafUnit (s : State) {n : Nat} (hn : n < 12) : s.fence (unitOf Kind.sheaf n) = s.winnowSheaf n none := by
  have hk : unitKind (unitOf Kind.sheaf n) = 1 := unitKind_unitOf (by omega)
  have hi : unitIndex (unitOf Kind.sheaf n) = n := by unfold unitIndex unitOf; omega
  unfold State.fence
  simp only [hk, hi]

/-- A class-L detection of a sheaf in SAFE leaves it there. -/
theorem State.raiseSheaf_safe (s : State) {n : Nat} (hn : n < 12) (src : Nat) (h : (s.sheaf n).state = .safe) :
    ((s.raise (unitOf Kind.sheaf n) .L src).sheaf n).state = .safe := by
  have hnote := congrArg Sheaf.state (s.note_sheaf (unitOf Kind.sheaf n) .L src false n)
  obtain hd | hd | ⟨r, hd⟩ := s.detect_cases (unitOf Kind.sheaf n) src false (.inr rfl : FaultClass.L = .F ∨ _)
  · rw [State.raise, hd, h]
  · rw [State.raise, hd, hnote, h]
  · rw [State.raise, hd, State.fence_sheafUnit _ hn, State.winnowSheaf_of_safe (State.setUnit _ _ _) n (hnote.trans h)]
    exact hnote.trans h

/-- A class-L detection of a sheaf leaves the fault status of a unit that is no sheaf. -/
theorem State.Shows.raiseSheaf {s : State} {v src : Nat} {st : Handling} {cls : FaultClass} (h : s.Shows v st cls src) {n : Nat} (hn : n < 12)
    (hv : unitKind v ≠ Kind.sheaf) (of : Nat) : (s.raise (unitOf Kind.sheaf n) .L of).Shows v st cls src := by
  have hnote : (s.note (unitOf Kind.sheaf n) .L of false).Shows v st cls src := by
    obtain ⟨l, e, hu⟩ := s.note_unit (unitOf Kind.sheaf n) .L of false v
    unfold State.Shows
    rw [hu]
    exact h
  have hother := unit_ne_sheaf hv
  obtain hd | hd | ⟨r, hd⟩ := s.detect_cases (unitOf Kind.sheaf n) of false (.inr rfl : FaultClass.L = .F ∨ _)
  · rw [State.raise, hd]; exact h
  · rw [State.raise, hd]; exact hnote
  · rw [State.raise, hd, State.fence_sheafUnit _ hn]
    unfold State.Shows
    rw [(State.fencesOnly_winnowSheaf _ n hn none).2 v hother, State.unit_setUnit_other _ _ _ _ (hother n hn)]
    exact hnote

/-- The second short: the sheaf in SAFE unless it was OFF, and the fault status of every unit that is no sheaf as it was. -/
theorem State.secondShort_spec (s : State) {n : Nat} (hn : n < 12) :
    ((s.sheaf n).state ≠ .off → ((s.secondShort n).sheaf n).state = .safe)
      ∧ ∀ {v src st cls}, unitKind v ≠ Kind.sheaf → s.Shows v st cls src → (s.secondShort n).Shows v st cls src := by
  unfold State.secondShort
  extract_lets h0 s1
  have hstate : (s1.sheaf n).state = (s.sheaf n).state := by unfold s1; rw [State.sheaf_setSheaf_same]
  have haside : (s1.safeSheaf n).Aside ((s1.safeSheaf n).legsOff n).applySelection :=
    (State.aside_legsOff _ n).trans (State.aside_applySelection _)
  refine ⟨fun hon => State.raiseSheaf_safe _ hn 32 ?_, fun {v src st cls} hv hshow => State.Shows.raiseSheaf ?_ hn hv 32⟩
  · rw [haside.sheaf, State.safeSheaf_state, if_pos ⟨rfl, hstate ▸ hon⟩]
  · have hunits : (s1.safeSheaf n).units = s.units := s1.units_safeSheaf n
    have hunit : ((s1.safeSheaf n).legsOff n).applySelection.unit v = s.unit v := by
      rw [haside.unit]; unfold State.unit; rw [hunits]
    unfold State.Shows
    rw [hunit]
    exact hshow

end Sys2Proof.Machine

namespace Sys2Proof.Machine

/-! ## The drivers of a leg after a short-circuit response (R174 to R177) -/

theorem Leg.Quieter.driver {l m : Leg} (h : l.Quieter m) (side : Bool) : (l.driver side).Quieter (m.driver side) := by
  obtain ⟨hhs, hls, -⟩ := h
  cases side
  · exact hls
  · exact hhs

/-- A leg that differs in its band only keeps what a short-circuit response has done to it. -/
theorem Leg.Banded.quieter {l m : Leg} (h : l.Banded m) : l.Quieter m := by
  unfold Leg.Banded at h
  rw [h]
  exact ⟨.refl _, .refl _, id⟩

/-- A switch that is lit is in soft turn-off, and on until it ends (R176). -/
theorem State.softOff_of_lit (s : State) (leg : Nat) {d : Driver} (h : d.lit s.time.now = true) :
    (s.softOff leg d).soft = true ∧ (s.softOff leg d).on = true := by
  simp [State.softOff, Driver.softOff, h]

/-- What the response to a desaturation makes of the leg (R174, R176, R177, R179). -/
def State.desatLeg (s : State) (leg : Nat) (high oc : Bool) (mv : Int) : Leg :=
  let l := s.leg leg
  let other := l.driver !high
  let o := if l.asc || oc then s.softOff leg other else s.turnOff leg other
  let d := { s.softOff leg (l.driver high) with desat := true }
  { (l.setDriver high d).setDriver (!high) o with dev := mv, oc := l.oc || oc }

theorem State.desatLeg_driver (s : State) (leg : Nat) (high oc : Bool) (mv : Int) :
    (s.desatLeg leg high oc mv).driver high = { s.softOff leg ((s.leg leg).driver high) with desat := true } := by
  unfold State.desatLeg
  cases high <;> rfl

theorem State.desatLeg_other (s : State) (leg : Nat) (high oc : Bool) (mv : Int) :
    (s.desatLeg leg high oc mv).driver (!high)
      = if (s.leg leg).asc || oc then s.softOff leg ((s.leg leg).driver !high) else s.turnOff leg ((s.leg leg).driver !high) := by
  unfold State.desatLeg
  cases high <;> rfl

/-- Both on commands are taken. -/
theorem State.desatLeg_command (s : State) (leg : Nat) (high oc : Bool) (mv : Int) (side : Bool) :
    ((s.desatLeg leg high oc mv).driver side).command = false := by
  obtain rfl | rfl : side = high ∨ side = !high := by cases side <;> cases high <;> simp
  · rw [s.desatLeg_driver]; rfl
  · rw [s.desatLeg_other]; split <;> rfl

/-- What the response to an over-current makes of the leg (R175, R176, R177). -/
def State.overCurrentLeg (s : State) (leg : Nat) (mv : Int) : Leg :=
  let l := s.leg leg
  { l with hs := s.softOff leg l.hs, ls := s.softOff leg l.ls, oc := true, dev := mv }

theorem State.overCurrentLeg_driver (s : State) (leg : Nat) (mv : Int) (side : Bool) :
    (s.overCurrentLeg leg mv).driver side = s.softOff leg ((s.leg leg).driver side) := by
  cases side <;> rfl

/-! ## The work of a leg's row before its detection -/

/-- Only legs and items have changed. -/
def State.WorksLegs (s g : State) : Prop := g = { s with legs := g.legs, regs := g.regs }

theorem State.WorksLegs.trans {s g t : State} (h : s.WorksLegs g) (k : g.WorksLegs t) : s.WorksLegs t := by
  unfold State.WorksLegs at *
  rw [k, h]

theorem State.WorksLegs.unit {s g : State} (h : s.WorksLegs g) (u : Nat) : g.unit u = s.unit u := by rw [h]; rfl

theorem State.WorksLegs.sheaf {s g : State} (h : s.WorksLegs g) (n : Nat) : g.sheaf n = s.sheaf n := by rw [h]; rfl

theorem State.WorksLegs.legSheaf {s g : State} (h : s.WorksLegs g) (leg : Nat) : g.legSheaf leg = s.legSheaf leg := by rw [h]; rfl

theorem State.WorksLegs.otherShort {s g : State} (h : s.WorksLegs g) (n leg : Nat) : g.otherShort n leg = s.otherShort n leg := by
  rw [h]; rfl

theorem State.WorksLegs.poised {s g : State} (h : s.WorksLegs g) (u : Nat) : s.Poised g u :=
  ⟨by rw [h.unit], by rw [h.unit], by rw [h], by rw [h]⟩

/-- The leg as a short-circuit response leaves it, counted where its unit is not handling a fault (R177, R178). -/
def State.respond (s : State) (leg : Nat) (l : Leg) (counter : Nat) : State :=
  let s1 := s.setLeg leg l
  if (s.unit (legUnit leg)).state = .handling then s1 else s1.bump counter

theorem State.worksLegs_respond (s : State) (leg : Nat) (l : Leg) (counter : Nat) : s.WorksLegs (s.respond leg l counter) := by
  unfold State.respond
  split <;> rfl

theorem State.respond_leg (s : State) (leg : Nat) (l : Leg) (counter : Nat) : (s.respond leg l counter).leg leg = l := by
  unfold State.respond
  split
  · exact State.leg_setLeg_same ..
  · exact State.leg_setLeg_same ..

theorem State.desatResponse_eq (s : State) (leg : Nat) (high oc : Bool) (mv : Int) :
    s.desatResponse leg high oc mv
      = (s.respond leg (s.desatLeg leg high oc mv) (if high then Item.LEG.DESAT_CNT_HS leg else Item.LEG.DESAT_CNT_LS leg)).shortFault leg
          (if high then 1 else 2) (s.forced (legUnit leg) (if high then 1 else 0)) := rfl

/-! ## What follows a short-circuit response (R177, R180) -/

/-- The unit in handling with the source, both on commands gone, the record first in the journal where no other short of the sheaf stands,
and with another one the sheaf in SAFE unless it was OFF. -/
def State.ShortFollows (s t : State) (leg n src : Nat) : Prop :=
  t.Shows (legUnit leg) .handling .F src
    ∧ (∀ side, ((t.leg leg).driver side).command = false)
    ∧ (s.otherShort n leg = false → s.Journals t (legUnit leg) .F src)
    ∧ (s.otherShort n leg = true → (s.sheaf n).state ≠ .off → (t.sheaf n).state = .safe)

/-- The supervisor's selection leaves a detection taken up as it is. -/
theorem State.TakesUp.applySelection {s t : State} {u st cls src} (h : s.TakesUp t u st cls src) :
    s.TakesUp t.applySelection u st cls src :=
  h.shown (State.sameShown_of_units t.aside_applySelection.2) t.fencesOnly_applySelection.1.journal

/-- A short of an idle leg's unit: the detection, then the second short of its sheaf or the supervisor's selection. -/
theorem State.shortFault_eq (s : State) {leg n : Nat} (hn : s.legSheaf leg = some n) (hidle : (s.unit (legUnit leg)).state = .idle) (src : Nat)
    (forced : Bool) : s.shortFault leg src forced
      = if s.otherShort n leg then (s.detect (legUnit leg) .F src forced).secondShort n
        else (s.detect (legUnit leg) .F src forced).applySelection := by
  unfold State.shortFault
  rw [hn]
  simp [hidle]

/-- R174: a desaturation that its blanking covers is not seen. -/
theorem exec_desaturation_blanked {s : State} (hl : s.live = true) {leg : Fin 48} {high : Bool} {mv : Int}
    (hblank : s.time.now < ((s.leg leg).driver high).onAt + s.blanking leg)
    (hforce : s.forced (legUnit leg) (if high then 1 else 0) = false) :
    ∃ t, exec (.desaturation leg high mv) s = .next t ∧ t.unit = s.unit ∧ t.sheaf = s.sheaf ∧ s.LegsStand t := by
  have hacts : s.desatActs leg high = false := by unfold State.desatActs; simp [hforce, Nat.not_le.mpr hblank]
  exact ⟨_, congrArg Host.Outcome.next (s.act_to _ s (if_pos (by simp [hacts]))), funext (s.act_unit _ hl), funext (s.act_sheaf _ hl),
    s.act_banded (fun _ => s) hl⟩

/-- A deviation that left its window trips a comparator (R175). -/
theorem comparator_trips {mv top bottom : Int} (h : top < mv ∨ mv < bottom) : (decide (top < mv) || decide (mv < bottom)) = true := by
  simpa using h

theorem desatSource_lt (high : Bool) : (if high then 1 else 2) < 256 := by cases high <;> decide

section
variable {s : State} (hl : s.live = true) {leg : Fin 48} {n : Nat} (hn : s.legSheaf leg = some n)
include hl hn

/-- The response of an idle leg, from a state in which only legs and items have changed and the on commands are gone. -/
theorem State.act_shortFault {g : State} (hw : s.WorksLegs g) {src : Nat} (hsrc : src < 256) (hnote : s.Notices (legUnit leg) src)
    (hcmd : ∀ side, ((g.leg leg).driver side).command = false) (forced : Bool) :
    s.ShortFollows (s.act fun _ => g.shortFault leg src forced) leg n src
      ∧ (g.leg leg).Quieter ((s.act fun _ => g.shortFault leg src forced).leg leg) := by
  have hup := (hw.poised (legUnit leg)).takesUp hnote forced hsrc (unitKind_legUnit_ne_sheaf leg)
  have hoff := g.noneGoesOff_detectLeg leg src forced
  have hquiet : (g.leg leg).Quieter ((s.act fun _ => g.shortFault leg src forced).leg leg) :=
    ((g.quiets_shortFault leg src forced).leg leg).trans (s.act_banded (fun _ => g.shortFault leg src forced) hl leg).quieter
  have heq := g.shortFault_eq ((hw.legSheaf leg).trans hn) ((hw.poised (legUnit leg)).notices hnote).1 src forced
  rw [hw.otherShort] at heq
  have hcommand : ∀ side, (((s.act fun _ => g.shortFault leg src forced).leg leg).driver side).command = false := fun side =>
    (hquiet.driver side).1 (hcmd side)
  refine ⟨?_, hquiet⟩
  cases hother : s.otherShort n leg with
  | false =>
    rw [hother, if_neg (by decide)] at heq
    obtain ⟨hshow, hjournal⟩ := s.act_takesUp _ hl hup.applySelection
    rw [heq] at hcommand ⊢
    exact ⟨hshow, hcommand, fun _ => hjournal, fun h => absurd (hother.symm.trans h) (by decide)⟩
  | true =>
    rw [hother, if_pos rfl] at heq
    obtain ⟨hsafe, hshown⟩ := (g.detect (legUnit leg) .F src forced).secondShort_spec (Bind.sheafOfLeg_lt hn)
    rw [heq] at hcommand ⊢
    refine ⟨s.act_shows _ hl (hshown (unitKind_legUnit_ne_sheaf leg) hup.1), hcommand, fun h => absurd (hother.symm.trans h) (by decide),
      fun _ hon => ?_⟩
    rw [State.act_sheaf _ _ hl]
    exact hsafe fun h => hon ((congrArg Sheaf.state (hw.sheaf n)).symm.trans (hoff.sheaf n h))

/-- A row that answers a short with a leg whose on commands are gone. -/
theorem exec_short {c : Instr} {f : State → State} {l : Leg} {counter src : Nat} {forced : Bool} (hexec : exec c s = .next (s.act f))
    (hf : f s = (s.respond leg l counter).shortFault leg src forced) (hsrc : src < 256) (hnote : s.Notices (legUnit leg) src)
    (hcmd : ∀ side, (l.driver side).command = false) :
    ∃ t, exec c s = .next t ∧ s.ShortFollows t leg n src ∧ l.Quieter (t.leg leg) := by
  have hleg := s.respond_leg leg l counter
  have hact := State.act_shortFault hl hn (s.worksLegs_respond leg l counter) hsrc hnote (hleg.symm ▸ hcmd) forced
  rw [hleg] at hact
  exact ⟨_, hexec.trans (congrArg Host.Outcome.next (s.act_to f _ hf)), hact⟩

/-- R174, R176: a desaturation that acts. -/
theorem exec_desaturation_acts {high : Bool} {mv : Int} (hlit : ((s.leg leg).driver high).lit s.time.now = true)
    (hblank : ((s.leg leg).driver high).onAt + s.blanking leg ≤ s.time.now) (hnote : s.Notices (legUnit leg) (if high then 1 else 2)) :
    ∃ t, exec (.desaturation leg high mv) s = .next t ∧ s.ShortFollows t leg n (if high then 1 else 2)
      ∧ ((t.leg leg).driver high).desat = true ∧ ((t.leg leg).driver high).soft = true := by
  have hacts : s.desatActs leg high = true := by unfold State.desatActs; simp [hlit, hblank]
  obtain ⟨t, h, hfollows, hquiet⟩ := exec_short (c := .desaturation leg high mv) hl hn rfl
    ((if_neg (by simp [hn, hacts])).trans (s.desatResponse_eq leg high false mv)) (desatSource_lt high) hnote
    (s.desatLeg_command leg high false mv)
  obtain ⟨-, hdesat, hsoft⟩ := hquiet.driver high
  obtain ⟨hturning, hon⟩ := s.softOff_of_lit leg hlit
  rw [s.desatLeg_driver] at hdesat hsoft
  exact ⟨t, h, hfollows, hdesat rfl, (hsoft hturning hon).1⟩

/-- R175, R176: an over-current without a desaturation on its clock edge. -/
theorem exec_overCurrent_alone {mv : Int} {sat : Option Bool}
    (hout : (s.regN (Item.LEG.OC_POS leg) : Int) < mv ∨ mv < -(s.regN (Item.LEG.OC_NEG leg) : Int))
    (hsat : ∀ high, sat = some high → s.desatActs leg high = false) (hnote : s.Notices (legUnit leg) 3) :
    ∃ t, exec (.overCurrent leg mv sat) s = .next t ∧ s.ShortFollows t leg n 3 ∧ (t.leg leg).oc = true
      ∧ ∀ side, ((s.leg leg).driver side).lit s.time.now = true → ((t.leg leg).driver side).soft = true := by
  have hnone : sat.filter (s.desatActs leg) = none := by
    cases sat with
    | none => rfl
    | some high => simp [Option.filter, hsat high rfl]
  obtain ⟨t, h, hfollows, hquiet⟩ := exec_short (c := .overCurrent leg mv sat) (l := s.overCurrentLeg leg mv)
    (counter := Item.LEG.OC_CNT leg) (forced := s.forced (legUnit leg) 2) hl hn rfl
    ((if_neg (by simp [hn, comparator_trips hout])).trans (by rw [hnone]; rfl)) (by decide) hnote (fun side => by rw [s.overCurrentLeg_driver]; rfl)
  refine ⟨t, h, hfollows, hquiet.2.2 rfl, fun side hlit => ?_⟩
  obtain ⟨-, -, hsoft⟩ := hquiet.driver side
  obtain ⟨hturning, hon⟩ := s.softOff_of_lit leg hlit
  rw [s.overCurrentLeg_driver] at hsoft
  exact (hsoft hturning hon).1

/-- R178: with a desaturation that acts on the same clock edge the record is the desaturation's. -/
theorem exec_overCurrent_with_desaturation {mv : Int} {high : Bool}
    (hout : (s.regN (Item.LEG.OC_POS leg) : Int) < mv ∨ mv < -(s.regN (Item.LEG.OC_NEG leg) : Int)) (hacts : s.desatActs leg high = true)
    (hnote : s.Notices (legUnit leg) (if high then 1 else 2)) :
    ∃ t, exec (.overCurrent leg mv (some high)) s = .next t ∧ s.ShortFollows t leg n (if high then 1 else 2) ∧ (t.leg leg).oc = true
      ∧ ((t.leg leg).driver high).desat = true := by
  have hsome : (some high).filter (s.desatActs leg) = some high := by simp [Option.filter, hacts]
  obtain ⟨t, h, hfollows, hquiet⟩ := exec_short (c := .overCurrent leg mv (some high)) hl hn rfl
    ((if_neg (by simp [hn, comparator_trips hout])).trans (by rw [hsome]; exact s.desatResponse_eq leg high true mv)) (desatSource_lt high) hnote
    (s.desatLeg_command leg high true mv)
  obtain ⟨-, hdesat, -⟩ := hquiet.driver high
  rw [s.desatLeg_driver] at hdesat
  exact ⟨t, h, hfollows, hquiet.2.2 (Bool.or_true _), hdesat rfl⟩

end

/-! ## Gate supplies and off-state checks (R57, R184, R185) -/

/-- The lockout of a domain whose leg is neither proved nor without supplies: the driver's gate held off, the detection counted. -/
def State.lockedOut (s : State) (leg : Nat) (high : Bool) : State :=
  let l := s.leg leg
  (s.setLeg leg (l.setDriver high { l.driver high with uv := true, on := false, soft := false, miller := false })).bump
    (Item.LEG.UV_CNT leg)

theorem State.worksLegs_lockedOut (s : State) (leg : Nat) (high : Bool) : s.WorksLegs (s.lockedOut leg high) := rfl

theorem State.enterLockout_eq (s : State) {leg : Nat} {high : Bool} (hproof : s.legStateCode leg ≠ 2) (hsupply : (s.leg leg).supplies = true)
    (hpath : s.sup.pathB = false) (huv : ((s.leg leg).driver high).uv = false) :
    s.enterLockout leg high = ((s.lockedOut leg high).detect (legUnit leg) .F 4
      (s.forced (legUnit leg) (if high then 6 else 7))).applySelection := by
  unfold State.enterLockout
  exact if_neg (by simp [hproof, hsupply, hpath, huv])

/-- The count of a fold-back, where there was one (R57). -/
def State.foldedBack (s : State) (leg : Nat) (foldback : Bool) : State := if foldback then s.bump (Item.GATE.FOLDBACK_CNT leg) else s

theorem State.foldedBack_spec (s : State) (leg : Nat) (foldback : Bool) :
    s.WorksLegs (s.foldedBack leg foldback) ∧ (s.foldedBack leg foldback).legStateCode leg = s.legStateCode leg
      ∧ (s.foldedBack leg foldback).leg leg = s.leg leg ∧ (s.foldedBack leg foldback).sup = s.sup := by
  cases foldback <;> exact ⟨rfl, rfl, rfl, rfl⟩

/-- R57, R184: rails below their lockout level, in a leg with its supplies and out of proof. -/
theorem exec_gateSupplyUndervoltage_lockout {s : State} (hl : s.live = true) {leg : Fin 48} {n : Nat} (hn : s.legSheaf leg = some n)
    {high : Bool} {pos neg : Int} {foldback : Bool} (hlow : railsLow pos neg = true) (hproof : s.legStateCode leg ≠ 2)
    (hsupply : (s.leg leg).supplies = true) (hpath : s.sup.pathB = false) (huv : ((s.leg leg).driver high).uv = false)
    (hnote : s.Notices (legUnit leg) 4) :
    ∃ t, exec (.gateSupplyUndervoltage leg high pos neg foldback) s = .next t ∧ s.TakesUp t (legUnit leg) .handling .F 4 := by
  obtain ⟨hwork, hcode, hleg, hsup⟩ := s.foldedBack_spec leg foldback
  have hlock := (s.foldedBack leg foldback).enterLockout_eq (leg := leg) (high := high) (hcode ▸ hproof) (hleg ▸ hsupply) (hsup ▸ hpath)
    (hleg ▸ huv)
  have hposed := (hwork.trans (State.worksLegs_lockedOut _ leg high)).poised (legUnit leg)
  exact ⟨_, congrArg Host.Outcome.next (s.act_to _ _ ((if_neg (by simp [hn])).trans ((if_pos (.inl hlow)).trans hlock))),
    s.act_takesUp _ hl (hposed.takesUp hnote _ (by decide) (unitKind_legUnit_ne_sheaf leg)).applySelection⟩

/-- What the off-state checks leave before their detection (R164, R185): the result, the midpoint, the force bit used, and for a bad
temperature input the band of an invalid estimate. -/
def State.offChecked (s : State) (leg bits : Nat) (mid : Int) : State :=
  let s1 := (s.setRegs [(Item.LEG.OFFDIAG_RESULT leg, nw bits), (Item.LEG.MID_V leg, nw (Nat.min mid.toNat 1100))]).useForce
    (legUnit leg) 13
  if bits.testBit 6 then
    (s1.setHeat leg { s1.heat leg with valid := false }).takeBand leg (s1.regN (Item.LEG.BAND_FAILSAFE leg)) true
  else s1

/-- A use of a force bit leaves what a detection turns on. -/
theorem State.poised_useForce (s : State) (u k : Nat) : s.Poised (s.useForce u k) u := by
  have h : (s.useForce u k).unit u = { s.unit u with forceArmed := (s.unit u).forceArmed &&& ~~~(nw (2 ^ k)) } := State.unit_setUnit_same ..
  exact ⟨by rw [h], by rw [h], rfl, le_rfl⟩

/-- What settling may change leaves what a detection turns on. -/
theorem State.Settles.poised {s t : State} (h : s.Settles t) (u : Nat) : s.Poised t u := by
  have hunit : t.unit u = s.unit u := by rw [h.1]; rfl
  exact ⟨by rw [hunit], by rw [hunit], by rw [h.1], by rw [h.1]⟩

theorem State.poised_offChecked (s : State) (leg bits : Nat) (mid : Int) : s.Poised (s.offChecked leg bits mid) (legUnit leg) := by
  unfold State.offChecked
  extract_lets s1
  have h1 : s.Poised s1 (legUnit leg) := ((s.measures_setRegs _).poised _).trans (State.poised_useForce _ _ 13)
  split
  · have hheat : s1.Poised (s1.setHeat leg { s1.heat leg with valid := false }) (legUnit leg) := ⟨rfl, rfl, rfl, le_rfl⟩
    exact (h1.trans hheat).trans ((State.settles_takeBand ..).poised _)
  · exact h1

/-- The off-state checks without their force bit: class F, class W or no detection. -/
theorem State.offCheck_eq (s : State) {leg : Nat} (c : OffCheck) (hforce : s.forceArmed (legUnit leg) 13 = false) :
    (s.offCheck leg c).1 = if offDiagF (s.offBits leg c) then (s.offChecked leg (s.offBits leg c) c.mid).detect (legUnit leg) .F 7 false
      else if s.offBits leg c ≠ 0 then (s.offChecked leg (s.offBits leg c) c.mid).detect (legUnit leg) .W 18 false
      else s.offChecked leg (s.offBits leg c) c.mid := by
  unfold State.offCheck
  rw [hforce]
  rfl

/-- The work of an off-state row before its detection: its turn, and the checks. -/
def State.offDiagWork (s : State) (leg : Nat) (c : OffCheck) : State :=
  (s.every (Timer.offDiag leg) (s.regN (Item.LEG.OFFDIAG_PERIOD leg) * 1000000)).offChecked leg (s.offBits leg c) c.mid

theorem State.poised_offDiagWork (s : State) (leg : Nat) (c : OffCheck) : s.Poised (s.offDiagWork leg c) (legUnit leg) :=
  ((s.measures_every _ _).poised _).trans (State.poised_offChecked ..)

section
variable {s : State} {leg : Fin 48} {check : OffCheck} (hl : s.live = true) (hruns : s.offDiagRuns leg = true)
  (hforce : s.forceArmed (legUnit leg) 13 = false)
include hruns hforce

/-- R185: a leg whose checks run, without their force bit. -/
theorem exec_offStateDiag : exec (.offStateDiag leg check) s = .next (s.act fun _ =>
    if offDiagF (s.offBits leg check) then (s.offDiagWork leg check).detect (legUnit leg) .F 7 false
    else if s.offBits leg check ≠ 0 then (s.offDiagWork leg check).detect (legUnit leg) .W 18 false
    else s.offDiagWork leg check) :=
  congrArg Host.Outcome.next (s.act_to _ _ ((if_neg (by simp [hruns])).trans
    ((s.every (Timer.offDiag leg) (s.regN (Item.LEG.OFFDIAG_PERIOD leg) * 1000000)).offCheck_eq check hforce)))

include hl

/-- Table 6-4: a failed check of class F. -/
theorem exec_offStateDiag_fault (hbad : offDiagF (s.offBits leg check) = true) (hnote : s.Notices (legUnit leg) 7) :
    ∃ t, exec (.offStateDiag leg check) s = .next t ∧ s.TakesUp t (legUnit leg) .handling .F 7 := by
  rw [exec_offStateDiag hruns hforce, if_pos hbad]
  exact ⟨_, rfl, s.act_takesUp _ hl ((s.poised_offDiagWork leg check).takesUp hnote false (by decide) (unitKind_legUnit_ne_sheaf leg))⟩

/-- Table 6-4: failed checks of class W alone. -/
theorem exec_offStateDiag_warning (hgood : offDiagF (s.offBits leg check) = false) (hbits : s.offBits leg check ≠ 0)
    (hnote : s.Notices (legUnit leg) 18) :
    ∃ t, exec (.offStateDiag leg check) s = .next t ∧ t.Shows (legUnit leg) .idle .W 18 := by
  rw [exec_offStateDiag hruns hforce, if_neg (ne_of_eq_of_ne hgood (by decide)), if_pos hbits]
  exact ⟨_, rfl, s.act_shows _ hl ((s.poised_offDiagWork leg check).shows hnote false)⟩

end

/-- Settles O11: the response takes both on commands from the leg, and nothing that follows it gives them back; the detection is the idle
unit's, and a second short puts the sheaf in SAFE (R180, assumption log 121). -/
theorem shortCircuitsLatchTheLeg : Obligations.ShortCircuitsLatchTheLeg := by
  intro s leg n hl hn hidle
  refine ⟨fun high mv hlit hblank hrank => exec_desaturation_acts hl hn hlit hblank ⟨hidle, hrank⟩,
    fun high mv hblank hforce => exec_desaturation_blanked hl hblank hforce,
    fun mv sat hout hsat hrank => exec_overCurrent_alone hl hn hout hsat ⟨hidle, hrank⟩,
    fun mv high hout hacts hrank => exec_overCurrent_with_desaturation hl hn hout hacts ⟨hidle, hrank⟩,
    fun high pos neg foldback hlow hproof hsupply hpath huv hrank =>
      exec_gateSupplyUndervoltage_lockout hl hn hlow hproof hsupply hpath huv ⟨hidle, hrank⟩,
    fun check hruns hforce => ⟨fun hbad hrank => exec_offStateDiag_fault hl hruns hforce hbad ⟨hidle, hrank⟩,
      fun hgood hbits hrank => exec_offStateDiag_warning hl hruns hforce hgood hbits ⟨hidle, hrank⟩⟩⟩

end Sys2Proof.Machine

namespace Sys2Proof.Machine

/-! ## A host command whose turn has come (R36, R37, R124 to R126) -/

/-- A command that is due does its work: its row runs it on the state as it is. -/
theorem State.Due.hostRow {s : State} {slot index : Nat} {r : CmdRec} (h : s.Due slot index r) (hk : s.dev.state ≠ .locked)
    {is : HostMsg → Bool} (his : is r.msg = true) (f : State → HostMsg → State) :
    s.hostRow slot index is f = f s r.msg := by
  have hstart : s.start slot index r f = f s r.msg := by
    unfold State.start
    rw [if_neg (fun hc => hk hc.1), if_neg (by simp [h.claim]), h.alone]
  unfold State.hostRow State.launch
  rw [h.cmd]
  simp only [h.waiting, his, h.may, and_self, if_true, Bool.not_true, Bool.false_eq_true, if_false]
  rw [if_neg (fun hc => absurd hc.1 (Nat.not_le.mpr h.early))]
  rcases h.time with hnone | ⟨t, hsome, hfrom, hto⟩
  · rw [hnone]
    exact hstart
  · rw [hsome]
    simp only
    rw [if_neg (Nat.not_lt.mpr hfrom), if_neg (Nat.not_lt.mpr hto)]
    exact hstart

/-- What a host row keeps: what completions keep and its command's work keeps. -/
theorem State.hostRow_keeps {P : State → Prop} (hcomplete : ∀ s t, State.Completes s t → P s → P t) {f : State → HostMsg → State}
    (hf : ∀ s m, P s → P (f s m)) (s : State) (slot index : Nat) (is : HostMsg → Bool) (h : P s) : P (s.hostRow slot index is f) := by
  have hends : ∀ r, s.Completes (s.endWaiting r) := fun r =>
    State.forEach_rel State.Completes.refl (fun _ _ _ => State.Completes.trans) _ (fun t p => t.completes_complete ..) _ s
  have hcomp : ∀ code reason result, P (s.complete slot index code reason result) := fun code reason result =>
    hcomplete _ _ (s.completes_complete ..) h
  have hstart : ∀ r, P (s.start slot index r f) := fun r => by
    unfold State.start
    split
    · exact hcomp ..
    · split
      · exact hcomp ..
      · exact hf _ _ (hcomplete _ _ (hends r) h)
  unfold State.hostRow State.launch
  split
  · split
    · split
      · exact hcomp ..
      · split
        · exact h
        · split
          · exact hstart _
          · split
            · exact h
            · split
              · exact hcomp ..
              · exact hstart _
    · exact h
  · exact h

/-- A command's work so far: its record, the attachment of the slots, device time, the values that wait and the device's state stand. -/
structure State.Working (s u : State) : Prop where
  recs : u.recs = s.recs
  status : ∀ n, (u.slot n).status = (s.slot n).status
  time : u.time = s.time
  waits : u.waits = s.waits
  swaps : u.swaps = s.swaps
  state : u.dev.state = s.dev.state

section
variable {s u : State} {slot index : Nat} {r : CmdRec}

/-- In a calm state a command that works and completes does no more than that. -/
theorem State.Calm.act_complete (hc : s.Calm) (h : s.Working u) (code reason : Nat) (result : List Byte) :
    s.act (fun _ => u.complete slot index code reason result) = s.keepLive (u.complete slot index code reason result) := by
  have hcomp := u.completes_complete slot index code reason result
  exact hc.act _ ((congrArg State.waits hcomp).trans h.waits) ((congrArg State.swaps hcomp).trans h.swaps)
    (((congrArg (fun t => t.dev.state) hcomp)).trans h.state)

/-- A due command that works and completes is answered with that completion. -/
theorem State.Due.answers (hd : s.Due slot index r) (h : s.Working u) (code reason : Nat) (result : List Byte) :
    (s.keepLive (u.complete slot index code reason result)).Answers slot index r code reason result := by
  have hcmd : u.cmd slot index = some r := by
    unfold State.cmd
    rw [h.recs]
    exact hd.cmd
  have hslot : (u.slot slot).status ≠ .free := by
    rw [h.status]
    exact hd.held
  have hcomp := u.completes_complete slot index code reason result
  have hnow : (u.complete slot index code reason result).time = s.time := (congrArg State.time hcomp).trans h.time
  have hmax : (s.keepLive (u.complete slot index code reason result)).time.now = u.time.now := by
    show max s.time.now (u.complete slot index code reason result).time.now = u.time.now
    rw [hnow, h.time, max_self]
  unfold State.Answers
  rw [State.keepLive_cmd, u.complete_cmd slot index code reason result r hcmd hslot, hmax]

end

end Sys2Proof.Machine

namespace Sys2Proof.Machine

/-! ## The stores' canonical form (Table 3-1, R95 to R98, R505, R506) -/

/-- Both stores in canonical form. -/
def State.Canonical (s : State) : Prop :=
  KMap.wf (fun _ => (0 : Byte)) s.store.bytes = true ∧ KMap.wf (fun _ => (0 : Byte)) s.store.fwBytes = true

/-- What leaves both stores' bytes leaves their form. -/
theorem State.Canonical.of_eq {s t : State} (h : s.Canonical) (hb : t.store.bytes = s.store.bytes)
    (hf : t.store.fwBytes = s.store.fwBytes) : t.Canonical := by
  unfold State.Canonical
  rw [hb, hf]
  exact h

theorem State.Completes.store {s t : State} (h : s.Completes t) : t.store = s.store := by
  unfold State.Completes at h
  rw [h]

theorem State.Canonical.of_store {s t : State} (h : s.Canonical) (hs : t.store = s.store) : t.Canonical :=
  h.of_eq (by rw [hs]) (by rw [hs])

theorem State.Canonical.setCommit {s : State} (h : s.Canonical) (c : Commit) : State.Canonical { s with commit := c } := h.of_store rfl

theorem State.Canonical.completes {s t : State} (h : s.Completes t) (hs : s.Canonical) : t.Canonical :=
  hs.of_store h.store

/-- Bytes written into the image store keep the form, and so do bytes written into the firmware store. -/
theorem State.Canonical.put {s t : State} (h : s.Canonical) (a : Nat) (l : List Byte)
    (ht : (t.store.bytes = putBytes s.store.bytes a l ∧ t.store.fwBytes = s.store.fwBytes)
      ∨ (t.store.bytes = s.store.bytes ∧ t.store.fwBytes = putBytes s.store.fwBytes a l)) : t.Canonical := by
  unfold State.Canonical
  rcases ht with ⟨hb, hf⟩ | ⟨hb, hf⟩ <;> rw [hb, hf]
  · exact ⟨putBytes_wf _ _ _ h.1, h.2⟩
  · exact ⟨h.1, putBytes_wf _ _ _ h.2⟩

theorem State.setRegs_store (s : State) (l : List (Nat × Word)) : (s.setRegs l).store = s.store := by
  induction l generalizing s with
  | nil => rfl
  | cons p l ih => exact ih _

theorem State.pauseWrites_store (s : State) : s.pauseWrites.store = s.store := by
  unfold State.pauseWrites
  split <;> rfl

/-- Erasing an image's header writes zeros over it. -/
theorem State.eraseImage_store (s : State) (k : Nat) :
    (s.eraseImage k).store = { s.store with bytes := putBytes s.store.bytes (imageBase k) (List.replicate 128 0) } := by
  unfold State.eraseImage
  rw [State.setRegs_store]

theorem State.canonical_eraseImage {s : State} (h : s.Canonical) (k : Nat) : (s.eraseImage k).Canonical := by
  refine h.put (imageBase k) (List.replicate 128 0) (.inl ?_)
  simp only [s.eraseImage_store, and_self]

theorem State.canonical_eraseFirmware {s : State} (h : s.Canonical) (k st : Nat) : (s.eraseFirmware k st).Canonical := by
  refine h.put (k * 2 ^ 24) (List.replicate 128 0) (.inr ?_)
  simp only [State.eraseFirmware, and_self]

theorem State.canonical_complete {s : State} (h : s.Canonical) (slot index code reason : Nat) (result : List Byte) :
    (s.complete slot index code reason result).Canonical := h.completes (s.completes_complete ..)

theorem State.canonical_pauseWrites {s : State} (h : s.Canonical) : s.pauseWrites.Canonical :=
  h.of_store s.pauseWrites_store

theorem State.canonical_setRegs {s : State} (h : s.Canonical) (l : List (Nat × Word)) : (s.setRegs l).Canonical :=
  h.of_store (s.setRegs_store l)

/-- The image store claimed for a slot by its first chunk, the header erased; as it is where a claim stands (R96). -/
def State.imageClaimed (s : State) (slot : Nat) : State :=
  if s.commit.claim.isNone then
    let t := s.eraseImage s.commitSlot
    { t with commit := { t.commit with claim := some slot, header := [] } }
  else s

/-- A chunk of an image: what falls in the header is held back, the rest is written (R97). -/
def State.imageWritten (s : State) (k off : Nat) (d : List Byte) : State :=
  { s with
    commit := { s.commit with header := putBytes s.commit.header off (splitChunk off d).1, last := s.time.now }
    store := { s.store with bytes := putBytes s.store.bytes (imageBase k + Nat.max 128 off) (splitChunk off d).2 } }

theorem State.imageChunk_eq (s : State) (slot index off : Nat) (d : List Byte) :
    s.imageChunk slot index off d
      = if imageSize < off + d.length then s.invalid slot index Reason.range
        else if s.commit.claim.isNone ∧ off ≠ 0 then s.invalid slot index Reason.state
        else ((s.imageClaimed slot).imageWritten s.commitSlot off d).pauseWrites.ok slot index [] := rfl

/-- The held header written over an image's own, the claim ended (R98). -/
def State.imageHeaded (s : State) : State :=
  { s with
    store := { s.store with bytes := putBytes s.store.bytes (imageBase s.commitSlot) (heldHeader s.commit.header) }
    commit := { s.commit with claim := none, header := [], last := s.time.now } }

/-- A seal's entry in the service log (R510). -/
def State.imageLogged (s : State) (slot k : Nat) : State :=
  s.serviceLog 6 slot (k + (if s.imageValid k then 0 else 0x8000)) (nw (s.imageField k 8 4))

/-- A commit counts. -/
def State.countCommit (s : State) : State := { s with store := { s.store with commits := s.store.commits + 1 } }

theorem State.canonical_countCommit {s : State} (h : s.Canonical) : s.countCommit.Canonical := h.of_eq rfl rfl

/-- A valid image taken: the commit counts, IMG.STATUS and IMG.SEQ show it. -/
def State.imageTaken (s : State) (slot k : Nat) : State :=
  (s.imageLogged slot k).countCommit.setRegs
    (if k = 0 then [(Item.IMG.STATUS_A, nw (s.imageStatus k)), (Item.IMG.SEQ_A, nw (s.imageField k 8 4))]
      else [(Item.IMG.STATUS_B, nw (s.imageStatus k)), (Item.IMG.SEQ_B, nw (s.imageField k 8 4))])

/-- An image that is not valid dropped: its header is erased, IMG.STATUS shows what the check found. -/
def State.imageDropped (s : State) (slot k : Nat) : State :=
  ((s.imageLogged slot k).eraseImage k).setReg (if k = 0 then Item.IMG.STATUS_A else Item.IMG.STATUS_B) (nw (s.imageStatus k))

theorem State.imageSeal_eq (s : State) (slot index : Nat) :
    s.imageSeal slot index
      = if s.commit.claim.isNone then s.invalid slot index Reason.state
        else if s.imageHeaded.imageValid s.commitSlot then (s.imageHeaded.imageTaken slot s.commitSlot).pauseWrites.ok slot index []
        else (s.imageHeaded.imageDropped slot s.commitSlot).useFree.pauseWrites.invalid slot index
          ((s.imageHeaded.imageDropped slot s.commitSlot).freeWord.toNat % 256) := rfl

/-- The firmware store claimed for a slot by its first chunk (R506). -/
def State.fwClaimed (s : State) (slot : Nat) : State :=
  if s.commit.fwClaim.isNone then
    let t := s.eraseFirmware (1 - s.store.fwRun) 0
    { t with commit := { t.commit with fwClaim := some slot, fwHeader := [] } }
  else s

/-- A chunk of a firmware slot (R506). -/
def State.fwWritten (s : State) (k off : Nat) (d : List Byte) : State :=
  { s with
    commit := { s.commit with fwHeader := putBytes s.commit.fwHeader off (splitChunk off d).1, fwLast := s.time.now }
    store := { s.store with fwBytes := putBytes s.store.fwBytes (k * 2 ^ 24 + Nat.max 128 off) (splitChunk off d).2 } }

theorem State.firmwareChunk_eq (s : State) (slot index off : Nat) (d : List Byte) :
    s.firmwareChunk slot index off d
      = if firmwareSize < off + d.length then s.invalid slot index Reason.range
        else if s.commit.fwClaim.isNone ∧ off ≠ 0 then s.invalid slot index Reason.state
        else ((s.fwClaimed slot).fwWritten (1 - s.store.fwRun) off d).pauseWrites.ok slot index [] := rfl

/-- The held header written over a firmware slot's own, the claim ended (R505). -/
def State.fwHeaded (s : State) : State :=
  { s with
    store := { s.store with fwBytes := putBytes s.store.fwBytes ((1 - s.store.fwRun) * 2 ^ 24) (heldHeader s.commit.fwHeader) }
    commit := { s.commit with fwClaim := none, fwHeader := [], fwLast := s.time.now } }

/-- Whether a firmware slot is valid and its interface version is one that the booted image takes (R505). -/
def State.fwGood (s : State) (k : Nat) : Bool := s.firmwareValid k && decide (s.firmwareMin ≤ s.fwField k 0x16 2)

/-- A seal's entry in the service log (R510). -/
def State.fwLogged (s : State) (slot k : Nat) : State :=
  s.serviceLog 7 slot (k + (if s.fwGood k then 0 else 0x8000)) (nw (s.fwField k 8 4))

/-- Valid firmware taken: the slot is PENDING with its versions, the commit counts (R506). -/
def State.fwTaken (s : State) (slot k : Nat) : State :=
  let t := (s.fwLogged slot k).setFwState k 3
  { t with store := { t.store with fwVersion := t.store.fwVersion.set k (s.fwField k 8 4)
                                   fwIface := t.store.fwIface.set k (s.fwField k 0x16 2)
                                   commits := t.store.commits + 1 } }

theorem State.firmwareSeal_eq (s : State) (slot index : Nat) :
    s.firmwareSeal slot index
      = let k := 1 - s.store.fwRun
        let t := (s.fwHeaded.fwLogged slot k).eraseFirmware k 6
        if s.commit.fwClaim.isNone then s.invalid slot index Reason.state
        else if s.fwHeaded.fwGood k then (s.fwHeaded.fwTaken slot k).pauseWrites.ok slot index []
        else if s.fwHeaded.firmwareValid k then t.pauseWrites.invalid slot index Reason.fwImage
        else t.useFree.pauseWrites.invalid slot index (t.freeWord.toNat % 256) := rfl

/-- A chunk for the image store keeps the form: it writes bytes, after an erased header where it is the first (R95 to R97). -/
theorem State.canonical_imageChunk {s : State} (h : s.Canonical) (slot index off : Nat) (d : List Byte) :
    (s.imageChunk slot index off d).Canonical := by
  have hclaimed : (s.imageClaimed slot).Canonical := by
    unfold State.imageClaimed
    split
    · exact (State.canonical_eraseImage h s.commitSlot).setCommit _
    · exact h
  have hwritten : ((s.imageClaimed slot).imageWritten s.commitSlot off d).Canonical := hclaimed.put _ _ (.inl ⟨rfl, rfl⟩)
  rw [State.imageChunk_eq]
  split
  · exact State.canonical_complete h ..
  · split
    · exact State.canonical_complete h ..
    · exact State.canonical_complete (State.canonical_pauseWrites hwritten) ..

/-- A chunk for the firmware store keeps the form (R506). -/
theorem State.canonical_firmwareChunk {s : State} (h : s.Canonical) (slot index off : Nat) (d : List Byte) :
    (s.firmwareChunk slot index off d).Canonical := by
  have hclaimed : (s.fwClaimed slot).Canonical := by
    unfold State.fwClaimed
    split
    · exact (State.canonical_eraseFirmware h (1 - s.store.fwRun) 0).setCommit _
    · exact h
  have hwritten : ((s.fwClaimed slot).fwWritten (1 - s.store.fwRun) off d).Canonical := hclaimed.put _ _ (.inr ⟨rfl, rfl⟩)
  rw [State.firmwareChunk_eq]
  split
  · exact State.canonical_complete h ..
  · split
    · exact State.canonical_complete h ..
    · exact State.canonical_complete (State.canonical_pauseWrites hwritten) ..

/-- The seal of an image keeps the form: the held header is written, and erased again where the slot is not valid (R98). -/
theorem State.canonical_imageSeal {s : State} (h : s.Canonical) (slot index : Nat) : (s.imageSeal slot index).Canonical := by
  have hheaded : s.imageHeaded.Canonical := h.put _ _ (.inl ⟨rfl, rfl⟩)
  have hlogged : (s.imageHeaded.imageLogged slot s.commitSlot).Canonical := hheaded.of_eq rfl rfl
  rw [State.imageSeal_eq]
  split
  · exact State.canonical_complete h ..
  · split
    · exact State.canonical_complete (State.canonical_pauseWrites (State.canonical_setRegs (State.canonical_countCommit hlogged) _)) ..
    · have hdropped : (s.imageHeaded.imageDropped slot s.commitSlot).Canonical :=
        (State.canonical_eraseImage hlogged s.commitSlot).of_store (State.setReg_store ..)
      exact State.canonical_complete (State.canonical_pauseWrites (hdropped.of_store (State.useFree_store _))) ..

/-- The seal of a firmware slot keeps the form (R505, R506). -/
theorem State.canonical_firmwareSeal {s : State} (h : s.Canonical) (slot index : Nat) : (s.firmwareSeal slot index).Canonical := by
  have hheaded : s.fwHeaded.Canonical := h.put _ _ (.inr ⟨rfl, rfl⟩)
  have hlogged : (s.fwHeaded.fwLogged slot (1 - s.store.fwRun)).Canonical := hheaded.of_eq rfl rfl
  have htaken : (s.fwHeaded.fwTaken slot (1 - s.store.fwRun)).Canonical := hheaded.of_eq rfl rfl
  have herased := State.canonical_eraseFirmware hlogged (1 - s.store.fwRun) 6
  rw [State.firmwareSeal_eq]
  extract_lets k t
  split
  · exact State.canonical_complete h ..
  · split
    · exact State.canonical_complete (State.canonical_pauseWrites htaken) ..
    · split
      · exact State.canonical_complete (State.canonical_pauseWrites herased) ..
      · exact State.canonical_complete (State.canonical_pauseWrites (herased.of_store (State.useFree_store _))) ..

/-- NV_COMMIT keeps the form, whatever it answers. -/
theorem State.canonical_doCommit {s : State} (h : s.Canonical) (slot index : Nat) (m : HostMsg) : (s.doCommit slot index m).Canonical := by
  unfold State.doCommit
  extract_lets p off d fw t
  have ht : t.Canonical := by
    unfold t State.commitHeard
    split
    · exact h
    · split <;> exact h.of_eq rfl rfl
  split
  · exact State.canonical_complete ht ..
  · split
    · exact State.canonical_complete ht ..
    · split
      · split
        · exact State.canonical_firmwareSeal ht ..
        · exact State.canonical_imageSeal ht ..
      · split
        · split
          · exact State.canonical_complete ht ..
          · exact State.canonical_firmwareChunk ht ..
        · exact State.canonical_imageChunk ht ..

theorem State.canonical_commitRow {s : State} (h : s.Canonical) (slot index : Nat) (is : HostMsg → Bool) :
    (s.commitRow slot index is).Canonical :=
  State.hostRow_keeps (P := State.Canonical) (fun _ _ hcomp hs => hs.completes hcomp)
    (fun _ m hs => State.canonical_doCommit hs slot index m) s slot index _ h

/-- The frame of a live device keeps the form: settling leaves the stores alone. -/
theorem State.canonical_act {s : State} (h : s.Canonical) (f : State → State) (hf : (f s).Canonical) : (s.act f).Canonical := by
  unfold State.act
  split
  · have hstore : (f s).chargeSafe.settle.store = (f s).store := by rw [(f s).settles_done.1]
    refine hf.of_eq ?_ ?_
    · show (f s).chargeSafe.settle.store.bytes = _
      rw [hstore]
    · show (f s).chargeSafe.settle.store.fwBytes = _
      rw [hstore]
  · exact h

/-- Settles O60: each of the four rows writes the stores through byte writes alone, and a byte write keeps a sparse map canonical
(assumption logs 8 and 102). -/
theorem commitsKeepTheStoresCanonical : Obligations.CommitsKeepTheStoresCanonical := by
  intro s t slot index c hc hbytes hfw h
  have hrow : ∀ is, (s.act fun u => u.commitRow slot index is).Canonical := fun is =>
    State.canonical_act ⟨hbytes, hfw⟩ _ (State.canonical_commitRow ⟨hbytes, hfw⟩ slot index is)
  rcases hc with rfl | rfl | rfl | rfl <;> cases h <;> exact hrow _

end Sys2Proof.Machine

namespace Sys2Proof.Machine

/-! ## What NV_COMMIT writes (R95 to R98, R505, R506) -/

/-- What NV_COMMIT changes before it answers: the commit's books, the stores, items, the list of bad words, the free counter. -/
def State.Commits (s t : State) : Prop :=
  t = { s with commit := t.commit, store := t.store, regs := t.regs, badWords := t.badWords, dev := { s.dev with free := t.dev.free } }

theorem State.Commits.trans {s t u : State} (h : s.Commits t) (k : t.Commits u) : s.Commits u := by
  unfold State.Commits at *
  rw [k, h]

theorem State.Commits.working {s t : State} (h : s.Commits t) : s.Working t := by
  unfold State.Commits at h
  rw [h]
  exact ⟨rfl, fun _ => rfl, rfl, rfl, rfl, rfl⟩

/-- A change of the two stores' books alone. -/
theorem State.commits_setStore (s : State) (c : Commit) (st : Store) : s.Commits { s with commit := c, store := st } := rfl

theorem State.commits_setRegs (s : State) (l : List (Nat × Word)) : s.Commits (s.setRegs l) := by
  induction l generalizing s with
  | nil => rfl
  | cons p l ih => exact State.Commits.trans (t := s.setReg p.1 p.2) rfl (ih _)

/-- A pause moves nothing but the commit's pause (R468). -/
theorem State.pauseWrites_eq (s : State) : ∃ p, s.pauseWrites = { s with commit := { s.commit with pauseUntil := p } } := by
  unfold State.pauseWrites
  split
  · exact ⟨_, rfl⟩
  · exact ⟨s.commit.pauseUntil, rfl⟩

theorem State.commits_pauseWrites (s : State) : s.Commits s.pauseWrites := by
  obtain ⟨p, hp⟩ := s.pauseWrites_eq
  rw [hp]
  rfl

theorem State.commits_eraseImage (s : State) (k : Nat) : s.Commits (s.eraseImage k) := by
  unfold State.eraseImage
  extract_lets st s1
  have h1 : s.Commits s1 := by
    unfold s1 State.Commits
    rfl
  exact h1.trans (s1.commits_setRegs _)

theorem State.commits_eraseFirmware (s : State) (k st : Nat) : s.Commits (s.eraseFirmware k st) := by
  unfold State.eraseFirmware
  exact s.commits_setStore s.commit _

theorem State.commits_useFree (s : State) : s.Commits s.useFree := rfl

theorem State.commits_imageClaimed (s : State) (slot : Nat) : s.Commits (s.imageClaimed slot) := by
  unfold State.imageClaimed
  split
  · exact (s.commits_eraseImage _).trans (State.commits_setStore ..)
  · rfl

theorem State.commits_fwClaimed (s : State) (slot : Nat) : s.Commits (s.fwClaimed slot) := by
  unfold State.fwClaimed
  split
  · exact (s.commits_eraseFirmware _ 0).trans (State.commits_setStore ..)
  · rfl

theorem State.commits_imageWritten (s : State) (k off : Nat) (d : List Byte) : s.Commits (s.imageWritten k off d) := rfl

theorem State.commits_fwWritten (s : State) (k off : Nat) (d : List Byte) : s.Commits (s.fwWritten k off d) := rfl

theorem State.commits_imageTaken (s : State) (slot k : Nat) : s.Commits (s.imageTaken slot k) :=
  State.Commits.trans (t := (s.imageLogged slot k).countCommit) rfl (State.commits_setRegs ..)

theorem State.commits_imageDropped (s : State) (slot k : Nat) : s.Commits (s.imageDropped slot k) :=
  State.Commits.trans (t := s.imageLogged slot k) rfl ((State.commits_eraseImage _ k).trans rfl)

theorem State.commits_fwLogged (s : State) (slot k : Nat) : s.Commits (s.fwLogged slot k) := rfl

theorem State.commits_fwTaken (s : State) (slot k : Nat) : s.Commits (s.fwTaken slot k) := rfl

/-- The claim, the held headers and the last NV_COMMIT are as they were: only the pause may have moved. -/
def Commit.SameClaims (c d : Commit) : Prop := ∃ p, d = { c with pauseUntil := p }

/-- The bytes of both stores, the count of commits and the slots' states. -/
structure Store.SameImages (a b : Store) : Prop where
  bytes : b.bytes = a.bytes
  fwBytes : b.fwBytes = a.fwBytes
  commits : b.commits = a.commits
  fwState : b.fwState = a.fwState

/-- What an answered NV_COMMIT leaves of its work. -/
structure State.Committed (u t : State) : Prop where
  claims : u.commit.SameClaims t.commit
  images : u.store.SameImages t.store

section
variable {s : State} {slot : Fin 8} {index : Fin 64} {r : CmdRec} (hc : s.Calm) (hd : s.Due slot index r)
include hc hd

/-- An NV_COMMIT of a due record that works on the stores and pauses: it is answered, and the stores are as its work left them. -/
theorem State.act_commit_answers {is : HostMsg → Bool} (hop : op r.msg = Op.nvCommit) (his : is r.msg = true) {u : State}
    (hu : s.Commits u) {code reason : Nat}
    (hwork : s.doCommit slot index r.msg = u.pauseWrites.complete slot index code reason []) :
    ∃ t, (.next (s.act fun v => v.commitRow slot index is) : Host.Outcome State Fault Refusal) = .next t
      ∧ t.Answers slot index r code reason [] ∧ u.Committed t := by
  have hrow : s.commitRow slot index is = u.pauseWrites.complete slot index code reason [] :=
    (hd.hostRow hc.locked (by simp [hop, his]) _).trans hwork
  have hw : s.Working u.pauseWrites := (hu.trans u.commits_pauseWrites).working
  have hcomp := u.pauseWrites.completes_complete slot index code reason []
  obtain ⟨p, hp⟩ := u.pauseWrites_eq
  refine ⟨_, rfl, ?_, ?_⟩
  · rw [s.act_to _ _ hrow, hc.act_complete hw]
    exact hd.answers hw ..
  · rw [s.act_to _ _ hrow, hc.act_complete hw]
    generalize u.pauseWrites.complete slot index code reason [] = v at *
    unfold State.Completes at hcomp
    rw [hcomp, hp]
    exact ⟨⟨p, rfl⟩, ⟨rfl, rfl, rfl, rfl⟩⟩

end

/-- A well-formed NV_COMMIT (Table 4-3): offset and flag, three zero bytes, at most 1,024 bytes of data. -/
def commitFormed (m : HostMsg) : Prop := 8 ≤ m.payload.length ∧ m.payload.length ≤ 1032 ∧ beAt m.payload 5 3 = 0

/-- A well-formed NV_COMMIT whose store no other slot claims runs its chunk or seal. -/
theorem State.doCommit_eq {s : State} {slot index : Nat} {m : HostMsg} (hm : commitFormed m)
    (hflag : beAt m.payload 4 1 = 0 ∨ (beAt m.payload 4 1 = 1 ∧ m.payload.length = 8))
    (hclaim : s.commitHolder (toFirmware m) = some slot ∨ s.commitHolder (toFirmware m) = none)
    (hoff : toFirmware m = true → beAt m.payload 4 1 = 0 → beAt m.payload 0 4 % 2 ^ 31 < firmwareSize) :
    s.doCommit slot index m
      = let t := s.commitHeard slot (toFirmware m)
        let off := beAt m.payload 0 4 % 2 ^ 31
        let d := m.payload.drop 8
        if seals m then (if toFirmware m then t.firmwareSeal slot index else t.imageSeal slot index)
        else if toFirmware m then t.firmwareChunk slot index off d else t.imageChunk slot index off d := by
  obtain ⟨hlo, hhi, hzero⟩ := hm
  have hholder : (s.commitHeard slot (toFirmware m)).commitHolder (toFirmware m) = s.commitHolder (toFirmware m) := by
    unfold State.commitHeard
    split
    · rfl
    · cases toFirmware m <;> rfl
  have hdata : seals m = true → m.payload.drop 8 = [] := fun hs => by
    have hone : beAt m.payload 4 1 = 1 := by simpa [seals] using hs
    rcases hflag with h0 | ⟨-, hlen⟩
    · omega
    · exact List.drop_eq_nil_of_le hlen.le
  unfold State.doCommit
  extract_lets p off d fw t
  rw [if_neg (by rw [hholder]; rcases hclaim with h | h <;> simp [h]), if_neg]
  · by_cases hs : seals m = true
    · rw [if_pos hs, if_pos hs]
    · rw [if_neg hs, if_neg hs]
      by_cases hfw : fw = true
      · have h0 : beAt m.payload 4 1 = 0 := by
          rcases hflag with h0 | ⟨h1, -⟩
          · exact h0
          · exact absurd (by simp [seals, h1]) hs
        rw [if_pos hfw, if_pos hfw]
        exact if_neg (Nat.not_le.mpr (hoff hfw h0))
      · rw [if_neg hfw, if_neg hfw]
  · rintro (h | h | h | h | ⟨hs, hne⟩)
    · exact absurd h (Nat.not_lt.mpr hlo)
    · exact absurd h (Nat.not_lt.mpr hhi)
    · exact h hzero
    · rcases hflag with h0 | ⟨h1, -⟩
      · exact absurd h (by rw [h0]; decide)
      · exact absurd h (by rw [h1]; decide)
    · exact hne (hdata hs)

/-- Hearing the holder restarts its 10 s and moves nothing else (R96). -/
theorem State.commitHeard_eq (s : State) (slot : Nat) (fw : Bool) :
    ∃ c : Commit, s.commitHeard slot fw = { s with commit := c } ∧ c.claim = s.commit.claim ∧ c.header = s.commit.header
      ∧ c.fwClaim = s.commit.fwClaim ∧ c.fwHeader = s.commit.fwHeader := by
  unfold State.commitHeard
  split
  · exact ⟨s.commit, rfl, rfl, rfl, rfl, rfl⟩
  · split <;> exact ⟨_, rfl, rfl, rfl, rfl, rfl⟩

/-! ### Reading the stores back -/

/-- A list from a place on, read at a place of the whole. -/
theorem getD_drop_sub (d : List Byte) {n i : Nat} (h : n ≤ i) : (d.drop n).getD (i - n) 0 = d.getD i 0 := by
  rw [List.getD_eq_getElem?_getD, List.getElem?_drop, Nat.add_sub_cancel' h, List.getD_eq_getElem?_getD]

/-- A list up to a place, read before it. -/
theorem getD_take_of_lt (d : List Byte) {n i : Nat} (h : i < n) : (d.take n).getD i 0 = d.getD i 0 := by
  rw [List.getD_eq_getElem?_getD, List.getElem?_take_of_lt h, List.getD_eq_getElem?_getD]

/-- The data of a chunk beyond the header stand where they belong (R97). -/
theorem chunk_bytes_written (m : KMap Byte) (base off : Nat) (d : List Byte) {i : Nat} (hi : i < d.length) (hoff : 128 ≤ off + i) :
    KMap.get (fun _ => (0 : Byte)) (putBytes m (base + Nat.max 128 off) (splitChunk off d).2) (base + off + i) = d.getD i 0 := by
  have hmax : Nat.max 128 off = off + (128 - off) := by
    rcases Nat.le_total 128 off with h | h
    · exact (Nat.max_eq_right h).trans (by omega)
    · exact (Nat.max_eq_left h).trans (by omega)
  rw [putBytes_get, if_pos]
  · rw [hmax, show base + off + i - (base + (off + (128 - off))) = i - (128 - off) by omega]
    exact getD_drop_sub d (by omega)
  · simp only [splitChunk, List.length_drop]
    omega

/-- The data of a chunk stand nowhere else. -/
theorem chunk_bytes_elsewhere (m : KMap Byte) (base size off : Nat) (d : List Byte) (hfit : off + d.length ≤ size) {a : Nat}
    (ha : a < base ∨ base + size ≤ a) :
    KMap.get (fun _ => (0 : Byte)) (putBytes m (base + Nat.max 128 off) (splitChunk off d).2) a = KMap.get (fun _ => (0 : Byte)) m a := by
  rw [putBytes_get, if_neg]
  simp only [splitChunk, List.length_drop]
  have := Nat.le_max_left 128 off
  have : Nat.max 128 off ≤ off + (128 - off) := Nat.max_le.mpr (by omega)
  omega

/-- The data of a chunk that fall in the header are held there (R97). -/
theorem chunk_header_held (m : KMap Byte) (off : Nat) (d : List Byte) {i : Nat} (hi : i < d.length) (hoff : off + i < 128) :
    KMap.get (fun _ => (0 : Byte)) (putBytes m off (splitChunk off d).1) (off + i) = d.getD i 0 := by
  rw [putBytes_get, if_pos]
  · rw [Nat.add_sub_cancel_left]
    exact getD_take_of_lt d (by omega)
  · simp only [splitChunk, List.length_take]
    omega

/-- An erased header reads as zeros. -/
theorem erased_header_zero {m m' : KMap Byte} {base : Nat} (h : m' = putBytes m base (List.replicate 128 0)) {i : Nat} (hi : i < 128) :
    KMap.get (fun _ => (0 : Byte)) m' (base + i) = 0 := by
  rw [h, putBytes_get, List.length_replicate, if_pos (by omega), List.getD_replicate]
  omega

/-- An erased header leaves what lies outside its slot. -/
theorem erased_header_elsewhere {m m' : KMap Byte} {base size a : Nat} (h : m' = putBytes m base (List.replicate 128 0))
    (hsize : 128 ≤ size) (ha : a < base ∨ base + size ≤ a) :
    KMap.get (fun _ => (0 : Byte)) m' a = KMap.get (fun _ => (0 : Byte)) m a := by
  rw [h, putBytes_get, List.length_replicate, if_neg (by omega)]

theorem State.eraseImage_bytes (s : State) (k : Nat) :
    (s.eraseImage k).store.bytes = putBytes s.store.bytes (imageBase k) (List.replicate 128 0) := by rw [s.eraseImage_store]

theorem State.eraseFirmware_bytes (s : State) (k st : Nat) :
    (s.eraseFirmware k st).store.fwBytes = putBytes s.store.fwBytes (k * 2 ^ 24) (List.replicate 128 0) := by
  simp only [State.eraseFirmware]

end Sys2Proof.Machine

namespace Sys2Proof.Machine

/-- The store's books after a first chunk's claim: the claim, and the image's header erased where the claim is new (R96). -/
theorem State.imageClaimed_books (s : State) (slot : Nat) (hclaim : s.commit.claim = some slot ∨ s.commit.claim = none) :
    (s.imageClaimed slot).commit.claim = some slot ∧ (s.imageClaimed slot).store.fwBytes = s.store.fwBytes
      ∧ ∀ a, (a < imageBase s.commitSlot ∨ imageBase s.commitSlot + imageSize ≤ a) → (s.imageClaimed slot).imageByte a = s.imageByte a := by
  unfold State.imageClaimed
  split
  · refine ⟨rfl, ?_, fun a ha => ?_⟩
    · show (s.eraseImage s.commitSlot).store.fwBytes = _
      rw [s.eraseImage_store]
    · exact erased_header_elsewhere (s.eraseImage_bytes s.commitSlot) (by decide) ha
  · next hsome =>
    refine ⟨?_, rfl, fun a _ => rfl⟩
    rcases hclaim with h | h
    · exact h
    · exact absurd (by rw [h]; rfl) hsome

/-- The same of the firmware store (R506). -/
theorem State.fwClaimed_books (s : State) (slot : Nat) (hclaim : s.commit.fwClaim = some slot ∨ s.commit.fwClaim = none) :
    (s.fwClaimed slot).commit.fwClaim = some slot ∧ (s.fwClaimed slot).store.bytes = s.store.bytes
      ∧ ∀ a, (a < (1 - s.store.fwRun) * 2 ^ 24 ∨ (1 - s.store.fwRun) * 2 ^ 24 + firmwareSize ≤ a) →
        (s.fwClaimed slot).firmwareByte a = s.firmwareByte a := by
  unfold State.fwClaimed
  split
  · refine ⟨rfl, ?_, fun a ha => ?_⟩
    · simp only [State.eraseFirmware]
    · have hbytes := s.eraseFirmware_bytes (1 - s.store.fwRun) 0
      generalize s.eraseFirmware (1 - s.store.fwRun) 0 = u at hbytes
      exact erased_header_elsewhere hbytes (by decide) ha
  · next hsome =>
    refine ⟨?_, rfl, fun a _ => rfl⟩
    rcases hclaim with h | h
    · exact h
    · exact absurd (by rw [h]; rfl) hsome

theorem State.Committed.imageByte {u t : State} (h : u.Committed t) (a : Nat) : t.imageByte a = u.imageByte a := by
  unfold State.imageByte
  rw [h.images.bytes]

theorem State.Committed.firmwareByte {u t : State} (h : u.Committed t) (a : Nat) : t.firmwareByte a = u.firmwareByte a := by
  unfold State.firmwareByte
  rw [h.images.fwBytes]

section
variable {s : State} {slot : Fin 8} {index : Fin 64} {r : CmdRec} (hc : s.Calm) (hd : s.Due slot index r)
  (hop : op r.msg = Op.nvCommit) (hm : commitFormed r.msg)
include hc hd hop hm

/-- R95 to R97: a chunk of an image. -/
theorem exec_nvCommitChunk (hflag : beAt r.msg.payload 4 1 = 0) (hfw : toFirmware r.msg = false) {off : Nat} {d : List Byte}
    (hoff : off = beAt r.msg.payload 0 4 % 2 ^ 31) (hdata : d = r.msg.payload.drop 8) (hfit : off + d.length ≤ imageSize)
    (hclaim : s.commit.claim = some slot.val ∨ (s.commit.claim = none ∧ off = 0)) :
    ∃ t, exec (.nvCommitChunk slot index) s = .next t ∧ t.Answers slot index r Code.ok Reason.none []
      ∧ t.commit.claim = some slot.val ∧ t.store.fwBytes = s.store.fwBytes
      ∧ (∀ i, i < d.length → 128 ≤ off + i → t.imageByte (imageBase s.commitSlot + off + i) = d.getD i 0)
      ∧ (∀ i, i < d.length → off + i < 128 → KMap.get (fun _ => (0 : Byte)) t.commit.header (off + i) = d.getD i 0)
      ∧ (∀ a, (a < imageBase s.commitSlot ∨ imageBase s.commitSlot + imageSize ≤ a) → t.imageByte a = s.imageByte a) := by
  have hseals : seals r.msg = false := by simp [seals, hflag]
  have hclaim' : s.commit.claim = some slot.val ∨ s.commit.claim = none := hclaim.imp_right And.left
  obtain ⟨c, hheard, hcclaim, -, -, -⟩ := s.commitHeard_eq slot false
  generalize hv : s.commitHeard slot false = v at hheard
  have hwork : s.doCommit slot index r.msg
      = ((v.imageClaimed slot).imageWritten s.commitSlot off d).pauseWrites.complete slot index Code.ok Reason.none [] := by
    rw [State.doCommit_eq hm (.inl hflag) (by rw [hfw]; exact hclaim') (by simp [hfw])]
    simp only [hfw, hseals, hv, Bool.false_eq_true, if_false, ← hoff, ← hdata]
    rw [State.imageChunk_eq, if_neg (Nat.not_lt.mpr hfit), if_neg]
    · rw [hheard]
      rfl
    · rw [hheard, hcclaim]
      rintro ⟨hnone, hne⟩
      rcases hclaim with h | ⟨-, h⟩
      · simp [h] at hnone
      · exact hne h
  have hvs : s.Commits v := hheard ▸ s.commits_setStore c s.store
  obtain ⟨t, ht, hans, hcom⟩ := State.act_commit_answers (is := fun m => !toFirmware m && !seals m) hc hd hop (by simp [hfw, hseals])
    ((hvs.trans (v.commits_imageClaimed slot)).trans (State.commits_imageWritten _ s.commitSlot off d)) hwork
  obtain ⟨hbclaim, hbfw, hbytes⟩ := v.imageClaimed_books slot (by rw [hheard]; exact hcclaim ▸ hclaim')
  obtain ⟨p, hp⟩ := hcom.claims
  have hslot : v.commitSlot = s.commitSlot := by rw [hheard]; rfl
  have hbyte : ∀ a, v.imageByte a = s.imageByte a := fun a => by rw [hheard]; rfl
  refine ⟨t, ht, hans, ?_, ?_, fun i hi h128 => ?_, fun i hi h128 => ?_, fun a ha => ?_⟩
  · rw [hp]
    exact hbclaim
  · rw [hcom.images.fwBytes]
    refine hbfw.trans ?_
    rw [hheard]
  · rw [hcom.imageByte]
    exact chunk_bytes_written _ _ off d hi h128
  · rw [hp]
    exact chunk_header_held _ off d hi h128
  · rw [hcom.imageByte, ← hbyte a, ← hbytes a (by rw [hslot]; exact ha)]
    exact chunk_bytes_elsewhere _ _ imageSize off d hfit ha

/-- R505, R506: a chunk of a firmware slot. -/
theorem exec_nvCommitFwChunk (hflag : beAt r.msg.payload 4 1 = 0) (hfw : toFirmware r.msg = true) {off : Nat} {d : List Byte}
    (hoff : off = beAt r.msg.payload 0 4 % 2 ^ 31) (hdata : d = r.msg.payload.drop 8) (hfit : off + d.length ≤ firmwareSize)
    (hin : off < firmwareSize) (hclaim : s.commit.fwClaim = some slot.val ∨ (s.commit.fwClaim = none ∧ off = 0)) :
    ∃ t, exec (.nvCommitFwChunk slot index) s = .next t ∧ t.Answers slot index r Code.ok Reason.none []
      ∧ t.commit.fwClaim = some slot.val ∧ t.store.bytes = s.store.bytes
      ∧ (∀ i, i < d.length → 128 ≤ off + i → t.firmwareByte ((1 - s.store.fwRun) * 2 ^ 24 + off + i) = d.getD i 0)
      ∧ (∀ a, (a < (1 - s.store.fwRun) * 2 ^ 24 ∨ (1 - s.store.fwRun) * 2 ^ 24 + firmwareSize ≤ a) →
        t.firmwareByte a = s.firmwareByte a) := by
  have hseals : seals r.msg = false := by simp [seals, hflag]
  have hclaim' : s.commit.fwClaim = some slot.val ∨ s.commit.fwClaim = none := hclaim.imp_right And.left
  obtain ⟨c, hheard, -, -, hcclaim, -⟩ := s.commitHeard_eq slot true
  generalize hv : s.commitHeard slot true = v at hheard
  have hwork : s.doCommit slot index r.msg
      = ((v.fwClaimed slot).fwWritten (1 - s.store.fwRun) off d).pauseWrites.complete slot index Code.ok Reason.none [] := by
    rw [State.doCommit_eq hm (.inl hflag) (by rw [hfw]; exact hclaim') (fun _ _ => hoff ▸ hin)]
    simp only [hfw, hseals, hv, Bool.false_eq_true, if_false, if_true, ← hoff, ← hdata]
    rw [State.firmwareChunk_eq, if_neg (Nat.not_lt.mpr hfit), if_neg]
    · rw [hheard]
      rfl
    · rw [hheard, hcclaim]
      rintro ⟨hnone, hne⟩
      rcases hclaim with h | ⟨-, h⟩
      · simp [h] at hnone
      · exact hne h
  have hvs : s.Commits v := hheard ▸ s.commits_setStore c s.store
  obtain ⟨t, ht, hans, hcom⟩ := State.act_commit_answers (is := fun m => toFirmware m && !seals m) hc hd hop (by simp [hfw, hseals])
    ((hvs.trans (v.commits_fwClaimed slot)).trans (State.commits_fwWritten _ (1 - s.store.fwRun) off d)) hwork
  obtain ⟨hbclaim, hbimage, hbytes⟩ := v.fwClaimed_books slot (by rw [hheard]; exact hcclaim ▸ hclaim')
  obtain ⟨p, hp⟩ := hcom.claims
  have hrun : v.store.fwRun = s.store.fwRun := by rw [hheard]
  have hbyte : ∀ a, v.firmwareByte a = s.firmwareByte a := fun a => by rw [hheard]; rfl
  refine ⟨t, ht, hans, ?_, ?_, fun i hi h128 => ?_, fun a ha => ?_⟩
  · rw [hp]
    exact hbclaim
  · rw [hcom.images.bytes]
    refine hbimage.trans ?_
    rw [hheard]
  · rw [hcom.firmwareByte]
    exact chunk_bytes_written _ _ off d hi h128
  · rw [hcom.firmwareByte, ← hbyte a, ← hbytes a (by rw [hrun]; exact ha)]
    exact chunk_bytes_elsewhere _ _ firmwareSize off d hfit ha

end

/-! ### Seals -/

theorem State.imageTaken_books (s : State) (slot k : Nat) :
    (s.imageTaken slot k).commit = s.commit ∧ (s.imageTaken slot k).store.bytes = s.store.bytes
      ∧ (s.imageTaken slot k).store.commits = s.store.commits + 1 := by
  have hcommit : ∀ (t : State) l, (t.setRegs l).commit = t.commit := fun t l => by
    induction l generalizing t with
    | nil => rfl
    | cons p l ih => exact ih _
  unfold State.imageTaken
  refine ⟨hcommit _ _, ?_, ?_⟩ <;> rw [State.setRegs_store] <;> rfl

theorem State.eraseImage_commit (s : State) (k : Nat) : (s.eraseImage k).commit = s.commit := by
  unfold State.eraseImage
  split <;> rfl

theorem State.imageDropped_books (s : State) (slot k : Nat) :
    (s.imageDropped slot k).commit = s.commit ∧ ∀ i < 128, (s.imageDropped slot k).imageByte (imageBase k + i) = 0 :=
  ⟨(s.imageLogged slot k).eraseImage_commit k, fun _ hi => erased_header_zero ((s.imageLogged slot k).eraseImage_bytes k) hi⟩

theorem State.fwTaken_books (s : State) (slot k : Nat) :
    (s.fwTaken slot k).commit = s.commit ∧ (s.fwTaken slot k).store.fwBytes = s.store.fwBytes
      ∧ (s.fwTaken slot k).store.commits = s.store.commits + 1 ∧ (s.fwTaken slot k).store.fwState = s.store.fwState.set k 3 :=
  ⟨rfl, rfl, rfl, rfl⟩

theorem State.eraseFirmware_books (s : State) (k st : Nat) :
    (s.eraseFirmware k st).commit = s.commit ∧ ∀ i < 128, (s.eraseFirmware k st).firmwareByte (k * 2 ^ 24 + i) = 0 :=
  ⟨by simp only [State.eraseFirmware], fun _ hi => erased_header_zero (s.eraseFirmware_bytes k st) hi⟩

/-- The check of an image slot reads the store, not the commit's books. -/
theorem State.imageValid_setCommit (s : State) (c : Commit) (k : Nat) : State.imageValid { s with commit := c } k = s.imageValid k := rfl

theorem State.fwGood_setCommit (s : State) (c : Commit) (k : Nat) : State.fwGood { s with commit := c } k = s.fwGood k := rfl

section
variable {s : State} {slot : Fin 8} {index : Fin 64} {r : CmdRec} (hc : s.Calm) (hd : s.Due slot index r)
  (hop : op r.msg = Op.nvCommit) (hm : commitFormed r.msg) (hlen : r.msg.payload.length = 8) (hflag : beAt r.msg.payload 4 1 = 1)
include hc hd hop hm hlen hflag

/-- R98: the seal of an image writes the held header, and the check of the slot with it decides. -/
theorem exec_nvCommitSeal (hfw : toFirmware r.msg = false) (hclaim : s.commit.claim = some slot.val) {sealed : State}
    (hsealed : sealed = { s with store :=
      { s.store with bytes := putBytes s.store.bytes (imageBase s.commitSlot) (heldHeader s.commit.header) } }) :
    ∃ t, exec (.nvCommitSeal slot index) s = .next t ∧ t.commit.claim = none ∧
      if sealed.imageValid s.commitSlot = true then
        t.Answers slot index r Code.ok Reason.none [] ∧ t.store.commits = s.store.commits + 1 ∧ t.store.bytes = sealed.store.bytes
      else (∃ reason, t.Answers slot index r Code.invalid reason []) ∧ ∀ i < 128, t.imageByte (imageBase s.commitSlot + i) = 0 := by
  have hseals : seals r.msg = true := by simp [seals, hflag]
  obtain ⟨c, hheard, hcclaim, hchead, -, -⟩ := s.commitHeard_eq slot false
  obtain ⟨c', hheaded⟩ : ∃ c' : Commit, State.imageHeaded { s with commit := c } = { sealed with commit := c' } ∧ c'.claim = none :=
    ⟨_, by rw [hsealed, ← hchead]; rfl, rfl⟩
  have hwork : s.doCommit slot index r.msg = State.imageSeal { s with commit := c } slot index := by
    rw [State.doCommit_eq hm (.inr ⟨hflag, hlen⟩) (by rw [hfw]; exact .inl hclaim) (by simp [hfw])]
    simp only [hfw, hseals, hheard, Bool.false_eq_true, if_false, if_true]
  have hstart : s.Commits (State.imageHeaded { s with commit := c }) := rfl
  have hdone := fun {u : State} {code reason : Nat} hu h =>
    State.act_commit_answers (is := fun m => !toFirmware m && seals m) hc hd hop (by simp [hfw, hseals]) (u := u) (code := code)
      (reason := reason) hu h
  rw [State.imageSeal_eq, if_neg (by simp [hcclaim, hclaim])] at hwork
  have hslot : State.commitSlot { s with commit := c } = s.commitSlot := rfl
  rw [hslot, hheaded.1, sealed.imageValid_setCommit] at hwork
  rw [hheaded.1] at hstart
  by_cases hv : sealed.imageValid s.commitSlot = true
  · rw [if_pos hv] at hwork
    obtain ⟨t, ht, hans, hcom⟩ := hdone (hstart.trans (State.commits_imageTaken _ slot s.commitSlot)) hwork
    obtain ⟨hbc, hbb, hbn⟩ := State.imageTaken_books { sealed with commit := c' } slot s.commitSlot
    obtain ⟨p, hp⟩ := hcom.claims
    refine ⟨t, ht, by rw [hp, hbc]; exact hheaded.2, ?_⟩
    rw [if_pos hv]
    refine ⟨hans, ?_, hcom.images.bytes.trans hbb⟩
    rw [hcom.images.commits, hbn, hsealed]
  · rw [if_neg hv] at hwork
    obtain ⟨t, ht, hans, hcom⟩ := hdone ((hstart.trans (State.commits_imageDropped _ slot s.commitSlot)).trans (State.commits_useFree _)) hwork
    obtain ⟨hbc, hbz⟩ := State.imageDropped_books { sealed with commit := c' } slot s.commitSlot
    obtain ⟨p, hp⟩ := hcom.claims
    refine ⟨t, ht, ?_, ?_⟩
    · rw [hp]
      exact (congrArg Commit.claim hbc).trans hheaded.2
    · rw [if_neg hv]
      refine ⟨⟨_, hans⟩, fun i hi => ?_⟩
      rw [hcom.imageByte]
      exact hbz i hi

/-- R505, R506: the seal of a firmware slot. -/
theorem exec_nvCommitFwSeal (hfw : toFirmware r.msg = true) (hclaim : s.commit.fwClaim = some slot.val) {sealed : State}
    (hsealed : sealed = { s with store :=
      { s.store with fwBytes := putBytes s.store.fwBytes ((1 - s.store.fwRun) * 2 ^ 24) (heldHeader s.commit.fwHeader) } }) :
    ∃ t, exec (.nvCommitFwSeal slot index) s = .next t ∧ t.commit.fwClaim = none ∧
      if sealed.fwGood (1 - s.store.fwRun) = true then
        t.Answers slot index r Code.ok Reason.none [] ∧ t.store.commits = s.store.commits + 1
          ∧ t.store.fwBytes = sealed.store.fwBytes ∧ t.store.fwState = s.store.fwState.set (1 - s.store.fwRun) 3
      else (∃ reason, t.Answers slot index r Code.invalid reason [])
        ∧ ∀ i < 128, t.firmwareByte ((1 - s.store.fwRun) * 2 ^ 24 + i) = 0 := by
  have hseals : seals r.msg = true := by simp [seals, hflag]
  obtain ⟨c, hheard, -, -, hcclaim, hchead⟩ := s.commitHeard_eq slot true
  obtain ⟨c', hheaded⟩ : ∃ c' : Commit, State.fwHeaded { s with commit := c } = { sealed with commit := c' } ∧ c'.fwClaim = none :=
    ⟨_, by rw [hsealed, ← hchead]; rfl, rfl⟩
  have hwork : s.doCommit slot index r.msg = State.firmwareSeal { s with commit := c } slot index := by
    rw [State.doCommit_eq hm (.inr ⟨hflag, hlen⟩) (by rw [hfw]; exact .inl hclaim) (by simp [hflag])]
    simp only [hfw, hseals, hheard, if_true]
  have hstart : s.Commits (State.fwHeaded { s with commit := c }) := rfl
  have hdone := fun {u : State} {code reason : Nat} hu h =>
    State.act_commit_answers (is := fun m => toFirmware m && seals m) hc hd hop (by simp [hfw, hseals]) (u := u) (code := code)
      (reason := reason) hu h
  rw [State.firmwareSeal_eq] at hwork
  simp only at hwork
  rw [if_neg (by simp [hcclaim, hclaim]), hheaded.1, sealed.fwGood_setCommit] at hwork
  rw [hheaded.1] at hstart
  by_cases hv : sealed.fwGood (1 - s.store.fwRun) = true
  · rw [if_pos hv] at hwork
    obtain ⟨t, ht, hans, hcom⟩ := hdone (hstart.trans (State.commits_fwTaken ..)) hwork
    obtain ⟨hbc, hbb, hbn, hbs⟩ := State.fwTaken_books { sealed with commit := c' } slot (1 - s.store.fwRun)
    obtain ⟨p, hp⟩ := hcom.claims
    refine ⟨t, ht, by rw [hp, hbc]; exact hheaded.2, ?_⟩
    rw [if_pos hv]
    refine ⟨hans, ?_, hcom.images.fwBytes.trans hbb, ?_⟩
    · rw [hcom.images.commits, hbn, hsealed]
    · rw [hcom.images.fwState, hbs, hsealed]
  · rw [if_neg hv] at hwork
    obtain ⟨hbc, hbz⟩ := State.eraseFirmware_books (State.fwLogged { sealed with commit := c' } slot (1 - s.store.fwRun)) (1 - s.store.fwRun) 6
    have hlogged : s.Commits ((State.fwLogged { sealed with commit := c' } slot (1 - s.store.fwRun)).eraseFirmware (1 - s.store.fwRun) 6) :=
      (hstart.trans (State.commits_fwLogged ..)).trans (State.commits_eraseFirmware ..)
    have hend : ∀ {u : State} {reason}, s.Commits u → u.commit.fwClaim = none →
        (∀ i < 128, u.firmwareByte ((1 - s.store.fwRun) * 2 ^ 24 + i) = 0) →
        s.doCommit slot index r.msg = u.pauseWrites.complete slot index Code.invalid reason [] →
        ∃ t, exec (.nvCommitFwSeal slot index) s = .next t ∧ t.commit.fwClaim = none
          ∧ (∃ reason, t.Answers slot index r Code.invalid reason [])
          ∧ ∀ i < 128, t.firmwareByte ((1 - s.store.fwRun) * 2 ^ 24 + i) = 0 := fun hu hclaim hzero h => by
      obtain ⟨t, ht, hans, hcom⟩ := hdone hu h
      obtain ⟨p, hp⟩ := hcom.claims
      exact ⟨t, ht, by rw [hp]; exact hclaim, ⟨_, hans⟩, fun i hi => by rw [hcom.firmwareByte]; exact hzero i hi⟩
    simp only [if_neg hv]
    split at hwork
    · exact hend hlogged ((congrArg Commit.fwClaim hbc).trans hheaded.2) hbz hwork
    · exact hend (hlogged.trans (State.commits_useFree _)) ((congrArg Commit.fwClaim hbc).trans hheaded.2) hbz hwork

end

/-- Settles O42: the holder of the store, or the first to write from offset 0, writes within the slot that is not in use, its header held
back; the seal decides by the check of the slot with that header (assumption logs 5, 9, 84, 108). -/
theorem imagesAreWrittenAndSealed : Obligations.ImagesAreWrittenAndSealed := by
  intro s slot index r hc hd hop p off d k f formed ok imageSealed fwSealed
  refine ⟨fun hm hflag hfw hfit hclaim => exec_nvCommitChunk hc hd hop hm hflag hfw rfl rfl hfit hclaim,
    fun hm hflag hfw hfit hin hclaim => exec_nvCommitFwChunk hc hd hop hm hflag hfw rfl rfl hfit hin hclaim,
    fun hm hlen hflag hfw hclaim => exec_nvCommitSeal hc hd hop hm hlen hflag hfw hclaim rfl,
    fun hm hlen hflag hfw hclaim => ?_⟩
  have hgood : (fwSealed.firmwareValid f = true ∧ s.firmwareMin ≤ fwSealed.fwField f 0x16 2) ↔ fwSealed.fwGood f = true := by
    have hmin : fwSealed.firmwareMin = s.firmwareMin := rfl
    rw [State.fwGood, Bool.and_eq_true, decide_eq_true_eq, hmin]
  simp only [hgood]
  exact exec_nvCommitFwSeal hc hd hop hm hlen hflag hfw hclaim rfl

end Sys2Proof.Machine

namespace Sys2Proof.Machine

/-! ## TRANSPORT and the sheaf that stays in SAFE (R84, R180, R447) -/

/-- A device in SAFE with SHIP held low since device time 0, whose sheaf 0 had a second short: it is in SAFE, its unit lasting with source
32 (R180). -/
def shippedTwoShorts : State :=
  { State.reset with
    dev := { State.reset.dev with powered := true, state := .safe, fwRunning := true }
    lv := { State.reset.lv with shipLow := true, shipFrom := some 0, armed := true }
    sheaves := [(0, { Sheaf.init with state := .safe })]
    units := [(unitOf Kind.sheaf 0, { UnitRec.init with state := .lasting, cls := .L, src := 32 })] }

theorem shippedTwoShorts_live : shippedTwoShorts.live = true := by decide

/-- SHIP held for its 20 s: device time there, the hold noted. -/
def State.shipHeld (s : State) (since : Nat) : State :=
  let t := s.reach (since + 20000000000)
  { t with lv := { t.lv with done20 := true } }

/-- R85, R386: from STANDBY and SAFE the 20 s of SHIP end in TRANSPORT. -/
theorem exec_shipHold20s_transport {s : State} {since : Nat} (hfrom : s.lv.shipFrom = some since) (hnew : s.lv.done20 = false)
    (hstate : s.dev.state = .standby ∨ s.dev.state = .safe) :
    exec .shipHold20s s = .next (s.act fun _ => (s.shipHeld since).enterTransport) := by
  refine congrArg Host.Outcome.next (s.act_to _ _ ?_)
  simp only [hfrom]
  rw [if_neg (by simp [hnew])]
  exact if_pos hstate

/-- Entering TRANSPORT, the device leaves that sheaf in SAFE: only RESTORE brings it back (R447). -/
theorem shippedTwoShorts_stays : (((shippedTwoShorts.shipHeld 0).enterTransport).sheaf 0).state = .safe := by decide +kernel

/-- Refutes O29: its clause of SHIP_HOLD_20S has every sheaf that was in SAFE enter OFF, but one with a lasting source 32, of its second
short, stays in SAFE as the device leaves SAFE for TRANSPORT (R84, R180, R447). -/
theorem not_shipResetsTheTwelveVoltsAndOpensTheLatch : ¬ Obligations.ShipResetsTheTwelveVoltsAndOpensTheLatch := by
  intro h
  obtain ⟨-, -, -, hlive⟩ := h shippedTwoShorts
  obtain ⟨-, -, htransport, -⟩ := hlive shippedTwoShorts_live
  obtain ⟨t, ht, -, -, -, -, -, -, -, hoff, -⟩ := htransport 0 rfl rfl (.inr rfl)
  rw [exec_shipHold20s_transport rfl rfl (.inr rfl)] at ht
  have hsheaf := hoff 0 (by decide) rfl
  rw [← Host.Outcome.next.inj ht, State.act_sheaf _ _ shippedTwoShorts_live, shippedTwoShorts_stays] at hsheaf
  exact absurd hsheaf (by decide)

end Sys2Proof.Machine

namespace Sys2Proof.Machine

/-! ## Start-up (Tables 3-3 and 3-6, R70, R81, R427, R507) -/

/-- What leaving reset makes of the tables, of what waits and of the charge session: all at rest. -/
theorem State.leaveReset_rests (s : State) (cause now : Nat) :
    let t := s.leaveReset cause now
    t.legs = [] ∧ t.outs = [] ∧ t.sheaves = [] ∧ t.units = [] ∧ t.waits = [] ∧ t.swaps = [] := by
  obtain ⟨fw, fv, fr, fb, log, cnt, b, h⟩ := (s.inReset true false cause now).boots_bootFirmware
  unfold State.leaveReset
  rw [h]
  simp only
  split <;> exact ⟨rfl, rfl, rfl, rfl, rfl, rfl⟩

section
variable {s : State} (hl : s.live = true) (hk : s.dev.state ≠ .locked)
include hl hk

/-- Table 3-3: the start tests pass. -/
theorem exec_startTestsEnd_passes (hnew : s.dev.tested = false) (hstate : s.dev.state = .powerup) :
    ∃ t, exec (.startTestsEnd true true true) s = .next t ∧ t.dev.tested = true ∧ t.dev.state = .powerup
      ∧ t.sup.releases = BitVec.allOnes 48 ∧ t.sheaf = s.sheaf ∧ t.unit = s.unit := by
  have hwork : exec (.startTestsEnd true true true) s = .next (s.act fun _ =>
      { s with dev := { s.dev with tested := true }, sup := { s.sup with releases := BitVec.allOnes 48 } }) :=
    congrArg Host.Outcome.next (s.act_to _ _ (if_neg (by simp [hnew, hstate])))
  obtain ⟨c, hdev⟩ := s.act_dev (fun _ =>
    { s with dev := { s.dev with tested := true }, sup := { s.sup with releases := BitVec.allOnes 48 } }) hl hk
  refine ⟨_, hwork, by rw [hdev], by rw [hdev]; exact hstate, ?_, funext fun n => ?_, funext fun u => ?_⟩
  · rw [s.act_sup _ hl]
  · rw [s.act_sheaf _ hl]
    rfl
  · rw [s.act_unit _ hl]
    rfl

/-- R507: firmware that does not start in time causes a reset, with device time going on (R29). -/
theorem exec_firmwareStartTimeout_resets (hstate : s.dev.state = .powerup) (hidle : s.dev.fwRunning = false)
    (hboot : s.dev.bootable = true) :
    ∃ t, exec .firmwareStartTimeout s = .next t ∧ t.dev.state = .powerup ∧ t.time.now = s.time.now ∧ t.legs = [] ∧ t.outs = []
      ∧ t.sheaves = [] ∧ t.units = [] := by
  have hwork : exec .firmwareStartTimeout s = .next (s.act fun _ => s.leaveReset s.dev.cause s.time.now) :=
    congrArg Host.Outcome.next (s.act_to _ _ (if_pos (by simp [hstate, hidle, hboot])))
  obtain ⟨hpowerup, -, -, hnow, -⟩ := s.leaveReset_spec s.dev.cause s.time.now
  obtain ⟨hlegs, houts, hsheaves, hunits, hwaits, hswaps⟩ := s.leaveReset_rests s.dev.cause s.time.now
  refine ⟨_, hwork, ?_, ?_, ?_, ?_, ?_, ?_⟩
  · rw [s.act_devState _ hl hk, hpowerup]
  · rw [s.act_time _ hl, hnow, max_self]
  · rw [s.act_legs _ hl hwaits hswaps, hlegs]
  · rw [s.act_outs _ hl, houts]
  · rw [s.act_sheaves _ hl, hsheaves]
  · rw [s.act_units _ hl, hunits]

/-- Table 3-6, R81: the end of POWERUP, in SAFE with a SAFE cause, else in PROOF or STANDBY. -/
theorem exec_powerupEnd_ends (a b : ImageBody) (hstate : s.dev.state = .powerup) (htested : s.dev.tested = true)
    (hboot : s.dev.bootable = true) (hidle : s.dev.fwRunning = false) :
    ∃ t, exec (.powerupEnd a b) s = .next t ∧ t.dev.fwRunning = true ∧ t.dev.causes = s.dev.causes
      ∧ (s.dev.causes ≠ [] → t.dev.state = .safe) ∧ (s.dev.causes = [] → t.dev.state = .standby ∨ t.dev.state = .proof) := by
  obtain ⟨c, hdev⟩ := s.powerupWork_dev a b
  obtain ⟨hproof, hpcauses, hprun⟩ := (s.powerupWork a b).beginDeviceProof_dev
  have hcauses : (s.powerupWork a b).dev.causes = s.dev.causes := by rw [hdev]
  have hrun : (s.powerupWork a b).dev.fwRunning = true := by rw [hdev]
  -- the three ends of POWERUP: firmware runs, the causes stand, and the device is in the state of its end
  have hends : ∀ g : State, g.dev.fwRunning = (s.powerupWork a b).dev.fwRunning → g.dev.causes = (s.powerupWork a b).dev.causes →
      exec (.powerupEnd a b) s = .next (s.act fun _ => g) → (s.dev.causes ≠ [] → g.dev.state = .safe) →
      (s.dev.causes = [] → g.dev.state = .standby ∨ g.dev.state = .proof) →
      ∃ t, exec (.powerupEnd a b) s = .next t ∧ t.dev.fwRunning = true ∧ t.dev.causes = s.dev.causes
        ∧ (s.dev.causes ≠ [] → t.dev.state = .safe) ∧ (s.dev.causes = [] → t.dev.state = .standby ∨ t.dev.state = .proof) :=
    fun g hg1 hg2 hexec hsafe hok => by
      obtain ⟨_, hact⟩ := s.act_dev (fun _ => g) hl hk
      refine ⟨_, hexec, ?_⟩
      rw [hact]
      exact ⟨hg1.trans hrun, hg2.trans hcauses, hsafe, hok⟩
  have henter : ∀ d, ((s.powerupWork a b).enterState d).dev.fwRunning = (s.powerupWork a b).dev.fwRunning := fun d => by
    obtain ⟨_, _, _, h⟩ := (s.powerupWork a b).enterState_dev d
    rw [h]
  have hwork : exec (.powerupEnd a b) s = .next (s.act fun _ =>
      if (s.powerupWork a b).safeCause then (s.powerupWork a b).enterState .safe
      else if (s.powerupWork a b).regN Item.IMG.BOOT_SLOT < 2 ∧ (s.powerupWork a b).regN Item.DEV.AUTO_PROOF = 1 then
        (s.powerupWork a b).beginDeviceProof
      else (s.powerupWork a b).enterState .standby) := by
    refine congrArg Host.Outcome.next (s.act_to _ _ ?_)
    rw [if_neg (by simp [hboot, hidle]), if_neg hk, if_pos ⟨hstate, htested⟩]
  have hcause : (s.powerupWork a b).safeCause = true ↔ s.dev.causes ≠ [] := by
    rw [State.safeCause, hcauses, decide_eq_true_iff]
  by_cases hs : (s.powerupWork a b).safeCause = true
  · rw [if_pos hs] at hwork
    exact hends _ (henter _) (State.enterState_causes ..) hwork (fun _ => State.enterState_state ..)
      (fun h => absurd h (hcause.mp hs))
  · rw [if_neg hs] at hwork
    have hnone : ∀ {p : Prop}, s.dev.causes ≠ [] → p := fun h => absurd (hcause.mpr h) hs
    split at hwork
    · exact hends _ hprun hpcauses hwork hnone (fun _ => .inr hproof)
    · exact hends _ (henter _) (State.enterState_causes ..) hwork hnone (fun _ => .inl (State.enterState_state ..))

/-- Table 3-6: the end of PROOF with its sheaves proved and its path test ended. -/
theorem exec_proofEnd_ends (hstate : s.dev.state = .proof) (htest : s.dev.pathTesting = false) (hproofs : s.proofs = []) :
    ∃ t, exec .proofEnd s = .next t ∧ t.dev.state = if s.dev.pathPassed then .standby else .safe := by
  have hwork : exec .proofEnd s = .next (s.act fun _ =>
      (if s.dev.pathPassed then s.enterState .standby else s.safeDevice .path).endSequences
        (fun q => decide (q.kind = .prove) && decide (unitOf Kind.device 0 ∈ q.units)) Code.ok Reason.none
        (fun _ => beBytes 4 s.proofOr ++ beBytes 4 ((s.time.now - s.dev.proofStart) / 1000))) :=
    congrArg Host.Outcome.next (s.act_to _ _ (if_pos (by simp [hstate, htest, hproofs])))
  refine ⟨_, hwork, ?_⟩
  rw [s.act_devState _ hl hk, (State.completes_endSequences ..).fences.devState]
  split
  · exact State.enterState_state ..
  · exact (s.safeDevice_spec .path (.inl hstate)).1

end

/-! ### The shutdown-path test -/

/-- A test whose steps all hold what Table 15-6 asks fails in none. -/
theorem PathTest.failed_eq_zero {r : PathTest} (hblock : r.blockRead = true) (hasc : r.ascRead = true) (habsent : r.absentNs ≤ 300)
    (hlock : r.lockoutUs ≤ 100) (hreg : r.regulateUs ≤ 1000) (hdrives : r.drives = 15) : PathTest.failed r = 0 := by
  simp [PathTest.failed, hblock, hasc, hdrives, Nat.not_lt.mpr habsent, Nat.not_lt.mpr hlock, Nat.not_lt.mpr hreg]

/-- What a path test that passes leaves (R427). -/
theorem State.pathTested_passed (s : State) (a5 b5 : Bool) (us : Nat) :
    (s.pathTested 0 a5 b5 us).dev = { s.dev with
        pathTesting := false, pathPassed := true, causes := s.dev.causes.filter (fun x => decide (x ≠ SafeCause.path)) }
      ∧ (s.pathTested 0 a5 b5 us).time = s.time := by
  have ha : pathAFailed 0 a5 = false := by cases a5 <;> decide
  have hb : pathBFailed 0 b5 = false := by cases b5 <;> decide
  unfold State.pathTested
  simp only [ha, hb, State.causeGone, State.setReg_time, Bool.not_false, Bool.and_self, and_self]

/-- A unit that RESTORE brings back changes neither the device's own books nor its time. -/
theorem State.restored_dev (s : State) (u : Nat) : (s.restored u).dev = s.dev ∧ (s.restored u).time = s.time := ⟨rfl, rfl⟩

/-- R426, R427: a path test that passes. -/
theorem exec_shutdownPathTestEnd_passes {s : State} (hl : s.live = true) (hk : s.dev.state ≠ .locked) {r : PathTest}
    (htest : s.dev.pathTesting = true) (hfailed : PathTest.failed r = 0) :
    ∃ t, exec (.shutdownPathTestEnd r) s = .next t ∧ t.dev.state = s.dev.state ∧ t.dev.pathTesting = false
      ∧ t.dev.pathPassed = true ∧ SafeCause.path ∉ t.dev.causes ∧ s.dev.proofStart + r.us * 1000 ≤ t.time.now := by
  refine ⟨_, rfl, ?_⟩
  generalize hf : (fun t0 : State => _) = f
  have hwork : (∃ c, (f s).dev = { s.dev with
      pathTesting := false, pathPassed := true, causes := s.dev.causes.filter (fun x => decide (x ≠ SafeCause.path)), free := c })
      ∧ s.dev.proofStart + r.us * 1000 ≤ (f s).time.now := by
    rw [← hf]
    beta_reduce
    extract_lets ours t failed a5 b5 restoring t1 pass su t2 t3
    rw [if_neg (by simp [hk, htest])]
    obtain ⟨hdev1, htime1⟩ : t1.dev = _ ∧ t1.time = t.time := by
      unfold t1 failed
      rw [hfailed]
      exact t.pathTested_passed a5 b5 r.us
    have h2 : t2.dev = t1.dev ∧ t2.time = t1.time := by
      unfold t2
      split
      · exact t1.restored_dev su
      · exact ⟨rfl, rfl⟩
    have h3 : t2.Completes t3 := State.completes_endSequences ..
    obtain ⟨h4, c4, hc4⟩ := t3.endRestores_spec (ours .restore)
    obtain ⟨c3, hc3⟩ := h3.sameDev
    refine ⟨⟨c4, ?_⟩, ?_⟩
    · rw [hc4, hc3, h2.1, hdev1]
      rfl
    · have hlast : (t3.endRestores (ours .restore)).time = t.time := by
        rw [h4.1]
        show t3.time = t.time
        unfold State.Completes at h3
        rw [h3]
        exact h2.2.trans htime1
      rw [hlast]
      have hreach : t = s.reach (s.dev.proofStart + r.us * 1000) := by
        unfold t
        rw [if_pos htest]
      rw [hreach]
      exact Nat.le_max_right ..
  obtain ⟨⟨c, hc⟩, htime⟩ := hwork
  obtain ⟨_, hact⟩ := s.act_dev f hl hk
  rw [hact, s.act_time f hl, hc]
  exact ⟨rfl, rfl, rfl, by simp, htime.trans (le_max_right ..)⟩

/-- Settles O7: each row of start-up does its work in the frame of a live device that is not locked, which leaves the device's own books as
the work made them (assumption logs 9 and 23). -/
theorem startUpTakesItsCourse : Obligations.StartUpTakesItsCourse := fun _ hl hk =>
  ⟨fun hnew hstate => exec_startTestsEnd_passes hl hk hnew hstate,
    fun hstate hidle hboot => exec_firmwareStartTimeout_resets hl hk hstate hidle hboot,
    fun a b hstate htested hboot hidle => exec_powerupEnd_ends hl hk a b hstate htested hboot hidle,
    fun _ htest hblock hasc habsent hlock hreg hdrives =>
      exec_shutdownPathTestEnd_passes hl hk htest (PathTest.failed_eq_zero hblock hasc habsent hlock hreg hdrives),
    fun hstate htest hproofs => exec_proofEnd_ends hl hk hstate htest hproofs⟩

end Sys2Proof.Machine

namespace Sys2Proof.Machine

/-! ## Sheaves that are only shut out, proofs that are only dropped

What taking units out of service makes of the sheaves and of the proofs that run: a sheaf keeps its state or is WINNOWED, and no proof
begins. -/

/-- Every sheaf keeps its state or is WINNOWED, and no proof begins. -/
def State.Shuts (s t : State) : Prop :=
  (∀ n, (t.sheaf n).state = (s.sheaf n).state ∨ (t.sheaf n).state = .winnowed) ∧ ∀ q ∈ t.proofs, q ∈ s.proofs

theorem State.Shuts.refl (s : State) : s.Shuts s := ⟨fun _ => .inl rfl, fun _ h => h⟩

theorem State.Shuts.trans {s t u : State} (h : s.Shuts t) (k : t.Shuts u) : s.Shuts u :=
  ⟨fun n => by
    rcases k.1 n with e | e
    · exact (h.1 n).imp e.trans e.trans
    · exact .inr e, fun q hq => h.2 q (k.2 q hq)⟩

theorem State.shuts_of_eq {s t : State} (hs : t.sheaves = s.sheaves) (hp : t.proofs = s.proofs) : s.Shuts t :=
  ⟨fun n => .inl (by unfold State.sheaf; rw [hs]), fun _ h => hp ▸ h⟩

theorem State.Completes.shuts {s t : State} (h : s.Completes t) : s.Shuts t := by
  unfold State.Completes at h
  rw [h]
  exact State.shuts_of_eq rfl rfl

theorem State.Records.shuts {s t : State} (h : s.Records t) : s.Shuts t := by
  unfold State.Records at h
  rw [h]
  exact State.shuts_of_eq rfl rfl

theorem State.Enters.shuts {s t : State} (h : s.Enters t) : s.Shuts t := by
  rw [h.1]
  exact State.shuts_of_eq rfl rfl

theorem State.shuts_forEach {α : Type} (f : State → α → State) (hf : ∀ s a, State.Shuts s (f s a)) (l : List α) (s : State) :
    s.Shuts (s.forEach l f) := State.forEach_rel State.Shuts.refl (fun _ _ _ => State.Shuts.trans) f hf l s

theorem State.shuts_setReg (s : State) (a : Nat) (w : Word) : s.Shuts (s.setReg a w) := State.shuts_of_eq rfl rfl

theorem State.shuts_setRegs (s : State) (l : List (Nat × Word)) : s.Shuts (s.setRegs l) := by
  induction l generalizing s with
  | nil => exact .refl s
  | cons p l ih => exact (s.shuts_setReg p.1 p.2).trans (ih _)

theorem State.shuts_setLeg (s : State) (n : Nat) (l : Leg) : s.Shuts (s.setLeg n l) := State.shuts_of_eq rfl rfl

theorem State.shuts_setUnit (s : State) (u : Nat) (r : UnitRec) : s.Shuts (s.setUnit u r) := State.shuts_of_eq rfl rfl

theorem State.shuts_setSheaf (s : State) (n : Nat) (h : Sheaf) (hs : h.state = (s.sheaf n).state ∨ h.state = .winnowed) :
    s.Shuts (s.setSheaf n h) :=
  ⟨fun m => by
    by_cases e : m = n
    · subst e
      rw [State.sheaf_setSheaf_same]
      exact hs
    · rw [State.sheaf_setSheaf_other _ _ _ _ e]
      exact .inl rfl, fun _ hq => hq⟩

theorem State.shuts_legOff (s : State) (n : Nat) : s.Shuts (s.legOff n) := s.shuts_setLeg ..

theorem State.shuts_legsOff (s : State) (n : Nat) : s.Shuts (s.legsOff n) := State.shuts_forEach _ State.shuts_legOff _ s

theorem State.shuts_clearCarry (s : State) (n : Nat) : s.Shuts (s.clearCarry n) := by
  unfold State.clearCarry
  split
  · exact s.shuts_setReg ..
  · exact .refl s

theorem State.shuts_winnowLeg (s : State) (n : Nat) (c : WinnowCause) : s.Shuts (s.winnowLeg n c) :=
  ((s.shuts_legOff n).trans (State.shuts_setLeg ..)).trans (State.shuts_clearCarry ..)

theorem State.shuts_leaveRun (s : State) (n : Nat) : s.Shuts (s.leaveRun n) := by
  unfold State.leaveRun
  extract_lets s1 s2 c b
  have h : s.Shuts s2 := (State.shuts_forEach _ (fun t g => t.shuts_setRegs _) _ s).trans
    (State.shuts_forEach _ (fun t leg => t.shuts_setLeg leg _) _ s1)
  refine h.trans ?_
  split
  · exact State.shuts_of_eq rfl rfl
  · split
    · exact .refl _
    · exact State.shuts_setReg ..
  · have hb : s2.Shuts b := by
      unfold b
      split
      · exact .refl _
      · exact State.shuts_setReg ..
    clear_value b
    exact hb.trans (State.shuts_of_eq rfl rfl)
  · exact .refl _

theorem State.shuts_dropMove (s : State) (n : Nat) : s.Shuts (s.dropMove n) := by
  unfold State.dropMove
  split <;> exact State.shuts_of_eq rfl rfl

theorem State.shuts_stopFollowers (s : State) (n : Nat) : s.Shuts (s.stopFollowers n) :=
  State.shuts_forEach _ (fun t m => by exact t.shuts_setSheaf m _ (.inl rfl)) _ s

theorem State.shuts_supplies (s : State) (l : List Nat) (on : Bool) : s.Shuts (s.supplies l on) :=
  State.shuts_forEach _ (fun t n => t.shuts_setLeg n _) _ s

theorem State.shuts_driveHeld (s : State) (n leg : Nat) : s.Shuts (s.driveHeld n leg) := by
  unfold State.driveHeld
  extract_lets l held asc l1 soft
  split
  · exact s.shuts_setLeg ..
  · split <;> exact s.shuts_setLeg ..

theorem State.shuts_applySelection (s : State) : s.Shuts s.applySelection := by
  unfold State.applySelection
  split
  · exact .refl s
  · exact State.shuts_forEach _ (fun t leg => t.shuts_driveHeld _ leg) _ s

theorem State.shuts_quietSheaf_winnowed (s : State) (n : Nat) : s.Shuts (s.quietSheaf n .winnowed) := by
  unfold State.quietSheaf
  refine State.Shuts.trans (State.Shuts.trans ?_ (State.shuts_dropMove _ n)) (State.shuts_setSheaf _ n _ (.inr rfl))
  have h := (s.shuts_legsOff n).trans (State.shuts_forEach _ State.shuts_clearCarry (s.bind.legsOf n) _)
  split
  · exact (h.trans (State.shuts_leaveRun ..)).trans (State.shuts_stopFollowers ..)
  · exact h

theorem State.shuts_abortProofs (s : State) (n : Nat) : s.Shuts (s.abortProofs n) := by
  unfold State.abortProofs
  extract_lets ps s0 s1
  split
  · exact .refl s
  · have h0 : s.Shuts s0 := ⟨fun _ => .inl rfl, fun _ hq => (List.mem_filter.mp hq).1⟩
    have h1 : s.Shuts s1 := by
      unfold s1
      split
      · exact h0.trans (State.shuts_supplies ..)
      · exact h0
    exact (h1.trans (State.shuts_setReg ..)).trans (State.completes_endSequences ..).shuts

theorem State.shuts_record (s : State) (u : Nat) (cls : FaultClass) (src : Nat) (forced : Bool) : s.Shuts (s.record u cls src forced) :=
  (s.records_record ..).shuts

theorem State.shuts_note (s : State) (u : Nat) (cls : FaultClass) (src : Nat) (forced : Bool) : s.Shuts (s.note u cls src forced) := by
  unfold State.note
  split
  · exact .refl s
  · exact (s.shuts_record ..).trans (State.shuts_setUnit ..)

theorem State.shuts_makeLasting (s : State) (u src : Nat) : s.Shuts (s.makeLasting u src) :=
  (s.shuts_record u .L src false).trans (State.shuts_setUnit ..)

theorem State.shuts_blame (s : State) (n u : Nat) : s.Shuts (s.blame n u) := by
  unfold State.blame
  extract_lets h0 s1 s2
  have h1 : s.Shuts s1 := s.shuts_setSheaf n _ (.inl rfl)
  have h : s.Shuts s2 := h1.trans (s1.shuts_record ..)
  split
  · exact h.trans (State.shuts_setUnit ..)
  · exact h

theorem State.shuts_winnowSheaf (s : State) (n : Nat) (cause : Option Nat) : s.Shuts (s.winnowSheaf n cause) := by
  unfold State.winnowSheaf
  extract_lets h s1 s2 s3 s4
  have h4 : s.Shuts s4 := ((((s.shuts_abortProofs n).trans (State.shuts_quietSheaf_winnowed _ n)).trans
    (State.shuts_forEach _ (fun t l => t.shuts_winnowLeg l .sheaf) _ s1)).trans
    (State.completes_endSequences ..).shuts).trans (State.completes_endSequences ..).shuts
  split
  · refine State.Shuts.trans ?_ (State.shuts_applySelection _)
    split
    · exact h4
    · exact h4.trans (State.shuts_blame ..)
  · split
    · exact .refl s
    · split
      · exact s.shuts_setSheaf n _ (.inl rfl)
      · exact .refl s

theorem State.shuts_winnowSet (s : State) (k : Nat) (own : Option Nat) (c : WinnowCause) (cause : Nat) :
    s.Shuts (s.winnowSet k own c cause) := by
  unfold State.winnowSet
  split
  · exact .refl s
  · extract_lets fresh s1 s2
    have h2 : s.Shuts s2 := by
      have h1 : s.Shuts s1 := State.shuts_forEach _ (fun t l => t.shuts_winnowLeg l _) _ s
      unfold s2
      split
      · exact h1.trans (State.shuts_setReg ..)
      · exact h1
    split
    · exact h2.trans (State.shuts_winnowSheaf ..)
    · exact h2.trans (State.shuts_applySelection _)

theorem State.shuts_fenceLeg (s : State) (leg : Nat) (c : WinnowCause) : s.Shuts (s.fenceLeg leg c) := by
  unfold State.fenceLeg
  split
  · exact .refl s
  · have h := s.shuts_winnowLeg leg c
    simp only
    split
    · exact State.shuts_winnowSet ..
    · split
      · split
        · exact h.trans (State.shuts_winnowSheaf ..)
        · exact h
      · exact h.trans (State.shuts_winnowSheaf ..)

theorem State.shuts_fenceLane (s : State) (m : Nat) : s.Shuts (s.fenceLane m) := by
  unfold State.fenceLane
  simp only
  split
  · exact .refl s
  · split
    · split
      · exact State.shuts_winnowSet ..
      · exact State.shuts_winnowSheaf ..
    · split
      · exact .refl s
      · exact State.shuts_winnowSheaf ..

theorem State.shuts_detachSlot (s : State) (slot : Nat) : s.Shuts (s.detachSlot slot) := by
  unfold State.detachSlot State.closeStreams
  simp only
  split
  · split <;> split <;> exact State.shuts_of_eq rfl rfl
  · exact .refl s

theorem State.shuts_fenceCan (s : State) (n : Nat) : s.Shuts (s.fenceCan n) := by
  unfold State.fenceCan
  extract_lets c lock c1 s1
  have h1 : s.Shuts s1 := State.shuts_of_eq rfl rfl
  exact h1.trans (State.shuts_forEach _ State.shuts_detachSlot _ s1)

/-- Taking a unit out of service shuts at most sheaves out and begins no proof. -/
theorem State.shuts_fence (s : State) (u : Nat) : s.Shuts (s.fence u) := by
  unfold State.fence
  simp only
  split
  · exact State.shuts_winnowSheaf ..
  · exact State.shuts_fenceLeg ..
  · split
    · exact State.shuts_winnowSheaf ..
    · exact .refl s
  · split
    · exact State.shuts_winnowSheaf ..
    · exact .refl s
  · exact State.shuts_of_eq rfl rfl
  · exact State.shuts_fenceLane ..
  · exact State.shuts_fenceCan ..
  · exact .refl s

/-- So does a detection. -/
theorem State.shuts_detect (s : State) (u : Nat) (cls : FaultClass) (src : Nat) (forced : Bool) : s.Shuts (s.detect u cls src forced) := by
  unfold State.detect
  split
  · exact .refl s
  · exact .refl s
  · exact .refl s
  · split
    · exact .refl s
    · exact (s.shuts_note ..).trans (State.shuts_setUnit ..)
  · exact s.shuts_note ..
  · exact s.shuts_note ..
  · unfold State.startHandling
    extract_lets limit s1 st r s2
    exact ((s.shuts_note ..).trans (s1.shuts_setUnit ..)).trans (s2.shuts_fence u)

theorem State.shuts_raise (s : State) (u : Nat) (cls : FaultClass) (src : Nat) : s.Shuts (s.raise u cls src) := s.shuts_detect ..

end Sys2Proof.Machine

namespace Sys2Proof.Machine

/-! ## The end of a sheaf's proof (R75 to R79, R301) -/

theorem State.Talks.shuts {s t : State} (h : s.Talks t) : s.Shuts t := h.completes.shuts

theorem State.shuts_recovered (s : State) (u : Nat) : s.Shuts (s.recovered u) := by
  unfold State.recovered
  extract_lets r s1
  have h1 : s.Shuts s1 := State.shuts_of_eq rfl rfl
  exact h1.trans (State.talks_event ..).shuts

theorem State.shuts_broughtBack (s : State) (u : Nat) : s.Shuts (s.broughtBack u) := by
  unfold State.broughtBack
  split
  · exact (s.shuts_recovered u).trans (State.shuts_setUnit ..)
  · exact State.shuts_of_eq rfl rfl

theorem State.shuts_noteLegProof (s : State) (f : Nat) (p : LegProof) : s.Shuts (s.noteLegProof f p) := by
  unfold State.noteLegProof
  extract_lets s1
  have h1 : s.Shuts s1 := by
    unfold s1
    split
    · exact s.shuts_setRegs _
    · exact .refl s
  split
  · exact h1.trans (s1.shuts_setReg ..)
  · exact h1

theorem State.shuts_proofLeg (s : State) (n : Nat) (median2 : Int) (p : LegProof) (recovery restoring running : Bool) :
    s.Shuts (s.proofLeg n median2 p recovery restoring running) := by
  unfold State.proofLeg
  extract_lets l u f dHs dLs s1
  have h1 : s.Shuts s1 := s.shuts_setLeg ..
  split
  · exact h1
  · split
    · exact h1.trans (s1.shuts_makeLasting ..)
    · exact h1.trans (s1.shuts_raise ..)

theorem State.shuts_proveOwn (s : State) (n : Nat) (recovery linkOk portOk : Bool) : s.Shuts (s.proveOwn n recovery linkOk portOk) := by
  unfold State.proveOwn
  extract_lets u s1
  have h1 : s.Shuts s1 := by
    unfold s1
    split
    · exact .refl s
    · split
      · exact s.shuts_makeLasting ..
      · exact s.shuts_raise ..
  split
  · exact h1
  · simp only
    split
    · exact h1.trans (s1.shuts_winnowSheaf ..)
    · split
      · exact h1
      · exact (h1.trans (s1.shuts_raise ..)).trans (State.shuts_winnowSheaf ..)

theorem State.shuts_proofLegOk (s : State) (leg : Nat) (restoring : Bool) : s.Shuts (s.proofLegOk leg restoring) := by
  unfold State.proofLegOk
  simp only
  split
  · exact s.shuts_broughtBack _
  · split
    · exact s.shuts_recovered _
    · exact .refl s

theorem State.shuts_proofUnitOk (s : State) (u : Nat) (restoring : Bool) : s.Shuts (s.proofUnitOk u restoring) := by
  unfold State.proofUnitOk
  extract_lets s1 act tr s2
  split
  · have h1 : s.Shuts s1 := by
      unfold s1
      split
      · exact s.shuts_broughtBack u
      · split
        · exact s.shuts_recovered u
        · exact .refl s
    split
    · exact h1.trans (State.shuts_of_eq rfl rfl)
    · exact h1
  · split
    · have h2 : s.Shuts s2 := State.shuts_of_eq rfl rfl
      split
      · exact h2.trans (s2.shuts_setUnit ..)
      · exact h2
    · exact .refl s

theorem State.shuts_restoreLeg (s : State) (n : Nat) : s.Shuts (s.restoreLeg n) := by
  unfold State.restoreLeg
  exact ((s.shuts_setLeg ..).trans (State.enters_clearForce ..).shuts).trans (State.shuts_clearCarry ..)

theorem State.shuts_settleLegs (s : State) (n : Nat) (legs : List Nat) : s.Shuts (s.settleLegs n legs) := by
  unfold State.settleLegs
  split
  · refine State.shuts_forEach _ (fun t k => ?_) _ s
    split
    · exact .refl t
    · exact State.shuts_forEach _ State.shuts_restoreLeg _ t
  · exact State.shuts_forEach _ State.shuts_restoreLeg _ s

theorem State.shuts_rejoin (s : State) (n : Nat) (legs : List Nat) : s.Shuts (s.rejoin n legs) := by
  unfold State.rejoin
  extract_lets s1
  have h1 : s.Shuts s1 := s.shuts_settleLegs n legs
  split
  · exact h1.trans (State.shuts_forEach _ (fun t l => t.shuts_winnowLeg l .sheaf) _ s1)
  · exact h1

/-- READY or WINNOWED: where a proof leaves its sheaf (Table 3-8). -/
def State.Proved (s : State) (n : Nat) : Prop := (s.sheaf n).state = .ready ∨ (s.sheaf n).state = .winnowed

theorem State.Shuts.proved {s t : State} {n : Nat} (h : s.Shuts t) (hn : s.Proved n) : t.Proved n := by
  rcases h.1 n with e | e
  · exact hn.imp e.trans e.trans
  · exact .inr e

/-- A sheaf that is being proved, or that its proof has shut out, leaves PROVING for READY or WINNOWED, and no proof begins (R78). -/
theorem State.leaveProving_proved (s : State) (n : Nat) (h : (s.sheaf n).state = .proving ∨ (s.sheaf n).state = .winnowed) :
    (s.leaveProving n).Proved n ∧ ∀ q ∈ (s.leaveProving n).proofs, q ∈ s.proofs := by
  unfold State.leaveProving
  extract_lets h0
  split
  · next hne => exact ⟨.inr (h.resolve_left hne), fun _ hq => hq⟩
  · next hprov =>
    split
    · refine ⟨.inl ?_, (State.shuts_applySelection _).2⟩
      rw [(State.aside_applySelection _).sheaf, State.sheaf_setSheaf_same]
    · exact ⟨.inr ((s.winnowSheaf_spec n).2 (.inl (not_not.mp hprov))), (s.shuts_winnowSheaf n none).2⟩

/-- The end of a sheaf's own proof: its sheaf is READY or WINNOWED, and no proof begins. -/
theorem State.closeProof_proved (s : State) (p : ProofRun) (l : List LegProof) (restoring linkOk portOk : Bool) (hown : p.own = true)
    (h : (s.sheaf p.sheaf).state = .proving ∨ (s.sheaf p.sheaf).state = .winnowed) :
    (s.closeProof p l restoring linkOk portOk).Proved p.sheaf ∧ ∀ q ∈ (s.closeProof p l restoring linkOk portOk).proofs, q ∈ s.proofs := by
  unfold State.closeProof
  extract_lets n u m own failed passed allOk s1 s2 s3 s4 s5 s6
  have h1 : s.Shuts s1 := State.shuts_forEach _ (fun t x => t.shuts_proofLeg n m x _ _ _) _ s
  have h2 : s.Shuts s2 := by
    have heq : s2 = s1.proveOwn n (p.recovery && decide ((s1.unit u).state = .resting)) linkOk portOk := if_pos hown
    rw [heq]
    exact h1.trans (s1.shuts_proveOwn ..)
  have h3 : s.Shuts s3 := h2.trans (State.shuts_forEach _ (fun t leg => t.shuts_proofLegOk leg _) _ s2)
  have h4 : s.Shuts s4 := by
    unfold s4
    split
    · exact h3.trans (s3.shuts_proofUnitOk ..)
    · exact h3
  have h5 : s.Shuts s5 := h4.trans (s4.shuts_rejoin n passed)
  obtain ⟨h6, hp6⟩ := s5.leaveProving_proved n (by
    rcases h5.1 n with e | e
    · exact h.imp e.trans e.trans
    · exact .inr e)
  rw [if_pos hown]
  split
  · exact ⟨(s6.shuts_makeLasting ..).proved h6, fun q hq => h5.2 q (hp6 q ((s6.shuts_makeLasting ..).2 q hq))⟩
  · exact ⟨h6, fun q hq => h5.2 q (hp6 q hq)⟩

theorem State.shuts_notePresence (s : State) (p : Nat) (x : Presence) : s.Shuts (s.notePresence p x) := by
  unfold State.notePresence
  extract_lets s1
  have h1 : s.Shuts s1 := by
    unfold s1
    split
    · exact .refl s
    · exact s.shuts_setReg ..
  split
  · exact h1.trans (s1.shuts_setRegs _)
  · exact h1

theorem State.shuts_endRestores (s : State) (p : Sequence → Bool) : s.Shuts (s.endRestores p) := (s.endRestores_spec p).1.shuts

/-- A mode change that waited for the sheaves moves none of them. -/
theorem State.shuts_finishExit (s : State) : s.Shuts s.finishExit := by
  unfold State.finishExit
  extract_lets asks done busy
  have hdone : ∀ t : State, t.Shuts (done t) := fun t =>
    ((t.shuts_setReg Item.DEV.MODE_REASON 0).trans (State.enters_enterState _ .standby).shuts).trans (State.completes_endSequences ..).shuts
  split
  · split
    · split
      · exact hdone s
      · split
        · exact hdone s
        · split
          · exact .refl s
          · exact (s.shuts_setReg ..).trans (State.completes_endSequences ..).shuts
    · exact .refl s
  · split
    · exact hdone s
    · exact .refl s
  · exact .refl s

/-- The proof of a sheaf is over: the sheaf is READY or WINNOWED, and no proof of it runs. -/
def State.ProofOver (s : State) (n : Nat) : Prop := s.Proved n ∧ ∀ q ∈ s.proofs, q.unit ≠ unitOf Kind.sheaf n

theorem State.Shuts.proofOver {s t : State} {n : Nat} (h : s.Shuts t) (hn : s.ProofOver n) : t.ProofOver n :=
  ⟨h.proved hn.1, fun q hq => hn.2 q (h.2 q hq)⟩

/-- R75 to R78: the proof of a sheaf ends. -/
theorem exec_sheafProofEnd_proved {s : State} (hl : s.live = true) {n : Nat} {legs : List LegProof} {link : LinkCheck} {presence : Presence}
    {p : ProofRun} (hn : n < 12) (hfind : s.proofs.find? (fun p => decide (p.unit = unitOf Kind.sheaf n)) = some p)
    (hunit : p.unit = unitOf Kind.sheaf n) (hsheaf : p.sheaf = n) (hreport : p.report = false) (hrunning : p.running = false)
    (hstate : (s.sheaf n).state = .proving) :
    ∃ t, exec (.sheafProofEnd (unitOf Kind.sheaf n) legs link presence) s = .next t
      ∧ ((t.sheaf n).state = .ready ∨ (t.sheaf n).state = .winnowed) ∧ ∀ q ∈ t.proofs, q.unit ≠ unitOf Kind.sheaf n := by
  have hown : p.own = true := by
    have hkind : unitKind p.unit = Kind.sheaf := by rw [hunit, unitKind_unitOf (by omega)]
    simp [ProofRun.own, hrunning, hkind]
  refine ⟨_, rfl, ?_⟩
  generalize hf : (fun t : State => _) = f
  have hwork : (f s).ProofOver n := by
    rw [← hf]
    beta_reduce
    split
    · next hnone => rw [hfind] at hnone; cases hnone
    · next p' hsome =>
      obtain rfl : p = p' := Option.some.inj (hfind.symm.trans hsome)
      subst hsheaf
      extract_lets k l linkOk portOk restoring bits m t0 t1 t2 t3 us t4 t5
      have h0 : State.Shuts { s with proofs := s.proofs.filter (fun q => decide (q.unit ≠ unitOf Kind.sheaf k)) } t0 :=
        State.shuts_forEach _ (fun u x => u.shuts_noteLegProof _ x) _ _
      have hgone : ∀ q ∈ t0.proofs, q.unit ≠ unitOf Kind.sheaf k := fun q hq => by
        simpa using (List.mem_filter.mp (h0.2 q hq)).2
      have h1 : t1.ProofOver k := by
        unfold t1
        rw [if_neg (by simp [hreport])]
        obtain ⟨hproved, hproofs⟩ := t0.closeProof_proved p l restoring linkOk portOk hown ((h0.1 k).imp_left (·.trans hstate))
        exact ⟨hproved, fun q hq => hgone q (hproofs q hq)⟩
      have h2 : t1.Shuts t2 := by
        unfold t2
        split
        · exact t1.shuts_supplies ..
        · exact .refl t1
      have h3 : t2.Shuts t3 := by
        refine State.Shuts.trans ?_ (State.shuts_setReg ..)
        split
        · split
          · exact t2.shuts_notePresence ..
          · exact .refl t2
        · exact .refl t2
      have h4 : t3.Shuts t5 := (t3.shuts_setReg ..).trans (State.completes_endSequences ..).shuts
      exact ((((h2.trans h3).trans h4).trans (t5.shuts_endRestores _)).trans (State.shuts_finishExit _)).proofOver h1
  rw [s.act_sheaf f hl, s.act_proofs f hl]
  exact hwork

/-! ## Self-tests, rests and the sheaves that another unit winnowed (R440 to R447) -/

/-- What a targeted self-test measured stands in items: no unit's status, no journal and no time moves. -/
theorem State.noteTest_measures (s : State) (u : Nat) (f : SelftestFinding) : s.Measures (s.noteTest u f) := by
  unfold State.noteTest
  simp only
  split
  · exact s.measures_setRegs _
  · split
    · exact s.measures_setRegs _
    · exact ⟨rfl, le_rfl⟩
  · exact ⟨rfl, le_rfl⟩

/-- A record of class L that makes a unit lasting is taken up (R440, R444). -/
theorem State.makeLasting_takesUp {s g : State} (hj : g.store.journal = s.store.journal) (u : Nat) {src : Nat} (hsrc : src < 256) :
    s.TakesUp (g.makeLasting u src) u .lasting .L src := by
  obtain ⟨r, hr, hu⟩ := g.journals_record u .L src false hsrc (.inr (.inl rfl))
  exact ⟨by simp [State.makeLasting, State.setFault, State.Shows], r, hj ▸ hr, hu⟩

/-- R440, R441, R444: a targeted self-test ends in the states of Table 16-3. -/
theorem exec_selftestResult_ends {s : State} (hl : s.live = true) {u : Nat} (finding : SelftestFinding) (h : (s.unit u).state = .handling) :
    ((s.unit u).cls = .L → ∃ t, exec (.selftestResult u finding) s = .next t ∧ t.unit u = { s.unit u with state := .lasting }) ∧
    ((s.unit u).cls ≠ .L → s.targetedOk u finding = true → (s.unit u).atLimit = false →
      ∃ t, exec (.selftestResult u finding) s = .next t ∧ t.unit u = { s.unit u with
        state := .resting, restEnd := s.time.now + s.regN (Item.FLT.REST (unitType u)) * 1000000 }) ∧
    ((s.unit u).cls ≠ .L → s.targetedOk u finding = false ∨ (s.unit u).atLimit = true → (s.unit u).src < 256 →
      ∃ t, exec (.selftestResult u finding) s = .next t ∧ s.TakesUp t u .lasting .L (s.unit u).src) := by
  have hjournal : (s.noteTest u finding).store.journal = s.store.journal := by rw [(s.noteTest_measures u finding).eq]
  have hrow : ∃ f, exec (.selftestResult u finding) s = .next (s.act f) ∧ f s =
      if (s.unit u).cls = .L then (s.noteTest u finding).setUnit u { s.unit u with state := .lasting }
      else if (s.targetedOk u finding && !(s.unit u).atLimit) = true then (s.noteTest u finding).setUnit u { s.unit u with
        state := .resting, restEnd := s.time.now + s.regN (Item.FLT.REST (unitType u)) * 1000000 }
      else (s.noteTest u finding).makeLasting u (s.unit u).src := by
    refine ⟨_, rfl, ?_⟩
    extract_lets r ok t1
    rw [if_neg (by simp [r, h])]
  obtain ⟨f, hexec, hwork⟩ := hrow
  replace hrow := hexec.trans (congrArg Host.Outcome.next (s.act_to f _ hwork))
  refine ⟨fun hL => ⟨_, hrow, ?_⟩, fun hL hok hlimit => ⟨_, hrow, ?_⟩, fun hL hbad hsrc => ⟨_, hrow, ?_⟩⟩
  · rw [s.act_unit _ hl, if_pos hL, State.unit_setUnit_same]
  · rw [s.act_unit _ hl, if_neg hL, if_pos (by simp [hok, hlimit]), State.unit_setUnit_same]
  · rw [if_neg hL, if_neg (by rcases hbad with hb | hb <;> simp [hb])]
    exact s.act_takesUp _ hl (State.makeLasting_takesUp hjournal u hsrc)

/-- A unit that recovers is idle, its recovery counts, and no leg, no sheaf and no time moves (R443). -/
theorem State.recovered_spec (s : State) (u : Nat) :
    ((s.recovered u).unit u).state = .idle ∧ ((s.recovered u).unit u).total = (s.unit u).total + 1 ∧ (s.recovered u).legs = s.legs
      ∧ (s.recovered u).sheaf = s.sheaf ∧ (s.recovered u).time = s.time := by
  unfold State.recovered
  extract_lets r s1
  have htalks := s1.talks_event 3 (beBytes 4 u ++ [0, BitVec.ofNat 8 r.src, 0, 0])
  generalize s1.event 3 _ = t at htalks ⊢
  have hunit : t.unit u = s1.unit u := by rw [htalks]; rfl
  have hs1 : (s1.unit u).state = .idle ∧ (s1.unit u).total = (s.unit u).total + 1 := by
    unfold s1
    rw [State.unit_setUnit_same]
    unfold UnitRec.unforced
    split <;> exact ⟨rfl, rfl⟩
  rw [hunit]
  exact ⟨hs1.1, hs1.2, by rw [htalks]; rfl, by rw [htalks]; rfl, by rw [htalks]; rfl⟩

/-- R443, R446, R447: a rest ends with the unit's recovery, or with what its recovery action finds. -/
theorem exec_restEnd_work {s : State} {u : Nat} (integrated : Bool) (presence : Presence) (hlocked : s.dev.state ≠ .locked)
    (hset : unitKind u ≠ Kind.set) (hrests : (s.unit u).state = .resting) (hheld : s.heldByCommand u = false)
    (hauto : s.regN (Item.FLT.AUTO_RECOV (unitType u)) = 1) :
    exec (.restEnd u integrated presence) s
      = .next (s.act fun _ => (s.reach (s.unit u).restEnd).recoverUnit u integrated presence) := by
  have hrow : ∃ f, exec (.restEnd u integrated presence) s = .next (s.act f)
      ∧ f s = (s.reach (s.unit u).restEnd).recoverUnit u integrated presence := by
    refine ⟨_, rfl, ?_⟩
    extract_lets r
    rw [if_neg hlocked, if_neg hset, if_neg (by simp [r, hrests, hheld, hauto])]
  obtain ⟨f, hexec, hwork⟩ := hrow
  exact hexec.trans (congrArg Host.Outcome.next (s.act_to f _ hwork))

/-- The rest of a unit that returns at once ends in its recovery. -/
theorem State.act_recovered {s : State} (hl : s.live = true) (u : Nat) :
    let t := s.act fun _ => (s.reach (s.unit u).restEnd).recovered u
    (t.unit u).state = .idle ∧ (t.unit u).total = (s.unit u).total + 1 ∧ (s.unit u).restEnd ≤ t.time.now ∧ s.LegsStand t ∧ t.sheaf = s.sheaf := by
  intro t
  obtain ⟨hidle, htotal, hlegs, hsheaf, htime⟩ := (s.reach (s.unit u).restEnd).recovered_spec u
  refine ⟨?_, ?_, ?_, fun n => ?_, funext fun n => ?_⟩
  · rw [s.act_unit _ hl]; exact hidle
  · rw [s.act_unit _ hl]; exact htotal
  · rw [s.act_time _ hl, htime]; exact le_max_of_le_right (Nat.le_max_right ..)
  · have hband := s.act_banded (fun _ => (s.reach (s.unit u).restEnd).recovered u) hl n
    have hleg : ((s.reach (s.unit u).restEnd).recovered u).leg n = s.leg n := by unfold State.leg; rw [hlegs]; rfl
    rwa [hleg] at hband
  · rw [s.act_sheaf _ hl, hsheaf]; rfl

/-- What a CAN controller's return changes is the controller and its state. -/
theorem State.canBack_keeps (s : State) (n : Nat) : (s.canBack n).unit = s.unit ∧ (s.canBack n).time = s.time := ⟨rfl, rfl⟩

/-- R443, Table 16-1: the units that are not proved return at once. -/
theorem State.recoverUnit_atOnce (s : State) {u : Nat} (integrates : Bool) (presence : Presence)
    (h : unitKind u = Kind.fastInput ∨ unitKind u = Kind.slowInput ∨ unitKind u = Kind.output ∨ unitKind u = Kind.fast
      ∨ unitKind u = Kind.slow ∨ unitKind u = Kind.supervisor) : s.recoverUnit u integrates presence = s.recovered u := by
  unfold State.recoverUnit State.back
  rcases h with h | h | h | h | h | h <;> simp only [h]

/-- R443, Table 18-6: a CAN controller is back where it integrates, else it is lasting with source 33. -/
theorem State.recoverUnit_can (s : State) {u : Nat} (integrates : Bool) (presence : Presence) (h : unitKind u = Kind.can) :
    s.recoverUnit u integrates presence = if integrates then (s.recovered u).canBack (unitIndex u) else s.makeLasting u 33 := by
  have hsource : s.recoveryFailSource u = 33 := by unfold State.recoveryFailSource; rw [h]; rfl
  unfold State.recoverUnit State.back
  simp only [h, hsource]

/-- Gate supplies going on or off change legs only (R56). -/
theorem State.supplies_eq (s : State) (l : List Nat) (on : Bool) : s.supplies l on = { s with legs := (s.supplies l on).legs } :=
  State.forEach_rel (R := fun s t => t = { s with legs := t.legs }) (fun _ => rfl) (fun _ _ _ h k => by rw [k, h]) _ (fun _ _ => rfl) l s

/-- The run that the proof of a whole sheaf begins (R73, R79). -/
def State.sheafRun (s : State) (n : Nat) (recovery : Bool) : ProofRun :=
  { unit := unitOf Kind.sheaf n, sheaf := n, legs := s.bind.legsOf n, started := s.time.now, report := false, recovery := recovery, running := false }

/-- Beside sheaves, proofs and gate supplies nothing moves as the proof of a sheaf begins. -/
theorem State.proveSheaf_eq (s : State) (n : Nat) (recovery : Bool) :
    s.proveSheaf n recovery = { s with
      legs := (s.proveSheaf n recovery).legs, sheaves := (s.proveSheaf n recovery).sheaves, proofs := (s.proveSheaf n recovery).proofs } := by
  unfold State.proveSheaf State.beginProof
  extract_lets p s1 s2 h
  have hs1 : s1 = { s with legs := s1.legs } := s.supplies_eq _ true
  have hs2 : s2 = { s with legs := s2.legs, proofs := s2.proofs } := by
    unfold s2
    rw [hs1]
  split
  · rw [hs2]
  · unfold State.setSheaf
    rw [hs2]

/-- A sheaf whose proof begins is PROVING, and the proof is among those that run. -/
theorem State.proveSheaf_begins (s : State) {n : Nat} (hn : n < 2 ^ 16) (recovery : Bool) :
    ((s.proveSheaf n recovery).sheaf n).state = .proving ∧ s.sheafRun n recovery ∈ (s.proveSheaf n recovery).proofs := by
  have hkind : unitKind (unitOf Kind.sheaf n) = Kind.sheaf := unitKind_unitOf (by omega)
  unfold State.proveSheaf State.beginProof
  extract_lets p s1 s2 h
  rw [if_neg (by simp [hkind])]
  exact ⟨by rw [State.sheaf_setSheaf_same], List.mem_append_right _ (List.mem_singleton_self p)⟩

/-- R445: a WINNOWED sheaf whose causes are gone is in its proof. -/
theorem State.reprove_eq {s : State} {n : Nat} (hw : (s.sheaf n).state = .winnowed) (hcauses : (s.sheaf n).causes ≠ [])
    (hcommanded : (s.sheaf n).commanded = false) (hout : (s.unit (unitOf Kind.sheaf n)).out = false) (hprovable : s.provable n = true)
    (hback : (s.sheaf n).causes.all s.causeBack = true) : s.reprove n = s.proveSheaf n true :=
  if_pos ⟨hw, hcauses, by simp [hcommanded], by simp [hout], hback, by simp [State.reprovable, hprovable, hw]⟩

/-- Settles O32, each end of a proof, test, rest or winnowing by the lemma of its row (assumption logs 68 and 105). -/
theorem unitsComeBackByTheirRules : Obligations.UnitsComeBackByTheirRules := by
  unfold Obligations.UnitsComeBackByTheirRules
  intro s hl
  refine ⟨fun n legs link presence p hn hfind hunit hsheaf hreport hrunning hstate =>
      exec_sheafProofEnd_proved hl hn hfind hunit hsheaf hreport hrunning hstate,
    fun u finding h => exec_selftestResult_ends hl finding h,
    fun u integrated presence hlocked hrests hheld hauto => ⟨fun hkind => ?_, fun hkind hint => ?_, fun hkind hint => ?_⟩,
    fun u integrated presence hlocked => ?_,
    fun n hw hcauses hcommanded hout hprovable hback => ?_⟩
  · have hset : unitKind u ≠ Kind.set := by rcases hkind with h | h | h | h | h | h <;> rw [h] <;> decide
    refine ⟨_, exec_restEnd_work integrated presence hlocked hset hrests hheld hauto, ?_⟩
    rw [State.recoverUnit_atOnce _ integrated presence hkind]
    exact State.act_recovered hl u
  · have hset : unitKind u ≠ Kind.set := by rw [hkind]; decide
    refine ⟨_, exec_restEnd_work integrated presence hlocked hset hrests hheld hauto, ?_⟩
    rw [State.recoverUnit_can _ integrated presence hkind, if_pos hint, s.act_unit _ hl, s.act_time _ hl]
    obtain ⟨hidle, htotal, -, -, htime⟩ := (s.reach (s.unit u).restEnd).recovered_spec u
    obtain ⟨hunits, hcan⟩ := ((s.reach (s.unit u).restEnd).recovered u).canBack_keeps (unitIndex u)
    rw [hcan, htime, hunits]
    exact ⟨hidle, htotal, le_max_of_le_right (Nat.le_max_right ..)⟩
  · have hset : unitKind u ≠ Kind.set := by rw [hkind]; decide
    refine ⟨_, exec_restEnd_work integrated presence hlocked hset hrests hheld hauto, ?_⟩
    rw [State.recoverUnit_can _ integrated presence hkind, if_neg (by simp [hint])]
    exact s.act_takesUp _ hl (State.makeLasting_takesUp (s := s) (g := s.reach (s.unit u).restEnd) rfl u (by decide))
  · refine ⟨_, rfl, ?_, s.act_locked _ hlocked⟩
    funext v
    rw [s.act_unit _ hl]
    exact congrArg (State.unit · v) (if_pos hlocked)
  · obtain ⟨hproving, hrun⟩ := s.proveSheaf_begins (n := n) (by omega) true
    have hrow : exec (.dependentReproof n) s = .next (s.act fun _ => s.proveSheaf n true) :=
      congrArg Host.Outcome.next (s.act_to _ _ (State.reprove_eq hw hcauses hcommanded hout hprovable hback))
    have hrest := s.proveSheaf_eq n true
    generalize s.proveSheaf n true = g at hproving hrun hrest hrow
    refine ⟨_, hrow, ?_, ⟨s.sheafRun n true, ?_, rfl⟩, funext fun v => ?_, funext fun v => ?_⟩
    · rw [s.act_sheaf _ hl]; exact hproving
    · rw [s.act_proofs _ hl]; exact hrun
    · rw [s.act_unit _ hl, hrest]; rfl
    · rw [s.act_out _ hl, hrest]; rfl

end Sys2Proof.Machine

namespace Sys2Proof.Machine

/-! ## A release of the HV connection whose record another tag reaches (R37, R123, R420) -/

/-- The write of 0 to DEV.HV_REQ of slot 1, in its tag 0. -/
def releaseMessage : HostMsg :=
  { kind := 0, flags := 0, tag := 64, opcode := 0x0011, length := 8, fresh := 0, unit := 0, timeout := 0, atTime := 0,
    payload := wordBytes (nw Item.DEV.HV_REQ) ++ wordBytes 0, mac := 0 }

/-- The record of that command, waiting. -/
def releaseRecord : CmdRec :=
  { state := .waiting, msg := releaseMessage, order := 0, accepted := 0, start := none, code := 0, reason := 0, result := [],
    completed := 0, sent := 0 }

/-- STANDBY, the write waiting in tag 0 of slot 1, and a connection sequence under tag 64 of slot 0, which is free. No command gets such a
tag, but the statement speaks of every state, and records are kept by slot * 64 + tag: the sequence's record is the write's. -/
def strayConnect : State :=
  { State.reset with
    dev := { State.reset.dev with state := .standby, fwRunning := true }
    slots := [(1, { HostSlot.init with status := .attached })]
    recs := [(64, some releaseRecord)]
    seqs := [{ kind := .hvConnect, units := [unitOf Kind.device 0], slot := 0, index := 64, arg := 0, started := 0 }]
    regs := (State.reset.setRegs [(Item.HOST.RIGHTS 1, 0x1FFF), (Item.SOUT.OWNER 0, 0), (Item.SOUT.OWNER 1, 0)]).regs }

theorem strayConnect_due : strayConnect.Due 1 0 releaseRecord where
  cmd := rfl
  waiting := rfl
  may := by decide +kernel
  time := .inl rfl
  claim := by decide +kernel
  early := by decide +kernel
  held := by decide
  alone := rfl
  fresh := by decide

theorem strayConnect_passes :
    writeItems releaseMessage = [(nw Item.DEV.HV_REQ, 0)] ∧ bitsOf (nw Item.DEV.HV_REQ) 23 0 = Item.DEV.HV_REQ
      ∧ strayConnect.itemFails 1 [(nw Item.DEV.HV_REQ, 0)] (nw Item.DEV.HV_REQ) 0 = none := by decide +kernel

/-- The release ends the sequence, whose completion takes the record of the write with it (slot 0 is free). -/
theorem strayConnect_release {t : State} (h : exec (.hvDisconnect 1 0) strayConnect = .next t) : t.cmd 1 0 = none := by
  have hrun : (match exec (.hvDisconnect 1 0) strayConnect with | .next t => t.cmd 1 0 | _ => some releaseRecord) = none := by
    decide +kernel
  rw [h] at hrun
  exact hrun

/-- Refutes O46: its condition that no running sequence bears the command's tag does not keep a sequence from a tag of 64 or more, which
reaches the record of another slot. The write of 0 to DEV.HV_REQ ends the connection sequence under such a tag, and its own record with it,
so that no answer stands after the command. -/
theorem not_requestsChangeStatesAndOutputs : ¬ Obligations.RequestsChangeStatesAndOutputs := by
  intro h
  obtain ⟨-, -, -, -, -, hrelease, -⟩ := h strayConnect 1 0 releaseRecord (by decide) rfl rfl (by decide) strayConnect_due
  obtain ⟨hitems, haddress, hpasses⟩ := strayConnect_passes
  obtain ⟨t, ht, -, -, hanswers⟩ := hrelease ⟨rfl, rfl, _, haddress, hitems, hpasses⟩ rfl (by decide +kernel) (by decide +kernel)
  have hnone := strayConnect_release ht
  rw [State.Answers, Fin.val_one, Fin.val_zero] at hanswers
  exact absurd (hnone.symm.trans hanswers) (by simp)

end Sys2Proof.Machine

namespace Sys2Proof.Machine

/-! ## What messages and test conversions leave (R108, R187, R231) -/

/-- What a test on an input changes besides its answer: measured items and readings, the unit's own status but not its state, messages. No
other unit's status moves, and no slot is attached or freed. -/
structure State.Tests (s t : State) (u : Nat) : Prop where
  eq : t = { s with
    units := t.units, fasts := t.fasts, regs := t.regs, therm := t.therm, lanes := t.lanes, streams := t.streams, slots := t.slots
    tx := t.tx, cans := t.cans, dev := { s.dev with free := t.dev.free } }
  others : ∀ v, v ≠ u → t.unit v = s.unit v
  state : (t.unit u).state = (s.unit u).state
  status : ∀ n, (t.slot n).status = (s.slot n).status

theorem State.Tests.refl (s : State) (u : Nat) : s.Tests s u := ⟨rfl, fun _ _ => rfl, rfl, fun _ => rfl⟩

theorem State.Tests.trans {s t v : State} {u : Nat} (h : s.Tests t u) (k : t.Tests v u) : s.Tests v u where
  eq := by rw [k.eq, h.eq]
  others w hw := (k.others w hw).trans (h.others w hw)
  state := k.state.trans h.state
  status n := (k.status n).trans (h.status n)

theorem State.tests_forEach {α : Type} {u : Nat} (f : State → α → State) (hf : ∀ s a, State.Tests s (f s a) u) (l : List α) (s : State) :
    s.Tests (s.forEach l f) u :=
  State.forEach_rel (R := fun s t => State.Tests s t u) (fun s => .refl s u) (fun _ _ _ => State.Tests.trans) f hf l s

/-- Items and readings alone. -/
theorem State.tests_measured {s t : State} (u : Nat)
    (h : t = { s with fasts := t.fasts, regs := t.regs, therm := t.therm, lanes := t.lanes, streams := t.streams }) : s.Tests t u := by
  have hunit : t.unit = s.unit := by rw [h]; rfl
  have hslot : t.slot = s.slot := by rw [h]; rfl
  exact ⟨by rw [h], fun v _ => congrFun hunit v, by rw [hunit], fun n => by rw [hslot]⟩

theorem State.tests_setRegs (s : State) (l : List (Nat × Word)) (u : Nat) : s.Tests (s.setRegs l) u := by
  induction l generalizing s with
  | nil => exact .refl s u
  | cons p l ih => exact (State.tests_measured (t := s.setReg p.1 p.2) u rfl).trans (ih _)

/-- A unit's own status, its state as it was. -/
theorem State.tests_setUnit {s : State} {u : Nat} {r : UnitRec} (h : r.state = (s.unit u).state) : s.Tests (s.setUnit u r) u where
  eq := rfl
  others v hv := s.unit_setUnit_other u r v hv
  state := by rw [State.unit_setUnit_same, h]
  status _ := rfl

theorem State.tests_useForce (s : State) (u k : Nat) : s.Tests (s.useForce u k) u := State.tests_setUnit rfl

/-- What leaves the statuses of units and of slots, of the messages' kind. -/
theorem State.Talks.tests {s t : State} (h : s.Talks t) (hstatus : ∀ n, (t.slot n).status = (s.slot n).status) (u : Nat) : s.Tests t u := by
  unfold State.Talks at h
  have hunit : t.unit = s.unit := by rw [h]; rfl
  exact ⟨by rw [h], fun v _ => congrFun hunit v, by rw [hunit], hstatus⟩

theorem State.canLoad_slots (s : State) (n slot : Nat) : (s.canLoad n slot).slots = s.slots := by
  unfold State.canLoad
  simp only
  split
  · rfl
  · split <;> rfl

theorem State.emit_slots (s : State) (m : OutMsg) : (s.emit m).slots = s.slots := by
  unfold State.emit State.canQueue
  split
  · exact State.canLoad_slots ..
  · rfl

/-- A message changes a slot's books, not its attachment (R108, R116). -/
theorem State.sendAt_status (s : State) (slot kind code index opcode reason time : Nat) (port : Option Nat) (payload : List Byte) (n : Nat) :
    ((s.sendAt slot kind code index opcode reason time port payload).slot n).status = (s.slot n).status := by
  unfold State.sendAt
  simp only
  split
  · unfold State.slot
    rw [State.emit_slots]
    show ((s.setSlot slot _).slot n).status = _
    rw [State.slot_setSlot]
    split
    · next h => rw [h]
    · rfl
  · rfl

theorem State.tests_sendAt (s : State) (slot kind code index opcode reason time : Nat) (port : Option Nat) (payload : List Byte) (u : Nat) :
    s.Tests (s.sendAt slot kind code index opcode reason time port payload) u :=
  (s.talks_sendAt ..).tests (s.sendAt_status slot kind code index opcode reason time port payload) u

theorem State.tests_event (s : State) (code : Nat) (payload : List Byte) (u : Nat) : s.Tests (s.event code payload) u := by
  refine State.tests_forEach _ (fun t n => ?_) _ s
  unfold State.eventTo
  split
  · exact t.tests_sendAt ..
  · exact .refl t u

/-- A class-W record of a unit that is no leg moves its own status only (R439, R455). -/
theorem State.tests_record_W (s : State) (u src : Nat) (forced : Bool) (hu : unitKind u ≠ Kind.leg) : s.Tests (s.record u .W src forced) u := by
  have hlog : ∀ r, s.legLog u r = s := fun r => if_neg hu
  unfold State.record
  simp only [hlog]
  split
  · exact (s.tests_event ..).trans (State.tests_setUnit rfl)
  · exact .refl s u

theorem State.tests_note_W (s : State) (u src : Nat) (forced : Bool) (hu : unitKind u ≠ Kind.leg) : s.Tests (s.note u .W src forced) u := by
  unfold State.note
  split
  · exact .refl s u
  · exact (s.tests_record_W u src forced hu).trans (State.tests_setUnit rfl)

/-- A class-W detection of a unit that is no leg leaves its state (R439, R441, R530). -/
theorem State.tests_detect_W (s : State) (u src : Nat) (forced : Bool) (hu : unitKind u ≠ Kind.leg) : s.Tests (s.detect u .W src forced) u := by
  have hnote := s.tests_note_W u src forced hu
  unfold State.detect
  split
  · exact .refl s u
  · contradiction
  · contradiction
  · next hidle _ =>
    split
    · exact .refl s u
    · exact hnote.trans (State.tests_setUnit (hidle.symm.trans hnote.state.symm))
  · exact hnote
  · exact hnote
  · contradiction

/-- A result that joins lanes changes lanes only (R277). -/
theorem State.tests_sampleLanes (s : State) (kind idx : Nat) (value : Nat → Word) (stamp : Nat) (valid : Bool) (u : Nat) :
    s.Tests (s.sampleLanes kind idx value stamp valid) u := by
  have hjoin : ∀ (t : State) lane slot w stamp valid, t.Tests (t.joinSlot lane slot w stamp valid) u := fun t lane slot w stamp valid => by
    refine State.tests_measured u ?_
    unfold State.joinSlot State.missSlot
    simp only
    split
    · rfl
    · split
      · rfl
      · split
        · rfl
        · split <;> rfl
  refine State.tests_forEach _ (fun t n => ?_) _ s
  split
  · refine State.tests_forEach _ (fun v j => ?_) _ t
    simp only
    split
    · exact hjoin ..
    · exact .refl v u
  · exact .refl t u

theorem State.tests_streamFlush (s : State) (x : Stream) (u : Nat) : s.Tests (s.streamFlush x) u := by
  unfold State.streamFlush
  extract_lets x1 s1 bytes
  have h1 : s.Tests s1 u := State.tests_measured u rfl
  split
  · exact .refl s u
  · split
    · exact h1.trans (s1.tests_sendAt ..)
    · exact h1

theorem State.tests_streamRow (s : State) (x : Stream) (u : Nat) : s.Tests (s.streamRow x) u := by
  unfold State.streamRow
  split
  · exact State.tests_measured u rfl
  · extract_lets row full s1
    have h1 : s.Tests s1 u := by
      unfold s1
      split
      · exact s.tests_streamFlush x u
      · exact .refl s u
    exact h1.trans (State.tests_measured u rfl)

theorem State.tests_noteHeat (s : State) (k i : Nat) (v : Int) (t : Nat) (valid sat test : Bool) (u : Nat) :
    s.Tests (s.noteHeat k i v t valid sat test) u := by
  refine State.tests_measured u ?_
  unfold State.noteHeat
  split
  · simp only
    split <;> rfl
  · simp only
    split <;> rfl
  · rfl

/-- A result of a fast input leaves every unit's state (R230 to R232). -/
theorem State.tests_fastResult (s : State) (k i seq entry : Nat) (queued bg test : Bool) (code : BitVec 14) (capture : Nat) (hk : k < 16) (hi : i < 8) :
    s.Tests (s.fastResult k i seq entry queued bg test code capture) (unitOf Kind.fastInput (8 * k + i)) := by
  have hu : unitKind (unitOf Kind.fastInput (8 * k + i)) ≠ Kind.leg := by rw [unitKind_unitOf (by omega)]; decide
  unfold State.fastResult
  extract_lets c u forcedSat forcedLim code' v sat openW valid lim b w t was run s1 s2 s3 s4
  have h1 : s.Tests s1 u := State.tests_measured u rfl
  have h2 : s1.Tests s2 u := (s1.tests_useForce u 3).trans (State.tests_setRegs ..)
  have h3 : s2.Tests s3 u := by
    unfold s3
    split
    · exact s2.tests_detect_W u 17 forcedSat hu
    · exact .refl s2 u
  have h4 : s3.Tests s4 u := by
    unfold s4
    split
    · exact s3.tests_detect_W u 18 forcedLim hu
    · exact .refl s3 u
  exact ((((h1.trans h2).trans h3).trans h4).trans (s4.tests_noteHeat ..)).trans
    ((State.tests_sampleLanes ..).trans (State.tests_forEach _ (fun t x => t.tests_streamRow x u) _ _))

end Sys2Proof.Machine

namespace Sys2Proof.Machine

/-! ## Commands that are answered at once -/

/-- A completion leaves units, sheaves, legs, lanes, outputs, items and the store. -/
theorem State.Completes.leaves {s t : State} (h : s.Completes t) :
    t.unit = s.unit ∧ t.sheaf = s.sheaf ∧ t.leg = s.leg ∧ t.lane = s.lane ∧ t.out = s.out ∧ t.reg = s.reg := by
  unfold State.Completes at h
  rw [h]
  exact ⟨rfl, rfl, rfl, rfl, rfl, rfl⟩

/-- The row of a due command does its work. -/
theorem State.Due.act_row {s g : State} {slot index : Nat} {r : CmdRec} (hd : s.Due slot index r) (hk : s.dev.state ≠ .locked)
    {is : HostMsg → Bool} {f : State → HostMsg → State} (his : is r.msg = true) (hf : f s r.msg = g) :
    s.act (fun t => t.hostRow slot index is f) = s.act (fun _ => g) :=
  s.act_to _ _ ((hd.hostRow hk his f).trans hf)

/-- The row of a due command whose work is answered with a completion does that and no more. -/
theorem State.Calm.answered_row {s u : State} {slot index : Nat} {r : CmdRec} (hc : s.Calm) (hd : s.Due slot index r) {is : HostMsg → Bool}
    {f : State → HostMsg → State} (his : is r.msg = true) {code reason : Nat} {result : List Byte}
    (hf : f s r.msg = u.complete slot index code reason result) (hw : s.Working u) :
    s.act (fun t => t.hostRow slot index is f) = s.keepLive (u.complete slot index code reason result) :=
  (hd.act_row hc.locked his hf).trans (hc.act_complete hw code reason result)

/-! ## SELFTEST of a fast input (R187, R240, R241) -/

theorem State.Tests.working {s t : State} {u : Nat} (h : s.Tests t u) : s.Working t :=
  ⟨by rw [h.eq], h.status, by rw [h.eq], by rw [h.eq], by rw [h.eq], by rw [h.eq]⟩

/-- What the numbered test 1 of a fast input leaves where it passes, before its answer. -/
def State.inputTested (s : State) (k : Nat) (f : SelftestFinding) : State :=
  ((s.testEffects (unitOf Kind.fastInput k) 1 f).useForce (unitOf Kind.fastInput k) 2).setReg (Item.ADCF.TEST_RESULT (k / 8) (k % 8))
    (testWord 1 0 f.us)

theorem State.tests_inputTested (s : State) {k : Nat} (hk : k < 128) (f : SelftestFinding) :
    s.Tests (s.inputTested k f) (unitOf Kind.fastInput k) := by
  have hkind : unitKind (unitOf Kind.fastInput k) = Kind.fastInput := unitKind_unitOf (by omega)
  have hindex : unitIndex (unitOf Kind.fastInput k) = k := by unfold unitIndex unitOf; omega
  have heffects : s.Tests (s.testEffects (unitOf Kind.fastInput k) 1 f) (unitOf Kind.fastInput k) := by
    unfold State.testEffects
    simp only [hkind, hindex, if_true]
    refine State.tests_forEach _ (fun t c => ?_) _ s
    have h := t.tests_fastResult (k / 8) (k % 8) 0 0 false false true (BitVec.ofInt 14 c) t.tick (by omega) (by omega)
    rwa [Nat.div_add_mod] at h
  exact (heffects.trans (State.tests_useForce ..)).trans (State.tests_setRegs _ [(_, _)] _)

/-- A test 1 of a fast input whose checks pass is answered with its result word. -/
theorem State.doSelftest_input {s : State} {slot index k : Nat} {f : SelftestFinding} {m : HostMsg} (hk : k < 128)
    (hpayload : m.payload = [0, 1]) (hu : target m = unitOf Kind.fastInput k)
    (hfree : s.unitOut (unitOf Kind.fastInput k) = true ∨ s.testState = true)
    (hpass : firstFail (s.testChecks (unitOf Kind.fastInput k) 1 f) = 0) :
    s.doSelftest slot index f m
      = (s.inputTested k f).complete slot index Code.ok Reason.none (wordBytes (testWord 1 0 f.us)) := by
  have hkind : unitKind (unitOf Kind.fastInput k) = Kind.fastInput := unitKind_unitOf (by omega)
  have hindex : unitIndex (unitOf Kind.fastInput k) = k := by unfold unitIndex unitOf; omega
  have hrefusal : s.testRefusal (unitOf Kind.fastInput k) = 0 := by
    unfold State.testRefusal
    simp only [hkind]
    exact if_pos (by rcases hfree with h | h <;> simp [h])
  have hcount : s.testCount (unitOf Kind.fastInput k) = 2 := by
    unfold State.testCount
    simp only [hkind]
  have hitem : resultItem (unitOf Kind.fastInput k) = some (Item.ADCF.TEST_RESULT (k / 8) (k % 8)) := by
    unfold resultItem
    simp only [hkind, hindex]
  have hforce : testForce (unitOf Kind.fastInput k) 1 = some 2 := by
    unfold testForce
    simp only [hkind]
  have hrun : s.testRun (unitOf Kind.fastInput k) 1 f
      = ((s.testEffects (unitOf Kind.fastInput k) 1 f).useForce (unitOf Kind.fastInput k) 2, 0) := by
    unfold State.testRun
    rw [if_neg (by simp [hkind])]
    simp only [hpass, hforce, if_true]
  have htest : beAt [(0 : Byte), 1] 0 2 = 1 := by decide
  have hleg : decide (Kind.fastInput = Kind.leg) = false := by decide
  unfold State.doSelftest
  simp only [hpayload, hu, hkind]
  rw [if_neg (by decide), if_neg (by decide), if_neg (by decide), if_neg (by simp [hrefusal]),
    if_neg (by rw [hcount]; decide), htest, if_neg (fun h => absurd h.2.1 (by decide)), if_neg (fun h => absurd h.1 (by decide))]
  unfold State.runTest
  simp only [hkind, hleg, Bool.false_and, Bool.false_eq_true, if_false, hrun]
  unfold State.endTest
  rw [hitem]
  rfl

/-- R187, R241: SELFTEST of a fast input whose checks pass ends with its result word, and no unit's state moves. -/
theorem exec_selftest_input {s : State} (hc : s.Calm) {slot : Fin 8} {index : Fin 64} {r : CmdRec} (hd : s.Due slot index r) {k : Nat} (hk : k < 128)
    (finding : SelftestFinding) (hop : op r.msg = Op.selftest) (hpayload : r.msg.payload = [0, 1])
    (hu : target r.msg = unitOf Kind.fastInput k) (hfree : s.unitOut (target r.msg) = true ∨ s.testState = true)
    (hpass : firstFail (s.testChecks (target r.msg) 1 finding) = 0) :
    ∃ t, exec (.selftest slot index finding) s = .next t
      ∧ t.Answers slot index r Code.ok Reason.none (wordBytes (testWord 1 0 finding.us))
      ∧ t.reg (Item.ADCF.TEST_RESULT (k / 8) (k % 8)) = testWord 1 0 finding.us ∧ (∀ v, v ≠ target r.msg → t.unit v = s.unit v)
      ∧ (t.unit (target r.msg)).state = (s.unit (target r.msg)).state ∧ t.sheaf = s.sheaf ∧ t.leg = s.leg := by
  rw [hu] at hfree hpass ⊢
  have htests := s.tests_inputTested hk finding
  have hrow := hc.answered_row hd (is := fun m => decide (op m = Op.selftest)) (f := fun u m => u.doSelftest slot index finding m)
    (decide_eq_true hop) (State.doSelftest_input hk hpayload hu hfree hpass) htests.working
  have hresult : (s.inputTested k finding).reg (Item.ADCF.TEST_RESULT (k / 8) (k % 8)) = testWord 1 0 finding.us := State.reg_setReg_same ..
  refine ⟨_, congrArg Host.Outcome.next hrow, hd.answers htests.working .., ?_⟩
  obtain ⟨hunit, hsheaf, hleg, -, -, hreg⟩ :=
    ((s.inputTested k finding).completes_complete slot index Code.ok Reason.none (wordBytes (testWord 1 0 finding.us))).leaves
  generalize (s.inputTested k finding).complete slot index Code.ok Reason.none (wordBytes (testWord 1 0 finding.us)) = t
    at hunit hsheaf hleg hreg
  generalize s.inputTested k finding = g at *
  refine ⟨?_, fun v hv => ?_, ?_, ?_, ?_⟩
  · rw [State.keepLive_reg', hreg, hresult]
  · rw [State.keepLive_unit', hunit, htests.others v hv]
  · rw [State.keepLive_unit', hunit, htests.state]
  · show t.sheaf = s.sheaf
    rw [hsheaf, htests.eq]; rfl
  · show t.leg = s.leg
    rw [hleg, htests.eq]; rfl

end Sys2Proof.Machine

namespace Sys2Proof.Machine

/-! ## PROVE of a sheaf and of the device (R79, R80, Table 3-6) -/

/-- A command that goes on as a sequence: its record is in execution, and besides the list of sequences nothing moves. -/
theorem State.addSequence_eq {s : State} {slot index : Nat} {r : CmdRec} (h : s.cmd slot index = some r) (kind : SeqKind) (units : List Nat)
    (arg : Nat) :
    s.addSequence kind units slot index arg = { s.setCmd slot index (some { r with state := .running }) with
      seqs := s.seqs ++ [{ kind := kind, units := units, slot := slot, index := index, arg := arg, started := s.time.now }] } := by
  unfold State.addSequence State.running
  simp only [h]
  rfl

theorem State.addSequence_runs {s : State} {slot index : Nat} {r : CmdRec} (h : s.cmd slot index = some r) (kind : SeqKind) (units : List Nat)
    (arg : Nat) : (s.addSequence kind units slot index arg).Runs slot index r := by
  unfold State.Runs
  rw [State.addSequence_eq h]
  exact s.cmd_setCmd_same slot index (some { r with state := .running })

theorem State.Runs.of_recs {s t : State} {slot index : Nat} {r : CmdRec} (h : s.Runs slot index r) (ht : t.recs = s.recs) :
    t.Runs slot index r := by
  unfold State.Runs State.cmd at *
  rw [ht]
  exact h

/-- R79, Table 3-8: PROVE of a sheaf that is OFF or READY begins the proof of its legs. -/
theorem exec_prove_sheaf {s : State} (hc : s.Calm) {slot : Fin 8} {index : Fin 64} {r : CmdRec} (hd : s.Due slot index r) {n : Nat} (hn : n < 12)
    (hop : op r.msg = Op.prove) (hpayload : r.msg.payload = []) (hu : target r.msg = unitOf Kind.sheaf n)
    (hstate : (s.sheaf n).state = .off ∨ (s.sheaf n).state = .ready) (hfree : s.proofOn (s.bind.legsOf n) = false) :
    ∃ t, exec (.prove slot index) s = .next t ∧ (t.sheaf n).state = .proving ∧ t.Runs slot index r
      ∧ ∃ q ∈ t.proofs, q.unit = target r.msg ∧ q.sheaf = n ∧ q.legs = s.bind.legsOf n ∧ q.report = false ∧ q.started = s.time.now := by
  have hkind : unitKind (unitOf Kind.sheaf n) = Kind.sheaf := unitKind_unitOf (by omega)
  have hindex : unitIndex (unitOf Kind.sheaf n) = n := by unfold unitIndex unitOf; omega
  have hservice : s.serviceUnit (unitOf Kind.sheaf n) = unitOf Kind.sheaf n := if_neg (by rw [hkind]; decide)
  have hwork : s.doProve slot index r.msg = (s.addSequence .prove [unitOf Kind.sheaf n] slot index 0).proveSheaf n false := by
    unfold State.doProve
    simp only [hpayload, hu, hservice, hkind, hindex, ne_eq, not_true_eq_false, if_false]
    rw [if_neg (by rcases hstate with h | h <;> simp [h, hfree]), if_neg (by rcases hstate with h | h <;> simp [h])]
  have hrow := hd.act_row hc.locked (is := fun m => decide (op m = Op.prove)) (f := fun u m => u.doProve slot index m)
    (decide_eq_true hop) hwork
  have hruns := State.addSequence_runs hd.cmd .prove [unitOf Kind.sheaf n] 0
  have hframe := State.addSequence_eq hd.cmd .prove [unitOf Kind.sheaf n] 0
  generalize s.addSequence .prove [unitOf Kind.sheaf n] slot index 0 = g at hrow hruns hframe
  obtain ⟨hproving, hrun⟩ := g.proveSheaf_begins (n := n) (by omega) false
  have hrest := g.proveSheaf_eq n false
  generalize g.proveSheaf n false = t at hrow hproving hrun hrest
  have hact : s.act (fun _ => t) = s.keepLive t := hc.act t (by rw [hrest, hframe]; rfl) (by rw [hrest, hframe]; rfl) (by rw [hrest, hframe]; rfl)
  refine ⟨_, congrArg Host.Outcome.next (hrow.trans hact), hproving, ?_, g.sheafRun n false, hrun, hu.symm, rfl, ?_, rfl, ?_⟩
  · exact hruns.of_recs (show t.recs = g.recs by rw [hrest])
  · show g.bind.legsOf n = _
    rw [hframe]; rfl
  · show g.time.now = _
    rw [hframe]; rfl

/-- The command records stay. -/
def State.SameRecs (s t : State) : Prop := t.recs = s.recs

theorem State.SameRecs.refl (s : State) : s.SameRecs s := rfl

theorem State.SameRecs.trans {s t u : State} (h : s.SameRecs t) (k : t.SameRecs u) : s.SameRecs u := Eq.trans k h

theorem State.sameRecs_forEach {α : Type} (f : State → α → State) (hf : ∀ s a, State.SameRecs s (f s a)) (l : List α) (s : State) :
    s.SameRecs (s.forEach l f) := State.forEach_rel State.SameRecs.refl (fun _ _ _ => State.SameRecs.trans) f hf l s

theorem State.sameRecs_setDev (s : State) (d : Dev) : s.SameRecs { s with dev := d } := rfl

theorem State.sameRecs_setSlot (s : State) (n : Nat) (h : HostSlot) : s.SameRecs (s.setSlot n h) := rfl

theorem State.sameRecs_setUnit (s : State) (u : Nat) (r : UnitRec) : s.SameRecs (s.setUnit u r) := rfl

theorem State.sameRecs_setOut (s : State) (n : Nat) (o : Output) : s.SameRecs (s.setOut n o) := rfl

theorem State.sameRecs_serviceLog (s : State) (code slot low : Nat) (detail : Word) : s.SameRecs (s.serviceLog code slot low detail) := rfl

theorem State.Talks.sameRecs {s t : State} (h : s.Talks t) : s.SameRecs t := by
  unfold State.Talks at h
  unfold State.SameRecs
  rw [h]

/-- A leg's band changes the leg, and may use a free word (R164). -/
theorem State.bandAgain_eq (s : State) (leg : Nat) :
    s.bandAgain leg = { s with legs := (s.bandAgain leg).legs, dev := { s.dev with free := (s.bandAgain leg).dev.free } } := by
  unfold State.bandAgain State.takeBand
  extract_lets l l' u band running
  split
  · rfl
  · split
    · rfl
    · split <;> rfl

theorem State.sameRecs_clearForce (s : State) (u : Nat) : s.SameRecs (s.clearForce u) := by
  unfold State.clearForce
  extract_lets r s1
  have h1 : s.SameRecs s1 := s.sameRecs_setUnit ..
  split
  · refine h1.trans ?_
    rw [State.bandAgain_eq]
    rfl
  · exact h1

theorem State.sameRecs_outOff (s : State) (n : Nat) : s.SameRecs (s.outOff n) := by
  unfold State.outOff State.outDemand
  simp only
  split <;> rfl

theorem State.sameRecs_applyOffCauses (s : State) : s.SameRecs s.applyOffCauses := by
  refine State.sameRecs_forEach _ (fun t n => ?_) _ s
  simp only
  split
  · exact (t.sameRecs_outOff n).trans (State.sameRecs_setOut ..)
  · exact t.sameRecs_setOut ..

theorem State.sameRecs_isoCheck (s : State) : s.SameRecs s.isoCheck := by
  unfold State.isoCheck
  split <;> rfl

theorem State.sameRecs_leaveService (s : State) : s.SameRecs s.leaveService := by
  unfold State.leaveService
  exact (State.sameRecs_forEach _ (fun t n => t.sameRecs_setSlot n _) _ s).trans (State.sameRecs_setDev _ _)

/-- A change of the device's state leaves command records. -/
theorem State.sameRecs_enterState (s : State) (d : DevState) : s.SameRecs (s.enterState d) := by
  unfold State.enterState
  split
  · exact .refl s
  · extract_lets old by' s0 dev s1 s2 s3
    have h0 : s.SameRecs s0 := State.sameRecs_forEach _ (fun t (p : Nat × UnitRec) => t.sameRecs_clearForce p.1) _ s
    have h1 : s0.SameRecs s1 := s0.sameRecs_setDev _
    have h2 : s1.SameRecs s2 := by
      unfold s2
      split
      · exact s1.sameRecs_leaveService.trans (State.sameRecs_serviceLog ..)
      · exact .refl s1
    exact ((((h0.trans h1).trans h2).trans (State.talks_event ..).sameRecs).trans (State.sameRecs_applyOffCauses _)).trans
      (State.sameRecs_isoCheck _)

/-- The device begins PROOF with the tests of its shutdown paths (R80); records and what waits for a boundary stand. -/
theorem State.beginDeviceProof_begins (s : State) :
    s.beginDeviceProof.dev.state = .proof ∧ s.beginDeviceProof.dev.pathTesting = true ∧ s.beginDeviceProof.recs = s.recs
      ∧ s.beginDeviceProof.waits = s.waits ∧ s.beginDeviceProof.swaps = s.swaps := by
  unfold State.beginDeviceProof
  extract_lets s1 l dev s2
  have hproofs : s2.forEach l (fun t n => t.proveSheaf n false) = { s2 with
      legs := (s2.forEach l (fun t n => t.proveSheaf n false)).legs, sheaves := (s2.forEach l (fun t n => t.proveSheaf n false)).sheaves
      proofs := (s2.forEach l (fun t n => t.proveSheaf n false)).proofs } :=
    State.forEach_rel (R := fun s t => t = { s with legs := t.legs, sheaves := t.sheaves, proofs := t.proofs }) (fun _ => rfl)
      (fun _ _ _ h k => by rw [k, h]) _ (fun t n => t.proveSheaf_eq n false) l s2
  obtain ⟨henters, -, -⟩ := s.enters_enterState .proof
  rw [hproofs]
  refine ⟨s.enterState_state .proof, rfl, s.sameRecs_enterState .proof, ?_, ?_⟩
  · show (s.enterState .proof).waits = s.waits
    rw [henters]
  · show (s.enterState .proof).swaps = s.swaps
    rw [henters]

/-- R80, Table 3-6: PROVE of the device in STANDBY, no sheaf running, begins PROOF. -/
theorem exec_prove_device {s : State} (hc : s.Calm) {slot : Fin 8} {index : Fin 64} {r : CmdRec} (hd : s.Due slot index r)
    (hop : op r.msg = Op.prove) (hpayload : r.msg.payload = []) (hu : target r.msg = unitOf Kind.device 0) (hstate : s.dev.state = .standby)
    (hrun : s.anyRun = false) :
    ∃ t, exec (.prove slot index) s = .next t ∧ t.dev.state = .proof ∧ t.dev.pathTesting = true ∧ t.Runs slot index r := by
  have hservice : s.serviceUnit (unitOf Kind.device 0) = unitOf Kind.device 0 := if_neg (by decide)
  have hwork : s.doProve slot index r.msg = (s.addSequence .prove [unitOf Kind.device 0] slot index 0).beginDeviceProof := by
    unfold State.doProve
    simp only [hpayload, hu, hservice, ne_eq, not_true_eq_false, if_false]
    exact if_pos ⟨hstate, by simp [hrun]⟩
  have hrow := hd.act_row hc.locked (is := fun m => decide (op m = Op.prove)) (f := fun u m => u.doProve slot index m)
    (decide_eq_true hop) hwork
  have hruns := State.addSequence_runs hd.cmd .prove [unitOf Kind.device 0] 0
  have hframe := State.addSequence_eq hd.cmd .prove [unitOf Kind.device 0] 0
  generalize s.addSequence .prove [unitOf Kind.device 0] slot index 0 = g at hrow hruns hframe
  obtain ⟨hproof, htesting, hrecs, hwaits, hswaps⟩ := g.beginDeviceProof_begins
  generalize g.beginDeviceProof = t at hrow hproof htesting hrecs hwaits hswaps
  have hact : s.act (fun _ => t) = s.keepLive t := s.act_eq _ hc.live (by rw [hwaits, hframe]; exact hc.waits)
    (by rw [hswaps, hframe]; exact hc.swaps) (by rw [hproof]; decide) (by rw [hproof]; decide)
  exact ⟨_, congrArg Host.Outcome.next (hrow.trans hact), (s.keepLive_devState t hc.locked).trans hproof, htesting, hruns.of_recs hrecs⟩

/-! ## WINNOW (R298, R318, R499) -/

/-- R499, R240: WINNOW of a fast input that no closed lane reads holds it, and leaves its state. -/
theorem exec_winnow_input {s : State} (hc : s.Calm) {slot : Fin 8} {index : Fin 64} {r : CmdRec} (hd : s.Due slot index r) {k : Nat} (hk : k < 128)
    (hop : op r.msg = Op.winnow) (hpayload : r.msg.payload = []) (hu : target r.msg = unitOf Kind.fastInput k)
    (hin : (s.unit (target r.msg)).out = false) (hread : s.inputRead k = false) :
    ∃ t, exec (.winnow slot index) s = .next t ∧ (t.unit (target r.msg)).commanded = true
      ∧ (t.unit (target r.msg)).state = (s.unit (target r.msg)).state
      ∧ t.Answers slot index r Code.ok Reason.none (t.unitResult (target r.msg)) ∧ t.sheaf = s.sheaf ∧ t.leg = s.leg ∧ t.lane = s.lane := by
  rw [hu] at hin ⊢
  have hkind : unitKind (unitOf Kind.fastInput k) = Kind.fastInput := unitKind_unitOf (by omega)
  have hindex : unitIndex (unitOf Kind.fastInput k) = k := by unfold unitIndex unitOf; omega
  have hservice : s.serviceUnit (unitOf Kind.fastInput k) = unitOf Kind.fastInput k := if_neg (by rw [hkind]; decide)
  have hbound : s.unboundLeg (unitOf Kind.fastInput k) = false := by unfold State.unboundLeg; rw [hkind]; rfl
  have hout : s.unitOut (unitOf Kind.fastInput k) = false := by unfold State.unitOut; simp only [hkind, hin]; rfl
  have hreason : s.winnowReason (unitOf Kind.fastInput k) = 0 := by
    unfold State.winnowReason
    simp only [hkind, hindex, hread]
    rfl
  let g := (s.serviceLog 3 slot (unitKind (unitOf Kind.fastInput k) * 256) (nw (unitOf Kind.fastInput k))).command (unitOf Kind.fastInput k)
  have hwinnow : ∀ t : State, t.winnowUnit (unitOf Kind.fastInput k) = t := fun t => by unfold State.winnowUnit; simp only [hkind]
  have hwork : s.doWinnow slot index r.msg = g.complete slot index Code.ok Reason.none (g.unitResult (unitOf Kind.fastInput k)) := by
    unfold State.doWinnow
    simp only [hpayload, hu, hservice, hbound, hout, hreason, hwinnow, ne_eq, not_true_eq_false, Bool.false_eq_true, if_false]
    rw [if_neg (by rw [hkind]; exact fun h => absurd h.1 (by decide))]
    rfl
  have hg : s.Working g := ⟨rfl, fun _ => rfl, rfl, rfl, rfl, rfl⟩
  have hrow := hc.answered_row hd (is := fun m => decide (op m = Op.winnow)) (f := fun u m => u.doWinnow slot index m)
    (decide_eq_true hop) hwork hg
  obtain ⟨hunit, hsheaf, hleg, hlane, -, -⟩ :=
    (g.completes_complete slot index Code.ok Reason.none (g.unitResult (unitOf Kind.fastInput k))).leaves
  have hcommanded : g.unit (unitOf Kind.fastInput k) = { s.unit (unitOf Kind.fastInput k) with commanded := true } := State.unit_setUnit_same ..
  have hresult : ∀ t : State, t.unit = g.unit → t.unitResult (unitOf Kind.fastInput k) = g.unitResult (unitOf Kind.fastInput k) := fun t ht => by
    unfold State.unitResult State.unitState
    simp only [hkind, ht]
  have hanswers := hd.answers hg Code.ok Reason.none (g.unitResult (unitOf Kind.fastInput k))
  generalize g.complete slot index Code.ok Reason.none (g.unitResult (unitOf Kind.fastInput k)) = t at hrow hunit hsheaf hleg hlane hanswers
  refine ⟨_, congrArg Host.Outcome.next hrow, ?_, ?_, ?_, hsheaf, hleg, hlane⟩
  · rw [State.keepLive_unit', hunit, hcommanded]
  · rw [State.keepLive_unit', hunit, hcommanded]
  · rw [hresult (s.keepLive t) hunit]
    exact hanswers

end Sys2Proof.Machine

namespace Sys2Proof.Machine

/-! ## WINNOW of sheaves and of traction sets (R298 to R300, R318) -/

/-- R298, R499: WINNOW of a sheaf that is READY or in RUN takes it to WINNOWED and holds it there. -/
theorem exec_winnow_sheaf {s : State} (hc : s.Calm) {slot : Fin 8} {index : Fin 64} {r : CmdRec} (hd : s.Due slot index r) {n : Nat} (hn : n < 12)
    (hop : op r.msg = Op.winnow) (hpayload : r.msg.payload = []) (hu : target r.msg = unitOf Kind.sheaf n)
    (hin : (s.unit (target r.msg)).out = false) (hstate : (s.sheaf n).state = .ready ∨ (s.sheaf n).state = .run) :
    ∃ t, exec (.winnow slot index) s = .next t ∧ (t.sheaf n).state = .winnowed ∧ (t.unit (target r.msg)).commanded = true := by
  rw [hu] at hin ⊢
  have hkind : unitKind (unitOf Kind.sheaf n) = Kind.sheaf := unitKind_unitOf (by omega)
  have hindex : unitIndex (unitOf Kind.sheaf n) = n := by unfold unitIndex unitOf; omega
  have hservice : s.serviceUnit (unitOf Kind.sheaf n) = unitOf Kind.sheaf n := if_neg (by rw [hkind]; decide)
  have hbound : s.unboundLeg (unitOf Kind.sheaf n) = false := by unfold State.unboundLeg; rw [hkind]; rfl
  have hout : s.unitOut (unitOf Kind.sheaf n) = false := by
    unfold State.unitOut
    simp only [hkind, hindex, hin]
    rcases hstate with h | h <;> simp [h]
  have hreason : s.winnowReason (unitOf Kind.sheaf n) = 0 := by
    unfold State.winnowReason
    simp only [hkind, hindex]
    exact if_pos hstate
  have hwinnow : ∀ t : State, t.winnowUnit (unitOf Kind.sheaf n)
      = (t.winnowSheaf n none).setSheaf n { (t.winnowSheaf n none).sheaf n with commanded := true } := fun t => by
    unfold State.winnowUnit
    simp only [hkind, hindex]
  let g := s.serviceLog 3 slot (unitKind (unitOf Kind.sheaf n) * 256) (nw (unitOf Kind.sheaf n))
  let w := (g.winnowUnit (unitOf Kind.sheaf n)).command (unitOf Kind.sheaf n)
  have hwork : s.doWinnow slot index r.msg = w.ok slot index (w.unitResult (unitOf Kind.sheaf n)) := by
    unfold State.doWinnow
    simp only [hpayload, hu, hservice, hbound, hout, hreason, ne_eq, not_true_eq_false, Bool.false_eq_true, if_false]
    rw [if_neg (by rw [hkind]; exact fun h => absurd h.1 (by decide))]
  have hrow := hd.act_row hc.locked (is := fun m => decide (op m = Op.winnow)) (f := fun u m => u.doWinnow slot index m)
    (decide_eq_true hop) hwork
  have hsheaf : (w.sheaf n).state = .winnowed := by
    show ((g.winnowUnit (unitOf Kind.sheaf n)).sheaf n).state = _
    rw [hwinnow, State.sheaf_setSheaf_same]
    exact (g.winnowSheaf_spec n).2 (.inr hstate)
  have hcommanded : (w.unit (unitOf Kind.sheaf n)).commanded = true := by
    show (((g.winnowUnit (unitOf Kind.sheaf n)).command (unitOf Kind.sheaf n)).unit _).commanded = _
    unfold State.command
    rw [State.unit_setUnit_same]
  obtain ⟨hunits, hsheaves, -⟩ := (w.completes_complete slot index Code.ok Reason.none (w.unitResult (unitOf Kind.sheaf n))).leaves
  refine ⟨_, congrArg Host.Outcome.next hrow, ?_, ?_⟩
  · rw [s.act_sheaf _ hc.live]
    exact (congrArg (fun f => (f n).state) hsheaves).trans hsheaf
  · rw [s.act_unit _ hc.live]
    exact (congrArg (fun f => (f (unitOf Kind.sheaf n)).commanded) hunits).trans hcommanded

/-- A traction set begins to give up its share (R318). -/
def State.startRamp (s : State) (k : Nat) : State :=
  { s with trac := { s.trac with ramps := s.trac.ramps ++ [(k, s.time.now, false)] } }

/-- R299, R300, R318: WINNOW of a leg of the running traction sheaf begins to take its set's share away. -/
theorem exec_winnow_tractionLeg {s : State} (hc : s.Calm) {slot : Fin 8} {index : Fin 64} {r : CmdRec} (hd : s.Due slot index r) {n l : Nat}
    (hl : l < 48) (hop : op r.msg = Op.winnow) (hpayload : r.msg.payload = []) (hu : target r.msg = unitOf Kind.leg l)
    (hof : s.bind.sheafOfLeg l = some n) (htype : s.stype n = SType.trc) (htrc : s.trcSheaf = some n) (hrun : (s.sheaf n).state = .run)
    (hout : s.unitOut (s.serviceUnit (target r.msg)) = false) (hreason : s.winnowSetReason = 0)
    (hramps : ∀ x ∈ s.trac.ramps, x.1 ≠ s.bind.position l / 3) :
    ∃ t, exec (.winnow slot index) s = .next t ∧ t.trac.ramps = s.trac.ramps ++ [(s.bind.position l / 3, s.time.now, false)]
      ∧ t.Runs slot index r ∧ t.leg = s.leg := by
  have hkind : unitKind (unitOf Kind.leg l) = Kind.leg := unitKind_unitOf (by omega)
  have hindex : unitIndex (unitOf Kind.leg l) = l := by unfold unitIndex unitOf; omega
  have hset : s.bind.position l / 3 < 48 := by
    unfold Bind.position
    rw [hof]
    show (l - s.bind.firstOf n) / 3 < 48
    omega
  have hservice : s.serviceUnit (unitOf Kind.leg l) = unitOf Kind.set (s.bind.position l / 3) := by
    unfold State.serviceUnit
    rw [if_pos hkind, hindex]
    simp only [hof]
    exact if_pos htype
  rw [hu, hservice] at hout
  generalize s.bind.position l / 3 = k at hset hramps hservice hout ⊢
  have hkindSet : unitKind (unitOf Kind.set k) = Kind.set := unitKind_unitOf (by omega)
  have hindexSet : unitIndex (unitOf Kind.set k) = k := by unfold unitIndex unitOf; omega
  have hbound : s.unboundLeg (unitOf Kind.leg l) = false := by unfold State.unboundLeg; rw [hindex, hof]; simp
  have hreasonSet : s.winnowReason (unitOf Kind.set k) = 0 := by
    unfold State.winnowReason
    simp only [hkindSet]
    exact hreason
  have hruns : s.trcRuns = true := by unfold State.trcRuns; simp [htrc, hrun]
  let g := (s.serviceLog 3 slot (unitKind (unitOf Kind.leg l) * 256) (nw (unitOf Kind.leg l))).addSequence .winnow
    ([unitOf Kind.leg l, unitOf Kind.set k].dedup) slot index 0
  have hcmd : (s.serviceLog 3 slot (unitKind (unitOf Kind.leg l) * 256) (nw (unitOf Kind.leg l))).cmd slot index = some r := hd.cmd
  have hframe := State.addSequence_eq hcmd .winnow ([unitOf Kind.leg l, unitOf Kind.set k].dedup) 0
  have hseq : g.Runs slot index r := State.addSequence_runs hcmd ..
  have htrac : g.trac = s.trac ∧ g.time = s.time ∧ g.waits = s.waits ∧ g.swaps = s.swaps ∧ g.dev = s.dev ∧ g.leg = s.leg := by
    show State.trac (State.addSequence _ _ _ _ _ _) = _ ∧ _
    unfold g
    rw [hframe]
    exact ⟨rfl, rfl, rfl, rfl, rfl, rfl⟩
  have hwork : s.doWinnow slot index r.msg = g.startRamp k := by
    unfold State.doWinnow
    simp only [hpayload, hu, hservice, hbound, hout, hreasonSet, hkindSet, hindexSet, hruns, ne_eq, not_true_eq_false, Bool.false_eq_true,
      and_self, if_true, if_false]
    refine if_neg ?_
    show ¬ g.trac.ramps.any (fun r => decide (r.1 = k)) = true
    rw [htrac.1]
    simpa using fun x => ⟨fun h => hramps (k, x, false) h rfl, fun h => hramps (k, x, true) h rfl⟩
  have hrow := hd.act_row hc.locked (is := fun m => decide (op m = Op.winnow)) (f := fun u m => u.doWinnow slot index m)
    (decide_eq_true hop) hwork
  clear_value g
  obtain ⟨htrac, htime, hwaits, hswaps, hdev, hleg⟩ := htrac
  rw [hc.act (g.startRamp k) hwaits hswaps (congrArg Dev.state hdev)] at hrow
  refine ⟨_, congrArg Host.Outcome.next hrow, ?_, hseq, hleg⟩
  show g.trac.ramps ++ [(k, g.time.now, false)] = _
  rw [htrac, htime]

/-! ## FORCE (R188, R456) -/

/-- Setting force bits of a unit that is no CAN controller changes that unit's status, and where it is a leg its band. -/
theorem State.setForce_eq (s : State) (u mask value : Nat) (hcan : unitKind u ≠ Kind.can) :
    s.setForce u mask value = { s with
      units := (s.setForce u mask value).units, legs := (s.setForce u mask value).legs
      dev := { s.dev with free := (s.setForce u mask value).dev.free } }
    ∧ ((s.setForce u mask value).unit (forceUnit u)).force = ((s.unit (forceUnit u)).force &&& ~~~(nw mask)) ||| (nw value &&& nw mask) := by
  unfold State.setForce
  extract_lets w r new armed s1
  have hforce : (s1.unit w).force = new := by unfold s1; rw [State.unit_setUnit_same]
  rw [if_neg hcan]
  split
  · have hband := s1.bandAgain_eq (unitIndex u)
    generalize s1.bandAgain (unitIndex u) = t at hband
    rw [hband]
    exact ⟨rfl, hforce⟩
  · exact ⟨rfl, hforce⟩

theorem State.setForce_legsStand (s : State) (u mask value : Nat) (hcan : unitKind u ≠ Kind.can) : s.LegsStand (s.setForce u mask value) := by
  unfold State.setForce
  extract_lets w r new armed s1
  rw [if_neg hcan]
  split
  · exact (s1.settles_takeBand _ _ _).2
  · exact fun n => .refl _

/-- FORCE notes the word of force bits that stands, and answers with it. -/
def State.forceAnswered (s : State) (slot index u : Nat) : State :=
  (s.serviceLog 5 slot 0 (s.unit (forceUnit u)).force).complete slot index Code.ok Reason.none (wordBytes (s.unit (forceUnit u)).force)

/-- R188, R456: FORCE sets the bits of its mask and answers with the word that stands. -/
theorem exec_force_sets {s : State} (hc : s.Calm) {slot : Fin 8} {index : Fin 64} {r : CmdRec} (hd : s.Due slot index r) {bits : Nat}
    (hop : op r.msg = Op.force) (hpayload : r.msg.payload.length = 8) (hbound : s.unboundLeg (target r.msg) = false)
    (hcan : unitKind (target r.msg) ≠ Kind.can) (hbits : s.forceMask (target r.msg) = some bits) (hopen : s.forceOpen (target r.msg) = true)
    (hmask : beAt r.msg.payload 0 4 &&& bits = beAt r.msg.payload 0 4) :
    ∃ t, exec (.force slot index) s = .next t
      ∧ (t.unit (forceUnit (target r.msg))).force = ((s.unit (forceUnit (target r.msg))).force &&& ~~~(nw (beAt r.msg.payload 0 4)))
          ||| (nw (beAt r.msg.payload 4 4) &&& nw (beAt r.msg.payload 0 4))
      ∧ t.Answers slot index r Code.ok Reason.none (wordBytes (t.unit (forceUnit (target r.msg))).force) ∧ t.reg = s.reg
      ∧ t.sheaf = s.sheaf ∧ s.LegsStand t ∧ t.out = s.out := by
  obtain ⟨hframe, hforce⟩ := s.setForce_eq (target r.msg) (beAt r.msg.payload 0 4) (beAt r.msg.payload 4 4) hcan
  have hlegs := s.setForce_legsStand (target r.msg) (beAt r.msg.payload 0 4) (beAt r.msg.payload 4 4) hcan
  have hwork : s.doForce slot index r.msg = (s.setForce (target r.msg) (beAt r.msg.payload 0 4) (beAt r.msg.payload 4 4)).forceAnswered
      slot index (target r.msg) := by
    unfold State.doForce
    simp only [hbound, hbits, hopen, hmask, hpayload, ne_eq, not_true_eq_false, Bool.not_true, Bool.false_eq_true, if_false]
    rfl
  generalize s.setForce (target r.msg) (beAt r.msg.payload 0 4) (beAt r.msg.payload 4 4) = g at hframe hforce hlegs hwork
  have hlog : s.Working (g.serviceLog 5 slot 0 (g.unit (forceUnit (target r.msg))).force) := by
    rw [hframe]
    exact ⟨rfl, fun _ => rfl, rfl, rfl, rfl, rfl⟩
  have hrow := hc.answered_row hd (is := fun m => decide (op m = Op.force)) (f := fun u m => u.doForce slot index m)
    (decide_eq_true hop) hwork hlog
  have hanswers := hd.answers hlog Code.ok Reason.none (wordBytes (g.unit (forceUnit (target r.msg))).force)
  obtain ⟨hunit, hsheaf, hleg, -, hout, hreg⟩ := ((g.serviceLog 5 slot 0 (g.unit (forceUnit (target r.msg))).force).completes_complete slot index
    Code.ok Reason.none (wordBytes (g.unit (forceUnit (target r.msg))).force)).leaves
  generalize State.complete (g.serviceLog 5 slot 0 (g.unit (forceUnit (target r.msg))).force) slot index Code.ok Reason.none
    (wordBytes (g.unit (forceUnit (target r.msg))).force) = t at hrow hanswers hunit hsheaf hleg hout hreg
  replace hunit : t.unit = g.unit := hunit
  have hstands : s.sheaf = g.sheaf ∧ s.out = g.out ∧ s.reg = g.reg := by
    rw [hframe]
    exact ⟨rfl, rfl, rfl⟩
  obtain ⟨hgsheaf, hgout, hgreg⟩ := hstands
  refine ⟨s.keepLive t, congrArg Host.Outcome.next hrow, ?_, ?_, hreg.trans hgreg.symm, hsheaf.trans hgsheaf.symm, fun n => ?_, hout.trans hgout.symm⟩
  · rw [State.keepLive_unit', hunit, hforce]
  · rw [State.keepLive_unit', hunit]
    exact hanswers
  · rw [State.keepLive_leg', hleg]
    exact hlegs n

/-- Settles O43, each of PROVE, WINNOW, SELFTEST and FORCE by the lemmas of its row (assumption logs 69, 93 and 94). -/
theorem unitsAreProvedWinnowedTestedAndForced : Obligations.UnitsAreProvedWinnowedTestedAndForced := by
  intro s slot index r n l k hc hd hn hl hk u p forceMask forceValue
  exact ⟨fun hop hp hu hstate hfree => exec_prove_sheaf hc hd hn hop hp hu hstate hfree,
    fun hop hp hu hstate hrun => exec_prove_device hc hd hop hp hu hstate hrun,
    fun hop hp hu hin hread => exec_winnow_input hc hd hk hop hp hu hin hread,
    fun hop hp hu _ hin hstate => exec_winnow_sheaf hc hd hn hop hp hu hin hstate,
    fun hop hp hu hof htype htrc hrun hout hreason hramps =>
      exec_winnow_tractionLeg hc hd hl hop hp hu hof htype htrc hrun hout hreason hramps,
    fun finding hop hp hu hfree _ hpass => exec_selftest_input hc hd hk finding hop hp hu hfree hpass,
    fun bits hop hp hbound hcan hbits hopen hmask => exec_force_sets hc hd hop hp hbound hcan hbits hopen hmask⟩

end Sys2Proof.Machine

namespace Sys2Proof.Machine

/-! ## A stream frame on a port of a CAN controller (R129, R494) -/

/-- A stream that holds a row, its frames set for port 3, that of C0. STREAM_OPEN takes only the Ethernet ports, but the statement speaks of
every state. -/
def canStream : Stream :=
  { slot := 0, number := 0, port := 3, decimation := 1, sources := [], load := 0, seq := 0, skipped := 0, rows := [[0]], first := 0, last := 0 }

/-- STANDBY, slot 0 attached, and that stream in it. -/
def canStreaming : State :=
  { State.reset with
    dev := { State.reset.dev with state := .standby, fwRunning := true }
    slots := [(0, { HostSlot.init with status := .attached })]
    streams := [canStream] }

theorem canStreaming_calm : canStreaming.Calm := ⟨by decide, rfl, rfl, by decide, by decide⟩

/-- Its frame joins the controller's queue, and nothing goes out beside. -/
theorem canStreaming_sends {t : State} (h : exec (.streamFrameSend 0 0 false) canStreaming = .next t) : t.tx.length = 0 := by
  have hrun : (match exec (.streamFrameSend 0 0 false) canStreaming with | .next t => t.tx.length | _ => 1) = 0 := by decide +kernel
  rw [h] at hrun
  exact hrun

/-- Refutes O52: its clause of STREAM_FRAME_SEND puts a frame of every stream on its way out at once, but one of a stream whose port is a CAN
controller's goes into that controller's queue (R494), and nothing is added to the messages on their way. -/
theorem not_mailboxesTakeCollectAndReturn : ¬ Obligations.MailboxesTakeCollectAndReturn := by
  intro h
  obtain ⟨-, -, -, -, -, -, -, hstream⟩ := h canStreaming canStreaming_calm
  obtain ⟨hsend, -⟩ := hstream 0 0 canStream rfl (by decide) rfl
  obtain ⟨t, ht, m, htx, -⟩ := hsend (by decide) (by decide)
  have hnone := canStreaming_sends ht
  rw [htx, List.length_append] at hnone
  exact absurd hnone (by simp)

end Sys2Proof.Machine

namespace Sys2Proof.Machine

/-! ## What a message leaves of its slot (R108, R116) -/

/-- A slot after a message to it: its freshness counter goes up, its returned credits are reported. -/
def HostSlot.sent (h : HostSlot) (kind now : Nat) : HostSlot :=
  { h with freshOut := h.freshOut + 1, credits := h.credits + h.owed, owed := 0, lastCredit := if kind = 0x12 then now else h.lastCredit }

theorem State.emit_slot (s : State) (m : OutMsg) (n : Nat) : (s.emit m).slot n = s.slot n := by
  unfold State.slot
  rw [State.emit_slots]

theorem State.sendAt_slot (s : State) (slot kind code index opcode reason time : Nat) (port : Option Nat) (payload : List Byte) (n : Nat) :
    (s.sendAt slot kind code index opcode reason time port payload).slot n
      = if n = slot ∧ (s.slot slot).status = .attached then (s.slot slot).sent kind s.time.now else s.slot n := by
  unfold State.sendAt
  simp only
  split
  · next h =>
    rw [State.emit_slot, State.slot_setSlot]
    simp only [and_iff_left h]
    rfl
  · next h => rw [if_neg (fun hc => h hc.2)]

/-- A completion that goes out for the first time is a message of its record. -/
theorem State.sendCompletion_first (s : State) (slot index : Nat) (r : CmdRec) :
    s.sendCompletion slot index r false = s.sendAt slot 0x11 r.code index r.msg.opcode.toNat r.reason r.completed none r.result := by
  unfold State.sendCompletion
  simp only [Bool.false_and, Bool.false_eq_true, if_false]

/-- A port that is open is no CAN controller's. -/
theorem State.portOpen_spec {s : State} {port : Nat} (h : s.portOpen port = true) : s.dev.fwRunning = true ∧ isCanPort port = false := by
  unfold State.portOpen at h
  simp only [Bool.and_eq_true, Bool.or_eq_true, decide_eq_true_eq] at h
  obtain ⟨hrun, hport⟩ := h
  refine ⟨hrun, ?_⟩
  unfold isCanPort
  simp only [Bool.and_eq_false_iff, decide_eq_false_iff_not]
  omega

/-! ## Attachment (R103 to R105, R112) -/

/-- The state with a partner attached to a slot, before its completion is kept and sent. -/
def State.attaching (s : State) (port n : Nat) (m : HostMsg) : State :=
  ((s.setAttachCount n m.fresh.toNat).useFree).setSlot n { s.slot n with
    status := .attached, port := port, ident := nw (beAt m.payload 4 4)
    key := s.sessionKey n (Config.deviceNonce s.dev.free) (BitVec.ofNat 128 (beAt m.payload 8 16))
    freshIn := 0, freshOut := 0, credits := s.grantedCredits n port, owed := 0, lastCredit := s.time.now, fails := 0, lastHeard := s.time.now }

/-- The record of the completion of an attachment through a port that is no CAN controller's. -/
def State.attachAnswer (s : State) (port n : Nat) (m : HostMsg) : CmdRec :=
  attachRecord m (s.attaching port n m).dev.nextOrder (s.attaching port n m).time.now
    ((s.attaching port n m).attachResult n (Config.deviceNonce s.dev.free))

/-- An attach whose form, slot, key and freshness are right attaches its partner. -/
theorem State.attach_eq {s : State} {port n : Nat} {m : HostMsg} (hrun : s.dev.fwRunning = true) (hport : isCanPort port = false)
    (hlength : m.length.toNat = m.payload.length) (hpayload : m.payload.length = 28) (hop : beAt m.payload 0 1 = 1)
    (hslot : s.chooseSlot port (nw (beAt m.payload 4 4)) none = some n) (hmac : authentic m (s.rootKey n) = true)
    (hfresh : s.attachCount n < m.fresh.toNat) :
    s.attach port none m = ((s.attaching port n m).holdAttach n (s.attachAnswer port n m)).sendCompletion n 0 (s.attachAnswer port n m) false := by
  unfold State.attach
  simp only [hrun, hlength, hpayload, hop, hslot, hmac, hport, Bool.not_true, Bool.false_eq_true, ne_eq, not_true_eq_false, if_false]
  rw [if_neg (by decide), if_neg (by decide), if_neg (Nat.not_le.mpr hfresh)]
  rfl

/-- The completion of an attachment takes tag record 0, or waits beside the record that holds it (R112). -/
theorem State.holdAttach_holds (s : State) (n : Nat) (r : CmdRec) :
    (s.holdAttach n r).slot n = { s.slot n with later := ((s.holdAttach n r).slot n).later }
      ∧ if s.cmd n 0 = none then (s.holdAttach n r).cmd n 0 = some r
        else (s.holdAttach n r).cmd n 0 = s.cmd n 0 ∧ ((s.holdAttach n r).slot n).later = some r := by
  unfold State.holdAttach
  cases hcmd : s.cmd n 0 with
  | none =>
    simp only [Option.isSome_none, Bool.false_eq_true, if_false, if_true]
    exact ⟨rfl, s.cmd_setCmd_same n 0 (some r)⟩
  | some c =>
    simp only [Option.isSome_some, if_true, reduceCtorEq, if_false]
    rw [State.slot_setSlot_same]
    exact ⟨rfl, hcmd, rfl⟩

theorem State.holdAttach_eq (s : State) (n : Nat) (r : CmdRec) :
    s.holdAttach n r = { s with slots := (s.holdAttach n r).slots, recs := (s.holdAttach n r).recs } := by
  unfold State.holdAttach
  split <;> rfl

/-- R103 to R105, R112: a partner attaches. -/
theorem exec_hostAttach_attaches {s : State} (hc : s.Calm) {port : Fin 8} {m : HostMsg} {n : Nat} (hopen : s.portOpen port = true)
    (hlength : m.length.toNat = m.payload.length) (hpayload : m.payload.length = 28) (hop : beAt m.payload 0 1 = 1)
    (hslot : s.chooseSlot port (nw (beAt m.payload 4 4)) none = some n) (hmac : authentic m (s.rootKey n) = true)
    (hfresh : s.attachCount n < m.fresh.toNat) :
    ∃ t, exec (.hostAttach port m) s = .next t ∧ (t.slot n).status = .attached ∧ (t.slot n).port = port.val
      ∧ (t.slot n).ident = nw (beAt m.payload 4 4) ∧ (t.slot n).freshIn = 0 ∧ (t.slot n).credits = s.grantedCredits n port
      ∧ (t.slot n).key = s.sessionKey n (Config.deviceNonce s.dev.free) (BitVec.ofNat 128 (beAt m.payload 8 16))
      ∧ t.attachCount n = m.fresh.toNat ∧ ∃ r, r.state = .done ∧ r.code = Code.ok ∧
        if s.cmd n 0 = none then t.cmd n 0 = some r else t.cmd n 0 = s.cmd n 0 ∧ (t.slot n).later = some r := by
  obtain ⟨hrun, hport⟩ := State.portOpen_spec hopen
  have hwork := State.attach_eq hrun hport hlength hpayload hop hslot hmac hfresh
  rw [State.sendCompletion_first] at hwork
  obtain ⟨hholds, hrecord⟩ := (s.attaching port n m).holdAttach_holds n (s.attachAnswer port n m)
  have hframe := (s.attaching port n m).holdAttach_eq n (s.attachAnswer port n m)
  have hattaching : ((s.attaching port n m).slot n) = { s.slot n with
    status := .attached, port := port, ident := nw (beAt m.payload 4 4)
    key := s.sessionKey n (Config.deviceNonce s.dev.free) (BitVec.ofNat 128 (beAt m.payload 8 16))
    freshIn := 0, freshOut := 0, credits := s.grantedCredits n port, owed := 0, lastCredit := s.time.now, fails := 0, lastHeard := s.time.now } :=
    State.slot_setSlot_same ..
  have hcount : (s.attaching port n m).attachCount n = m.fresh.toNat := by
    show KMap.get (fun _ => 0) (KMap.put (fun _ => 0) s.store.attach n m.fresh.toNat) n = _
    rw [KMap.get_put, if_pos rfl]
  have hbooks : (s.attaching port n m).waits = s.waits ∧ (s.attaching port n m).swaps = s.swaps
      ∧ (s.attaching port n m).dev.state = s.dev.state ∧ (s.attaching port n m).cmd n 0 = s.cmd n 0 := ⟨rfl, rfl, rfl, rfl⟩
  have hdone : (s.attachAnswer port n m).state = .done ∧ (s.attachAnswer port n m).code = Code.ok := ⟨rfl, rfl⟩
  generalize s.attachAnswer port n m = r at *
  generalize s.attaching port n m = g at *
  generalize g.holdAttach n r = v at *
  obtain ⟨hwaits, hswaps, hstate, hcmd⟩ := hbooks
  have hcomp := (v.talks_sendAt n 0x11 r.code 0 r.msg.opcode.toNat r.reason r.completed none r.result)
  have hslotn := v.sendAt_slot n 0x11 r.code 0 r.msg.opcode.toNat r.reason r.completed none r.result n
  have hattached : (v.slot n).status = .attached := by rw [hholds, hattaching]
  rw [if_pos ⟨rfl, hattached⟩] at hslotn
  generalize v.sendAt n 0x11 r.code 0 r.msg.opcode.toNat r.reason r.completed none r.result = t at *
  have hact : s.act (fun _ => t) = s.keepLive t := by
    unfold State.Talks at hcomp
    refine hc.act t ?_ ?_ ?_
    · rw [hcomp, hframe]; exact hwaits
    · rw [hcomp, hframe]; exact hswaps
    · rw [hcomp, hframe]; exact hstate
  have hrow : exec (.hostAttach port m) s = .next (s.keepLive t) :=
    congrArg Host.Outcome.next ((s.act_to _ t ((if_pos hopen).trans hwork)).trans hact)
  have hrecs : t.cmd n 0 = v.cmd n 0 := by
    unfold State.Talks at hcomp
    rw [hcomp]; rfl
  have hstore : t.attachCount n = g.attachCount n := by
    unfold State.Talks at hcomp
    rw [hcomp, hframe]; rfl
  obtain ⟨hstate, hcode⟩ := hdone
  refine ⟨_, hrow, ?_, ?_, ?_, ?_, ?_, ?_, ?_, r, hstate, hcode, ?_⟩
  · rw [State.keepLive_slot', hslotn, hholds, hattaching]; rfl
  · rw [State.keepLive_slot', hslotn, hholds, hattaching]; rfl
  · rw [State.keepLive_slot', hslotn, hholds, hattaching]; rfl
  · rw [State.keepLive_slot', hslotn, hholds, hattaching]; rfl
  · rw [State.keepLive_slot', hslotn, hholds, hattaching]; rfl
  · rw [State.keepLive_slot', hslotn, hholds, hattaching]; rfl
  · exact hstore.trans hcount
  · rw [State.keepLive_cmd, State.keepLive_slot', hrecs, hslotn, ← hcmd]
    exact hrecord

/-- An answer without a session through a port that is no CAN controller's goes out at once, and beside it only free words are used. -/
theorem State.reply_sends (s : State) {port : Nat} (hport : isCanPort port = false) (code opcode reason : Nat) :
    ∃ x : OutMsg, s.reply port none code opcode reason
        = { s with tx := s.tx ++ [x], dev := { s.dev with free := s.dev.free + 1 + 1 } }
      ∧ x.port = port ∧ x.kind = 0x11 ∧ x.code = code ∧ x.reason = reason := by
  unfold State.reply State.emit
  simp only [hport, Bool.false_eq_true, if_false]
  exact ⟨_, rfl, rfl, rfl, rfl, rfl⟩

/-- A command whose work is such an answer sends it and no more. -/
theorem State.Calm.replies {s : State} (hc : s.Calm) {port : Nat} (hport : isCanPort port = false) {f : State → State} {reason : Nat}
    (hf : f s = s.reply port none Code.denied Op.hostAttach reason) :
    ∃ t, (.next (s.act f) : Host.Outcome State Fault Refusal) = .next t ∧ t.slot = s.slot ∧ t.cmd = s.cmd
      ∧ ∃ x, t.tx = s.tx ++ [x] ∧ x.port = port ∧ x.kind = 0x11 ∧ x.code = Code.denied ∧ x.reason = reason := by
  obtain ⟨x, hsends, hx⟩ := s.reply_sends hport Code.denied Op.hostAttach reason
  exact hc.next (hf.trans hsends) rfl rfl rfl ⟨rfl, rfl, x, rfl, hx⟩

/-- R104, R105: an attach without a slot, with a wrong CMAC or without freshness is denied. -/
theorem exec_hostAttach_refused {s : State} (hc : s.Calm) {port : Fin 8} {m : HostMsg} (hopen : s.portOpen port = true)
    (hlength : m.length.toNat = m.payload.length) (hpayload : m.payload.length = 28) (hop : beAt m.payload 0 1 = 1) :
    let refused (reason : Nat) : Prop := ∃ t, exec (.hostAttach port m) s = .next t ∧ t.slot = s.slot ∧ t.cmd = s.cmd
      ∧ ∃ x, t.tx = s.tx ++ [x] ∧ x.port = port.val ∧ x.kind = 0x11 ∧ x.code = Code.denied ∧ x.reason = reason
    match s.chooseSlot port (nw (beAt m.payload 4 4)) none with
    | none => refused Reason.noSlot
    | some n =>
      if authentic m (s.rootKey n) = false then refused Reason.auth
      else m.fresh.toNat ≤ s.attachCount n → refused Reason.fresh := by
  intro refused
  obtain ⟨hrun, hport⟩ := State.portOpen_spec hopen
  have hform : s.attach port none m = match s.chooseSlot port (nw (beAt m.payload 4 4)) none with
      | none => s.reply port none Code.denied Op.hostAttach Reason.noSlot
      | some n =>
        if !authentic m (s.rootKey n) then s.reply port none Code.denied Op.hostAttach Reason.auth
        else if m.fresh.toNat ≤ s.attachCount n then s.reply port none Code.denied Op.hostAttach Reason.fresh
        else ((s.attaching port n m).holdAttach n (s.attachAnswer port n m)).sendCompletion n 0 (s.attachAnswer port n m) false := by
    unfold State.attach
    simp only [hrun, hlength, hpayload, hop, hport, Bool.not_true, Bool.false_eq_true, ne_eq, not_true_eq_false, if_false]
    rw [if_neg (by decide), if_neg (by decide)]
    rfl
  cases hslot : s.chooseSlot port (nw (beAt m.payload 4 4)) none with
  | none =>
    rw [hslot] at hform
    exact hc.replies hport ((if_pos hopen).trans hform)
  | some n =>
    rw [hslot] at hform
    show if _ then _ else _
    split
    · next hmac => exact hc.replies hport ((if_pos hopen).trans (hform.trans (if_pos (by simp [hmac]))))
    · next hmac =>
      exact fun hold => hc.replies hport ((if_pos hopen).trans (hform.trans ((if_neg (by simpa using hmac)).trans (if_pos hold))))

/-! ## Detachment, links and holds (R110 to R112, R524) -/

/-- A slot that is detached at a time: held from then on, with its completions and claims. -/
def HostSlot.detached (h : HostSlot) (now : Nat) : HostSlot := { h with status := .held, heldAt := now, fails := 0 }

/-- Detaching an attached slot: it is held from now, its streams are closed, its claims of the stores are over (R111). -/
theorem State.detachSlot_holds {s : State} {n : Nat} (h : (s.slot n).status = .attached) :
    s.detachSlot n = { s.setSlot n ((s.slot n).detached s.time.now) with
      streams := s.streams.filter (fun x => decide (x.slot ≠ n)), commit := (s.detachSlot n).commit } := by
  unfold State.detachSlot
  simp only [h, if_true]
  split
  · split <;> rfl
  · split <;> rfl

/-- Detaching a slot that is not attached does nothing. -/
theorem State.detachSlot_none {s : State} {n : Nat} (h : (s.slot n).status ≠ .attached) : s.detachSlot n = s := by
  unfold State.detachSlot
  exact if_neg h

/-- Beside slots, streams and the stores' claims a detachment moves nothing. -/
theorem State.detachSlot_eq (s : State) (n : Nat) :
    s.detachSlot n = { s with slots := (s.detachSlot n).slots, streams := (s.detachSlot n).streams, commit := (s.detachSlot n).commit } := by
  by_cases h : (s.slot n).status = .attached
  · rw [State.detachSlot_holds h]; rfl
  · rw [State.detachSlot_none h]

theorem State.detachSlot_slot (s : State) (n j : Nat) :
    (s.detachSlot n).slot j = if j = n ∧ (s.slot n).status = .attached
      then (s.slot n).detached s.time.now else s.slot j := by
  by_cases h : (s.slot n).status = .attached
  · rw [State.detachSlot_holds h]
    simp only [and_iff_left h]
    exact s.slot_setSlot n ((s.slot n).detached s.time.now) j
  · rw [State.detachSlot_none h, if_neg (fun hc => h hc.2)]

/-- R103, R110: a partner detaches. -/
theorem exec_hostDetach_holds {s : State} (hc : s.Calm) {port : Fin 8} {m : HostMsg} {n : Nat} (hopen : s.portOpen port = true)
    (hlength : m.length.toNat = m.payload.length) (hpayload : m.payload.length = 28) (hop : beAt m.payload 0 1 = 2) (hn : n < 8)
    (hstatus : (s.slot n).status = .attached) (hident : (s.slot n).ident = nw (beAt m.payload 4 4)) (hport : (s.slot n).port = port.val)
    (hfirst : ∀ k < n, (s.slot k).status = .free ∨ (s.slot k).ident ≠ nw (beAt m.payload 4 4) ∨ (s.slot k).port ≠ port.val)
    (hmac : authentic m (s.rootKey n) = true) (hfresh : s.attachCount n < m.fresh.toNat) :
    ∃ t, exec (.hostDetach port m) s = .next t ∧ (t.slot n).status = .held ∧ (t.slot n).heldAt = s.time.now
      ∧ (t.slot n).claims = (s.slot n).claims ∧ t.attachCount n = m.fresh.toNat := by
  obtain ⟨hrun, hcan⟩ := State.portOpen_spec hopen
  have hfind : (List.range 8).find? (fun n => decide ((s.slot n).status ≠ .free) && decide ((s.slot n).ident = nw (beAt m.payload 4 4))
      && decide ((s.slot n).port = port.val)) = some n := by
    rw [List.find?_range_eq_some]
    refine ⟨by simp [hstatus, hident, hport], List.mem_range.mpr hn, fun k hk => ?_⟩
    have h := hfirst k hk
    simp only [Bool.not_eq_true', Bool.and_eq_false_iff, decide_eq_false_iff_not, not_not]
    tauto
  have hwork : s.detach port none m = ((s.setAttachCount n m.fresh.toNat).detachSlot n).reply port none Code.ok Op.hostAttach Reason.none := by
    unfold State.detach
    simp only [hrun, hlength, hpayload, hop, hfind, hmac, Bool.not_true, Bool.false_eq_true, ne_eq, not_true_eq_false, if_false]
    rw [if_neg (by decide), if_neg (by decide), if_neg (Nat.not_le.mpr hfresh)]
  obtain ⟨x, hsends, -⟩ := ((s.setAttachCount n m.fresh.toNat).detachSlot n).reply_sends hcan Code.ok Op.hostAttach Reason.none
  have hslot := (s.setAttachCount n m.fresh.toNat).detachSlot_slot n n
  rw [if_pos ⟨rfl, hstatus⟩] at hslot
  replace hslot : ((s.setAttachCount n m.fresh.toNat).detachSlot n).slot n = (s.slot n).detached s.time.now := hslot
  have hframe := (s.setAttachCount n m.fresh.toNat).detachSlot_eq n
  have hcount : (s.setAttachCount n m.fresh.toNat).attachCount n = m.fresh.toNat := by
    show KMap.get (fun _ => 0) (KMap.put (fun _ => 0) s.store.attach n m.fresh.toNat) n = _
    rw [KMap.get_put, if_pos rfl]
  generalize (s.setAttachCount n m.fresh.toNat).detachSlot n = g at *
  refine hc.next ((if_pos hopen).trans (hwork.trans hsends)) ?_ ?_ ?_ ⟨?_, ?_, ?_, ?_⟩
  · rw [hframe]; rfl
  · rw [hframe]; rfl
  · rw [hframe]; rfl
  · exact congrArg HostSlot.status hslot
  · exact congrArg HostSlot.heldAt hslot
  · exact (congrArg HostSlot.claims hslot :)
  · refine Eq.trans ?_ hcount
    show KMap.get (fun _ => 0) g.store.attach n = _
    rw [hframe]
    rfl

end Sys2Proof.Machine

namespace Sys2Proof.Machine

/-! ## Links and silent partners (R110, R524) -/

theorem State.forEach_detach_status (l : List Nat) (s : State) (j : Nat) :
    ((s.forEach l State.detachSlot).slot j).status = if j ∈ l ∧ (s.slot j).status = .attached then .held else (s.slot j).status := by
  induction l generalizing s with
  | nil => simp
  | cons n l ih =>
    rw [State.forEach_cons, ih, State.detachSlot_slot]
    by_cases hj : j = n
    · subst hj
      by_cases hs : (s.slot j).status = .attached
      · simp [hs, HostSlot.detached]
      · simp [hs]
    · simp [hj]

/-- Beside slots, streams and the stores' claims the detachment of several slots moves nothing. -/
theorem State.forEach_detach_eq (l : List Nat) (s : State) :
    s.forEach l State.detachSlot = { s with
      slots := (s.forEach l State.detachSlot).slots, streams := (s.forEach l State.detachSlot).streams
      commit := (s.forEach l State.detachSlot).commit } :=
  State.forEach_rel (R := fun s t => t = { s with slots := t.slots, streams := t.streams, commit := t.commit }) (fun _ => rfl)
    (fun _ _ _ h k => by rw [k, h]) _ State.detachSlot_eq l s

/-- R110: a link that goes down detaches the slots attached through its port. -/
theorem exec_linkDown_detaches {s : State} (hc : s.Calm) (port : Fin 3) :
    ∃ t, exec (.linkDown port) s = .next t ∧ t.reg (Item.ETH.LINK port) = 0 ∧ t.cmd = s.cmd
      ∧ ∀ k < 8, (t.slot k).status =
        if (s.slot k).port = port.val ∧ (s.slot k).status = .attached then .held else (s.slot k).status := by
  have hstatus := State.forEach_detach_status ((List.range 8).filter (fun n => decide ((s.slot n).port = port.val)))
    (s.setReg (Item.ETH.LINK port) 0)
  have hframe := State.forEach_detach_eq ((List.range 8).filter (fun n => decide ((s.slot n).port = port.val)))
    (s.setReg (Item.ETH.LINK port) 0)
  generalize hg : (s.setReg (Item.ETH.LINK port) 0).forEach ((List.range 8).filter (fun n => decide ((s.slot n).port = port.val)))
    State.detachSlot = g at hstatus hframe
  refine hc.next (g := g) hg ?_ ?_ ?_ ⟨?_, ?_, fun k hk => ?_⟩
  · rw [hframe]; rfl
  · rw [hframe]; rfl
  · rw [hframe]; rfl
  · rw [State.keepLive_reg', hframe]
    exact s.reg_setReg_same ..
  · show g.cmd = s.cmd
    rw [hframe]; rfl
  · rw [State.keepLive_slot', hstatus]
    simp only [List.mem_filter, List.mem_range, hk, true_and, decide_eq_true_eq]
    rfl

/-- R110, R111: a partner silent for IDLE_MAX is detached. -/
theorem exec_hostIdleTimeout_detaches {s : State} (hc : s.Calm) (k : Fin 8) (hstatus : (s.slot k).status = .attached) :
    ∃ t, exec (.hostIdleTimeout k) s = .next t ∧ (t.slot k).status = .held ∧ (t.slot k).heldAt = t.time.now
      ∧ (s.slot k).lastHeard + s.regN (Item.HOST.IDLE_MAX k) * 1000000 ≤ t.time.now ∧ (∀ x ∈ t.streams, x.slot ≠ k.val)
      ∧ t.cmd = s.cmd := by
  obtain ⟨due, hdue⟩ : ∃ due, (s.slot k).lastHeard + s.regN (Item.HOST.IDLE_MAX k) * 1000000 = due := ⟨_, rfl⟩
  have hattached : ((s.reach due).slot k).status = .attached := hstatus
  have hwork := State.detachSlot_holds hattached
  have hslot := (s.reach due).detachSlot_slot k k
  rw [if_pos ⟨rfl, hattached⟩] at hslot
  generalize hg : (s.reach due).detachSlot k = g at hwork hslot
  have hnow : (s.keepLive g).time.now = (s.reach due).time.now := by
    show max s.time.now g.time.now = _
    rw [hwork]
    exact max_eq_right (Nat.le_max_left ..)
  rw [hdue]
  refine hc.next (g := g) ((if_pos hstatus).trans (by rw [hdue, hg])) ?_ ?_ ?_ ⟨?_, ?_, ?_, ?_, ?_⟩
  · rw [hwork]; rfl
  · rw [hwork]; rfl
  · rw [hwork]; rfl
  · exact congrArg HostSlot.status hslot
  · rw [hnow]
    exact (congrArg HostSlot.heldAt hslot :)
  · rw [hnow]
    exact Nat.le_max_right ..
  · show ∀ x ∈ g.streams, _
    rw [hwork]
    exact fun x hx => by simpa using (List.mem_filter.mp hx).2
  · show g.cmd = s.cmd
    rw [hwork]; rfl

/-! ## The end of a hold (R111, R112, R310) -/

/-- A completion that a tag holds goes. -/
def State.dropTag (s : State) (k i : Nat) : State :=
  match s.cmd k i with
  | some r => if r.state = .done then s.setCmd k i none else s
  | none => s

/-- What is left of a record where completions go. -/
def keptRecord (o : Option CmdRec) : Option CmdRec := o.filter (fun r => decide (r.state ≠ .done))

theorem keptRecord_not_done {o : Option CmdRec} {r : CmdRec} (h : keptRecord o = some r) : r.state ≠ .done := by
  unfold keptRecord at h
  rw [Option.filter_eq_some_iff] at h
  simpa using h.2

theorem keptRecord_idem (o : Option CmdRec) : keptRecord (keptRecord o) = keptRecord o := by
  unfold keptRecord
  rw [Option.filter_filter]
  simp

theorem State.dropTag_eq (s : State) (k i : Nat) : s.dropTag k i = { s with recs := (s.dropTag k i).recs } := by
  unfold State.dropTag
  split
  · split <;> rfl
  · rfl

theorem State.dropTag_cmd (s : State) (k i j : Nat) : (s.dropTag k i).cmd k j = if j = i then keptRecord (s.cmd k j) else s.cmd k j := by
  unfold State.dropTag keptRecord
  split
  · next r hr =>
    split
    · next hdone =>
      rw [State.cmd_setCmd]
      by_cases hj : j = i
      · subst hj; simp [hr, Option.filter, hdone]
      · simp [hj]
    · next hdone =>
      by_cases hj : j = i
      · subst hj; simp [hr, Option.filter, hdone]
      · simp [hj]
  · next hr =>
    by_cases hj : j = i
    · subst hj; simp [hr]
    · simp [hj]

theorem State.dropTags_eq (k : Nat) (l : List Nat) (s : State) :
    s.forEach l (fun t i => t.dropTag k i) = { s with recs := (s.forEach l (fun t i => t.dropTag k i)).recs } :=
  State.forEach_rel (R := fun s t => t = { s with recs := t.recs }) (fun _ => rfl) (fun _ _ _ h k => by rw [k, h]) _
    (fun t i => t.dropTag_eq k i) l s

theorem State.dropTags_cmd (k : Nat) (l : List Nat) (s : State) (j : Nat) :
    (s.forEach l (fun t i => t.dropTag k i)).cmd k j = if j ∈ l then keptRecord (s.cmd k j) else s.cmd k j := by
  induction l generalizing s with
  | nil => simp
  | cons i l ih =>
    rw [State.forEach_cons, ih, State.dropTag_cmd]
    by_cases hj : j = i
    · subst hj; simp [keptRecord_idem]
    · simp [hj]

/-- What the loss of a sheaf's holder may change: orderly stops begin (R310). -/
structure State.Stops (s t : State) : Prop where
  eq : t = { s with sheaves := t.sheaves }
  state : ∀ n, (t.sheaf n).state = (s.sheaf n).state
  stop : ∀ n, (s.sheaf n).stop.isSome = true → (t.sheaf n).stop.isSome = true

theorem State.Stops.refl (s : State) : s.Stops s := ⟨rfl, fun _ => rfl, fun _ h => h⟩

theorem State.Stops.trans {s t u : State} (h : s.Stops t) (k : t.Stops u) : s.Stops u :=
  ⟨by rw [k.eq, h.eq], fun n => (k.state n).trans (h.state n), fun n hn => k.stop n (h.stop n hn)⟩

/-- A running traction sheaf that nobody holds begins its orderly stop; the loss of a holder does nothing else. -/
theorem State.holderLost_stops (s : State) (n : Nat) :
    s.Stops (s.holderLost n) ∧ (s.stype n = SType.trc → (∀ j < 8, s.hasClaim j n = false) → (s.sheaf n).state = .run →
      ((s.holderLost n).sheaf n).stop.isSome = true) := by
  have hset : ∀ h : Sheaf, h.state = (s.sheaf n).state → h.stop.isSome = true → s.Stops (s.setSheaf n h) := fun h hstate hstop => by
    refine ⟨rfl, fun m => ?_, fun m hm => ?_⟩
    · rw [State.sheaf_setSheaf]; split
      · next e => rw [e, hstate]
      · rfl
    · rw [State.sheaf_setSheaf]; split
      · exact hstop
      · exact hm
  have hstop : s.stype n = SType.trc → s.Stops (s.orderlyStop n false)
      ∧ ((s.sheaf n).state = .run → ((s.orderlyStop n false).sheaf n).stop.isSome = true) := fun htype => by
    unfold State.orderlyStop
    extract_lets h
    split
    · split
      · exact ⟨hset _ rfl rfl, fun _ => by rw [State.sheaf_setSheaf_same]; rfl⟩
      · exact ⟨hset _ rfl rfl, fun _ => by rw [State.sheaf_setSheaf_same]; rfl⟩
    · next hrun => exact ⟨.refl s, fun e => absurd e hrun⟩
  unfold State.holderLost
  split
  · next h =>
    exact ⟨(hstop h.1).1, fun _ _ hrun => (hstop h.1).2 hrun⟩
  · next h =>
    refine ⟨.refl s, fun htype hclaims _ => absurd ⟨htype, ?_⟩ h⟩
    simpa using hclaims

/-- The same of several sheaves. -/
theorem State.holdersLost_stops (l : List Nat) (s : State) :
    s.Stops (s.forEach l State.holderLost) ∧ ∀ n ∈ l, s.stype n = SType.trc → (∀ j < 8, s.hasClaim j n = false) →
      (s.sheaf n).state = .run → ((s.forEach l State.holderLost).sheaf n).stop.isSome = true := by
  induction l generalizing s with
  | nil => exact ⟨.refl s, fun n hn => absurd hn List.not_mem_nil⟩
  | cons m l ih =>
    obtain ⟨hfirst, hstop⟩ := s.holderLost_stops m
    obtain ⟨hrest, hstops⟩ := ih (s.holderLost m)
    rw [State.forEach_cons]
    refine ⟨hfirst.trans hrest, fun n hn htype hclaims hrun => ?_⟩
    by_cases hnm : n = m
    · subst hnm
      exact hrest.stop n (hstop htype hclaims hrun)
    · have htype' : (s.holderLost m).stype n = s.stype n := by rw [hfirst.eq]; rfl
      have hclaims' : ∀ j, (s.holderLost m).hasClaim j n = s.hasClaim j n := fun j => by rw [hfirst.eq]; rfl
      exact hstops n ((List.mem_cons.mp hn).resolve_left hnm) (htype'.trans htype) (fun j hj => (hclaims' j).trans (hclaims j hj))
        ((hfirst.state n).trans hrun)

/-- R111, R112, R310: 2 s after its detachment a slot is free, its completions go, and a traction sheaf that only it held stops. -/
theorem exec_slotHoldExpiry_frees {s : State} (hc : s.Calm) (k : Fin 8) (hheld : (s.slot k).status = .held) :
    ∃ t, exec (.slotHoldExpiry k) s = .next t ∧ (t.slot k).status = .free ∧ (t.slot k).claims = 0
      ∧ (s.slot k).heldAt + 2000000000 ≤ t.time.now ∧ (∀ i < 64, ∀ r, t.cmd k i = some r → r.state ≠ .done)
      ∧ (∀ n < 12, s.hasClaim k n = true → (∀ j < 8, j ≠ k.val → s.hasClaim j n = false) → s.stype n = SType.trc →
          (s.sheaf n).state = .run → (t.sheaf n).stop.isSome = true) := by
  obtain ⟨due, hdue⟩ : ∃ due, (s.slot k).heldAt + 2000000000 = due := ⟨_, rfl⟩
  have hcan : ∀ t : State, (t.forEach (List.range 4) State.canSlotsFree) = { t with regs := (t.forEach (List.range 4) State.canSlotsFree).regs } :=
    fun t => State.forEach_rel (R := fun s t => t = { s with regs := t.regs }) (fun _ => rfl) (fun _ _ _ h k => by rw [k, h]) _
      (fun t n => by unfold State.canSlotsFree; split <;> rfl) _ t
  have hdrop := State.dropTags_eq k (List.range 64) ((s.reach due).setSlot k HostSlot.init)
  have hcmd := State.dropTags_cmd k (List.range 64) ((s.reach due).setSlot k HostSlot.init)
  generalize hfreed : ((s.reach due).setSlot k HostSlot.init).forEach (List.range 64) (fun t i => t.dropTag k i) = v at hdrop hcmd
  obtain ⟨hstops, hstop⟩ := v.holdersLost_stops ((List.range 12).filter (fun n => (s.slot k).claims.toNat.testBit n))
  generalize hlost : v.forEach ((List.range 12).filter (fun n => (s.slot k).claims.toNat.testBit n)) State.holderLost = w at hstops hstop
  have hopen := hcan w
  generalize hcans : w.forEach (List.range 4) State.canSlotsFree = g at hopen
  have hframe : g = { (s.reach due).setSlot k HostSlot.init with recs := g.recs, sheaves := g.sheaves, regs := g.regs } := by
    rw [hopen, hstops.eq, hdrop]
  have hrow : exec (.slotHoldExpiry k) s = .next (s.keepLive g) := by
    refine congrArg Host.Outcome.next ((s.act_to _ g ?_).trans (hc.act g (by rw [hframe]; rfl) (by rw [hframe]; rfl) (by rw [hframe]; rfl)))
    refine (if_neg (by simp [hheld])).trans ?_
    rw [← hcans, ← hlost, ← hfreed, ← hdue]
    rfl
  have hslot : g.slot k = HostSlot.init := by
    rw [hframe]
    exact ((s.reach due).slot_setSlot_same k HostSlot.init :)
  have hrecs : ∀ i, g.cmd k i = v.cmd k i := fun i => by
    rw [hopen]
    show w.cmd k i = _
    rw [hstops.eq]
    rfl
  rw [hdue]
  refine ⟨_, hrow, ?_, ?_, ?_, fun i hi r hr => ?_, fun n hn hclaim hothers htype hrun => ?_⟩
  · rw [State.keepLive_slot', hslot]; rfl
  · rw [State.keepLive_slot', hslot]; rfl
  · have hnow : g.time.now = Nat.max s.time.now due := by rw [hframe]; rfl
    show due ≤ max s.time.now g.time.now
    rw [hnow]
    exact le_max_of_le_right (Nat.le_max_right ..)
  · rw [State.keepLive_cmd, hrecs, hcmd, if_pos (List.mem_range.mpr hi)] at hr
    exact keptRecord_not_done hr
  · have hsheaf : g.sheaf n = w.sheaf n := by rw [hopen]; rfl
    rw [State.keepLive_sheaf', hsheaf]
    have hv : v.stype n = s.stype n ∧ v.sheaf n = s.sheaf n := by rw [hdrop]; exact ⟨rfl, rfl⟩
    refine hstop n (List.mem_filter.mpr ⟨List.mem_range.mpr hn, hclaim⟩) (hv.1.trans htype) (fun j hj => ?_) (by rw [hv.2, hrun])
    have hclaims : v.hasClaim j n = (((s.reach due).setSlot k HostSlot.init).slot j).claims.toNat.testBit n := by rw [hdrop]; rfl
    rw [hclaims, State.slot_setSlot]
    split
    · simp [HostSlot.init]
    · next hne => exact hothers j hj hne

/-! ## The SERVICE host that leaves (R120, R501, Table 3-6) -/

/-- The claims of every slot stay. -/
structure State.SameClaims (s t : State) : Prop where
  claims : ∀ j, (t.slot j).claims = (s.slot j).claims
  svc : ∀ j, (t.slot j).svcClaims = (s.slot j).svcClaims

theorem State.SameClaims.refl (s : State) : s.SameClaims s := ⟨fun _ => rfl, fun _ => rfl⟩

theorem State.SameClaims.trans {s t u : State} (h : s.SameClaims t) (k : t.SameClaims u) : s.SameClaims u :=
  ⟨fun j => (k.claims j).trans (h.claims j), fun j => (k.svc j).trans (h.svc j)⟩

theorem State.sameClaims_of_slots {s t : State} (h : t.slots = s.slots) : s.SameClaims t := by
  have hslot : t.slot = s.slot := by unfold State.slot; rw [h]
  exact ⟨fun j => by rw [hslot], fun j => by rw [hslot]⟩

theorem State.sameClaims_forEach {α : Type} (f : State → α → State) (hf : ∀ s a, State.SameClaims s (f s a)) (l : List α) (s : State) :
    s.SameClaims (s.forEach l f) := State.forEach_rel State.SameClaims.refl (fun _ _ _ => State.SameClaims.trans) f hf l s

theorem State.sameClaims_sendAt (s : State) (slot kind code index opcode reason time : Nat) (port : Option Nat) (payload : List Byte) :
    s.SameClaims (s.sendAt slot kind code index opcode reason time port payload) := by
  have hslot : ∀ j, ((s.sendAt slot kind code index opcode reason time port payload).slot j).claims = (s.slot j).claims
      ∧ ((s.sendAt slot kind code index opcode reason time port payload).slot j).svcClaims = (s.slot j).svcClaims := fun j => by
    rw [State.sendAt_slot]
    split
    · next h => rw [h.1]; exact ⟨rfl, rfl⟩
    · exact ⟨rfl, rfl⟩
  exact ⟨fun j => (hslot j).1, fun j => (hslot j).2⟩

theorem State.sameClaims_event (s : State) (code : Nat) (payload : List Byte) : s.SameClaims (s.event code payload) := by
  refine State.sameClaims_forEach _ (fun t n => ?_) _ s
  unfold State.eventTo
  split
  · exact t.sameClaims_sendAt ..
  · exact .refl t

theorem State.sameClaims_complete (s : State) (slot index code reason : Nat) (result : List Byte) :
    s.SameClaims (s.complete slot index code reason result) := by
  unfold State.complete
  split
  · exact .refl s
  · next c _ =>
    extract_lets r
    split
    · exact State.sameClaims_of_slots rfl
    · rw [State.sendCompletion_first]
      have hset : s.SameClaims (s.setCmd slot index (some r)) := State.sameClaims_of_slots rfl
      exact hset.trans (State.sameClaims_sendAt ..)

theorem State.sameClaims_endSequences (s : State) (p : Sequence → Bool) (code reason : Nat) (result : Sequence → List Byte) :
    s.SameClaims (s.endSequences p code reason result) := by
  refine State.sameClaims_forEach _ (fun t q => ?_) _ s
  have hdrop : t.SameClaims { t with seqs := t.seqs.filter (fun x => decide (x ≠ q)) } := State.sameClaims_of_slots rfl
  exact hdrop.trans (State.sameClaims_complete ..)

theorem State.sameClaims_clearForce (s : State) (u : Nat) : s.SameClaims (s.clearForce u) := by
  unfold State.clearForce
  extract_lets r s1
  have h1 : s.SameClaims s1 := State.sameClaims_of_slots rfl
  split
  · exact h1.trans (State.sameClaims_of_slots (by rw [State.bandAgain_eq]))
  · exact h1

theorem State.sameClaims_applyOffCauses (s : State) : s.SameClaims s.applyOffCauses := by
  refine State.sameClaims_forEach _ (fun t n => ?_) _ s
  refine State.sameClaims_of_slots ?_
  show (if _ then t.outOff n else t).slots = _
  split
  · unfold State.outOff State.outDemand
    simp only
    split <;> rfl
  · rfl

theorem State.sameClaims_isoCheck (s : State) : s.SameClaims s.isoCheck := by
  unfold State.isoCheck
  split
  · exact State.sameClaims_of_slots rfl
  · exact .refl s

/-- A slot whose claims taken under SVC_CLAIM are released (R120). -/
def HostSlot.released (h : HostSlot) : HostSlot := { h with claims := h.claims &&& ~~~h.svcClaims, svcClaims := 0 }

theorem HostSlot.released_idem (h : HostSlot) : h.released.released = h.released := by
  have hnone : ~~~(0 : BitVec 12) = BitVec.allOnes 12 := by decide
  unfold HostSlot.released
  simp only [hnone, BitVec.and_allOnes]

theorem State.releaseClaims_slot (l : List Nat) (s : State) (j : Nat) :
    (s.forEach l (fun t n => t.setSlot n (t.slot n).released)).slot j = if j ∈ l then (s.slot j).released else s.slot j := by
  induction l generalizing s with
  | nil => simp
  | cons n l ih =>
    rw [State.forEach_cons, ih, State.slot_setSlot]
    by_cases hj : j = n
    · subst hj; simp [HostSlot.released_idem]
    · simp [hj]

/-- Leaving SERVICE releases the claims taken under SVC_CLAIM (R120). -/
theorem State.leaveService_slot (s : State) {j : Nat} (hj : j < 8) : s.leaveService.slot j = (s.slot j).released := by
  have hslot := State.releaseClaims_slot (List.range 8) s j
  rw [if_pos (List.mem_range.mpr hj)] at hslot
  unfold State.leaveService
  extract_lets s1
  have hs1 : s1 = s.forEach (List.range 8) (fun t n => t.setSlot n (t.slot n).released) := rfl
  clear_value s1
  show s1.slot j = _
  rw [hs1]
  exact hslot

/-- A change of state out of SERVICE leaves no SERVICE host, no exit in progress and no claim taken under SVC_CLAIM. -/
theorem State.enterState_leavesService {s : State} {d : DevState} (h : s.dev.state = .service) (hd : d ≠ .service) :
    (s.enterState d).dev.serviceHost = none ∧ (s.enterState d).dev.exiting = none
      ∧ ∀ j < 8, ((s.enterState d).slot j).svcClaims = 0 ∧ ((s.enterState d).slot j).claims = (s.slot j).claims &&& ~~~(s.slot j).svcClaims := by
  unfold State.enterState
  rw [if_neg (by rw [h]; exact fun e => hd e.symm)]
  extract_lets old by' s0 dev s1 s2 s3
  have h0 : s.SameClaims s0 := State.sameClaims_forEach _ (fun t (p : Nat × UnitRec) => t.sameClaims_clearForce p.1) _ s
  have h1 : s.SameClaims s1 := h0.trans (State.sameClaims_of_slots rfl)
  have hexit : s1.dev.exiting = none := rfl
  have h2 : s2 = s1.leaveService.serviceLog 2 by'.1 by'.2 0 := if_pos h
  have h3 : s2.SameClaims s3.applyOffCauses.isoCheck :=
    ((State.sameClaims_event ..).trans s3.sameClaims_applyOffCauses).trans (State.sameClaims_isoCheck _)
  have htalks : s3.dev = { s2.dev with free := s3.dev.free } := (s2.talks_event ..).dev
  clear_value s1
  have hdev : s2.dev.serviceHost = none ∧ s2.dev.exiting = none := by
    rw [h2]
    have hlog : ∀ v : State, (v.serviceLog 2 by'.1 by'.2 0).dev = v.dev := fun _ => rfl
    rw [hlog, State.leaveService_dev]
    exact ⟨rfl, hexit⟩
  have hslots : ∀ j < 8, s2.slot j = (s1.slot j).released := fun j hj => by
    have hlog : ∀ v : State, (v.serviceLog 2 by'.1 by'.2 0).slot j = v.slot j := fun _ => rfl
    rw [h2, hlog, s1.leaveService_slot hj]
  clear_value s2 s3
  have hoff : s3.applyOffCauses.dev = { s3.dev with free := s3.applyOffCauses.dev.free } := s3.fences_applyOffCauses.dev
  have hiso : s3.applyOffCauses.isoCheck.dev = s3.applyOffCauses.dev := by
    generalize s3.applyOffCauses = v
    unfold State.isoCheck
    split <;> rfl
  rw [hiso, hoff, htalks]
  refine ⟨hdev.1, hdev.2, fun j hj => ?_⟩
  rw [h3.svc, h3.claims, hslots j hj, ← h1.claims, ← h1.svc]
  exact ⟨rfl, rfl⟩

/-- The end of a change to STANDBY. -/
def State.exitDone (s : State) : State :=
  ((s.setReg Item.DEV.MODE_REASON 0).enterState .standby).endSequences (fun q => decide (q.kind = SeqKind.mode ∧ q.arg = 2)) Code.ok Reason.none
    (fun _ => [])

/-- Out of SERVICE the change to STANDBY is made where no sheaf has to stop first (R501). -/
theorem State.finishExit_service {s : State} (hstate : s.dev.state = .service) (hexit : s.dev.exiting.isSome = true)
    (hsheaves : ∀ n < 12, standbyType (s.stype n) = true ∨
      ((s.sheaf n).state ≠ .run ∧ (s.sheaf n).state ≠ .proving ∧ (s.sheaf n).state ≠ .safe)) : s.finishExit = s.exitDone := by
  unfold State.finishExit
  simp only [hstate]
  refine if_pos ⟨.inr hexit, ?_⟩
  rw [List.all_eq_true]
  intro n hn
  rcases hsheaves n (List.mem_range.mp hn) with h | ⟨hrun, hproving, hsafe⟩
  · simp [h]
  · simp [hrun, hproving, hsafe]

/-- A change out of SERVICE to STANDBY: no SERVICE host, no exit in progress, the claims of SVC_CLAIM released, and nothing waits that did
not. -/
theorem State.exitDone_leaves {s : State} (hstate : s.dev.state = .service) :
    s.exitDone.dev.state = .standby ∧ s.exitDone.dev.serviceHost = none ∧ s.exitDone.dev.exiting = none
      ∧ (∀ j < 8, (s.exitDone.slot j).svcClaims = 0 ∧ (s.exitDone.slot j).claims = (s.slot j).claims &&& ~~~(s.slot j).svcClaims)
      ∧ s.exitDone.waits = s.waits ∧ s.exitDone.swaps = s.swaps := by
  have hreg : (s.setReg Item.DEV.MODE_REASON 0).dev.state = .service := hstate
  obtain ⟨hhost, hexit, hclaims⟩ := State.enterState_leavesService hreg (d := .standby) (by decide)
  have henter := (s.setReg Item.DEV.MODE_REASON 0).enterState_state .standby
  obtain ⟨hframe, -, -⟩ := (s.setReg Item.DEV.MODE_REASON 0).enters_enterState .standby
  have hwaits : ((s.setReg Item.DEV.MODE_REASON 0).enterState .standby).waits = s.waits := by rw [hframe]; rfl
  have hswaps : ((s.setReg Item.DEV.MODE_REASON 0).enterState .standby).swaps = s.swaps := by rw [hframe]; rfl
  unfold State.exitDone
  generalize (s.setReg Item.DEV.MODE_REASON 0).enterState .standby = g at *
  have hends := g.completes_endSequences (fun q => decide (q.kind = SeqKind.mode ∧ q.arg = 2)) Code.ok Reason.none (fun _ => [])
  have hsame := g.sameClaims_endSequences (fun q => decide (q.kind = SeqKind.mode ∧ q.arg = 2)) Code.ok Reason.none (fun _ => [])
  generalize g.endSequences (fun q => decide (q.kind = SeqKind.mode ∧ q.arg = 2)) Code.ok Reason.none (fun _ => []) = t at *
  have hdev : t.dev = { g.dev with free := t.dev.free } := congrArg State.dev hends
  refine ⟨by rw [hdev]; exact henter, by rw [hdev]; exact hhost, by rw [hdev]; exact hexit, fun j hj => ?_,
    (congrArg State.waits hends).trans hwaits, (congrArg State.swaps hends).trans hswaps⟩
  rw [hsame.svc, hsame.claims]
  exact hclaims j hj

/-- The device begins to leave SERVICE by itself. -/
def State.leaving (s : State) : State := { s with dev := { s.dev with exiting := some (0xFF, 1) } }

/-- R501, Table 3-6: the SERVICE host is gone, and where no sheaf has to stop first the device is in STANDBY. -/
theorem exec_serviceHostDetached_leaves {s : State} (hc : s.Calm) {k : Nat} (hhost : s.dev.serviceHost = some k) (hstate : s.dev.state = .service)
    (hfree : (s.slot k).status = .free) (hexit : s.dev.exiting = none)
    (hsheaves : ∀ n < 12, standbyType (s.stype n) = true ∨
      ((s.sheaf n).state ≠ .run ∧ (s.sheaf n).state ≠ .proving ∧ (s.sheaf n).state ≠ .safe)) :
    ∃ t, exec .serviceHostDetached s = .next t ∧ t.dev.state = .standby ∧ t.dev.serviceHost = none ∧ t.dev.exiting = none
      ∧ ∀ j < 8, (t.slot j).svcClaims = 0 ∧ (t.slot j).claims = (s.slot j).claims &&& ~~~(s.slot j).svcClaims := by
  have hidle : (List.range 12).filter (fun n => decide ((s.leaving.sheaf n).state = .run) && !standbyType (s.leaving.stype n)) = [] := by
    rw [List.filter_eq_nil_iff]
    intro n hn
    have hn' : ¬ (decide ((s.sheaf n).state = .run) && !standbyType (s.stype n)) = true := by
      rcases hsheaves n (List.mem_range.mp hn) with h | ⟨h, -, -⟩ <;> simp [h]
    exact hn'
  obtain ⟨hstandby, hhost', hexit', hclaims, hwaits, hswaps⟩ := State.exitDone_leaves (s := s.leaving) hstate
  have hwork : s.leaving.finishExit = s.leaving.exitDone := State.finishExit_service hstate rfl hsheaves
  have hrow : exec .serviceHostDetached s = .next (s.act fun _ => s.leaving.exitDone) := by
    refine congrArg Host.Outcome.next (s.act_to _ _ ?_)
    rw [← hwork]
    simp only [hhost]
    rw [if_neg (by simp [hstate, hfree, hexit]), if_neg (by simp [hfree])]
    show (s.leaving.forEach ((List.range 12).filter (fun n => decide ((s.leaving.sheaf n).state = .run) && !standbyType (s.leaving.stype n))) _).finishExit = _
    rw [hidle, State.forEach_nil]
  generalize s.leaving.exitDone = t at *
  have hact : s.act (fun _ => t) = s.keepLive t :=
    s.act_eq _ hc.live (hwaits.trans hc.waits) (hswaps.trans hc.swaps) (by rw [hstandby]; decide) (by rw [hstandby]; decide)
  exact ⟨_, hrow.trans (congrArg _ hact), (s.keepLive_devState t hc.locked).trans hstandby, hhost', hexit', hclaims⟩

/-- Settles O51, each row of the slots by its lemma (assumption logs 5, 22, 76, 117 and 125). -/
theorem slotsAreAttachedHeldAndFreed : Obligations.SlotsAreAttachedHeldAndFreed := by
  intro s hc
  exact ⟨fun port m n hopen hlength hpayload hop hslot hmac hfresh =>
      exec_hostAttach_attaches hc hopen hlength hpayload hop hslot hmac hfresh,
    fun port m hopen hlength hpayload hop => exec_hostAttach_refused hc hopen hlength hpayload hop,
    fun port m n hopen hlength hpayload hop hn hstatus hident hport hfirst hmac hfresh =>
      exec_hostDetach_holds hc hopen hlength hpayload hop hn hstatus hident hport hfirst hmac hfresh,
    fun port => exec_linkDown_detaches hc port,
    fun port hrun henabled => hc.next (if_pos ⟨hrun, henabled⟩) rfl rfl rfl ⟨(State.keepLive_reg' ..).trans (State.reg_setReg_same ..), rfl⟩,
    fun k hattached => exec_hostIdleTimeout_detaches hc k hattached,
    fun k hheld => exec_slotHoldExpiry_frees hc k hheld,
    fun k hhost hstate hfree hexit hsheaves => exec_serviceHostDetached_leaves hc hhost hstate hfree hexit hsheaves⟩

end Sys2Proof.Machine

namespace Sys2Proof.Machine

/-! ## Rows that are answered at once with a completion -/

/-- A due command whose work ends in one completion is answered with it; the slot's record held the command, and device time stood. -/
theorem State.Due.answers_held {s u : State} {slot index : Nat} {r : CmdRec} (hd : s.Due slot index r)
    (hcmd : u.cmd slot index = s.cmd slot index) (hstatus : (u.slot slot).status = (s.slot slot).status) (htime : u.time = s.time)
    (code reason : Nat) (result : List Byte) :
    (s.keepLive (u.complete slot index code reason result)).Answers slot index r code reason result := by
  have hnow : (u.complete slot index code reason result).time = s.time :=
    (congrArg State.time (u.completes_complete slot index code reason result)).trans htime
  have hmax : (s.keepLive (u.complete slot index code reason result)).time.now = u.time.now := by
    show max s.time.now (u.complete slot index code reason result).time.now = u.time.now
    rw [hnow, htime, max_self]
  unfold State.Answers
  rw [State.keepLive_cmd, u.complete_cmd slot index code reason result r (hcmd.trans hd.cmd) (by rw [hstatus]; exact hd.held), hmax]

/-- The row of a due command that works and completes: its answer, and what else is known of the state it leaves. -/
theorem State.Calm.answers_row {s u : State} {slot index : Nat} {r : CmdRec} (hc : s.Calm) (hd : s.Due slot index r) {is : HostMsg → Bool}
    {f : State → HostMsg → State} (his : is r.msg = true) {code reason : Nat} {result : List Byte}
    (hf : f s r.msg = u.complete slot index code reason result) (hw : s.Working u) {P : State → Prop}
    (hP : P (s.keepLive (u.complete slot index code reason result))) :
    ∃ t, (.next (s.act (fun t => t.hostRow slot index is f)) : Host.Outcome State Fault Refusal) = .next t
      ∧ t.Answers slot index r code reason result ∧ P t :=
  ⟨_, congrArg Host.Outcome.next (hc.answered_row hd his hf hw), hd.answers hw .., hP⟩

theorem State.Working.refl (s : State) : s.Working s := ⟨rfl, fun _ => rfl, rfl, rfl, rfl, rfl⟩

/-! ## Time and reads (R122, R132, R139, Tables 4-7 and 4-11) -/

/-- What an answer leaves: no item, unit, sheaf, leg, lane or output moves. -/
theorem State.keepLive_complete_leaves (s : State) (slot index code reason : Nat) (result : List Byte) :
    let t := s.keepLive (s.complete slot index code reason result)
    t.reg = s.reg ∧ t.unit = s.unit ∧ t.sheaf = s.sheaf ∧ t.leg = s.leg ∧ t.lane = s.lane ∧ t.out = s.out := by
  obtain ⟨hunit, hsheaf, hleg, hlane, hout, hreg⟩ := (s.completes_complete slot index code reason result).leaves
  exact ⟨hreg, hunit, hsheaf, hleg, hlane, hout⟩

theorem State.doTimeQuery_ok {s : State} {m : HostMsg} (hp : m.payload = []) (slot index : Nat) :
    s.doTimeQuery slot index m = s.complete slot index Code.ok Reason.none s.timeResult := if_neg (not_not.mpr hp)

/-- Up to six items may be read through every port (R139, R490). -/
theorem State.doParamRead_ok {s : State} {m : HostMsg} (hwords : m.payload.length % 4 = 0) (hsome : 0 < m.payload.length)
    (hsix : m.payload.length ≤ 24) (slot index : Nat) :
    s.doParamRead slot index m = s.complete slot index Code.ok Reason.none ((payloadWords m.payload).flatMap s.readBytes) := by
  refine if_neg ?_
  split <;> omega

/-! ## Taking claims (R119 to R121) -/

section
variable {m : Nat}

theorem not_ofNat_twelve (hm : m < 4096) : BitVec.ofNat 12 (4095 - m) = ~~~ BitVec.ofNat 12 m := by
  refine BitVec.eq_of_toNat_eq ?_
  rw [BitVec.toNat_not, BitVec.toNat_ofNat, BitVec.toNat_ofNat, Nat.mod_eq_of_lt hm]
  omega

/-- Giving up those claims of a mask that one holds gives up the mask. -/
theorem claims_without (c : BitVec 12) (m : Nat) : c &&& BitVec.ofNat 12 (4095 - (c.toNat &&& m)) = c &&& ~~~ BitVec.ofNat 12 m := by
  have hlost : BitVec.ofNat 12 (c.toNat &&& m) = c &&& BitVec.ofNat 12 m := by
    rw [BitVec.ofNat_and, BitVec.ofNat_toNat, BitVec.setWidth_eq]
  rw [not_ofNat_twelve (Nat.lt_of_le_of_lt Nat.and_le_left c.isLt), hlost]
  ext i hi
  simp [Bool.and_or_distrib_left]

theorem claims_without_all {c : BitVec 12} (h : c.toNat &&& m = 0) : c &&& ~~~ BitVec.ofNat 12 m = c := by
  rw [← claims_without, h]
  exact BitVec.and_allOnes

end

/-- What a slot's partners lose to its take: claims, and waiting commands that need them; its own records, every attachment and all
else stays. -/
structure State.Yields (s t : State) (taker : Nat) : Prop where
  completes : s.Completes t
  status : ∀ j, (t.slot j).status = (s.slot j).status
  cmd : ∀ i < 64, t.cmd taker i = s.cmd taker i

theorem State.Yields.refl (s : State) (taker : Nat) : s.Yields s taker := ⟨.refl s, fun _ => rfl, fun _ _ => rfl⟩

theorem State.Yields.trans {s t u : State} {taker : Nat} (h : s.Yields t taker) (k : t.Yields u taker) : s.Yields u taker :=
  ⟨h.completes.trans k.completes, fun j => (k.status j).trans (h.status j), fun i hi => (k.cmd i hi).trans (h.cmd i hi)⟩

/-- A completion leaves device time, the values on their way and the device's state. -/
theorem State.Completes.stands {s t : State} (h : s.Completes t) :
    t.time = s.time ∧ t.waits = s.waits ∧ t.swaps = s.swaps ∧ t.dev.state = s.dev.state := by
  unfold State.Completes at h
  rw [h]
  exact ⟨rfl, rfl, rfl, rfl⟩

theorem State.Talks.cmd {s t : State} (h : s.Talks t) : t.cmd = s.cmd := by
  unfold State.Talks at h
  rw [h]; rfl

/-- A message to a slot leaves every record. -/
theorem State.yields_eventTo (s : State) (slot code taker : Nat) (payload : List Byte) : s.Yields (s.eventTo slot code payload) taker := by
  refine ⟨(s.talks_eventTo ..).completes, fun j => ?_, fun i _ => congrFun (congrFun (s.talks_eventTo slot code payload).cmd taker) i⟩
  unfold State.eventTo
  split
  · exact s.sendAt_status ..
  · rfl

/-- Another slot's completion leaves a slot's records. -/
theorem State.yields_complete (s : State) {slot index taker : Nat} (hslot : slot ≠ taker) (hindex : index < 64) (code reason : Nat)
    (result : List Byte) : s.Yields (s.complete slot index code reason result) taker := by
  have hother : ∀ r i, i < 64 → (s.setCmd slot index r).cmd taker i = s.cmd taker i := fun r i hi =>
    s.cmd_setCmd_other slot index r taker i hindex hi (.inl hslot.symm)
  refine ⟨s.completes_complete .., fun j => ?_, fun i hi => ?_⟩
  · unfold State.complete
    split
    · rfl
    · split
      · rfl
      · rw [State.sendCompletion_first]
        exact State.sendAt_status ..
  · unfold State.complete
    split
    · rfl
    · split
      · exact hother none i hi
      · rw [(State.talks_sendCompletion ..).cmd]
        exact hother _ i hi

/-- A partner whose claims another slot takes loses them, and nothing of the taker moves (R121). -/
theorem State.loseClaims_yields (s : State) (k mask taker : Nat) :
    s.Yields (s.loseClaims k mask taker) taker
      ∧ ∀ j, ((s.loseClaims k mask taker).slot j).claims
          = if j = k ∧ k ≠ taker then (s.slot j).claims &&& ~~~ BitVec.ofNat 12 mask else (s.slot j).claims := by
  unfold State.loseClaims
  extract_lets h lost keep s1 hit s2
  split
  · next hnone =>
    refine ⟨.refl s taker, fun j => ?_⟩
    split
    · next hj => rw [hj.1]; exact (claims_without_all (hnone.resolve_left hj.2)).symm
    · rfl
  · next hsome =>
    obtain ⟨hk, -⟩ := not_or.mp hsome
    have hset : s.Yields s1 taker := by
      refine ⟨s.talks_setSlot k _ |>.completes, fun j => ?_, fun _ _ => rfl⟩
      rw [State.slot_setSlot]
      split
      · next hj => rw [hj]
      · rfl
    have hcomp : s1.Yields s2 taker := State.forEach_rel (R := fun s t => s.Yields t taker) (.refl · taker) (fun _ _ _ => .trans) _
      (fun t x => t.yields_complete hk (Nat.mod_lt _ (by decide)) ..) _ s1
    have hclaims : s1.SameClaims s2 := State.sameClaims_forEach _ (fun t x => t.sameClaims_complete ..) _ s1
    have hevent : s2.SameClaims (s2.eventTo k 1 (beBytes 2 lost ++ [BitVec.ofNat 8 taker, 0])) := by
      unfold State.eventTo
      split
      · exact s2.sameClaims_sendAt ..
      · exact .refl s2
    refine ⟨hset.trans (hcomp.trans (s2.yields_eventTo ..)), fun j => ?_⟩
    rw [hevent.claims, hclaims.claims, State.slot_setSlot]
    by_cases hj : j = k
    · subst hj
      rw [if_pos rfl, if_pos ⟨rfl, hk⟩]
      exact claims_without ..
    · rw [if_neg hj, if_neg (fun h => hj h.1)]

/-- The same of a list of partners. -/
theorem State.forEach_loseClaims_yields (l : List Nat) (s : State) (mask taker : Nat) :
    s.Yields (s.forEach l (fun t k => t.loseClaims k mask taker)) taker
      ∧ ∀ j, ((s.forEach l (fun t k => t.loseClaims k mask taker)).slot j).claims
          = if j ∈ l ∧ j ≠ taker then (s.slot j).claims &&& ~~~ BitVec.ofNat 12 mask else (s.slot j).claims := by
  induction l generalizing s with
  | nil => exact ⟨.refl s taker, fun j => by simp⟩
  | cons k l ih =>
    obtain ⟨hfirst, hclaims⟩ := s.loseClaims_yields k mask taker
    obtain ⟨hrest, hclaims'⟩ := ih (s.loseClaims k mask taker)
    refine ⟨hfirst.trans hrest, fun j => ?_⟩
    rw [State.forEach_cons, hclaims', hclaims]
    by_cases hj : j = k
    · subst hj
      by_cases ht : j = taker <;> simp [ht, BitVec.and_assoc]
    · simp [hj]

theorem not_and_self_mask (c m : BitVec 12) : c &&& ~~~ m &&& m = 0 := by
  rw [BitVec.and_assoc]
  simp


/-- The bytes of a CLAIM: its operation, a zero byte, its mask. -/
theorem claim_payload {p : List Byte} {o mask : Nat} (hp : p = [BitVec.ofNat 8 o, 0] ++ beBytes 2 mask) (ho : o < 256) (hmask : mask < 4096) :
    p.length = 4 ∧ beAt p 0 1 = o ∧ beAt p 1 1 = 0 ∧ beAt p 2 2 = mask := by
  have hbyte : o % 256 = o := Nat.mod_eq_of_lt ho
  have hbytes : mask / 256 % 256 * 256 + mask % 256 = mask := by omega
  subst hp
  simp [beBytes, beAt, beNat, hbyte, hbytes]

/-- CLAIM with operation 1 takes the claims of its mask, with operation 2 it gives them up. -/
theorem State.doClaim_eq {s : State} {m : HostMsg} {o mask : Nat} (hp : m.payload = [BitVec.ofNat 8 o, 0] ++ beBytes 2 mask)
    (ho : o = 1 ∨ o = 2) (hmask : mask < 4096) (slot index : Nat) :
    opByte m = o ∧ s.doClaim slot index m = if o = 1 then s.claimTake slot index mask else s.claimRelease slot index mask := by
  obtain ⟨hlength, hop, hzero, hmask'⟩ := claim_payload hp (by omega) hmask
  have hbyte : opByte m = o := hop
  refine ⟨hbyte, ?_⟩
  unfold State.doClaim
  simp only [hlength, hzero, hmask', hbyte]
  rw [if_neg (by omega)]
  rcases ho with rfl | rfl <;> rfl

/-- A slot with the claims of a mask added, those among them taken under SVC_CLAIM noted. -/
def HostSlot.taking (h : HostSlot) (mask svc : Nat) : HostSlot :=
  { h with claims := h.claims ||| BitVec.ofNat 12 mask
           svcClaims := (h.svcClaims &&& BitVec.ofNat 12 (4095 - mask)) ||| BitVec.ofNat 12 svc }

/-- A take that R119 and R120 allow: the other slots lose the claims, and the slot has them. -/
theorem State.claimTake_eq {s : State} {slot mask : Nat} (index : Nat) (hmay : (maskSheaves mask).all (s.mayClaim slot) = true)
    (hstate : s.dev.state ≠ .service) :
    let g := s.forEach (List.range 8) (fun t k => t.loseClaims k mask slot)
    ∃ svc, s.claimTake slot index mask = (g.setSlot slot ((g.slot slot).taking mask svc)).complete slot index Code.ok Reason.none
      (beBytes 2 ((g.slot slot).taking mask svc).claims.toNat) := by
  refine ⟨((maskSheaves mask).filter (fun n => !s.ctrls slot n)).foldl (fun a n => a + 2 ^ n) 0, ?_⟩
  unfold State.claimTake
  extract_lets l s1 h svc s2
  rw [if_neg (fun h => hstate h.1), if_neg (by simp [l, hmay])]
  have hslot : s2.slot slot = (s1.slot slot).taking mask svc := State.slot_setSlot_same ..
  rw [hslot]
  rfl

/-- R119 to R121: a slot that may have the claims takes them from every other. -/
theorem exec_claimTake_takes {s : State} (hc : s.Calm) {slot : Fin 8} {index : Fin 64} {r : CmdRec} (hd : s.Due slot index r) {mask : Nat}
    (hop : op r.msg = Op.claim) (hp : r.msg.payload = [1, 0] ++ beBytes 2 mask) (hmask : mask < 4096)
    (hmay : (maskSheaves mask).all (s.mayClaim slot) = true) (hstate : s.dev.state ≠ .service) :
    ∃ t, exec (.claimTake slot index) s = .next t ∧ (t.slot slot).claims = (s.slot slot).claims ||| BitVec.ofNat 12 mask
      ∧ (∀ k < 8, k ≠ slot.val → (t.slot k).claims &&& BitVec.ofNat 12 mask = 0)
      ∧ t.Answers slot index r Code.ok Reason.none (beBytes 2 (t.slot slot).claims.toNat) := by
  obtain ⟨hbyte, hwork⟩ := State.doClaim_eq (s := s) (o := 1) hp (.inl rfl) hmask slot index
  obtain ⟨hyields, hlost⟩ := s.forEach_loseClaims_yields (List.range 8) mask slot
  obtain ⟨svc, htake⟩ := State.claimTake_eq index hmay hstate
  generalize s.forEach (List.range 8) (fun t k => t.loseClaims k mask slot) = g at hyields hlost htake
  have hcomp := hyields.completes.trans (g.talks_setSlot slot ((g.slot slot).taking mask svc)).completes
  have hcmd : (g.setSlot slot ((g.slot slot).taking mask svc)).cmd slot index = s.cmd slot index := hyields.cmd index index.isLt
  have hclaims : ∀ k < 8, ((g.setSlot slot ((g.slot slot).taking mask svc)).slot k).claims
      = if k = slot.val then (s.slot slot).claims ||| BitVec.ofNat 12 mask else (s.slot k).claims &&& ~~~ BitVec.ofNat 12 mask := fun k hk => by
    rw [State.slot_setSlot]
    split
    · show (g.slot slot).claims ||| _ = _
      rw [hlost, if_neg (fun h => h.2 rfl)]
    · next hne => rw [hlost, if_pos ⟨List.mem_range.mpr hk, hne⟩]
  have hstatus : ((g.setSlot slot ((g.slot slot).taking mask svc)).slot slot).status = (s.slot slot).status := by
    rw [State.slot_setSlot_same]
    exact hyields.status slot
  have hresult : ((g.slot slot).taking mask svc).claims = ((g.setSlot slot ((g.slot slot).taking mask svc)).slot slot).claims := by
    rw [State.slot_setSlot_same]
  rw [hresult] at htake
  generalize g.setSlot slot ((g.slot slot).taking mask svc) = u at *
  have hends := u.completes_complete slot index Code.ok Reason.none (beBytes 2 (u.slot slot).claims.toNat)
  have hsame := u.sameClaims_complete slot index Code.ok Reason.none (beBytes 2 (u.slot slot).claims.toNat)
  have hanswer := hd.answers_held hcmd hstatus hcomp.stands.1 Code.ok Reason.none (beBytes 2 (u.slot slot).claims.toNat)
  obtain ⟨-, hwaits, hswaps, hdev⟩ := (hcomp.trans hends).stands
  have hrow := (hd.act_row hc.locked (is := fun m => decide (op m = Op.claim) && decide (opByte m ≠ 2))
    (f := fun u m => u.doClaim slot index m) (by simp [hop, hbyte]) (hwork.trans htake)).trans
    (hc.act _ hwaits hswaps hdev)
  generalize u.complete slot index Code.ok Reason.none (beBytes 2 (u.slot slot).claims.toNat) = t at *
  refine ⟨_, congrArg Host.Outcome.next hrow, ?_, fun k hk hne => ?_, ?_⟩
  · rw [State.keepLive_slot', hsame.claims, hclaims slot slot.isLt, if_pos rfl]
  · rw [State.keepLive_slot', hsame.claims, hclaims k hk, if_neg hne]
    exact not_and_self_mask ..
  · rw [State.keepLive_slot', hsame.claims]
    exact hanswer

/-! ## Giving up claims (R112, Table 4-3) -/

/-- A slot without the claims of a mask. -/
def HostSlot.giving (h : HostSlot) (mask : Nat) : HostSlot :=
  { h with claims := h.claims &&& BitVec.ofNat 12 (4095 - mask), svcClaims := h.svcClaims &&& BitVec.ofNat 12 (4095 - mask) }

/-- The rights one of which lets a slot give up claims (Table 4-3). -/
def State.mayRelease (s : State) (slot : Nat) : Bool :=
  [Right.ctrlTrc, Right.ctrlChg, Right.ctrlAux, Right.ctrlAct, Right.svcClaim].any (s.hasRight slot)

/-- What a slot's release makes before its answer: the claims are given up, and the sheaves without a holder react. -/
def State.released (s : State) (slot mask : Nat) : State :=
  (s.setSlot slot ((s.slot slot).giving mask)).forEach (maskSheaves ((s.slot slot).claims.toNat &&& mask)) State.holderLost

theorem State.claimRelease_eq (s : State) (slot index mask : Nat) :
    s.claimRelease slot index mask = if s.mayRelease slot then
        (s.released slot mask).complete slot index Code.ok Reason.none (beBytes 2 ((s.released slot mask).slot slot).claims.toNat)
      else s.complete slot index Code.denied Reason.noRight [] := by
  show (if !s.mayRelease slot then _ else _) = _
  cases s.mayRelease slot <;> rfl

/-- A release leaves records, attachments and time; the slot's own claims alone change. -/
theorem State.released_spec (s : State) (slot mask : Nat) : s.Working (s.released slot mask)
    ∧ ((s.released slot mask).slot slot).claims = (s.slot slot).claims &&& BitVec.ofNat 12 (4095 - mask) := by
  obtain ⟨hstops, -⟩ := (s.setSlot slot ((s.slot slot).giving mask)).holdersLost_stops (maskSheaves ((s.slot slot).claims.toNat &&& mask))
  have heq : s.released slot mask = { s.setSlot slot ((s.slot slot).giving mask) with sheaves := (s.released slot mask).sheaves } := hstops.eq
  have hslot : (s.released slot mask).slot = (s.setSlot slot ((s.slot slot).giving mask)).slot := by rw [heq]; rfl
  refine ⟨⟨by rw [heq]; rfl, fun n => ?_, by rw [heq]; rfl, by rw [heq]; rfl, by rw [heq]; rfl, by rw [heq]; rfl⟩, ?_⟩
  · rw [hslot, State.slot_setSlot]
    split
    · next h => rw [h]; rfl
    · rfl
  · rw [hslot, State.slot_setSlot_same]
    rfl

/-- R112, Table 4-3: giving up claims takes a CTRL right or SVC_CLAIM. -/
theorem exec_claimRelease_answers {s : State} (hc : s.Calm) {slot : Fin 8} {index : Fin 64} {r : CmdRec} (hd : s.Due slot index r) {mask : Nat}
    (hop : op r.msg = Op.claim) (hp : r.msg.payload = [2, 0] ++ beBytes 2 mask) (hmask : mask < 4096) :
    (s.mayRelease slot = false → ∃ t, exec (.claimRelease slot index) s = .next t ∧ t.Answers slot index r Code.denied Reason.noRight []
      ∧ ∀ k, (t.slot k).claims = (s.slot k).claims) ∧
    (s.mayRelease slot = true → ∃ t, exec (.claimRelease slot index) s = .next t
      ∧ (t.slot slot).claims = (s.slot slot).claims &&& BitVec.ofNat 12 (4095 - mask)
      ∧ t.Answers slot index r Code.ok Reason.none (beBytes 2 (t.slot slot).claims.toNat)) := by
  obtain ⟨hbyte, hwork⟩ := State.doClaim_eq (s := s) (o := 2) hp (.inr rfl) hmask slot index
  have hrelease := hwork.trans (s.claimRelease_eq ..)
  refine ⟨fun hable => ?_, fun hable => ?_⟩
  · rw [hable, if_neg Bool.false_ne_true] at hrelease
    exact hc.answers_row hd (is := fun m => decide (op m = Op.claim) && decide (opByte m = 2))
      (f := fun u m => u.doClaim slot index m) (by simp [hop, hbyte]) hrelease (.refl s) (s.sameClaims_complete ..).claims
  · obtain ⟨hworking, hclaims⟩ := s.released_spec slot mask
    rw [if_pos hable] at hrelease
    obtain ⟨t, hrow, hanswer, hkept⟩ := hc.answers_row hd (is := fun m => decide (op m = Op.claim) && decide (opByte m = 2))
      (f := fun u m => u.doClaim slot index m) (by simp [hop, hbyte]) hrelease hworking
      (P := fun t => (t.slot slot).claims = ((s.released slot mask).slot slot).claims) ((State.sameClaims_complete ..).claims slot)
    exact ⟨t, hrow, hkept.trans hclaims, by rw [hkept]; exact hanswer⟩

/-! ## Streams (R122, R129, R233) -/

/-- The state with a stream opened. -/
def State.opened (s : State) (x : Stream) : State := { s with streams := s.streams ++ [x] }

/-- A STREAM_OPEN in its form whose stream fits opens it: the slot's, through its port, of its sources, without a row yet. -/
theorem State.doStreamOpen_opens {s : State} {slot : Nat} {load : Nat} {m : HostMsg} (index : Nat) (hport : (s.slot slot).port < 3)
    (hsome : 1 ≤ beAt m.payload 0 1) (hmost : beAt m.payload 0 1 ≤ 16) (hlength : m.payload.length = 4 + 4 * beAt m.payload 0 1)
    (hout : beAt m.payload 1 1 ≤ 2) (hdecimation : beAt m.payload 2 2 ≠ 0) (hsources : (payloadWords (m.payload.drop 4)).all sourceOk = true)
    (hfits : s.streamFits slot (beAt m.payload 1 1) load = true) :
    ∃ x : Stream, s.doStreamOpen slot index load m = (s.opened x).complete slot index Code.ok Reason.none [BitVec.ofNat 8 x.number]
      ∧ x.slot = slot ∧ x.port = beAt m.payload 1 1 ∧ x.decimation = beAt m.payload 2 2 ∧ x.sources = payloadWords (m.payload.drop 4)
      ∧ x.load = load ∧ x.rows = [] := by
  unfold State.doStreamOpen
  extract_lets p n port dec src used k x
  have hcan : ¬ isCanPort (s.slot slot).port = true := by
    unfold isCanPort
    simp only [Bool.and_eq_true, decide_eq_true_eq]
    omega
  have hform : ¬ (n = 0 ∨ 16 < n ∨ p.length ≠ 4 + 4 * n ∨ 2 < port ∨ dec = 0 ∨ (!src.all sourceOk) = true) := by
    rw [show src.all sourceOk = true from hsources]
    show ¬ (beAt m.payload 0 1 = 0 ∨ 16 < beAt m.payload 0 1 ∨ m.payload.length ≠ 4 + 4 * beAt m.payload 0 1
      ∨ 2 < beAt m.payload 1 1 ∨ beAt m.payload 2 2 = 0 ∨ (!true) = true)
    simp only [hlength, ne_eq, not_true_eq_false, Bool.not_true, Bool.false_eq_true, false_or, or_false]
    omega
  rw [if_neg hcan, if_neg hform, if_neg (by rw [hfits]; decide)]
  exact ⟨x, rfl, rfl, rfl, rfl, rfl, rfl, rfl⟩

/-- R129, R233: a stream that fits is opened under a number of its own. -/
theorem exec_streamOpen_opens {s : State} (hc : s.Calm) {slot : Fin 8} {index : Fin 64} {r : CmdRec} (hd : s.Due slot index r) {load : Nat}
    (hop : op r.msg = Op.streamOpen) (hport : (s.slot slot).port < 3)
    (hsome : 1 ≤ beAt r.msg.payload 0 1) (hmost : beAt r.msg.payload 0 1 ≤ 16) (hlength : r.msg.payload.length = 4 + 4 * beAt r.msg.payload 0 1)
    (hout : beAt r.msg.payload 1 1 ≤ 2) (hdecimation : beAt r.msg.payload 2 2 ≠ 0)
    (hsources : (payloadWords (r.msg.payload.drop 4)).all sourceOk = true)
    (hfits : s.streamFits slot (beAt r.msg.payload 1 1) load = true) :
    ∃ t, exec (.streamOpen slot index load) s = .next t ∧ ∃ x, t.streams = s.streams ++ [x] ∧ x.slot = slot.val
      ∧ x.port = beAt r.msg.payload 1 1 ∧ x.decimation = beAt r.msg.payload 2 2 ∧ x.sources = payloadWords (r.msg.payload.drop 4)
      ∧ x.load = load ∧ x.rows = [] ∧ t.Answers slot index r Code.ok Reason.none [BitVec.ofNat 8 x.number] := by
  obtain ⟨x, hwork, hslot, hport', hdec, hsrc, hload, hrows⟩ :=
    State.doStreamOpen_opens index hport hsome hmost hlength hout hdecimation hsources hfits
  obtain ⟨t, hrow, hanswer, hstreams⟩ := hc.answers_row hd (is := fun m => decide (op m = Op.streamOpen))
    (f := fun u m => u.doStreamOpen slot index load m) (decide_eq_true hop) hwork ⟨rfl, fun _ => rfl, rfl, rfl, rfl, rfl⟩
    (P := fun t => t.streams = s.streams ++ [x]) (congrArg State.streams ((s.opened x).completes_complete ..))
  exact ⟨t, hrow, x, hstreams, hslot, hport', hdec, hsrc, hload, hrows, hanswer⟩

/-- Whether a stream is that of a slot under a number. -/
def Stream.isOf (slot number : Nat) (x : Stream) : Bool := decide (x.slot = slot) && decide (x.number = number)

/-- The state with a slot's stream closed. -/
def State.closed (s : State) (slot number : Nat) : State := { s with streams := s.streams.filter (fun y => !y.isOf slot number) }

theorem State.doStreamClose_closes {s : State} {slot : Nat} {m : HostMsg} {x : Stream} (index : Nat) (hx : x ∈ s.streams)
    (hslot : x.slot = slot) (hnumber : x.number < 256) (hp : m.payload = [BitVec.ofNat 8 x.number]) :
    s.doStreamClose slot index m = (s.closed slot x.number).complete slot index Code.ok Reason.none [] := by
  have hbyte : opByte m = x.number := by
    unfold opByte
    rw [hp]
    simp [beAt, beNat, Nat.mod_eq_of_lt hnumber]
  unfold State.doStreamClose
  rw [hbyte]
  refine if_neg (not_or.mpr ⟨by simp [hp], ?_⟩)
  rw [List.any_eq_true.mpr ⟨x, hx, by simp [hslot]⟩]
  decide

/-- R122: a host closes a stream of its own. -/
theorem exec_streamClose_closes {s : State} (hc : s.Calm) {slot : Fin 8} {index : Fin 64} {r : CmdRec} (hd : s.Due slot index r) {x : Stream}
    (hx : x ∈ s.streams) (hop : op r.msg = Op.streamClose) (hslot : x.slot = slot.val) (hnumber : x.number < 256)
    (hp : r.msg.payload = [BitVec.ofNat 8 x.number]) :
    ∃ t, exec (.streamClose slot index) s = .next t ∧ t.Answers slot index r Code.ok Reason.none []
      ∧ t.streams = s.streams.filter (fun y => !(decide (y.slot = slot.val) && decide (y.number = x.number))) :=
  hc.answers_row hd (f := fun u m => u.doStreamClose slot index m) (decide_eq_true hop)
    (State.doStreamClose_closes index hx hslot hnumber hp) ⟨rfl, fun _ => rfl, rfl, rfl, rfl, rfl⟩
    (congrArg State.streams ((s.closed slot x.number).completes_complete ..))

/-- Settles O40: each of these commands is answered with one completion over what its own work makes (assumption logs 70, 82, 83 and
124). -/
theorem hostsReadClaimAndStream : Obligations.HostsReadClaimAndStream := by
  intro s slot index r hc hd p
  refine ⟨fun hop hp => ?_, fun hop hwords hsome hsix => ?_,
    fun mask hop hp hmask hmay hstate => exec_claimTake_takes hc hd hop hp hmask hmay hstate,
    fun mask hop hp hmask => exec_claimRelease_answers hc hd hop hp hmask,
    fun load hop hport hsome hmost hlength hout hdecimation hsources hfits =>
      exec_streamOpen_opens hc hd hop hport hsome hmost hlength hout hdecimation hsources hfits,
    fun x hx hop hslot hnumber hp => exec_streamClose_closes hc hd hx hop hslot hnumber hp⟩
  · exact hc.answers_row hd (f := fun u m => u.doTimeQuery slot index m) (decide_eq_true hop) (State.doTimeQuery_ok hp slot index) (.refl s)
      (s.keepLive_complete_leaves ..)
  · exact hc.answers_row hd (f := fun u m => u.doParamRead slot index m) (decide_eq_true hop)
      (State.doParamRead_ok hwords hsome hsix slot index) (.refl s) (s.keepLive_complete_leaves ..)

end Sys2Proof.Machine

namespace Sys2Proof.Machine

/-! ## A write that is refused (R123, R142, R529) -/

/-- What a refused write leaves: both sets of items, the values on their way, units, outputs and sheaves. -/
def State.Untouched (s t : State) : Prop :=
  t.reg = s.reg ∧ t.shadow = s.shadow ∧ t.waits = [] ∧ t.unit = s.unit ∧ t.out = s.out ∧ t.sheaf = s.sheaf

theorem State.Calm.untouched {s : State} (hc : s.Calm) (slot index code reason : Nat) (result : List Byte) :
    s.Untouched (s.keepLive (s.complete slot index code reason result)) := by
  have hcomp := s.completes_complete slot index code reason result
  obtain ⟨hunit, hsheaf, -, -, hout, hreg⟩ := hcomp.leaves
  have hshadow : (s.complete slot index code reason result).shadow = s.shadow := by
    unfold State.Completes at hcomp
    rw [hcomp]; rfl
  exact ⟨hreg, hshadow, hcomp.stands.2.1.trans hc.waits, hunit, hout, hsheaf⟩

/-- A failing write is answered with its item, code and reason; only a request for a state without its right leaves a trace besides. -/
theorem State.failWrite_eq {s : State} {items : List (Word × Word)} {reason : Nat}
    (h : reason ≠ Reason.rights ∨ ∀ x ∈ items, bitsOf x.1 23 0 ≠ Item.DEV.MODE_REQ) (slot index i code : Nat) :
    s.failWrite slot index i code reason items = s.complete slot index code reason (beBytes 2 i ++ [0, 0]) := by
  have hno : ¬ ((items.any fun p => decide (bitsOf p.1 23 0 = Item.DEV.MODE_REQ)) = true ∧ reason = Reason.rights) := by
    rintro ⟨hmode, hreason⟩
    obtain ⟨x, hx, hmode⟩ := List.any_eq_true.mp hmode
    exact h.elim (fun h => h hreason) (fun h => h x hx (of_decide_eq_true hmode))
  unfold State.failWrite
  extract_lets mode s1
  have hs1 : s1 = s := if_neg hno
  rw [hs1]

section
variable {s : State} {m : HostMsg} (hsome : 0 < m.payload.length) (hmost : m.payload.length ≤ 512) (hpairs : m.payload.length % 8 = 0)
  (halone : (writeItems m).length ≤ 1 ∨ ∀ x ∈ writeItems m, alone x.1 = false)
include halone

/-- No item of such a write has to stand alone beside others. -/
theorem findIdx_alone_none : (if 1 < (writeItems m).length then (writeItems m).findIdx? (fun p => alone p.1) else none) = none := by
  split
  · next h => exact List.findIdx?_eq_none_iff.mpr (halone.resolve_left (Nat.not_le.mpr h))
  · rfl

include hsome hmost hpairs

/-- A write in its form one of whose items fails its checks fails with it. -/
theorem State.doWrite_fails (slot index : Nat) {i code reason : Nat}
    (hfails : s.firstFailure slot (writeItems m) (writeItems m) 0 = some (i, code, reason)) :
    s.doWrite slot index m = s.failWrite slot index i code reason (writeItems m) := by
  unfold State.doWrite
  simp only [findIdx_alone_none halone, hfails]
  exact if_neg (by omega)

/-- A write in its form whose items pass their checks is applied. -/
theorem State.doWrite_passes (slot index : Nat) (hpass : s.firstFailure slot (writeItems m) (writeItems m) 0 = none) :
    s.doWrite slot index m = s.applyWrite slot index (writeItems m) := by
  unfold State.doWrite
  simp only [findIdx_alone_none halone, hpass]
  exact if_neg (by omega)

end

/-- A write of several items fails with the first that must stand alone. -/
theorem State.doWrite_alone {s : State} {m : HostMsg} {i : Nat} {x : Word × Word} (hmany : 1 < (writeItems m).length)
    (hmost : m.payload.length ≤ 512) (hpairs : m.payload.length % 8 = 0) (hx : (writeItems m)[i]? = some x) (halone : alone x.1 = true)
    (hfirst : ∀ j < i, ∀ y, (writeItems m)[j]? = some y → alone y.1 = false) (slot index : Nat) :
    s.doWrite slot index m = s.failWrite slot index i Code.invalid Reason.reqAlone (writeItems m) := by
  have hsome : m.payload.length ≠ 0 := fun h => by
    have hnil : writeItems m = [] := by unfold writeItems; rw [List.length_eq_zero_iff.mp h]; rfl
    rw [hnil] at hmany
    exact absurd hmany (by decide)
  obtain ⟨hi, hxi⟩ := List.getElem?_eq_some_iff.mp hx
  have hfound : (if 1 < (writeItems m).length then (writeItems m).findIdx? (fun p => alone p.1) else none) = some i := by
    rw [if_pos hmany, List.findIdx?_eq_some_iff_getElem]
    exact ⟨hi, by rw [hxi]; exact halone, fun j hj => by simp [hfirst j hj _ (List.getElem?_eq_getElem (hj.trans hi))]⟩
  unfold State.doWrite
  simp only [hfound]
  exact if_neg (by omega)

/-- R123: a write that is refused is answered with the failing item, and nothing is written. -/
theorem exec_paramWrite_refused {s : State} (hc : s.Calm) {slot : Fin 8} {index : Fin 64} {r : CmdRec} (hd : s.Due slot index r)
    (hop : op r.msg = Op.paramWrite) {i code reason : Nat}
    (hwork : s.doWrite slot index r.msg = s.complete slot index code reason (beBytes 2 i ++ [0, 0])) :
    ∃ t, exec (.paramWrite slot index) s = .next t ∧ t.Answers slot index r code reason (beBytes 2 i ++ [0, 0]) ∧ s.Untouched t :=
  hc.answers_row hd (is := fun m => decide (op m = Op.paramWrite) && true) (f := fun u m => u.doWrite slot index m) (by simp [hop])
    hwork (.refl s) (hc.untouched ..)

/-! ## The items that a write reaches (Tables 5-1 and 5-3) -/

/-- The items, as group and number, that report what a write sets off: counters, a profile's status, the window of a CAN object. -/
def reportItems : List (Nat × Nat) :=
  [(0x01, 0x034), (0x0B, 0x010), (0x11, 0x011), (0x13, 0x070), (0x19, 0x00E), (0x19, 0x00F), (0x1C, 0x021), (0x1C, 0x022), (0x1C, 0x023),
    (0x1C, 0x024), (0x1C, 0x025), (0x1C, 0x026), (0x1C, 0x028), (0x1C, 0x029), (0x1C, 0x02A), (0x1C, 0x02B), (0x1C, 0x02C), (0x1C, 0x02D),
    (0x1C, 0x02E), (0x1C, 0x02F)]

/-- The items, as group and number, whose word is a key or a request alone: triggers, recoveries, firmware. -/
def requestItems : List (Nat × Nat) :=
  [(0x02, 0x010), (0x02, 0x011), (0x02, 0x012), (0x02, 0x013), (0x0C, 0x010), (0x0D, 0x00E), (0x1C, 0x014), (0x1E, 0x016), (0x1E, 0x017)]

theorem specialItems_not_writable :
    ∀ p ∈ reportItems ++ requestItems, ∀ d ∈ Catalogue.rows p.1, d.lo ≤ p.2 → p.2 ≤ d.hi → d.acc ≠ .rw := by decide

/-- An item that may be read and written is none of them. -/
theorem Catalogue.writable_not_special {a : Nat} {d : ItemDef} (hfind : Catalogue.find a = some d) (hrw : d.acc = .rw) :
    (Item.group a, Item.num a) ∉ reportItems ++ requestItems := fun hspecial => by
  unfold Catalogue.find at hfind
  split at hfind
  · have hrow := List.find?_some hfind
    simp only [Bool.and_eq_true, decide_eq_true_eq] at hrow
    exact specialItems_not_writable _ hspecial d (List.mem_of_find?_eq_some hfind) hrow.1 hrow.2 hrw
  · cases hfind

theorem reportItems_in_range : ∀ p ∈ reportItems, p.1 < 0x20 ∧ p.2 < 0x400 := by decide

/-- Whether an address is that of a report. -/
def Reported (a : Nat) : Prop := (Item.group a, Item.num a) ∈ reportItems

theorem reported_addr {g n i : Nat} (hn : n < 64) (h : (g, i) ∈ reportItems) : Reported (Item.addr g n i) := by
  obtain ⟨hg, hi⟩ := reportItems_in_range _ h
  obtain ⟨hgroup, -, hnum⟩ := Item.addr_fields hg hn hi
  unfold Reported
  rw [hgroup, hnum]
  exact h

theorem Item.inst_lt (a : Nat) : Item.inst a < 64 := Nat.mod_lt _ (by decide)

/-- The mode of a port is no report. -/
theorem not_reported_portMode {n : Nat} (hn : n < 64) : ¬ Reported (Item.POS.MODE n) := by
  obtain ⟨hgroup, -, hnum⟩ := Item.addr_fields (g := 0x0E) (i := 0x001) (by decide) hn (by decide)
  unfold Reported
  rw [hgroup, hnum]
  decide

/-! ## What the delivery of an item sets off besides its value -/

/-- What a delivery may set off beside values: reports, and the blocks' own books. Records, attachments, time, the values on their way,
the device's state, the sheaves, the shadow set and every other item stay. -/
structure State.Reports (s t : State) : Prop where
  recs : t.recs = s.recs
  status : ∀ n, (t.slot n).status = (s.slot n).status
  time : t.time = s.time
  waits : t.waits = s.waits
  swaps : t.swaps = s.swaps
  state : t.dev.state = s.dev.state
  bind : t.bind = s.bind
  sheaf : t.sheaf = s.sheaf
  shadow : t.shadow = s.shadow
  reg : ∀ a, ¬ Reported a → t.reg a = s.reg a

theorem State.Reports.refl (s : State) : s.Reports s :=
  ⟨rfl, fun _ => rfl, rfl, rfl, rfl, rfl, rfl, rfl, rfl, fun _ _ => rfl⟩

theorem State.Reports.trans {s t u : State} (h : s.Reports t) (k : t.Reports u) : s.Reports u where
  recs := k.recs.trans h.recs
  status n := (k.status n).trans (h.status n)
  time := k.time.trans h.time
  waits := k.waits.trans h.waits
  swaps := k.swaps.trans h.swaps
  state := k.state.trans h.state
  bind := k.bind.trans h.bind
  sheaf := k.sheaf.trans h.sheaf
  shadow := k.shadow.trans h.shadow
  reg a ha := (k.reg a ha).trans (h.reg a ha)

/-- The books of outputs, legs, ports, converters, carriers, of traction and charge. -/
theorem State.reports_of {s t : State} (h : t = { s with
    outs := t.outs, legs := t.legs, ports := t.ports, slows := t.slows, carriers := t.carriers, trac := t.trac, charge := t.charge
    dev := { s.dev with free := t.dev.free } }) : s.Reports t := by
  rw [h]
  exact ⟨rfl, fun _ => rfl, rfl, rfl, rfl, rfl, rfl, rfl, rfl, fun _ _ => rfl⟩

theorem State.reports_setReg (s : State) {a : Nat} (ha : Reported a) (w : Word) : s.Reports (s.setReg a w) where
  recs := rfl
  status _ := rfl
  time := rfl
  waits := rfl
  swaps := rfl
  state := rfl
  bind := rfl
  sheaf := rfl
  shadow := rfl
  reg b hb := s.reg_setReg_other a w b (fun h => hb (h ▸ ha))

theorem State.reports_setRegs {l : List (Nat × Word)} (hl : ∀ p ∈ l, Reported p.1) (s : State) : s.Reports (s.setRegs l) := by
  induction l generalizing s with
  | nil => exact .refl s
  | cons p l ih =>
    obtain ⟨hp, hl⟩ := List.forall_mem_cons.mp hl
    exact (s.reports_setReg hp p.2).trans (ih hl _)

theorem State.reports_forEach {α : Type} {f : State → α → State} {l : List α} (hf : ∀ s, ∀ a ∈ l, State.Reports s (f s a)) (s : State) :
    s.Reports (s.forEach l f) := by
  induction l generalizing s with
  | nil => exact .refl s
  | cons a l ih =>
    obtain ⟨ha, hl⟩ : (∀ s, State.Reports s (f s a)) ∧ ∀ s, ∀ b ∈ l, State.Reports s (f s b) :=
      ⟨fun s => hf s a List.mem_cons_self, fun s b hb => hf s b (List.mem_cons_of_mem a hb)⟩
    exact (ha s).trans (ih hl _)

theorem State.reports_tookEffect (s : State) (a : Nat) : s.Reports (s.tookEffect a) := by
  unfold State.tookEffect
  extract_lets i
  split
  · exact State.reports_of rfl
  · split
    · split
      · exact State.reports_of rfl
      · split
        · exact State.reports_of rfl
        · exact .refl s
    · split
      · refine State.reports_of ?_
        rw [State.bandAgain_eq]
      · exact .refl s

theorem State.reports_outDemand (s : State) {n : Nat} (hn : n < 8) : s.Reports (s.outDemand n) := by
  unfold State.outDemand
  extract_lets o d
  split
  · exact (s.reports_setReg (reported_addr (by omega) (by decide)) _).trans (State.reports_of rfl)
  · exact State.reports_of rfl

theorem State.reports_outRequest (s : State) {n : Nat} (hn : n < 8) (on : Bool) : s.Reports (s.outRequest n on) := by
  have hdemand := s.reports_outDemand hn
  have hset : ∀ o, (s.outDemand n).Reports ((s.outDemand n).setOut n o) := fun _ => State.reports_of rfl
  unfold State.outRequest
  split
  · split
    · extract_lets s1
      split
      · exact hdemand
      · exact (hdemand.trans (hset _)).trans (State.reports_setReg _ (reported_addr (by omega) (by decide)) _)
    · exact .refl s
  · exact hdemand.trans (hset _)

theorem State.reports_restartWatchdog (s : State) : s.Reports s.restartWatchdog := by
  have hset : ∀ (t : State) c, t.Reports (t.setCharge c) := fun _ _ => State.reports_of rfl
  unfold State.restartWatchdog
  extract_lets s1
  have hexpires : s.Reports s1 := by
    unfold s1
    split
    · exact ((hset s _).trans (hset _ _)).trans (State.reports_setReg _ (reported_addr (n := 0) (by decide) (by decide)) _)
    · exact .refl s
  exact hexpires.trans (hset _ _)

theorem State.reports_showObject (s : State) {n : Nat} (hn : n < 64) (w : Word) : s.Reports (s.showObject n w) := by
  unfold State.showObject
  extract_lets o half b stat
  refine (State.reports_setRegs ?_ s).trans (State.reports_setRegs ?_ _)
  · simp only [List.forall_mem_cons, List.not_mem_nil, false_implies, implies_true, and_true]
    refine ⟨?_, ?_, ?_, ?_, ?_, ?_⟩ <;> exact reported_addr hn (by decide)
  · intro p hp
    obtain ⟨k, hk, rfl⟩ := List.mem_map.mp hp
    have hwindow : ∀ k ∈ List.range 8, (0x1C, 0x028 + k) ∈ reportItems := by decide
    exact reported_addr hn (hwindow k hk)

/-- The delivery of an item that may be read and written sets off reports alone. -/
theorem State.reports_delivered (s : State) (slot : Nat) {aw : Word} (w : Word)
    (hitem : (Item.group (bitsOf aw 23 0), Item.num (bitsOf aw 23 0)) ∉ reportItems ++ requestItems) : s.Reports (s.delivered slot aw w) := by
  have hrequest : ∀ g i, (g, i) ∈ requestItems → Item.group (bitsOf aw 23 0) = g → Item.num (bitsOf aw 23 0) ≠ i :=
    fun g i hmem hg hi => hitem (by rw [hg, hi]; exact List.mem_append_right _ hmem)
  have hrequests : ∀ v : State, ∀ tr, v.Reports { v with trac := tr } := fun _ _ => State.reports_of rfl
  unfold State.delivered
  extract_lets a n i now s1
  split
  · split
    · refine State.reports_forEach (fun t k hk => t.reports_outRequest ?_ _) s
      exact List.mem_range.mp (List.mem_of_mem_filter hk)
    · exact .refl s
  · next hg =>
    rw [if_neg]
    · exact .refl s
    · intro hkey
      simp only [isKey, Bool.and_eq_true, decide_eq_true_eq] at hkey
      have hnum : ∀ i, (0x02, i) ∈ requestItems → Item.num a ≠ i := fun i hi => hrequest 0x02 i hi hg
      have h0 := hnum 0x010 (by decide)
      have h1 := hnum 0x011 (by decide)
      have h2 := hnum 0x012 (by decide)
      have h3 := hnum 0x013 (by decide)
      omega
  · next hg =>
    rw [if_neg (hrequest 0x0C 0x010 (by decide) hg)]
    exact .refl s
  · have hstatus : s.Reports s1 := by
      unfold s1
      split
      · exact s.reports_setReg (reported_addr (Item.inst_lt a) (by decide)) _
      · exact .refl s
    split
    · exact hstatus.trans (hrequests s1 _)
    · exact hstatus
  · split
    · exact hrequests s _
    · exact .refl s
  · split
    · exact (hrequests s _).trans (State.reports_restartWatchdog _)
    · exact .refl s
  · split
    · exact s.reports_restartWatchdog
    · exact .refl s
  · next hg =>
    rw [if_neg (hrequest 0x1C 0x014 (by decide) hg)]
    split
    · exact s.reports_showObject (Item.inst_lt a) w
    · exact .refl s
  · next hg =>
    rw [if_neg (hrequest 0x1E 0x016 (by decide) hg), if_neg (hrequest 0x1E 0x017 (by decide) hg)]
    exact .refl s
  · exact .refl s

/-- The batches of compare words that a write makes (R145, R202, R205). -/
theorem State.reports_hostBatches (s : State) (items : List (Word × Word)) : s.Reports (s.hostBatches items) := by
  refine State.reports_forEach (fun t n hn => ?_) s
  have hn' : n < 12 := List.mem_range.mp hn
  extract_lets mine c groups t1
  split
  · exact .refl t
  · have hlate : t.Reports t1 := by
      unfold t1
      split
      · exact State.reports_forEach (fun u _ _ => u.reports_setReg (reported_addr (by omega) (by decide)) _) t
      · exact .refl t
    exact hlate.trans (State.reports_of rfl)

/-! ## A write that is accepted (R94, R143, R144, R148, Tables 5-4 and 5-5) -/

/-- The value of a class-L item on its way to the next boundary of its block. -/
def State.onItsWay (s : State) (a : Nat) (w : Word) : PendingWrite :=
  { addr := a, value := w, both := false, shadow := false, heldFor := none, tick := s.tick }

/-- Whether the block of an item runs hangs on the mapping, the sheaves and the ports' modes alone. -/
theorem State.blockRunning_congr {s t : State} (hbind : t.bind = s.bind) (hsheaf : t.sheaf = s.sheaf)
    (hmode : ∀ n < 64, t.reg (Item.POS.MODE n) = s.reg (Item.POS.MODE n)) (a : Nat) :
    t.blockRunning (t.blockOf a) = s.blockRunning (s.blockOf a) := by
  have howner : t.ownerSheaf a = s.ownerSheaf a := by
    unfold State.ownerSheaf State.realSheaf State.actSheaf State.stype
    rw [hbind]
  have hblock : t.blockOf a = s.blockOf a := by
    unfold State.blockOf
    rw [howner]
  have hport : ∀ n, s.blockOf a = .port n → n < 64 := fun n hn => by
    unfold State.blockOf at hn
    split at hn
    case h_3 => exact Block.port.inj hn ▸ Item.inst_lt a
    case h_6 => split at hn <;> cases hn
    all_goals cases hn
  rw [hblock]
  unfold State.blockRunning State.regN
  rw [hbind, hsheaf]
  split
  case h_6 n hn => rw [hmode n (hport n hn)]
  all_goals rfl

/-- With no SWAP on its way and every value on its way waiting for a block that runs, settling changes nothing. -/
theorem State.settle_running {s : State} (hswaps : s.swaps = []) (hruns : ∀ p ∈ s.waits, s.blockRunning (s.blockOf p.addr) = true) :
    s.settle = s := by
  have hdue : s.waits.filter (fun p => p.heldFor.isNone && !s.blockRunning (s.blockOf p.addr)) = [] := by
    rw [List.filter_eq_nil_iff]
    intro p hp
    simp [hruns p hp]
  have hkept : s.waits.filter (fun p => !(p.heldFor.isNone && !s.blockRunning (s.blockOf p.addr))) = s.waits := by
    rw [List.filter_eq_self]
    intro p hp
    simp [hruns p hp]
  unfold State.settle
  split
  · rfl
  · simp only [hswaps, List.filter_nil, List.map_nil, State.forEach_nil, hdue, hkept]
    rw [← hswaps]

/-- In a calm state a command that leaves only such values on their way does no more than its work. -/
theorem State.Calm.act_running {s t : State} (hc : s.Calm) (hstate : t.dev.state = s.dev.state) (hswaps : t.swaps = [])
    (hruns : ∀ p ∈ t.waits, t.blockRunning (t.blockOf p.addr) = true) : s.act (fun _ => t) = s.keepLive t := by
  unfold State.act
  rw [if_pos hc.live, State.chargeSafe_outside _ (by rw [hstate]; exact hc.safe) (by rw [hstate]; exact hc.locked),
    State.settle_running hswaps hruns]

/-- What the delivery of an accepted value is, of a calm state's item of class L or S: into the shadow set, on its way to the boundary of
a block that runs, or in effect at once. -/
theorem State.Calm.deliver_eq {s : State} (hc : s.Calm) {aw w : Word} {d : ItemDef} (hfind : Catalogue.find (bitsOf aw 23 0) = some d)
    (hcls : d.cls = .L ∨ d.cls = .S) :
    s.deliver aw w =
      if d.cls = .S then s.setShadow (bitsOf aw 23 0) w
      else if s.blockRunning (s.blockOf (bitsOf aw 23 0)) = true then { s with waits := [s.onItsWay (bitsOf aw 23 0) w] }
      else (s.setReg (bitsOf aw 23 0) w).tookEffect (bitsOf aw 23 0) := by
  have hheld : s.swapHolds (bitsOf aw 23 0) = none := by
    unfold State.swapHolds
    rw [hc.swaps]
    split <;> rfl
  unfold State.deliver
  simp only [hfind, hheld, ite_self]
  rcases hcls with h | h
  · simp [h, hc.waits, State.onItsWay]
  · simp [h]

/-- Besides the values, and what takes effect with one, a delivery leaves records, attachments, time and the device's state; a value on
its way waits for a block that runs. -/
theorem State.Calm.deliver_spec {s : State} (hc : s.Calm) {aw : Word} (w : Word) {d : ItemDef}
    (hfind : Catalogue.find (bitsOf aw 23 0) = some d) (hcls : d.cls = .L ∨ d.cls = .S) :
    (s.deliver aw w).recs = s.recs ∧ (∀ n, ((s.deliver aw w).slot n).status = (s.slot n).status) ∧ (s.deliver aw w).time = s.time
      ∧ (s.deliver aw w).swaps = s.swaps ∧ (s.deliver aw w).dev.state = s.dev.state
      ∧ ∀ p ∈ (s.deliver aw w).waits, (s.deliver aw w).blockRunning ((s.deliver aw w).blockOf p.addr) = true := by
  have hnone : ∀ (v : State), v.waits = s.waits → ∀ p ∈ v.waits, v.blockRunning (v.blockOf p.addr) = true := fun v h p hp => by
    rw [h, hc.waits] at hp
    cases hp
  rw [hc.deliver_eq hfind hcls]
  split
  · exact ⟨rfl, fun _ => rfl, rfl, rfl, rfl, hnone _ rfl⟩
  · split
    · next hruns => exact ⟨rfl, fun _ => rfl, rfl, rfl, rfl, fun p hp => by rw [List.mem_singleton.mp hp]; exact hruns⟩
    · have h := (s.setReg (bitsOf aw 23 0) w).reports_tookEffect (bitsOf aw 23 0)
      exact ⟨h.recs, h.status, h.time, h.swaps, h.state, hnone _ h.waits⟩

/-- The state with the value of an accepted write of one item delivered, with what it sets off, and counted. -/
def State.written (s : State) (slot : Nat) (aw w : Word) : State :=
  (((s.deliver aw w).delivered slot aw w).bump Item.DEV.PARAM_WR_CNT).hostBatches [(aw, w)]

theorem State.reports_written (s : State) (slot : Nat) {aw : Word} (w : Word)
    (hitem : (Item.group (bitsOf aw 23 0), Item.num (bitsOf aw 23 0)) ∉ reportItems ++ requestItems) :
    (s.deliver aw w).Reports (s.written slot aw w) :=
  ((State.reports_delivered _ slot w hitem).trans (State.reports_setReg _ (reported_addr (n := 0) (by decide) (by decide)) _)).trans
    (State.reports_hostBatches ..)

/-- The work of an accepted write of one item that is no request. -/
theorem State.applyWrite_eq {s : State} {aw w : Word} {d : ItemDef} (hswaps : s.swaps = []) (hcap : s.modeCap = none)
    (hfind : Catalogue.find (bitsOf aw 23 0) = some d) (hrw : d.acc = .rw) (hmode : bitsOf aw 23 0 ≠ Item.DEV.MODE_REQ)
    (hhv : bitsOf aw 23 0 ≠ Item.DEV.HV_REQ) (slot index : Nat) :
    s.applyWrite slot index [(aw, w)] = (s.written slot aw w).complete slot index Code.ok Reason.none [] := by
  have hurgent : ¬ (Item.group (bitsOf aw 23 0) = 0x0D ∧ Item.num (bitsOf aw 23 0) = 0x00E) := fun h => by
    have hspecial := Catalogue.writable_not_special hfind hrw
    rw [h.1, h.2] at hspecial
    exact hspecial (by decide)
  have hawaited : s.awaited [(aw, w)] = [] := by
    have hheld : s.swapHolds (bitsOf aw 23 0) = none := by
      unfold State.swapHolds
      rw [hswaps]
      split <;> rfl
    simp [State.awaited, hheld, hfind]
  have hrequest : requestOnly (bitsOf aw 23 0) = false := by simp [requestOnly, hfind, hrw]
  have hitem : s.deliverItem slot (aw, w) = ((s.deliver aw w).delivered slot aw w).bump Item.DEV.PARAM_WR_CNT := by
    have hcapped : s.capWrite aw w = (s, w) := by
      unfold State.capWrite
      simp only [hcap]
    unfold State.deliverItem
    simp only [hcapped, hrequest, Bool.false_eq_true, if_false]
  unfold State.applyWrite
  simp only [if_neg hmode, if_neg hhv, if_neg hurgent]
  unfold State.finishWrite
  simp only [hawaited, if_true, State.forEach_cons, State.forEach_nil, hitem]
  rfl

/-- R123, R143: an accepted write of one item of class L or S delivers its value and is answered; beside reports nothing else moves. -/
theorem exec_paramWrite_delivers {s : State} (hc : s.Calm) {slot : Fin 8} {index : Fin 64} {r : CmdRec} (hd : s.Due slot index r)
    (hop : op r.msg = Op.paramWrite) {aw w : Word} {d : ItemDef} (hlength : r.msg.payload.length = 8) (hitems : writeItems r.msg = [(aw, w)])
    (hpass : s.itemFails slot (writeItems r.msg) aw w = none) (hcap : s.modeCap = none) (hfind : Catalogue.find (bitsOf aw 23 0) = some d)
    (hrw : d.acc = .rw) (hcls : d.cls = .L ∨ d.cls = .S) (hmode : bitsOf aw 23 0 ≠ Item.DEV.MODE_REQ)
    (hhv : bitsOf aw 23 0 ≠ Item.DEV.HV_REQ) :
    ∃ t, exec (.paramWrite slot index) s = .next t ∧ t.Answers slot index r Code.ok Reason.none []
      ∧ t.reg (bitsOf aw 23 0) = (s.deliver aw w).reg (bitsOf aw 23 0) ∧ t.shadow = (s.deliver aw w).shadow
      ∧ t.waits = (s.deliver aw w).waits := by
  have hspecial := Catalogue.writable_not_special hfind hrw
  have hchecks : s.firstFailure slot (writeItems r.msg) (writeItems r.msg) 0 = none := by
    rw [hitems] at hpass ⊢
    simp only [State.firstFailure, hpass]
  have hwork : s.doWrite slot index r.msg = s.applyWrite slot index [(aw, w)] := by
    rw [State.doWrite_passes (by omega) (by omega) (by omega) (.inl (by rw [hitems]; exact Nat.le_refl 1)) slot index hchecks, hitems]
  replace hwork := hwork.trans (State.applyWrite_eq hc.swaps hcap hfind hrw hmode hhv slot index)
  obtain ⟨hrecs, hstatus, htime, hswaps, hstate, hruns⟩ := hc.deliver_spec w hfind hcls
  have hreports := s.reports_written slot w hspecial
  generalize s.written slot aw w = u at hwork hreports
  generalize s.deliver aw w = v at *
  have hcmd : u.cmd slot index = s.cmd slot index := by
    unfold State.cmd
    rw [hreports.recs, hrecs]
  have hanswer := hd.answers_held hcmd ((hreports.status slot).trans (hstatus slot)) (hreports.time.trans htime) Code.ok Reason.none []
  have hends := u.completes_complete slot index Code.ok Reason.none []
  have hrow := hd.act_row hc.locked (is := fun m => decide (op m = Op.paramWrite) && true) (f := fun u m => u.doWrite slot index m)
    (by simp [hop]) hwork
  generalize u.complete slot index Code.ok Reason.none [] = t at *
  obtain ⟨-, hwaits', hswaps', hstate'⟩ := hends.stands
  obtain ⟨-, hsheaf', -, -, -, hreg'⟩ := hends.leaves
  have hrest : t.bind = u.bind ∧ t.shadow = u.shadow := by
    unfold State.Completes at hends
    rw [hends]
    exact ⟨rfl, rfl⟩
  have hruns' : ∀ p ∈ t.waits, t.blockRunning (t.blockOf p.addr) = true := fun p hp => by
    rw [hwaits', hreports.waits] at hp
    rw [State.blockRunning_congr (hrest.1.trans hreports.bind) (hsheaf'.trans hreports.sheaf)
      (fun n hn => (congrFun hreg' _).trans (hreports.reg _ (not_reported_portMode hn)))]
    exact hruns p hp
  have hact := hc.act_running ((hstate'.trans hreports.state).trans hstate) ((hswaps'.trans hreports.swaps).trans (hswaps.trans hc.swaps))
    hruns'
  refine ⟨_, congrArg Host.Outcome.next (hrow.trans hact), hanswer, ?_, hrest.2.trans hreports.shadow, hwaits'.trans hreports.waits⟩
  exact (congrFun hreg' _).trans (hreports.reg _ (fun h => hspecial (List.mem_append_left _ h)))

/-- Settles O45: a refused write is answered alone; an accepted value goes where the class of its item and its block say (assumption
log 72). -/
theorem writesAreCheckedAndTakeEffect : Obligations.WritesAreCheckedAndTakeEffect := by
  intro s slot index r hc hd hop n items
  refine ⟨fun i code reason hsome hmost hpairs halone hmode hfails => ?_, fun i x hmany hmost hpairs hx halone hfirst => ?_,
    fun aw w d hlength hitems hpass hcap hfind hrw hcls hmode hhv => ?_⟩
  · refine exec_paramWrite_refused hc hd hop ?_
    rw [State.doWrite_fails hsome hmost hpairs halone slot index hfails]
    exact State.failWrite_eq (.inr hmode) ..
  · refine exec_paramWrite_refused hc hd hop ?_
    rw [State.doWrite_alone hmany hmost hpairs hx halone hfirst]
    exact State.failWrite_eq (.inl (by decide)) ..
  · obtain ⟨t, hrow, hanswer, hreg, hshadow, hwaits⟩ :=
      exec_paramWrite_delivers hc hd hop hlength hitems hpass hcap hfind hrw hcls hmode hhv
    refine ⟨t, hrow, hanswer, ?_⟩
    rw [hc.deliver_eq hfind hcls] at hreg hshadow hwaits
    intro a
    split
    · next h =>
      rw [if_pos h] at hreg hshadow hwaits
      rw [hreg, hshadow, hwaits]
      exact ⟨s.shadow_setShadow_same a w, fun b hb => s.shadow_setShadow_other a w b hb, rfl, hc.waits⟩
    · next h =>
      rw [if_neg h] at hreg hwaits
      split
      · next hruns =>
        rw [if_pos hruns] at hreg hwaits
        exact ⟨hreg, hwaits⟩
      · next hruns =>
        rw [if_neg hruns] at hreg hwaits
        have htook := (s.setReg a w).reports_tookEffect a
        have hspecial := Catalogue.writable_not_special hfind hrw
        exact ⟨(hreg.trans (htook.reg a (fun h => hspecial (List.mem_append_left _ h)))).trans (s.reg_setReg_same a w),
          (hwaits.trans htook.waits).trans hc.waits⟩

end Sys2Proof.Machine

namespace Sys2Proof.Machine

/-! ## What a leg's row leaves of the other legs and of the sheaves -/

/-- A leg that differs in its band only has the same drivers. -/
theorem Leg.Banded.driver {l m : Leg} (h : l.Banded m) (side : Bool) : m.driver side = l.driver side := by
  unfold Leg.Banded at h
  rw [h]
  rfl

/-- A leg that differs in its band only has the same marks of the interlock. -/
theorem Leg.Banded.interlock {l m : Leg} (h : l.Banded m) :
    m.shootHold = l.shootHold ∧ m.shootNow = l.shootNow ∧ m.shootNext = l.shootNext := by
  unfold Leg.Banded at h
  rw [h]
  exact ⟨rfl, rfl, rfl⟩

/-- Every leg but one stands, and so does every sheaf. -/
def State.LegAlone (s t : State) (leg : Nat) : Prop := (∀ m, m ≠ leg → (s.leg m).Banded (t.leg m)) ∧ t.sheaf = s.sheaf

theorem State.LegAlone.trans {s t u : State} {leg : Nat} (h : s.LegAlone t leg) (k : t.LegAlone u leg) : s.LegAlone u leg :=
  ⟨fun m hm => (h.1 m hm).trans (k.1 m hm), k.2.trans h.2⟩

theorem State.legAlone_of_eq {s t : State} {leg : Nat} (hlegs : t.legs = s.legs) (hsheaves : t.sheaves = s.sheaves) : s.LegAlone t leg :=
  ⟨fun m _ => State.banded_of_eq hlegs m, funext fun n => by unfold State.sheaf; rw [hsheaves]⟩

theorem State.legAlone_setLeg (s : State) (leg : Nat) (l : Leg) : s.LegAlone (s.setLeg leg l) leg :=
  ⟨fun m hm => by rw [State.leg_setLeg_other _ _ _ _ hm]; exact .refl _, rfl⟩

/-- The frame of a live device leaves every leg but for its band, and every sheaf. -/
theorem State.legAlone_act {s : State} (hl : s.live = true) (g : State) (leg : Nat) : g.LegAlone (s.act fun _ => g) leg :=
  ⟨fun m _ => s.act_banded (fun _ => g) hl m, funext (s.act_sheaf _ hl)⟩

/-! ## A warning of a leg (R190, R439) -/

theorem unitIndex_legUnit (leg : Fin 48) : unitIndex (legUnit leg) = leg := by
  unfold unitIndex legUnit unitOf
  omega

/-- What a warning of a leg leaves of the legs: its own log apart, every leg, and every sheaf. -/
structure State.Logs (s t : State) (leg : Nat) : Prop where
  alone : s.LegAlone t leg
  own : ∃ log, t.leg leg = { s.leg leg with log := log }

theorem State.Logs.trans {s t u : State} {leg : Nat} (h : s.Logs t leg) (k : t.Logs u leg) : s.Logs u leg := by
  obtain ⟨a, ha⟩ := h.own
  obtain ⟨b, hb⟩ := k.own
  exact ⟨h.alone.trans k.alone, b, by rw [hb, ha]⟩

theorem State.logs_of_eq {s t : State} {leg : Nat} (hlegs : t.legs = s.legs) (hsheaves : t.sheaves = s.sheaves) : s.Logs t leg :=
  ⟨State.legAlone_of_eq hlegs hsheaves, (s.leg leg).log, by unfold State.leg; rw [hlegs]⟩

theorem State.Talks.logs {s t : State} (h : s.Talks t) (leg : Nat) : s.Logs t leg := by
  unfold State.Talks at h
  rw [h]
  exact State.logs_of_eq rfl rfl

theorem State.logs_record_W (s : State) (leg : Fin 48) (src : Nat) (forced : Bool) : s.Logs (s.record (legUnit leg) .W src forced) leg := by
  unfold State.record
  extract_lets r s1
  have hlog : s1 = s.setLeg leg { s.leg leg with log := (r :: (s.leg leg).log).take 8 } := by
    unfold s1 State.legLog
    rw [if_pos (unitKind_legUnit leg), unitIndex_legUnit]
  have h1 : s.Logs s1 leg := by
    rw [hlog]
    exact ⟨s.legAlone_setLeg leg _, _, State.leg_setLeg_same ..⟩
  change s.Logs (if _ then _ else s1) leg
  split
  · exact (h1.trans ((s1.talks_faultEvent ..).logs leg)).trans (State.logs_of_eq rfl rfl)
  · exact h1

theorem State.logs_note_W (s : State) (leg : Fin 48) (src : Nat) (forced : Bool) : s.Logs (s.note (legUnit leg) .W src forced) leg := by
  unfold State.note
  split
  · exact State.logs_of_eq rfl rfl
  · exact (s.logs_record_W leg src forced).trans (State.logs_of_eq rfl rfl)

/-- A class-W detection of a leg reaches the leg's log alone. -/
theorem State.logs_detect_W (s : State) (leg : Fin 48) (src : Nat) (forced : Bool) : s.Logs (s.detect (legUnit leg) .W src forced) leg := by
  have hnote := s.logs_note_W leg src forced
  unfold State.detect
  cases (s.unit (legUnit leg)).state with
  | idle =>
    simp only
    split
    · exact State.logs_of_eq rfl rfl
    · exact hnote.trans (State.logs_of_eq rfl rfl)
  | handling => exact State.logs_of_eq rfl rfl
  | lasting => exact hnote
  | resting => exact hnote

/-- A warning of a leg that its row has changed, through the frame: it shows, the leg is as the row made it but for its log and band, the
others and the sheaves stand, and device time goes on to the row's. -/
theorem State.act_legWarning {s g : State} (hl : s.live = true) {leg : Fin 48} {src : Nat} (hposed : s.Poised g (legUnit leg))
    (hnote : s.Notices (legUnit leg) src) (halone : s.LegAlone g leg) (forced : Bool) :
    let t := s.act fun _ => g.detect (legUnit leg) .W src forced
    t.Shows (legUnit leg) .idle .W src ∧ s.LegAlone t leg ∧ (∀ side, (t.leg leg).driver side = (g.leg leg).driver side)
      ∧ (t.leg leg).shootHold = (g.leg leg).shootHold ∧ (t.leg leg).shootNow = (g.leg leg).shootNow ∧ g.time.now ≤ t.time.now := by
  intro t
  obtain ⟨hdetect, log, hown⟩ := g.logs_detect_W leg src forced
  have hbanded : (g.detect (legUnit leg) .W src forced).leg leg |>.Banded (t.leg leg) := s.act_banded _ hl leg
  obtain ⟨hhold, hnow, -⟩ := hbanded.interlock
  refine ⟨s.act_shows _ hl (hposed.shows hnote forced), (halone.trans hdetect).trans (State.legAlone_act hl _ leg), fun side => ?_, ?_, ?_, ?_⟩
  · rw [hbanded.driver side, hown]
    rfl
  · rw [hhold, hown]
  · rw [hnow, hown]
  · have htime := (g.detects_detect (legUnit leg) .W src forced fun h => absurd h (unitKind_legUnit_ne_sheaf leg)).time
    rw [State.act_time _ _ hl, htime]
    exact Nat.le_max_right ..

/-! ## Profile words (R166 to R168) -/

/-- The leg that has sampled its sense contact and sent its drivers their words. -/
def State.wordSent (s : State) (leg cs delay : Nat) (word : Bool → ProfileWord) (goodHs goodLs : Bool) : Leg :=
  let l := s.leg leg
  let dev : Int := (cs : Int) - s.regN (Item.LEG.CS_ZERO leg)
  { l with
    dev := dev, current := s.currentBand leg dev
    hs := l.hs.send s.time.now (s.time.now + 20 + delay) (word goodHs), ls := l.ls.send s.time.now (s.time.now + 20 + delay) (word goodLs) }

/-- The word that a leg's band and the current band at its sense contact select, outside the forces FB and of a bad word. -/
def State.wordOf (s : State) (leg cs : Nat) (good : Bool) : ProfileWord :=
  let band := (s.leg leg).band
  let current := s.currentBand leg ((cs : Int) - s.regN (Item.LEG.CS_ZERO leg))
  { band := band, current := current, on := s.onPhases leg band current, off := s.offPhases leg band current, good := good
    fallback := decide (s.regN (Item.GATE.PROFILE_EN leg) = 0) }

/-- A word outside the force bits that spoil or replace it (R167, R188). -/
theorem exec_profileWord {s : State} {leg : Fin 48} {cs : Nat} {delay : Fin 16} {goodHs goodLs : Bool}
    (harmed : s.forceArmed (legUnit leg) 12 = false) (hforced : s.forced (legUnit leg) 8 = false) :
    exec (.profileWord leg cs delay goodHs goodLs) s = .next (s.act fun _ =>
      (s.setLeg leg (s.wordSent leg cs delay (s.wordOf leg cs) goodHs goodLs)).useForce (legUnit leg) 12) := by
  refine congrArg Host.Outcome.next (s.act_to _ _ ?_)
  simp only [harmed, hforced, Bool.not_false, Bool.and_true, Bool.false_or]
  rfl

/-- Both drivers are sent their words, and nothing of the present edge moves (R167). -/
theorem exec_profileWord_sends {s : State} (hl : s.live = true) {leg : Fin 48} {cs : Nat} {delay : Fin 16} {goodHs goodLs : Bool}
    (harmed : s.forceArmed (legUnit leg) 12 = false) (hforced : s.forced (legUnit leg) 8 = false) :
    ∃ t, exec (.profileWord leg cs delay goodHs goodLs) s = .next t ∧ s.LegAlone t leg
      ∧ (t.leg leg).hs.words.head? = some (s.time.now + 20 + delay, s.wordOf leg cs goodHs)
      ∧ (t.leg leg).ls.words.head? = some (s.time.now + 20 + delay, s.wordOf leg cs goodLs)
      ∧ (t.leg leg).hs.drive = (s.leg leg).hs.drive ∧ (t.leg leg).hs.command = (s.leg leg).hs.command := by
  refine ⟨_, exec_profileWord harmed hforced, ?_⟩
  generalize hg : (s.setLeg leg (s.wordSent leg cs delay (s.wordOf leg cs) goodHs goodLs)).useForce (legUnit leg) 12 = g
  have hleg : g.leg leg = s.wordSent leg cs delay (s.wordOf leg cs) goodHs goodLs := by
    rw [← hg]
    exact State.leg_setLeg_same ..
  have halone : s.LegAlone g leg := by
    rw [← hg]
    exact (s.legAlone_setLeg leg _).trans (State.legAlone_of_eq rfl rfl)
  have hbanded := s.act_banded (fun _ => g) hl leg
  have hhs : ((s.act fun _ => g).leg leg).hs = _ := (hbanded.driver true).trans (congrArg Leg.hs hleg)
  have hls : ((s.act fun _ => g).leg leg).ls = _ := (hbanded.driver false).trans (congrArg Leg.ls hleg)
  rw [hhs, hls]
  exact ⟨halone.trans (State.legAlone_act hl g leg), rfl, rfl, rfl, rfl⟩

/-! ## The end of soft turn-off (R176) -/

/-- A driver whose soft turn-off has ended. -/
def Driver.softEnded (d : Driver) : Driver := if d.soft then { d with soft := false, on := false, miller := true } else d

theorem Driver.softEnded_soft (d : Driver) : d.softEnded.soft = false := by
  unfold Driver.softEnded
  split
  · rfl
  · next h => simpa using h

/-- Soft turn-off ends on both switches of the leg, and nowhere else. -/
theorem exec_softTurnOffEnd_ends {s : State} (hl : s.live = true) (leg : Fin 48) :
    ∃ t, exec (.softTurnOffEnd leg) s = .next t ∧ (∀ side, (t.leg leg).driver side = ((s.leg leg).driver side).softEnded)
      ∧ s.LegAlone t leg ∧ t.unit = s.unit := by
  let g := s.setLeg leg { s.leg leg with hs := (s.leg leg).hs.softEnded, ls := (s.leg leg).ls.softEnded }
  refine ⟨s.act fun _ => g, rfl, fun side => ?_, (s.legAlone_setLeg leg _).trans (State.legAlone_act hl g leg), funext (s.act_unit _ hl)⟩
  rw [(s.act_banded (fun _ => g) hl leg).driver side, State.leg_setLeg_same]
  cases side <;> rfl

/-! ## Profile-timing faults (R171) -/

/-- The times of the profile-timing faults of a leg within the last second, with one of now. -/
def State.profTimes (s : State) (leg : Nat) : List Nat :=
  s.time.now :: (s.leg leg).profFaults.filter (fun t => decide (s.time.now < t + 1000000000))

/-- A profile-timing fault before its detection: the edge completes at the fall-back current, the fall-back stands, the fault is counted. -/
def State.profFaulted (s : State) (leg : Nat) (high : Bool) : State :=
  let l := s.leg leg
  let d := { l.driver high with
    fallback := true, drive := stepPhases (s.regN (Item.GATE.FB_I leg)) (l.driver high).drive.level }
  (s.setLeg leg { l.setDriver high d with profFaults := s.profTimes leg }).bump (Item.LEG.PROF_FAULT_CNT leg)

theorem State.profFault_eq (s : State) (leg : Nat) (high forced : Bool) : s.profFault leg high forced
    = if s.regN (Item.LEG.PROF_FAULT_MAX leg) ≤ (s.profTimes leg).length then (s.profFaulted leg high).detect (legUnit leg) .F 6 forced
      else (s.profFaulted leg high).detect (legUnit leg) .W 17 forced := rfl

theorem State.worksLegs_profFaulted (s : State) (leg : Nat) (high : Bool) : s.WorksLegs (s.profFaulted leg high) := rfl

theorem State.profFaulted_driver (s : State) (leg : Nat) (high : Bool) : ((s.profFaulted leg high).leg leg).driver high
    = { (s.leg leg).driver high with
        fallback := true, drive := stepPhases (s.regN (Item.GATE.FB_I leg)) ((s.leg leg).driver high).drive.level } := by
  unfold State.profFaulted
  rw [State.leg_bump', State.leg_setLeg_same]
  cases high <;> rfl

/-- When the timing of a switch's edge is judged: PLATEAU_TMAX and 200 ns after its command. -/
def State.profDue (s : State) (leg : Nat) (high : Bool) : Nat :=
  let d := (s.leg leg).driver high
  (if d.command = true then d.onAt else d.offAt) + s.regN (Item.GATE.PLATEAU_TMAX leg) + 200

/-- A switch with an edge that has not come to its level in time has a profile-timing fault. -/
theorem exec_profileTimingFault {s : State} {leg : Fin 48} {n : Nat} (hn : s.legSheaf leg = some n) {high : Bool} {level : Int}
    (hsoft : ((s.leg leg).driver high).soft = false) (huv : ((s.leg leg).driver high).uv = false)
    (hbad : if ((s.leg leg).driver high).command = true then ((s.leg leg).driver high).on = true ∧ level < s.gateOn leg - 1000
      else s.gateOff leg + 1000 ≤ level) :
    exec (.profileTimingFault leg high level) s = .next (s.act fun _ => (s.reach (s.profDue leg high)).profFault leg high false) := by
  refine congrArg Host.Outcome.next (s.act_to _ _ (if_neg ?_))
  cases hcommand : ((s.leg leg).driver high).command with
  | true =>
    obtain ⟨hon, hlow⟩ := (if_pos hcommand).mp hbad
    simp [hn, hsoft, huv, hon, hlow]
  | false =>
    have hhigh := (if_neg (by simp [hcommand])).mp hbad
    simp [hn, hsoft, huv, hhigh]

/-- The first profile-timing fault of a leg within a second, below the limit, warns. -/
theorem exec_profileTimingFault_warns {s : State} (hl : s.live = true) {leg : Fin 48} {n : Nat} (hn : s.legSheaf leg = some n) {high : Bool}
    {level : Int} (hnote : s.Notices (legUnit leg) 17) (hmax : 1 < s.regN (Item.LEG.PROF_FAULT_MAX leg)) (hnone : (s.leg leg).profFaults = [])
    (hsoft : ((s.leg leg).driver high).soft = false) (huv : ((s.leg leg).driver high).uv = false)
    (hbad : if ((s.leg leg).driver high).command = true then ((s.leg leg).driver high).on = true ∧ level < s.gateOn leg - 1000
      else s.gateOff leg + 1000 ≤ level) :
    ∃ t, exec (.profileTimingFault leg high level) s = .next t ∧ t.Shows (legUnit leg) .idle .W 17
      ∧ ((t.leg leg).driver high).fallback = true ∧ s.LegAlone t leg ∧ s.profDue leg high ≤ t.time.now := by
  generalize hdue : s.reach (s.profDue leg high) = u
  have hlength : (u.profTimes leg).length = 1 := by
    rw [← hdue]
    show (_ :: (s.leg leg).profFaults.filter _).length = 1
    rw [hnone]
    rfl
  have hwarns : u.profFault leg high false = (u.profFaulted leg high).detect (legUnit leg) .W 17 false := by
    rw [u.profFault_eq, hlength]
    refine if_neg (Nat.not_le.mpr ?_)
    rw [← hdue]
    exact hmax
  have hreach : s.Measures u := by rw [← hdue]; exact s.measures_reach _
  have hposed : s.Poised (u.profFaulted leg high) (legUnit leg) := (hreach.poised _).trans ((u.worksLegs_profFaulted leg high).poised _)
  have halone : s.LegAlone (u.profFaulted leg high) leg := by
    refine (State.legAlone_of_eq (t := u) ?_ ?_).trans ((u.legAlone_setLeg leg _).trans (State.legAlone_of_eq rfl rfl))
    · rw [← hdue]; rfl
    · rw [← hdue]; rfl
  obtain ⟨hshows, hothers, hdriver, -, -, htime⟩ := State.act_legWarning hl hposed hnote halone false
  refine ⟨_, (exec_profileTimingFault hn hsoft huv hbad).trans (by rw [hdue, hwarns]), hshows, ?_, hothers, le_trans ?_ htime⟩
  · rw [hdriver, u.profFaulted_driver]
  · show s.profDue leg high ≤ u.time.now
    rw [← hdue]
    exact Nat.le_max_right ..

/-! ## Conflicts of the edge lines (R181 to R183) -/

theorem State.worksLegs_setLeg (s : State) (leg : Nat) (l : Leg) : s.WorksLegs (s.setLeg leg l) := rfl

/-- A leg whose interlock holds both switches off (R181). -/
def State.conflictHeld (s : State) (leg : Nat) : State :=
  let l := s.leg leg
  s.setLeg leg { l with shootHold := true, hs := s.turnOff leg l.hs, ls := s.turnOff leg l.ls }

/-- The hold with its conflict marked for the period whose start is sampled on the same clock edge (R182). -/
def State.conflictNext (s : State) (leg : Nat) : State :=
  (s.conflictHeld leg).setLeg leg { (s.conflictHeld leg).leg leg with shootNext := true }

theorem State.conflictHeld_leg (s : State) (leg : Nat) : (s.conflictHeld leg).leg leg
    = { s.leg leg with shootHold := true, hs := s.turnOff leg (s.leg leg).hs, ls := s.turnOff leg (s.leg leg).ls } :=
  State.leg_setLeg_same ..

theorem State.conflictHeld_command (s : State) (leg : Nat) (side : Bool) : (((s.conflictHeld leg).leg leg).driver side).command = false := by
  rw [s.conflictHeld_leg]
  cases side <;> rfl

theorem State.conflictNext_leg (s : State) (leg : Nat) :
    (s.conflictNext leg).leg leg = { (s.conflictHeld leg).leg leg with shootNext := true } :=
  State.leg_setLeg_same ..

/-- A conflict sampled before the coming period start counts in the present period. -/
theorem State.shootConflict_now (s : State) {leg n : Nat} (hn : s.legSheaf leg = some n)
    (hstart : ∀ f, s.nextStart n = some f → s.time.now / 5 < fineTime f / 5) : s.shootConflict leg = (s.conflictHeld leg).countShoot leg := by
  unfold State.shootConflict
  rw [hn]
  refine if_neg ?_
  cases hf : s.nextStart n with
  | none => simp [hf]
  | some f => simp [hf, hstart f hf]

/-- A conflict sampled on the edge of a period start that is due holds in that period (R182). -/
theorem State.shootConflict_next (s : State) {leg n f : Nat} (hn : s.legSheaf leg = some n) (hf : s.nextStart n = some f)
    (hdue : fineTime f / 5 ≤ s.time.now / 5) : s.shootConflict leg = s.conflictNext leg := by
  unfold State.shootConflict
  rw [hn]
  exact if_pos (by simp [hf, hdue])

/-- The conflict counted, before its detection. -/
def State.conflictCounted (s : State) (leg : Nat) : State :=
  let run := Nat.min 3 (s.regN (Item.LEG.SHOOT_RUN leg) + 1)
  (((s.setLeg leg { s.leg leg with shootNow := true }).setRegs
    [(Item.LEG.SHOOT leg, 1), (Item.LEG.SHOOT_RUN leg, nw run)]).bump (Item.LEG.SHOOT_CNT leg)).useForce (legUnit leg) 3

theorem State.conflictCounted_leg (s : State) (leg : Nat) :
    (s.conflictCounted leg).leg leg = { s.leg leg with shootNow := true } := State.leg_setLeg_same ..

theorem State.poised_conflictCounted (s : State) (leg : Nat) : s.Poised (s.conflictCounted leg) (legUnit leg) := by
  unfold State.conflictCounted
  exact (((s.worksLegs_setLeg leg _).poised _).trans (((State.measures_setRegs _ _).trans (State.measures_setReg ..)).poised _)).trans
    (State.poised_useForce _ _ 3)

theorem State.legAlone_conflictCounted (s : State) (leg : Nat) : s.LegAlone (s.conflictCounted leg) leg := by
  unfold State.conflictCounted
  exact (s.legAlone_setLeg leg _).trans (State.legAlone_of_eq (State.setRegs_legs _ _) (State.aside_setRegs _ _).1)

/-- A conflict counts once in a period: class F in the third period in a row, else class W (R183). -/
theorem State.countShoot_eq (s : State) (leg : Nat) : s.countShoot leg = if (s.leg leg).shootNow then s
    else if Nat.min 3 (s.regN (Item.LEG.SHOOT_RUN leg) + 1) = 3 then
      (s.conflictCounted leg).detect (legUnit leg) .F 5 (s.forceArmed (legUnit leg) 3)
    else (s.conflictCounted leg).detect (legUnit leg) .W 16 (s.forceArmed (legUnit leg) 3) := rfl

section
variable {s : State} (hl : s.live = true) {leg : Fin 48} {n : Nat} (hn : s.legSheaf leg = some n)
include hn

theorem exec_shootThrough : exec (.shootThrough leg) s = .next (s.act fun _ => s.shootConflict leg) :=
  congrArg Host.Outcome.next (s.act_to _ _ (if_neg (by simp [hn])))

include hl

/-- A conflict in the present period, the first of its run, holds the leg and warns. -/
theorem exec_shootThrough_now (hstart : ∀ f, s.nextStart n = some f → s.time.now / 5 < fineTime f / 5) (hnote : s.Notices (legUnit leg) 16)
    (hnow : (s.leg leg).shootNow = false) (hrun : s.regN (Item.LEG.SHOOT_RUN leg) = 0) :
    ∃ t, exec (.shootThrough leg) s = .next t ∧ (t.leg leg).shootHold = true ∧ (∀ side, ((t.leg leg).driver side).command = false)
      ∧ s.LegAlone t leg ∧ t.Shows (legUnit leg) .idle .W 16 ∧ (t.leg leg).shootNow = true := by
  generalize hheld : s.conflictHeld leg = u
  have hleg := s.conflictHeld_leg leg
  rw [hheld] at hleg
  have hwork : s.shootConflict leg = (u.conflictCounted leg).detect (legUnit leg) .W 16 (u.forceArmed (legUnit leg) 3) := by
    have hnotnow : ¬ (u.leg leg).shootNow = true := by rw [hleg]; simp [hnow]
    have hfirst : u.regN (Item.LEG.SHOOT_RUN leg) = 0 := by rw [← hheld]; exact hrun
    rw [s.shootConflict_now hn hstart, hheld, u.countShoot_eq, if_neg hnotnow, hfirst]
    exact if_neg (by decide)
  have hposed : s.Poised (u.conflictCounted leg) (legUnit leg) := by
    rw [← hheld]
    exact ((s.worksLegs_setLeg leg _).poised _).trans (State.poised_conflictCounted _ leg)
  have halone : s.LegAlone (u.conflictCounted leg) leg := by
    rw [← hheld]
    exact (s.legAlone_setLeg leg _).trans (State.legAlone_conflictCounted _ leg)
  obtain ⟨hshows, hothers, hdriver, hhold, hcount, -⟩ := State.act_legWarning hl hposed hnote halone (u.forceArmed (legUnit leg) 3)
  rw [u.conflictCounted_leg] at hdriver hhold hcount
  refine ⟨_, (exec_shootThrough hn).trans (by rw [hwork]), hhold.trans ?_, fun side => ?_, hothers, hshows, hcount⟩
  · rw [hleg]
  · rw [hdriver, ← hheld]
    exact s.conflictHeld_command leg side

/-- A conflict on the edge of a period start that is due holds the leg, to count in that period. -/
theorem exec_shootThrough_next {f : Nat} (hf : s.nextStart n = some f) (hdue : fineTime f / 5 ≤ s.time.now / 5) :
    ∃ t, exec (.shootThrough leg) s = .next t ∧ (t.leg leg).shootHold = true ∧ (∀ side, ((t.leg leg).driver side).command = false)
      ∧ s.LegAlone t leg ∧ t.unit = s.unit ∧ (t.leg leg).shootNext = true := by
  have hbanded := s.act_banded (fun _ => s.conflictNext leg) hl leg
  have halone : s.LegAlone (s.conflictNext leg) leg := (s.legAlone_setLeg leg _).trans (State.legAlone_setLeg _ leg _)
  obtain ⟨hhold, -, hnext⟩ := hbanded.interlock
  rw [s.conflictNext_leg] at hhold hnext
  refine ⟨_, (exec_shootThrough hn).trans (by rw [s.shootConflict_next hn hf hdue]), hhold.trans ?_, fun side => ?_,
    halone.trans (State.legAlone_act hl _ leg), funext (s.act_unit _ hl), hnext⟩
  · rw [s.conflictHeld_leg]
  · rw [hbanded.driver side, s.conflictNext_leg]
    exact s.conflictHeld_command leg side

end

/-- Settles O12: each row works on the drivers of its own leg, and the record of a warning reaches that leg's log alone (assumption logs
32 and 107). -/
theorem legRowsActOnTheirDriversAlone : Obligations.LegRowsActOnTheirDriversAlone := by
  intro s leg hl others
  refine ⟨fun cs delay goodHs goodLs harmed hforced => exec_profileWord_sends hl harmed hforced, ?_,
    fun high level n hn hnote hmax hnone hsoft huv hbad => exec_profileTimingFault_warns hl hn hnote hmax hnone hsoft huv hbad,
    fun n hn => ⟨fun hstart hnote hnow hrun => ?_, fun f hf hdue => ?_⟩⟩
  · obtain ⟨t, h, hdriver, halone, hunit⟩ := exec_softTurnOffEnd_ends hl leg
    have hhs : (t.leg leg).hs = (s.leg leg).hs.softEnded := hdriver true
    have hls : (t.leg leg).ls = (s.leg leg).ls.softEnded := hdriver false
    refine ⟨t, h, ?_, ?_, fun hsoft => ?_, fun hsoft => ?_, halone, hunit⟩
    · rw [hhs, Driver.softEnded_soft]
    · rw [hls, Driver.softEnded_soft]
    · rw [hhs, Driver.softEnded, if_pos hsoft]
      exact ⟨rfl, rfl⟩
    · rw [hhs, Driver.softEnded, if_neg (by simp [hsoft])]
  · obtain ⟨t, h, hhold, hcommand, halone, hshows, hcount⟩ := exec_shootThrough_now hl hn hstart hnote hnow hrun
    exact ⟨t, h, ⟨hhold, hcommand true, hcommand false, halone⟩, hshows, hcount⟩
  · obtain ⟨t, h, hhold, hcommand, halone, hunit, hnext⟩ := exec_shootThrough_next hl hn hf hdue
    exact ⟨t, h, ⟨hhold, hcommand true, hcommand false, halone⟩, hunit, hnext⟩

end Sys2Proof.Machine

namespace Sys2Proof.Machine

/-! ## No stop of a leg ends a hold of the interlock (R181, R182)

A hold ends at a period start alone: what takes legs, sets and sheaves out of service leaves it. -/

/-- Every leg's interlock holds as it did. -/
structure State.KeepsHolds (s t : State) : Prop where
  leg : ∀ n, (t.leg n).shootHold = (s.leg n).shootHold

theorem State.KeepsHolds.refl (s : State) : s.KeepsHolds s := ⟨fun _ => rfl⟩

theorem State.KeepsHolds.trans {s t u : State} (h : s.KeepsHolds t) (k : t.KeepsHolds u) : s.KeepsHolds u :=
  ⟨fun n => (k.leg n).trans (h.leg n)⟩

theorem State.keepsHolds_of_legs {s t : State} (h : t.legs = s.legs) : s.KeepsHolds t := ⟨fun n => by unfold State.leg; rw [h]⟩

theorem State.Completes.keepsHolds {s t : State} (h : s.Completes t) : s.KeepsHolds t := by
  unfold State.Completes at h
  rw [h]
  exact State.keepsHolds_of_legs rfl

theorem State.keepsHolds_forEach {α : Type} (f : State → α → State) (hf : ∀ s a, State.KeepsHolds s (f s a)) (l : List α) (s : State) :
    s.KeepsHolds (s.forEach l f) := State.forEach_rel State.KeepsHolds.refl (fun _ _ _ => State.KeepsHolds.trans) f hf l s

theorem State.keepsHolds_setLeg (s : State) (n : Nat) (l : Leg) (h : l.shootHold = (s.leg n).shootHold) : s.KeepsHolds (s.setLeg n l) :=
  ⟨fun m => by
    by_cases e : m = n
    · subst e; rw [State.leg_setLeg_same]; exact h
    · rw [State.leg_setLeg_other _ _ _ _ e]⟩

theorem State.keepsHolds_setUnit (s : State) (u : Nat) (r : UnitRec) : s.KeepsHolds (s.setUnit u r) := State.keepsHolds_of_legs rfl

theorem State.keepsHolds_legOff (s : State) (n : Nat) : s.KeepsHolds (s.legOff n) := s.keepsHolds_setLeg n _ rfl

theorem State.keepsHolds_clearCarry (s : State) (n : Nat) : s.KeepsHolds (s.clearCarry n) := by
  unfold State.clearCarry
  split <;> exact State.keepsHolds_of_legs rfl

theorem State.keepsHolds_winnowLeg (s : State) (n : Nat) (c : WinnowCause) : s.KeepsHolds (s.winnowLeg n c) := by
  refine ((s.keepsHolds_legOff n).trans ?_).trans (State.keepsHolds_clearCarry ..)
  exact State.keepsHolds_setLeg _ _ _ rfl

theorem State.keepsHolds_supplies (s : State) (l : List Nat) (on : Bool) : s.KeepsHolds (s.supplies l on) := by
  refine State.keepsHolds_forEach _ (fun t n => ?_) _ s
  exact t.keepsHolds_setLeg n _ rfl

theorem State.keepsHolds_leaveRun (s : State) (n : Nat) : s.KeepsHolds (s.leaveRun n) := by
  unfold State.leaveRun
  extract_lets s1 s2 c b
  have h1 : s.KeepsHolds s1 := State.keepsHolds_forEach _ (fun t g => State.keepsHolds_of_legs (t.setRegs_legs _)) _ s
  have h2 : s1.KeepsHolds s2 := State.keepsHolds_forEach _ (fun t l => by exact t.keepsHolds_setLeg l _ rfl) _ s1
  have hb : b.legs = s2.legs := by unfold b; split <;> rfl
  clear_value b s2
  refine (h1.trans h2).trans (State.keepsHolds_of_legs ?_)
  split
  · rfl
  · split <;> rfl
  · exact hb
  · rfl

theorem State.keepsHolds_quietSheaf (s : State) (n : Nat) (st : SheafState) : s.KeepsHolds (s.quietSheaf n st) := by
  have hdrop : ∀ t : State, t.KeepsHolds (t.dropMove n) := fun t => State.keepsHolds_of_legs (by unfold State.dropMove; split <;> rfl)
  have hstop : ∀ t : State, t.KeepsHolds (t.stopFollowers n) := fun t =>
    State.keepsHolds_forEach _ (fun v m => by exact State.keepsHolds_of_legs rfl) _ t
  have hoff := (State.keepsHolds_forEach _ State.keepsHolds_legOff (s.bind.legsOf n) s).trans
    (State.keepsHolds_forEach _ State.keepsHolds_clearCarry (s.bind.legsOf n) _)
  unfold State.quietSheaf
  refine State.KeepsHolds.trans (State.KeepsHolds.trans ?_ (hdrop _)) (State.keepsHolds_of_legs rfl)
  split
  · exact (hoff.trans (State.keepsHolds_leaveRun ..)).trans (hstop _)
  · exact hoff

theorem State.keepsHolds_abortProofs (s : State) (n : Nat) : s.KeepsHolds (s.abortProofs n) := by
  unfold State.abortProofs
  extract_lets ps s0 s1
  have h0 : s.KeepsHolds s0 := State.keepsHolds_of_legs rfl
  have h1 : s.KeepsHolds s1 := by
    unfold s1
    split
    · exact h0.trans (State.keepsHolds_supplies ..)
    · exact h0
  split
  · exact .refl s
  · refine State.KeepsHolds.trans (t := s1.setReg (Item.SHEAF.PROOF_RESULT n) _) ?_ (State.completes_endSequences ..).keepsHolds
    exact h1.trans (State.keepsHolds_of_legs rfl)

theorem State.keepsHolds_driveHeld (s : State) (n leg : Nat) : s.KeepsHolds (s.driveHeld n leg) := by
  unfold State.driveHeld
  extract_lets l held asc l1 soft
  split
  · exact s.keepsHolds_setLeg leg _ rfl
  · split <;> exact s.keepsHolds_setLeg leg _ rfl

theorem State.keepsHolds_applySelection (s : State) : s.KeepsHolds s.applySelection := by
  unfold State.applySelection
  split
  · exact .refl s
  · exact State.keepsHolds_forEach _ (fun t leg => t.keepsHolds_driveHeld _ leg) _ s

theorem State.keepsHolds_record (s : State) (u : Nat) (cls : FaultClass) (src : Nat) (forced : Bool) :
    s.KeepsHolds (s.record u cls src forced) := by
  unfold State.record
  extract_lets r s1
  have h1 : s.KeepsHolds s1 := by
    unfold s1 State.legLog
    split
    · exact s.keepsHolds_setLeg _ _ rfl
    · exact .refl s
  split
  · exact .refl s
  · split
    · exact h1.trans (State.keepsHolds_of_legs (State.faultEvent_legs ..))
    · exact h1
  · exact h1.trans (State.keepsHolds_of_legs (State.faultEvent_legs ..))

theorem State.keepsHolds_note (s : State) (u : Nat) (cls : FaultClass) (src : Nat) (forced : Bool) :
    s.KeepsHolds (s.note u cls src forced) := by
  unfold State.note
  split
  · exact .refl s
  · exact (s.keepsHolds_record ..).trans (State.keepsHolds_of_legs rfl)

theorem State.keepsHolds_blame (s : State) (n u : Nat) : s.KeepsHolds (s.blame n u) := by
  unfold State.blame
  extract_lets h s1 s2
  have h2 : s.KeepsHolds s2 := State.KeepsHolds.trans (t := s1) (State.keepsHolds_of_legs rfl) (State.keepsHolds_record ..)
  split
  · exact h2.trans (State.keepsHolds_of_legs rfl)
  · exact h2

theorem State.keepsHolds_winnowSheaf (s : State) (n : Nat) (cause : Option Nat) : s.KeepsHolds (s.winnowSheaf n cause) := by
  unfold State.winnowSheaf
  extract_lets h s1 s2 s3 s4
  have h1 : s.KeepsHolds s1 := (s.keepsHolds_abortProofs n).trans (State.keepsHolds_quietSheaf ..)
  have h2 : s1.KeepsHolds s2 := State.keepsHolds_forEach _ (fun t l => t.keepsHolds_winnowLeg l _) _ s1
  have h4 : s2.KeepsHolds s4 := ((State.completes_endSequences ..).trans (State.completes_endSequences ..)).keepsHolds
  split
  · refine ((h1.trans h2).trans h4).trans (State.KeepsHolds.trans ?_ (State.keepsHolds_applySelection _))
    split
    · exact .refl s4
    · exact s4.keepsHolds_blame n _
  · split
    · exact .refl s
    · split <;> exact State.keepsHolds_of_legs rfl

theorem State.keepsHolds_winnowSet (s : State) (k : Nat) (own : Option Nat) (c : WinnowCause) (cause : Nat) :
    s.KeepsHolds (s.winnowSet k own c cause) := by
  unfold State.winnowSet
  split
  · exact .refl s
  · extract_lets fresh s1 s2
    have h1 : s.KeepsHolds s1 := State.keepsHolds_forEach _ (fun t l => t.keepsHolds_winnowLeg l _) _ s
    have h2 : s.KeepsHolds s2 := by
      unfold s2
      split
      · exact h1.trans (State.keepsHolds_of_legs rfl)
      · exact h1
    split
    · exact h2.trans (State.keepsHolds_winnowSheaf ..)
    · exact h2.trans (State.keepsHolds_applySelection _)

theorem State.keepsHolds_fenceLeg (s : State) (leg : Nat) (c : WinnowCause) : s.KeepsHolds (s.fenceLeg leg c) := by
  unfold State.fenceLeg
  split
  · exact .refl s
  · extract_lets u s1
    have h1 : s.KeepsHolds s1 := s.keepsHolds_winnowLeg leg c
    split
    · exact s.keepsHolds_winnowSet ..
    · split
      · split
        · exact h1.trans (State.keepsHolds_winnowSheaf ..)
        · exact h1
      · exact h1.trans (State.keepsHolds_winnowSheaf ..)

/-- A class-F detection of a leg leaves every hold. -/
theorem State.keepsHolds_detectLeg (s : State) (leg : Fin 48) (src : Nat) (forced : Bool) :
    s.KeepsHolds (s.detect (legUnit leg) .F src forced) := by
  have hnote := s.keepsHolds_note (legUnit leg) .F src forced
  obtain h | h | ⟨r, h⟩ := s.detect_cases (legUnit leg) src forced (.inl rfl : FaultClass.F = .F ∨ _)
  · rw [h]; exact .refl s
  · rw [h]; exact hnote
  · rw [h, State.fence_legUnit]
    exact (hnote.trans (State.keepsHolds_setUnit _ _ r)).trans (State.keepsHolds_fenceLeg ..)

/-! ## A conflict holds the leg, whatever its count comes to (R181 to R183) -/

theorem State.Logs.keepsHolds {s t : State} {leg : Nat} (h : s.Logs t leg) : s.KeepsHolds t := ⟨fun n => by
  by_cases e : n = leg
  · subst e
    obtain ⟨log, hlog⟩ := h.own
    rw [hlog]
  · exact (h.alone.1 n e).interlock.1⟩

/-- The count of a conflict leaves the hold, and gives no on command back. -/
theorem State.countShoot_keeps (s : State) (leg : Fin 48) : s.KeepsHolds (s.countShoot leg) ∧ s.Quiets (s.countShoot leg) := by
  have hlegs : ∀ m, ((s.conflictCounted leg).leg m).shootHold = (s.leg m).shootHold ∧ (s.leg m).Quieter ((s.conflictCounted leg).leg m) := by
    intro m
    by_cases e : m = leg
    · subst e
      rw [s.conflictCounted_leg]
      exact ⟨rfl, .refl _, .refl _, id⟩
    · have hbanded := (s.legAlone_conflictCounted leg).1 m e
      exact ⟨hbanded.interlock.1, hbanded.quieter⟩
  have hcounted : s.KeepsHolds (s.conflictCounted leg) ∧ s.Quiets (s.conflictCounted leg) :=
    ⟨⟨fun m => (hlegs m).1⟩, ⟨fun m => (hlegs m).2⟩⟩
  rw [s.countShoot_eq]
  split
  · exact ⟨.refl s, .refl s⟩
  · split
    · exact ⟨hcounted.1.trans (State.keepsHolds_detectLeg ..), hcounted.2.trans (State.quiets_detect ..)⟩
    · exact ⟨hcounted.1.trans (State.logs_detect_W ..).keepsHolds, hcounted.2.trans (State.quiets_detect ..)⟩

/-- After a conflict the interlock holds the leg, and neither switch is commanded on. -/
theorem State.shootConflict_holds (s : State) {leg : Fin 48} {n : Nat} (hn : s.legSheaf leg = some n) :
    ((s.shootConflict leg).leg leg).shootHold = true ∧ ∀ side, (((s.shootConflict leg).leg leg).driver side).command = false := by
  by_cases hdue : ∃ f, s.nextStart n = some f ∧ fineTime f / 5 ≤ s.time.now / 5
  · obtain ⟨f, hf, hle⟩ := hdue
    rw [s.shootConflict_next hn hf hle, s.conflictNext_leg]
    refine ⟨?_, s.conflictHeld_command leg⟩
    rw [s.conflictHeld_leg]
  · rw [s.shootConflict_now hn (fun f hf => Nat.lt_of_not_le fun hle => hdue ⟨f, hf, hle⟩)]
    obtain ⟨hholds, hquiets⟩ := (s.conflictHeld leg).countShoot_keeps leg
    refine ⟨(hholds.leg leg).trans ?_, fun side => ((hquiets.leg leg).driver side).1 (s.conflictHeld_command leg side)⟩
    rw [s.conflictHeld_leg]

/-! ## What the records of an edge leave (Tables 6-9 and 6-10) -/

/-- Only items, and the times of a leg's last edges, have changed. -/
structure State.NotesEdge (s t : State) : Prop where
  works : s.WorksLegs t
  leg : ∀ m, ∃ e, t.leg m = { s.leg m with edges := e }

theorem State.notesEdge_of_legs {s t : State} (hworks : s.WorksLegs t) (hlegs : t.legs = s.legs) : s.NotesEdge t :=
  ⟨hworks, fun m => ⟨(s.leg m).edges, by unfold State.leg; rw [hlegs]⟩⟩

theorem State.NotesEdge.refl (s : State) : s.NotesEdge s := State.notesEdge_of_legs rfl rfl

theorem State.NotesEdge.trans {s t u : State} (h : s.NotesEdge t) (k : t.NotesEdge u) : s.NotesEdge u :=
  ⟨h.works.trans k.works, fun m => by
    obtain ⟨a, ha⟩ := h.leg m
    obtain ⟨b, hb⟩ := k.leg m
    exact ⟨b, by rw [hb, ha]⟩⟩

theorem State.NotesEdge.driver {s t : State} (h : s.NotesEdge t) (m : Nat) (side : Bool) :
    (t.leg m).driver side = (s.leg m).driver side := by
  obtain ⟨e, he⟩ := h.leg m
  rw [he]
  rfl

theorem State.NotesEdge.quiets {s t : State} (h : s.NotesEdge t) : s.Quiets t := ⟨fun m => by
  obtain ⟨e, he⟩ := h.leg m
  rw [he]
  exact ⟨.refl _, .refl _, id⟩⟩

theorem State.NotesEdge.time {s t : State} (h : s.NotesEdge t) : t.time = s.time := by rw [h.works]

theorem State.notesEdge_setReg (s : State) (a : Nat) (w : Word) : s.NotesEdge (s.setReg a w) := State.notesEdge_of_legs rfl rfl

theorem State.notesEdge_setRegs (s : State) (l : List (Nat × Word)) : s.NotesEdge (s.setRegs l) := by
  induction l generalizing s with
  | nil => exact .refl s
  | cons p l ih => exact (s.notesEdge_setReg p.1 p.2).trans (ih _)

theorem State.notesEdge_edgeRecords (s : State) (leg : Nat) (high on fallback : Bool) (w : ProfileWord) (plateau phases : Nat)
    (level : Int) : s.NotesEdge (s.edgeRecords leg high on fallback w plateau phases level) := by
  unfold State.edgeRecords
  extract_lets sh cur cb s1 s2 l k times
  have h2 : s.NotesEdge s2 := by
    unfold s2
    split
    · exact (s.notesEdge_setReg ..).trans (State.notesEdge_setRegs ..)
    · exact (s.notesEdge_setReg ..).trans (State.notesEdge_setReg ..)
  have hstat : s2.NotesEdge (s2.setLeg leg { l with edges := KMap.put (fun _ => []) l.edges k times }) :=
    ⟨rfl, fun m => by
      by_cases e : m = leg
      · subst e
        exact ⟨_, State.leg_setLeg_same ..⟩
      · exact ⟨_, State.leg_setLeg_other _ _ _ _ e⟩⟩
  split
  · exact h2
  · exact (h2.trans hstat).trans (State.notesEdge_setReg ..)

/-- Two items of one block with different groups or numbers. -/
theorem Item.addr_ne {g h n i j : Nat} (hne : g * 0x10000 + i ≠ h * 0x10000 + j) : Item.addr g n i ≠ Item.addr h n j := by
  intro heq
  unfold Item.addr at heq
  rw [Nat.add_right_comm, Nat.add_right_comm (h * 0x10000)] at heq
  exact hne (Nat.add_right_cancel heq)

/-- The records of a turn-on leave the longest plateau of the leg. -/
theorem State.edgeRecords_plateauMax (s : State) (leg : Nat) (high fallback : Bool) (w : ProfileWord) (plateau phases : Nat) (level : Int) :
    (s.edgeRecords leg high true fallback w plateau phases level).reg (Item.GATE.PLATEAU_TMAX leg) = s.reg (Item.GATE.PLATEAU_TMAX leg) := by
  unfold State.edgeRecords
  extract_lets sh cur cb s1 s2 l k times
  have h1 : s1.reg (Item.GATE.PLATEAU_TMAX leg) = s.reg (Item.GATE.PLATEAU_TMAX leg) := by
    refine s.reg_setReg_other _ _ _ (Item.addr_ne ?_)
    decide
  have h2 : s2.reg (Item.GATE.PLATEAU_TMAX leg) = s1.reg (Item.GATE.PLATEAU_TMAX leg) := by
    have hother : ∀ p ∈ [(if high then Item.GATE.EDGE_T_HS leg else Item.GATE.EDGE_T_LS leg, nw (Nat.min phases 4000)),
        (if high then Item.GATE.VOFF_HS_MEAS leg else Item.GATE.VOFF_LS_MEAS leg, iw level)], Item.GATE.PLATEAU_TMAX leg ≠ p.1 := by
      intro p hp
      obtain rfl | rfl := List.mem_pair.mp hp
      · cases high <;> exact Item.addr_ne (by decide)
      · cases high <;> exact Item.addr_ne (by decide)
    exact s1.reg_setRegs_other _ hother
  cases fallback with
  | true => exact h2.trans h1
  | false => exact (State.reg_setReg_other _ _ _ _ (Item.addr_ne (by omega))).trans (h2.trans h1)

/-! ## An edge that reaches its switch (R161, R166 to R172) -/

/-- The driver of a switch that has its edge: the off command; or the on command, with the gate on where the leg may switch (Table 1-3). -/
def State.edgeDriver (s : State) (leg f : Nat) (high on : Bool) : Driver :=
  let d := (s.leg leg).driver high
  let pass := (s.leg leg).passes (s.sup.releases.getLsbD leg && !s.cutBlocks leg) high
  if on then
    { d with
      command := true, on := pass || d.on, miller := d.miller && !pass, onAt := if pass && !d.on then s.time.now else d.onAt
      drive := if pass then s.driveOf leg d true else d.drive, edge := f }
  else { s.turnOff leg d with edge := f }

/-- The state with that driver. -/
def State.edgeTaken (s : State) (leg f : Nat) (high on : Bool) : State :=
  s.setLeg leg ((s.leg leg).setDriver high (s.edgeDriver leg f high on))

/-- The edge with its records, before what may be wrong with it. -/
def State.edgeNoted (s : State) (leg f : Nat) (high on : Bool) (plateau phases : Nat) (level : Int) : State :=
  let d := (s.leg leg).driver high
  let w := d.held s.time.now
  let s1 := s.edgeTaken leg f high on
  let s2 := if on then s1.bump (Item.LEG.EDGE_CNT leg) else s1
  let s3 := s2.edgeRecords leg high on (s.onFallback leg d) w plateau phases level
  if w.good then s3 else s3.bump (Item.GATE.WORD_ERR leg)

/-- An edge: nothing but the command where the gate does not move; else its records, and a profile-timing fault where one is forced, where
the word was bad, or where the plateau lasted too long (R168, R171, R188). -/
theorem State.switchEdge_eq (s : State) (leg f : Nat) (high on : Bool) (plateau phases : Nat) (level : Int) :
    s.switchEdge leg f high on plateau phases level =
      let d := (s.leg leg).driver high
      let pass := (s.leg leg).passes (s.sup.releases.getLsbD leg && !s.cutBlocks leg) high
      let u := s.edgeNoted leg f high on plateau phases level
      if (on && !pass) || (!on && !d.on) then s.edgeTaken leg f high on
      else if u.forceArmed (legUnit leg) (if high then 4 else 5) then
        (u.useForce (legUnit leg) (if high then 4 else 5)).profFault leg high true
      else if decide (s.regN (Item.GATE.PROFILE_EN leg) = 1) ∧ !(d.held s.time.now).good then
        u.profFault leg high (u.forced (legUnit leg) 12)
      else if !s.onFallback leg d ∧ u.regN (Item.GATE.PLATEAU_TMAX leg) < plateau then u.profFault leg high false
      else u := rfl

theorem State.edgeTaken_driver (s : State) (leg f : Nat) (high on : Bool) :
    ((s.edgeTaken leg f high on).leg leg).driver high = s.edgeDriver leg f high on := by
  unfold State.edgeTaken
  rw [State.leg_setLeg_same]
  cases high <;> rfl

theorem State.edgeTaken_other (s : State) (leg f : Nat) (high on : Bool) :
    ((s.edgeTaken leg f high on).leg leg).driver (!high) = (s.leg leg).driver (!high) := by
  unfold State.edgeTaken
  rw [State.leg_setLeg_same]
  cases high <;> rfl

theorem State.notesEdge_edgeNoted (s : State) (leg f : Nat) (high on : Bool) (plateau phases : Nat) (level : Int) :
    (s.edgeTaken leg f high on).NotesEdge (s.edgeNoted leg f high on plateau phases level) := by
  unfold State.edgeNoted
  extract_lets d w s1 s2 s3
  have h2 : s1.NotesEdge s2 := by
    unfold s2
    split
    · exact s1.notesEdge_setReg ..
    · exact .refl s1
  have h3 : s1.NotesEdge s3 := h2.trans (State.notesEdge_edgeRecords ..)
  split
  · exact h3
  · exact h3.trans (State.notesEdge_setReg ..)

/-- A profile-timing fault gives no on command back, and takes no time. -/
theorem State.profFault_keeps (s : State) (leg : Fin 48) (high forced : Bool) :
    s.Quiets (s.profFault leg high forced) ∧ (s.profFault leg high forced).time = s.time := by
  have hfaulted : s.Quiets (s.profFaulted leg high) := by
    refine State.Quiets.trans (s.quiets_setLeg leg _ ?_) (State.quiets_of_legs rfl)
    cases high with
    | true => exact ⟨⟨id, id, fun a b => ⟨a, b⟩⟩, .refl _, id⟩
    | false => exact ⟨.refl _, ⟨id, id, fun a b => ⟨a, b⟩⟩, id⟩
  have htime : ∀ cls src, ((s.profFaulted leg high).detect (legUnit leg) cls src forced).time = s.time := fun cls src =>
    (State.detects_detect _ _ cls src forced fun h => absurd h (unitKind_legUnit_ne_sheaf leg)).time
  rw [s.profFault_eq]
  split
  · exact ⟨hfaulted.trans (State.quiets_detect ..), htime ..⟩
  · exact ⟨hfaulted.trans (State.quiets_detect ..), htime ..⟩

/-- Whatever goes wrong with an edge, no on command comes back with it, and it takes no time. -/
theorem State.switchEdge_keeps (s : State) (leg : Fin 48) (f : Nat) (high on : Bool) (plateau phases : Nat) (level : Int) :
    (s.edgeTaken leg f high on).Quiets (s.switchEdge leg f high on plateau phases level)
      ∧ (s.switchEdge leg f high on plateau phases level).time = s.time := by
  have hnoted := s.notesEdge_edgeNoted leg f high on plateau phases level
  rw [s.switchEdge_eq]
  extract_lets d pass u
  generalize (if high = true then 4 else 5) = bit
  have hfault : ∀ v : State, v.legs = u.legs → v.time = u.time → ∀ forced,
      (s.edgeTaken leg f high on).Quiets (v.profFault leg high forced) ∧ (v.profFault leg high forced).time = s.time := fun v hlegs htime forced =>
    ⟨(hnoted.quiets.trans (State.quiets_of_legs hlegs)).trans (v.profFault_keeps leg high forced).1,
      (v.profFault_keeps leg high forced).2.trans (htime.trans hnoted.time)⟩
  split
  · exact ⟨.refl _, rfl⟩
  · split
    · exact hfault (u.useForce (legUnit leg) bit) rfl rfl _
    · split
      · exact hfault u rfl rfl _
      · split
        · exact hfault u rfl rfl _
        · exact ⟨hnoted.quiets, hnoted.time⟩

/-- A turn-on without a force, with a good word and within the longest plateau makes its records and nothing else. -/
theorem State.switchEdge_on {s : State} {leg : Nat} {high : Bool} {plateau : Nat}
    (harmed : s.forceArmed (legUnit leg) (if high then 4 else 5) = false) (hgood : (((s.leg leg).driver high).held s.time.now).good = true)
    (hplateau : plateau ≤ s.regN (Item.GATE.PLATEAU_TMAX leg)) (f phases : Nat) (level : Int) :
    (s.edgeTaken leg f high true).NotesEdge (s.switchEdge leg f high true plateau phases level) := by
  have hnoted := s.notesEdge_edgeNoted leg f high true plateau phases level
  have hmax : (s.edgeNoted leg f high true plateau phases level).regN (Item.GATE.PLATEAU_TMAX leg) = s.regN (Item.GATE.PLATEAU_TMAX leg) := by
    unfold State.edgeNoted State.regN
    simp only [hgood, if_true]
    rw [State.edgeRecords_plateauMax]
    exact congrArg BitVec.toNat (State.reg_setReg_other _ _ _ _ (Item.addr_ne (by decide)))
  have hforce : (s.edgeNoted leg f high true plateau phases level).forceArmed (legUnit leg) (if high then 4 else 5) = false := by
    unfold State.forceArmed
    rw [hnoted.works.unit]
    exact harmed
  rw [s.switchEdge_eq]
  extract_lets d pass u
  split
  · exact .refl _
  · rw [if_neg (by simp [u, hforce]), if_neg (by simp [d, hgood]), if_neg (by rw [hmax]; omega)]
    exact hnoted

end Sys2Proof.Machine

namespace Sys2Proof.Machine

/-! ## Edges (R161, R181, R206, R207) -/

theorem Leg.setDriver_driver (l : Leg) (high : Bool) : l.setDriver high (l.driver high) = l := by
  cases high <;> rfl

/-- When an on command has waited in the interlock (R161). -/
def State.interlocked (s : State) (leg f : Nat) (high : Bool) : Nat :=
  max (fineTime f) (((s.leg leg).driver (!high)).offAt + s.regN (Item.LEG.IL_TIME leg))

/-- The leg at the instant at which the interlock passes its on command. -/
def State.edgePassed (s : State) (leg f : Nat) (high : Bool) : State :=
  ((s.reachFine f).setLeg leg (s.leg leg)).reach (s.interlocked leg f high)

theorem State.edgePassed_leg (s : State) (leg f : Nat) (high : Bool) : (s.edgePassed leg f high).leg leg = s.leg leg :=
  State.leg_setLeg_same ..

theorem State.edgePassed_now (s : State) (leg f : Nat) (high : Bool) :
    (s.edgePassed leg f high).time.now = max s.time.now (s.interlocked leg f high) := by
  show max (max s.time.now (fineTime f)) (s.interlocked leg f high) = _
  have hle : fineTime f ≤ s.interlocked leg f high := Nat.le_max_left ..
  rw [max_assoc, max_eq_right hle]

section
variable {s : State} {leg : Fin 48} {high : Bool} {plateau phases : Nat} {level : Int} {n f : Nat} (hn : s.legSheaf leg = some n)
  (hcarries : s.carries n = true) (hswitches : s.legSwitches n leg = true) (hlate : ((s.leg leg).driver high).edge < f)
include hn hcarries hswitches hlate

/-- An off edge reaches its switch at its instant. -/
theorem exec_legEdge_off (hf : s.edgeAt leg high false = some f) (hcommand : ((s.leg leg).driver high).command = true) :
    exec (.legEdge leg high false plateau phases level) s
      = .next (s.act fun _ => (s.reachFine f).switchEdge leg f high false plateau phases level) := by
  refine congrArg Host.Outcome.next (s.act_to _ _ ?_)
  simp only [hn, hf]
  rw [if_neg (by simp [hcarries, hswitches, hcommand]), if_neg (Nat.not_le.mpr hlate)]
  rfl

variable (hf : s.edgeAt leg high true = some f) (hcommand : ((s.leg leg).driver high).command = false)
include hf hcommand

/-- An on edge while the other edge line commands on, its own off edge still to come, is a conflict (R181). -/
theorem exec_legEdge_conflict (hother : ((s.leg leg).driver (!high)).command = true)
    (hlast : ∀ g, s.edgeAt leg (!high) false = some g → f < g) :
    exec (.legEdge leg high true plateau phases level) s
      = .next (s.act fun _ => ((s.reachFine f).passEdge leg f high).shootConflict leg) := by
  refine congrArg Host.Outcome.next (s.act_to _ _ ?_)
  simp only [hn, hf]
  rw [if_neg (by simp [hcarries, hswitches, hcommand]), if_neg (Nat.not_le.mpr hlate), if_neg (by simp)]
  refine if_pos ?_
  cases hoff : s.edgeAt leg (!high) false with
  | none => simp [hother]
  | some g => simp [hother, hlast g hoff]

/-- An on edge with the other switch's command off reaches its switch once the interlock time is over, its own off edge later. -/
theorem exec_legEdge_on (hother : ((s.leg leg).driver (!high)).command = false)
    (hlast : ∀ g, s.edgeAt leg high false = some g → s.interlocked leg f high * 64 < g * 5) :
    exec (.legEdge leg high true plateau phases level) s
      = .next (s.act fun _ => (s.edgePassed leg f high).switchEdge leg f high true plateau phases level) := by
  refine congrArg Host.Outcome.next (s.act_to _ _ ?_)
  simp only [hn, hf]
  rw [if_neg (by simp [hcarries, hswitches, hcommand]), if_neg (Nat.not_le.mpr hlate), if_neg (by simp), if_neg (by simp [hother])]
  simp only [hother, Bool.false_eq_true, if_false, Leg.setDriver_driver]
  refine if_neg ?_
  cases hoff : s.edgeAt leg high false with
  | none => simp
  | some g =>
    simp only [decide_eq_true_eq]
    exact Nat.not_le.mpr (hlast g hoff)

end

/-- The off command goes, at the edge's instant or later. -/
theorem exec_legEdge_off_takes {s : State} (hl : s.live = true) {leg : Fin 48} {high : Bool} {plateau phases : Nat} {level : Int} {n f : Nat}
    (hn : s.legSheaf leg = some n) (hcarries : s.carries n = true) (hswitches : s.legSwitches n leg = true)
    (hlate : ((s.leg leg).driver high).edge < f) (hf : s.edgeAt leg high false = some f)
    (hcommand : ((s.leg leg).driver high).command = true) :
    ∃ t, exec (.legEdge leg high false plateau phases level) s = .next t ∧ ((t.leg leg).driver high).command = false
      ∧ fineTime f ≤ t.time.now := by
  obtain ⟨hquiets, htime⟩ := (s.reachFine f).switchEdge_keeps leg f high false plateau phases level
  refine ⟨_, exec_legEdge_off hn hcarries hswitches hlate hf hcommand, ?_, ?_⟩
  · rw [(s.act_banded _ hl leg).driver high]
    refine ((hquiets.leg leg).driver high).1 ?_
    rw [State.edgeTaken_driver]
    rfl
  · rw [State.act_time _ _ hl, htime]
    exact (Nat.le_max_right ..).trans (Nat.le_max_right ..)

/-- The on command is given at the end of the interlock time, the other switch's stays off, and the gate goes on where the leg may switch. -/
theorem exec_legEdge_on_gives {s : State} (hl : s.live = true) {leg : Fin 48} {high : Bool} {plateau phases : Nat} {level : Int} {n f : Nat}
    (hn : s.legSheaf leg = some n) (hcarries : s.carries n = true) (hswitches : s.legSwitches n leg = true)
    (hlate : ((s.leg leg).driver high).edge < f) (hf : s.edgeAt leg high true = some f)
    (hcommand : ((s.leg leg).driver high).command = false) (hother : ((s.leg leg).driver (!high)).command = false)
    (hlast : ∀ g, s.edgeAt leg high false = some g → s.interlocked leg f high * 64 < g * 5)
    (harmed : s.forceArmed (legUnit leg) (if high then 4 else 5) = false)
    (hgood : (((s.leg leg).driver high).held (max s.time.now (s.interlocked leg f high))).good = true)
    (hplateau : plateau ≤ s.regN (Item.GATE.PLATEAU_TMAX leg)) :
    ∃ t, exec (.legEdge leg high true plateau phases level) s = .next t ∧ ((t.leg leg).driver high).command = true
      ∧ ((t.leg leg).driver (!high)).command = false ∧ t.time.now = max s.time.now (s.interlocked leg f high) ∧ t.unit = s.unit
      ∧ t.sheaf = s.sheaf
      ∧ ((s.leg leg).passes (s.sup.releases.getLsbD leg && !s.cutBlocks leg) high = true → ((t.leg leg).driver high).on = true) := by
  have hexec := exec_legEdge_on (plateau := plateau) (phases := phases) (level := level) hn hcarries hswitches hlate hf hcommand hother hlast
  have hleg := s.edgePassed_leg leg f high
  have hnow := s.edgePassed_now leg f high
  have hnoted : ((s.edgePassed leg f high).edgeTaken leg f high true).NotesEdge
      ((s.edgePassed leg f high).switchEdge leg f high true plateau phases level) :=
    State.switchEdge_on (s := s.edgePassed leg f high) harmed (by rw [hleg, hnow]; exact hgood) hplateau f phases level
  have hdriver := (hnoted.driver leg high).trans (State.edgeTaken_driver ..)
  have hstill := (hnoted.driver leg (!high)).trans ((State.edgeTaken_other ..).trans (by rw [hleg]))
  generalize (s.edgePassed leg f high).switchEdge leg f high true plateau phases level = g at *
  have hbanded := s.act_banded (fun _ => g) hl leg
  refine ⟨_, hexec, ?_, ?_, ?_, funext fun u => ?_, funext fun m => ?_, fun hpasses => ?_⟩
  · rw [hbanded.driver, hdriver]
    rfl
  · rw [hbanded.driver, hstill, hother]
  · rw [State.act_time _ _ hl, hnoted.time]
    show max s.time.now (s.edgePassed leg f high).time.now = _
    rw [hnow, ← max_assoc, max_self]
  · rw [State.act_unit _ _ hl, hnoted.works.unit]
    rfl
  · rw [State.act_sheaf _ _ hl, hnoted.works.sheaf]
    rfl
  · rw [hbanded.driver, hdriver]
    unfold State.edgeDriver
    rw [hleg]
    show ((s.leg leg).passes (s.sup.releases.getLsbD leg && !s.cutBlocks leg) high || _) = true
    rw [hpasses, Bool.true_or]

/-- A conflict of an on edge holds the leg. -/
theorem exec_legEdge_conflict_holds {s : State} (hl : s.live = true) {leg : Fin 48} {high : Bool} {plateau phases : Nat} {level : Int}
    {n f : Nat} (hn : s.legSheaf leg = some n) (hcarries : s.carries n = true) (hswitches : s.legSwitches n leg = true)
    (hlate : ((s.leg leg).driver high).edge < f) (hf : s.edgeAt leg high true = some f)
    (hcommand : ((s.leg leg).driver high).command = false) (hother : ((s.leg leg).driver (!high)).command = true)
    (hlast : ∀ g, s.edgeAt leg (!high) false = some g → f < g) :
    ∃ t, exec (.legEdge leg high true plateau phases level) s = .next t ∧ (t.leg leg).shootHold = true
      ∧ ∀ side, ((t.leg leg).driver side).command = false := by
  obtain ⟨hhold, hoff⟩ := ((s.reachFine f).passEdge leg f high).shootConflict_holds (leg := leg) hn
  have hbanded := s.act_banded (fun _ => ((s.reachFine f).passEdge leg f high).shootConflict leg) hl leg
  refine ⟨_, exec_legEdge_conflict hn hcarries hswitches hlate hf hcommand hother hlast, hbanded.interlock.1.trans hhold, fun side => ?_⟩
  rw [hbanded.driver, hoff]

/-! ## The stop word (R216, Table 3-8) -/

/-- A mode change that waited for the sheaves changes only what a change of the device's state does. -/
theorem State.enters_finishExit (s : State) : s.Enters s.finishExit := by
  unfold State.finishExit
  extract_lets asks done busy
  have hdone : ∀ t : State, t.Enters (done t) := fun t =>
    ((State.enters_of_eq (t := t.setReg Item.DEV.MODE_REASON 0) rfl rfl).trans (State.enters_enterState _ .standby)).trans
      (State.completes_endSequences ..).enters
  split
  · split
    · split
      · exact hdone s
      · split
        · exact hdone s
        · split
          · exact .refl s
          · exact (State.enters_of_eq (t := s.setReg Item.DEV.MODE_REASON 1) rfl rfl).trans (State.completes_endSequences ..).enters
    · exact .refl s
  · split
    · exact hdone s
    · exact .refl s
  · exact .refl s

theorem State.Fences.writes {s t : State} (h : s.Fences t) : t.writes = s.writes := by unfold State.Fences at h; rw [h]

theorem State.Enters.writes {s t : State} (h : s.Enters t) : t.writes = s.writes := by rw [h.books]

/-- After its stop word no group-write is on its way to a sheaf. -/
theorem State.stopCarrier_writes (s : State) (n : Nat) : ∀ w ∈ (s.stopCarrier n).writes, w.sheaf ≠ n := by
  unfold State.stopCarrier
  extract_lets s1
  intro w hw
  rw [(State.fencesOnly_stopFollowers _ n).1.writes] at hw
  simpa using (List.mem_filter.mp hw).2

/-- The sheaf's record as its stop word leaves it: OFF with its supplies going, or READY (Table 3-8). -/
def State.stopped (s : State) (n : Nat) (toOff : Bool) : State :=
  if toOff then s.sheafOff n else s.setSheaf n { s.sheaf n with state := .ready, stop := none, starting := false }

theorem State.stopped_spec (s : State) (n : Nat) (toOff : Bool) :
    ((s.stopped n toOff).sheaf n).state = (if toOff then .off else .ready) ∧ ((s.stopped n toOff).sheaf n).stop = none
      ∧ (s.stopped n toOff).writes = s.writes := by
  cases toOff with
  | true =>
    show ((s.sheafOff n).sheaf n).state = .off ∧ ((s.sheafOff n).sheaf n).stop = none ∧ (s.sheafOff n).writes = s.writes
    unfold State.sheafOff
    rw [State.sheaf_setSheaf_same]
    exact ⟨rfl, rfl, ((s.fencesOnly_legsOff n).trans (State.fencesOnly_supplies ..)).1.writes⟩
  | false =>
    show ((s.setSheaf n _).sheaf n).state = .ready ∧ ((s.setSheaf n _).sheaf n).stop = none ∧ _
    rw [State.sheaf_setSheaf_same]
    exact ⟨rfl, rfl, rfl⟩

/-- R216: the stop word ends RUN. -/
theorem exec_sheafRunStop_ends {s : State} (hl : s.live = true) {n : Fin 12} {r : StopRun} (hstop : (s.sheaf n).stop = some r)
    (hrun : (s.sheaf n).state = .run) (hword : r.word = true) :
    ∃ t, exec (.sheafRunStop n) s = .next t ∧ (t.sheaf n).state = (if r.toOff then .off else .ready) ∧ (t.sheaf n).stop = none
      ∧ ∀ w ∈ t.writes, w.sheaf ≠ n.val := by
  refine ⟨_, rfl, ?_⟩
  generalize hf : (fun t : State => _) = f
  have hwork : ∃ v, ((s.stopCarrier n).stopped n r.toOff).Aside v ∧ v.writes = (s.stopCarrier n).writes ∧ v.Enters (f s) := by
    refine ⟨((s.stopCarrier n).stopped n r.toOff).applySelection, State.aside_applySelection _, ?_, ?_⟩
    · exact (State.fencesOnly_applySelection _).1.writes.trans ((s.stopCarrier n).stopped_spec n r.toOff).2.2
    · rw [← hf]
      simp only [hstop]
      rw [if_neg (by simp [hrun, hword])]
      exact (State.completes_endSequences ..).enters.trans (State.enters_finishExit _)
  obtain ⟨v, haside, hwrites, henters⟩ := hwork
  obtain ⟨hstate, hnone, -⟩ := (s.stopCarrier n).stopped_spec n r.toOff
  rw [s.act_sheaf f hl, s.act_writes f hl, henters.sheaf, henters.writes, haside.sheaf, hwrites]
  exact ⟨hstate, hnone, s.stopCarrier_writes n⟩

/-! ## The fabric without its clock (R218) -/

/-- What every step of a list keeps, and the step for one of its members brings about, holds at the list's end. -/
theorem State.forEach_brings {α : Type} {P : State → Prop} {f : State → α → State} (hkeeps : ∀ t a, P t → P (f t a)) {a : α}
    (hbrings : ∀ t, P (f t a)) {l : List α} (ha : a ∈ l) (s : State) : P (s.forEach l f) := by
  have hall : ∀ (l : List α) (t : State), P t → P (t.forEach l f) := fun l => by
    induction l with
    | nil => exact fun _ h => h
    | cons b l ih => exact fun t h => ih _ (hkeeps t b h)
  induction l generalizing s with
  | nil => cases ha
  | cons b l ih =>
    rcases List.mem_cons.mp ha with rfl | hl
    · exact hall l _ (hbrings s)
    · exact ih hl _

/-- A driver whose edge line falls to off. -/
def State.lineDown (s : State) (n : Nat) (d : Driver) : Driver := if d.command then s.turnOff n d else d

theorem State.lineDown_command (s : State) (n : Nat) (d : Driver) : (s.lineDown n d).command = false := by
  unfold State.lineDown
  split
  · rfl
  · next h => simpa using h

theorem State.quieter_lineDown (s : State) (n : Nat) (d : Driver) : d.Quieter (s.lineDown n d) := by
  unfold State.lineDown
  split
  · exact s.quieter_turnOff n d
  · exact .refl d

/-- Both edge lines of a leg fall to off; a low-side switch under ASC select stays as the supervisor holds it. -/
def State.linesDown (s : State) (n : Nat) : State :=
  let l := s.leg n
  s.setLeg n { l with hs := s.lineDown n l.hs, ls := if l.asc then { l.ls with command := false } else s.lineDown n l.ls }

theorem State.linesDown_command (s : State) (n : Nat) :
    ((s.linesDown n).leg n).hs.command = false ∧ ((s.linesDown n).leg n).ls.command = false := by
  unfold State.linesDown
  rw [State.leg_setLeg_same]
  refine ⟨s.lineDown_command n _, ?_⟩
  show (if _ then _ else _ : Driver).command = false
  split
  · rfl
  · exact s.lineDown_command n _

theorem State.quiets_linesDown (s : State) (n : Nat) : s.Quiets (s.linesDown n) := by
  refine s.quiets_setLeg n _ ⟨s.quieter_lineDown n _, ?_, id⟩
  show Driver.Quieter _ (if _ then _ else _)
  split
  · exact ⟨fun _ => rfl, id, fun a b => ⟨a, b⟩⟩
  · exact s.quieter_lineDown n _

theorem exec_fabricClockStop (s : State) : exec .fabricClockStop s
    = .next (s.act fun _ => State.forEach { s with fabricStopped := true } (List.range 48) State.linesDown) := by
  refine congrArg Host.Outcome.next (s.act_to _ _ ?_)
  exact congrArg (State.forEach _ _) (funext₂ fun u n => rfl)

/-- R218: without the fabric's clock no leg is commanded on, and nothing else moves. -/
theorem exec_fabricClockStop_lines {s : State} (hl : s.live = true) :
    ∃ t, exec .fabricClockStop s = .next t ∧ t.fabricStopped = true
      ∧ (∀ l < 48, (t.leg l).hs.command = false ∧ (t.leg l).ls.command = false) ∧ t.sheaf = s.sheaf ∧ t.unit = s.unit ∧ t.out = s.out := by
  refine ⟨_, exec_fabricClockStop s, ?_⟩
  have hworks : State.WorksLegs { s with fabricStopped := true } (State.forEach { s with fabricStopped := true } (List.range 48) State.linesDown) :=
    State.forEach_rel (R := State.WorksLegs) (fun _ => rfl) (fun _ _ _ => State.WorksLegs.trans) _ (fun t n => t.worksLegs_setLeg n _) _ _
  have hdown : ∀ l < 48,
      ((State.forEach { s with fabricStopped := true } (List.range 48) State.linesDown).leg l).hs.command = false
        ∧ ((State.forEach { s with fabricStopped := true } (List.range 48) State.linesDown).leg l).ls.command = false := fun l hlt =>
    State.forEach_brings (P := fun t => (t.leg l).hs.command = false ∧ (t.leg l).ls.command = false)
      (fun t a h => ⟨((t.quiets_linesDown a).leg l).1.1 h.1, ((t.quiets_linesDown a).leg l).2.1.1 h.2⟩)
      (fun t => t.linesDown_command l) (List.mem_range.mpr hlt) _
  generalize State.forEach { s with fabricStopped := true } (List.range 48) State.linesDown = g at *
  refine ⟨?_, fun l hlt => ?_, funext fun n => ?_, funext fun u => ?_, funext fun o => ?_⟩
  · rw [State.act_fabricStopped _ _ hl, hworks]
  · have hbanded := s.act_banded (fun _ => g) hl l
    exact ⟨(congrArg Driver.command (hbanded.driver true)).trans (hdown l hlt).1,
      (congrArg Driver.command (hbanded.driver false)).trans (hdown l hlt).2⟩
  · rw [State.act_sheaf _ _ hl, hworks.sheaf]
    rfl
  · rw [State.act_unit _ _ hl, hworks.unit]
    rfl
  · rw [State.act_out _ _ hl, hworks]
    rfl

/-! ## A recalibration of the interpolators (R192) -/

/-- The frame of a live device alone leaves what no command changes. -/
theorem State.keepLive_self (s : State) : s.keepLive s = s := by
  have hmax : ∀ k, Nat.max k k = k := Nat.max_self
  have hstate : (if s.dev.state = .locked then .locked else s.dev.state) = s.dev.state := by
    split
    · next h => exact h.symm
    · rfl
  unfold State.keepLive State.keep
  simp only [hmax, hstate]

/-- Settles O14: an off edge and the stop word go whatever the records that follow come to, and no count of a conflict ends its hold
(R181, R206, R216, R218). -/
theorem edgesAndStopsReachTheSwitches : Obligations.EdgesAndStopsReachTheSwitches := by
  intro s hl
  refine ⟨fun leg high plateau phases level n f hn hcarries hswitches => ⟨?_, ?_, ?_⟩,
    fun n r hstop hrun hword => exec_sheafRunStop_ends hl hstop hrun hword, exec_fabricClockStop_lines hl, ?_, ?_⟩
  · intro hf hlate hcommand
    exact exec_legEdge_off_takes hl hn hcarries hswitches hlate hf hcommand
  · intro hf hlate hcommand hother at' hlast harmed hgood hplateau
    exact exec_legEdge_on_gives hl hn hcarries hswitches hlate hf hcommand hother hlast harmed hgood hplateau
  · intro hf hlate hcommand hother hlast
    exact exec_legEdge_conflict_holds hl hn hcarries hswitches hlate hf hcommand hother hlast
  · exact ⟨s.act id, rfl, s.act_pulses id hl, funext fun n => by unfold State.carrier; rw [s.act_carriers id hl]; rfl,
      s.act_banded id hl, funext (s.act_sheaf id hl), funext (s.act_unit id hl), s.act_writes id hl⟩
  · intro hwaits hswaps hsafe hlocked
    exact congrArg Host.Outcome.next ((s.act_eq id hl hwaits hswaps hsafe hlocked).trans s.keepLive_self)

end Sys2Proof.Machine

namespace Sys2Proof.Machine

/-! ## A group-write whose latency moves its group's reload (R195, R201, R202) -/

/-- So many positions after its first, the PHASE items of PWM[1] come to the address of LOOP[0].LAT_MAX. -/
def farLeg : Nat := Item.LOOP.LAT_MAX 0 - Item.PWM.PHASE 1 0

/-- Sheaf 1 on that leg, and sheaf 0 on every leg up to it, so that the leg's position is its number. No mapping is like this (Table 0-2), but
the statement speaks of every state. -/
def overlappingBind : Bind := { Bind.factory with types := [6, 2], first := [0, farLeg], count := [farLeg + 1, 1] }

/-- Compare word 0x40 for position 0 of group 0 of sheaf 1, from lane 0. -/
def farWrite : GroupWrite := { sheaf := 1, group := 0, words := [0x40], lane := 0, stamp := 0 }

/-- Sheaf 1 in RUN, its first period begun on tick 10000, its group reload on that tick still to come, and the group-write on its way. -/
def farCarrying : State :=
  { State.reset with
    dev := { State.reset.dev with state := .charge, fwRunning := true }
    bind := overlappingBind
    sheaves := [(1, { Sheaf.init with state := .run })]
    carriers := [(1, { Carrier.init with start := 320000, count := 1 })]
    regs := [(Item.PWM.PERIOD_NOW 1, 320000)]
    writes := [farWrite] }

theorem farCarrying_sampleTick : farCarrying.sampleTick 1 0 = some 10000 := by decide

/-- The latency goes to LAT_MAX first, which is the leg's phase too: the reload is later now, and the write is not held for it. -/
theorem farCarrying_lands {t : State} (h : exec (.groupWrite 1 0 10000) farCarrying = .next t) : (t.group 1 0).held = [] := by
  cases h
  decide +kernel

/-- Refutes O13: its clause of GROUP_WRITE has a write that completes on the tick of the coming reload wait for it, but in a mapping that
puts a leg at a position far beyond the items of its sheaf, the latency of the write is stored over the phase that places that reload. -/
theorem not_theCarrierAdvancesByItsRules : ¬ Obligations.TheCarrierAdvancesByItsRules := by
  intro h
  obtain ⟨-, -, -, hwrite, -⟩ := h farCarrying 1 (by decide) (by decide)
  obtain ⟨-, hheld⟩ := hwrite 0 10000 farWrite 0x40 rfl rfl rfl rfl (by decide) (by decide) rfl
  obtain ⟨t, ht, -, -, happend⟩ := hheld 10000 farCarrying_sampleTick le_rfl
  have hnone := farCarrying_lands ht
  rw [Fin.val_one, Fin.val_zero] at happend
  exact absurd (hnone.symm.trans happend) (by simp)

end Sys2Proof.Machine

namespace Sys2Proof.Machine

/-! ## The short-pulse procedure (R209) -/

/-- The width that the procedure looks at: SUPPRESS_CARRY adds what has been carried. -/
def carriedWidth (policy cmp : Nat) (carry : Int) : Int := if policy = 0 then (cmp : Int) + carry else cmp

theorem carriedWidth_of_ne_zero {policy : Nat} (h : policy ≠ 0) (cmp : Nat) (carry : Int) : carriedWidth policy cmp carry = cmp := if_neg h

/-- What a policy makes of a pulse that would be `eff` wide with `dropped` of its width lost. -/
def droppedResult (policy period thr : Nat) (carry : Int) (eff : Nat) (dropped : Int) : ShortResult where
  eff := if policy = 2 ∧ dropped ≠ 0 then (if eff = 0 then thr else period - thr) else eff
  carry := if policy = 0 then max (-(period : Int)) (min period dropped) else carry
  short := decide (dropped ≠ 0)
  clipped := decide (policy = 0) && (decide ((period : Int) < dropped) || decide (dropped < -(period : Int)))

theorem droppedResult_suppressCarry (period thr : Nat) (carry : Int) (eff : Nat) (dropped : Int) :
    droppedResult 0 period thr carry eff dropped =
      { eff := eff, carry := max (-(period : Int)) (min period dropped), short := decide (dropped ≠ 0)
        clipped := decide ((period : Int) < dropped) || decide (dropped < -(period : Int)) } := by
  simp [droppedResult]

theorem droppedResult_suppress (period thr : Nat) (carry : Int) (eff : Nat) (dropped : Int) :
    droppedResult 1 period thr carry eff dropped = { eff := eff, carry := carry, short := decide (dropped ≠ 0), clipped := false } := by
  simp [droppedResult]

theorem droppedResult_extend (period thr : Nat) (carry : Int) (eff : Nat) {dropped : Int} (h : dropped ≠ 0) :
    droppedResult 2 period thr carry eff dropped =
      { eff := if eff = 0 then thr else period - thr, carry := carry, short := true, clipped := false } := by
  simp [droppedResult, h]

theorem droppedResult_nothing (policy period thr : Nat) (carry : Int) (eff : Nat) :
    droppedResult policy period thr carry eff 0 =
      { eff := eff, carry := if policy = 0 then 0 else carry, short := false, clipped := false } := by
  have hperiod : ¬ (period : Int) < 0 := by omega
  simp [droppedResult, hperiod]

theorem shortPulse_zero (policy period thr : Nat) (carry : Int) :
    shortPulse policy 0 period thr carry = { eff := 0, carry := carry, short := false, clipped := false } := by
  unfold shortPulse
  rw [if_pos (.inl rfl), Nat.min_eq_min, Nat.zero_min]

theorem shortPulse_beyond {period cmp : Nat} (policy thr : Nat) (carry : Int) (h : period ≤ cmp) :
    shortPulse policy cmp period thr carry = { eff := period, carry := carry, short := false, clipped := false } := by
  unfold shortPulse
  rw [if_pos (.inr h), Nat.min_eq_min, Nat.min_eq_right h]

section
variable {policy cmp period thr : Nat} {carry c : Int} (h0 : 0 < cmp) (hp : cmp < period) (hc : carriedWidth policy cmp carry = c)
include h0 hp hc

theorem shortPulse_within : shortPulse policy cmp period thr carry =
    droppedResult policy period thr carry (if c < thr then 0 else if period - c < thr then period else c.toNat)
      (if c < thr then c else if period - c < thr then c - period else 0) := by
  subst hc
  unfold shortPulse
  rw [if_neg (by omega)]
  rfl

/-- A high side that would be on too briefly: its width is lost. -/
theorem shortPulse_of_lt (h : c < thr) : shortPulse policy cmp period thr carry = droppedResult policy period thr carry 0 c := by
  rw [shortPulse_within h0 hp hc, if_pos h, if_pos h]

/-- A low side that would be on too briefly: the rest of the period is gained, a loss below zero. -/
theorem shortPulse_of_rest_lt (h : thr ≤ c) (hl : period - c < thr) :
    shortPulse policy cmp period thr carry = droppedResult policy period thr carry period (c - period) := by
  rw [shortPulse_within h0 hp hc, if_neg (not_lt.2 h), if_neg (not_lt.2 h), if_pos hl, if_pos hl]

theorem shortPulse_of_le (h : thr ≤ c) (hl : thr ≤ period - c) :
    shortPulse policy cmp period thr carry = droppedResult policy period thr carry c.toNat 0 := by
  rw [shortPulse_within h0 hp hc, if_neg (not_lt.2 h), if_neg (not_lt.2 h), if_neg (not_lt.2 hl), if_neg (not_lt.2 hl)]

end

/-! ### The procedure by policy -/

section
variable {policy cmp period thr : Nat} {carry c : Int} {r : ShortResult} (h0 : 0 < cmp) (hp : cmp < period) (hthr : thr ≤ period)
  (hc : carriedWidth policy cmp carry = c) (hr : shortPulse policy cmp period thr carry = r)
include h0 hp hc hr

include hthr in
theorem shortPulse_policies_of_lt (h : c < thr) :
    r.short = decide (c ≠ 0)
      ∧ (policy = 0 → r.eff = 0 ∧ r.carry = max (-(period : Int)) (min period c) ∧ r.clipped = decide (c < -(period : Int)))
      ∧ (policy = 1 → r.eff = 0 ∧ r.carry = carry ∧ r.clipped = false) ∧ (policy = 2 → r.eff = thr ∧ r.carry = carry ∧ r.clipped = false) := by
  rw [shortPulse_of_lt h0 hp hc h] at hr
  subst hr
  refine ⟨rfl, ?_, ?_, ?_⟩ <;> rintro rfl
  · have hbound : ¬ (period : Int) < c := by omega
    rw [droppedResult_suppressCarry]
    simp only [hbound, decide_false, Bool.false_or, and_self]
  · rw [droppedResult_suppress]
    exact ⟨rfl, rfl, rfl⟩
  · rw [carriedWidth_of_ne_zero (by decide)] at hc
    rw [droppedResult_extend _ _ _ _ (by omega)]
    exact ⟨rfl, rfl, rfl⟩

theorem shortPulse_policies_of_rest_lt (h : thr ≤ c) (hl : period - c < thr) :
    r.short = decide (c ≠ period)
      ∧ (policy = 0 → r.eff = period ∧ r.carry = max (-(period : Int)) (min period (c - period)) ∧ r.clipped = decide ((period : Int) < c - period))
      ∧ (policy = 1 → r.eff = period ∧ r.carry = carry ∧ r.clipped = false)
      ∧ (policy = 2 → r.eff = period - thr ∧ r.carry = carry ∧ r.clipped = false) := by
  rw [shortPulse_of_rest_lt h0 hp hc h hl] at hr
  subst hr
  refine ⟨decide_eq_decide.2 (not_congr sub_eq_zero), ?_, ?_, ?_⟩ <;> rintro rfl
  · have hbound : ¬ c - period < -(period : Int) := by omega
    rw [droppedResult_suppressCarry]
    simp only [hbound, decide_false, Bool.or_false, and_self]
  · rw [droppedResult_suppress]
    exact ⟨rfl, rfl, rfl⟩
  · rw [carriedWidth_of_ne_zero (by decide)] at hc
    rw [droppedResult_extend _ _ _ _ (by omega)]
    exact ⟨if_neg (by omega), rfl, rfl⟩

theorem shortPulse_policies_of_le (h : thr ≤ c) (hl : thr ≤ period - c) :
    (r.eff : Int) = c ∧ r.short = false ∧ r.clipped = false ∧ r.carry = if policy = 0 then 0 else carry := by
  rw [shortPulse_of_le h0 hp hc h hl, droppedResult_nothing] at hr
  subst hr
  exact ⟨Int.toNat_of_nonneg (by omega), rfl, rfl, rfl⟩

end

/-! ### The procedure on a leg -/

/-- A count that goes up where a condition holds. -/
def State.bumpIf (s : State) (p : Bool) (a : Nat) : State := if p then s.bump a else s

theorem State.reg_bumpIf_same (s : State) (p : Bool) (a : Nat) : (s.bumpIf p a).reg a = if p then s.reg a + 1 else s.reg a := by
  cases p
  case false => rfl
  case true => exact s.reg_setReg_same ..

theorem State.reg_bumpIf_other (s : State) (p : Bool) {a b : Nat} (h : b ≠ a) : (s.bumpIf p a).reg b = s.reg b := by
  cases p
  case false => rfl
  case true => exact s.reg_setReg_other _ _ _ h

theorem State.reg_setRegs_pair_other (s : State) {a b c : Nat} (v w : Word) (ha : c ≠ a) (hb : c ≠ b) :
    (s.setRegs [(a, v), (b, w)]).reg c = s.reg c := ((s.setReg a v).reg_setReg_other b w c hb).trans (s.reg_setReg_other a v c ha)

/-- What the procedure gives for a duration word of a leg. -/
def State.legShort (s : State) (n leg d : Nat) : ShortResult :=
  shortPulse (s.regN (Item.PWM.SHORT_POLICY n)) (compareOf (s.regN (Item.PWM.MODE n)) (s.regN (Item.PWM.PERIOD_NOW n)) d)
    (s.regN (Item.PWM.PERIOD_NOW n)) (s.shortLimit n leg) (s.regI (Item.PWM.CARRY n (s.bind.position leg)))

/-- The two counters of a result. -/
def State.shortCounted (s : State) (n : Nat) (r : ShortResult) : State :=
  (s.bumpIf r.short (Item.PWM.SHORT_CNT n)).bumpIf r.clipped (Item.PWM.CARRY_CLIP_CNT n)

theorem State.shortCounted_counts (s : State) (n : Nat) (r : ShortResult) :
    (s.shortCounted n r).reg (Item.PWM.SHORT_CNT n) = (if r.short then s.reg (Item.PWM.SHORT_CNT n) + 1 else s.reg (Item.PWM.SHORT_CNT n))
      ∧ (s.shortCounted n r).reg (Item.PWM.CARRY_CLIP_CNT n)
        = (if r.clipped then s.reg (Item.PWM.CARRY_CLIP_CNT n) + 1 else s.reg (Item.PWM.CARRY_CLIP_CNT n)) := by
  have hne : Item.PWM.SHORT_CNT n ≠ Item.PWM.CARRY_CLIP_CNT n := Item.addr_ne (by decide)
  unfold State.shortCounted
  rw [State.reg_bumpIf_other _ _ hne, State.reg_bumpIf_same, State.reg_bumpIf_same, State.reg_bumpIf_other _ _ hne.symm]
  exact ⟨rfl, rfl⟩

section
variable {s : State} {n leg d : Nat} (hswitches : s.legSwitches n leg = true) (hauxi : s.stype n ≠ SType.auxi) (hauxb : s.stype n ≠ SType.auxb)
  (hcmp : KMap.get (fun _ => none) (s.group n (s.groupOf n leg)).cmp (s.groupPosition n leg) = some d)
include hswitches hauxi hauxb hcmp

theorem State.reloadLeg_eq : s.reloadLeg n leg =
    ((s.shortCounted n (s.legShort n leg d)).setRegs
        [(Item.PWM.CARRY n (s.bind.position leg), iw (s.legShort n leg d).carry),
         (Item.PWM.CMP_NOW n (s.bind.position leg), nw (s.legShort n leg d).eff)],
      some (s.legShort n leg d).eff) := by
  unfold State.reloadLeg
  simp only [hcmp, hswitches, hauxi, hauxb, decide_false, Bool.false_and, Bool.not_true, Bool.false_eq_true, if_false, false_and]
  rfl

theorem State.reloadLeg_takes (hpos : s.bind.position leg < 18) {r : ShortResult} (hr : s.legShort n leg d = r) :
    (s.reloadLeg n leg).2 = some r.eff ∧ (s.reloadLeg n leg).1.reg (Item.PWM.CARRY n (s.bind.position leg)) = iw r.carry
      ∧ (s.reloadLeg n leg).1.reg (Item.PWM.CMP_NOW n (s.bind.position leg)) = nw r.eff
      ∧ (s.reloadLeg n leg).1.reg (Item.PWM.SHORT_CNT n)
        = (if r.short then s.reg (Item.PWM.SHORT_CNT n) + 1 else s.reg (Item.PWM.SHORT_CNT n))
      ∧ (s.reloadLeg n leg).1.reg (Item.PWM.CARRY_CLIP_CNT n)
        = (if r.clipped then s.reg (Item.PWM.CARRY_CLIP_CNT n) + 1 else s.reg (Item.PWM.CARRY_CLIP_CNT n)) := by
  subst hr
  rw [State.reloadLeg_eq hswitches hauxi hauxb hcmp]
  obtain ⟨hshort, hclip⟩ := s.shortCounted_counts n (s.legShort n leg d)
  obtain ⟨hcarry, hnow⟩ := (s.shortCounted n (s.legShort n leg d)).reg_setRegs_pair (iw (s.legShort n leg d).carry)
    (nw (s.legShort n leg d).eff) (Item.addr_ne (by omega) : Item.PWM.CARRY n (s.bind.position leg) ≠ Item.PWM.CMP_NOW n (s.bind.position leg))
  exact ⟨rfl, hcarry, hnow,
    (State.reg_setRegs_pair_other _ _ _ (Item.addr_ne (by omega)) (Item.addr_ne (by omega))).trans hshort,
    (State.reg_setRegs_pair_other _ _ _ (Item.addr_ne (by omega)) (Item.addr_ne (by omega))).trans hclip⟩

end

/-- Settles O15: a compare within the period is short at its own end, short at the period's, or neither, and each policy is read off what
it drops (R209); the group reload of a leg stores that result in four different items. -/
theorem shortPulsesFollowTheirPolicy : Obligations.ShortPulsesFollowTheirPolicy := by
  refine ⟨fun policy cmp period thr carry _ hthr => ⟨?_, ?_, fun h0 hp => ⟨?_, ?_, ?_⟩⟩,
    fun s n leg d hpos hswitches hauxi hauxb hcmp => State.reloadLeg_takes hswitches hauxi hauxb hcmp hpos rfl⟩
  · rintro rfl
    rw [shortPulse_zero]
    exact ⟨rfl, rfl, rfl, rfl⟩
  · intro h
    rw [shortPulse_beyond policy thr carry h]
    exact ⟨rfl, rfl, rfl, rfl⟩
  · exact shortPulse_policies_of_lt h0 hp hthr rfl rfl
  · exact shortPulse_policies_of_rest_lt h0 hp rfl rfl
  · exact shortPulse_policies_of_le h0 hp rfl rfl

end Sys2Proof.Machine

namespace Sys2Proof.Machine

/-! ## The insulation monitor (R238, R239) -/

theorem State.slow_setIso (s : State) (st start : Nat) :
    (s.setIso st start).slow 1 = { s.slow 1 with
      iso := st, isoFrom := start, upP := if st = 0 then none else (s.slow 1).upP, upN := if st = 0 then none else (s.slow 1).upN } :=
  s.slow_setSlow_same 1 _

/-- The voltages of a state from the codes of its windows at the two taps (R238). -/
def State.isoVolts (s : State) (mp mn : List Int) : Int × Int :=
  let ratio : Int := (s.regN (Item.ADCI.ISO_RATIO 1) : Nat)
  let n := s.regN (Item.ADCI.ISO_AVG 1)
  (windowsMean (mp.take n) * ratio, -windowsMean (mn.take n) * ratio)

/-- The end of a state of the monitor: its voltages are kept in the converter's books `c`, and the next state begins 10 ms on (R238). -/
def State.isoNext (s : State) (c : Slow) (st : Nat) : State :=
  ((s.reach s.isoStateEnd).setSlow 1 c).setIso st ((s.reach s.isoStateEnd).time.now + 10000000)

theorem State.slow_isoNext (s : State) (c : Slow) {st : Nat} (hst : st ≠ 0) :
    (s.isoNext c st).slow 1 = { c with iso := st, isoFrom := (s.reach s.isoStateEnd).time.now + 10000000 } := by
  unfold State.isoNext
  rw [State.slow_setIso, State.slow_setSlow_same, if_neg hst, if_neg hst]

/-- What ISO_STATE_END does (R238). -/
theorem exec_isoStateEnd (s : State) (mp mn : List Int) :
    exec (.isoStateEnd mp mn) s = .next (s.act fun t =>
      if t.isoOff then t.setIso 0 0
      else if (t.slow 1).iso = 0 then t.setIso 1 t.time.now
      else if (t.slow 1).iso = 1 then t.isoNext { t.slow 1 with upP := some (t.isoVolts mp mn) } 2
      else t.isoNext { t.slow 1 with upN := some (t.isoVolts mp mn) } 1) := rfl

/-- The lower of the two pole resistances lies below so many Ω per volt of the bus (R239). -/
def poleBelow (rp rn : Word) (bus : Int) (k : Nat) : Bool :=
  decide ((Nat.min rp.toNat rn.toNat : Int) * 2000 * 1000000 < (k : Int) * bus)

/-- A cycle's voltages used up (R239). -/
def State.isoUsed (s : State) : State := s.setSlow 1 { s.slow 1 with upP := none, upN := none }

/-- The resistances of a cycle and its status written (R239). -/
def State.isoMeasured (s : State) (rp rn : Word) (warn lim : Bool) : State :=
  s.isoUsed.setRegs [(Item.ADCI.ISO_RP 1, rp), (Item.ADCI.ISO_RN 1, rn),
    (Item.ADCI.ISO_STATUS 1, nw (8 + (if warn then 2 else 0) + (if lim then 1 else 0)))]

/-- The warnings of a cycle (R239). -/
def State.isoWarned (s : State) (warn lim : Bool) : State :=
  let t := if warn then s.raise (unitOf Kind.slow 1) .W 17 else s
  if lim then t.raise (unitOf Kind.slow 1) .W 18 else t

theorem State.warns_isoWarned (s : State) (warn lim : Bool) : s.Warns (s.isoWarned warn lim) := by
  have hraise : ∀ (t : State) (src : Nat) (p : Bool), t.Warns (if p then t.raise (unitOf Kind.slow 1) .W src else t) := fun t src p => by
    split
    · exact t.warns_detect _ src false (by decide)
    · exact .refl t
  exact (hraise s 17 warn).trans (hraise _ 18 lim)

/-- R438: after a class-W detection that made its record, one of a higher source on the same edge changes nothing. -/
theorem State.detect_W_higher (s : State) {u src src' : Nat} {forced forced' : Bool} (hu : unitKind u ≠ Kind.leg)
    (hidle : (s.unit u).state = .idle) (hrank : (s.unit u).outranks u s.time.now src = false) (hlt : src < src') :
    (s.detect u .W src forced).detect u .W src' forced' = s.detect u .W src forced := by
  have hwarns := s.warns_detect u src forced hu
  have hdetect : s.detect u .W src forced = (s.note u .W src forced).setFault u .idle .W src := by
    unfold State.detect
    rw [hidle]
    exact if_neg (by simp [hrank])
  have hedge : ((s.detect u .W src forced).unit u).edge = some (s.time.now, src) := by
    rw [hdetect]
    unfold State.setFault State.note
    rw [State.unit_setUnit_same, if_neg (by simp [hrank]), State.unit_setUnit_same]
  have hstate := (s.detect_shows_W u src forced hidle hrank).1
  have hnow : (s.detect u .W src forced).time.now = s.time.now := by rw [hwarns]
  generalize s.detect u .W src forced = t at hedge hstate hnow
  have houtranks : (t.unit u).outranks u t.time.now src' = true := by
    unfold UnitRec.outranks
    rw [hedge, hnow]
    simp [hlt]
  unfold State.detect
  rw [hstate]
  exact if_pos houtranks

/-- The first warning of a cycle shows, whether or not the second comes with it (R239, R438). -/
theorem State.shows_isoWarned {s g : State} (h : s.Poised g (unitOf Kind.slow 1)) (hn : s.Notices (unitOf Kind.slow 1) 17) (lim : Bool) :
    (g.isoWarned true lim).Shows (unitOf Kind.slow 1) .idle .W 17 := by
  obtain ⟨hidle, hrank⟩ := h.notices hn
  have hlim : g.isoWarned true lim = g.raise (unitOf Kind.slow 1) .W 17 := by
    cases lim with
    | false => rfl
    | true => exact g.detect_W_higher (by decide) hidle hrank (by decide)
  rw [hlim]
  exact h.shows hn false

/-- What ISO_CYCLE_END does with the voltages of both states (R239). -/
theorem execIsoCycleEnd_measured {s : State} {u1 n1 u2 n2 : Int} (hP : (s.slow 1).upP = some (u1, n1)) (hN : (s.slow 1).upN = some (u2, n2)) :
    ∃ f, exec .isoCycleEnd s = .next (s.act f) ∧ f s =
      (let bus := u1 + n1 + u2 + n2
       let d := n1 * u2 - u1 * n2
       let rp := poleResistance (n2 * (u1 + n1)) d (s.regN (Item.ADCI.ISO_RREF 1) : Nat) (s.regN (Item.ADCI.ISO_RNET 1) : Nat)
       let rn := poleResistance (u1 * (u2 + n2)) d (s.regN (Item.ADCI.ISO_RREF 1) : Nat) (s.regN (Item.ADCI.ISO_RNET 1) : Nat)
       let warn := poleBelow rp rn bus (s.regN (Item.ADCI.ISO_WARN 1))
       let lim := poleBelow rp rn bus (s.regN (Item.ADCI.ISO_LIMIT 1))
       if bus < (s.regN (Item.ADCI.ISO_VMIN 1) : Int) * 2000000 then s.isoUsed.setReg (Item.ADCI.ISO_STATUS 1) 4
       else (s.isoMeasured rp rn warn lim).isoWarned warn lim) := by
  refine ⟨_, rfl, ?_⟩
  simp only [hP, hN]
  rfl

/-- What the items read after the resistances are written (R239). -/
theorem State.isoMeasured_reads (s : State) (rp rn : Word) (warn lim : Bool) :
    (s.isoMeasured rp rn warn lim).reg (Item.ADCI.ISO_RP 1) = rp ∧ (s.isoMeasured rp rn warn lim).reg (Item.ADCI.ISO_RN 1) = rn
      ∧ bitOf ((s.isoMeasured rp rn warn lim).reg (Item.ADCI.ISO_STATUS 1)) 3 = true := by
  unfold State.isoMeasured
  simp only [State.setRegs]
  refine ⟨?_, ?_, ?_⟩
  · rw [State.reg_setReg_other _ _ _ _ (by decide), State.reg_setReg_other _ _ _ _ (by decide), State.reg_setReg_same]
  · rw [State.reg_setReg_other _ _ _ _ (by decide), State.reg_setReg_same]
  · rw [State.reg_setReg_same]
    cases warn <;> cases lim <;> decide

theorem State.slow_isoUsed (s : State) : s.isoUsed.slow 1 = { s.slow 1 with upP := none, upN := none } := s.slow_setSlow_same 1 _

theorem State.isoMeasured_slow (s : State) (rp rn : Word) (warn lim : Bool) (n : Nat) :
    (s.isoMeasured rp rn warn lim).slow n = s.isoUsed.slow n := rfl

theorem State.poised_isoMeasured (s : State) (rp rn : Word) (warn lim : Bool) (u : Nat) : s.Poised (s.isoMeasured rp rn warn lim) u :=
  ⟨rfl, rfl, rfl, le_rfl⟩

/-- What the warnings of a cycle leave: items and converters. -/
theorem State.isoWarned_leaves (s : State) (warn lim : Bool) : (s.isoWarned warn lim).reg = s.reg ∧ (s.isoWarned warn lim).slow = s.slow := by
  rw [s.warns_isoWarned warn lim]
  exact ⟨rfl, rfl⟩

/-- R239: the resistances of a cycle and their warnings are all that its end leaves, with the voltages used up. -/
theorem State.Calm.isoMeasured_next {s : State} (hc : s.Calm) {f : State → State} {rp rn : Word} {warn lim : Bool}
    (hf : f s = (s.isoMeasured rp rn warn lim).isoWarned warn lim) :
    ∃ t, (.next (s.act f) : Host.Outcome State Fault Refusal) = .next t ∧ t.reg (Item.ADCI.ISO_RP 1) = rp ∧ t.reg (Item.ADCI.ISO_RN 1) = rn
      ∧ bitOf (t.reg (Item.ADCI.ISO_STATUS 1)) 3 = true ∧ (t.slow 1).upP = none ∧ (t.slow 1).upN = none
      ∧ (s.Notices (unitOf Kind.slow 1) 17 → warn = true → t.Shows (unitOf Kind.slow 1) .idle .W 17) := by
  have hwarns := (s.isoMeasured rp rn warn lim).warns_isoWarned warn lim
  obtain ⟨hreg, hslow⟩ := (s.isoMeasured rp rn warn lim).isoWarned_leaves warn lim
  refine hc.next hf (by rw [hwarns]; rfl) (by rw [hwarns]; rfl) (by rw [hwarns]; rfl) ?_
  simp only [State.keepLive_reg', State.keepLive_slow', hreg, hslow, State.isoMeasured_slow, State.slow_isoUsed, true_and]
  obtain ⟨hrp, hrn, hvalid⟩ := s.isoMeasured_reads rp rn warn lim
  refine ⟨hrp, hrn, hvalid, fun hn hwarn => ?_⟩
  subst hwarn
  exact State.shows_isoWarned (s.poised_isoMeasured rp rn true lim _) hn lim

/-- R238: the end of state P keeps its voltages and leads to state N, the path off for 10 ms; likewise from N to P. -/
theorem State.Calm.exec_isoStateEnd_averaged {s : State} (hc : s.Calm) (mp mn : List Int) (hoff : s.isoOff = false) :
    ((s.slow 1).iso = 1 → ∃ t, exec (.isoStateEnd mp mn) s = .next t ∧ (t.slow 1).iso = 2 ∧ (t.slow 1).upP = some (s.isoVolts mp mn)
      ∧ s.isoStateEnd ≤ t.time.now ∧ (t.slow 1).isoFrom = t.time.now + 10000000) ∧
    ((s.slow 1).iso = 2 → ∃ t, exec (.isoStateEnd mp mn) s = .next t ∧ (t.slow 1).iso = 1 ∧ (t.slow 1).upN = some (s.isoVolts mp mn)
      ∧ s.isoStateEnd ≤ t.time.now ∧ (t.slow 1).isoFrom = t.time.now + 10000000) := by
  have hnow : ∀ c st, (s.keepLive (s.isoNext c st)).time.now = (s.reach s.isoStateEnd).time.now := fun _ _ => Nat.max_eq_right (le_max_left ..)
  have hon : ¬ s.isoOff = true := by simp [hoff]
  rw [exec_isoStateEnd]
  refine ⟨fun hiso => hc.next ((if_neg hon).trans ((if_neg (by simp [hiso])).trans (if_pos hiso))) rfl rfl rfl ?_,
    fun hiso => hc.next ((if_neg hon).trans ((if_neg (by simp [hiso])).trans (if_neg (by simp [hiso])))) rfl rfl rfl ?_⟩ <;>
  · rw [State.keepLive_slow', State.slow_isoNext _ _ (by decide), hnow]
    exact ⟨rfl, rfl, le_max_right .., rfl⟩

/-- Settles O22: a state's end keeps the voltages of its windows and moves on (R238), a cycle's end uses both pairs up (R239); a warning of
both thresholds shows the first (R438). Rounding, the monitor's off and a zero denominator are assumption logs 13, 115 and 116. -/
theorem theInsulationMonitorMeasuresBothPoles : Obligations.TheInsulationMonitorMeasuresBothPoles := by
  intro s hc
  refine ⟨fun mp mn hoff => ?_, fun mp mn hoff => ?_, fun u1 n1 u2 n2 hP hN => ?_⟩
  · have hon : ¬ s.isoOff = true := by simp [hoff]
    obtain ⟨hfromP, hfromN⟩ := hc.exec_isoStateEnd_averaged mp mn hoff
    simp only [State.isoVolts, neg_mul] at hfromP hfromN
    refine ⟨fun hiso => ?_, hfromP, hfromN⟩
    refine hc.next ((if_neg hon).trans (if_pos hiso)) rfl rfl rfl ?_
    rw [State.keepLive_slow', State.slow_setIso]
    exact ⟨rfl, rfl⟩
  · refine hc.next (if_pos hoff) rfl rfl rfl ?_
    rw [State.keepLive_slow', State.slow_setIso]
    exact ⟨rfl, rfl⟩
  · obtain ⟨f, hexec, hf⟩ := execIsoCycleEnd_measured hP hN
    rw [hexec]
    refine ⟨fun hlow => ?_, fun hbus _ => ?_⟩
    · refine hc.next (hf.trans (if_pos hlow)) rfl rfl rfl ⟨?_, ?_, ?_, rfl, ?_⟩
      · exact (State.keepLive_reg' ..).trans (State.reg_setReg_same ..)
      · exact (State.keepLive_reg' ..).trans (State.reg_setReg_other _ _ _ _ (by decide))
      · exact (State.keepLive_reg' ..).trans (State.reg_setReg_other _ _ _ _ (by decide))
      · rw [State.keepLive_slow', State.slow_setReg', State.slow_isoUsed]
        exact ⟨rfl, rfl⟩
    · obtain ⟨t, ht, hrp, hrn, hvalid, hupP, hupN, hshows⟩ := hc.isoMeasured_next (hf.trans (if_neg (not_lt.mpr hbus)))
      exact ⟨t, ht, hrp, hrn, hvalid, hupP, hupN, fun hn hbelow => hshows hn (decide_eq_true hbelow)⟩

end Sys2Proof.Machine

namespace Sys2Proof.Machine

/-! ## What the rows of the converters prepare -/

/-- The preparing part of a converter's row may change converters, device time and the turns of periodic works. -/
structure State.Converts (s g : State) : Prop where
  eq : g = { s with fasts := g.fasts, slows := g.slows, timers := g.timers, time := g.time }
  now : s.time.now ≤ g.time.now

theorem State.Converts.refl (s : State) : s.Converts s := ⟨rfl, le_rfl⟩

theorem State.Converts.trans {s g t : State} (h : s.Converts g) (k : g.Converts t) : s.Converts t :=
  ⟨by rw [k.eq, h.eq], h.now.trans k.now⟩

theorem State.Converts.reg {s g : State} (h : s.Converts g) : g.reg = s.reg := by rw [h.eq]; rfl

theorem State.Converts.unit {s g : State} (h : s.Converts g) : g.unit = s.unit := by rw [h.eq]; rfl

theorem State.Converts.waits {s g : State} (h : s.Converts g) : g.waits = s.waits := by rw [h.eq]

theorem State.Converts.swaps {s g : State} (h : s.Converts g) : g.swaps = s.swaps := by rw [h.eq]

theorem State.Converts.devState {s g : State} (h : s.Converts g) : g.dev.state = s.dev.state := by rw [h.eq]

theorem State.Converts.poised {s g : State} (h : s.Converts g) (u : Nat) : s.Poised g u :=
  ⟨by rw [h.unit], by rw [h.unit], by rw [h.eq], h.now⟩

theorem State.converts_every (s : State) (timer period : Nat) : s.Converts (s.every timer period) := ⟨rfl, le_max_left ..⟩

theorem State.converts_reach (s : State) (t : Nat) : s.Converts (s.reach t) := ⟨rfl, le_max_left ..⟩

theorem State.converts_setFast (s : State) (k : Nat) (c : Fast) : s.Converts (s.setFast k c) := ⟨rfl, le_rfl⟩

theorem State.converts_setSlow (s : State) (k : Nat) (c : Slow) : s.Converts (s.setSlow k c) := ⟨rfl, le_rfl⟩

/-! ## Triggers on the lines to a converter -/

/-- Where every trigger to a converter comes after a tick, none is the first up to it. -/
theorem State.firstTrigger_eq_none {s : State} {k upTo : Nat} (h : ∀ q t, .convert k q t ∈ s.events → upTo < t) :
    s.firstTrigger k upTo = none := by
  unfold State.firstTrigger
  generalize s.events = l at h
  induction l with
  | nil => rfl
  | cons e l ih =>
    have hl := ih fun q t hx => h q t (List.mem_cons_of_mem e hx)
    cases e with
    | convert c q t =>
      have hno : ¬ (c = k ∧ t ≤ upTo) := fun ⟨hk, ht⟩ => absurd (h q t (hk ▸ List.mem_cons_self)) (Nat.not_lt.mpr ht)
      simpa [hno] using hl
    | latch => exact hl

/-- With none up to a tick, none acts. -/
theorem State.takeTriggers_of_none {s : State} {k upTo : Nat} (h : s.firstTrigger k upTo = none) : s.takeTriggers k upTo = s := by
  refine State.forEach_rel (R := fun s t => s.firstTrigger k upTo = none → t = s) (fun _ _ => rfl) (fun s t u hst htu hs => ?_) _
    (fun t e ht => ?_) _ s h
  · have hts := hst hs
    exact (htu (hts ▸ hs)).trans hts
  · simp only [ht]

/-! ## Calibration of the fast converters (R227) -/

/-- The instant of a calibration: its turn noted, and the two background conversions over. -/
def State.calibrationTurn (s : State) (k : Nat) : State :=
  let due := if s.lastDone (Timer.calibration k) = 0 then s
    else s.reach (s.lastDone (Timer.calibration k) + s.regN (Item.ADCF.CAL_PERIOD k) * 1000000)
  (due.doneNow (Timer.calibration k)).reachTick (due.tick + 160)

theorem State.converts_calibrationTurn (s : State) (k : Nat) : s.Converts (s.calibrationTurn k) := by
  unfold State.calibrationTurn
  extract_lets due
  have hdue : s.Converts due := by
    unfold due
    split
    · exact .refl s
    · exact s.converts_reach _
  exact hdue.trans ⟨rfl, le_max_left ..⟩

/-- What CONVERTER_CALIBRATION does to a converter that is free, with no trigger on its lines (R227). -/
theorem execConverterCalibration_free {s : State} {k : Fin 16} (low high : BitVec 14) (hrun : (s.fast k).run = none)
    (hqueue : (s.fast k).queue = []) (hback : (s.fast k).background = none) (hevents : ∀ q tick, .convert k q tick ∉ s.events) :
    ∃ f, exec (.converterCalibration k low high) s = .next (s.act f) ∧ f s = (s.calibrationTurn k).calibrated k low high := by
  refine ⟨_, rfl, ?_⟩
  unfold State.calibrationTurn
  simp only
  generalize hg : (if s.lastDone (Timer.calibration k) = 0 then s else _) = due
  have hdue : due.events = s.events ∧ due.fast = s.fast := by
    rw [← hg]
    split <;> exact ⟨rfl, rfl⟩
  obtain ⟨hev, hfast⟩ := hdue
  have hnone : ∀ upTo, due.firstTrigger k upTo = none := fun upTo =>
    State.firstTrigger_eq_none fun q tick hmem => absurd (hev ▸ hmem) (hevents q tick)
  simp [State.takeTriggers_of_none (hnone _), hnone, hfast, Fast.idle, hrun, hqueue, hback]

/-- The corrections after an update (R227). -/
theorem State.calibrate_reads (s : State) (k : Nat) (gain ofs : Int) :
    (s.calibrate k gain ofs).reg (Item.ADCF.CAL_GAIN k)
        = iw (s.regI (Item.ADCF.CAL_GAIN k) + max (-30) (min 30 (gain - s.regI (Item.ADCF.CAL_GAIN k))))
      ∧ (s.calibrate k gain ofs).reg (Item.ADCF.CAL_OFS k)
        = iw (s.regI (Item.ADCF.CAL_OFS k) + max (-152) (min 152 (ofs - s.regI (Item.ADCF.CAL_OFS k)))) :=
  s.reg_setRegs_pair _ _ (Item.addr_ne (by decide))

/-- Measured corrections are taken over, and are a fault of the converter where they lie beyond the limits (R227). -/
theorem State.calibrated_of_corrections (s : State) (k : Nat) {low high : BitVec 14} {gain ofs : Int}
    (h : corrections low high = some (gain, ofs)) :
    s.calibrated k low high
      = if calibrationBad gain ofs then (s.calibrate k gain ofs).raise (unitOf Kind.fast k) .F 1 else s.calibrate k gain ofs := by
  unfold State.calibrated
  rw [h]

section
variable {s : State} (hc : s.Calm) {k : Fin 16} {low high : BitVec 14} {gain ofs : Int} (hrun : (s.fast k).run = none)
  (hqueue : (s.fast k).queue = []) (hback : (s.fast k).background = none) (hevents : ∀ q tick, .convert k q tick ∉ s.events)
  (hcorr : corrections low high = some (gain, ofs))
include hc hrun hqueue hback hevents hcorr

/-- R227: corrections within their limits are approached by at most a step. -/
theorem State.Calm.exec_converterCalibration_within (hgood : calibrationBad gain ofs = false) :
    ∃ t, exec (.converterCalibration k low high) s = .next t ∧ t.unit = s.unit
      ∧ t.reg (Item.ADCF.CAL_GAIN k) = iw (s.regI (Item.ADCF.CAL_GAIN k) + max (-30) (min 30 (gain - s.regI (Item.ADCF.CAL_GAIN k))))
      ∧ t.reg (Item.ADCF.CAL_OFS k) = iw (s.regI (Item.ADCF.CAL_OFS k) + max (-152) (min 152 (ofs - s.regI (Item.ADCF.CAL_OFS k)))) := by
  obtain ⟨f, hexec, hf⟩ := execConverterCalibration_free low high hrun hqueue hback hevents
  have hturn := s.converts_calibrationTurn k
  rw [State.calibrated_of_corrections _ _ hcorr, hgood, if_neg (by decide)] at hf
  rw [hexec]
  generalize s.calibrationTurn k = u at hf hturn
  have hregI : u.regI = s.regI := by unfold State.regI; rw [hturn.reg]
  have hreads := u.calibrate_reads k gain ofs
  rw [hregI] at hreads
  exact hc.next hf hturn.waits hturn.swaps hturn.devState ⟨hturn.unit, hreads⟩

/-- R227: corrections beyond their limits are a class-F fault of the converter. -/
theorem State.Calm.exec_converterCalibration_beyond (hbad : 10000 < gain.natAbs ∨ 20000 < ofs.natAbs)
    (hnote : s.Notices (unitOf Kind.fast k) 1) :
    ∃ t, exec (.converterCalibration k low high) s = .next t ∧ s.TakesUp t (unitOf Kind.fast k) .handling .F 1 := by
  obtain ⟨f, hexec, hf⟩ := execConverterCalibration_free low high hrun hqueue hback hevents
  rw [State.calibrated_of_corrections _ _ hcorr, if_pos (by simpa [calibrationBad] using hbad)] at hf
  have hposed : s.Poised ((s.calibrationTurn k).calibrate k gain ofs) (unitOf Kind.fast k) :=
    ((s.converts_calibrationTurn k).poised _).trans ((State.measures_setRegs ..).poised _)
  have hup := hposed.takesUp hnote false (by decide) (by rw [unitKind_unitOf (by omega)]; decide)
  exact ⟨_, hexec.trans (congrArg Host.Outcome.next (s.act_to f _ hf)), s.act_takesUp _ hc.live hup⟩

end

/-! ## Open-wire checks (R48, R242, R243) -/

/-- A second check beyond the threshold flags an input: its bit, and the warning of its unit (R242). -/
theorem State.Calm.flags_openWire {s g : State} (hc : s.Calm) {f : State → State} {u a i : Nat} {forced : Bool} (hg : s.Converts g)
    (hf : f s = (g.setReg a (s.reg a ||| nw (2 ^ i))).detect u .W 16 forced) (hu : unitKind u ≠ Kind.leg) (hnote : s.Notices u 16) :
    ∃ t, (.next (s.act f) : Host.Outcome State Fault Refusal) = .next t ∧ t.reg a = s.reg a ||| nw (2 ^ i) ∧ t.Shows u .idle .W 16
      ∧ g.time.now ≤ t.time.now := by
  have hwarns := (g.setReg a (s.reg a ||| nw (2 ^ i))).warns_detect u 16 forced hu
  have hshows := ((hg.poised u).trans ((g.measures_setReg a (s.reg a ||| nw (2 ^ i))).poised u)).shows hnote forced
  have hread := g.reg_setReg_same a (s.reg a ||| nw (2 ^ i))
  generalize hv : g.setReg a (s.reg a ||| nw (2 ^ i)) = v at *
  have htime : v.time = g.time := by rw [← hv]; rfl
  have hrest : v.waits = s.waits ∧ v.swaps = s.swaps ∧ v.dev.state = s.dev.state := by rw [← hv, hg.eq]; exact ⟨rfl, rfl, rfl⟩
  obtain ⟨hwaits, hswaps, hstate⟩ := hrest
  generalize v.detect u .W 16 forced = t at *
  have hregs : t.reg = v.reg := by rw [hwarns]; rfl
  refine hc.next hf (by rw [hwarns]; exact hwaits) (by rw [hwarns]; exact hswaps) (by rw [hwarns]; exact hstate) ⟨?_, hshows, ?_⟩
  · rw [State.keepLive_reg', hregs, hread]
  · have : t.time = g.time := by rw [hwarns]; exact htime
    exact this ▸ le_max_right ..

/-- A check within the threshold after one such clears the flag (R242). -/
theorem State.Calm.clears_openWire {s g : State} (hc : s.Calm) {f : State → State} {a i : Nat} (hg : s.Converts g)
    (hf : f s = g.setReg a (s.reg a &&& ~~~(nw (2 ^ i)))) :
    ∃ t, (.next (s.act f) : Host.Outcome State Fault Refusal) = .next t ∧ t.reg a = s.reg a &&& ~~~(nw (2 ^ i)) ∧ t.unit = s.unit :=
  hc.next hf hg.waits hg.swaps hg.devState
    ⟨(State.keepLive_reg' ..).trans (State.reg_setReg_same ..), hg.unit⟩

/-- A row that leaves a calm state alone. -/
theorem State.Calm.rests {s : State} (hc : s.Calm) {f : State → State} (hf : f s = s) :
    ∃ t, (.next (s.act f) : Host.Outcome State Fault Refusal) = .next t ∧ t.reg = s.reg ∧ t.unit = s.unit :=
  hc.next hf rfl rfl rfl ⟨rfl, rfl⟩

/-- A fast input with the outcome of a check counted (R242). -/
def State.fastChecked (s : State) (k i : Nat) (n : Nat × Nat) : State :=
  s.setFast k { s.fast k with owBad := KMap.put (fun _ => 0) (s.fast k).owBad i n.1, owGood := KMap.put (fun _ => 0) (s.fast k).owGood i n.2 }

/-- An integrating input with the outcome of a check counted (R242). -/
def State.slowChecked (s : State) (k i : Nat) (n : Nat × Nat) : State :=
  s.setSlow k { s.slow k with owBad := KMap.put (fun _ => 0) (s.slow k).owBad i n.1, owGood := KMap.put (fun _ => 0) (s.slow k).owGood i n.2 }

theorem State.checkFast_second_bad {s : State} {k i : Nat} {code : BitVec 14} (hopen : s.fastOpen k i code = true)
    (hbad : KMap.get (fun _ => 0) (s.fast k).owBad i = 1) (hflag : bitOf (s.reg (Item.ADCF.OW_STATUS k)) i = false) :
    s.checkFast k i code = ((s.fastChecked k i (2, 0)).setReg (Item.ADCF.OW_STATUS k) (s.reg (Item.ADCF.OW_STATUS k) ||| nw (2 ^ i))).detect
      (fastInputUnit k i) .W 16 (s.forced (fastInputUnit k i) 0) := by
  unfold State.checkFast
  simp only [hopen, hbad, hflag, owStep]
  rfl

theorem State.checkFast_second_good {s : State} {k i : Nat} {code : BitVec 14} (hopen : s.fastOpen k i code = false)
    (hgood : KMap.get (fun _ => 0) (s.fast k).owGood i = 1) :
    s.checkFast k i code
      = (s.fastChecked k i (0, 2)).setReg (Item.ADCF.OW_STATUS k) (s.reg (Item.ADCF.OW_STATUS k) &&& ~~~(nw (2 ^ i))) := by
  unfold State.checkFast
  simp only [hopen, hgood, owStep]
  rfl

theorem State.checkSlow_second_bad {s : State} {k i : Nat} {code : Int} (hopen : s.slowOpen k i code = true)
    (hbad : KMap.get (fun _ => 0) (s.slow k).owBad i = 1) (hflag : bitOf (s.reg (Item.ADCI.OW_STATUS k)) i = false) :
    s.checkSlow k i code = ((s.slowChecked k i (2, 0)).setReg (Item.ADCI.OW_STATUS k) (s.reg (Item.ADCI.OW_STATUS k) ||| nw (2 ^ i))).detect
      (unitOf Kind.slowInput (32 * k + i)) .W 16 (s.forced (unitOf Kind.slowInput (32 * k + i)) 0) := by
  unfold State.checkSlow
  simp only [hopen, hbad, hflag, owStep]
  rfl

/-- What OPEN_WIRE_CHECK does to a fast input (R48, R242). -/
theorem exec_openWireCheck_fast {x : Fin 192} (hx : x.val < 128) (code : Int) (s : State) :
    ∃ f, exec (.openWireCheck x code) s = .next (s.act f) ∧ f s =
      if bitOf (s.reg (Item.ADCF.OW_MASK (x.val / 8))) (x.val % 8) ∧ !s.sparedInput (x.val / 8) (x.val % 8) then
        (s.every (Timer.openWire x) (s.regN (Item.ADCF.OW_PERIOD (x.val / 8)) * 1000000)).checkFast (x.val / 8) (x.val % 8) (BitVec.ofInt 14 code)
      else s :=
  ⟨_, rfl, if_pos hx⟩

/-- What OPEN_WIRE_CHECK does to an integrating input (R242, R243). -/
theorem exec_openWireCheck_slow {x : Fin 192} (hx : 128 ≤ x.val) (code : Int) (s : State) :
    ∃ f, exec (.openWireCheck x code) s = .next (s.act f) ∧ f s =
      if bitOf (s.reg (Item.ADCI.OW_MASK ((x.val - 128) / 32))) ((x.val - 128) % 32) ∧ s.regN (Item.ADCI.SCAN_MODE ((x.val - 128) / 32)) = 1
          ∧ (s.slow ((x.val - 128) / 32)).window = none then
        (s.every (Timer.openWire x) (s.regN (Item.ADCI.OW_PERIOD ((x.val - 128) / 32)) * 1000000)).checkSlow ((x.val - 128) / 32)
          ((x.val - 128) % 32) code
      else s :=
  ⟨_, rfl, if_neg (Nat.not_lt.mpr hx)⟩

/-- Settles O20: a free converter's calibration steps to the measured corrections and is checked against its limits (R227); the second
check of a kind in a row moves an input's flag (R242), and where the check is skipped the row leaves everything (R48, R243). The split of a
code step is assumption log 14. -/
theorem convertersCheckThemselvesAndTheirWires : Obligations.ConvertersCheckThemselvesAndTheirWires := by
  intro s hc
  refine ⟨fun k low high gain ofs hrun hqueue hback hevents hcorr =>
    ⟨hc.exec_converterCalibration_within hrun hqueue hback hevents hcorr,
      hc.exec_converterCalibration_beyond hrun hqueue hback hevents hcorr⟩, fun x code hx => ?_, fun x code hx => ?_⟩
  · obtain ⟨f, hexec, hf⟩ := exec_openWireCheck_fast hx code s
    rw [hexec]
    refine ⟨fun hspared => hc.rests (hf.trans (if_neg (by simp [hspared]))),
      fun hmask hspared => ⟨fun hapart hbad hflag hnote => ?_, fun hapart hforce hgood => ?_⟩⟩
    · have hopen : s.fastOpen (x.val / 8) (x.val % 8) (BitVec.ofInt 14 code) = true := (Bool.or_eq_true _ _).mpr (.inr (decide_eq_true hapart))
      have hcheck := hf.trans ((if_pos ⟨hmask, by simp [hspared]⟩).trans
        (State.checkFast_second_bad (s := s.every (Timer.openWire x) _) hopen hbad hflag))
      obtain ⟨t, ht, hreg, hshows, hnow⟩ :=
        hc.flags_openWire ((s.converts_every ..).trans (State.converts_setFast ..)) hcheck
          (by rw [fastInputUnit, unitKind_unitOf (by omega)]; decide) hnote
      exact ⟨t, ht, hreg, hshows, le_trans (le_max_right ..) hnow⟩
    · have hopen : s.fastOpen (x.val / 8) (x.val % 8) (BitVec.ofInt 14 code) = false :=
        (Bool.or_eq_false_iff).mpr ⟨hforce, decide_eq_false (Nat.not_lt.mpr hapart)⟩
      exact hc.clears_openWire ((s.converts_every ..).trans (State.converts_setFast ..))
        (hf.trans ((if_pos ⟨hmask, by simp [hspared]⟩).trans (State.checkFast_second_good (s := s.every (Timer.openWire x) _) hopen hgood)))
  · obtain ⟨f, hexec, hf⟩ := exec_openWireCheck_slow hx code s
    rw [hexec]
    refine ⟨fun hskip => ?_, fun hmask hmode hgap hapart hbad hflag hnote => ?_⟩
    · refine hc.rests (hf.trans (if_neg ?_))
      rintro ⟨-, hmode, hgap⟩
      rcases hskip with hne | hsome
      · exact hne hmode
      · simp [hgap] at hsome
    · have hopen : s.slowOpen ((x.val - 128) / 32) ((x.val - 128) % 32) code = true :=
        (Bool.or_eq_true _ _).mpr (.inr (decide_eq_true hapart))
      have hcheck := hf.trans ((if_pos ⟨hmask, hmode, hgap⟩).trans
        (State.checkSlow_second_bad (s := s.every (Timer.openWire x) _) hopen hbad hflag))
      obtain ⟨t, ht, hreg, hshows, -⟩ :=
        hc.flags_openWire ((s.converts_every ..).trans (State.converts_setSlow ..)) hcheck
          (by rw [unitKind_unitOf (by omega)]; decide) hnote
      exact ⟨t, ht, hreg, hshows⟩

end Sys2Proof.Machine

namespace Sys2Proof.Machine

/-! ## The windows of the integrating converters (R234 to R237) -/

/-- The preparing part of a converter's row may write items besides. -/
structure State.Gauges (s g : State) : Prop where
  eq : g = { s with regs := g.regs, fasts := g.fasts, slows := g.slows, timers := g.timers, time := g.time }
  now : s.time.now ≤ g.time.now

theorem State.Converts.gauges {s g : State} (h : s.Converts g) : s.Gauges g := ⟨by rw [h.eq], h.now⟩

theorem State.Gauges.trans {s g t : State} (h : s.Gauges g) (k : g.Gauges t) : s.Gauges t :=
  ⟨by rw [k.eq, h.eq], h.now.trans k.now⟩

theorem State.gauges_setReg (s : State) (a : Nat) (w : Word) : s.Gauges (s.setReg a w) := ⟨rfl, le_rfl⟩

theorem State.Gauges.unit {s g : State} (h : s.Gauges g) : g.unit = s.unit := by rw [h.eq]; rfl

theorem State.Gauges.poised {s g : State} (h : s.Gauges g) (u : Nat) : s.Poised g u :=
  ⟨by rw [h.unit], by rw [h.unit], by rw [h.eq], h.now⟩

/-- What a row reports besides: fault statuses, streams, messages. -/
def State.Notifies (s t : State) : Prop :=
  t = { s with units := t.units, streams := t.streams, slots := t.slots, tx := t.tx, cans := t.cans, dev := { s.dev with free := t.dev.free } }

theorem State.Notifies.refl (s : State) : s.Notifies s := rfl

theorem State.Notifies.trans {s t u : State} (h : s.Notifies t) (k : t.Notifies u) : s.Notifies u := by
  unfold State.Notifies at *; rw [k, h]

theorem State.Warns.notifies {s t : State} (h : s.Warns t) : s.Notifies t := by
  unfold State.Warns at h; unfold State.Notifies; rw [h]

theorem State.notifies_streamFlush (s : State) (x : Stream) : s.Notifies (s.streamFlush x) := by
  unfold State.streamFlush
  extract_lets x1 s1 bytes
  have h1 : s.Notifies s1 := rfl
  split
  · exact .refl s
  · split
    · exact h1.trans (s1.talks_sendAt ..).warns.notifies
    · exact h1

theorem State.notifies_streamRow (s : State) (x : Stream) : s.Notifies (s.streamRow x) := by
  unfold State.streamRow
  split
  · rfl
  · extract_lets row full s1
    have h1 : s.Notifies s1 := by
      unfold s1
      split
      · exact s.notifies_streamFlush x
      · exact .refl s
    exact h1.trans rfl

theorem State.notifies_sampleSlow (s : State) (n : Nat) : s.Notifies (s.sampleSlow n) :=
  State.forEach_rel State.Notifies.refl (fun _ _ _ => State.Notifies.trans) _ State.notifies_streamRow _ s

/-- A calm state's command that prepares and then reports does just that. -/
theorem State.Calm.next_notified {s g t : State} (hc : s.Calm) (hg : s.Gauges g) (ht : g.Notifies t) {f : State → State} (hf : f s = t)
    {P : State → Prop} (hP : P (s.keepLive t)) :
    ∃ t, (.next (s.act f) : Host.Outcome State Fault Refusal) = .next t ∧ P t :=
  hc.next hf (by rw [ht, hg.eq]) (by rw [ht, hg.eq]) (by rw [ht, hg.eq]) hP

/-- After such a command items, converters and device time are as the preparing part left them. -/
theorem State.keepLive_notified {s g t : State} (hg : s.Gauges g) (ht : g.Notifies t) :
    (s.keepLive t).reg = g.reg ∧ (s.keepLive t).slow = g.slow ∧ (s.keepLive t).time.now = g.time.now := by
  have htime : t.time.now = g.time.now := by rw [ht]
  have hreg : t.reg = g.reg := by rw [ht]; rfl
  have hslow : t.slow = g.slow := by rw [ht]; rfl
  exact ⟨hreg, hslow, (congrArg (Nat.max s.time.now) htime).trans (Nat.max_eq_right hg.now)⟩

/-! ### Mains lock (R235) -/

theorem State.converts_closeWindow (s : State) (n stop : Nat) : s.Converts (s.closeWindow n stop) := by
  unfold State.closeWindow
  simp only
  split
  · exact .refl s
  · exact s.converts_setSlow ..

/-- A crossing bounds windows alone where nothing waits for a boundary. -/
theorem State.converts_crossWindow {s : State} (hw : s.waits = []) (n time : Nat) : s.Converts (s.crossWindow n time) := by
  unfold State.crossWindow
  extract_lets c s1 c1
  have h1 : s.Converts s1 := by
    unfold s1
    split
    · split
      · exact s.converts_closeWindow ..
      · split
        · exact s.converts_closeWindow ..
        · exact .refl s
    · exact .refl s
  split
  · rw [State.boundary_nothing (s1.setSlow n _) _ _ (h1.waits.trans hw)]
    exact h1.trans (s1.converts_setSlow ..)
  · exact h1

/-- The windows of both converters bounded by a crossing: the mains stays locked (R235). -/
theorem State.crossWindows_locked {s u : State} {time : Nat} (hw : s.waits = []) (hu : s.Gauges u) (hlock : u.mainsLocked = true) :
    s.Gauges ((u.crossWindow 0 time).crossWindow 1 time) ∧ ((u.crossWindow 0 time).crossWindow 1 time).mainsLocked = true := by
  have hwaits : u.waits = [] := by rw [hu.eq]; exact hw
  have h0 := State.converts_crossWindow hwaits 0 time
  have h1 := h0.trans (State.converts_crossWindow (h0.waits.trans hwaits) 1 time)
  refine ⟨hu.trans h1.gauges, ?_⟩
  unfold State.mainsLocked State.regN
  rw [h1.reg]
  exact hlock

/-- ADCI[0] after an unlock, and the items of the mains (R235). -/
def State.mainsOff (s : State) : State :=
  (s.setSlow 0 { s.slow 0 with
      good := 0, crossing := none, valid := none, mains := false, window := some s.time.now, urgent := none
      passLeft := Nat.max 1 (s.slow 0).passLeft }).setRegs [(Item.ADCI.MAINS_STATE 0, 0), (Item.ADCI.MAINS_FREQ 0, 0)]

/-- Both converters after an unlock: a mains window of ADCI[1] gives way to a fixed one (R235). -/
def State.unlocked (s : State) : State :=
  if (s.mainsOff.slow 1).mains then
    s.mainsOff.setSlow 1 { s.mainsOff.slow 1 with mains := false, window := some s.time.now }
  else s.mainsOff

theorem State.mainsUnlock_of_locked {s : State} (h : s.mainsLocked = true) :
    s.mainsUnlock = if s.dev.state = .charge then s.unlocked.raise (unitOf Kind.slow 0) .W 16 else s.unlocked := by
  have hstate : s.unlocked.dev.state = s.dev.state := by
    unfold State.unlocked
    simp only
    split <;> rfl
  unfold State.mainsUnlock
  rw [if_pos h]
  simp only [← hstate]
  rfl

theorem State.mainsOff_spec (s : State) : s.Gauges s.mainsOff ∧ s.mainsOff.mainsLocked = false ∧ s.mainsOff.reg (Item.ADCI.MAINS_FREQ 0) = 0
    ∧ (s.mainsOff.slow 0).window = some s.time.now := by
  unfold State.mainsOff
  generalize hu : s.setSlow 0 _ = u
  have hwindow : (u.slow 0).window = some s.time.now := by rw [← hu, State.slow_setSlow_same]
  obtain ⟨hstate, hfreq⟩ := u.reg_setRegs_pair (a := Item.ADCI.MAINS_STATE 0) (b := Item.ADCI.MAINS_FREQ 0) 0 0 (Item.addr_ne (by decide))
  refine ⟨?_, ?_, hfreq, hwindow⟩
  · rw [← hu]
    exact ⟨rfl, le_rfl⟩
  · unfold State.mainsLocked State.regN
    rw [hstate]
    rfl

theorem State.unlocked_spec (s : State) : s.Gauges s.unlocked ∧ s.unlocked.mainsLocked = false ∧ s.unlocked.reg (Item.ADCI.MAINS_FREQ 0) = 0
    ∧ (s.unlocked.slow 0).window = some s.unlocked.time.now := by
  obtain ⟨hgauges, hlock, hfreq, hwindow⟩ := s.mainsOff_spec
  unfold State.unlocked
  split
  · exact ⟨hgauges.trans (State.converts_setSlow ..).gauges, hlock, hfreq,
      (congrArg Slow.window (State.slow_setSlow_other _ _ _ _ (by decide))).trans hwindow⟩
  · exact ⟨hgauges, hlock, hfreq, hwindow⟩

/-- R235: what unlocking the mains leaves, with its warning in CHARGE. -/
theorem State.Calm.unlocks {s u : State} (hc : s.Calm) (hu : s.Gauges u) (hlock : u.mainsLocked = true) {f : State → State}
    (hf : f s = u.mainsUnlock) (hnote : s.dev.state = .charge → s.Notices (unitOf Kind.slow 0) 16) :
    ∃ t, (.next (s.act f) : Host.Outcome State Fault Refusal) = .next t ∧ t.mainsLocked = false ∧ t.reg (Item.ADCI.MAINS_FREQ 0) = 0
      ∧ (t.slow 0).window = some t.time.now ∧ u.time.now ≤ t.time.now ∧ (s.dev.state = .charge → t.Shows (unitOf Kind.slow 0) .idle .W 16)
      ∧ (s.dev.state ≠ .charge → t.unit = s.unit) := by
  obtain ⟨hgauges, hunlocked, hfreq, hwindow⟩ := u.unlocked_spec
  have hstate : u.dev.state = s.dev.state := by rw [hu.eq]
  rw [State.mainsUnlock_of_locked hlock, hstate] at hf
  have hv := hu.trans hgauges
  have hnow := hgauges.now
  generalize u.unlocked = v at *
  have hnotifies : v.Notifies (if s.dev.state = .charge then v.raise (unitOf Kind.slow 0) .W 16 else v) := by
    split
    · exact (v.warns_detect _ 16 false (by decide)).notifies
    · exact .refl v
  refine hc.next_notified hv hnotifies hf ?_
  obtain ⟨hreg, hslow, htime⟩ := State.keepLive_notified hv hnotifies
  have hlocked : (s.keepLive (if s.dev.state = .charge then v.raise (unitOf Kind.slow 0) .W 16 else v)).mainsLocked = v.mainsLocked := by
    unfold State.mainsLocked State.regN
    rw [hreg]
  rw [hreg, hslow, htime, hlocked]
  refine ⟨hunlocked, hfreq, hwindow, hnow, fun hcharge => ?_, fun hother => ?_⟩
  · rw [if_pos hcharge]
    exact (hv.poised _).shows (hnote hcharge) false
  · rw [if_neg hother]
    exact hv.unit

/-- The period that a crossing ends (R235), 0 where none came before. -/
def State.mainsPeriod (s : State) (time : Nat) : Int :=
  match (s.slow 0).crossing with
  | some x => (time : Int) - x
  | none => 0

/-- Whether that period is one of 65 to 45 Hz (R235). -/
def State.mainsSound (s : State) (time : Nat) : Bool :=
  decide (15385000 ≤ s.mainsPeriod time) && decide (s.mainsPeriod time ≤ 22222000)

/-- A crossing counted (R235): its time, the run of good periods, the last valid one. -/
def State.crossed (s : State) (time rms : Nat) : State :=
  (s.reach time).setSlow 0 { s.slow 0 with
    crossing := some time
    good := if s.mainsSound time && decide (s.regN (Item.ADCI.MAINS_MIN 0) ≤ rms) then (s.slow 0).good + 1 else 0
    valid := if s.mainsSound time || (s.slow 0).valid.isNone then some time else (s.slow 0).valid }

/-- The frequency that a crossing shows, in mHz (R235). -/
def State.mainsFreq (s : State) (time : Nat) : Word := nw (roundDiv 1000000000000 (s.mainsPeriod time)).toNat

/-- A crossing of the locked mains counted (R235). -/
def State.crossedLocked (s : State) (time rms : Nat) : State :=
  if s.mainsSound time then (s.crossed time rms).setReg (Item.ADCI.MAINS_FREQ 0) (s.mainsFreq time) else s.crossed time rms

theorem State.converts_crossed (s : State) (time rms : Nat) : s.Converts (s.crossed time rms) :=
  (s.converts_reach time).trans (State.converts_setSlow ..)

theorem State.crossedLocked_spec (s : State) (time rms : Nat) :
    s.Gauges (s.crossedLocked time rms) ∧ (s.crossedLocked time rms).mainsLocked = s.mainsLocked := by
  have h := (s.converts_crossed time rms).gauges
  unfold State.crossedLocked
  split
  · exact ⟨h.trans (State.gauges_setReg ..),
      congrArg (fun w : Word => decide (w.toNat = 2)) (State.reg_setReg_other _ _ _ _ (Item.addr_ne (by decide)))⟩
  · exact ⟨h, rfl⟩

/-- What MAINS_CROSSING does on the phase of MAINS_REF beyond the hysteresis (R235). -/
theorem exec_mainsCrossing_counts {s : State} {phase : Fin 3} {time swing rms : Nat} (hen : s.regN (Item.ADCI.MAINS_EN 0) ≠ 0)
    (href : s.regN (Item.ADCI.MAINS_REF 0) = phase.val) (hswing : s.regN (Item.ADCI.MAINS_MIN 0) ≤ swing * 50) :
    ∃ f, exec (.mainsCrossing phase time swing rms) s = .next (s.act f) ∧ f s =
      (let u := s.crossed time rms
       let good := (u.slow 0).good
       if s.mainsLocked then
         let v := ((s.crossedLocked time rms).crossWindow 0 time).crossWindow 1 time
         if rms < s.regN (Item.ADCI.MAINS_MIN 0) then v.mainsUnlock else v
       else if 4 ≤ good then u.setRegs [(Item.ADCI.MAINS_STATE 0, 2), (Item.ADCI.MAINS_FREQ 0, s.mainsFreq time)]
       else u.setReg (Item.ADCI.MAINS_STATE 0) (if 0 < good then 1 else 0)) := by
  refine ⟨_, rfl, (if_neg (by simp [hen, href, hswing])).trans ?_⟩
  unfold State.crossed
  simp only [State.slow_setSlow_same]
  rfl

section
variable {s : State} (hc : s.Calm) {phase : Fin 3} {time swing rms : Nat} (hen : s.regN (Item.ADCI.MAINS_EN 0) ≠ 0)
  (href : s.regN (Item.ADCI.MAINS_REF 0) = phase.val) (hswing : s.regN (Item.ADCI.MAINS_MIN 0) ≤ swing * 50)
include hc hen href hswing

/-- R235: the fourth good period in a row locks. -/
theorem State.Calm.exec_mainsCrossing_locks {x : Nat} (hunlocked : s.mainsLocked = false) (hx : (s.slow 0).crossing = some x)
    (hgood : (s.slow 0).good = 3) (hlo : 15385000 ≤ time - x) (hhi : time - x ≤ 22222000) (hrms : s.regN (Item.ADCI.MAINS_MIN 0) ≤ rms) :
    ∃ t, exec (.mainsCrossing phase time swing rms) s = .next t ∧ t.mainsLocked = true ∧ (t.slow 0).crossing = some time
      ∧ t.reg (Item.ADCI.MAINS_FREQ 0) = nw (roundDiv 1000000000000 (time - x : Nat)).toNat ∧ t.unit = s.unit := by
  obtain ⟨f, hexec, hf⟩ := exec_mainsCrossing_counts (rms := rms) hen href hswing
  have hperiod : s.mainsPeriod time = (time - x : Nat) := by
    unfold State.mainsPeriod
    rw [hx]
    show (time : Int) - x = _
    omega
  have hsound : s.mainsSound time = true := by
    unfold State.mainsSound
    rw [hperiod, Bool.and_eq_true, decide_eq_true_eq, decide_eq_true_eq]
    omega
  have hslow : (s.crossed time rms).slow 0 = { s.slow 0 with crossing := some time, good := 4, valid := some time } := by
    unfold State.crossed
    rw [State.slow_setSlow_same, hsound, hgood, decide_eq_true hrms]
    rfl
  have hfour : ((s.crossed time rms).slow 0).good = 4 := congrArg Slow.good hslow
  replace hf := hf.trans ((if_neg (by simp [hunlocked])).trans (if_pos hfour.ge))
  have hcrossed := s.converts_crossed time rms
  rw [hexec]
  generalize s.crossed time rms = u at *
  obtain ⟨hstate, hfreq⟩ := u.reg_setRegs_pair 2 (s.mainsFreq time)
    (Item.addr_ne (by decide) : Item.ADCI.MAINS_STATE 0 ≠ Item.ADCI.MAINS_FREQ 0)
  refine hc.next hf hcrossed.waits hcrossed.swaps hcrossed.devState ⟨?_, ?_, ?_, hcrossed.unit⟩
  · exact congrArg (fun w : Word => decide (w.toNat = 2)) hstate
  · exact congrArg Slow.crossing hslow
  · rw [← hperiod]
    exact hfreq

/-- R235: a weak crossing of the locked mains unlocks. -/
theorem State.Calm.exec_mainsCrossing_unlocks (hlocked : s.mainsLocked = true) (hrms : rms < s.regN (Item.ADCI.MAINS_MIN 0))
    (hnote : s.dev.state = .charge → s.Notices (unitOf Kind.slow 0) 16) :
    ∃ t, exec (.mainsCrossing phase time swing rms) s = .next t ∧ t.mainsLocked = false ∧ t.reg (Item.ADCI.MAINS_FREQ 0) = 0
      ∧ (s.dev.state = .charge → t.Shows (unitOf Kind.slow 0) .idle .W 16) ∧ (s.dev.state ≠ .charge → t.unit = s.unit) := by
  obtain ⟨f, hexec, hf⟩ := exec_mainsCrossing_counts (rms := rms) hen href hswing
  obtain ⟨hgauges, hlock⟩ := s.crossedLocked_spec time rms
  obtain ⟨hu, hulock⟩ := State.crossWindows_locked (time := time) hc.waits hgauges (hlock.trans hlocked)
  obtain ⟨t, ht, hunlocked, hfreq, -, -, hshows, hunit⟩ :=
    hc.unlocks hu hulock (hf.trans ((if_pos hlocked).trans (if_pos hrms))) hnote
  exact ⟨t, hexec.trans ht, hunlocked, hfreq, hshows, hunit⟩

end

/-- R235: 44.44 ms without a valid crossing unlock. -/
theorem State.Calm.exec_mainsUnlockTimeout_unlocks {s : State} (hc : s.Calm) {x : Nat} (hx : (s.slow 0).valid = some x)
    (hlocked : s.mainsLocked = true) (hnote : s.dev.state = .charge → s.Notices (unitOf Kind.slow 0) 16) :
    ∃ t, exec .mainsUnlockTimeout s = .next t ∧ t.mainsLocked = false ∧ x + 44440000 ≤ t.time.now
      ∧ (t.slow 0).window = some t.time.now ∧ (s.dev.state = .charge → t.Shows (unitOf Kind.slow 0) .idle .W 16) := by
  have hwork : ∃ f, exec .mainsUnlockTimeout s = .next (s.act f) ∧ f s = (s.reach (x + 44440000)).mainsUnlock := ⟨_, rfl, by simp only [hx]⟩
  obtain ⟨f, hexec, hf⟩ := hwork
  obtain ⟨t, ht, hunlocked, -, hwindow, hnow, hshows, -⟩ := hc.unlocks (s.converts_reach (x + 44440000)).gauges hlocked hf hnote
  exact ⟨t, hexec.trans ht, hunlocked, le_trans (le_max_right ..) hnow, hwindow, hshows⟩

/-! ### Windows (R234, R236, R237) -/

/-- The turn of a scan that an idle converter takes before its window (R234): a periodic one waits for its period and begins a pass. -/
def State.scanTurn (s : State) (n : Nat) : State :=
  if s.regN (Item.ADCI.SCAN_MODE n) = 0 then s
  else (s.every (Timer.scan n) (s.regN (Item.ADCI.SCAN_PERIOD n) * 1000000)).setSlow n
    { s.slow n with passLeft := s.regN (Item.ADCI.SCAN_LEN n) }

theorem State.scanTurn_spec (s : State) (n : Nat) :
    s.Converts (s.scanTurn n) ∧ (s.regN (Item.ADCI.SCAN_MODE n) ≠ 0 → ((s.scanTurn n).slow n).passLeft = s.regN (Item.ADCI.SCAN_LEN n)
      ∧ s.lastDone (Timer.scan n) + s.regN (Item.ADCI.SCAN_PERIOD n) * 1000000 ≤ (s.scanTurn n).time.now) := by
  unfold State.scanTurn
  split
  · next h => exact ⟨.refl s, fun hne => absurd h hne⟩
  · exact ⟨(s.converts_every ..).trans (State.converts_setSlow ..),
      fun _ => ⟨congrArg Slow.passLeft (State.slow_setSlow_same ..), le_max_right ..⟩⟩

/-- Without mains lock an idle converter begins a fixed window with its turn (R234). -/
theorem State.beginWindow_unlocked {s : State} (n : Nat) (hw : s.waits = []) (hlock : s.mainsLocked = false) :
    s.beginWindow n = (s.scanTurn n).setSlow n
      { (s.scanTurn n).slow n with window := some (s.scanTurn n).time.now, mains := false, urgent := none } := by
  have hturn := (s.scanTurn_spec n).1
  have hunlocked : (s.scanTurn n).mainsLocked = false := by
    unfold State.mainsLocked State.regN at hlock ⊢
    rw [hturn.reg]
    exact hlock
  have hboundary := fun c b tick => ((s.scanTurn n).setSlow n c).boundary_nothing b tick (hturn.waits.trans hw)
  rw [← hboundary _ (.slow n) (s.scanTurn n).tick]
  exact (if_neg (by simp [hlock])).trans (if_neg (Bool.eq_false_iff.mp hunlocked))

/-- R234: an idle converter begins a window, of a periodic scan with the pass of its period. -/
theorem State.Calm.exec_windowEnd_begins {s : State} (hc : s.Calm) (n : Fin 2) (w : WindowMeans) (hclosed : (s.slow n).closed = [])
    (hwindow : (s.slow n).window = none) (hlock : s.mainsLocked = false) :
    ∃ t, exec (.windowEnd n w) s = .next t ∧ (t.slow n).window = some t.time.now ∧ (t.slow n).mains = false ∧ t.reg = s.reg
      ∧ t.unit = s.unit ∧ (s.regN (Item.ADCI.SCAN_MODE n) ≠ 0 → (t.slow n).passLeft = s.regN (Item.ADCI.SCAN_LEN n)
        ∧ s.lastDone (Timer.scan n) + s.regN (Item.ADCI.SCAN_PERIOD n) * 1000000 ≤ t.time.now) := by
  have hwork : ∃ f, exec (.windowEnd n w) s = .next (s.act f) ∧ f s = s.beginWindow n := ⟨_, rfl, by simp only [hclosed, hwindow]⟩
  obtain ⟨f, hexec, hf⟩ := hwork
  rw [State.beginWindow_unlocked _ hc.waits hlock] at hf
  obtain ⟨hturn, hpass⟩ := s.scanTurn_spec n
  rw [hexec]
  generalize s.scanTurn n = u at *
  have hv := hturn.trans (u.converts_setSlow n { u.slow n with window := some u.time.now, mains := false, urgent := none })
  have hslow := u.slow_setSlow_same n { u.slow n with window := some u.time.now, mains := false, urgent := none }
  have htime : (u.setSlow n { u.slow n with window := some u.time.now, mains := false, urgent := none }).time = u.time := rfl
  generalize u.setSlow n _ = v at *
  refine hc.next_notified hv.gauges (.refl v) hf ?_
  obtain ⟨hreg, hslows, hnow⟩ := State.keepLive_notified hv.gauges (.refl v)
  rw [hreg, hslows, hnow, hslow, htime]
  exact ⟨rfl, rfl, hv.reg, hv.unit, hpass⟩

/-- A window taken from those that wait, its end come (R236). -/
def State.dequeued (s : State) (n : Nat) (rest : List Window) (stop : Nat) : State :=
  (s.setSlow n { s.slow n with closed := rest }).reach stop

theorem State.converts_dequeued (s : State) (n : Nat) (rest : List Window) (stop : Nat) : s.Converts (s.dequeued n rest stop) :=
  (s.converts_setSlow ..).trans (State.converts_reach ..)

theorem State.slow_dequeued (s : State) (n : Nat) (rest : List Window) (stop : Nat) :
    (s.dequeued n rest stop).slow n = { s.slow n with closed := rest } := s.slow_setSlow_same n _

/-- The oldest ended window is published, where nothing waits for the boundary that follows. -/
theorem State.publishNext_of_closed {s : State} {n : Nat} {x : Window} {rest : List Window} {w : WindowMeans}
    (hclosed : (s.slow n).closed = x :: rest) (hw : ((s.dequeued n rest x.stop).publish n x w).waits = []) :
    s.publishNext n w = (s.dequeued n rest x.stop).publish n x w := by
  unfold State.publishNext
  simp only [hclosed]
  exact (if_congr Iff.rfl (State.boundary_nothing _ _ _ hw) rfl).trans (ite_self _)

/-- What WINDOW_END does with a window that waits (R236). -/
theorem exec_windowEnd_publishes {s : State} {n : Fin 2} (w : WindowMeans) {x : Window} {rest : List Window}
    (hclosed : (s.slow n).closed = x :: rest) :
    ∃ f, exec (.windowEnd n w) s = .next (s.act f) ∧ f s = s.publishNext n w := ⟨_, rfl, by simp only [hclosed]⟩

theorem unitKind_slow (n : Fin 2) : unitKind (unitOf Kind.slow n) = Kind.slow := unitKind_unitOf (by omega)

/-- R246: a reference beyond its limit is a class-F fault of the converter. -/
theorem State.Calm.exec_windowEnd_badReference {s : State} (hc : s.Calm) {n : Fin 2} {w : WindowMeans} {x : Window} {rest : List Window}
    (hclosed : (s.slow n).closed = x :: rest) (hninth : x.ninth = 31) (hurgent : x.urgent = none) (href : 1000 < w.refPpm.natAbs)
    (hnote : s.Notices (unitOf Kind.slow n) 1) :
    ∃ t, exec (.windowEnd n w) s = .next t ∧ s.TakesUp t (unitOf Kind.slow n) .handling .F 1 := by
  obtain ⟨f, hexec, hf⟩ := exec_windowEnd_publishes w hclosed
  have hu := s.converts_dequeued n rest x.stop
  have hkind : unitKind (unitOf Kind.slow n) ≠ Kind.sheaf := by rw [unitKind_slow]; decide
  have hpublish : (s.dequeued n rest x.stop).publish n x w = (s.dequeued n rest x.stop).raise (unitOf Kind.slow n) .F 1 :=
    if_pos ⟨hninth, by simp [hurgent], href⟩
  have hwaits : ((s.dequeued n rest x.stop).publish n x w).waits = [] := by
    have hdetects : (s.dequeued n rest x.stop).Detects ((s.dequeued n rest x.stop).raise (unitOf Kind.slow n) .F 1) :=
      State.detects_detect _ _ _ _ _ fun h => absurd h hkind
    rw [hpublish, hdetects]
    exact hu.waits.trans hc.waits
  rw [State.publishNext_of_closed hclosed hwaits, hpublish] at hf
  have hup := (hu.poised (unitOf Kind.slow n)).takesUp hnote false (by decide) hkind
  exact ⟨_, hexec.trans (congrArg Host.Outcome.next (s.act_to f _ hf)), s.act_takesUp _ hc.live hup⟩

/-- R237: the mean of an urgent window goes to URG_RESULT, and the scan stays where it is. -/
theorem State.Calm.exec_windowEnd_urgent {s : State} (hc : s.Calm) {n : Fin 2} {w : WindowMeans} {x : Window} {rest : List Window} {i : Nat}
    {m : Nat × Int} (hclosed : (s.slow n).closed = x :: rest) (hurgent : x.urgent = some i) (hin : (s.unit (unitOf Kind.slow n)).out = false)
    (hmean : w.means.find? (fun m => decide (m.1 = i)) = some m) :
    ∃ t, exec (.windowEnd n w) s = .next t ∧ t.reg (Item.ADCI.URG_RESULT n) = iw (roundDiv (m.2 * 5000000) (2 ^ 24))
      ∧ (t.slow n).index = (s.slow n).index ∧ (t.slow n).closed = rest ∧ x.stop ≤ t.time.now ∧ t.unit = s.unit := by
  obtain ⟨f, hexec, hf⟩ := exec_windowEnd_publishes w hclosed
  have hu := s.converts_dequeued n rest x.stop
  have hslow := s.slow_dequeued n rest x.stop
  have hstop : x.stop ≤ (s.dequeued n rest x.stop).time.now := le_max_right ..
  have hpublish : (s.dequeued n rest x.stop).publish n x w
      = (s.dequeued n rest x.stop).setReg (Item.ADCI.URG_RESULT n) (iw (roundDiv (m.2 * 5000000) (2 ^ 24))) := by
    unfold State.publish
    simp only [hurgent, hmean, hu.unit, hin, Option.isNone_some, Bool.false_eq_true, false_and, and_false, if_false]
  rw [State.publishNext_of_closed hclosed (by rw [hpublish]; exact hu.waits.trans hc.waits), hpublish] at hf
  rw [hexec]
  generalize s.dequeued n rest x.stop = u at *
  refine hc.next hf hu.waits hu.swaps hu.devState ⟨?_, ?_, ?_, le_trans hstop (le_max_right ..), hu.unit⟩
  · exact (State.keepLive_reg' ..).trans (State.reg_setReg_same ..)
  · rw [State.keepLive_slow', State.slow_setReg', hslow]
  · rw [State.keepLive_slow', State.slow_setReg', hslow]

/-- How many end codes in a row an input has with this one (Table 8-8). -/
def State.slowRun (s : State) (n i : Nat) (code : Int) : Nat :=
  if isEndCode 24 (s.slowBipolar n i) code then KMap.get (fun _ => 0) (s.slow n).satRun i + 1 else 0

/-- The code of one input and its value, published (R236). -/
def State.slowMean (s : State) (n i : Nat) (code : Int) : State :=
  (s.setSlow n { s.slow n with
    satRun := KMap.put (fun _ => 0) (s.slow n).satRun i (s.slowRun n i code), code := KMap.put (fun _ => 0) (s.slow n).code i code }).setReg
    (Item.ADCI.VAL n i) (iw (roundDiv (code * 5000000) (2 ^ 24)))

theorem State.gauges_slowMean (s : State) (n i : Nat) (code : Int) : s.Gauges (s.slowMean n i code) := ⟨rfl, le_rfl⟩

theorem State.slowMean_index (s : State) (n i : Nat) (code : Int) : ((s.slowMean n i code).slow n).index = (s.slow n).index := by
  unfold State.slowMean
  rw [State.slow_setReg', State.slow_setSlow_same]

/-- An input's mean within its range, not forced, is published, and warned of at most (R236, Table 8-8). -/
theorem State.notifies_slowResult {s : State} {n i : Nat} (mean : Int) (hn : n < 2) (hi : i < 32)
    (hforce : s.forced (unitOf Kind.slowInput (32 * n + i)) 1 = false) :
    (s.slowMean n i (max (endCodes 24 (s.slowBipolar n i)).1 (min (endCodes 24 (s.slowBipolar n i)).2 mean))).Notifies
      (s.slowResult n i mean) := by
  have hkind : unitKind (unitOf Kind.slowInput (32 * n + i)) ≠ Kind.leg := by rw [unitKind_unitOf (by omega)]; decide
  have hcases : ∀ (u v : State) (run : Nat), u = v →
      u.Notifies (if run = 16 then v.detect (unitOf Kind.slowInput (32 * n + i)) .W 17 false else v) := by
    rintro u _ run rfl
    split
    · exact (u.warns_detect _ 17 false hkind).notifies
    · exact .refl u
  unfold State.slowResult
  simp only [hforce, Bool.false_eq_true, if_false]
  exact hcases _ _ _ rfl

/-- The window that ends of a fixed scan (R234). -/
def State.fixedWindow (s : State) (n start stop : Nat) : Window :=
  { start := start, stop := stop, mains := false, urgent := none, mask := s.windowMask n false, ninth := if (s.slow n).ninth then 31 else 30 }

/-- A fixed window of the scan ends: it waits to be published, and the scan goes on (R234). -/
theorem State.closeWindow_fixed {s : State} {n b : Nat} (stop : Nat) (hwindow : (s.slow n).window = some b) (hmains : (s.slow n).mains = false)
    (hurgent : (s.slow n).urgent = none) :
    ((s.closeWindow n stop).slow n).closed = (s.slow n).closed ++ [s.fixedWindow n b stop]
      ∧ ((s.closeWindow n stop).slow n).index = (s.slow n).index + 1 := by
  unfold State.closeWindow State.fixedWindow
  simp only [hwindow, hmains, hurgent, State.slow_setSlow_same]
  simp

theorem bitOf_lt {w : Word} {i : Nat} (h : bitOf w i = true) : i < 32 := by
  by_contra hi
  have hlt : w.toNat < 2 ^ i := lt_of_lt_of_le w.isLt (Nat.pow_le_pow_right (by decide) (Nat.le_of_not_lt hi))
  exact absurd (Nat.testBit_lt_two_pow hlt) (by unfold bitOf at h; simp [h])

/-- A fixed window of the scan whose one mean is of an input in service (R236). -/
theorem State.publish_one {u : State} {n i : Nat} {x : Window} {w : WindowMeans} {code : Int} (hurgent : x.urgent = none) (hmains : x.mains = false)
    (hmask : bitOf x.mask i = true) (href : w.refPpm.natAbs ≤ 1000) (hmeans : w.means = [(i, code)])
    (hin : (u.unit (unitOf Kind.slow n)).out = false) (hinput : (u.unit (unitOf Kind.slowInput (32 * n + i))).out = false) :
    u.publish n x w = (u.slowResult n i code).sampleSlow n := by
  unfold State.publish
  simp only [hurgent, hmains, hmeans, hin, hmask, hinput, Nat.not_lt.mpr href, List.filter_cons, List.filter_nil, Bool.true_or, and_false,
    Bool.false_eq_true, if_true, if_false, State.forEach_cons, State.forEach_nil]

/-- R234, R236: a fixed window ends FIX_WIN after it began, its mean goes to the input's item, and the scan goes on. -/
theorem State.Calm.exec_windowEnd_fixed {s : State} (hc : s.Calm) {n : Fin 2} {w : WindowMeans} {b i : Nat} {code : Int}
    (hclosed : (s.slow n).closed = []) (hwindow : (s.slow n).window = some b) (hmains : (s.slow n).mains = false)
    (hurgent : (s.slow n).urgent = none) (href : w.refPpm.natAbs ≤ 1000) (hmeans : w.means = [(i, code)])
    (hmask : bitOf (s.windowMask n false) i = true) (hin : (s.unit (unitOf Kind.slow n)).out = false)
    (hinput : (s.unit (unitOf Kind.slowInput (32 * n + i))).out = false) (hforce : s.forced (unitOf Kind.slowInput (32 * n + i)) 1 = false) :
    ∃ t, exec (.windowEnd n w) s = .next t
      ∧ t.reg (Item.ADCI.VAL n i)
        = iw (roundDiv (max (endCodes 24 (s.slowBipolar n i)).1 (min (endCodes 24 (s.slowBipolar n i)).2 code) * 5000000) (2 ^ 24))
      ∧ (t.slow n).index = (s.slow n).index + 1 ∧ b + s.fixWindow n ≤ t.time.now := by
  have hwork : ∃ f, exec (.windowEnd n w) s = .next (s.act f)
      ∧ f s = (s.closeWindow n (b + s.fixWindow n)).publishNext n w := by
    refine ⟨_, rfl, ?_⟩
    simp only [hclosed, hwindow]
    exact if_neg (by simp [hmains])
  obtain ⟨f, hexec, hf⟩ := hwork
  have hclose := s.converts_closeWindow n (b + s.fixWindow n)
  obtain ⟨hqueue, hindex⟩ := State.closeWindow_fixed (b + s.fixWindow n) hwindow hmains hurgent
  rw [hclosed, List.nil_append] at hqueue
  rw [hexec]
  generalize s.closeWindow n (b + s.fixWindow n) = v at *
  generalize hx : s.fixedWindow n b (b + s.fixWindow n) = x at *
  have hu := hclose.trans (v.converts_dequeued n [] x.stop)
  have hstop : b + s.fixWindow n ≤ (v.dequeued n [] x.stop).time.now := by
    rw [← hx]
    exact le_max_right ..
  have huindex : ((v.dequeued n [] x.stop).slow n).index = (s.slow n).index + 1 := by rw [State.slow_dequeued]; exact hindex
  have hpublish : (v.dequeued n [] x.stop).publish n x w = ((v.dequeued n [] x.stop).slowResult n i code).sampleSlow n :=
    State.publish_one (by rw [← hx]; rfl) (by rw [← hx]; rfl) (by rw [← hx]; exact hmask) href hmeans
      (by rw [hu.unit]; exact hin) (by rw [hu.unit]; exact hinput)
  have hnotifies := (State.notifies_slowResult (s := v.dequeued n [] x.stop) code n.isLt (bitOf_lt hmask)
    (by unfold State.forced; rw [hu.unit]; exact hforce)).trans (State.notifies_sampleSlow _ n)
  have hbipolar : (v.dequeued n [] x.stop).slowBipolar n i = s.slowBipolar n i := by unfold State.slowBipolar; rw [hu.reg]
  rw [← hpublish, hbipolar] at hnotifies
  generalize max (endCodes 24 (s.slowBipolar n i)).1 (min (endCodes 24 (s.slowBipolar n i)).2 code) = held at *
  have hg := hu.gauges.trans (State.gauges_slowMean _ n i held)
  have hwaits : ((v.dequeued n [] x.stop).publish n x w).waits = [] := by
    rw [hnotifies, hg.eq]
    exact hc.waits
  rw [State.publishNext_of_closed hqueue hwaits] at hf
  refine hc.next_notified hg hnotifies hf ?_
  obtain ⟨hreg, hslow, hnow⟩ := State.keepLive_notified hg hnotifies
  rw [hreg, hslow, hnow, State.slowMean_index, huindex]
  exact ⟨State.reg_setReg_same .., rfl, hstop⟩

/-- Settles O21: the mains lock counts crossings of its phase alone and unlocks one way (R235); a window begins, is refused for its reference
(R246), serves an urgent request (R237) or publishes its means and moves the scan on (R234, R236). Rounding, instants and the ninth
modulator are assumption logs 13, 16 and 128. -/
theorem integratingConvertersFollowTheirWindows : Obligations.IntegratingConvertersFollowTheirWindows := by
  intro s hc
  refine ⟨fun phase time swing rms hen href hswing =>
      ⟨fun x hunlocked hx hgood hlo hhi hrms => hc.exec_mainsCrossing_locks hen href hswing hunlocked hx hgood hlo hhi hrms,
        fun hlocked hrms hnote => hc.exec_mainsCrossing_unlocks hen href hswing hlocked hrms hnote⟩,
    fun phase time swing rms href => ?_, fun x hx hlocked hnote => hc.exec_mainsUnlockTimeout_unlocks hx hlocked hnote,
    fun n w hclosed hwindow hlock => hc.exec_windowEnd_begins n w hclosed hwindow hlock,
    fun n w x rest hclosed hninth hurgent href hnote => hc.exec_windowEnd_badReference hclosed hninth hurgent href hnote,
    fun n w x rest i m hclosed hurgent hin hmean => hc.exec_windowEnd_urgent hclosed hurgent hin hmean,
    fun n w b i code hclosed hwindow hmains hurgent href hmeans hmask hin hinput hforce =>
      hc.exec_windowEnd_fixed hclosed hwindow hmains hurgent href hmeans hmask hin hinput hforce⟩
  exact hc.next (if_pos (.inr (.inl href))) rfl rfl rfl ⟨rfl, rfl, rfl⟩

end Sys2Proof.Machine

namespace Sys2Proof.Machine

/-! ## A sequence number beyond the eight sequences of a converter (R222, R228) -/

/-- Converter 15 in the first entry of sequence 17, its only one, with a trigger for sequence 7 on its line. A converter has the sequences
0 to 7, but the statement speaks of every state, and sequence 17 would have its list at the address of QUEUE_CNT. -/
def straySequence : State :=
  { State.reset with
    dev := { State.reset.dev with state := .standby, fwRunning := true }
    fasts := [(15, { Fast.init with run := some (17, 0, 890, false) })]
    events := [.convert 15 7 900]
    regs := [(Item.ADCF.SEQ 15 7, 0x01000000), (Item.ADCF.QUEUE_CNT 15, 0x01000000)] }

theorem straySequence_calm : straySequence.Calm := ⟨by decide, rfl, rfl, by decide, by decide⟩

/-- The list of sequence 17 names input 0, once. -/
theorem straySequence_lists : straySequence.seqInput 15 17 0 = 0 ∧ straySequence.seqCount 15 17 = 1 := by decide

/-- The trigger is queued before the conversion ends, and counted: the list names input 1 now, and input 0 gets no stamp. -/
theorem straySequence_conversionDone :
    ∃ t, exec (.conversionDone 15 0) straySequence = .next t ∧ t.reg (Item.ADCF.T_LO 15 0) = 0 :=
  ⟨_, rfl, by decide +kernel⟩

/-- Refutes O19: nothing in it keeps the number of the sequence in progress below 8. Sequence 17 has its list where QUEUE_CNT is, so that a
trigger queued within the conversion changes the list, and the result goes to another input than the list named before. -/
theorem not_fastConvertersFollowTheirTriggers : ¬ Obligations.FastConvertersFollowTheirTriggers := by
  intro h
  obtain ⟨-, hdone, -, -⟩ := h straySequence 15 straySequence_calm
  obtain ⟨t, ht, -, hstamp, -⟩ := hdone 0 17 0 890 false rfl rfl
  obtain ⟨u, hu, hnone⟩ := straySequence_conversionDone
  have hsame : t = u := Host.Outcome.next.inj (ht.symm.trans hu)
  rw [hsame, show straySequence.seqInput (15 : Fin 16) 17 0 = 0 from straySequence_lists.1] at hstamp
  exact absurd (hnone.symm.trans hstamp) (by decide)

end Sys2Proof.Machine

namespace Sys2Proof.Machine

/-! ## A latch whose fault takes a leg of another sheaf's mapping out of service (R210, R263, R266, R444) -/

/-- So many positions after its first, the CARRY items of PWM[0] come to the address of POS[0].SPEED. -/
def carryAtSpeed : Nat := Item.POS.SPEED 0 - Item.PWM.CARRY 0 0

/-- An actuator sheaf, 1, on that leg, and sheaf 0 on every leg up to it, so that the leg's position is its number. No mapping is like this
(Table 0-2), but the statement speaks of every state. -/
def overrunningBind : Bind := { Bind.factory with types := [2, 6], first := [0, carryAtSpeed], count := [carryAtSpeed + 1, 1] }

/-- Port 0 in ABZ mode, bound to the READY sheaf 1, with two counts in 50 ns behind it and a limit of 0 for its speed, and an event for
its slot 7 on the line. -/
def overspeedLatching : State :=
  { State.reset with
    dev := { State.reset.dev with state := .standby, fwRunning := true }
    bind := overrunningBind
    sheaves := [(1, { Sheaf.init with state := .ready })]
    ports := [(0, { Port.init with edges := [(90, 2), (80, 1), (70, 0)] })]
    events := [.latch 0 7 100]
    regs := [(Item.POS.MODE 0, 3), (Item.POS.SHEAF 0, 1), (Item.POS.CPR 0, 4096), (Item.POS.EDGE_FILT 0, 1), (Item.POS.SPD_WIN 0, 100),
      (Item.POS.SPD_ZERO 0, 1), (Item.POS.SPD_MAX 0, 0)] }

theorem overspeedLatching_calm : overspeedLatching.Calm := ⟨by decide, rfl, rfl, by decide, by decide⟩

theorem overspeedLatching_speed : overspeedLatching.edgePortSpeed 0 102 = (585937500, false) := by decide

/-- The overspeed takes the sheaf out of service, which clears the carry of its leg: the item of the port's speed reads 0 before the result
takes it. -/
theorem overspeedLatching_latches :
    ∃ t, exec (.latchEvent 0 7) overspeedLatching = .next t ∧ (t.latch 0 7).map LatchResult.speed = some 0 :=
  ⟨_, rfl, by decide +kernel⟩

/-- Refutes O23: its clause of LATCH_EVENT gives the result of an edge port the speed of its instant, but in a mapping that puts a leg at a
position far beyond the items of its sheaf, an overspeed at that instant has the leg's carry cleared where the port's SPEED stands. -/
theorem not_portsTurnEdgesIntoPositions : ¬ Obligations.PortsTurnEdgesIntoPositions := by
  intro h
  obtain ⟨-, -, hlatch⟩ := h overspeedLatching 0 overspeedLatching_calm (by decide)
  obtain ⟨hforms, -⟩ := hlatch 7 100 (by decide) (by decide)
  obtain ⟨t, ht, -, -, -, -, r, hr, -, hspeed⟩ := hforms (by decide)
  rw [if_pos (.inl (by decide)), Fin.val_zero, overspeedLatching_speed] at hspeed
  obtain ⟨u, hu, hzero⟩ := overspeedLatching_latches
  have hsame : t = u := Host.Outcome.next.inj (ht.symm.trans hu)
  rw [← hsame, show t.latch 0 7 = some r from hr] at hzero
  exact absurd (hspeed.1.symm.trans (Option.some.inj hzero)) (by decide)

end Sys2Proof.Machine

namespace Sys2Proof.Machine

/-! ## What the rows of the position ports prepare -/

/-- The working part of a port's row may change items, ports, the turns of periodic works, the events on the lines and device time; every
unit's record reads as before. -/
structure State.Senses (s g : State) : Prop where
  eq : g = { s with regs := g.regs, ports := g.ports, timers := g.timers, events := g.events, units := g.units, time := g.time }
  unit : g.unit = s.unit
  now : s.time.now ≤ g.time.now

theorem State.Senses.trans {s g t : State} (h : s.Senses g) (k : g.Senses t) : s.Senses t :=
  ⟨by rw [k.eq, h.eq], k.unit.trans h.unit, h.now.trans k.now⟩

theorem State.Senses.waits {s g : State} (h : s.Senses g) : g.waits = s.waits := by rw [h.eq]

theorem State.Senses.swaps {s g : State} (h : s.Senses g) : g.swaps = s.swaps := by rw [h.eq]

theorem State.Senses.devState {s g : State} (h : s.Senses g) : g.dev.state = s.dev.state := by rw [h.eq]

theorem State.Senses.poised {s g : State} (h : s.Senses g) (u : Nat) : s.Poised g u :=
  ⟨by rw [h.unit], by rw [h.unit], by rw [h.eq], h.now⟩

theorem State.Senses.forced {s g : State} (h : s.Senses g) : g.forced = s.forced := by unfold State.forced; rw [h.unit]

theorem State.senses_setReg (s : State) (a : Nat) (w : Word) : s.Senses (s.setReg a w) := ⟨rfl, rfl, le_rfl⟩

theorem State.senses_setPort (s : State) (p : Nat) (r : Port) : s.Senses (s.setPort p r) := ⟨rfl, rfl, le_rfl⟩

theorem State.senses_every (s : State) (timer period : Nat) : s.Senses (s.every timer period) := ⟨rfl, rfl, le_max_left ..⟩

theorem State.senses_reachTick (s : State) (tick : Nat) : s.Senses (s.reachTick tick) := ⟨rfl, rfl, le_max_left ..⟩

/-- A word without a bit is the same with that bit taken off. -/
theorem and_not_bit {w : Word} {k : Nat} (h : bitOf w k = false) : w &&& ~~~(nw (2 ^ k)) = w := by
  refine BitVec.eq_of_getLsbD_eq fun i hi => ?_
  rw [BitVec.getLsbD_and, BitVec.getLsbD_not, nw, BitVec.getLsbD_ofNat]
  by_cases hk : k = i
  · have hw : w.getLsbD i = false := hk ▸ h
    rw [hw, Bool.false_and]
  · rw [Nat.testBit_two_pow_of_ne hk]
    simp [hi]

/-- The use of a force bit that is not armed leaves every unit's record. -/
theorem State.senses_useForce {s : State} {u k : Nat} (h : s.forceArmed u k = false) : s.Senses (s.useForce u k) := by
  refine ⟨rfl, funext fun v => ?_, le_rfl⟩
  unfold State.useForce
  rw [State.unit_setUnit, and_not_bit h]
  split
  · next hv => rw [hv]
  · rfl

/-- A turn of a periodic work comes one period after the one before. -/
theorem State.every_now (s : State) (timer period : Nat) : s.lastDone timer + period ≤ (s.every timer period).time.now := le_max_right ..

/-- The instant at which a tick begins, in fine units, is that of the tick. -/
theorem fineTime_tick (tick : Nat) : fineTime (tick * 32) = tickTime tick := by
  unfold fineTime tickTime
  omega

theorem State.reachTick_now (s : State) (tick : Nat) : tickTime tick ≤ (s.reachTick tick).time.now :=
  le_of_eq_of_le (fineTime_tick tick).symm (le_max_right ..)

/-- Where nothing waits, a port's computation passes no boundary. -/
theorem State.portBoundary_nothing (s : State) (p : Nat) (h : s.waits = []) : s.portBoundary p = s := s.boundary_nothing _ _ h

theorem unitKind_posPort (p : Fin 4) : unitKind (unitOf Kind.port p) = Kind.port := unitKind_unitOf (by omega)

/-- A row of a calm state that works on ports alone does just that work. -/
theorem State.Calm.senses {s g : State} (hc : s.Calm) (hg : s.Senses g) {f : State → State} {P : State → Prop} (hf : f s = g)
    (hP : P (s.keepLive g)) : ∃ t, (.next (s.act f) : Host.Outcome State Fault Refusal) = .next t ∧ P t :=
  hc.next hf hg.waits hg.swaps hg.devState hP

/-- What follows a detection of a port from a state `g`: its books and items beside what a fault stops. -/
structure State.Faulted (s g t : State) (u src : Nat) : Prop where
  port : t.port = g.port
  now : g.time.now ≤ t.time.now
  handling : (t.unit u).state = .handling
  takesUp : s.Unranked u src → s.TakesUp t u .handling .F src

/-- A class-F detection of an idle port at the end of a row (R440). -/
theorem State.Calm.faults {s g : State} (hc : s.Calm) {p : Fin 4} {src : Nat} {forced : Bool} {f : State → State}
    (hf : f s = g.detect (unitOf Kind.port p) .F src forced) (hsrc : src < 256) (hw : g.waits = s.waits) (hs : g.swaps = s.swaps)
    (hd : g.dev.state = s.dev.state) (hj : g.store.journal = s.store.journal) (hidle : (g.unit (unitOf Kind.port p)).state = .idle)
    (hrank : s.Unranked (unitOf Kind.port p) src → (g.unit (unitOf Kind.port p)).outranks (unitOf Kind.port p) g.time.now src = false) :
    ∃ t, (.next (s.act f) : Host.Outcome State Fault Refusal) = .next t ∧ s.Faulted g t (unitOf Kind.port p) src := by
  have hkind := unitKind_posPort p
  have hsheaf : unitKind (unitOf Kind.port p) = Kind.sheaf → unitIndex (unitOf Kind.port p) < 12 := fun h =>
    absurd (hkind.symm.trans h) (by decide)
  have hdetects := g.detects_detect (unitOf Kind.port p) .F src forced hsheaf
  have hhandling := (g.detect_handling (unitOf Kind.port p) src .F forced (.inl rfl) (.inl hidle) hsheaf (by rw [hkind]; decide)).1
  have hup := fun h => s.act_takesUp _ hc.live
    (s.detect_takesUp_of g (unitOf Kind.port p) src .F forced hj (.inl rfl) (.inl hidle) hsrc hsheaf (.inl rfl) (hrank h))
  generalize g.detect (unitOf Kind.port p) .F src forced = v at *
  have hact := hc.act v (by rw [hdetects]; exact hw) (by rw [hdetects]; exact hs) (by rw [hdetects]; exact hd)
  rw [hact] at hup
  refine ⟨s.keepLive v, by rw [s.act_to f v hf, hact], ⟨?_, ?_, hhandling, hup⟩⟩
  · rw [hdetects]; rfl
  · rw [hdetects]; exact le_max_right ..

theorem State.Calm.senses_faults {s g : State} (hc : s.Calm) (hg : s.Senses g) {p : Fin 4} {src : Nat} {forced : Bool} {f : State → State}
    (hf : f s = g.detect (unitOf Kind.port p) .F src forced) (hsrc : src < 256) (hidle : (s.unit (unitOf Kind.port p)).state = .idle) :
    ∃ t, (.next (s.act f) : Host.Outcome State Fault Refusal) = .next t ∧ s.Faulted g t (unitOf Kind.port p) src :=
  hc.faults hf hsrc hg.waits hg.swaps hg.devState (hg.poised 0).journal (by rw [hg.unit]; exact hidle)
    fun h => ((hg.poised _).notices ⟨hidle, h⟩).2

/-- What follows a class-W detection of a port from a state `g`. -/
structure State.Warned (s g t : State) (u src : Nat) : Prop where
  port : t.port = g.port
  reg : t.reg = g.reg
  shows : s.Unranked u src → t.Shows u .idle .W src

/-- A class-W detection of an idle port at the end of a row (R439). -/
theorem State.Calm.senses_warns {s g : State} (hc : s.Calm) (hg : s.Senses g) {p : Fin 4} {src : Nat} {forced : Bool} {f : State → State}
    (hf : f s = g.detect (unitOf Kind.port p) .W src forced) (hidle : (s.unit (unitOf Kind.port p)).state = .idle) :
    ∃ t, (.next (s.act f) : Host.Outcome State Fault Refusal) = .next t ∧ s.Warned g t (unitOf Kind.port p) src := by
  have hwarns := g.warns_detect (unitOf Kind.port p) src forced (by rw [unitKind_posPort]; decide)
  have hshows := fun h : s.Unranked (unitOf Kind.port p) src => (hg.poised (unitOf Kind.port p)).shows ⟨hidle, h⟩ forced
  generalize g.detect (unitOf Kind.port p) .W src forced = v at *
  refine hc.next hf (by rw [hwarns]; exact hg.waits) (by rw [hwarns]; exact hg.swaps) (by rw [hwarns]; exact hg.devState) ⟨?_, ?_, hshows⟩
  · rw [hwarns]; rfl
  · rw [hwarns]; rfl

/-- An idle unit is idle after a warning. -/
theorem State.detect_W_idle (s : State) {u : Nat} (src : Nat) (forced : Bool) (hidle : (s.unit u).state = .idle) :
    ((s.detect u .W src forced).unit u).state = .idle := by
  unfold State.detect
  rw [hidle]
  show ((if (s.unit u).outranks u s.time.now src then s else _ : State).unit u).state = .idle
  split
  · exact hidle
  · unfold State.setFault
    rw [State.unit_setUnit_same]

/-- A warning leaves the way free for a source of a lower number on the same edge (R438). -/
theorem State.detect_W_lower (s : State) {u src src' : Nat} (forced : Bool) (hlt : src' < src) (hidle : (s.unit u).state = .idle)
    (hrank : (s.unit u).outranks u s.time.now src' = false) :
    ((s.detect u .W src forced).unit u).outranks u s.time.now src' = false := by
  unfold State.detect
  rw [hidle]
  show ((if (s.unit u).outranks u s.time.now src then s else _ : State).unit u).outranks u s.time.now src' = false
  split
  · exact hrank
  · next hnot =>
    unfold State.setFault State.note
    rw [State.unit_setUnit_same, if_neg hnot, State.unit_setUnit_same]
    simp [UnitRec.outranks, Nat.le_of_lt hlt]

end Sys2Proof.Machine

namespace Sys2Proof.Machine

/-! ## What the compare units of a port leave (R268 to R270) -/

/-- The items that the compare units of a port count in: CMP_CNT, CMP_SKIP and CMP_T of both. -/
def compareItems (p : Nat) : List Nat := [0x035, 0x036, 0x037, 0x03D, 0x03E, 0x03F].map (Item.addr 0x0E p)

/-- Any other item of the port is none of them. -/
theorem posItem_not_counted {p i : Nat} (hi : i ∉ [0x035, 0x036, 0x037, 0x03D, 0x03E, 0x03F]) : Item.addr 0x0E p i ∉ compareItems p := by
  intro hmem
  obtain ⟨j, hj, heq⟩ := List.mem_map.mp hmem
  exact hi (Nat.add_left_cancel heq ▸ hj)

theorem compareItem_counted (p : Nat) {c i : Nat} (hc : c < 2) (hi : i ∈ [0x035, 0x036, 0x037]) :
    Item.addr 0x0E p (i + 8 * c) ∈ compareItems p := by
  refine List.mem_map_of_mem ?_
  simp only [List.mem_cons, List.not_mem_nil, or_false] at hi ⊢
  omega

/-- The compare units of a port change their own indices and events, their items and the lines to the converters. -/
structure State.Compares (s t : State) (p : Nat) : Prop where
  eq : t = { s with regs := t.regs, ports := t.ports, events := t.events }
  port : t.port p = { s.port p with index := (t.port p).index, planned := (t.port p).planned }
  reg : ∀ a ∉ compareItems p, t.reg a = s.reg a

/-- One unit's evaluation leaves the index and the event of the other. -/
structure State.ComparesAt (s t : State) (p k : Nat) : Prop extends State.Compares s t p where
  index : ∀ c ≠ k, KMap.get (fun _ => none) (t.port p).index c = KMap.get (fun _ => none) (s.port p).index c
  planned : ∀ c ≠ k, KMap.get (fun _ => none) (t.port p).planned c = KMap.get (fun _ => none) (s.port p).planned c

theorem State.Compares.refl (s : State) (p : Nat) : s.Compares s p := ⟨rfl, rfl, fun _ _ => rfl⟩

theorem State.Compares.trans {s t u : State} {p : Nat} (h : s.Compares t p) (k : t.Compares u p) : s.Compares u p :=
  ⟨by rw [k.eq, h.eq], by rw [k.port, h.port], fun a ha => (k.reg a ha).trans (h.reg a ha)⟩

theorem State.ComparesAt.refl (s : State) (p k : Nat) : s.ComparesAt s p k := ⟨.refl s p, fun _ _ => rfl, fun _ _ => rfl⟩

theorem State.ComparesAt.trans {s t u : State} {p k : Nat} (h : s.ComparesAt t p k) (g : t.ComparesAt u p k) : s.ComparesAt u p k :=
  ⟨h.toCompares.trans g.toCompares, fun c hc => (g.index c hc).trans (h.index c hc), fun c hc => (g.planned c hc).trans (h.planned c hc)⟩

theorem State.Compares.senses {s t : State} {p : Nat} (h : s.Compares t p) : s.Senses t :=
  ⟨by rw [h.eq], by rw [h.eq]; rfl, by rw [h.eq]⟩

/-- Every other item of the port reads as before. -/
theorem State.Compares.posReg {s t : State} {p : Nat} (h : s.Compares t p) {i : Nat}
    (hi : i ∉ [0x035, 0x036, 0x037, 0x03D, 0x03E, 0x03F]) : t.reg (Item.addr 0x0E p i) = s.reg (Item.addr 0x0E p i) :=
  h.reg _ (posItem_not_counted hi)

theorem State.setCompare_port (s : State) (p c : Nat) (j : Option Int) (e : Option Crossing) :
    (s.setCompare p c j e).port p = { s.port p with
      index := KMap.put (fun _ => none) (s.port p).index c j, planned := KMap.put (fun _ => none) (s.port p).planned c e } :=
  State.port_setPort_same ..

theorem State.comparesAt_setCompare (s : State) (p k : Nat) (j : Option Int) (e : Option Crossing) :
    s.ComparesAt (s.setCompare p k j e) p k := by
  have hport := s.setCompare_port p k j e
  refine ⟨⟨rfl, by rw [hport], fun _ _ => rfl⟩, fun c hc => ?_, fun c hc => ?_⟩
  · rw [hport]; exact KMap.get_put_other _ _ _ hc
  · rw [hport]; exact KMap.get_put_other _ _ _ hc

theorem State.comparesAt_setReg (s : State) {p a : Nat} (k : Nat) (w : Word) (ha : a ∈ compareItems p) : s.ComparesAt (s.setReg a w) p k :=
  ⟨⟨rfl, rfl, fun b hb => s.reg_setReg_other a w b fun h => hb (h ▸ ha)⟩, fun _ _ => rfl, fun _ _ => rfl⟩

theorem State.comparesAt_setEvents (s : State) (p k : Nat) (l : List LineEvent) : s.ComparesAt { s with events := l } p k :=
  ⟨⟨rfl, rfl, fun _ _ => rfl⟩, fun _ _ => rfl, fun _ _ => rfl⟩

theorem State.comparesAt_issueCrossing (s : State) (p : Nat) {k : Nat} (hk : k < 2) (e : Crossing) :
    s.ComparesAt (s.issueCrossing p k e) p k := by
  unfold State.issueCrossing
  extract_lets s1 s2 d
  have h1 : s.ComparesAt s1 p k := s.comparesAt_setCompare p k _ none
  have h2 : s.ComparesAt s2 p k :=
    ((h1.trans (s1.comparesAt_setReg k _ (compareItem_counted p hk (by decide)))).trans
      (State.comparesAt_setReg _ k _ (compareItem_counted p hk (by decide)))).trans
        (State.comparesAt_setReg _ k _ (compareItem_counted p hk (by decide)))
  split
  · exact h1
  · split
    · exact h2.trans (State.comparesAt_setEvents ..)
    · exact h2

theorem State.comparesAt_compareCount (s : State) (p tick : Nat) {k : Nat} (hk : k < 2) : s.ComparesAt (s.compareCount p tick k) p k := by
  unfold State.compareCount
  split
  · exact .refl s p k
  · split
    · exact s.comparesAt_setCompare p k _ none
    · extract_lets s1
      have h1 : s.ComparesAt s1 p k := by
        unfold s1
        split
        · exact s.comparesAt_issueCrossing p hk _
        · exact .refl s p k
      split
      split
      · exact h1
      · exact h1.trans (State.comparesAt_setCompare ..)

theorem State.comparesAt_compareUpdate (s : State) (p : Nat) (v : Int) (next : Nat) {k : Nat} (hk : k < 2) :
    s.ComparesAt (s.compareUpdate p v next k) p k := by
  unfold State.compareUpdate
  split
  · exact .refl s p k
  · split
    · exact s.comparesAt_setCompare p k _ none
    · extract_lets tick
      split
      split
      · exact s.comparesAt_setCompare ..
      · split
        · exact s.comparesAt_issueCrossing p hk _
        · exact s.comparesAt_setCompare ..

/-- Both units of a port, in turn. -/
theorem State.compares_units {p : Nat} {f : State → Nat → State} (hf : ∀ s, ∀ k < 2, State.ComparesAt s (f s k) p k) (s : State) :
    s.Compares (s.forEach (List.range 2) f) p :=
  (hf s 0 (by decide)).toCompares.trans (hf (f s 0) 1 (by decide)).toCompares

end Sys2Proof.Machine

namespace Sys2Proof.Machine

/-! ## The checks of a port without force bits (R251 to R253) -/

/-- The short disagreements of a port within the last 100 ms, with one of now (R253). -/
def State.recentShorts (s : State) (p : Nat) : List Nat :=
  s.time.now :: (s.port p).shorts.filter (fun x => decide (s.time.now < x + 100000000))

/-- A short disagreement noted and counted (R253). -/
def State.shortNoted (s : State) (p : Nat) : State :=
  (s.setPort p { s.port p with shorts := s.recentShorts p }).bump (Item.POS.WIRE_CNT p)

/-- A pair found in disagreement for WIRE_T (R253). -/
def State.wireMarked (s : State) (p : Nat) : State := s.setPort p { s.port p with wire := true }

/-- The peak current of an excitation period noted, with the run of bad periods it makes (R252). -/
def State.peakNoted (s : State) (p peak run : Nat) : State :=
  let t := s.every (Timer.excitation p) (1000000000 / Nat.max 1 (s.regN (Item.POS.EXC_FREQ p)))
  (t.setPort p { s.port p with excRun := run, exc := (s.port p).exc || decide (4 ≤ run), excOn := decide (run < 4) }).setReg
    (Item.POS.EXC_I p) (nw peak)

/-- The run of bad excitation periods with one of this peak current (R252). -/
def State.nextExcRun (s : State) (p peak : Nat) : Nat := if s.excBad p peak then (s.port p).excRun + 1 else 0

theorem State.senses_shortNoted (s : State) (p : Nat) : s.Senses (s.shortNoted p) := (s.senses_setPort ..).trans (State.senses_setReg ..)

theorem State.shortNoted_port (s : State) (p : Nat) : (s.shortNoted p).port p = { s.port p with shorts := s.recentShorts p } :=
  s.port_setPort_same p _

theorem State.senses_peakNoted (s : State) (p peak run : Nat) : s.Senses (s.peakNoted p peak run) :=
  ((s.senses_every _ _).trans (State.senses_setPort ..)).trans (State.senses_setReg ..)

theorem State.peakNoted_port (s : State) (p peak run : Nat) : (s.peakNoted p peak run).port p =
    { s.port p with excRun := run, exc := (s.port p).exc || decide (4 ≤ run), excOn := decide (run < 4) } :=
  State.port_setPort_same ..

theorem State.peakNoted_reg (s : State) (p peak run : Nat) : (s.peakNoted p peak run).reg (Item.POS.EXC_I p) = nw peak :=
  State.reg_setReg_same ..

/-- A disagreement is what the two comparators of a pair read on one side (R253). -/
theorem comparators_differ (vth vP vN : Nat) : decide (vth < vP) ≠ decide (vth < vN) ↔ ((vth < vP) ↔ ¬(vth < vN)) := by
  by_cases hP : vth < vP <;> by_cases hN : vth < vN <;> simp [hP, hN]

section
variable {s : State} (hc : s.Calm) {p : Fin 4} (hidle : (s.unit (unitOf Kind.port p)).state = .idle)
  (hforce : (s.unit (unitOf Kind.port p)).force = 0)

include hforce in
theorem State.not_forced_of_zero (k : Nat) : s.forced (unitOf Kind.port p) k = false := by
  unfold State.forced
  rw [hforce]
  exact Nat.zero_testBit k

include hforce in
/-- What WIRE_DISAGREEMENT does to a pair (R253). -/
theorem exec_wireDisagreement (pair : Fin 3) (vP vN ticks : Nat) :
    ∃ f, exec (.wireDisagreement p pair vP vN ticks) s = .next (s.act f) ∧ f s =
      if s.pairUsed p pair = false ∨ ((s.regN (Item.POS.WIRE_VTH p) * 100 < vP) ↔ ¬(s.regN (Item.POS.WIRE_VTH p) * 100 < vN)) then s
      else if s.regN (Item.POS.WIRE_T p) * 2 ≤ ticks * 5 then (s.wireMarked p).detect (unitOf Kind.port p) .F 1 false
      else if s.regN (Item.POS.WIRE_MAX p) ≤ (s.recentShorts p).length then (s.shortNoted p).detect (unitOf Kind.port p) .W 16 false
      else s.shortNoted p := by
  refine ⟨_, rfl, ?_⟩
  have hnot := State.not_forced_of_zero hforce 0
  simp only [hnot, Bool.false_and, Bool.not_false, true_and, Bool.not_eq_true', Bool.false_eq_true, or_false]
  exact if_congr (or_congr Iff.rfl (comparators_differ ..)) rfl rfl

/-- What EXCITATION_PERIOD does to an excitation that is on (R252). -/
theorem exec_excitationPeriod {peak : Nat} (hmode : s.portMode p = 1) (hon : (s.port p).excOn = true) :
    ∃ f, exec (.excitationPeriod p peak) s = .next (s.act f) ∧ f s =
      if s.nextExcRun p peak = 4 then
        (s.peakNoted p peak (s.nextExcRun p peak)).detect (unitOf Kind.port p) .F 3 (s.forced (unitOf Kind.port p) 3)
      else s.peakNoted p peak (s.nextExcRun p peak) :=
  ⟨_, rfl, if_neg (by simp [hmode, hon])⟩

theorem State.nextExcRun_low {peak : Nat} (hlow : peak < s.regN (Item.POS.EXC_IMIN p)) : s.nextExcRun p peak = (s.port p).excRun + 1 :=
  if_pos (by simp [State.excBad, hlow])

include hforce in
theorem State.nextExcRun_within {peak : Nat} (hmin : s.regN (Item.POS.EXC_IMIN p) ≤ peak) (hmax : peak ≤ s.regN (Item.POS.EXC_IMAX p)) :
    s.nextExcRun p peak = 0 :=
  if_neg (by simp [State.excBad, State.not_forced_of_zero hforce 3, hmin, hmax])

include hc hidle hforce in
/-- R252: the peak current is noted, a good one ends the run of bad ones, the fourth bad one turns the excitation off. -/
theorem State.Calm.exec_excitationPeriod_checks {peak : Nat} (hmode : s.portMode p = 1) (hon : (s.port p).excOn = true) :
    ∃ t, exec (.excitationPeriod p peak) s = .next t
      ∧ ((t.unit (unitOf Kind.port p)).state = .idle → t.reg (Item.POS.EXC_I p) = nw peak)
      ∧ (s.regN (Item.POS.EXC_IMIN p) ≤ peak → peak ≤ s.regN (Item.POS.EXC_IMAX p) → (t.port p).excRun = 0 ∧ (t.port p).excOn = true)
      ∧ (peak < s.regN (Item.POS.EXC_IMIN p) → (s.port p).excRun = 3 → s.Unranked (unitOf Kind.port p) 3 →
          s.TakesUp t (unitOf Kind.port p) .handling .F 3 ∧ (t.port p).excOn = false) := by
  obtain ⟨f, hexec, hf⟩ := exec_excitationPeriod (peak := peak) hmode hon
  have hlow : peak < s.regN (Item.POS.EXC_IMIN p) → (s.port p).excRun = 3 → s.nextExcRun p peak = 4 := fun h h3 => by
    rw [State.nextExcRun_low h, h3]
  have hwithin := State.nextExcRun_within (s := s) (peak := peak) hforce
  have hport := s.peakNoted_port p peak (s.nextExcRun p peak)
  have hsenses := s.senses_peakNoted p peak (s.nextExcRun p peak)
  rw [hexec]
  by_cases hfour : s.nextExcRun p peak = 4
  · rw [if_pos hfour] at hf
    obtain ⟨t, ht, hfault⟩ := hc.senses_faults hsenses hf (by decide) hidle
    have htport : t.port p = _ := (congrFun hfault.port _).trans hport
    refine ⟨t, ht, fun h => ?_, fun hmin hmax => ?_, fun _ _ hrank => ⟨hfault.takesUp hrank, ?_⟩⟩
    · exact absurd (hfault.handling.symm.trans h) (by decide)
    · exact absurd ((hwithin hmin hmax).symm.trans hfour) (by decide)
    · rw [htport, hfour]; rfl
  · rw [if_neg hfour] at hf
    refine hc.senses hsenses hf ⟨fun _ => s.peakNoted_reg .., fun hmin hmax => ?_, fun h h3 => absurd (hlow h h3) hfour⟩
    rw [State.keepLive_port', hport, hwithin hmin hmax]
    exact ⟨rfl, rfl⟩

include hc hforce in
/-- R253: comparators that agree, and pairs that are not in use, are left alone. -/
theorem State.Calm.exec_wireDisagreement_agrees (pair : Fin 3) {vP vN : Nat} (ticks : Nat)
    (h : s.pairUsed p pair = false ∨ ((s.regN (Item.POS.WIRE_VTH p) * 100 < vP) ↔ ¬(s.regN (Item.POS.WIRE_VTH p) * 100 < vN))) :
    ∃ t, exec (.wireDisagreement p pair vP vN ticks) s = .next t ∧ t.port p = s.port p ∧ t.reg = s.reg ∧ t.unit = s.unit := by
  obtain ⟨f, hexec, hf⟩ := exec_wireDisagreement hforce pair vP vN ticks
  rw [if_pos h] at hf
  rw [hexec]
  exact hc.next hf rfl rfl rfl ⟨rfl, rfl, rfl⟩

section
variable {pair : Fin 3} {vP vN ticks : Nat} (hused : s.pairUsed p pair = true)
  (hdiffer : (s.regN (Item.POS.WIRE_VTH p) * 100 < vP) ↔ (s.regN (Item.POS.WIRE_VTH p) * 100 < vN))

include hforce hused hdiffer in
/-- A pair in use whose comparators differ is checked. -/
theorem exec_wireDisagreement_differs :
    ∃ f, exec (.wireDisagreement p pair vP vN ticks) s = .next (s.act f) ∧ f s =
      if s.regN (Item.POS.WIRE_T p) * 2 ≤ ticks * 5 then (s.wireMarked p).detect (unitOf Kind.port p) .F 1 false
      else if s.regN (Item.POS.WIRE_MAX p) ≤ (s.recentShorts p).length then (s.shortNoted p).detect (unitOf Kind.port p) .W 16 false
      else s.shortNoted p := by
  obtain ⟨f, hexec, hf⟩ := exec_wireDisagreement hforce pair vP vN ticks
  refine ⟨f, hexec, hf.trans (if_neg ?_)⟩
  rintro (hno | hagree)
  · exact absurd (hused.symm.trans hno) (by decide)
  · exact iff_not_self (hdiffer.symm.trans hagree)

include hc hidle hforce hused hdiffer

/-- R253: a disagreement of WIRE_T or more. -/
theorem State.Calm.exec_wireDisagreement_long (hlong : s.regN (Item.POS.WIRE_T p) * 2 ≤ ticks * 5) (hrank : s.Unranked (unitOf Kind.port p) 1) :
    ∃ t, exec (.wireDisagreement p pair vP vN ticks) s = .next t ∧ s.TakesUp t (unitOf Kind.port p) .handling .F 1 ∧ (t.port p).wire = true := by
  obtain ⟨f, hexec, hf⟩ := exec_wireDisagreement_differs hforce hused hdiffer
  rw [if_pos hlong] at hf
  obtain ⟨t, ht, hfault⟩ := hc.senses_faults (s.senses_setPort ..) hf (by decide) hidle
  refine ⟨t, hexec.trans ht, hfault.takesUp hrank, ?_⟩
  rw [hfault.port, State.port_setPort_same]

/-- R253: a shorter one is counted, and warned of where there have been WIRE_MAX within 100 ms. -/
theorem State.Calm.exec_wireDisagreement_short (hshort : ticks * 5 < s.regN (Item.POS.WIRE_T p) * 2) :
    ∃ t, exec (.wireDisagreement p pair vP vN ticks) s = .next t ∧ t.reg (Item.POS.WIRE_CNT p) = s.reg (Item.POS.WIRE_CNT p) + 1
      ∧ (t.port p).wire = (s.port p).wire ∧ (t.port p).shorts = s.recentShorts p
      ∧ ((s.recentShorts p).length < s.regN (Item.POS.WIRE_MAX p) → t.unit = s.unit)
      ∧ (s.regN (Item.POS.WIRE_MAX p) ≤ (s.recentShorts p).length → s.Unranked (unitOf Kind.port p) 16 →
          t.Shows (unitOf Kind.port p) .idle .W 16) := by
  obtain ⟨f, hexec, hf⟩ := exec_wireDisagreement_differs hforce hused hdiffer
  rw [if_neg (Nat.not_le.mpr hshort)] at hf
  have hsenses := s.senses_shortNoted p
  have hport := s.shortNoted_port p
  have hcount : (s.shortNoted p).reg (Item.POS.WIRE_CNT p) = s.reg (Item.POS.WIRE_CNT p) + 1 := State.reg_setReg_same ..
  rw [hexec]
  by_cases hmany : s.regN (Item.POS.WIRE_MAX p) ≤ (s.recentShorts p).length
  · rw [if_pos hmany] at hf
    obtain ⟨t, ht, hwarn⟩ := hc.senses_warns hsenses hf hidle
    have htport : t.port p = _ := (congrFun hwarn.port _).trans hport
    exact ⟨t, ht, (congrFun hwarn.reg _).trans hcount, by rw [htport], by rw [htport], fun h => absurd hmany (Nat.not_le.mpr h),
      fun _ => hwarn.shows⟩
  · rw [if_neg hmany] at hf
    refine hc.senses hsenses hf ⟨hcount, ?_, ?_, fun _ => hsenses.unit, fun h => absurd h hmany⟩
    · rw [State.keepLive_port', hport]
    · rw [State.keepLive_port', hport]

end

end
end Sys2Proof.Machine

namespace Sys2Proof.Machine

/-! ## Frames of an SSI port (R258, R259) -/

/-- The turn of a port's frame. -/
def State.frameTurn (s : State) (p : Nat) : State := s.every (Timer.frame p) (s.regN (Item.POS.SSI_PERIOD p) * 1000)

/-- The tick on which the frame of this turn was sampled (R259). -/
def State.frameSampled (s : State) (p : Nat) : Nat := (s.frameTurn p).tick + s.regN (Item.POS.SSI_DELAY p) / 5

/-- The tick on which the frame of this turn is accepted (R259). -/
def State.frameDone (s : State) (p : Nat) : Nat :=
  (s.frameTurn p).tick + (s.regN (Item.POS.SSI_BITS p) + s.regN (Item.POS.SSI_STAT p)) * 400000 / Nat.max 1 (s.regN (Item.POS.SSI_RATE p)) + 1

/-- A frame has been clocked in, and the one-time effect of a force bit is over. -/
def State.frameClocked (s : State) (p : Nat) : State := ((s.frameTurn p).reachTick (s.frameDone p)).useForce (unitOf Kind.port p) 4

/-- A frame's position taken (R258, R263). -/
def State.frameTaken (s : State) (p word : Nat) : State :=
  let t := s.frameClocked p
  let r := t.port p
  let win := r.edges.filter (fun e => decide (s.frameSampled p ≤ e.1 + t.regN (Item.POS.SPD_WIN p) * 400))
  t.setPort p { r with
    raw := s.ssiPosition p word, seen := true, ref := true, rejectRun := 0, ssi := false, updated := s.frameSampled p
    accepted := s.frameDone p, edges := (s.frameSampled p, s.ssiPosition p word) :: (if win = [] then r.edges.take 1 else win) }

/-- A rejected frame noted and counted (R259). -/
def State.frameRejected (s : State) (p : Nat) : State :=
  (s.setPort p { s.port p with rejectRun := (s.port p).rejectRun + 1, ssi := true }).bump (Item.POS.SSI_ERR_CNT p)

theorem State.senses_frameClocked {s : State} {p : Nat} (h : s.forceArmed (unitOf Kind.port p) 4 = false) : s.Senses (s.frameClocked p) :=
  ((s.senses_every _ _).trans (State.senses_reachTick ..)).trans (State.senses_useForce h)

theorem State.frameClocked_now (s : State) (p : Nat) :
    s.lastDone (Timer.frame p) + s.regN (Item.POS.SSI_PERIOD p) * 1000 ≤ (s.frameClocked p).time.now :=
  (s.every_now _ _).trans (State.senses_reachTick ..).now

theorem State.frameTaken_port (s : State) (p word : Nat) :
    ((s.frameTaken p word).port p).raw = s.ssiPosition p word ∧ ((s.frameTaken p word).port p).seen = true
      ∧ ((s.frameTaken p word).port p).rejectRun = 0 ∧ ((s.frameTaken p word).port p).ssi = false := by
  unfold State.frameTaken
  simp only [State.port_setPort_same, and_self]

theorem State.frameRejected_port (s : State) (p : Nat) :
    (s.frameRejected p).port p = { s.port p with rejectRun := (s.port p).rejectRun + 1, ssi := true } := s.port_setPort_same p _

theorem State.senses_frameRejected (s : State) (p : Nat) : s.Senses (s.frameRejected p) :=
  (s.senses_setPort ..).trans (State.senses_setReg ..)

/-- What rejecting a frame comes to (R259). -/
theorem State.rejectFrame_eq (s : State) (p : Nat) (forced : Bool) :
    s.rejectFrame p forced = if 3 ≤ (s.port p).rejectRun + 1 then
      ((s.frameRejected p).detect (unitOf Kind.port p) .W 17 forced).detect (unitOf Kind.port p) .F 6 forced
    else (s.frameRejected p).detect (unitOf Kind.port p) .W 17 forced := rfl

section
variable {s : State} {p : Fin 4} {word : BitVec 40} {lowBefore : Bool} {release : Nat}

/-- A frame that the data line, the release or a status bit speaks against is rejected (R259). -/
theorem State.ssiBad_of_frame (tick : Nat) (h : lowBefore = true ∨ s.regN (Item.POS.SSI_TMO p) * 1000 < release
      ∨ word.toNat % 2 ^ s.regN (Item.POS.SSI_STAT p) &&& s.regN (Item.POS.SSI_ERRMASK p) ≠ 0) :
    s.ssiBad p word.toNat lowBefore release tick = true := by
  unfold State.ssiBad
  rcases h with h | h | h <;> simp [h]

/-- Before the first accepted frame nothing else does. -/
theorem State.ssiBad_first (tick : Nat) (hseen : (s.port p).seen = false) (hrelease : release ≤ s.regN (Item.POS.SSI_TMO p) * 1000)
    (hstatus : word.toNat % 2 ^ s.regN (Item.POS.SSI_STAT p) &&& s.regN (Item.POS.SSI_ERRMASK p) = 0) :
    s.ssiBad p word.toNat false release tick = false := by
  simp [State.ssiBad, hseen, Nat.not_lt.mpr hrelease, hstatus]

variable (hc : s.Calm) (hmode : s.portMode p = 5) (hforce : (s.unit (unitOf Kind.port p)).forceArmed = 0)

include hforce in
theorem State.not_forceArmed_of_zero (k : Nat) : s.forceArmed (unitOf Kind.port p) k = false := by
  unfold State.forceArmed
  rw [hforce]
  exact Nat.zero_testBit k

include hc hmode hforce

/-- What SSI_FRAME does: a frame with a fault is rejected, another one taken, with the compare units after it (R259, R269). -/
theorem exec_ssiFrame : ∃ f, exec (.ssiFrame p word lowBefore release) s = .next (s.act f)
    ∧ (s.ssiBad p word.toNat lowBefore release (s.frameSampled p) = true → f s = (s.frameClocked p).rejectFrame p false)
    ∧ (s.ssiBad p word.toNat lowBefore release (s.frameSampled p) = false → (s.frameTaken p word.toNat).Compares (f s) p) := by
  have hnot := State.not_forceArmed_of_zero hforce 4
  refine ⟨_, rfl, fun hbad => ?_, fun hgood => ?_⟩
  · refine (if_neg (not_not.mpr hmode)).trans ?_
    rw [State.portBoundary_nothing (s.every _ _) p hc.waits]
    extract_lets u t1 sampled bits accepted forced bad t
    have hforced : forced = false := hnot
    have hbad' : bad = true := (congrArg (forced || ·) hbad).trans (Bool.or_true forced)
    rw [if_pos hbad', hforced]
    rfl
  · rw [if_neg (not_not.mpr hmode), State.portBoundary_nothing (s.every _ _) p hc.waits]
    extract_lets u t1 sampled bits accepted forced bad t r pos win t2
    have hbad' : ¬ bad = true := by
      rw [show bad = (forced || false) from congrArg (forced || ·) hgood, show forced = false from hnot]
      decide
    rw [if_neg hbad']
    exact State.compares_units (fun v k hk => v.comparesAt_compareUpdate p _ _ hk) _

/-- R258: the first frame without a fault is taken. -/
theorem State.Calm.exec_ssiFrame_takes (hseen : (s.port p).seen = false) (hrelease : release ≤ s.regN (Item.POS.SSI_TMO p) * 1000)
    (hstatus : word.toNat % 2 ^ s.regN (Item.POS.SSI_STAT p) &&& s.regN (Item.POS.SSI_ERRMASK p) = 0) :
    ∃ t, exec (.ssiFrame p word false release) s = .next t ∧ (t.port p).seen = true ∧ (t.port p).rejectRun = 0
      ∧ (t.port p).ssi = false ∧ (t.port p).raw = s.ssiPosition p word.toNat ∧ t.unit = s.unit
      ∧ s.lastDone (Timer.frame p) + s.regN (Item.POS.SSI_PERIOD p) * 1000 ≤ t.time.now := by
  obtain ⟨f, hexec, -, htakes⟩ := exec_ssiFrame (word := word) (lowBefore := false) (release := release) hc hmode hforce
  have hcompares := htakes (State.ssiBad_first _ hseen hrelease hstatus)
  have htaken : s.Senses (s.frameTaken p word.toNat) :=
    (State.senses_frameClocked (State.not_forceArmed_of_zero hforce 4)).trans (State.senses_setPort ..)
  have hnow : s.lastDone (Timer.frame p) + s.regN (Item.POS.SSI_PERIOD p) * 1000 ≤ (s.frameTaken p word.toNat).time.now :=
    s.frameClocked_now p
  obtain ⟨hraw, hseen', hrun, hssi⟩ := s.frameTaken_port p word.toNat
  have hsenses := htaken.trans hcompares.senses
  rw [hexec]
  refine hc.senses hsenses rfl ⟨?_, ?_, ?_, ?_, hsenses.unit, (hnow.trans hcompares.senses.now).trans (le_max_right ..)⟩
  · rw [State.keepLive_port', hcompares.port]; exact hseen'
  · rw [State.keepLive_port', hcompares.port]; exact hrun
  · rw [State.keepLive_port', hcompares.port]; exact hssi
  · rw [State.keepLive_port', hcompares.port]; exact hraw

section
variable (hidle : (s.unit (unitOf Kind.port p)).state = .idle)
  (hbad : s.ssiBad p word.toNat lowBefore release (s.frameSampled p) = true)
include hidle hbad

/-- R259: a rejected frame before the third in a row is counted and warned of. -/
theorem State.Calm.exec_ssiFrame_rejects (hrun : (s.port p).rejectRun < 2) (hrank : s.Unranked (unitOf Kind.port p) 17) :
    ∃ t, exec (.ssiFrame p word lowBefore release) s = .next t ∧ t.Shows (unitOf Kind.port p) .idle .W 17
      ∧ (t.port p).raw = (s.port p).raw ∧ (t.port p).rejectRun = (s.port p).rejectRun + 1
      ∧ t.reg (Item.POS.SSI_ERR_CNT p) = s.reg (Item.POS.SSI_ERR_CNT p) + 1 := by
  obtain ⟨f, hexec, hrejects, -⟩ := exec_ssiFrame (word := word) (lowBefore := lowBefore) (release := release) hc hmode hforce
  have hclock := State.senses_frameClocked (State.not_forceArmed_of_zero (p := p) hforce 4)
  have hf := hrejects hbad
  rw [State.rejectFrame_eq] at hf
  have hport := (s.frameClocked p).frameRejected_port p
  obtain ⟨t, ht, hwarn⟩ := hc.senses_warns (hclock.trans (State.senses_frameRejected ..)) (hf.trans (if_neg (by
    show ¬ 3 ≤ (s.port p).rejectRun + 1
    omega))) hidle
  have htport : t.port p = _ := (congrFun hwarn.port _).trans hport
  refine ⟨t, hexec.trans ht, hwarn.shows hrank, by rw [htport]; rfl, by rw [htport]; rfl, ?_⟩
  exact (congrFun hwarn.reg _).trans (State.reg_setReg_same ..)

/-- R259: the third rejected frame in a row is a fault. -/
theorem State.Calm.exec_ssiFrame_faults (hrun : (s.port p).rejectRun = 2) (hrank : s.Unranked (unitOf Kind.port p) 6) :
    ∃ t, exec (.ssiFrame p word lowBefore release) s = .next t ∧ s.TakesUp t (unitOf Kind.port p) .handling .F 6
      ∧ (t.port p).raw = (s.port p).raw ∧ (t.port p).ssi = true := by
  obtain ⟨f, hexec, hrejects, -⟩ := exec_ssiFrame (word := word) (lowBefore := lowBefore) (release := release) hc hmode hforce
  have hsenses := (State.senses_frameClocked (State.not_forceArmed_of_zero (p := p) hforce 4)).trans
    ((s.frameClocked p).senses_frameRejected p)
  have hthird : 3 ≤ (s.port p).rejectRun + 1 := by omega
  have hf := hrejects hbad
  rw [State.rejectFrame_eq, if_pos (show 3 ≤ ((s.frameClocked p).port p).rejectRun + 1 from hthird)] at hf
  have hport := (s.frameClocked p).frameRejected_port p
  have hwarns := ((s.frameClocked p).frameRejected p).warns_detect (unitOf Kind.port p) 17 false (by rw [unitKind_posPort]; decide)
  have hpoised := fun h : s.Unranked (unitOf Kind.port p) 6 => ((hsenses.poised (unitOf Kind.port p)).notices ⟨hidle, h⟩).2
  generalize (s.frameClocked p).frameRejected p = g at *
  have hgidle : (g.unit (unitOf Kind.port p)).state = .idle := by rw [hsenses.unit]; exact hidle
  have hvidle := g.detect_W_idle 17 false hgidle
  have hvrank := fun h => g.detect_W_lower (src := 17) false (by decide) hgidle (hpoised h)
  generalize g.detect (unitOf Kind.port p) .W 17 false = v at *
  obtain ⟨t, ht, hfault⟩ := hc.faults hf (by decide) (by rw [hwarns]; exact hsenses.waits) (by rw [hwarns]; exact hsenses.swaps)
    (by rw [hwarns]; exact hsenses.devState) (by rw [hwarns]; exact (hsenses.poised 0).journal) hvidle
    (fun h => by rw [show v.time = g.time by rw [hwarns]]; exact hvrank h)
  have htport : t.port p = g.port p := (congrFun hfault.port _).trans (by rw [hwarns]; rfl)
  exact ⟨t, hexec.trans ht, hfault.takesUp hrank, by rw [htport, hport]; rfl, by rw [htport, hport]⟩

end
end
end Sys2Proof.Machine

namespace Sys2Proof.Machine

/-! ## Samples of an analogue port (R250, R251) -/

/-- A run of bad samples with one more (R251). -/
def badRun (bad : Bool) (n : Nat) : Nat := if bad then n + 1 else 0

/-- The runs of bad amplitude and common mode of a sample, and its amplitude, noted (R251). -/
def State.sampleNoted (s : State) (p : Nat) (x : PortSample) : State :=
  let r := s.port p
  let a := badRun (s.ampBad p x) r.ampRun
  let ca := badRun (s.pairBad p x false) r.cmRunA
  let cb := badRun (s.pairBad p x true) r.cmRunB
  (s.setPort p { r with
    ampRun := a, cmRunA := ca, cmRunB := cb, amp := r.amp || decide (16 ≤ a), wire := r.wire || decide (16 ≤ ca ∨ 16 ≤ cb) }).setReg
    (Item.POS.AMP p) (nw (Nat.sqrt (PortSample.square x (s.portMode p))))

/-- A sample is the sixteenth bad one in a row (R251). -/
def State.SampleFails (s : State) (p : Nat) (x : PortSample) : Prop :=
  badRun (s.ampBad p x) (s.port p).ampRun = 16 ∨ badRun (s.pairBad p x false) (s.port p).cmRunA = 16
    ∨ badRun (s.pairBad p x true) (s.port p).cmRunB = 16

/-- The check of a sample is a fault or notes it alone. -/
theorem State.checkSample_cases (s : State) (p : Nat) (x : PortSample) :
    (∃ forced, s.checkSample p x = (s.sampleNoted p x).detect (unitOf Kind.port p) .F 2 forced)
      ∨ (¬ s.SampleFails p x ∧ s.checkSample p x = s.sampleNoted p x) := by
  by_cases hfails : s.SampleFails p x
  · exact .inl ⟨_, if_pos hfails⟩
  · exact .inr ⟨hfails, if_neg hfails⟩

theorem State.senses_sampleNoted (s : State) (p : Nat) (x : PortSample) : s.Senses (s.sampleNoted p x) :=
  (s.senses_setPort ..).trans (State.senses_setReg ..)

theorem State.sampleNoted_reg (s : State) (p : Nat) (x : PortSample) :
    (s.sampleNoted p x).reg (Item.POS.AMP p) = nw (Nat.sqrt (PortSample.square x (s.portMode p))) := State.reg_setReg_same ..

/-- The check leaves the observer, and the sixteenth low amplitude in a row is marked. -/
theorem State.sampleNoted_port (s : State) (p : Nat) (x : PortSample) :
    ((s.sampleNoted p x).port p).observed = (s.port p).observed ∧ ((s.sampleNoted p x).port p).seen = (s.port p).seen
      ∧ (badRun (s.ampBad p x) (s.port p).ampRun = 16 → ((s.sampleNoted p x).port p).amp = true) := by
  unfold State.sampleNoted
  rw [State.port_setReg', State.port_setPort_same]
  exact ⟨rfl, rfl, fun h => by simp [h]⟩

theorem State.ampBad_low {s : State} {p : Nat} {x : PortSample}
    (h : PortSample.square x (s.portMode p) * 10000 < (s.regN (Item.POS.AMP_NOM p) * s.regN (Item.POS.AMP_LO p)) ^ 2) :
    s.ampBad p x = true := by
  unfold State.ampBad
  simp [h]

/-- The turn of a port's observer, with a sample (R250). -/
def State.observerTurn (s : State) (p : Nat) (x : PortSample) : State := (s.every (Timer.observer p) 625).observe p x

theorem State.senses_observerTurn (s : State) (p : Nat) (x : PortSample) : s.Senses (s.observerTurn p x) :=
  (s.senses_every _ _).trans (State.senses_setPort ..)

/-- A speed is tracked up to a limit, in either direction. -/
theorem natAbs_clip_le (sgn : Int) (hsgn : sgn = 1 ∨ sgn = -1) (lim : Nat) (v : Int) :
    (sgn * max (-(lim : Int)) (min (lim : Int) v)).natAbs ≤ lim := by
  rcases hsgn with rfl | rfl <;> omega

theorem State.portSign_cases (s : State) (p : Nat) : s.portSign p = 1 ∨ s.portSign p = -1 := by
  unfold State.portSign
  split
  · exact .inr rfl
  · exact .inl rfl

/-- The observer tracks no more than its limit, and counts no bad sample (R250). -/
theorem State.observerTurn_port (s : State) (p : Nat) (x : PortSample) :
    ((s.observerTurn p x).port p).observed.natAbs ≤ s.trackLimit p ∧ ((s.observerTurn p x).port p).seen = true
      ∧ ((s.observerTurn p x).port p).ampRun = (s.port p).ampRun := by
  unfold State.observerTurn State.observe
  rw [State.port_setPort_same]
  exact ⟨natAbs_clip_le _ (State.portSign_cases ..) _ _, rfl, rfl⟩

section
variable {s : State} (hc : s.Calm) {p : Fin 4} {x : PortSample} (hmode : s.portMode p = 1 ∨ s.portMode p = 2)
include hc hmode

/-- What OBSERVER_UPDATE does: the observer's turn, the compare units, the check of the sample (R250, R251, R269). -/
theorem exec_observerUpdate : ∃ f g, exec (.observerUpdate p x) s = .next (s.act f) ∧ (s.observerTurn p x).Compares g p
    ∧ f s = g.checkSample p x := by
  refine ⟨_, _, rfl, State.compares_units (fun v k hk => v.comparesAt_compareUpdate p (v.port p).observed (v.tick + 250) hk) _, ?_⟩
  refine (if_neg (by tauto)).trans ?_
  rw [State.portBoundary_nothing (s.every _ _) p hc.waits]
  rfl

/-- R250, R251: the sample's amplitude, the observer's limit, and the sixteenth low amplitude in a row. -/
theorem State.Calm.exec_observerUpdate_checks (hidle : (s.unit (unitOf Kind.port p)).state = .idle) :
    ∃ t, exec (.observerUpdate p x) s = .next t
      ∧ ((t.unit (unitOf Kind.port p)).state = .idle → t.reg (Item.POS.AMP p) = nw (Nat.sqrt (PortSample.square x (s.portMode p))))
      ∧ (t.port p).observed.natAbs ≤ s.trackLimit p ∧ (t.port p).seen = true ∧ s.lastDone (Timer.observer p) + 625 ≤ t.time.now
      ∧ (PortSample.square x (s.portMode p) * 10000 < (s.regN (Item.POS.AMP_NOM p) * s.regN (Item.POS.AMP_LO p)) ^ 2 →
          (s.port p).ampRun = 15 → s.Unranked (unitOf Kind.port p) 2 →
          s.TakesUp t (unitOf Kind.port p) .handling .F 2 ∧ (t.port p).amp = true) := by
  obtain ⟨f, g, hexec, hcompares, hf⟩ := exec_observerUpdate (x := x) hc hmode
  obtain ⟨hlimit, hseen, hrun⟩ := s.observerTurn_port p x
  have hsenses := ((s.senses_observerTurn p x).trans hcompares.senses).trans (g.senses_sampleNoted p x)
  have hturn : s.lastDone (Timer.observer p) + 625 ≤ (g.sampleNoted p x).time.now :=
    ((s.every_now _ _).trans hcompares.senses.now).trans (g.senses_sampleNoted p x).now
  have hregN : ∀ i ∉ [0x035, 0x036, 0x037, 0x03D, 0x03E, 0x03F], g.regN (Item.addr 0x0E p i) = s.regN (Item.addr 0x0E p i) :=
    fun i hi => congrArg BitVec.toNat (hcompares.posReg hi)
  have hgmode : g.portMode p = s.portMode p := hregN _ (by decide)
  have hlow : PortSample.square x (s.portMode p) * 10000 < (s.regN (Item.POS.AMP_NOM p) * s.regN (Item.POS.AMP_LO p)) ^ 2 →
      (s.port p).ampRun = 15 → badRun (g.ampBad p x) (g.port p).ampRun = 16 := fun h h15 => by
    rw [State.ampBad_low (by rw [hgmode, hregN _ (by decide), hregN _ (by decide)]; exact h), hcompares.port]
    exact congrArg (· + 1) (hrun.trans h15)
  obtain ⟨hobserved, hseen', hamp⟩ := g.sampleNoted_port p x
  rw [hcompares.port] at hobserved hseen'
  have hreg := g.sampleNoted_reg p x
  rw [hgmode] at hreg
  rw [hexec]
  obtain ⟨forced, hcheck⟩ | ⟨hpass, hcheck⟩ := g.checkSample_cases p x
  · obtain ⟨t, ht, hfault⟩ := hc.senses_faults hsenses (hf.trans hcheck) (by decide) hidle
    refine ⟨t, ht, fun h => absurd (hfault.handling.symm.trans h) (by decide), ?_, ?_, hturn.trans hfault.now, fun h h15 hrank =>
      ⟨hfault.takesUp hrank, ?_⟩⟩
    · rw [hfault.port, hobserved]; exact hlimit
    · rw [hfault.port, hseen']; exact hseen
    · rw [hfault.port]; exact hamp (hlow h h15)
  · refine hc.senses hsenses (hf.trans hcheck) ⟨fun _ => hreg, ?_, ?_, hturn.trans (le_max_right ..), fun h h15 =>
      absurd (.inl (hlow h h15)) hpass⟩
    · rw [State.keepLive_port', hobserved]; exact hlimit
    · rw [State.keepLive_port', hseen']; exact hseen

end

/-- Settles O25: every row notes what it has measured, and the last bad one of a run is a fault of the port, whose sheaf leaves the port's own
books alone (R250 to R253, R258, R259; the observer's functions and the turn of a frame's number are assumption logs 112 and 113). -/
theorem portsCheckTheirSensors : Obligations.PortsCheckTheirSensors := by
  intro s p hc hidle hforce harmed
  refine ⟨fun x hmode => hc.exec_observerUpdate_checks hmode hidle,
    fun peak hmode hon => hc.exec_excitationPeriod_checks hidle hforce hmode hon,
    fun pair vP vN ticks => ⟨fun h => hc.exec_wireDisagreement_agrees hforce pair ticks h, fun hused hdiffer =>
      ⟨fun hlong hrank => hc.exec_wireDisagreement_long hidle hforce hused hdiffer hlong hrank,
        fun hshort => hc.exec_wireDisagreement_short hidle hforce hused hdiffer hshort⟩⟩,
    fun word release hmode hseen hrelease hstatus => hc.exec_ssiFrame_takes hmode harmed hseen hrelease hstatus,
    fun word lowBefore release hmode hbad => ⟨fun hrun hrank =>
      hc.exec_ssiFrame_faults hmode harmed hidle (State.ssiBad_of_frame _ hbad) hrun hrank, fun hrun hrank =>
        hc.exec_ssiFrame_rejects hmode harmed hidle (State.ssiBad_of_frame _ hbad) hrun hrank⟩⟩

end Sys2Proof.Machine

namespace Sys2Proof.Machine

/-! ## Speed (R263 to R266) -/

/-- The turn of a port's speed. -/
def State.speedTurn (s : State) (p : Nat) : State := s.every (Timer.speed p) (s.regN (Item.POS.SPD_PERIOD p) * 1000)

/-- The speed that an edge or SSI port computes on that turn, and whether it stands still. -/
def State.computedSpeed (s : State) (p : Nat) : Int × Bool :=
  if s.portMode p = 5 then (s.speedTurn p).ssiSpeed p (s.speedTurn p).tick else (s.speedTurn p).edgePortSpeed p (s.speedTurn p).tick

/-- The speed that an analogue port computes: the observer's, filtered (R263, assumption log 112). -/
def State.analogueSpeed (s : State) (p : Nat) : Int :=
  (Config.unstated 22 [s.reg (Item.POS.SPEED p), iw (s.port p).observed, s.reg (Item.POS.SPD_WIN p)]).toInt

/-- A computed speed taken, and the one-time effect of force bit PLAUS over. -/
def State.speedTaken (s : State) (p : Nat) (v : Int) (still plaus : Bool) : State :=
  ((s.setReg (Item.POS.SPEED p) (iw v)).setPort p { s.port p with standstill := still, spoke := true, plaus := plaus }).useForce
    (unitOf Kind.port p) 5

/-- A speed is beyond SPD_MAX, or too far from the one before (R266). -/
def State.speedBad (s : State) (p : Nat) (v : Int) : Bool :=
  decide (s.regN (Item.POS.SPD_MAX p) * 1000 < v.natAbs) || ((s.port p).spoke && decide
    (s.regN (Item.POS.ACC_MAX p) * 1000 * s.regN (Item.POS.SPD_PERIOD p) < (v - s.regI (Item.POS.SPEED p)).natAbs * 1000000))

/-- What taking a computed speed comes to (R266). -/
theorem State.takeSpeed_eq (s : State) (p : Nat) (v : Int) (still : Bool) :
    s.takeSpeed p v still =
      let t := s.speedTaken p v still ((s.port p).plaus || s.speedBad p v || s.forceArmed (unitOf Kind.port p) 5)
      if s.speedBad p v || s.forceArmed (unitOf Kind.port p) 5 then
        t.detect (unitOf Kind.port p) .F 7 (s.forceArmed (unitOf Kind.port p) 5)
      else t := rfl

theorem State.takeSpeed_good {s : State} {p : Nat} {v : Int} (still : Bool) (hgood : s.speedBad p v = false)
    (harmed : s.forceArmed (unitOf Kind.port p) 5 = false) : s.takeSpeed p v still = s.speedTaken p v still (s.port p).plaus := by
  rw [State.takeSpeed_eq, hgood, harmed, Bool.or_false, Bool.or_false]
  exact if_neg (by decide)

theorem State.takeSpeed_bad {s : State} {p : Nat} {v : Int} (still : Bool) (hbad : s.speedBad p v = true)
    (harmed : s.forceArmed (unitOf Kind.port p) 5 = false) :
    s.takeSpeed p v still = (s.speedTaken p v still true).detect (unitOf Kind.port p) .F 7 false := by
  rw [State.takeSpeed_eq, hbad, harmed, Bool.or_true]
  exact if_pos rfl

theorem State.speedTaken_port (s : State) (p : Nat) (v : Int) (still plaus : Bool) :
    (s.speedTaken p v still plaus).port p = { s.port p with standstill := still, spoke := true, plaus := plaus } :=
  State.port_setPort_same ..

theorem State.speedTaken_reg (s : State) (p : Nat) (v : Int) (still plaus : Bool) :
    (s.speedTaken p v still plaus).reg (Item.POS.SPEED p) = iw v := by
  rw [State.speedTaken, State.useForce, State.reg_setUnit', State.reg_setPort', State.reg_setReg_same]

theorem State.senses_speedTaken {s : State} {p : Nat} (h : s.forceArmed (unitOf Kind.port p) 5 = false) (v : Int) (still plaus : Bool) :
    s.Senses (s.speedTaken p v still plaus) :=
  ((s.senses_setReg ..).trans (State.senses_setPort ..)).trans (State.senses_useForce h)

/-- Whatever the speed, it has been taken, and at most a fault follows. -/
theorem State.detects_takeSpeed (s : State) (p : Fin 4) (v : Int) (still : Bool) :
    ∃ plaus, (s.speedTaken p v still plaus).Detects (s.takeSpeed p v still) := by
  refine ⟨(s.port p).plaus || s.speedBad p v || s.forceArmed (unitOf Kind.port p) 5, ?_⟩
  rw [State.takeSpeed_eq]
  extract_lets t
  split
  · exact t.detects_detect _ _ _ _ fun h => absurd ((unitKind_posPort p).symm.trans h) (by decide)
  · exact .refl t

section
variable {s : State} (hc : s.Calm) {p : Fin 4}
include hc

/-- What SPEED_COMPUTE does to an edge or SSI port. -/
theorem exec_speedCompute (h3 : 3 ≤ s.portMode p) (h5 : s.portMode p ≤ 5) :
    ∃ f, exec (.speedCompute p) s = .next (s.act f)
      ∧ f s = (s.speedTurn p).takeSpeed p (s.computedSpeed p).1 (s.computedSpeed p).2 := by
  refine ⟨_, rfl, (if_neg (by omega)).trans ?_⟩
  rw [State.portBoundary_nothing (s.every _ _) p hc.waits]
  unfold State.computedSpeed
  have hmode : s.portMode p = 3 ∨ s.portMode p = 4 ∨ s.portMode p = 5 := by omega
  have hturn : ∀ m, s.portMode p = m → (s.every (Timer.speed p) (s.regN (Item.POS.SPD_PERIOD p) * 1000)).portMode p = m := fun _ h => h
  rcases hmode with h | h | h <;> simp only [hturn _ h, h] <;> rfl

/-- What SPEED_COMPUTE does to an analogue port. -/
theorem exec_speedCompute_analogue (hmode : s.portMode p = 1 ∨ s.portMode p = 2) :
    ∃ f, exec (.speedCompute p) s = .next (s.act f) ∧ f s = (s.speedTurn p).takeSpeed p (s.analogueSpeed p)
      (decide ((s.analogueSpeed p).natAbs < s.regN (Item.POS.SPD_ZERO p))) := by
  refine ⟨_, rfl, (if_neg (by omega)).trans ?_⟩
  rw [State.portBoundary_nothing (s.every _ _) p hc.waits]
  have hturn : ∀ m, s.portMode p = m → (s.every (Timer.speed p) (s.regN (Item.POS.SPD_PERIOD p) * 1000)).portMode p = m := fun _ h => h
  rcases hmode with h | h <;> simp only [hturn _ h] <;> rfl

/-- R250, R263: an analogue port takes a speed every SPD_PERIOD. -/
theorem State.Calm.exec_speedCompute_analogue (hmode : s.portMode p = 1 ∨ s.portMode p = 2) :
    ∃ t v, exec (.speedCompute p) s = .next t ∧ t.reg (Item.POS.SPEED p) = iw v ∧ (t.port p).spoke = true
      ∧ s.lastDone (Timer.speed p) + s.regN (Item.POS.SPD_PERIOD p) * 1000 ≤ t.time.now := by
  obtain ⟨f, hexec, hf⟩ := Machine.exec_speedCompute_analogue hc hmode
  generalize s.analogueSpeed p = v at hf
  generalize decide (v.natAbs < s.regN (Item.POS.SPD_ZERO p)) = still at hf
  obtain ⟨plaus, hdetects⟩ := (s.speedTurn p).detects_takeSpeed p v still
  have hturn : s.lastDone (Timer.speed p) + s.regN (Item.POS.SPD_PERIOD p) * 1000 ≤ ((s.speedTurn p).speedTaken p v still plaus).time.now :=
    s.every_now _ _
  have hport := (s.speedTurn p).speedTaken_port p v still plaus
  rw [hexec]
  generalize (s.speedTurn p).takeSpeed p v still = g at *
  refine ⟨s.keepLive g, (g.reg (Item.POS.SPEED p)).toInt, ?_, (BitVec.ofInt_toInt).symm, ?_, ?_⟩
  · rw [s.act_to f g hf, hc.act g (by rw [hdetects]; rfl) (by rw [hdetects]; rfl) (by rw [hdetects]; rfl)]
  · rw [hdetects, State.keepLive_port']
    exact congrArg Port.spoke hport
  · rw [hdetects]
    exact hturn.trans (le_max_right ..)

section
variable (h3 : 3 ≤ s.portMode p) (h5 : s.portMode p ≤ 5) (harmed : s.forceArmed (unitOf Kind.port p) 5 = false)
include h3 h5 harmed

/-- R263 to R266: a speed within its limits. -/
theorem State.Calm.exec_speedCompute_within (hmax : (s.computedSpeed p).1.natAbs ≤ s.regN (Item.POS.SPD_MAX p) * 1000)
    (hacc : (s.port p).spoke = true → ((s.computedSpeed p).1 - s.regI (Item.POS.SPEED p)).natAbs * 1000000
      ≤ s.regN (Item.POS.ACC_MAX p) * 1000 * s.regN (Item.POS.SPD_PERIOD p)) :
    ∃ t, exec (.speedCompute p) s = .next t ∧ t.reg (Item.POS.SPEED p) = iw (s.computedSpeed p).1
      ∧ (t.port p).standstill = (s.computedSpeed p).2 ∧ t.unit = s.unit
      ∧ (t.port p).plaus = (s.port p).plaus ∧ (t.port p).raw = (s.port p).raw
      ∧ s.lastDone (Timer.speed p) + s.regN (Item.POS.SPD_PERIOD p) * 1000 ≤ t.time.now := by
  obtain ⟨f, hexec, hf⟩ := exec_speedCompute hc h3 h5
  have hgood : (s.speedTurn p).speedBad p (s.computedSpeed p).1 = false := by
    show s.speedBad p (s.computedSpeed p).1 = false
    unfold State.speedBad
    rw [decide_eq_false (Nat.not_lt.mpr hmax), Bool.false_or]
    cases hspoke : (s.port p).spoke with
    | false => rfl
    | true => rw [decide_eq_false (Nat.not_lt.mpr (hacc hspoke)), Bool.and_false]
  have hnot : (s.speedTurn p).forceArmed (unitOf Kind.port p) 5 = false := harmed
  rw [State.takeSpeed_good _ hgood hnot] at hf
  have hsenses := (s.senses_every _ _).trans (State.senses_speedTaken hnot (s.computedSpeed p).1 (s.computedSpeed p).2
    ((s.speedTurn p).port p).plaus)
  have hport := (s.speedTurn p).speedTaken_port p (s.computedSpeed p).1 (s.computedSpeed p).2 ((s.speedTurn p).port p).plaus
  have hspeed := (s.speedTurn p).speedTaken_reg p (s.computedSpeed p).1 (s.computedSpeed p).2 ((s.speedTurn p).port p).plaus
  rw [hexec]
  refine hc.senses hsenses hf ⟨hspeed, ?_, hsenses.unit, ?_, ?_, (s.every_now _ _).trans (le_max_right ..)⟩
  · rw [State.keepLive_port', hport]
  · rw [State.keepLive_port', hport]; rfl
  · rw [State.keepLive_port', hport]; rfl

/-- R266: a speed beyond SPD_MAX is a fault. -/
theorem State.Calm.exec_speedCompute_beyond (hmax : s.regN (Item.POS.SPD_MAX p) * 1000 < (s.computedSpeed p).1.natAbs)
    (hnote : s.Notices (unitOf Kind.port p) 7) :
    ∃ t, exec (.speedCompute p) s = .next t ∧ s.TakesUp t (unitOf Kind.port p) .handling .F 7 ∧ (t.port p).plaus = true := by
  obtain ⟨f, hexec, hf⟩ := exec_speedCompute hc h3 h5
  have hbad : (s.speedTurn p).speedBad p (s.computedSpeed p).1 = true := Bool.or_eq_true_iff.mpr (.inl (decide_eq_true hmax))
  have hnot : (s.speedTurn p).forceArmed (unitOf Kind.port p) 5 = false := harmed
  obtain ⟨hidle, hrank⟩ := hnote
  rw [State.takeSpeed_bad _ hbad hnot] at hf
  have hsenses := (s.senses_every _ _).trans (State.senses_speedTaken hnot (s.computedSpeed p).1 (s.computedSpeed p).2 true)
  obtain ⟨t, ht, hfault⟩ := hc.senses_faults hsenses hf (by decide) hidle
  exact ⟨t, hexec.trans ht, hfault.takesUp hrank, by rw [hfault.port, State.speedTaken_port]⟩

end
end

end Sys2Proof.Machine

namespace Sys2Proof.Machine

/-! ## Compare units at a count (R268, R269) -/

/-- The items that place a unit's grid are none that the units count in. -/
theorem gridItem_not_counted : ∀ c < 2, ∀ i ∈ [0x030, 0x031, 0x032, 0x033], i + 8 * c ∉ [0x035, 0x036, 0x037, 0x03D, 0x03E, 0x03F] := by
  decide

section
variable {s t : State} {p c : Nat}

theorem State.Compares.regN {i : Nat} (h : s.Compares t p) (hi : i ∉ [0x035, 0x036, 0x037, 0x03D, 0x03E, 0x03F]) :
    t.regN (Item.addr 0x0E p i) = s.regN (Item.addr 0x0E p i) := congrArg BitVec.toNat (h.posReg hi)

theorem State.Compares.regI {i : Nat} (h : s.Compares t p) (hi : i ∉ [0x035, 0x036, 0x037, 0x03D, 0x03E, 0x03F]) :
    t.regI (Item.addr 0x0E p i) = s.regI (Item.addr 0x0E p i) := congrArg BitVec.toInt (h.posReg hi)

theorem State.Compares.portX (h : s.Compares t p) : t.portX p = s.portX p := by
  unfold State.portX State.extended State.portMode
  rw [h.regN (by decide), h.regN (by decide), h.regN (by decide), h.port]

/-- What the units do moves no unit's grid. -/
theorem State.Compares.gridStep (h : s.Compares t p) (hc : c < 2) (j : Int) : t.gridStep p c j = s.gridStep p c j := by
  have hitem := gridItem_not_counted c hc
  unfold State.gridStep
  rw [h.portX, h.regN (hitem 0x031 (by decide)), h.regI (hitem 0x030 (by decide)), h.regN (hitem 0x032 (by decide))]

theorem State.Compares.compareDir (h : s.Compares t p) (hc : c < 2) (fwd : Bool) : t.compareDir p c fwd = s.compareDir p c fwd := by
  unfold State.compareDir
  rw [h.regN (gridItem_not_counted c hc 0x033 (by decide))]

theorem State.Compares.compareOn (h : s.Compares t p) (hc : c < 2) : t.compareOn p c = s.compareOn p c := by
  have hitem := gridItem_not_counted c hc
  unfold State.compareOn
  rw [h.regN (hitem 0x031 (by decide)), h.regN (hitem 0x033 (by decide))]

theorem State.setCompare_index (s : State) (p c : Nat) (j : Option Int) (e : Option Crossing) :
    KMap.get (fun _ => none) ((s.setCompare p c j e).port p).index c = j := by
  rw [State.setCompare_port]
  exact KMap.get_put_same (fun _ => none) (s.port p).index c j

theorem State.setCompare_planned (s : State) (p c : Nat) (j : Option Int) (e : Option Crossing) :
    KMap.get (fun _ => none) ((s.setCompare p c j e).port p).planned c = e := by
  rw [State.setCompare_port]
  exact KMap.get_put_same (fun _ => none) (s.port p).planned c e

/-- A unit that is on, stands on an index and has no event scheduled. -/
structure State.Stands (s : State) (p c : Nat) (j : Int) : Prop where
  on : s.compareOn p c = true
  index : KMap.get (fun _ => none) (s.port p).index c = some j
  planned : KMap.get (fun _ => none) (s.port p).planned c = none

/-- Such a unit after a count of a tick: where the position has passed grid points it has a new index, and an event on the next tick where it
reports the direction (R268, R269). -/
def State.Counted (t : State) (p c : Nat) (j : Int) (tick : Nat) : Prop :=
  let g := t.gridStep p c j
  (g.2.1 = 0 → KMap.get (fun _ => none) (t.port p).index c = some j ∧ KMap.get (fun _ => none) (t.port p).planned c = none) ∧
  (g.2.1 ≠ 0 → KMap.get (fun _ => none) (t.port p).index c = some g.1
    ∧ KMap.get (fun _ => none) (t.port p).planned c
        = if t.compareDir p c g.2.2 then some { tick := tick + 1, index := g.1, passed := g.2.1 } else none)

/-- What a unit does at a count. -/
theorem State.Stands.compareCount {j : Int} (h : s.Stands p c j) (tick : Nat) :
    s.compareCount p tick c = if (s.gridStep p c j).2.1 = 0 then s else s.setCompare p c (some (s.gridStep p c j).1)
      (if s.compareDir p c (s.gridStep p c j).2.2 then
        some { tick := tick + 1, index := (s.gridStep p c j).1, passed := (s.gridStep p c j).2.1 } else none) := by
  unfold State.compareCount
  simp only [h.on, h.index, h.planned, Bool.not_true, Bool.false_eq_true, if_false]

theorem State.Stands.counted {j : Int} (h : s.Stands p c j) (hc : c < 2) (tick : Nat) : (s.compareCount p tick c).Counted p c j tick := by
  have hcompares := (s.comparesAt_compareCount p tick hc).toCompares
  have hcount := h.compareCount tick
  simp only [State.Counted, hcompares.gridStep hc, hcompares.compareDir hc]
  rw [hcount]
  refine ⟨fun hnone => ?_, fun hsome => ?_⟩
  · rw [if_pos hnone]
    exact ⟨h.index, h.planned⟩
  · rw [if_neg hsome]
    exact ⟨State.setCompare_index .., State.setCompare_planned ..⟩

/-- What the other unit does leaves both. -/
theorem State.ComparesAt.stands {k : Nat} {j : Int} (h : s.ComparesAt t p k) (hk : c ≠ k) (hc : c < 2) (hstands : s.Stands p c j) :
    t.Stands p c j :=
  ⟨(h.compareOn hc).trans hstands.on, (h.index c hk).trans hstands.index, (h.planned c hk).trans hstands.planned⟩

theorem State.ComparesAt.counted {k tick : Nat} {j : Int} (h : s.ComparesAt t p k) (hk : c ≠ k) (hc : c < 2)
    (hcounted : s.Counted p c j tick) : t.Counted p c j tick := by
  simpa only [State.Counted, h.gridStep hc, h.compareDir hc, h.index c hk, h.planned c hk] using hcounted

/-- The frame of a command leaves a unit's count. -/
theorem State.Counted.keepLive {j : Int} {tick : Nat} (u : State) (h : t.Counted p c j tick) : (u.keepLive t).Counted p c j tick := by
  have hgrid : (u.keepLive t).gridStep p c j = t.gridStep p c j := rfl
  have hdir : ∀ fwd, (u.keepLive t).compareDir p c fwd = t.compareDir p c fwd := fun _ => rfl
  simpa only [State.Counted, hgrid, hdir, State.keepLive_port'] using h

/-- Both units evaluate in turn: each comes to where it would alone. -/
theorem State.Stands.units {c : Fin 2} {j : Int} (h : s.Stands p c j) (tick : Nat) :
    (s.forEach (List.range 2) (fun t k => t.compareCount p tick k)).Counted p c j tick := by
  have hfirst := s.comparesAt_compareCount p tick (k := 0) (by decide)
  have hsecond := (s.compareCount p tick 0).comparesAt_compareCount p tick (k := 1) (by decide)
  have hboth : s.forEach (List.range 2) (fun t k => t.compareCount p tick k) = (s.compareCount p tick 0).compareCount p tick 1 := rfl
  rw [hboth]
  match c with
  | 0 => exact hsecond.counted (c := 0) (by decide) (by decide) (State.Stands.counted (c := 0) h (by decide) tick)
  | 1 => exact State.Stands.counted (c := 1) (hfirst.stands (c := 1) (by decide) (by decide) h) (by decide) tick

end

/-! ## Edges that count (R254, R255) -/

/-- The steps of a quadrature pair change one of its levels. -/
theorem xor_of_quadStep {a b : Nat} (h : quadStep a b ≠ 0) : (a ^^^ b) % 4 ≠ 3 ∧ (a ^^^ b) % 4 ≠ 0 := by
  have hsmall : ∀ x < 4, ∀ y < 4, quadStep x y ≠ 0 → x ^^^ y ≠ 3 ∧ x ^^^ y ≠ 0 := by decide
  have hmod : quadStep a b = quadStep (a % 4) (b % 4) := by
    unfold quadStep
    rw [Nat.mod_mod, Nat.mod_mod]
  rw [show (a ^^^ b) % 4 = a % 4 ^^^ b % 4 from Nat.xor_mod_two_pow (n := 2)]
  exact hsmall _ (Nat.mod_lt _ (by decide)) _ (Nat.mod_lt _ (by decide)) (hmod ▸ h)

/-- An edge has come through the filter: its instant, the use of force bit EDGE, its stamp (R254). -/
def State.edgeSeen (s : State) (p tick : Nat) : State :=
  ((s.reachTick (tick + s.regN (Item.POS.EDGE_FILT p))).useForce (unitOf Kind.port p) 1).setReg (Item.POS.EDGE_T p) (nw tick)

theorem State.senses_edgeSeen {s : State} {p : Nat} (harmed : s.forceArmed (unitOf Kind.port p) 1 = false) (tick : Nat) :
    s.Senses (s.edgeSeen p tick) :=
  ((s.senses_reachTick _).trans (State.senses_useForce harmed)).trans (State.senses_setReg ..)

/-- Every other item of the port reads as before. -/
theorem State.edgeSeen_reg (s : State) (p tick : Nat) {i : Nat} (hi : i ≠ 0x04E) :
    (s.edgeSeen p tick).reg (Item.addr 0x0E p i) = s.reg (Item.addr 0x0E p i) :=
  (State.reg_setReg_other _ _ _ _ (Item.addr_ne (by omega))).trans rfl

theorem State.edgeSeen_regN (s : State) (p tick : Nat) {i : Nat} (hi : i ≠ 0x04E) :
    (s.edgeSeen p tick).regN (Item.addr 0x0E p i) = s.regN (Item.addr 0x0E p i) := congrArg BitVec.toNat (s.edgeSeen_reg p tick hi)

/-- A count, before the compare units evaluate it (R254, R263). -/
def State.edgeCounted (s : State) (p tick : Nat) (d : Int) (levels : Nat) : State :=
  let r := s.port p
  let c := r.raw + s.portSign p * d
  s.setPort p { r with raw := c, levels := levels, seen := true, updated := tick, down := decide (s.portSign p * d < 0)
                       edges := ((tick, c) :: r.edges).take 64 }

theorem State.count_eq (s : State) (p tick : Nat) (d : Int) (levels : Nat) :
    s.count p tick d levels = (s.edgeCounted p tick d levels).forEach (List.range 2) (fun t k => t.compareCount p tick k) := rfl

/-- A count leaves the compare units where they stand. -/
theorem State.edgeCounted_stands {s : State} {p c tick : Nat} {j : Int} (hc : c < 2) (h : s.Stands p c j) (d : Int) (levels : Nat) :
    ((s.edgeSeen p tick).edgeCounted p tick d levels).Stands p c j := by
  have hport : ((s.edgeSeen p tick).edgeCounted p tick d levels).port p = _ := State.port_setPort_same ..
  obtain ⟨hon, hindex, hplanned⟩ := h
  refine ⟨?_, by rw [hport]; exact hindex, by rw [hport]; exact hplanned⟩
  rw [← hon]
  show (s.edgeSeen p tick).compareOn p c = s.compareOn p c
  unfold State.compareOn
  rw [s.edgeSeen_regN p tick (by omega), s.edgeSeen_regN p tick (by omega)]

section
variable {s : State} (hc : s.Calm) {p : Fin 4}
include hc

/-- What a step of a quadrature pair does, without Z (R254, R255). -/
theorem exec_portEdge_steps {lv : Fin 8} {tick stable : Nat} (hstable : s.regN (Item.POS.EDGE_FILT p) ≤ stable)
    (hnew : (s.port p).levels ≠ lv.val) (harmed : s.forceArmed (unitOf Kind.port p) 1 = false) (hmode : s.portMode p = 3)
    (hz : s.regN (Item.POS.Z_EN p) ≠ 1) (hstep : quadStep (s.port p).levels lv ≠ 0) :
    ∃ f, exec (.portEdge p lv tick stable) s = .next (s.act f)
      ∧ f s = (s.edgeSeen p tick).count p tick (quadStep (s.port p).levels lv) lv := by
  obtain ⟨hone, hsome⟩ := xor_of_quadStep hstep
  refine ⟨_, rfl, (if_neg (by simp [hmode, Nat.not_lt.mpr hstable, hnew])).trans ?_⟩
  rw [State.portBoundary_nothing (s.reachTick _) p hc.waits, if_pos hmode, harmed]
  show (s.edgeSeen p tick).abzEdge p lv tick false = _
  unfold State.abzEdge
  have hzseen : (s.edgeSeen p tick).regN (Item.POS.Z_EN p) ≠ 1 := by rw [s.edgeSeen_regN p tick (by decide)]; exact hz
  have hlevels : ((s.edgeSeen p tick).port p).levels = (s.port p).levels := rfl
  simp only [hlevels, hone, hsome, hzseen, Bool.false_eq_true, false_and, or_false, if_false]

/-- R268, R269: at such a step a unit that stands on an index comes to the one of the new position. -/
theorem State.Calm.exec_portEdge_counts {lv : Fin 8} {tick stable : Nat} {c : Fin 2} {j : Int}
    (hstable : s.regN (Item.POS.EDGE_FILT p) ≤ stable) (hnew : (s.port p).levels ≠ lv.val)
    (harmed : s.forceArmed (unitOf Kind.port p) 1 = false) (hmode : s.portMode p = 3) (hz : s.regN (Item.POS.Z_EN p) ≠ 1)
    (hstep : quadStep (s.port p).levels lv ≠ 0) (hstands : s.Stands p c j) :
    ∃ t, exec (.portEdge p lv tick stable) s = .next t ∧ t.Counted p c j tick := by
  obtain ⟨f, hexec, hf⟩ := exec_portEdge_steps (tick := tick) hc hstable hnew harmed hmode hz hstep
  rw [State.count_eq] at hf
  have hcounted := (s.edgeCounted_stands (tick := tick) c.isLt hstands (quadStep (s.port p).levels lv) lv).units tick
  have hsenses := ((State.senses_edgeSeen harmed tick).trans
    ((s.edgeSeen p tick).senses_setPort ..)).trans (State.compares_units (fun t k hk => t.comparesAt_compareCount p tick hk)
      ((s.edgeSeen p tick).edgeCounted p tick (quadStep (s.port p).levels lv) lv)).senses
  rw [hexec]
  exact hc.senses (P := fun t => t.Counted p c j tick) hsenses hf (hcounted.keepLive s)

/-! ## Compare events (R268 to R270) -/

/-- R268: a unit that stands nowhere takes its index from the present position. -/
theorem State.Calm.exec_compareEvent_resets {c : Fin 2} (hon : s.compareOn p c = true)
    (hplanned : KMap.get (fun _ => none) (s.port p).planned c.val = none) (hindex : KMap.get (fun _ => none) (s.port p).index c.val = none) :
    ∃ t, exec (.compareEvent p c) s = .next t ∧ KMap.get (fun _ => none) (t.port p).index c.val = some (s.gridIndex p c)
      ∧ t.reg = s.reg ∧ t.events = s.events := by
  refine hc.next (g := s.setCompare p c (if s.compareOn p c then some (s.gridIndex p c) else none) none) ?_ rfl rfl rfl ⟨?_, rfl, rfl⟩
  · simp only [hplanned, hindex, hon, Option.isNone_none, Bool.and_self, if_true]
    unfold State.resetIndex
    rw [hon]
    rfl
  · rw [State.keepLive_port', State.setCompare_index, if_pos hon]

end

/-- A unit's event counted and stamped (R270). -/
def State.crossingNoted (s : State) (p c : Nat) (e : Crossing) : State :=
  let s1 := s.setCompare p c (some e.index) none
  ((s1.bump (Item.POS.CMP_CNT p c)).setReg (Item.POS.CMP_SKIP p c) (s1.reg (Item.POS.CMP_SKIP p c) + nw (e.passed - 1))).setReg
    (Item.POS.CMP_T p c) (nw e.tick)

/-- A port in service issues the event, on the line to its converter where it has one (R270). -/
theorem State.issueCrossing_of_in (s : State) {p : Nat} (c : Nat) (e : Crossing) (hin : (s.unit (unitOf Kind.port p)).out = false) :
    s.issueCrossing p c e = { s.crossingNoted p c e with
      events := s.events ++ (if bitsOf (s.reg (Item.POS.CMP_DST p c)) 15 12 = 1 then
        [.convert (bitsOf (s.reg (Item.POS.CMP_DST p c)) 11 8) (bitsOf (s.reg (Item.POS.CMP_DST p c)) 2 0) e.tick] else []) } := by
  unfold State.issueCrossing
  rw [hin, if_neg (by decide)]
  by_cases hline : bitsOf (s.reg (Item.POS.CMP_DST p c)) 15 12 = 1
  · rw [if_pos hline, if_pos hline]; rfl
  · rw [if_neg hline, if_neg hline, List.append_nil]; rfl

theorem State.crossingNoted_port (s : State) (p c : Nat) (e : Crossing) :
    (s.crossingNoted p c e).port p = (s.setCompare p c (some e.index) none).port p := rfl

theorem State.crossingNoted_reads (s : State) {p c : Nat} (e : Crossing) :
    (s.crossingNoted p c e).reg (Item.POS.CMP_CNT p c) = s.reg (Item.POS.CMP_CNT p c) + 1
      ∧ (s.crossingNoted p c e).reg (Item.POS.CMP_SKIP p c) = s.reg (Item.POS.CMP_SKIP p c) + nw (e.passed - 1)
      ∧ (s.crossingNoted p c e).reg (Item.POS.CMP_T p c) = nw e.tick := by
  unfold State.crossingNoted
  refine ⟨?_, ?_, State.reg_setReg_same ..⟩
  · rw [State.reg_setReg_other _ _ _ _ (Item.addr_ne (by omega)), State.reg_setReg_other _ _ _ _ (Item.addr_ne (by omega))]
    exact State.reg_setReg_same ..
  · rw [State.reg_setReg_other _ _ _ _ (Item.addr_ne (by omega)), State.reg_setReg_same]
    rfl

/-- R268 to R270: a scheduled event is issued on its tick. -/
theorem State.Calm.exec_compareEvent_issues {s : State} (hc : s.Calm) {p : Fin 4} {c : Fin 2} {e : Crossing}
    (hplanned : KMap.get (fun _ => none) (s.port p).planned c.val = some e) (hin : (s.unit (unitOf Kind.port p)).out = false) :
    ∃ t, exec (.compareEvent p c) s = .next t ∧ KMap.get (fun _ => none) (t.port p).index c.val = some e.index
      ∧ KMap.get (fun _ => none) (t.port p).planned c.val = none
      ∧ t.reg (Item.POS.CMP_CNT p c) = s.reg (Item.POS.CMP_CNT p c) + 1
      ∧ t.reg (Item.POS.CMP_SKIP p c) = s.reg (Item.POS.CMP_SKIP p c) + nw (e.passed - 1)
      ∧ t.reg (Item.POS.CMP_T p c) = nw e.tick ∧ tickTime e.tick ≤ t.time.now
      ∧ t.events = s.events ++ (if bitsOf (s.reg (Item.POS.CMP_DST p c)) 15 12 = 1 then
        [.convert (bitsOf (s.reg (Item.POS.CMP_DST p c)) 11 8) (bitsOf (s.reg (Item.POS.CMP_DST p c)) 2 0) e.tick] else []) := by
  have hissue := (s.reachTick e.tick).issueCrossing_of_in c e hin
  have hport := ((s.reachTick e.tick).crossingNoted_port p c e)
  obtain ⟨hcnt, hskip, hstamp⟩ := (s.reachTick e.tick).crossingNoted_reads (p := p) (c := c) e
  refine hc.next (g := (s.reachTick e.tick).issueCrossing p c e) (by simp only [hplanned]) (by rw [hissue]; rfl) (by rw [hissue]; rfl)
    (by rw [hissue]; rfl) ?_
  rw [hissue]
  refine ⟨?_, ?_, hcnt, hskip, hstamp, (s.reachTick_now e.tick).trans (le_max_right ..), rfl⟩
  · exact (congrArg (fun r : Port => KMap.get (fun _ => none) r.index c.val) hport).trans (State.setCompare_index ..)
  · exact (congrArg (fun r : Port => KMap.get (fun _ => none) r.planned c.val) hport).trans (State.setCompare_planned ..)

/-- Settles O24: a port takes the speed it computes, within its limits or with a fault; both compare units evaluate a count, each alone on its
grid, and an event leaves on its tick (R263 to R266, R268 to R270; instants, the analogue ports' speed and the boundary of a port's items are
assumption logs 16, 112 and 119). -/
theorem portsComputeSpeedAndCompare : Obligations.PortsComputeSpeedAndCompare := by
  intro s p hc
  refine ⟨?_, hc.exec_speedCompute_analogue, fun lv tick stable c j hstable hnew harmed hmode hz hstep hon hindex hplanned =>
      hc.exec_portEdge_counts hstable hnew harmed hmode hz hstep ⟨hon, hindex, hplanned⟩,
    fun c => ⟨fun hon hplanned hindex => hc.exec_compareEvent_resets hon hplanned hindex,
      fun e hplanned hin => hc.exec_compareEvent_issues hplanned hin⟩⟩
  intro s1 x h3 h5 harmed
  exact ⟨fun hmax hacc => hc.exec_speedCompute_within h3 h5 harmed hmax hacc,
    fun hmax hnote => hc.exec_speedCompute_beyond h3 h5 harmed hmax hnote⟩

end Sys2Proof.Machine

namespace Sys2Proof.Machine

/-! ## What the work of a loop lane may change -/

/-- The work of a lane's row may change items, lanes, fault statuses, messages, device time, and the books of shedding, traction and
actuators; it touches no leg, no sheaf and no group-write on its way. -/
structure State.Engages (s g : State) : Prop where
  eq : g = { s with
    regs := g.regs, lanes := g.lanes, units := g.units, slots := g.slots, tx := g.tx, cans := g.cans, time := g.time
    shed := g.shed, trac := g.trac, acts := g.acts, dev := { s.dev with free := g.dev.free } }
  now : s.time.now ≤ g.time.now

theorem State.Engages.refl (s : State) : s.Engages s := ⟨rfl, le_rfl⟩

theorem State.Engages.trans {s g t : State} (h : s.Engages g) (k : g.Engages t) : s.Engages t :=
  ⟨by rw [k.eq, h.eq], h.now.trans k.now⟩

theorem State.Engages.leg {s g : State} (h : s.Engages g) : g.leg = s.leg := by rw [h.eq]; rfl

theorem State.Engages.sheaf {s g : State} (h : s.Engages g) : g.sheaf = s.sheaf := by rw [h.eq]; rfl

theorem State.Engages.writes {s g : State} (h : s.Engages g) : g.writes = s.writes := by rw [h.eq]

/-- Device time after a command is as the lane's work left it. -/
theorem State.Engages.keepLive_now {s g : State} (h : s.Engages g) : (s.keepLive g).time.now = g.time.now := Nat.max_eq_right h.now

/-- What lets a command of a calm state stand as its work alone: no value comes to wait, and the device's state stays. -/
structure State.CalmAs (s g : State) : Prop where
  waits : g.waits = s.waits
  swaps : g.swaps = s.swaps
  state : g.dev.state = s.dev.state

theorem State.CalmAs.trans {s g t : State} (h : s.CalmAs g) (k : g.CalmAs t) : s.CalmAs t :=
  ⟨k.waits.trans h.waits, k.swaps.trans h.swaps, k.state.trans h.state⟩

theorem State.Engages.calmAs {s g : State} (h : s.Engages g) : s.CalmAs g := ⟨by rw [h.eq], by rw [h.eq], by rw [h.eq]⟩

/-- So does such work beside group-writes of its own. -/
theorem State.Engages.calmAs_of_writes {s g : State} {w : List GroupWrite} (h : State.Engages { s with writes := w } g) : s.CalmAs g :=
  ⟨h.calmAs.waits, h.calmAs.swaps, h.calmAs.state⟩

theorem State.Detects.calmAs {s g : State} (h : s.Detects g) : s.CalmAs g := ⟨by rw [h], by rw [h], by rw [h]⟩

theorem State.CalmAs.next {s g : State} (h : s.CalmAs g) (hc : s.Calm) {f : State → State} {P : State → Prop} (hf : f s = g)
    (hP : P (s.keepLive g)) : ∃ t, (.next (s.act f) : Host.Outcome State Fault Refusal) = .next t ∧ P t :=
  hc.next hf h.waits h.swaps h.state hP

theorem State.engages_reach (s : State) (t : Nat) : s.Engages (s.reach t) := ⟨rfl, le_max_left ..⟩

theorem State.engages_setReg (s : State) (a : Nat) (w : Word) : s.Engages (s.setReg a w) := ⟨rfl, le_rfl⟩

theorem State.engages_bump (s : State) (a : Nat) : s.Engages (s.bump a) := s.engages_setReg ..

theorem State.engages_setRegs (s : State) (l : List (Nat × Word)) : s.Engages (s.setRegs l) := by
  induction l generalizing s with
  | nil => exact .refl s
  | cons p l ih => exact (s.engages_setReg p.1 p.2).trans (ih _)

theorem State.engages_setLane (s : State) (n : Nat) (l : Lane) : s.Engages (s.setLane n l) := ⟨rfl, le_rfl⟩

theorem State.engages_useForce (s : State) (u k : Nat) : s.Engages (s.useForce u k) := ⟨rfl, le_rfl⟩

theorem unitKind_laneUnit (n : Fin 32) : unitKind (laneUnit n) = Kind.lane := unitKind_unitOf (by omega)

theorem State.warns_lane (s : State) (n : Fin 32) (src : Nat) (forced : Bool) : s.Warns (s.detect (laneUnit n) .W src forced) :=
  s.warns_detect _ src forced (by rw [unitKind_laneUnit]; decide)

theorem State.Warns.engages {s g : State} (h : s.Warns g) : s.Engages g :=
  ⟨by unfold State.Warns at h; rw [h], by rw [h]⟩

theorem State.Warns.lane {s g : State} (h : s.Warns g) : g.lane = s.lane := by rw [h]; rfl

theorem State.detects_lane (s : State) (n : Fin 32) (cls : FaultClass) (src : Nat) (forced : Bool) :
    s.Detects (s.detect (laneUnit n) cls src forced) :=
  s.detects_detect _ cls src forced fun h => absurd ((unitKind_laneUnit n).symm.trans h) (by decide)

theorem State.Detects.lane {s g : State} (h : s.Detects g) : g.lane = s.lane := by rw [h]; rfl

/-- A class-F detection of a lane, made from a poised state at the end of a row (R440). -/
theorem State.Calm.lane_faults {s g : State} (hc : s.Calm) {n : Fin 32} {src : Nat} {forced : Bool} {f : State → State}
    (hg : s.CalmAs g) (hp : s.Poised g (laneUnit n)) (hn : s.Notices (laneUnit n) src) (hsrc : src < 256)
    (hf : f s = g.detect (laneUnit n) .F src forced) :
    ∃ t, (.next (s.act f) : Host.Outcome State Fault Refusal) = .next t ∧ s.TakesUp t (laneUnit n) .handling .F src
      ∧ t.writes = g.writes ∧ g.time.now ≤ t.time.now := by
  have hdetects := g.detects_lane n .F src forced
  have hup := s.act_takesUp _ hc.live (hp.takesUp hn forced hsrc (by rw [unitKind_laneUnit]; decide))
  generalize g.detect (laneUnit n) .F src forced = v at *
  have hv := hg.trans hdetects.calmAs
  rw [hc.act v hv.waits hv.swaps hv.state] at hup
  refine hv.next hc hf ⟨hup, ?_, ?_⟩
  · rw [State.keepLive_writes, hdetects]
  · rw [hdetects]
    exact le_max_right ..

/-! ## Sample sets that end their forming (R277, R278, R280) -/

/-- A lane that forms no set. -/
def Lane.Unopened (l : Lane) : Prop := l.opened = none ∧ l.joined = [] ∧ l.missed = 0

/-- A set with a missed slot is given up and counted; `run` is the number of them in a row from now on. -/
def State.setSkipped (s : State) (n run : Nat) : State :=
  ((s.dropSet n).bump (Item.LOOP.MISS_CNT n)).setLane n { (s.dropSet n).lane n with missRun := run }

theorem State.dropSet_lane (s : State) (n : Nat) :
    (s.dropSet n).lane n = { s.lane n with opened := none, joined := [], missed := 0, last := none } := State.lane_setLane_same ..

theorem State.engages_dropSet (s : State) (n : Nat) : s.Engages (s.dropSet n) := s.engages_setLane ..

theorem State.setSkipped_lane (s : State) (n run : Nat) :
    (s.setSkipped n run).lane n = { s.lane n with opened := none, joined := [], missed := 0, last := none, missRun := run } := by
  rw [State.setSkipped, State.lane_setLane_same, State.dropSet_lane]

theorem State.engages_setSkipped (s : State) (n run : Nat) : s.Engages (s.setSkipped n run) :=
  ((s.engages_dropSet n).trans (State.engages_setReg ..)).trans (State.engages_setLane ..)

theorem State.setSkipped_reg (s : State) (n run : Nat) :
    (s.setSkipped n run).reg (Item.LOOP.MISS_CNT n) = s.reg (Item.LOOP.MISS_CNT n) + 1 := State.reg_setReg_same ..

/-- Fewer than MISS_MAX skipped sets in a row are only counted. -/
theorem State.skipSet_counts {s : State} {n : Nat} (h : (s.lane n).missRun + 1 < s.regN (Item.LOOP.MISS_MAX n)) :
    s.skipSet n = s.setSkipped n ((s.lane n).missRun + 1) := by
  unfold State.skipSet
  simp only [State.lane_bump', State.dropSet_lane]
  rw [if_neg (Nat.not_le.mpr h), State.setSkipped, State.dropSet_lane]

/-- MISS_MAX of them in a row are class F. -/
theorem State.skipSet_faults {s : State} {n : Nat} (h : s.regN (Item.LOOP.MISS_MAX n) ≤ (s.lane n).missRun + 1) :
    s.skipSet n = (s.setSkipped n 0).detect (laneUnit n) .F 1 (s.forced (laneUnit n) 0) := by
  unfold State.skipSet
  simp only [State.lane_bump', State.dropSet_lane]
  rw [if_pos h, State.setSkipped, State.dropSet_lane]

theorem State.skipSet_unopened (s : State) (n : Fin 32) : s.CalmAs (s.skipSet n) ∧ ((s.skipSet n).lane n).Unopened := by
  have hskipped := fun run => (s.engages_setSkipped n run).calmAs
  have hlane : ∀ run, ((s.setSkipped n run).lane n).Unopened := fun run => by rw [State.setSkipped_lane]; exact ⟨rfl, rfl, rfl⟩
  rcases Nat.lt_or_ge ((s.lane n).missRun + 1) (s.regN (Item.LOOP.MISS_MAX n)) with h | h
  · rw [State.skipSet_counts h]
    exact ⟨hskipped _, hlane _⟩
  · have hdetects := (s.setSkipped n 0).detects_lane n .F 1 (s.forced (laneUnit n) 0)
    rw [State.skipSet_faults h, hdetects.lane]
    exact ⟨(hskipped 0).trans hdetects.calmAs, hlane 0⟩

/-- A discarded set leaves the set being formed, and stops nothing (R280). -/
theorem State.discardSet_spec (s : State) (n : Fin 32) (forced : Bool) :
    s.Engages (s.discardSet n forced) ∧ (s.discardSet n forced).lane n = { s.lane n with last := none } := by
  have hwarns := ((s.bump (Item.LOOP.OVR_CNT n)).setLane n { (s.bump (Item.LOOP.OVR_CNT n)).lane n with last := none }).warns_lane n 16 forced
  refine ⟨((s.engages_setReg ..).trans (State.engages_setLane ..)).trans hwarns.engages, ?_⟩
  rw [State.discardSet, hwarns.lane, State.lane_setLane_same, State.lane_bump']

/-- A start on a set with a missed slot gives no computation (R278). -/
theorem State.startLane_skips {s : State} {n stamp : Nat} {joined : List Sample} (hw : s.waits = [])
    (hmiss : s.slotsMiss n ((List.range 8).map (s.readSlot n joined)) = true) : s.startLane n stamp joined = s.skipSet n := by
  unfold State.startLane
  rw [s.boundary_nothing _ _ hw]
  exact if_pos hmiss

/-- A start on a set without a missed slot: the lane computes from now on, its sample stamp the set's (R279, R281). -/
theorem State.startLane_starts {s : State} {n stamp : Nat} {joined : List Sample} (hw : s.waits = [])
    (hok : s.slotsMiss n ((List.range 8).map (s.readSlot n joined)) = false) :
    s.Engages (s.startLane n stamp joined) ∧ (s.startLane n stamp joined).time = s.time
      ∧ ∃ r closed, (s.startLane n stamp joined).lane n = { s.lane n with
          busy := some r, stamp := stamp, began := s.time.now, opened := none, joined := [], missed := 0
          missRun := 0, last := some stamp, wasClosed := closed } := by
  unfold State.startLane
  rw [s.boundary_nothing _ _ hw]
  simp only
  rw [if_neg (by rw [hok]; decide)]
  exact ⟨(s.engages_setLane ..).trans (State.engages_useForce ..), rfl, _, _, State.lane_setLane_same ..⟩

theorem State.startLane_unopened {s : State} (hw : s.waits = []) (n : Fin 32) (stamp : Nat) (joined : List Sample) :
    s.CalmAs (s.startLane n stamp joined) ∧ ((s.startLane n stamp joined).lane n).Unopened := by
  cases h : s.slotsMiss n ((List.range 8).map (s.readSlot n joined)) with
  | true => rw [State.startLane_skips hw h]; exact s.skipSet_unopened n
  | false =>
    obtain ⟨hengages, -, r, closed, hlane⟩ := State.startLane_starts (stamp := stamp) hw h
    rw [hlane]
    exact ⟨hengages.calmAs, rfl, rfl, rfl⟩

/-- A set with a missed slot is skipped. -/
theorem State.endSet_skips {s : State} {n : Nat} (harmed : s.forceArmed (laneUnit n) 3 = false) (hmissed : (s.lane n).missed ≠ 0) :
    s.endSet n = (s.useForce (laneUnit n) 0).skipSet n := by
  unfold State.endSet
  simp only
  rw [if_neg (by rw [harmed]; decide), if_pos (.inl hmissed)]

/-- However a set ends its forming, its lane forms none then. -/
theorem State.endSet_unopened {s : State} (hw : s.waits = []) (n : Fin 32) :
    s.CalmAs (s.endSet n) ∧ ((s.endSet n).lane n).Unopened := by
  unfold State.endSet
  extract_lets l u stamp s1
  split
  · obtain ⟨hdiscard, hlane⟩ := ((s.dropSet n).useForce u 3).discardSet_spec n true
    have hdropped : ((s.dropSet n).useForce u 3).lane n = _ := s.dropSet_lane n
    rw [hlane, hdropped]
    exact ⟨(((s.engages_dropSet n).trans (State.engages_useForce ..)).trans hdiscard).calmAs, rfl, rfl, rfl⟩
  · split
    · obtain ⟨hcalm, hlane⟩ := (s.useForce u 0).skipSet_unopened n
      exact ⟨(s.engages_useForce ..).calmAs.trans hcalm, hlane⟩
    · split
      · have hs1 : s.Engages s1 := s.engages_setLane ..
        have hlane1 : (s1.lane n).Unopened := by
          unfold s1
          rw [State.lane_setLane_same]
          exact ⟨rfl, rfl, rfl⟩
        split
        · obtain ⟨hdiscard, hlane⟩ := s1.discardSet_spec n false
          rw [hlane]
          exact ⟨(hs1.trans hdiscard).calmAs, hlane1⟩
        · exact ⟨hs1.calmAs, hlane1⟩
      · exact State.startLane_unopened hw n stamp l.joined

/-! ## LANE_SET_COMPLETE, LANE_SET_TIMEOUT, LANE_TIMER -/

/-- The slots missed when a set times out (R277): those known missed, and the WAIT slots that have not joined. -/
theorem testBit_missed (waits : List Nat) (joined : Nat → Bool) (known i : Nat) :
    (waits.foldl (fun a j => if joined j then a else a ||| 2 ^ j) known).testBit i
      = (known.testBit i || (decide (i ∈ waits) && !joined i)) := by
  induction waits generalizing known with
  | nil => simp
  | cons j waits ih =>
    rw [List.foldl_cons, ih]
    by_cases hj : j = i
    · subst hj
      cases joined j <;> simp
    · have hi : i ≠ j := Ne.symm hj
      cases joined j <;> simp [hi, Nat.testBit_two_pow_of_ne hj]

/-- A set at its timeout: what has not joined is missed. -/
def State.setTimedOut (s : State) (n o : Nat) : State :=
  let s1 := s.reach (s.stampTime o + s.regN (Item.LOOP.WAIT_TMO n))
  let l := s.lane n
  s1.setLane n { l with missed :=
    (s.waitSlots n).foldl (fun a j => if l.joined.any (fun x => decide (x.slot = j)) then a else a ||| 2 ^ j) l.missed }

theorem State.engages_setTimedOut (s : State) (n o : Nat) : s.Engages (s.setTimedOut n o) :=
  (s.engages_reach _).trans (State.engages_setLane ..)

theorem State.setTimedOut_missRun (s : State) (n o : Nat) : ((s.setTimedOut n o).lane n).missRun = (s.lane n).missRun := by
  rw [State.setTimedOut, State.lane_setLane_same]

/-- A set that is not complete has a missed slot at its timeout. -/
theorem State.setTimedOut_missed {s : State} {n o : Nat} (hopen : (s.lane n).opened = some o) (hpart : s.setComplete n = false) :
    ((s.setTimedOut n o).lane n).missed ≠ 0 := by
  unfold State.setComplete at hpart
  simp only [hopen, Option.isSome_some, Bool.true_and, List.all_eq_false, Bool.or_eq_true, not_or, Bool.not_eq_true] at hpart
  obtain ⟨j, hwait, hjoined, -⟩ := hpart
  rw [State.setTimedOut, State.lane_setLane_same]
  intro hzero
  have hbit := testBit_missed (s.waitSlots n) (fun j => (s.lane n).joined.any fun x => decide (x.slot = j)) (s.lane n).missed j
  simp only at hzero
  rw [hzero, hjoined, decide_eq_true hwait] at hbit
  simp at hbit

section
variable {s : State} (hc : s.Calm) {n : Fin 32} (hruns : s.laneRuns n = true)
include hc hruns

/-- R277, R280: a complete set ends its forming. -/
theorem State.Calm.exec_laneSetComplete_ends (hset : s.setComplete n = true) :
    ∃ t, exec (.laneSetComplete n) s = .next t ∧ (t.lane n).opened = none ∧ (t.lane n).joined = [] ∧ (t.lane n).missed = 0 := by
  obtain ⟨hcalm, hlane⟩ := State.endSet_unopened hc.waits n
  exact hcalm.next hc (if_pos ⟨hruns, hset⟩) hlane

/-- R278: a set with a missed slot is counted and gives no computation. -/
theorem State.Calm.exec_laneSetComplete_skips (hset : s.setComplete n = true) (hmissed : (s.lane n).missed ≠ 0)
    (harmed : s.forceArmed (laneUnit n) 3 = false) (hrun : (s.lane n).missRun + 1 < s.regN (Item.LOOP.MISS_MAX n)) :
    ∃ t, exec (.laneSetComplete n) s = .next t ∧ (t.lane n).missRun = (s.lane n).missRun + 1 ∧ (t.lane n).busy = (s.lane n).busy
      ∧ t.reg (Item.LOOP.MISS_CNT n) = s.reg (Item.LOOP.MISS_CNT n) + 1 ∧ t.writes = s.writes ∧ t.leg = s.leg ∧ t.sheaf = s.sheaf := by
  have hskip : s.endSet n = (s.useForce (laneUnit n) 0).setSkipped n ((s.lane n).missRun + 1) :=
    (State.endSet_skips harmed hmissed).trans (State.skipSet_counts hrun)
  have hengages := (s.engages_useForce (laneUnit n) 0).trans (State.engages_setSkipped _ n ((s.lane n).missRun + 1))
  refine hengages.calmAs.next hc ((if_pos ⟨hruns, hset⟩).trans hskip) ⟨?_, ?_, ?_, hengages.writes, hengages.leg, hengages.sheaf⟩
  · rw [State.keepLive_lane', State.setSkipped_lane]
  · rw [State.keepLive_lane', State.setSkipped_lane]
    rfl
  · rw [State.keepLive_reg', State.setSkipped_reg]
    rfl

/-- R277, R278: at WAIT_TMO what has not joined is missed, and MISS_MAX such sets in a row are class F. -/
theorem State.Calm.exec_laneSetTimeout_faults {o : Nat} (hopen : (s.lane n).opened = some o) (hpart : s.setComplete n = false)
    (harmed : s.forceArmed (laneUnit n) 3 = false) (hrun : s.regN (Item.LOOP.MISS_MAX n) ≤ (s.lane n).missRun + 1)
    (hnote : s.Notices (laneUnit n) 1) :
    ∃ t, exec (.laneSetTimeout n) s = .next t ∧ s.TakesUp t (laneUnit n) .handling .F 1
      ∧ s.stampTime o + s.regN (Item.LOOP.WAIT_TMO n) ≤ t.time.now := by
  let g := (s.setTimedOut n o).useForce (laneUnit n) 0
  have hrun' : g.regN (Item.LOOP.MISS_MAX n) ≤ (g.lane n).missRun + 1 := by
    have hlane : (g.lane n).missRun = (s.lane n).missRun := s.setTimedOut_missRun n o
    rw [hlane]
    exact hrun
  have hend : (s.setTimedOut n o).endSet n = (g.setSkipped n 0).detect (laneUnit n) .F 1 (g.forced (laneUnit n) 0) :=
    (State.endSet_skips (s := s.setTimedOut n o) harmed (State.setTimedOut_missed hopen hpart)).trans (State.skipSet_faults (s := g) hrun')
  have hg : s.Engages (g.setSkipped n 0) :=
    ((s.engages_setTimedOut n o).trans (State.engages_useForce ..)).trans (State.engages_setSkipped ..)
  have hpoised : s.Poised (g.setSkipped n 0) (laneUnit n) :=
    State.Poised.trans (g := s.setTimedOut n o) ⟨rfl, rfl, rfl, (s.engages_setTimedOut n o).now⟩
      ((State.poised_useForce _ _ 0).trans ⟨rfl, rfl, rfl, le_rfl⟩)
  have hexec : exec (.laneSetTimeout n) s = .next (s.act fun _ => (s.setTimedOut n o).endSet n) :=
    congrArg Host.Outcome.next (s.act_to _ _ (by simp only [hopen, hruns, hpart]; rfl))
  obtain ⟨t, ht, htakes, -, hnow⟩ := hc.lane_faults hg.calmAs hpoised hnote (by decide) (f := fun _ => (s.setTimedOut n o).endSet n) hend
  rw [hexec]
  exact ⟨t, ht, htakes, (le_max_right ..).trans hnow⟩

/-- R278, R279: a lane without WAIT slots starts on its timer. -/
theorem State.Calm.exec_laneTimer_starts (hslots : s.waitSlots n = []) (hidle : (s.lane n).busy = none)
    (hok : (s.reach ((s.lane n).began + s.regN (Item.LOOP.TS_NOM n))).slotsMiss n
      ((List.range 8).map ((s.reach ((s.lane n).began + s.regN (Item.LOOP.TS_NOM n))).readSlot n [])) = false) :
    ∃ t, exec (.laneTimer n) s = .next t ∧ (t.lane n).busy.isSome = true ∧ (t.lane n).began = t.time.now
      ∧ (t.lane n).stamp = stamp48 t.time.now ∧ t.writes = s.writes ∧ t.leg = s.leg ∧ t.sheaf = s.sheaf := by
  let s1 := s.reach ((s.lane n).began + s.regN (Item.LOOP.TS_NOM n))
  obtain ⟨hstart, htime, r, closed, hlane⟩ := State.startLane_starts (s := s1) (stamp := stamp48 s1.time.now) hc.waits hok
  have hengages : s.Engages (s1.startLane n (stamp48 s1.time.now) []) := (s.engages_reach _).trans hstart
  have hnow : (s.keepLive (s1.startLane n (stamp48 s1.time.now) [])).time.now = s1.time.now :=
    hengages.keepLive_now.trans (congrArg Time.now htime)
  have hbusy : ¬ (s1.lane n).busy.isSome = true := by
    show ¬ (s.lane n).busy.isSome = true
    rw [hidle]
    decide
  refine hengages.calmAs.next hc ((if_neg (by simp [hruns, hslots])).trans (if_neg hbusy)) ?_
  rw [hnow, State.keepLive_lane', hlane]
  exact ⟨rfl, rfl, rfl, hengages.writes, hengages.leg, hengages.sheaf⟩

end

/-- Settles O16: each set that ends its forming is given up, waits or starts its lane, and every one of them leaves no set open; a missed slot
always leads to the count of R278 (what starts a lane is assumption log 44). -/
theorem lanesFormTheirSampleSets : Obligations.LanesFormTheirSampleSets := by
  intro s n hc hruns
  exact ⟨fun hset => hc.exec_laneSetComplete_ends hruns hset,
    fun hset hmissed harmed hrun => hc.exec_laneSetComplete_skips hruns hset hmissed harmed hrun,
    fun o hopen hpart harmed hrun hnote => hc.exec_laneSetTimeout_faults hruns hopen hpart harmed hrun hnote,
    fun hslots hidle hok => hc.exec_laneTimer_starts hruns hslots hidle hok⟩

end Sys2Proof.Machine

namespace Sys2Proof.Machine

/-! ## What a finished computation leaves (R279, R282, R291) -/

/-- A lane whose counters of computations alone have moved on. -/
def Lane.Counted (l m : Lane) : Prop := ∃ sat rest step, m = { l with satRun := sat, restRun := rest, stepRun := step }

/-- Counting a computation stops nothing, and moves the lane's counters alone. -/
theorem State.countComputation_spec (s : State) (n : Fin 32) (r : LaneResult) :
    s.Engages (s.countComputation n r) ∧ (s.lane n).Counted ((s.countComputation n r).lane n) := by
  unfold State.countComputation
  extract_lets s1 l sat warn s2 s3
  have h2 : s.Engages s2 := (s.engages_setReg ..).trans (State.engages_setLane ..)
  have hlane2 : (s.lane n).Counted (s2.lane n) := ⟨_, _, _, State.lane_setLane_same ..⟩
  clear_value s2
  have h3 : s2.Engages s3 ∧ s3.lane n = s2.lane n := by
    unfold s3
    split
    · exact ⟨s2.engages_bump _, rfl⟩
    · exact ⟨.refl s2, rfl⟩
  clear_value s3
  have hlane3 : (s.lane n).Counted (s3.lane n) := h3.2 ▸ hlane2
  split
  · have hwarns := s3.warns_lane n 17 (s.forced (laneUnit n) 2)
    exact ⟨(h2.trans h3.1).trans hwarns.engages, by rw [hwarns.lane]; exact hlane3⟩
  · exact ⟨h2.trans h3.1, hlane3⟩

/-- The shedding sequencer decides over its own books and its counter of abandoned sheddings. -/
theorem State.shedDecide_spec (s : State) (n m : Nat) (load : Word) (y7 : Bool) :
    s.Engages (s.shedDecide n m load y7) ∧ (s.shedDecide n m load y7).lanes = s.lanes := by
  unfold State.shedDecide
  extract_lets x on k per active hold s1 low since due
  have h1 : s.Engages s1 ∧ s1.lanes = s.lanes := by
    unfold s1
    split
    · exact ⟨s.engages_bump _, rfl⟩
    · exact ⟨.refl s, rfl⟩
  have hshed : ∀ (t : State) (b : Shedding), t.Engages { t with shed := b } := fun _ _ => ⟨rfl, le_rfl⟩
  clear_value s1
  split
  · exact ⟨hshed s _, rfl⟩
  · split
    · exact ⟨h1.1.trans (hshed s1 _), h1.2⟩
    · split
      · split
        · exact ⟨hshed s _, rfl⟩
        · exact ⟨.refl s, rfl⟩
      · split
        · exact ⟨hshed s _, rfl⟩
        · split
          · split
            · exact ⟨hshed s _, rfl⟩
            · exact ⟨hshed s _, rfl⟩
          · exact ⟨hshed s _, rfl⟩

/-- What a lane does besides leaves every lane. -/
theorem State.afterLane_spec (s : State) (n : Nat) (r : LaneResult) :
    s.Engages (s.afterLane n r) ∧ (s.afterLane n r).lanes = s.lanes := by
  unfold State.afterLane
  extract_lets h mask trac s1
  have h1 : s.Engages s1 := ⟨rfl, le_rfl⟩
  split
  · obtain ⟨hengages, hlanes⟩ := s.shedDecide_spec h n r.load (!F32.same (r.y.getD 7 0) 0)
    exact ⟨hengages.trans (State.engages_useForce ..), hlanes⟩
  · split
    · split
      · split
        · exact ⟨h1, rfl⟩
        · exact ⟨h1.trans (State.engages_bump ..), rfl⟩
      · exact ⟨h1, rfl⟩
    · split
      · exact ⟨⟨rfl, le_rfl⟩, rfl⟩
      · exact ⟨.refl s, rfl⟩

/-- The items that a result is written to: outputs, errors, integrators, and what its lane's type adds. -/
def resultItems (n : Nat) (r : LaneResult) : List (Nat × Word) :=
  (List.range 8).map (fun k => (Item.LOOP.Y n k, r.y.getD k 0))
    ++ [(Item.LOOP.ERR_A n, r.errors.getD 0 0), (Item.LOOP.ERR_B n, r.errors.getD 1 0),
        (Item.LOOP.INT_A n, r.integrals.getD 0 0), (Item.LOOP.INT_B n, r.integrals.getD 1 0)] ++ r.items

/-- A result in the lane's items and its own books (R279). -/
def State.noteResult (s : State) (n : Nat) (r : LaneResult) : State :=
  let s1 := s.setRegs (resultItems n r)
  s1.setLane n { s1.lane n with
    published := some (s.time.now / 4), before := (List.range 8).map (fun k => s.reg (Item.LOOP.Y n k))
    beforeValid := (s1.lane n).valid, valid := true, derivative := r.derivative, reference := r.reference, pll := r.pll
    lastOut := r.outs, closedLast := if r.closed then some r else (s1.lane n).closedLast }

/-- The group-write of a result leaves, for a lane that writes its group (R286). -/
def State.sendWords (s : State) (n : Nat) (r : LaneResult) (stamp : Nat) : State :=
  if s.laneWrites n ∧ r.words ≠ [] then
    { s with writes := s.writes ++ [{ sheaf := s.laneSheaf n, group := s.regN (Item.LOOP.GROUP n), words := r.words, lane := n, stamp := stamp }] }
  else s

theorem State.setRegs_lane (s : State) (l : List (Nat × Word)) : (s.setRegs l).lane = s.lane := by
  rw [(s.measures_setRegs l).eq]; rfl

/-- Publishing a result: its items and books, its group-write, the counts. -/
theorem State.publishLane_eq (s : State) (n : Nat) (r : LaneResult) :
    s.publishLane n r = ((s.noteResult n r).sendWords n r (s.lane n).stamp).countComputation n r := by
  rw [← s.setRegs_lane (resultItems n r)]
  rfl

/-- What a published result leaves in its lane (R279). -/
structure Lane.Published (l m : Lane) (r : LaneResult) : Prop where
  busy : m.busy = l.busy
  waiting : m.waiting = l.waiting
  valid : m.valid = true
  lastOut : m.lastOut = r.outs
  reference : m.reference = r.reference

theorem Lane.Counted.published {l m k : Lane} {r : LaneResult} (hc : m.Counted k) (h : l.Published m r) : l.Published k r := by
  obtain ⟨sat, rest, step, rfl⟩ := hc
  exact ⟨h.busy, h.waiting, h.valid, h.lastOut, h.reference⟩

theorem State.noteResult_published (s : State) (n : Nat) (r : LaneResult) : (s.lane n).Published ((s.noteResult n r).lane n) r := by
  rw [State.noteResult, State.lane_setLane_same, State.setRegs_lane]
  exact ⟨rfl, rfl, rfl, rfl, rfl⟩

theorem State.engages_noteResult (s : State) (n : Nat) (r : LaneResult) : s.Engages (s.noteResult n r) :=
  (s.engages_setRegs _).trans (State.engages_setLane ..)

/-- An item of the lane outside those of its results keeps its value, unless the type's own items name it. -/
theorem State.noteResult_reg (s : State) (n : Nat) (r : LaneResult) {i : Nat} (hi : i < 0x50) (hitems : ∀ p ∈ r.items, p.1 ≠ Item.addr 0x10 n i) :
    (s.noteResult n r).reg (Item.addr 0x10 n i) = s.reg (Item.addr 0x10 n i) := by
  rw [State.noteResult, State.reg_setLane']
  refine s.reg_setRegs_other _ fun p hp => ?_
  rw [resultItems, List.mem_append, List.mem_append] at hp
  rcases hp with (hp | hp) | hp
  · obtain ⟨k, -, rfl⟩ := List.mem_map.mp hp
    exact Item.addr_ne (by omega)
  · simp only [List.mem_cons, List.not_mem_nil, or_false] at hp
    rcases hp with rfl | rfl | rfl | rfl <;> exact Item.addr_ne (by omega)
  · exact (hitems p hp).symm

/-- The group-writes on their way with that of a result, where the lane writes its group (R286). -/
theorem State.sendWords_writes (s : State) (n : Nat) (r : LaneResult) (stamp : Nat) : (s.sendWords n r stamp).writes =
    if s.laneWrites n = true ∧ r.words ≠ [] then
      s.writes ++ [{ sheaf := s.laneSheaf n, group := s.regN (Item.LOOP.GROUP n), words := r.words, lane := n, stamp := stamp }]
    else s.writes := by
  unfold State.sendWords
  split <;> rfl

theorem State.sendWords_eq (s : State) (n : Nat) (r : LaneResult) (stamp : Nat) :
    s.sendWords n r stamp = { s with writes := (s.sendWords n r stamp).writes } := by
  unfold State.sendWords
  split <;> rfl

/-- A result whose own items are neither TYPE nor GROUP of its lane goes to the group that the lane had. -/
theorem State.publishLane_writes (s : State) (n : Fin 32) (r : LaneResult)
    (hitems : ∀ p ∈ r.items, p.1 ≠ Item.LOOP.TYPE n ∧ p.1 ≠ Item.LOOP.GROUP n) :
    (s.publishLane n r).writes = (s.sendWords n r (s.lane n).stamp).writes := by
  have hnote := s.engages_noteResult n r
  have htype := s.noteResult_reg n r (i := 0x001) (by decide) fun p hp => (hitems p hp).1
  have hgroup := s.noteResult_reg n r (i := 0x003) (by decide) fun p hp => (hitems p hp).2
  have hwrites : (s.noteResult n r).laneWrites n = s.laneWrites n := by
    unfold State.laneWrites State.regN
    rw [htype, hgroup]
  have hsheaf : (s.noteResult n r).laneSheaf n = s.laneSheaf n := by
    unfold State.laneSheaf
    rw [hnote.eq]
  have hgroupN : (s.noteResult n r).regN (Item.LOOP.GROUP n) = s.regN (Item.LOOP.GROUP n) := congrArg BitVec.toNat hgroup
  rw [State.publishLane_eq, (State.countComputation_spec ..).1.writes, State.sendWords_writes, State.sendWords_writes, hwrites, hsheaf,
    hgroupN, hnote.writes]

/-- Publishing a result: its lane's books; of all else, at most the group-writes are beyond a lane's work. -/
theorem State.publishLane_spec (s : State) (n : Fin 32) (r : LaneResult) :
    State.Engages { s with writes := (s.publishLane n r).writes } (s.publishLane n r) ∧ (s.lane n).Published ((s.publishLane n r).lane n) r := by
  have hnote := s.engages_noteResult n r
  have hsend := (s.noteResult n r).sendWords_eq n r (s.lane n).stamp
  obtain ⟨hcount, hlane⟩ := ((s.noteResult n r).sendWords n r (s.lane n).stamp).countComputation_spec n r
  have hpublished := s.noteResult_published n r
  rw [State.publishLane_eq, hcount.writes]
  generalize s.noteResult n r = v at *
  generalize v.sendWords n r (s.lane n).stamp = u at *
  refine ⟨State.Engages.trans (g := u) ⟨by rw [hsend, hnote.eq], by rw [hsend]; exact hnote.now⟩ hcount, hlane.published ?_⟩
  rw [hsend]
  exact hpublished

/-- A lane at the end of its computation, before it takes the result. -/
def State.computed (s : State) (n : Nat) : State :=
  (s.reach ((s.lane n).began + laneTime (s.regN (Item.LOOP.TYPE n)))).setLane n { s.lane n with busy := none }

theorem State.engages_computed (s : State) (n : Nat) : s.Engages (s.computed n) := (s.engages_reach _).trans (State.engages_setLane ..)

theorem State.computed_lane (s : State) (n : Nat) : (s.computed n).lane n = { s.lane n with busy := none } := State.lane_setLane_same ..

/-- A lane takes the result of its computation (R279, R280, R284, R296): LANE_COMPUTE_END after the instant at which that ends. -/
def State.takeResult (s : State) (n : Nat) (r : LaneResult) : State :=
  if !s.laneRuns n then s.setLane n { s.lane n with waiting := none }
  else if r.bad then
    ((s.setLane n { s.lane n with valid := false, waiting := none }).useForce (laneUnit n) 1).detect (laneUnit n) .F 2
      (s.forceArmed (laneUnit n) 1)
  else
    let t := (s.publishLane n r).afterLane n r
    match (t.lane n).waiting with
    | some (stamp, joined) => (t.setLane n { t.lane n with waiting := none }).startLane n stamp joined
    | none => t

theorem State.takeResult_bad {s : State} {n : Nat} {r : LaneResult} (hruns : s.laneRuns n = true) (hbad : r.bad = true) :
    s.takeResult n r = ((s.setLane n { s.lane n with valid := false, waiting := none }).useForce (laneUnit n) 1).detect (laneUnit n) .F 2
      (s.forceArmed (laneUnit n) 1) := by
  unfold State.takeResult
  rw [if_neg (by rw [hruns]; decide), if_pos hbad]

theorem State.takeResult_good {s : State} {n : Nat} {r : LaneResult} (hruns : s.laneRuns n = true) (hgood : r.bad = false)
    (hwaiting : (((s.publishLane n r).afterLane n r).lane n).waiting = none) :
    s.takeResult n r = (s.publishLane n r).afterLane n r := by
  unfold State.takeResult
  simp only
  rw [if_neg (by rw [hruns]; decide), if_neg (by rw [hgood]; decide), hwaiting]

/-- LANE_COMPUTE_END of a lane that computes. -/
theorem exec_laneComputeEnd {s : State} {n : Fin 32} {r : LaneResult} (hbusy : (s.lane n).busy = some r) :
    exec (.laneComputeEnd n) s = .next (s.act fun _ => (s.computed n).takeResult n r) :=
  congrArg Host.Outcome.next (s.act_to _ _ (by simp only [hbusy]; rfl))

section
variable {s : State} (hc : s.Calm) {n : Fin 32} {r : LaneResult} (hruns : s.laneRuns n = true) (hbusy : (s.lane n).busy = some r)
include hc hruns hbusy

/-- R279, R296: a good result is published and leaves for its group. -/
theorem State.Calm.exec_laneComputeEnd_publishes (hgood : r.bad = false) (hwaiting : (s.lane n).waiting = none) :
    ∃ t, exec (.laneComputeEnd n) s = .next t ∧ (t.lane n).busy = none ∧ (t.lane n).valid = true ∧ (t.lane n).lastOut = r.outs
      ∧ (t.lane n).reference = r.reference ∧ t.leg = s.leg ∧ t.sheaf = s.sheaf
      ∧ ((∀ p ∈ r.items, p.1 ≠ Item.LOOP.TYPE n ∧ p.1 ≠ Item.LOOP.GROUP n) → t.writes =
          if s.laneWrites n = true ∧ r.words ≠ [] then
            s.writes ++ [{ sheaf := s.laneSheaf n, group := s.regN (Item.LOOP.GROUP n), words := r.words, lane := n, stamp := (s.lane n).stamp }]
          else s.writes) := by
  let p := (s.computed n).publishLane n r
  obtain ⟨hpublish, hbooks⟩ := (s.computed n).publishLane_spec n r
  obtain ⟨hafter, hlanes⟩ := p.afterLane_spec n r
  have hlane : (p.afterLane n r).lane = p.lane := by unfold State.lane; rw [hlanes]
  rw [State.computed_lane] at hbooks
  have hcalm : s.CalmAs (p.afterLane n r) := (s.engages_computed n).calmAs.trans (hpublish.trans hafter).calmAs_of_writes
  have htake : (s.computed n).takeResult n r = p.afterLane n r :=
    State.takeResult_good hruns hgood ((congrArg Lane.waiting (congrFun hlane n)).trans (hbooks.waiting.trans hwaiting))
  rw [exec_laneComputeEnd hbusy, htake]
  refine hcalm.next hc rfl ?_
  rw [State.keepLive_lane', hlane]
  refine ⟨hbooks.busy, hbooks.valid, hbooks.lastOut, hbooks.reference, ?_, ?_, fun hitems => ?_⟩
  · exact (hpublish.trans hafter).leg.trans (s.engages_computed n).leg
  · exact (hpublish.trans hafter).sheaf.trans (s.engages_computed n).sheaf
  · rw [State.keepLive_writes, hafter.writes, State.publishLane_writes _ n r hitems, State.sendWords_writes, State.computed_lane]
    rfl

/-- R284, R296: a result that is not finite or out of range is class F, and none is sent. -/
theorem State.Calm.exec_laneComputeEnd_faults (hbad : r.bad = true) (hnote : s.Notices (laneUnit n) 2) :
    ∃ t, exec (.laneComputeEnd n) s = .next t ∧ s.TakesUp t (laneUnit n) .handling .F 2 ∧ t.writes = s.writes := by
  let g := ((s.computed n).setLane n { (s.computed n).lane n with valid := false, waiting := none }).useForce (laneUnit n) 1
  have hg : s.Engages g := ((s.engages_computed n).trans (State.engages_setLane ..)).trans (State.engages_useForce ..)
  have hpoised : s.Poised g (laneUnit n) :=
    State.Poised.trans (g := (s.computed n).setLane n _) ⟨rfl, rfl, rfl, (s.engages_computed n).now⟩ (State.poised_useForce _ _ 1)
  obtain ⟨t, ht, htakes, hwrites, -⟩ := hc.lane_faults hg.calmAs hpoised hnote (by decide)
    (f := fun _ => (s.computed n).takeResult n r) (State.takeResult_bad hruns hbad)
  rw [exec_laneComputeEnd hbusy]
  exact ⟨t, ht, htakes, hwrites.trans hg.writes⟩

end

/-! ## Profile generators (R293 to R295) -/

/-- Items written together under distinct addresses read as written. -/
theorem State.reg_setRegs_of_nodup (s : State) {l : List (Nat × Word)} (h : (l.map Prod.fst).Nodup) {p : Nat × Word} (hp : p ∈ l) :
    (s.setRegs l).reg p.1 = p.2 := by
  induction l generalizing s with
  | nil => exact absurd hp List.not_mem_nil
  | cons q l ih =>
    obtain ⟨hfresh, hl⟩ := List.nodup_cons.mp h
    rcases List.mem_cons.mp hp with rfl | hp
    · exact (State.reg_setRegs_other _ l fun q hq he => hfresh (List.mem_map.mpr ⟨q, hq, he.symm⟩)).trans (s.reg_setReg_same ..)
    · exact ih _ hl hp

/-- The items that a generator's step writes. -/
def stepItems (g : Nat) (r : GenStep) (status : Word) : List (Nat × Word) :=
  [(Item.PROF.X g, r.x), (Item.PROF.V g, r.v), (Item.PROF.A g, r.a), (Item.PROF.STATUS g, status)]

theorem stepItems_nodup (g : Nat) (r : GenStep) (status : Word) : ((stepItems g r status).map Prod.fst).Nodup := by
  simp [stepItems]

/-- Bit 0 of a generator's status is DONE. -/
theorem testBit_status : ∀ stopping limited moving done : Bool,
    bitOf (nw ((if stopping then 8 else 0) + (if limited then 4 else 0) + (if moving then 2 else 0) + (if done then 1 else 0))) 0 = done := by
  decide

theorem State.genStatus_done (s : State) (g : Nat) (r : GenStep) :
    bitOf (s.genStatus g r) 0 = (r.done || bitOf (s.reg (Item.PROF.STATUS g)) 0) := testBit_status ..

/-- R293 to R295: a generator of a running sheaf steps. -/
theorem State.Calm.exec_profileStep_steps {s : State} (hc : s.Calm) {g : Fin 4} (hbound : s.bind.profSheaf.getD g 15 < 12)
    (hrun : (s.sheaf (s.bind.profSheaf.getD g 15)).state = .run) (hmode : s.regN (Item.PROF.MODE g) ≠ 0) :
    ∃ t, exec (.profileStep g) s = .next t ∧ t.reg (Item.PROF.X g) = (s.genStep g).x ∧ t.reg (Item.PROF.V g) = (s.genStep g).v
      ∧ t.reg (Item.PROF.A g) = (s.genStep g).a
      ∧ bitOf (t.reg (Item.PROF.STATUS g)) 0 = ((s.genStep g).done || bitOf (s.reg (Item.PROF.STATUS g)) 0)
      ∧ t.lane = s.lane ∧ t.leg = s.leg ∧ t.sheaf = s.sheaf ∧ t.unit = s.unit := by
  let s1 := s.every (Timer.step g) (s.regN (Item.PROF.TS g) * 1000)
  let r := s.genStep g
  let l := stepItems g r (s.genStatus g r)
  have hexec : exec (.profileStep g) s = .next (s.act fun _ => s1.setRegs l) :=
    congrArg Host.Outcome.next (s.act_to _ _ (by
      refine (if_neg (not_or.mpr ⟨Nat.not_le.mpr hbound, not_not.mpr hrun⟩)).trans ?_
      simp only
      rw [State.boundary_nothing (s.every _ _) _ _ hc.waits]
      exact (if_neg hmode).trans (if_neg hmode)))
  have hwritten : ∀ p ∈ l, (s1.setRegs l).reg p.1 = p.2 := fun p hp => s1.reg_setRegs_of_nodup (stepItems_nodup ..) hp
  simp only [l, stepItems, List.forall_mem_cons] at hwritten
  obtain ⟨hx, hv, ha, hstatus, -⟩ := hwritten
  have hmeasures : s.Measures (s1.setRegs l) := (s.measures_every _ _).trans (State.measures_setRegs ..)
  rw [hexec]
  refine hc.next rfl (by rw [hmeasures.eq]) (by rw [hmeasures.eq]) (by rw [hmeasures.eq])
    ⟨hx, hv, ha, (congrArg (bitOf · 0) hstatus).trans (s.genStatus_done g r), ?_, ?_, ?_, ?_⟩ <;> (rw [hmeasures.eq]; rfl)

/-- Settles O17: a result changes its lane's own books and items, and its group-write is the one thing more (R279, R286); one that is bad is
a fault instead (R284); a generator writes the four items of its step (assumption logs 42 and 44). -/
theorem lanesAndGeneratorsPublishTheirResults : Obligations.LanesAndGeneratorsPublishTheirResults := by
  intro s hc
  exact ⟨fun n r hruns hbusy hgood hwaiting => hc.exec_laneComputeEnd_publishes hruns hbusy hgood hwaiting,
    fun n r hruns hbusy hbad hnote => hc.exec_laneComputeEnd_faults hruns hbusy hbad hnote,
    fun g hbound hrun hmode => hc.exec_profileStep_steps hbound hrun hmode⟩

end Sys2Proof.Machine

namespace Sys2Proof.Machine

/-! ## No stop brings a leg back (R210, R300)

What takes legs, sets and sheaves out of service ends no leg's cause; of the books of the traction sets it touches the share ramps alone,
which end with RUN. -/

/-- Legs out of service stay so, no share ramp begins, and the sets that a thermal stop holds stay the same. -/
structure State.StaysOut (s t : State) : Prop where
  leg : ∀ l, s.legWinnowed l = true → t.legWinnowed l = true
  ramps : t.trac.ramps ⊆ s.trac.ramps
  thermal : t.trac.thermal = s.trac.thermal

theorem State.StaysOut.refl (s : State) : s.StaysOut s := ⟨fun _ => id, fun _ => id, rfl⟩

theorem State.StaysOut.trans {s t u : State} (h : s.StaysOut t) (k : t.StaysOut u) : s.StaysOut u :=
  ⟨fun l hl => k.leg l (h.leg l hl), fun _ hr => h.ramps (k.ramps hr), k.thermal.trans h.thermal⟩

theorem State.staysOut_of_eq {s t : State} (hlegs : t.legs = s.legs) (htrac : t.trac = s.trac) : s.StaysOut t :=
  ⟨fun l hl => by unfold State.legWinnowed State.leg; rw [hlegs]; exact hl, by rw [htrac]; exact fun _ => id, by rw [htrac]⟩

theorem State.Completes.staysOut {s t : State} (h : s.Completes t) : s.StaysOut t := by
  unfold State.Completes at h
  rw [h]
  exact State.staysOut_of_eq rfl rfl

theorem State.Warns.staysOut {s t : State} (h : s.Warns t) : s.StaysOut t := by
  unfold State.Warns at h
  rw [h]
  exact State.staysOut_of_eq rfl rfl

theorem State.Measures.staysOut {s t : State} (h : s.Measures t) : s.StaysOut t := by
  rw [h.eq]
  exact State.staysOut_of_eq rfl rfl

theorem State.staysOut_forEach {α : Type} (f : State → α → State) (hf : ∀ s a, State.StaysOut s (f s a)) (l : List α) (s : State) :
    s.StaysOut (s.forEach l f) := State.forEach_rel State.StaysOut.refl (fun _ _ _ => State.StaysOut.trans) f hf l s

theorem State.legWinnowed_setLeg_same (s : State) (n : Nat) (l : Leg) : (s.setLeg n l).legWinnowed n = decide (l.cause ≠ .none) := by
  unfold State.legWinnowed
  rw [State.leg_setLeg_same]

theorem State.staysOut_setLeg (s : State) (n : Nat) (l : Leg) (h : (s.leg n).cause ≠ .none → l.cause ≠ .none) :
    s.StaysOut (s.setLeg n l) :=
  ⟨fun m hm => by
    by_cases e : m = n
    · subst e
      exact (s.legWinnowed_setLeg_same m l).trans (decide_eq_true (h (of_decide_eq_true hm)))
    · unfold State.legWinnowed
      rw [State.leg_setLeg_other _ _ _ _ e]
      exact hm, fun _ => id, rfl⟩

/-! ### What a leg, and a sheaf, goes through on its way out -/

theorem State.staysOut_clearCarry (s : State) (n : Nat) : s.StaysOut (s.clearCarry n) := by
  unfold State.clearCarry
  split <;> exact State.staysOut_of_eq rfl rfl

theorem State.staysOut_legOff (s : State) (n : Nat) : s.StaysOut (s.legOff n) := s.staysOut_setLeg n _ id

/-- A leg put out of service keeps the cause that it had, and else has the one given. -/
theorem WinnowCause.kept_ne_none {c d : WinnowCause} (h : c ≠ .none ∨ d ≠ .none) : (if c = .none then d else c) ≠ .none := by
  split
  · next hc => exact h.resolve_left (not_not.mpr hc)
  · assumption

theorem State.staysOut_winnowLeg (s : State) (n : Nat) (c : WinnowCause) : s.StaysOut (s.winnowLeg n c) :=
  ((s.staysOut_legOff n).trans (State.staysOut_setLeg _ n _ fun h => WinnowCause.kept_ne_none (.inl h))).trans (State.staysOut_clearCarry ..)

theorem State.winnowLeg_winnowed (s : State) (n : Nat) {c : WinnowCause} (hc : c ≠ .none) : (s.winnowLeg n c).legWinnowed n = true :=
  (State.staysOut_clearCarry _ n).leg n
    ((State.legWinnowed_setLeg_same ..).trans (decide_eq_true (WinnowCause.kept_ne_none (.inr hc))))

theorem State.staysOut_supplies (s : State) (legs : List Nat) (on : Bool) : s.StaysOut (s.supplies legs on) :=
  State.staysOut_forEach _ (fun t n => by exact t.staysOut_setLeg n _ id) _ s

theorem State.staysOut_leaveRun (s : State) (n : Nat) : s.StaysOut (s.leaveRun n) := by
  unfold State.leaveRun
  extract_lets s1 s2 c b
  have h1 : s.StaysOut s1 := State.staysOut_forEach _ (fun t g => (t.measures_setRegs _).staysOut) _ s
  have h2 : s1.StaysOut s2 := State.staysOut_forEach _ (fun t l => by exact t.staysOut_setLeg l _ id) _ s1
  have hb : s2.StaysOut b := by
    unfold b
    split <;> exact State.staysOut_of_eq rfl rfl
  clear_value b s2
  refine (h1.trans h2).trans ?_
  split
  · exact ⟨fun _ => id, List.nil_subset _, rfl⟩
  · split <;> exact State.staysOut_of_eq rfl rfl
  · exact hb.trans (State.staysOut_of_eq rfl rfl)
  · exact .refl s2

theorem State.staysOut_stopFollowers (s : State) (n : Nat) : s.StaysOut (s.stopFollowers n) :=
  State.staysOut_forEach _ (fun _ _ => by exact State.staysOut_of_eq rfl rfl) _ s

theorem State.staysOut_dropMove (s : State) (n : Nat) : s.StaysOut (s.dropMove n) := by
  unfold State.dropMove
  split <;> exact State.staysOut_of_eq rfl rfl

theorem State.staysOut_quietSheaf (s : State) (n : Nat) (st : SheafState) : s.StaysOut (s.quietSheaf n st) := by
  have hoff := (State.staysOut_forEach _ State.staysOut_legOff (s.bind.legsOf n) s).trans
    (State.staysOut_forEach _ State.staysOut_clearCarry (s.bind.legsOf n) _)
  unfold State.quietSheaf
  refine State.StaysOut.trans (State.StaysOut.trans ?_ (State.staysOut_dropMove ..)) (State.staysOut_of_eq rfl rfl)
  split
  · exact (hoff.trans (State.staysOut_leaveRun ..)).trans (State.staysOut_stopFollowers ..)
  · exact hoff

theorem State.staysOut_abortProofs (s : State) (n : Nat) : s.StaysOut (s.abortProofs n) := by
  unfold State.abortProofs
  extract_lets ps s0 s1
  have h0 : s.StaysOut s0 := State.staysOut_of_eq rfl rfl
  have h1 : s.StaysOut s1 := by
    unfold s1
    split
    · exact h0.trans (State.staysOut_supplies ..)
    · exact h0
  split
  · exact .refl s
  · exact (h1.trans (s1.measures_setReg ..).staysOut).trans (State.completes_endSequences ..).staysOut

theorem State.staysOut_driveHeld (s : State) (n leg : Nat) : s.StaysOut (s.driveHeld n leg) := by
  unfold State.driveHeld
  extract_lets l held asc l1 soft
  split
  · exact s.staysOut_setLeg leg _ id
  · split <;> exact s.staysOut_setLeg leg _ id

theorem State.staysOut_applySelection (s : State) : s.StaysOut s.applySelection := by
  unfold State.applySelection
  split
  · exact .refl s
  · exact State.staysOut_forEach _ (fun t leg => t.staysOut_driveHeld _ leg) _ s

theorem unitKind_sheaf_ne_leg {n : Nat} (hn : n < 12) : unitKind (unitOf Kind.sheaf n) ≠ Kind.leg := by
  rw [unitKind_unitOf (by omega)]
  decide

theorem State.staysOut_blame (s : State) {n : Nat} (hn : n < 12) (u : Nat) : s.StaysOut (s.blame n u) := by
  unfold State.blame
  extract_lets h s1 s2
  have h1 : s.StaysOut s1 := State.staysOut_of_eq rfl rfl
  have h2 : s1.StaysOut s2 := (s1.warns_recordW _ 16 false (unitKind_sheaf_ne_leg hn)).staysOut
  split
  · exact (h1.trans h2).trans (State.staysOut_of_eq rfl rfl)
  · exact h1.trans h2

theorem State.staysOut_winnowSheaf (s : State) {n : Nat} (hn : n < 12) (cause : Option Nat) : s.StaysOut (s.winnowSheaf n cause) := by
  unfold State.winnowSheaf
  extract_lets h s1 s2 s3 s4
  have h1 : s.StaysOut s1 := (s.staysOut_abortProofs n).trans (State.staysOut_quietSheaf ..)
  have h2 : s1.StaysOut s2 := State.staysOut_forEach _ (fun t l => t.staysOut_winnowLeg l _) _ s1
  have h4 : s2.StaysOut s4 := ((State.completes_endSequences ..).trans (State.completes_endSequences ..)).staysOut
  split
  · refine ((h1.trans h2).trans h4).trans (State.StaysOut.trans ?_ (State.staysOut_applySelection _))
    cases cause with
    | none => exact .refl s4
    | some u => exact s4.staysOut_blame hn u
  · cases cause with
    | none => exact .refl s
    | some u =>
      show s.StaysOut (if _ then _ else _)
      split <;> exact State.staysOut_of_eq rfl rfl

/-! ### A traction set out of service -/

/-- Legs put out of service one after the other are all out of service in the end. -/
theorem State.forEach_winnowLeg_winnowed {c : Nat → WinnowCause} (hc : ∀ l, c l ≠ .none) (legs : List Nat) (s : State) :
    ∀ l ∈ legs, (s.forEach legs fun t m => t.winnowLeg m (c m)).legWinnowed l = true := by
  induction legs generalizing s with
  | nil => exact fun _ h => absurd h List.not_mem_nil
  | cons m rest ih =>
    refine List.forall_mem_cons.mpr ⟨?_, ih (s.winnowLeg m (c m))⟩
    exact (State.staysOut_forEach _ (fun t n => t.staysOut_winnowLeg n _) rest _).leg m (s.winnowLeg_winnowed m (hc m))

/-- R300: a traction set that is put out of service has every leg out of service, whatever becomes of its sheaf. -/
theorem State.winnowSet_winnows (s : State) (k : Nat) {c : WinnowCause} (hc : c ≠ .none) (own : Option Nat) (cause : Nat) :
    s.StaysOut (s.winnowSet k own c cause) ∧ ∀ l ∈ s.setLegs k, (s.winnowSet k own c cause).legWinnowed l = true := by
  unfold State.winnowSet
  split
  · next hnone =>
    have hlegs : s.setLegs k = [] := by
      unfold State.setLegs
      simp only [hnone]
    rw [hlegs]
    exact ⟨.refl s, fun _ h => absurd h List.not_mem_nil⟩
  · next n hsome =>
    extract_lets fresh s1 s2
    have hcauses : ∀ l, (if own = some l then c else if own = none then c else .set) ≠ .none := fun l => by
      split
      · exact hc
      · split
        · exact hc
        · decide
    have hout : ∀ l ∈ s.setLegs k, s1.legWinnowed l = true := s.forEach_winnowLeg_winnowed hcauses _
    have h1 : s.StaysOut s1 := State.staysOut_forEach _ (fun t l => t.staysOut_winnowLeg l _) _ s
    have h2 : s1.StaysOut s2 := by
      unfold s2
      split
      · exact State.staysOut_of_eq rfl rfl
      · exact .refl s1
    suffices hrest : s2.StaysOut (if s2.setsActive.length < s2.regN Item.TRC.MIN_SETS ∧ ((s.sheaf n).state = .run ∨ (s.sheaf n).state = .ready)
        then s2.winnowSheaf n (some cause) else s2.applySelection) from
      ⟨(h1.trans h2).trans hrest, fun l hl => (h2.trans hrest).leg l (hout l hl)⟩
    split
    · exact s2.staysOut_winnowSheaf (Bind.sheafOfType_lt hsome) _
    · exact s2.staysOut_applySelection

end Sys2Proof.Machine

namespace Sys2Proof.Machine

/-! ## The timed courses of the traction sheaf (R305, R309, R318, R323, Table 17-3) -/

section
variable {s : State}

/-- A row that works on the sheaf's books and then warns of an idle sheaf: the warning shows, and the books are as the row made them. -/
theorem State.Calm.sheaf_warns {g : State} (hc : s.Calm) {n src : Nat} {c : Instr} {f : State → State} (hexec : exec c s = .next (s.act f))
    (hf : f s = g.detect (unitOf Kind.sheaf n) .W src false) (hn : n < 12) (hg : s.Engages g) (hunit : g.unit = s.unit)
    (hlane : g.lane = s.lane) (hnote : s.Notices (unitOf Kind.sheaf n) src) :
    ∃ t, exec c s = .next t ∧ t.Shows (unitOf Kind.sheaf n) .idle .W src ∧ t.trac = g.trac
      ∧ t.reg = g.reg ∧ t.sheaf = s.sheaf ∧ t.leg = s.leg ∧ t.lane = s.lane := by
  rw [hexec]
  have hposed : s.Poised g (unitOf Kind.sheaf n) := ⟨by rw [hunit], by rw [hunit], by rw [hg.eq], hg.now⟩
  have hshows := hposed.shows hnote false
  have hwarns := g.warns_detect (unitOf Kind.sheaf n) src false (unitKind_sheaf_ne_leg hn)
  have hv := hg.trans hwarns.engages
  generalize g.detect (unitOf Kind.sheaf n) .W src false = v at *
  refine hv.calmAs.next hc hf ⟨hshows, ?_, ?_, hv.sheaf, hv.leg, hwarns.lane.trans hlane⟩
  · rw [State.keepLive_trac, hwarns]
  · funext a
    rw [State.keepLive_reg', hwarns]
    rfl

/-- The torque request overdue (R309): marked, and in LIMIT_CAUSE. -/
def State.requestLost (s : State) : State :=
  let t := s.reach (s.trac.requestAt + s.regN Item.TRC.REQ_TMO * 1000000)
  { t with trac := { t.trac with lost := true } }.setReg Item.TRC.LIMIT_CAUSE (s.reg Item.TRC.LIMIT_CAUSE ||| 0x80)

/-- The battery limits overdue (R305): the fall-back powers are in force. -/
def State.limitsLost (s : State) : State :=
  let t := s.reach (s.trac.limitAt + s.regN Item.TRC.LIM_TMO * 1000000)
  { t with trac := { t.trac with fallback := true } }

variable (hc : s.Calm) {n : Nat} (htrc : s.trcSheaf = some n)
include hc htrc

/-- R309: a running traction sheaf without a torque request for REQ_TMO. -/
theorem State.Calm.exec_trcRequestTimeout_warns (htmo : s.regN Item.TRC.REQ_TMO ≠ 0) (hrun : (s.sheaf n).state = .run)
    (hlost : s.trac.lost = false) (hnote : s.Notices (unitOf Kind.sheaf n) 22) :
    ∃ t, exec .trcRequestTimeout s = .next t ∧ t.trac = { s.trac with lost := true } ∧ t.Shows (unitOf Kind.sheaf n) .idle .W 22
      ∧ t.reg Item.TRC.LIMIT_CAUSE = s.reg Item.TRC.LIMIT_CAUSE ||| 0x80 ∧ t.sheaf = s.sheaf ∧ t.leg = s.leg ∧ t.lane = s.lane := by
  obtain ⟨t, hexec, hshows, htrac, hreg, hkept⟩ := hc.sheaf_warns (c := .trcRequestTimeout) (g := s.requestLost) rfl (by
      simp only [htrc]
      exact if_neg (by simp [htmo, hrun, hlost]))
    (Bind.sheafOfType_lt htrc) ⟨rfl, le_max_left ..⟩ rfl rfl hnote
  exact ⟨t, hexec, htrac, hshows, (congrFun hreg _).trans (State.reg_setReg_same ..), hkept⟩

/-- R305: the battery limits without a write for LIM_TMO. -/
theorem State.Calm.exec_trcLimitTimeout_warns (htmo : s.regN Item.TRC.LIM_TMO ≠ 0) (hfallback : s.trac.fallback = false)
    (hnote : s.Notices (unitOf Kind.sheaf n) 21) :
    ∃ t, exec .trcLimitTimeout s = .next t ∧ t.trac = { s.trac with fallback := true } ∧ t.Shows (unitOf Kind.sheaf n) .idle .W 21
      ∧ t.sheaf = s.sheaf ∧ t.leg = s.leg ∧ t.lane = s.lane ∧ t.reg = s.reg := by
  obtain ⟨t, hexec, hshows, htrac, hreg, hsheaf, hleg, hlane⟩ := hc.sheaf_warns (c := .trcLimitTimeout) (g := s.limitsLost) rfl (by
      simp only [htrc]
      exact if_neg (by simp [htmo, hfallback]))
    (Bind.sheafOfType_lt htrc) ⟨rfl, le_max_left ..⟩ rfl rfl hnote
  exact ⟨t, hexec, htrac, hshows, hsheaf, hleg, hlane, hreg⟩

end

/-! ### The end of a share ramp (R318, Table 17-3) -/

/-- The share ramp of a set that began at `since` has run its length, and is off the list. -/
def State.rampDone (s : State) (k since : Nat) (thermal : Bool) : State :=
  let t := s.reach (since + s.regN (if thermal then Item.THM.STOP_RAMP else Item.TRC.WINNOW_RAMP) * 1000000)
  { t with trac := { t.trac with ramps := t.trac.ramps.filter (fun r => decide (r.1 ≠ k)) } }

/-- The set of an ended share ramp out of service, by its thermal stop or by command. -/
def State.rampOut (s : State) (k : Nat) (thermal : Bool) : State :=
  if thermal then s.thermalSet k
  else (s.setUnit (unitOf Kind.set k) { s.unit (unitOf Kind.set k) with commanded := true }).winnowSet k none .command (unitOf Kind.set k)

/-- A set that leaves at the end of its ramp: its legs are out, no ramp of it is left, a thermal stop holds it; device time, and what
could wait for a boundary, stay. -/
structure State.RampEnds (s t : State) (k : Nat) (thermal : Bool) : Prop where
  legs : ∀ l ∈ s.setLegs k, t.legWinnowed l = true
  ramps : t.trac.ramps ⊆ s.trac.ramps
  thermal : thermal = true → k ∈ t.trac.thermal
  detects : s.Detects t

theorem mem_insertNew {α : Type} [DecidableEq α] (x : α) (l : List α) : x ∈ insertNew x l := by
  unfold insertNew
  split
  · assumption
  · exact List.mem_append_right l List.mem_cons_self

/-- What keeps legs out keeps the end of a ramp. -/
theorem State.RampEnds.trans {s t u : State} {k : Nat} {thermal : Bool} (h : s.RampEnds t k thermal) (hkeeps : t.StaysOut u)
    (hd : t.Detects u) : s.RampEnds u k thermal :=
  ⟨fun l hl => hkeeps.leg l (h.legs l hl), fun _ hr => h.ramps (hkeeps.ramps hr), fun ht => hkeeps.thermal ▸ h.thermal ht,
    h.detects.trans hd⟩

theorem State.rampOut_ends (s : State) (k : Nat) (thermal : Bool) : s.RampEnds (s.rampOut k thermal) k thermal := by
  cases thermal with
  | true =>
    let g : State := { s with trac := { s.trac with thermal := insertNew k s.trac.thermal } }
    obtain ⟨hkeeps, hlegs⟩ := g.winnowSet_winnows k (c := .set) (by decide) none (unitOf Kind.set k)
    exact ⟨hlegs, hkeeps.ramps, fun _ => hkeeps.thermal ▸ mem_insertNew k _,
      State.Detects.trans (t := g) rfl (g.fencesOnly_winnowSet ..).1.detects⟩
  | false =>
    let g := s.setUnit (unitOf Kind.set k) { s.unit (unitOf Kind.set k) with commanded := true }
    obtain ⟨hkeeps, hlegs⟩ := g.winnowSet_winnows k (c := .command) (by decide) none (unitOf Kind.set k)
    exact ⟨hlegs, hkeeps.ramps, fun h => absurd h (by decide), State.Detects.trans (t := g) rfl (g.fencesOnly_winnowSet ..).1.detects⟩

/-- R318, Table 17-3: at the end of its share ramp a set is out of service. -/
theorem State.Calm.exec_trcWinnowRampEnd_winnows {s : State} (hc : s.Calm) {k : Fin 6} {since : Nat} {thermal : Bool}
    (hramp : s.trac.ramps.find? (fun r => decide (r.1 = k.val)) = some (k.val, since, thermal)) :
    ∃ t, exec (.trcWinnowRampEnd k) s = .next t ∧ (∀ r ∈ t.trac.ramps, r.1 ≠ k.val) ∧ (∀ l ∈ s.setLegs k, t.legWinnowed l = true)
      ∧ (thermal = true → k.val ∈ t.trac.thermal)
      ∧ since + s.regN (if thermal then Item.THM.STOP_RAMP else Item.TRC.WINNOW_RAMP) * 1000000 ≤ t.time.now := by
  let g := s.rampDone k since thermal
  let u := g.rampOut k thermal
  have hends := (u.completes_endSequences (fun q => decide (q.kind = .winnow) && decide (unitOf Kind.set k.val ∈ q.units)) Code.ok Reason.none
    fun _ => u.unitResult (unitOf Kind.set k.val))
  have hout := (g.rampOut_ends k thermal).trans hends.staysOut hends.fences.detects
  have hcalm : s.CalmAs g := ⟨rfl, rfl, rfl⟩
  refine (hcalm.trans hout.detects.calmAs).next hc (by simp only [hramp]; rfl) ⟨fun r hr => ?_, hout.legs, hout.thermal, ?_⟩
  · exact of_decide_eq_true (List.mem_filter.mp (hout.ramps hr)).2
  · calc _ ≤ g.time.now := le_max_right ..
      _ = _ := congrArg Time.now hout.detects.time.symm
      _ ≤ _ := le_max_right ..

/-! ### The end of the stop ramp (R323) -/

/-- A sheaf whose stop word has gone out, in a stop that ends where the one in progress would have (R216). -/
def Sheaf.wordSent (h : Sheaf) (r : StopRun) (now : Nat) : Sheaf := { h with stop := some { toOff := r.toOff, word := true, since := now } }

theorem State.sendStopWord_of_run {s : State} {n : Nat} {r : StopRun} (hrun : (s.sheaf n).state = .run) (hstop : (s.sheaf n).stop = some r) :
    s.sendStopWord n r.toOff = s.setSheaf n ((s.sheaf n).wordSent r s.time.now) := by
  unfold State.sendStopWord Sheaf.wordSent
  simp only [hrun, hstop, if_true, Bool.or_self]

theorem State.worksLegs_assertAsc (s : State) (n : Nat) : s.WorksLegs (s.assertAsc n) := by
  refine State.forEach_rel (R := State.WorksLegs) (fun _ => rfl) (fun _ _ _ => State.WorksLegs.trans) _ (fun t leg => ?_) _ s
  show t.WorksLegs (if _ then _ else _)
  split <;> rfl

/-- The state from which the stop word goes out: the reference at 0, or STOP_TMAX after the stop began. -/
def State.stopReached (s : State) (n since : Nat) : State :=
  if F32.same (s.torqueReference n) 0 then s else s.reach (since + s.regN Item.TRC.STOP_TMAX * 1000000)

/-- ASC select asserted first, where READY_ASC and the supervisor's selection call for it. -/
def State.stopSelected (s : State) (n : Nat) : State := if s.regN Item.TRC.READY_ASC = 1 ∧ s.sup.asc then s.assertAsc n else s

theorem State.measures_stopReached (s : State) (n since : Nat) : s.Measures (s.stopReached n since) := by
  unfold State.stopReached
  split
  · exact ⟨rfl, le_rfl⟩
  · exact s.measures_reach _

theorem State.worksLegs_stopSelected (s : State) (n : Nat) : s.WorksLegs (s.stopSelected n) := by
  unfold State.stopSelected
  split
  · exact s.worksLegs_assertAsc n
  · rfl

/-- R323: the stop word of the traction sheaf's orderly stop goes out. -/
theorem State.Calm.exec_trcStopRampEnd_sends {s : State} (hc : s.Calm) {n : Nat} (htrc : s.trcSheaf = some n) {r : StopRun}
    (hstop : (s.sheaf n).stop = some r) (hrun : (s.sheaf n).state = .run) (hword : r.word = false) :
    ∃ t, exec .trcStopRampEnd s = .next t ∧ (t.sheaf n).state = .run
      ∧ (t.sheaf n).stop = some { toOff := r.toOff, word := true, since := t.time.now } := by
  have hreached := s.measures_stopReached n r.since
  have hselected := (s.stopReached n r.since).worksLegs_stopSelected n
  generalize hv : (s.stopReached n r.since).stopSelected n = v at *
  have hnow : s.time.now ≤ v.time.now := by
    rw [hselected]
    exact hreached.now
  have hsheaf : v.sheaf n = s.sheaf n := by
    rw [hselected, hreached.eq]
    rfl
  have hcalm : s.CalmAs v := ⟨by rw [hselected, hreached.eq], by rw [hselected, hreached.eq], by rw [hselected, hreached.eq]⟩
  have hsent := State.sendStopWord_of_run (s := v) (by rw [hsheaf]; exact hrun) (by rw [hsheaf]; exact hstop)
  refine State.CalmAs.next (g := v.sendStopWord n r.toOff) ?_ hc ?_ ?_
  · rw [hsent]
    exact ⟨hcalm.waits, hcalm.swaps, hcalm.state⟩
  · simp only [htrc, hstop]
    rw [← hv]
    exact if_neg (by simp [hrun, hword])
  · rw [hsent]
    have hset : (s.keepLive (v.setSheaf n ((v.sheaf n).wordSent r v.time.now))).sheaf n = (v.sheaf n).wordSent r v.time.now :=
      State.sheaf_setSheaf_same ..
    have htime : (s.keepLive (v.setSheaf n ((v.sheaf n).wordSent r v.time.now))).time.now = v.time.now := Nat.max_eq_right hnow
    rw [hset, htime]
    exact ⟨by rw [hsheaf]; exact hrun, rfl⟩

/-- Settles O18: each timeout changes the sheaf's books and warns (R305, R309); a set at the end of its share ramp goes out of service,
and nothing that follows brings it back (R318); the stop word leaves with the time that the reference or STOP_TMAX gives (R323, assumption
log 16). -/
theorem theTractionSheafKeepsItsTimeouts : Obligations.TheTractionSheafKeepsItsTimeouts := by
  intro s n hc htrc hidle
  exact ⟨fun htmo hrun hlost hrank => hc.exec_trcRequestTimeout_warns htrc htmo hrun hlost ⟨hidle, hrank⟩,
    fun htmo hfallback hrank => hc.exec_trcLimitTimeout_warns htrc htmo hfallback ⟨hidle, hrank⟩,
    fun k since thermal hramp => hc.exec_trcWinnowRampEnd_winnows hramp,
    fun r hstop hrun hword => hc.exec_trcStopRampEnd_sends htrc hstop hrun hword⟩

end Sys2Proof.Machine


namespace Sys2Proof.Machine

/-! ## WAKE (R86, R387) -/

/-- The low-voltage switch after WAKE: the latch closed, TRANSPORT over, the SHIP timer waiting for a high (R387). -/
def LowVolt.woken (v : LowVolt) : LowVolt :=
  { v with latchOpen := false, transport := false, cutShort := false, armed := !v.shipLow, shipFrom := none }

/-- R387: a WAKE pulse of 10 ms on an open latch closes it, and starts the device in TRANSPORT unless nPOR holds it. -/
theorem exec_wake_wakes {s : State} (elapsed : Nat) {ms : Nat} (hpow : s.dev.powered = true) (hopen : s.lv.latchOpen = true)
    (hms : 10 ≤ ms) :
    let woken : State := { s with lv := s.lv.woken }
    exec (.wake elapsed ms) s = Host.Outcome.next (s.keep
      (if s.dev.state = .transport ∧ s.dev.nporLow = false then woken.leaveReset 3 (s.time.now + elapsed) else woken)) := by
  refine congrArg (fun t => Host.Outcome.next (s.keep t)) ((if_neg ?_).trans (if_congr ?_ rfl rfl))
  · simp [hpow, hopen, Nat.not_lt.mpr hms]
  · simp

/-- A WAKE pulse shorter than 10 ms does nothing. -/
theorem exec_wake_short {s : State} (elapsed : Nat) {ms : Nat} (hms : ms < 10) : exec (.wake elapsed ms) s = .next (s.keep s) :=
  congrArg (fun t => Host.Outcome.next (s.keep t)) (if_pos (Or.inr (Or.inr hms)))

/-- Settles O3: a long pulse closes the latch and, in TRANSPORT, leaves reset at the count of the always-on part; a short one is kept out
(assumption log 29). -/
theorem wakeClosesTheLatch : Obligations.WakeClosesTheLatch := by
  intro s elapsed ms
  refine ⟨fun hpow hopen hms => ⟨_, exec_wake_wakes elapsed hpow hopen hms, ?_⟩, fun hms => ⟨_, exec_wake_short elapsed hms, rfl, rfl, rfl, rfl⟩⟩
  obtain ⟨hpowerup, -, -, hnow, hdark, hlasts, -⟩ :=
    State.leaveReset_spec ({ s with lv := s.lv.woken } : State) 3 (s.time.now + elapsed)
  by_cases hstart : s.dev.state = .transport ∧ s.dev.nporLow = false
  · rw [if_pos hstart]
    exact ⟨hlasts.latch, fun _ _ => ⟨hpowerup, hnow, s.keep_dark _ hdark⟩, fun h => absurd hstart.1 h⟩
  · rw [if_neg hstart]
    exact ⟨rfl, fun htransport hhigh => absurd ⟨htransport, hhigh⟩ hstart, fun _ => ⟨rfl, rfl, rfl⟩⟩

end Sys2Proof.Machine

namespace Sys2Proof.Machine

/-! ## Grave faults (R13, R40, R53, R427, R448, R453) -/

/-- What a grave fault of the work leads to stands after the command. -/
theorem State.act_locks {s g : State} {src : Nat} (hl : s.live = true) (h : s.Locks g src) : s.Locks (s.act fun _ => g) src := by
  obtain ⟨⟨hstate, hsheaf⟩, hsupplies, hout, r, hjournal, hrecord⟩ := h
  refine ⟨⟨?_, fun n hn => (congrArg Sheaf.state (s.act_sheaf _ hl n)).trans (hsheaf n hn)⟩, fun n hn => ?_,
    fun n hn => (congrArg Output.on (s.act_out _ hl n)).trans (hout n hn), r, (s.act_journal _ hl).trans hjournal, hrecord⟩
  · by_cases hk : s.dev.state = .locked
    · exact s.act_locked _ hk
    · exact (s.act_devState _ hl hk).trans hstate
  · rw [s.act_banded (fun _ => g) hl n]
    exact hsupplies n hn

/-- A row whose work is a grave fault of a state that has this one's sheaves and journal. -/
theorem exec_locks {c : Instr} {s g : State} {f : State → State} {src : Nat} (hexec : exec c s = .next (s.act f)) (hf : f s = g.grave src)
    (hl : s.live = true) (hsrc : src < 256) (hsheaf : g.sheaves = s.sheaves) (hjournal : g.store.journal = s.store.journal) :
    ∃ t, exec c s = .next t ∧ s.Locks t src := by
  have hlocks := g.grave_spec src hsrc
  obtain ⟨⟨hstate, hsafe⟩, hsupplies, hout, r, hj, hr⟩ := hlocks
  refine ⟨_, by rw [hexec, s.act_to f _ hf], State.act_locks hl ⟨⟨hstate, fun n hn => ?_⟩, hsupplies, hout, r, hj.trans (by rw [hjournal]), hr⟩⟩
  rw [hsafe n hn]
  unfold State.sheaf
  rw [hsheaf]

/-- R40: a word with three wrong bits, or a corrected one with a foreign address parity, is uncorrectable. -/
theorem MemRead.uncorrectable_of {w : MemRead} (h : w.wrong = 3 ∨ (w.wrong ≤ 2 ∧ w.parity ≠ addressParity w.address)) (free : Bool) :
    MemRead.uncorrectable w free = true ∧ w.wrong ≤ 3 := by
  unfold MemRead.uncorrectable
  rcases h with h | ⟨h, hparity⟩
  · simp [h]
  · exact ⟨by simp [h, hparity], by omega⟩

/-- R453: an uncorrectable word of the supervisor is a grave fault. -/
theorem exec_memoryScrub_supervisor {s : State} (hl : s.live = true) {w : MemRead}
    (hw : w.wrong = 3 ∨ (w.wrong ≤ 2 ∧ w.parity ≠ addressParity w.address)) :
    ∃ t, exec (.memoryScrub .supervisor w) s = .next t ∧ s.Locks t 2 := by
  refine exec_locks (g := { s with badWords := insertNew .supervisor s.badWords }) rfl ?_ hl (by decide) rfl rfl
  simp only [if_pos (MemRead.uncorrectable_of hw false).2, (MemRead.uncorrectable_of hw _).1, if_true]
  rfl

/-- R40 to R42: a word with at most two wrong bits and the parity of its address is corrected, and nothing else happens. -/
theorem exec_memoryScrub_corrected {s : State} (m : Memory) {w : MemRead} (hw : w.wrong ≤ 2)
    (hparity : w.parity = addressParity w.address) : exec (.memoryScrub m w) s = .next (s.act fun _ => s) := by
  refine congrArg Host.Outcome.next (s.act_to _ _ ?_)
  have hok : ∀ free, MemRead.uncorrectable w free = false := fun free => by simp [MemRead.uncorrectable, hw, hparity]
  simp only [hok, if_pos (Nat.le_succ_of_le hw), Bool.false_eq_true, if_false]

/-- A live device's command that does nothing leaves what settling does not touch. -/
theorem State.act_idle {s : State} (hl : s.live = true) :
    let t := s.act fun _ => s
    t.badWords = s.badWords ∧ t.poison = s.poison ∧ t.unit = s.unit ∧ t.sheaf = s.sheaf ∧ t.dev.state = s.dev.state := by
  refine ⟨?_, s.act_poison _ hl, funext (s.act_unit _ hl), funext (s.act_sheaf _ hl), State.act_keeps_devState hl rfl⟩
  unfold State.act
  rw [if_pos hl]
  show s.chargeSafe.settle.badWords = s.badWords
  rw [s.settles_done.1]

/-- The service log and the completions of restored units leave the journal. -/
theorem State.endRestores_journal (s : State) (p : Sequence → Bool) : (s.endRestores p).store.journal = s.store.journal := by
  unfold State.endRestores
  refine State.forEach_rel (R := fun s t => t.store.journal = s.store.journal) (fun _ => rfl) (fun _ _ _ h k => k.trans h) _
    (fun t q => ?_) _ s
  exact (congrArg Store.journal (State.completes_endSequence ..).store).trans rfl

/-- R427: a test that finds both paths failed leaves the device locked, with the record of class G. -/
theorem State.pathTested_bothFailed (s : State) {failed : BitVec 5} {a5 b5 : Bool} (us : Nat) (ha : pathAFailed failed a5 = true)
    (hb : pathBFailed failed b5 = true) :
    let t := s.pathTested failed a5 b5 us
    t.dev.state = .locked ∧ t.dev.pathPassed = false ∧ s.Journals t (unitOf Kind.supervisor 0) .G 4 := by
  have hgrave : s.pathTested failed a5 b5 us = State.grave { s.setReg Item.SAFE.PATH_RESULT (pathResult failed a5 b5 us) with
      dev := { s.dev with pathTesting := false, pathPassed := false } } 4 := by
    unfold State.pathTested
    simp only [ha, hb, Bool.not_true, Bool.and_self]
  intro t
  unfold t
  rw [hgrave]
  obtain ⟨e, h, f, hdev⟩ := State.grave_dev { s.setReg Item.SAFE.PATH_RESULT (pathResult failed a5 b5 us) with
      dev := { s.dev with pathTesting := false, pathPassed := false } } 4
  have hlocks := State.grave_spec { s.setReg Item.SAFE.PATH_RESULT (pathResult failed a5 b5 us) with
      dev := { s.dev with pathTesting := false, pathPassed := false } } 4 (by decide)
  exact ⟨by rw [hdev], by rw [hdev], hlocks.2.2.2⟩

/-- R427, R448: a shutdown-path test that finds both paths failed. -/
theorem exec_shutdownPathTestEnd_locks {s : State} (hl : s.live = true) (hk : s.dev.state ≠ .locked) {r : PathTest}
    (htest : s.dev.pathTesting = true) (ha : pathAFailed (PathTest.failed r) (PathTest.silentA r) = true)
    (hb : pathBFailed (PathTest.failed r) (PathTest.silentB r) = true) :
    ∃ t, exec (.shutdownPathTestEnd r) s = .next t ∧ t.dev.state = .locked ∧ t.dev.pathPassed = false
      ∧ s.Journals t (unitOf Kind.supervisor 0) .G 4 := by
  refine ⟨_, rfl, ?_⟩
  generalize hf : (fun t0 : State => _) = f
  have hwork : (f s).dev.state = .locked ∧ (f s).dev.pathPassed = false ∧ s.Journals (f s) (unitOf Kind.supervisor 0) .G 4 := by
    rw [← hf]
    beta_reduce
    extract_lets ours t failed a5 b5 restoring t1 pass su t2 t3
    rw [if_neg (by simp [hk, htest])]
    obtain ⟨hstate, hpassed, r', hjournal, hrecord⟩ : t1.dev.state = .locked ∧ t1.dev.pathPassed = false
        ∧ t.Journals t1 (unitOf Kind.supervisor 0) .G 4 := t.pathTested_bothFailed _ ha hb
    have h2 : t2 = t1 := by
      refine if_neg ?_
      unfold pass failed a5
      simp [ha]
    have h3 : t2.Completes t3 := State.completes_endSequences ..
    rw [h2] at h3
    obtain ⟨-, c4, hc4⟩ := t3.endRestores_spec (ours .restore)
    obtain ⟨c3, hc3⟩ := h3.sameDev
    rw [hc4, hc3]
    refine ⟨hstate, hpassed, r', ?_, hrecord⟩
    rw [State.endRestores_journal, h3.store, hjournal]
    rfl
  obtain ⟨hstate, hpassed, r', hjournal, hrecord⟩ := hwork
  obtain ⟨_, hact⟩ := s.act_dev f hl hk
  rw [hact]
  exact ⟨hstate, hpassed, r', (s.act_journal f hl).trans hjournal, hrecord⟩

/-- Settles O6: every cause of class G ends in the one grave fault, whose lock the frame of the command leaves (assumption log 48). -/
theorem graveFaultsLockTheDevice : Obligations.GraveFaultsLockTheDevice := by
  intro s hl
  refine ⟨fun src => exec_locks (g := s) rfl rfl hl (by omega) rfl rfl, fun w hw => exec_memoryScrub_supervisor hl hw,
    fun m w hw hparity => ⟨_, exec_memoryScrub_corrected m hw hparity, State.act_idle hl⟩, fun hnew hstate => ⟨fun m c => ?_, fun c => ?_⟩,
    fun r hk htest ha hb => exec_shutdownPathTestEnd_locks hl hk htest ha hb⟩
  · exact exec_locks (g := s) rfl ((if_neg (by simp [hnew, hstate])).trans (if_pos rfl)) hl (by decide) rfl rfl
  · exact exec_locks (g := s) rfl ((if_neg (by simp [hnew, hstate])).trans ((if_neg (by decide)).trans (if_pos rfl))) hl (by decide) rfl rfl

end Sys2Proof.Machine

namespace Sys2Proof.Machine

/-! ## SAFE causes that go (R407, R408, R450, R532, Table 2-5) -/

/-- What stands after a command whose work leaves the device's state, the sheaves and the legs. -/
theorem State.act_stands {s g : State} (hl : s.live = true) (hstate : g.dev.state = s.dev.state) (hsheaf : g.sheaves = s.sheaves)
    (hlegs : g.legs = s.legs) :
    (s.act fun _ => g).dev.state = s.dev.state ∧ (s.act fun _ => g).sheaf = s.sheaf ∧ s.LegsStand (s.act fun _ => g) := by
  refine ⟨State.act_keeps_devState hl hstate, funext fun n => (s.act_sheaf _ hl n).trans ?_, fun n => ?_⟩
  · unfold State.sheaf
    rw [hsheaf]
  · exact (State.banded_of_eq hlegs n).trans (s.act_banded (fun _ => g) hl n)

/-- The STO latch cleared 10 ms after both inputs have been high (R407). -/
def State.stoReleased (s : State) (since : Nat) : State :=
  { s.reach (since + 10000000) with sup := { s.sup with latched := false, discrepancy := false, bothLowSeen := false } }.demandGone .sto

/-- R407, R408: the latch clears and its SAFE cause goes. -/
theorem exec_stoRelease_clears {s : State} (hl : s.live = true) {since : Nat} (hhigh : s.sup.highSince = some since)
    (hlatched : s.sup.latched = true) (hfa : s.forced supUnit 0 = false) (hfb : s.forced supUnit 1 = false)
    (hdisc : s.sup.discrepancy = false ∨ s.sup.bothLowSeen = true) :
    ∃ t, exec .stoRelease s = .next t ∧ t.sup.latched = false ∧ t.sup.discrepancy = false ∧ SafeCause.sto ∉ t.dev.causes
      ∧ since + 10000000 ≤ t.time.now ∧ t.dev.state = s.dev.state ∧ t.sheaf = s.sheaf ∧ s.LegsStand t := by
  have hwork : exec .stoRelease s = .next (s.act fun _ => s.stoReleased since) := by
    refine congrArg Host.Outcome.next (s.act_to _ _ ?_)
    simp only [hhigh]
    refine if_neg ?_
    rw [hfa, hfb, hlatched]
    rcases hdisc with h | h <;> simp [h]
  refine ⟨_, hwork, ?_, ?_, ?_, ?_, State.act_stands hl rfl rfl rfl⟩
  · rw [s.act_sup _ hl]
    rfl
  · rw [s.act_sup _ hl]
    rfl
  · rw [s.act_causes _ hl]
    simp [State.stoReleased, State.demandGone, State.causeGone]
  · rw [s.act_time _ hl]
    exact (Nat.le_max_right s.time.now (since + 10000000)).trans (Nat.le_max_right ..)

/-- R407, R408: an input that is low, or forced low, or a discrepancy after which both have not been low, leaves the latch. -/
theorem exec_stoRelease_holds {s : State} (hl : s.live = true)
    (hheld : s.sup.highSince = none ∨ s.forced supUnit 0 = true ∨ s.forced supUnit 1 = true
      ∨ (s.sup.discrepancy = true ∧ s.sup.bothLowSeen = false)) :
    ∃ t, exec .stoRelease s = .next t ∧ t.sup = s.sup ∧ t.dev.causes = s.dev.causes := by
  refine ⟨_, congrArg Host.Outcome.next (s.act_to _ s ?_), s.act_sup _ hl, s.act_causes _ hl⟩
  split
  case h_1 => rfl
  case h_2 since hhigh =>
    rcases hheld with h | h | h | ⟨h, h'⟩
    · simp [h] at hhigh
    · exact if_pos (.inr (.inl h))
    · exact if_pos (.inr (.inr (.inl h)))
    · exact if_pos (.inr (.inr (.inr ⟨h, by simp [h']⟩)))

/-- Table 2-5: below 61.0 V the over-voltage and its SAFE cause are over. -/
theorem exec_vsupOverVoltageEnd_clears {s : State} (hl : s.live = true) (hk : s.dev.state ≠ .locked) {mv : Nat} (hmv : mv < 61000) :
    ∃ t, exec (.vsupOverVoltageEnd mv) s = .next t ∧ t.dev.vsupOver = false ∧ SafeCause.overVoltage ∉ t.dev.causes
      ∧ t.dev.state = s.dev.state ∧ t.sheaf = s.sheaf ∧ s.LegsStand t := by
  obtain ⟨c, hdev⟩ := s.act_dev (fun t =>
    { t.setReg Item.DEV.VSUP_MV (nw (Nat.min mv 70000)) with dev := { t.dev with vsupOver := false } }.causeGone .overVoltage) hl hk
  refine ⟨_, congrArg Host.Outcome.next (s.act_to _ _ (if_pos hmv)), ?_, ?_, State.act_stands hl rfl rfl rfl⟩
  · exact congrArg Dev.vsupOver hdev
  · rw [s.act_causes _ hl]
    simp [State.causeGone]

/-- R450: the end of a debug halt, with no other island lost, leaves the device idle. -/
theorem exec_debugResume_clears {s : State} (hl : s.live = true) (hhalted : s.dev.halted = true)
    (hisland : SafeCause.island ∉ s.dev.causes) (hword : SafeCause.shellWord ∉ s.dev.causes) :
    ∃ t, exec .debugResume s = .next t ∧ t.dev.halted = false ∧ SafeCause.debugHalt ∉ t.dev.causes
      ∧ (t.unit (unitOf Kind.device 0)).state = .idle ∧ t.dev.state = s.dev.state := by
  refine ⟨_, rfl, ?_⟩
  generalize hf : (fun t : State => _) = f
  have hwork : ∃ g : State, g.Talks (f s) ∧ g.dev = { s.dev with halted := false, causes := s.dev.causes.filter (fun x => decide (x ≠ .debugHalt)) }
      ∧ (g.unit (unitOf Kind.device 0)).state = .idle := by
    rw [← hf]
    beta_reduce
    extract_lets u dev t1 other r t2
    rw [if_neg (by simp [hhalted])]
    have hother : other = false := by
      simp [other, t1, dev, State.causeGone, hisland, hword]
    have h2 : t2 = t1.setUnit u { t1.unit u with state := .idle, atLimit := false } := by
      unfold t2
      rw [hother]
      rfl
    rw [h2]
    exact ⟨_, State.talks_event _ _ _, rfl, by rw [State.unit_setUnit_same]⟩
  obtain ⟨g, htalks, hdev, hidle⟩ := hwork
  have hfdev := htalks.dev
  have hunits : (f s).unit (unitOf Kind.device 0) = g.unit (unitOf Kind.device 0) := by
    unfold State.unit
    rw [htalks]
  refine ⟨?_, ?_, ?_, ?_⟩
  · rw [s.act_halted f hl, hfdev, hdev]
  · rw [s.act_causes f hl, hfdev, hdev]
    simp
  · rw [s.act_unit f hl, hunits, hidle]
  · rw [s.act_to f _ rfl]
    exact State.act_keeps_devState hl (by rw [hfdev, hdev])

/-- Settles O8: each row takes its cause off the list and leaves the device's state to the hosts (assumption log 66). -/
theorem safeCausesGoWithTheirReason : Obligations.SafeCausesGoWithTheirReason := fun _ hl hk =>
  ⟨fun _ hhigh hlatched hfa hfb hdisc => exec_stoRelease_clears hl hhigh hlatched hfa hfb hdisc,
    fun hheld => exec_stoRelease_holds hl hheld, fun _ hmv => exec_vsupOverVoltageEnd_clears hl hk hmv,
    fun hhalted hisland hword => exec_debugResume_clears hl hhalted hisland hword⟩

end Sys2Proof.Machine


namespace Sys2Proof.Machine

/-! ## Safety outputs (R419, R422 to R425, Table 15-4) -/

/-- Items of different numbers are different, whatever their groups and instances. -/
theorem Item.addr_ne_of_item {g h n m i j : Nat} (hi : i % 0x400 ≠ j % 0x400) : Item.addr g n i ≠ Item.addr h m j := by
  unfold Item.addr
  omega

/-- What switching safety outputs may change: the outputs, and the two items that count their demands. -/
structure State.Switches (s t : State) : Prop where
  eq : t = { s with outs := t.outs, regs := t.regs }
  reg : ∀ a, (∀ n, a ≠ Item.SOUT.TEST_ABORT_CNT n) → (∀ n, a ≠ Item.SOUT.ON_CNT n) → t.reg a = s.reg a

theorem State.Switches.refl (s : State) : s.Switches s := ⟨rfl, fun _ _ _ => rfl⟩

theorem State.Switches.trans {s t u : State} (h : s.Switches t) (k : t.Switches u) : s.Switches u :=
  ⟨by rw [k.eq, h.eq], fun a h1 h2 => (k.reg a h1 h2).trans (h.reg a h1 h2)⟩

theorem State.switches_setOut (s : State) (n : Nat) (o : Output) : s.Switches (s.setOut n o) := ⟨rfl, fun _ _ _ => rfl⟩

theorem State.switches_outDemand (s : State) (n : Nat) : s.Switches (s.outDemand n) := by
  unfold State.outDemand
  extract_lets o d
  split
  · exact State.Switches.trans ⟨rfl, fun a h _ => s.reg_setReg_other _ _ _ (h n)⟩ (State.switches_setOut _ n _)
  · exact s.switches_setOut n _

theorem State.switches_outOff (s : State) (n : Nat) : s.Switches (s.outOff n) :=
  (s.switches_outDemand n).trans (State.switches_setOut _ n _)

theorem State.switches_applyOffCauses (s : State) : s.Switches s.applyOffCauses := by
  refine State.forEach_rel State.Switches.refl (fun _ _ _ => State.Switches.trans) _ (fun t n => ?_) _ s
  refine State.Switches.trans (t := if _ then t.outOff n else t) ?_ (State.switches_setOut _ n _)
  split
  · exact t.switches_outOff n
  · exact .refl t

/-- The off causes and the permission of an output rest on items that no switching writes. -/
theorem State.Switches.causes {s t : State} (h : s.Switches t) (m : Nat) : t.offCause m = s.offCause m ∧ t.outPermitted m = s.outPermitted m := by
  have hmask : t.reg (Item.SOUT.OFF_MASK m) = s.reg (Item.SOUT.OFF_MASK m) := h.reg _ (fun _ => Item.addr_ne_of_item (by decide)) (fun _ => Item.addr_ne_of_item (by decide))
  have howner : t.regN (Item.SOUT.OWNER m) = s.regN (Item.SOUT.OWNER m) :=
    congrArg BitVec.toNat (h.reg _ (fun _ => Item.addr_ne_of_item (by decide)) (fun _ => Item.addr_ne_of_item (by decide)))
  have hpermit : t.reg (Item.SOUT.PERMIT m) = s.reg (Item.SOUT.PERMIT m) := h.reg _ (fun _ => Item.addr_ne_of_item (by decide)) (fun _ => Item.addr_ne_of_item (by decide))
  have hfunc : ∀ k, t.regN (Item.ACT.FUNC k) = s.regN (Item.ACT.FUNC k) := fun k =>
    congrArg BitVec.toNat (h.reg _ (fun _ => Item.addr_ne_of_item (by decide)) (fun _ => Item.addr_ne_of_item (by decide)))
  have hdev : t.dev = s.dev := by rw [h.eq]
  have hsup : t.sup = s.sup := by rw [h.eq]
  have hbind : t.bind = s.bind := by rw [h.eq]
  have hsheaf : t.sheaf = s.sheaf := by rw [h.eq]; rfl
  have hact : t.actSheaf = s.actSheaf := by unfold State.actSheaf; rw [hbind]
  unfold State.offCause State.outPermitted
  simp only [hmask, howner, hpermit, hfunc, hdev, hsup, hbind, hsheaf, hact, and_self]

/-- An output that nothing switches off keeps its level where the off causes are applied. -/
theorem State.applyOffCauses_permitted (s : State) {m : Nat} (hcause : s.offCause m = false) (hpermit : s.outPermitted m = true) :
    (s.applyOffCauses.out m).on = (s.out m).on := by
  refine (State.forEach_rel (R := fun s t => s.Switches t ∧ (s.offCause m = false → s.outPermitted m = true → (t.out m).on = (s.out m).on))
    (fun s => ⟨.refl s, fun _ _ => rfl⟩)
    (fun s t u h k => ⟨h.1.trans k.1, fun hc hp =>
      (k.2 ((h.1.causes m).1.trans hc) ((h.1.causes m).2.trans hp)).trans (h.2 hc hp)⟩) _ (fun t n => ⟨?_, fun hc hp => ?_⟩) _ s).2 hcause hpermit
  · refine State.Switches.trans (t := if _ then t.outOff n else t) ?_ (State.switches_setOut _ n _)
    split
    · exact t.switches_outOff n
    · exact .refl t
  · by_cases hm : m = n
    · subst hm
      simp [hc, hp]
    · rw [State.out_setOut_other _ _ _ _ hm]
      split
      · rw [State.outOff_out, if_neg hm]
      · rfl

@[simp] theorem State.bump_out (s : State) (a n : Nat) : (s.bump a).out n = s.out n := rfl

/-- An owner's permitted request switches its output on, and counts that. -/
theorem State.outRequest_on (s : State) {n : Nat} (hpermit : s.outPermitted n = true) (hcause : s.offCause n = false)
    (hin : (s.unit (outUnit n)).out = false) :
    s.Switches (s.outRequest n true) ∧ ((s.outRequest n true).out n).on = true
      ∧ ∀ m, m ≠ n → ((s.outRequest n true).out m).on = (s.out m).on := by
  have hother : ∀ m, m ≠ n → ((s.outDemand n).out m).on = (s.out m).on := fun m hm => by
    have h := s.outOff_out n m
    unfold State.outOff at h
    rwa [State.out_setOut_other _ _ _ _ hm, if_neg hm] at h
  unfold State.outRequest
  simp only [hpermit, hcause, hin, Bool.not_false, Bool.and_self, if_true]
  split
  case isTrue hon => exact ⟨s.switches_outDemand n, hon, hother⟩
  case isFalse hoff =>
    refine ⟨((s.switches_outDemand n).trans (State.switches_setOut _ n _)).trans
      ⟨rfl, fun a _ h => State.reg_setReg_other _ _ _ _ (h n)⟩, ?_, fun m hm => ?_⟩
    · rw [State.bump_out, State.out_setOut_same]
    · rw [State.bump_out, State.out_setOut_other _ _ _ _ hm, hother m hm]

/-- What a row that only switches outputs leaves. -/
theorem State.Switches.act {s g : State} (h : s.Switches g) (hl : s.live = true) :
    s.LegsStand (s.act fun _ => g) ∧ (s.act fun _ => g).sheaf = s.sheaf ∧ (s.act fun _ => g).unit = s.unit := by
  obtain ⟨-, hsheaf, hlegs⟩ := State.act_stands hl (g := g) (by rw [h.eq]) (by rw [h.eq]) (by rw [h.eq])
  refine ⟨hlegs, hsheaf, funext fun u => (s.act_unit _ hl u).trans ?_⟩
  show g.unit u = s.unit u
  rw [h.eq]
  rfl

/-- A detection on a safety output that is in service: the fault, with the output off (Table 15-4). -/
theorem State.Poised.output_fails {s g : State} {o src : Nat} (ho : o < 8) (h : s.Poised g (outUnit o)) (hl : s.live = true)
    (hn : s.Notices (outUnit o) src) {cls : FaultClass} (hc : cls = .F ∨ cls = .L) (forced : Bool) (hsrc : src < 256) :
    s.TakesUp (s.act fun _ => g.detect (outUnit o) cls src forced) (outUnit o) .handling cls src
      ∧ ((s.act fun _ => g.detect (outUnit o) cls src forced).out o).on = false := by
  obtain ⟨hidle, hrank⟩ := h.notices hn
  have hkind : unitKind (outUnit o) = Kind.output := unitKind_unitOf (by omega)
  have htype : unitType (outUnit o) = 11 := by simp only [unitType, hkind]
  refine ⟨s.act_takesUp _ hl (s.detect_takesUp_of g _ src cls forced h.journal hc (.inl hidle) hsrc (by rw [hkind]; intro h; cases h)
    (.inr (by rw [htype]; decide)) hrank), ?_⟩
  rw [s.act_out _ hl]
  have hstart : g.detect (outUnit o) cls src forced = g.startHandling (outUnit o) cls src forced := by
    unfold State.detect
    rcases hc with rfl | rfl <;> rw [hidle]
  have hindex : unitIndex (outUnit o) = o := by unfold unitIndex outUnit unitOf; omega
  show ((g.detect (outUnit o) cls src forced).out o).on = false
  rw [hstart]
  unfold State.startHandling State.fence
  simp only [hkind, hindex]
  rw [State.out_setOut_same]

/-- A unit that is in service is idle. -/
theorem UnitRec.idle_of_in {r : UnitRec} (h : r.out = false) : r.state = .idle := by
  simpa using ((Bool.or_eq_false_iff ..).mp h).2

section
variable {s : State} (hl : s.live = true) (o : Fin 8)
include hl

theorem exec_outputRequest_off : ∃ t, exec (.outputRequest o false) s = .next t ∧ (t.out o).on = false
    ∧ (∀ n, (s.out n).on = false → (t.out n).on = false) ∧ s.LegsStand t ∧ t.sheaf = s.sheaf ∧ t.unit = s.unit := by
  have hoff : ((s.outOff o).out o).on = false := by rw [State.outOff_out, if_pos rfl]
  refine ⟨_, congrArg Host.Outcome.next (s.act_to _ (s.outOff o).applyOffCauses rfl), ?_, fun n hn => ?_,
    ((s.switches_outOff o).trans (State.switches_applyOffCauses _)).act hl⟩
  · rw [s.act_out _ hl]
    exact (s.outOff o).onlyOff_applyOffCauses _ hoff
  · rw [s.act_out _ hl]
    refine (s.outOff o).onlyOff_applyOffCauses _ ?_
    rw [State.outOff_out]
    split
    · rfl
    · exact hn

theorem exec_outputRequest_on (hpermit : s.outPermitted o = true) (hcause : s.offCause o = false) (hin : (s.unit (outUnit o)).out = false)
    (hothers : ∀ n, n ≠ o.val → (s.out n).on = false) :
    ∃ t, exec (.outputRequest o true) s = .next t ∧ (t.out o).on = true ∧ (∀ n, n ≠ o.val → (t.out n).on = false)
      ∧ s.LegsStand t ∧ t.sheaf = s.sheaf ∧ t.unit = s.unit := by
  obtain ⟨hswitch, hon, hother⟩ := s.outRequest_on hpermit hcause hin
  obtain ⟨hcause', hpermit'⟩ := hswitch.causes o
  refine ⟨_, congrArg Host.Outcome.next (s.act_to _ (s.outRequest o true).applyOffCauses rfl), ?_, fun n hn => ?_,
    (hswitch.trans (State.switches_applyOffCauses _)).act hl⟩
  · rw [s.act_out _ hl]
    exact ((s.outRequest o true).applyOffCauses_permitted (hcause'.trans hcause) (hpermit'.trans hpermit)).trans hon
  · rw [s.act_out _ hl]
    exact (s.outRequest o true).onlyOff_applyOffCauses _ ((hother n hn).trans (hothers n hn))

/-- The start of a test cycle (R422), before a demand on the same clock edge is looked at. -/
def State.cycleBegun (s : State) (o : Nat) : State :=
  (s.reach (s.out o).nextCycle).setOut o
    { s.out o with testing := true, began := (s.reach (s.out o).nextCycle).time.now }

omit hl in
theorem execTestPulseCycle_starts (hrest : (s.out o).testing = false) (hin : (s.unit (outUnit o)).out = false) :
    exec (.testPulseCycle o none) s = .next (s.act fun _ =>
      if (s.out o).demand = some (max s.time.now (s.out o).nextCycle / 5) then (s.cycleBegun o).outDemand o else s.cycleBegun o) := by
  refine congrArg Host.Outcome.next (s.act_to _ _ ?_)
  exact if_neg (by simp only [hrest, hin, Bool.false_eq_true, or_self, not_false_iff])

theorem exec_testPulseCycle_begins (hrest : (s.out o).testing = false) (hin : (s.unit (outUnit o)).out = false)
    (hfree : (s.out o).demand ≠ some (max s.time.now (s.out o).nextCycle / 5)) :
    ∃ t, exec (.testPulseCycle o none) s = .next t
      ∧ t.out o = { s.out o with testing := true, began := max s.time.now (s.out o).nextCycle }
      ∧ t.time.now = max s.time.now (s.out o).nextCycle ∧ t.unit = s.unit ∧ s.LegsStand t := by
  refine ⟨_, (execTestPulseCycle_starts o hrest hin).trans (by rw [if_neg hfree]), ?_, ?_, funext (s.act_unit _ hl),
    (State.act_stands hl (g := s.cycleBegun o) rfl rfl rfl).2.2⟩
  · rw [s.act_out _ hl]
    exact State.out_setOut_same ..
  · rw [s.act_time _ hl]
    exact max_eq_right (le_max_left ..)

theorem exec_testPulseCycle_abandoned (hrest : (s.out o).testing = false) (hin : (s.unit (outUnit o)).out = false)
    (hdemand : (s.out o).demand = some (max s.time.now (s.out o).nextCycle / 5)) :
    ∃ t, exec (.testPulseCycle o none) s = .next t ∧ (t.out o).testing = false ∧ (t.out o).on = (s.out o).on
      ∧ max s.time.now (s.out o).nextCycle + s.regN (Item.SOUT.TP_RETRY o) * 1000000 = (t.out o).nextCycle ∧ t.unit = s.unit
      ∧ s.LegsStand t := by
  have hbegun : ((s.cycleBegun o).out o).testing = true := by rw [State.cycleBegun, State.out_setOut_same]
  have hwork : (s.cycleBegun o).outDemand o = ((s.cycleBegun o).bump (Item.SOUT.TEST_ABORT_CNT o)).setOut o
      { (s.cycleBegun o).out o with
        demand := some ((s.cycleBegun o).time.now / 5), testing := false
        nextCycle := (s.cycleBegun o).time.now + (s.cycleBegun o).regN (Item.SOUT.TP_RETRY o) * 1000000 } := if_pos hbegun
  refine ⟨s.act fun _ => (s.cycleBegun o).outDemand o, (execTestPulseCycle_starts o hrest hin).trans (by rw [if_pos hdemand]), ?_⟩
  have hswitch := (s.cycleBegun o).switches_outDemand o
  obtain ⟨-, -, hlegs⟩ := State.act_stands hl (g := (s.cycleBegun o).outDemand o) (by rw [hswitch.eq]; rfl) (by rw [hswitch.eq]; rfl)
    (by rw [hswitch.eq]; rfl)
  have hunit : ((s.cycleBegun o).outDemand o).unit = s.unit := by rw [hswitch.eq]; rfl
  refine ⟨?_, ?_, ?_, (funext (s.act_unit _ hl)).trans hunit, hlegs⟩ <;> rw [s.act_out _ hl, hwork]
  · rw [State.out_setOut_same]
  · rw [State.out_setOut_same, State.cycleBegun, State.out_setOut_same]
  · rw [State.out_setOut_same]
    rfl

theorem exec_testPulseCycle_fails {r : PulseTest} (htest : (s.out o).testing = true)
    (hbad : PulseTest.highOk r (s.out o).on = false ∨ PulseTest.lowOk r (s.out o).on = false) (hn : s.Notices (outUnit o) 32) :
    ∃ t, exec (.testPulseCycle o (some r)) s = .next t ∧ s.TakesUp t (outUnit o) .handling .L 32 ∧ (t.out o).on = false := by
  have hwork : ∃ g forced, s.Poised g (outUnit o) ∧ s.endCycle o r = g.detect (outUnit o) .L 32 forced := by
    unfold State.endCycle
    extract_lets ou u fl fh fo s1 s2
    have h1 : s.Poised s1 (outUnit o) :=
      ((s.poised_useForce u 0).trans (State.poised_useForce _ u 1)).trans (State.poised_useForce _ u 2)
    have h2 : s.Poised s2 (outUnit o) := h1.trans (((s1.measures_reach _).trans (State.measures_setRegs _ _)).poised _)
    have hfail : !PulseTest.highOk r ou.on ∨ !PulseTest.lowOk r ou.on ∨ fl ∨ fh := by
      rcases hbad with h | h
      · exact .inl (by rw [h]; rfl)
      · exact .inr (.inl (by rw [h]; rfl))
    rw [if_pos hfail]
    clear_value s2
    exact ⟨s2.setOut o { ou with testing := false }, _, h2.trans ⟨rfl, rfl, rfl, le_rfl⟩, rfl⟩
  obtain ⟨g, forced, hpoised, hend⟩ := hwork
  refine ⟨_, congrArg Host.Outcome.next (s.act_to _ _ ((if_pos htest).trans hend)), ?_⟩
  exact hpoised.output_fails o.isLt hl hn (.inr rfl) forced (by decide)

/-- R424: the warning of a missing cycle. -/
theorem exec_testCycleMissing_warns (hnew : (s.out o).warned = false) (hin : (s.unit (outUnit o)).out = false)
    (hrank : s.Unranked (outUnit o) 16) :
    ∃ t, exec (.testCycleMissing o) s = .next t ∧ t.Shows (outUnit o) .idle .W 16 ∧ t.out o = { s.out o with warned := true }
      ∧ (s.out o).lastCycle + 2 * (s.regN (Item.SOUT.TEST_INTERVAL o) * 1000000000) ≤ t.time.now := by
  let g := (s.reach ((s.out o).lastCycle + 2 * (s.regN (Item.SOUT.TEST_INTERVAL o) * 1000000000))).setOut o { s.out o with warned := true }
  have hpoised : s.Poised g (outUnit o) := ⟨rfl, rfl, rfl, le_max_left ..⟩
  have hkind : unitKind (outUnit o) ≠ Kind.leg := by rw [unitKind_unitOf (by omega)]; decide
  have hwarns : g.Warns (g.raise (outUnit o) .W 16) := g.warns_detect _ _ _ hkind
  refine ⟨_, congrArg Host.Outcome.next (s.act_to _ (g.raise (outUnit o) .W 16) ?_), s.act_shows _ hl ?_, ?_, ?_⟩
  · exact (if_neg (by simp only [hin, Bool.false_eq_true, not_false_iff])).trans (if_pos (by rw [hnew]; rfl))
  · exact hpoised.shows ⟨UnitRec.idle_of_in hin, hrank⟩ false
  · rw [s.act_out _ hl]
    show (g.raise (outUnit o) .W 16).out o = _
    rw [hwarns]
    exact State.out_setOut_same ..
  · rw [s.act_time _ hl, hwarns]
    exact (le_max_right s.time.now _).trans (le_max_right ..)

/-- R424: a cycle that is still missing after the warning. -/
theorem exec_testCycleMissing_fails (hwarned : (s.out o).warned = true) (hin : (s.unit (outUnit o)).out = false)
    (hrank : s.Unranked (outUnit o) 1) :
    ∃ t, exec (.testCycleMissing o) s = .next t ∧ s.TakesUp t (outUnit o) .handling .F 1 ∧ (t.out o).on = false := by
  refine ⟨_, congrArg Host.Outcome.next (s.act_to _
    ((s.reach ((s.out o).lastCycle + 4 * (s.regN (Item.SOUT.TEST_INTERVAL o) * 1000000000))).raise (outUnit o) .F 1) ?_), ?_⟩
  · exact (if_neg (by simp only [hin, Bool.false_eq_true, not_false_iff])).trans (if_neg (by rw [hwarned]; decide))
  · exact ((s.measures_reach _).poised _).output_fails o.isLt hl ⟨UnitRec.idle_of_in hin, hrank⟩ (.inl rfl) false (by decide)

/-- R425: a readback that shows a switch conducting. -/
theorem exec_readbackFault_fails (vP vN mA : Nat) (hoff : (s.out o).on = false) (hrest : (s.out o).testing = false)
    (hn : s.Notices (outUnit o) 32) :
    ∃ t, exec (.readbackFault o vP vN mA) s = .next t ∧ s.TakesUp t (outUnit o) .handling .L 32 ∧ (t.out o).on = false := by
  refine ⟨_, congrArg Host.Outcome.next (s.act_to _ ((s.setRegs [(Item.SOUT.V_P o, nw vP), (Item.SOUT.V_N o, nw vN),
    (Item.SOUT.I_MEAS o, nw mA)]).raise (outUnit o) .L 32) ?_), ?_⟩
  · exact if_neg (by simp only [hoff, hrest, Bool.false_eq_true, or_self, not_false_iff])
  · exact ((s.measures_setRegs _).poised _).output_fails o.isLt hl hn (.inr rfl) false (by decide)

end

/-- Settles O9: requests switch outputs and nothing else; a cycle begins unless a demand shares its clock edge; each failed test is a fault
whose fence switches the output off (assumption logs 67 and 127). -/
theorem safetyOutputsFollowRequestsAndTests : Obligations.SafetyOutputsFollowRequestsAndTests := fun _ o hl =>
  ⟨exec_outputRequest_off hl o, exec_outputRequest_on hl o, exec_testPulseCycle_begins hl o, exec_testPulseCycle_abandoned hl o,
    fun _ => exec_testPulseCycle_fails hl o, exec_testCycleMissing_warns hl o, exec_testCycleMissing_fails hl o,
    exec_readbackFault_fails hl o⟩

end Sys2Proof.Machine

namespace Sys2Proof.Machine

/-! ## The supervisor's evaluation, cross-check and channel test (R410, R411, Tables 15-2 and 15-5) -/

/-- The supervisor's evaluation of the traction port stands: whether it is valid, its position, since when it is not. -/
structure State.SameEvaluation (s t : State) : Prop where
  valid : t.sup.valid = s.sup.valid
  pos : t.sup.pos = s.sup.pos
  since : t.sup.invalidSince = s.sup.invalidSince

theorem State.SameEvaluation.trans {s t u : State} (h : s.SameEvaluation t) (k : t.SameEvaluation u) : s.SameEvaluation u :=
  ⟨k.valid.trans h.valid, k.pos.trans h.pos, k.since.trans h.since⟩

theorem State.sameEvaluation_of_sup {s t : State} (h : t.sup = s.sup) : s.SameEvaluation t := by
  constructor <;> rw [h]

theorem State.sameEvaluation_monitor (s : State) (c : SafeCause) (beyond : Bool) : s.SameEvaluation (s.monitor c beyond) := by
  unfold State.monitor
  split
  · split
    · exact ⟨rfl, rfl, rfl⟩
    · constructor <;> rw [State.demandBoth_sup]
  · split <;> exact ⟨rfl, rfl, rfl⟩

theorem State.sameEvaluation_takeDirection (s : State) (speed pos : Int) : s.SameEvaluation (s.takeDirection speed pos) := by
  unfold State.takeDirection
  extract_lets want permits
  split <;> exact ⟨rfl, rfl, rfl⟩

theorem State.sameEvaluation_monitorSls (s : State) (speed : Int) : s.SameEvaluation (s.monitorSls speed) := by
  unfold State.monitorSls
  extract_lets active s1
  have h1 : s.SameEvaluation s1 := by
    unfold s1 State.takeMode
    extract_lets m
    split <;> exact ⟨rfl, rfl, rfl⟩
  exact h1.trans (s1.sameEvaluation_monitor ..)

theorem State.sameEvaluation_monitorSdi (s : State) (n : Nat) (pos : Int) : s.SameEvaluation (s.monitorSdi n pos) := by
  unfold State.monitorSdi
  extract_lets d dir ref against active
  exact State.SameEvaluation.trans (t := { s with sup := { s.sup with sdiRef := ref } }) ⟨rfl, rfl, rfl⟩ (State.sameEvaluation_monitor ..)

theorem State.sameEvaluation_selectSafe (s : State) (speed : Int) : s.SameEvaluation (s.selectSafe speed) := by
  unfold State.selectSafe
  extract_lets high low asc
  split
  · exact ⟨rfl, rfl, rfl⟩
  · exact State.SameEvaluation.trans (t := { s with sup := { s.sup with asc := asc } }) ⟨rfl, rfl, rfl⟩
      (State.sameEvaluation_of_sup (State.fencesOnly_applySelection _).1.sup)

/-- The supervisor takes a valid evaluation of the traction port. -/
def State.validAt (s : State) (speed pos : Int) : State :=
  { s with sup := { s.sup with valid := true, invalidSince := none, pos := pos } }.setReg Item.SAFE.SPEED (iw speed)

/-- A valid evaluation is taken, whatever the functions of Table 15-2 make of it. -/
theorem State.sameEvaluation_evaluateTraction (s : State) (n : Nat) (speed pos : Int) :
    (s.validAt speed pos).SameEvaluation (s.evaluateTraction n true speed pos) := by
  have htaken : s.evaluateTraction n true speed pos
    = (((((s.validAt speed pos).takeDirection speed pos).monitorSls speed).monitorSdi n pos).monitorSlp n pos).selectSafe speed := if_pos rfl
  rw [htaken]
  generalize s.validAt speed pos = g
  exact ((((g.sameEvaluation_takeDirection speed pos).trans (State.sameEvaluation_monitorSls _ speed)).trans
    (State.sameEvaluation_monitorSdi _ n pos)).trans (State.sameEvaluation_monitor ..)).trans (State.sameEvaluation_selectSafe _ speed)

/-- The turn of a port's evaluation, with the speed that the supervisor found. -/
def State.evaluating (s : State) (p : Nat) (speed : Int) : State :=
  { s.every (Timer.evaluation p) 125000 with sup := { s.sup with speeds := KMap.put (fun _ => (0 : Int)) s.sup.speeds p speed } }

/-- The evaluation of the port of the traction sheaf (R411). -/
theorem exec_supervisorSpeedEval_traction {s : State} {p : Fin 4} {n : Nat} (hn : s.regN (Item.POS.SHEAF p) = n) (h12 : n < 12)
    (hport : s.portOf n = some p.val) (htrc : s.stype n = SType.trc) (faults : BitVec 3) (speed pos : Int) :
    exec (.supervisorSpeedEval p faults speed pos) s
      = .next (s.act fun _ => (s.evaluating p speed).evaluateTraction n (decide (faults = 0)) speed pos) := by
  subst hn
  have htrc' : (s.evaluating p speed).stype (s.regN (Item.POS.SHEAF p)) = SType.trc := htrc
  have hpass : ¬ (s.regN (Item.POS.SHEAF p) ≥ 12 ∨ s.portOf (s.regN (Item.POS.SHEAF p)) ≠ some p.val) := by
    simp [Nat.not_le.mpr h12, hport]
  exact congrArg Host.Outcome.next (s.act_to _ _ ((if_neg hpass).trans (if_pos htrc')))

theorem exec_supervisorSpeedEval_valid {s : State} (hl : s.live = true) {p : Fin 4} {n : Nat} (hn : s.regN (Item.POS.SHEAF p) = n)
    (h12 : n < 12) (hport : s.portOf n = some p.val) (htrc : s.stype n = SType.trc) (speed pos : Int) :
    ∃ t, exec (.supervisorSpeedEval p 0 speed pos) s = .next t ∧ t.sup.valid = true ∧ t.sup.pos = pos ∧ t.sup.invalidSince = none := by
  refine ⟨_, exec_supervisorSpeedEval_traction hn h12 hport htrc 0 speed pos, ?_⟩
  obtain ⟨hvalid, hpos, hsince⟩ := (s.evaluating p speed).sameEvaluation_evaluateTraction n speed pos
  rw [s.act_sup _ hl, decide_eq_true (rfl : (0 : BitVec 3) = 0)]
  exact ⟨hvalid, hpos, hsince⟩

/-- The supervisor's evaluation is invalid since a time. -/
def State.invalidFrom (s : State) (since : Nat) : State := { s with sup := { s.sup with valid := false, invalidSince := some since } }

theorem State.evaluateTraction_invalid (s : State) (n : Nat) (speed pos : Int) {since : Nat} (hsince : s.sup.invalidSince = some since)
    (hrun : (s.sheaf n).state = .run) (hlong : since + s.regN Item.SAFE.SPD_INV_T * 1000 ≤ s.time.now) :
    s.evaluateTraction n false speed pos = ((s.invalidFrom since).bump Item.SAFE.DEMAND_CNT).safeSheaf n := by
  have hgetD : s.sup.invalidSince.getD s.time.now = since := by rw [hsince, Option.getD_some]
  unfold State.evaluateTraction
  rw [if_neg Bool.false_ne_true, hgetD]
  exact if_pos ⟨hrun, hlong⟩

/-- R411: an evaluation that has been invalid for SPD_INV_T stops the running traction sheaf through path A alone. -/
theorem exec_supervisorSpeedEval_invalid {s : State} (hl : s.live = true) {p : Fin 4} {n : Nat} (hn : s.regN (Item.POS.SHEAF p) = n)
    (h12 : n < 12) (hport : s.portOf n = some p.val) (htrc : s.stype n = SType.trc) {faults : BitVec 3} (hfaults : faults ≠ 0)
    (speed pos : Int) {since : Nat} (hrun : (s.sheaf n).state = .run) (hsince : s.sup.invalidSince = some since)
    (hlong : since + s.regN Item.SAFE.SPD_INV_T * 1000 ≤ s.time.now) :
    ∃ t, exec (.supervisorSpeedEval p faults speed pos) s = .next t ∧ t.sup.valid = false ∧ (t.sheaf n).state = .safe
      ∧ t.sup.pathB = s.sup.pathB := by
  have hwork : (s.evaluating p speed).evaluateTraction n (decide (faults = 0)) speed pos
      = (((s.evaluating p speed).invalidFrom since).bump Item.SAFE.DEMAND_CNT).safeSheaf n := by
    rw [decide_eq_false hfaults]
    exact State.evaluateTraction_invalid _ n speed pos hsince hrun (hlong.trans (le_max_left ..))
  have hsup := (State.fences_safeSheaf (((s.evaluating p speed).invalidFrom since).bump Item.SAFE.DEMAND_CNT) n).sup
  refine ⟨_, (exec_supervisorSpeedEval_traction hn h12 hport htrc faults speed pos).trans (by rw [hwork]), ?_, ?_, ?_⟩
  · rw [s.act_sup _ hl, hsup]
    rfl
  · have hstate : ((((s.evaluating p speed).invalidFrom since).bump Item.SAFE.DEMAND_CNT).sheaf n).state = .run := hrun
    rw [s.act_sheaf _ hl, State.safeSheaf_state]
    simp only [hstate]
    decide
  · rw [s.act_sup _ hl, hsup]
    rfl

/-- The turn of a port's cross-check with the number of differences in a row that it finds (R411). -/
def State.crossChecked (s : State) (p runs : Nat) : State :=
  { s.every (Timer.cross p) 1000000 with
    sup := { s.sup with crossRuns := KMap.put (fun _ => 0) s.sup.crossRuns p (if 3 ≤ runs then 0 else runs) } }

/-- The number of differences in a row with the one found now. -/
def State.crossRun (s : State) (p : Nat) : Nat :=
  if s.regN Item.SAFE.XCHK_TOL * 1000 < (KMap.get (fun _ => (0 : Int)) s.sup.speeds p - s.regI (Item.POS.SPEED p)).natAbs then
    KMap.get (fun _ => 0) s.sup.crossRuns p + 1
  else 0

theorem exec_speedCrossCheck {s : State} {p : Fin 4} {n : Nat} (hn : s.regN (Item.POS.SHEAF p) = n) (h12 : n < 12)
    (hport : s.portOf n = some p.val) (htype : s.stype n = SType.trc ∨ s.stype n = SType.act) :
    exec (.speedCrossCheck p) s = .next (s.act fun _ => if 3 ≤ s.crossRun p then (s.crossChecked p (s.crossRun p)).raise (unitOf Kind.port p) .F 8
      else s.crossChecked p (s.crossRun p)) := by
  subst hn
  have hpass : ¬ (s.regN (Item.POS.SHEAF p) ≥ 12 ∨ s.portOf (s.regN (Item.POS.SHEAF p)) ≠ some p.val
      ∨ (s.stype (s.regN (Item.POS.SHEAF p)) ≠ SType.trc ∧ s.stype (s.regN (Item.POS.SHEAF p)) ≠ SType.act)) := by
    rintro (h | h | ⟨h, h'⟩)
    · omega
    · exact h hport
    · rcases htype with e | e
      · exact h e
      · exact h' e
  refine congrArg Host.Outcome.next (s.act_to _ _ ((if_neg hpass).trans ?_))
  have hruns : (if decide ((s.every (Timer.cross p) 1000000).regN Item.SAFE.XCHK_TOL * 1000
      < (KMap.get (fun _ => (0 : Int)) (s.every (Timer.cross p) 1000000).sup.speeds p
          - (s.every (Timer.cross p) 1000000).regI (Item.POS.SPEED p)).natAbs) = true then
      KMap.get (fun _ => 0) (s.every (Timer.cross p) 1000000).sup.crossRuns p + 1 else 0) = s.crossRun p :=
    if_congr decide_eq_true_iff rfl rfl
  show (if 3 ≤ _ then State.raise (s.crossChecked p _) (unitOf Kind.port p) .F 8 else s.crossChecked p _) = _
  rw [hruns]

theorem exec_speedCrossCheck_fails {s : State} (hl : s.live = true) {p : Fin 4} {n : Nat} (hn : s.regN (Item.POS.SHEAF p) = n)
    (h12 : n < 12) (hport : s.portOf n = some p.val) (htype : s.stype n = SType.trc ∨ s.stype n = SType.act)
    (hoff : s.regN Item.SAFE.XCHK_TOL * 1000 < (KMap.get (fun _ => (0 : Int)) s.sup.speeds p - s.regI (Item.POS.SPEED p)).natAbs)
    (hruns : KMap.get (fun _ => 0) s.sup.crossRuns p = 2) (hnote : s.Notices (unitOf Kind.port p) 8) :
    ∃ t, exec (.speedCrossCheck p) s = .next t ∧ s.TakesUp t (unitOf Kind.port p) .handling .F 8 := by
  have hthree : s.crossRun p = 3 := (if_pos hoff).trans (by rw [hruns])
  have hpoised : s.Poised (s.crossChecked p 3) (unitOf Kind.port p) := ⟨rfl, rfl, rfl, le_max_left ..⟩
  refine ⟨_, (exec_speedCrossCheck hn h12 hport htype).trans (by rw [hthree, if_pos le_rfl]), s.act_takesUp _ hl ?_⟩
  exact hpoised.takesUp hnote false (by decide) (by rw [unitKind_unitOf (by omega)]; decide)

theorem exec_speedCrossCheck_agrees {s : State} (hl : s.live = true) {p : Fin 4} {n : Nat} (hn : s.regN (Item.POS.SHEAF p) = n)
    (h12 : n < 12) (hport : s.portOf n = some p.val) (htype : s.stype n = SType.trc ∨ s.stype n = SType.act)
    (hnear : ¬ s.regN Item.SAFE.XCHK_TOL * 1000 < (KMap.get (fun _ => (0 : Int)) s.sup.speeds p - s.regI (Item.POS.SPEED p)).natAbs) :
    ∃ t, exec (.speedCrossCheck p) s = .next t ∧ KMap.get (fun _ => 0) t.sup.crossRuns p = 0 ∧ t.unit = s.unit ∧ t.sheaf = s.sheaf := by
  have hzero : s.crossRun p = 0 := if_neg hnear
  refine ⟨_, (exec_speedCrossCheck hn h12 hport htype).trans (by rw [hzero, if_neg (by decide)]), ?_, funext (s.act_unit _ hl),
    funext (s.act_sheaf _ hl)⟩
  rw [s.act_sup _ hl]
  exact KMap.get_put_same (fun _ => 0) s.sup.crossRuns p 0

/-- The turn of the channel test: its first channel waits for the round's period (R410). -/
def State.channelTurn (s : State) (n : Nat) : State :=
  if s.sup.channel % s.bind.countOf n = 0 then s.every Timer.channel (s.regN Item.SAFE.CMP_TEST_PERIOD * 1000000) else s

theorem State.channelTurn_measures (s : State) (n : Nat) : s.Measures (s.channelTurn n) := by
  unfold State.channelTurn
  split
  · exact s.measures_every _ _
  · exact ⟨rfl, le_rfl⟩

/-- The next channel to test. -/
def State.setChannel (s : State) (k : Nat) : State := { s with sup := { s.sup with channel := k } }

theorem State.measures_setChannel (s : State) (k : Nat) : s.Measures (s.setChannel k) := ⟨rfl, le_rfl⟩

/-- The test of one channel, 20 µs, without its outcome. -/
def State.channelTested (s : State) (n : Nat) : State :=
  ((s.channelTurn n).setChannel ((s.sup.channel % s.bind.countOf n + 1) % s.bind.countOf n)).reach ((s.channelTurn n).time.now + 20000)

theorem State.channelTested_measures (s : State) (n : Nat) :
    s.Measures (s.channelTested n) ∧ (s.channelTested n).sup.channel = (s.sup.channel % s.bind.countOf n + 1) % s.bind.countOf n
      ∧ s.time.now + 20000 ≤ (s.channelTested n).time.now := by
  unfold State.channelTested
  have hturn := s.channelTurn_measures n
  generalize s.channelTurn n = t at hturn ⊢
  refine ⟨hturn.trans ((t.measures_setChannel _).trans (State.measures_reach _ _)), rfl, ?_⟩
  exact (Nat.add_le_add_right hturn.now _).trans (le_max_right ..)

theorem exec_channelTest {s : State} {n : Nat} (htrc : s.trcSheaf = some n) (ok : Bool) :
    exec (.channelTest ok) s = .next (s.act fun _ =>
      if ok then s.channelTested n
      else (s.channelTested n).raise (legUnit (s.bind.firstOf n + s.sup.channel % s.bind.countOf n)) .L 38) := by
  have hbind : (s.channelTested n).bind = s.bind := by rw [(s.channelTested_measures n).1.eq]
  refine congrArg Host.Outcome.next (s.act_to _ _ ?_)
  rw [htrc]
  show (if ok = true then s.channelTested n
    else (s.channelTested n).raise (legUnit ((s.channelTested n).bind.firstOf n + s.sup.channel % s.bind.countOf n)) .L 38) = _
  rw [hbind]

theorem exec_channelTest_passes {s : State} (hl : s.live = true) {n : Nat} (htrc : s.trcSheaf = some n) :
    ∃ t, exec (.channelTest true) s = .next t ∧ t.sup.channel = (s.sup.channel % s.bind.countOf n + 1) % s.bind.countOf n
      ∧ s.time.now + 20000 ≤ t.time.now ∧ t.unit = s.unit ∧ s.LegsStand t := by
  obtain ⟨hmeasures, hchannel, hnow⟩ := s.channelTested_measures n
  refine ⟨_, exec_channelTest htrc true, ?_, ?_, funext fun u => (s.act_unit _ hl u).trans ?_,
    (State.act_stands hl (g := s.channelTested n) (by rw [hmeasures.eq]) (by rw [hmeasures.eq]) (by rw [hmeasures.eq])).2.2⟩
  · rw [s.act_sup _ hl]
    exact hchannel
  · rw [s.act_time _ hl]
    exact hnow.trans (le_max_right ..)
  · show (s.channelTested n).unit u = s.unit u
    rw [hmeasures.eq]
    rfl

theorem exec_channelTest_fails {s : State} (hl : s.live = true) {n : Nat} (htrc : s.trcSheaf = some n)
    (hnote : s.Notices (legUnit (s.bind.firstOf n + s.sup.channel % s.bind.countOf n)) 38)
    (hkind : unitKind (legUnit (s.bind.firstOf n + s.sup.channel % s.bind.countOf n)) = Kind.leg) :
    ∃ t, exec (.channelTest false) s = .next t
      ∧ s.TakesUp t (legUnit (s.bind.firstOf n + s.sup.channel % s.bind.countOf n)) .handling .L 38 := by
  have hpoised := (s.channelTested_measures n).1.poised (legUnit (s.bind.firstOf n + s.sup.channel % s.bind.countOf n))
  obtain ⟨hidle, hrank⟩ := hpoised.notices hnote
  have htype : unitType (legUnit (s.bind.firstOf n + s.sup.channel % s.bind.countOf n)) = 2 := by
    simp only [unitType, hkind]
  refine ⟨_, exec_channelTest htrc false, s.act_takesUp _ hl ?_⟩
  exact s.detect_takesUp_of _ _ 38 .L false hpoised.journal (.inr rfl) (.inl hidle) (by decide) (by rw [hkind]; intro h; cases h)
    (.inr (by rw [htype]; decide)) hrank

/-- Settles O10: the evaluation's own marks outlast the monitors that it feeds; a stop for an invalid one leaves path B; the third difference
and a failed channel are faults of their units (assumption log 66). -/
theorem theSupervisorWatchesSpeedAndChannels : Obligations.TheSupervisorWatchesSpeedAndChannels := fun _ hl =>
  ⟨fun _ speed pos _ hn h12 hport htrc => exec_supervisorSpeedEval_valid hl hn h12 hport htrc speed pos,
    fun _ _ speed pos _ _ hn h12 hport htrc hfaults hrun hsince hlong =>
      exec_supervisorSpeedEval_invalid hl hn h12 hport htrc hfaults speed pos hrun hsince hlong,
    fun _ _ hn h12 hport htype => ⟨exec_speedCrossCheck_fails hl hn h12 hport htype, exec_speedCrossCheck_agrees hl hn h12 hport htype⟩,
    fun _ htrc => ⟨exec_channelTest_passes hl htrc, exec_channelTest_fails hl htrc⟩⟩

end Sys2Proof.Machine


namespace Sys2Proof.Machine

/-! ## Messages taken, service discovery, the SPI port (R102, R503, R504, R525) -/

/-- What a slot keeps of a message that it takes (R107, R115): its credits move to those owed, its freshness is noted. -/
def HostSlot.heard (h : HostSlot) (cost fresh now : Nat) : HostSlot :=
  { h with credits := h.credits - cost, owed := h.owed + cost, fails := 0, freshIn := fresh, lastHeard := now }

/-- The record of a message taken (R113). -/
def State.takenRec (s : State) (m : HostMsg) : CmdRec :=
  { state := .waiting, msg := m, order := s.dev.nextOrder, accepted := s.time.now, start := s.startAt m,
    code := 0, reason := 0, result := [], completed := 0, sent := 0 }

/-- The order of the next command goes up. -/
def State.countOrder (s : State) : State := { s with dev := { s.dev with nextOrder := s.dev.nextOrder + 1 } }

/-- The state with a message taken into its tag. -/
def State.taking (s : State) (m : HostMsg) : State :=
  (((s.chargeCredits (m.tag.toNat / 64 % 8) (creditCost m.payload.length)).setCmd (m.tag.toNat / 64 % 8) (m.tag.toNat % 64)
    (some (s.takenRec m))).countOrder).authPass (m.tag.toNat / 64 % 8) m.fresh.toNat

/-- What refuses an opcode looks neither at the slots' books nor at the records. -/
theorem State.refusal_taking (s : State) (m m' : HostMsg) (slot : Nat) : (s.taking m).refusal slot m' = s.refusal slot m' := rfl

/-- R102, R106, R107, R113, R115: a message that its slot may take is taken. -/
theorem State.MayTake.accept {s : State} {port : Nat} {m : HostMsg} (h : s.MayTake port m) : s.accept port m = s.taking m := by
  obtain ⟨hattached, hport, hshort, hlength, hfree, hcredits, hmac, hfresh, hallowed⟩ := h
  have hdue : (s.taking m).refusal (m.tag.toNat / 64 % 8) m = none := (s.refusal_taking m m _).trans hallowed
  have hslot : ¬ ((s.slot (m.tag.toNat / 64 % 8)).status ≠ .attached ∨ (s.slot (m.tag.toNat / 64 % 8)).port ≠ port) := by
    simp [hattached, hport]
  have hlen : ¬ (m.payload.length > 1460 ∨ m.length.toNat ≠ m.payload.length) := by omega
  unfold State.accept
  extract_lets slot idx hs s1 r s1' dev s2 s3
  have hs3 : s3 = s.taking m := rfl
  rw [if_neg hslot, if_neg hlen, if_neg (by rw [hfree]; decide), if_neg (Nat.not_lt.mpr hcredits), if_neg (by rw [hmac]; decide),
    if_neg (Nat.not_le.mpr hfresh), hs3, hdue]

theorem State.chargeCredits_slot (s : State) (n cost : Nat) :
    (s.chargeCredits n cost).slot n = { s.slot n with credits := (s.slot n).credits - cost, owed := (s.slot n).owed + cost } :=
  s.slot_setSlot_same ..

theorem State.authPass_slot (s : State) (n fresh : Nat) :
    (s.authPass n fresh).slot n = { s.slot n with fails := 0, freshIn := fresh, lastHeard := s.time.now } :=
  s.slot_setSlot_same ..

theorem State.taking_slot (s : State) (m : HostMsg) :
    (s.taking m).slot (m.tag.toNat / 64 % 8)
      = (s.slot (m.tag.toNat / 64 % 8)).heard (creditCost m.payload.length) m.fresh.toNat s.time.now := by
  have hcharged : (((s.chargeCredits (m.tag.toNat / 64 % 8) (creditCost m.payload.length)).setCmd (m.tag.toNat / 64 % 8)
      (m.tag.toNat % 64) (some (s.takenRec m))).countOrder).slot (m.tag.toNat / 64 % 8) = _ :=
    s.chargeCredits_slot (m.tag.toNat / 64 % 8) (creditCost m.payload.length)
  refine (State.authPass_slot ..).trans ?_
  rw [hcharged]
  rfl

theorem State.taking_cmd (s : State) (m : HostMsg) :
    (s.taking m).cmd (m.tag.toNat / 64 % 8) (m.tag.toNat % 64) = some (s.takenRec m) :=
  State.cmd_setCmd_same (s.chargeCredits (m.tag.toNat / 64 % 8) (creditCost m.payload.length)) (m.tag.toNat / 64 % 8) (m.tag.toNat % 64)
    (some (s.takenRec m))

theorem State.takes_taking (s : State) (m : HostMsg) : s.Takes (s.taking m) m := by
  refine ⟨⟨_, s.taking_cmd m, rfl, rfl, rfl, rfl⟩, ?_, ?_⟩ <;> rw [s.taking_slot]
  · rfl
  · rfl

@[simp] theorem length_beBytes (n v : Nat) : (beBytes n v).length = n := by
  induction n with
  | zero => rfl
  | succ n ih => exact congrArg (· + 1) ih

/-- Table 4-5: the header of a message to a host with its CMAC fills 32 bytes. -/
theorem length_outHeader (m : OutMsg) : (outHeader m ++ beBytes 8 m.mac.toNat).length = 32 := by
  simp [outHeader]

section
variable {s : State} (hc : s.Calm)
include hc

/-- What SD_REPLY says of itself (Table 19-6). -/
def State.Replied (s t : State) (nonce : Nat) : Prop :=
  ∃ m, t.tx = s.tx ++ [m] ∧ m.port = 2 ∧ m.kind = 0x04
    ∧ m.payload.take 12 = beBytes 4 (s.regN Item.SVC.DEV_NUM) ++ beBytes 8 Config.serial.toNat ∧ m.payload.drop 24 = beBytes 8 nonce
    ∧ t.reg Item.SVC.SD_CNT = s.reg Item.SVC.SD_CNT + 1

omit hc in
theorem State.replied_sdReply (s : State) (nonce : Nat) : s.Replied (s.sdReply nonce) nonce := by
  refine ⟨_, rfl, rfl, rfl, ?_, ?_, State.reg_setReg_same ..⟩
  · simp [List.take_append]
  · exact List.drop_left' (by simp)

theorem exec_sdQuery_schedules (bits : Fin 262144) (len : Fin 19) (window : Nat) (nonce : BitVec 64) (hopen : s.portOpen 2 = true)
    (henabled : s.regN Item.SVC.SD_EN ≠ 0) (hmay : s.mayAnswer = true)
    (hprefix : s.regN Item.SVC.DEV_NUM / 2 ^ (18 - len.val) = bits.val / 2 ^ (18 - len.val))
    (hquiet : ∀ q ∈ s.net.quiet, q.1 = nonce.toNat → q.2 ≤ s.time.now) :
    ∃ t, exec (.sdQuery bits len window nonce) s = .next t ∧ ∃ at', t.net.replies = s.net.replies ++ [(at', nonce.toNat)]
      ∧ s.time.now ≤ at' ∧ at' ≤ s.time.now + window * 1000000 ∧ t.tx = s.tx := by
  have hloud : s.net.quiet.any (fun q => decide (q.1 = nonce.toNat) && decide (s.time.now < q.2)) = false := by
    simp only [List.any_eq_false, Bool.and_eq_true, decide_eq_true_eq, not_and]
    intro q hq hsame
    exact Nat.not_lt.mpr (hquiet q hq hsame)
  have hanswers : ¬ ((!s.portOpen 2) = true ∨ s.regN Item.SVC.SD_EN = 0 ∨ s.regN Item.SVC.DEV_NUM / 2 ^ (18 - len.val) ≠ bits.val / 2 ^ (18 - len.val)
      ∨ s.net.quiet.any (fun q => decide (q.1 = nonce.toNat) && decide (s.time.now < q.2)) = true ∨ (!s.mayAnswer) = true) := by
    simp [hopen, henabled, hprefix, hloud, hmay]
  refine hc.next (if_neg hanswers) rfl rfl rfl ⟨_, rfl, Nat.le_add_right .., ?_, rfl⟩
  have hdelay := Nat.mod_lt s.freeWord.toNat (Nat.succ_pos window)
  exact Nat.add_le_add_left (Nat.mul_le_mul_right _ (Nat.le_of_lt_succ hdelay)) _

theorem exec_sdReply_sends {q : Nat × Nat} (hfirst : earliest s.net.replies = some q) :
    ∃ t, exec .sdReply s = .next t ∧ s.Replied t q.2 ∧ t.net.replies = s.net.replies.erase q ∧ q.1 ≤ t.time.now := by
  have hwork : (match earliest s.net.replies with
      | none => s
      | some q => State.sdReply { s.reach q.1 with net := { (s.reach q.1).net with replies := (s.reach q.1).net.replies.erase q } } q.2)
      = State.sdReply { s.reach q.1 with net := { s.net with replies := s.net.replies.erase q } } q.2 := by
    rw [hfirst]
    rfl
  refine hc.next hwork rfl rfl rfl ⟨State.replied_sdReply { s.reach q.1 with net := { s.net with replies := s.net.replies.erase q } } q.2, rfl, ?_⟩
  exact (le_max_right s.time.now q.1).trans (le_max_right ..)

theorem exec_sdQuiet_quiets (nonce : BitVec 64) (hopen : s.portOpen 2 = true) (henabled : s.regN Item.SVC.SD_EN ≠ 0)
    (hmay : s.mayAnswer = true) :
    ∃ t, exec (.sdQuiet nonce true) s = .next t ∧ s.Replied t nonce.toNat
      ∧ (nonce.toNat, s.time.now + s.regN Item.SVC.SD_QUIET_T * 1000000000) ∈ t.net.quiet := by
  have hanswers : ¬ ((!true) = true ∨ (!s.portOpen 2) = true ∨ s.regN Item.SVC.SD_EN = 0 ∨ (!s.mayAnswer) = true) := by
    simp [hopen, henabled, hmay]
  refine hc.next (if_neg hanswers) rfl rfl rfl ⟨?_, List.mem_cons_self⟩
  exact State.replied_sdReply { s.noteAnswer with net := { s.noteAnswer.net with
    quiet := (nonce.toNat, s.time.now + s.regN Item.SVC.SD_QUIET_T * 1000000000)
      :: s.net.quiet.filter (fun q => decide (q.1 ≠ nonce.toNat) && decide (s.time.now < q.2)) } } nonce.toNat

theorem exec_spiWrite_takes {m : HostMsg} (hopen : s.portOpen 7 = true) (hkind : m.kind = 0x10) (hop : m.opcode.toNat ≠ Op.hostAttach)
    (hmay : s.MayTake 7 m) :
    ∃ t, exec (.spiWrite m true) s = .next t ∧ s.Takes t m ∧ t.net.spi = [] := by
  have hmay' : (s.spiOut []).MayTake 7 m :=
    ⟨hmay.attached, hmay.port, hmay.short, hmay.length, hmay.free, hmay.credits, hmay.mac, hmay.fresh, hmay.allowed⟩
  have hopen' : (s.spiOut []).portOpen 7 = true := hopen
  refine hc.next (g := (s.spiOut []).taking m) ?_ rfl rfl rfl ⟨(s.spiOut []).takes_taking m, rfl⟩
  rw [if_neg (by rw [hopen']; decide), if_neg (by decide), if_neg (by rw [hkind]; decide), if_neg (by rw [hkind]; decide), if_neg hop]
  exact hmay'.accept

theorem exec_spiWrite_early (m : HostMsg) {n : Nat} (hopen : s.portOpen 7 = true) (hn : n < 8)
    (hport : bitOf (s.reg (Item.HOST.PORTS n)) 7 = true) (hfirst : ∀ k < n, bitOf (s.reg (Item.HOST.PORTS k)) 7 = false) :
    ∃ t, exec (.spiWrite m false) s = .next t ∧ t.reg (Item.HOST.LEN_ERR n) = s.reg (Item.HOST.LEN_ERR n) + 1
      ∧ t.cmd = s.cmd ∧ t.slot = s.slot := by
  have hfind : (List.range 8).find? (fun k => bitOf ((s.spiOut []).reg (Item.HOST.PORTS k)) 7) = some n := by
    rw [List.find?_range_eq_some]
    exact ⟨hport, List.mem_range.mpr hn, fun k hk => congrArg not (hfirst k hk)⟩
  have hopen' : (s.spiOut []).portOpen 7 = true := hopen
  refine hc.next (g := (s.spiOut []).bump (Item.HOST.LEN_ERR n)) ?_ rfl rfl rfl ⟨State.reg_setReg_same .., rfl, rfl⟩
  rw [if_neg (by rw [hopen']; decide), if_pos (by decide), hfind]

theorem exec_spiRead_whole {m : OutMsg} (hwaits : s.spiWaiting = some m) :
    ∃ t, exec (.spiRead true) s = .next t ∧ t.tx = s.tx.erase m ∧ t.net.spi.length = 32 + m.payload.length
      ∧ t.net.spi.drop 32 = m.payload := by
  refine hc.next (g := State.spiOut { s with tx := s.tx.erase m } (messageBytes m)) (by rw [hwaits]; rfl) rfl rfl rfl ⟨rfl, ?_, ?_⟩
  · exact List.length_append.trans (congrArg (· + m.payload.length) (length_outHeader m))
  · exact List.drop_left' (length_outHeader m)

theorem exec_spiRead_early {m : OutMsg} (hwaits : s.spiWaiting = some m) : ∃ t, exec (.spiRead false) s = .next t ∧ t.tx = s.tx :=
  hc.next (g := s) (by rw [hwaits]; rfl) rfl rfl rfl rfl

theorem exec_spiRead_nothing (hwaits : s.spiWaiting = none) (whole : Bool) :
    ∃ t, exec (.spiRead whole) s = .next t ∧ t.net.spi = List.replicate 32 0 ∧ t.tx = s.tx :=
  hc.next (g := s.spiOut (List.replicate 32 0)) (by rw [hwaits]) rfl rfl rfl ⟨rfl, rfl⟩

theorem exec_spiStatus_counts :
    ∃ t, exec .spiStatus s = .next t ∧ t.net.spi.length = 4 ∧ t.tx = s.tx
      ∧ t.net.spi.take 2
          = beBytes 2 (min 65535 (((s.tx.filter (fun m => decide (m.port = 7))).map (fun m => 32 + m.payload.length)).sum)) :=
  hc.next (g := s.useFree.spiOut _) rfl rfl rfl rfl ⟨List.length_append.trans (by rw [length_beBytes, length_beBytes]), rfl,
    List.take_left' (length_beBytes ..)⟩

theorem exec_spiOther_zeros (length : Nat) :
    ∃ t, exec (.spiOther length) s = .next t ∧ t.net.spi = List.replicate length 0 ∧ t.tx = s.tx :=
  hc.next (g := s.spiOut (List.replicate length 0)) rfl rfl rfl rfl ⟨rfl, rfl⟩

end

/-- Settles O53: discovery answers within its window and its quota, the SPI commands return what Table 19-6 and R525 say (assumption logs 73
and 74). -/
theorem servicePortsAnswer : Obligations.ServicePortsAnswer := fun _ hc =>
  ⟨fun bits len window nonce hopen hprefix hquiet => exec_sdQuery_schedules hc bits len window nonce hopen.1 hopen.2.1 hopen.2.2 hprefix hquiet,
    fun _ => exec_sdReply_sends hc,
    fun nonce hopen => exec_sdQuiet_quiets hc nonce hopen.1 hopen.2.1 hopen.2.2,
    fun _ => exec_spiWrite_takes hc,
    fun m _ => exec_spiWrite_early hc m,
    fun _ hwaits => ⟨exec_spiRead_whole hc hwaits, exec_spiRead_early hc hwaits⟩,
    exec_spiRead_nothing hc, exec_spiStatus_counts hc, exec_spiOther_zeros hc⟩

end Sys2Proof.Machine


namespace Sys2Proof.Machine

/-! ## Writes that open windows, recover controllers and choose firmware (R454, R483, R484, R486, R508, R510) -/

/-- A PARAM_WRITE of one item, of that value, that its checks pass. -/
def State.Asked (s : State) (slot : Nat) (m : HostMsg) (a : Nat) (w : Word) : Prop :=
  op m = Op.paramWrite ∧ m.payload.length = 8
    ∧ ∃ aw, bitsOf aw 23 0 = a ∧ writeItems m = [(aw, w)] ∧ s.itemFails slot [(aw, w)] aw w = none

/-- The groups of the journal, of the controllers and of the service items, whose blocks never run. -/
def windowGroups : List Nat := [0x1A, 0x1C, 0x1E]

/-- The value of such an item is in effect at once; a request holds none. -/
def State.itemTaken (s : State) (a : Nat) (w : Word) : State := if requestOnly a then s else s.setReg a w

section
variable {s : State} {a : Nat} {d : ItemDef} (hgroup : Item.group a ∈ windowGroups)
include hgroup

theorem windowGroups_ne {b : Nat} (hb : Item.group b ∉ windowGroups) : a ≠ b := fun h => hb (h ▸ hgroup)

theorem State.blockOf_window : s.blockOf a = .shell := by
  have hcases : Item.group a = 0x1A ∨ Item.group a = 0x1C ∨ Item.group a = 0x1E := by simpa [windowGroups] using hgroup
  unfold State.blockOf State.ownerSheaf
  rcases hcases with h | h | h <;> simp only [h]

theorem State.tookEffect_window : s.tookEffect a = s := by
  have hport : ¬ (Item.group a = 0x0E ∧ 0x030 ≤ Item.num a ∧ Item.num a < 0x040 ∧ Item.num a % 8 < 5) := by
    rintro ⟨h, -⟩
    rw [h] at hgroup
    exact absurd hgroup (by decide)
  have hband : a ≠ Item.LEG.BAND_FAILSAFE (Item.inst a) :=
    windowGroups_ne hgroup (by rw [(Item.addr_fields (by decide) (Item.inst_lt a) (by decide)).1]; decide)
  unfold State.tookEffect
  extract_lets i
  rw [if_neg hport, if_neg (windowGroups_ne hgroup (by decide)), if_neg hband]

theorem State.deliverItem_window (hc : s.Calm) (hfind : Catalogue.find a = some d) (hcls : d.cls = .L) {slot : Nat} {aw w : Word}
    (haw : bitsOf aw 23 0 = a) :
    s.deliverItem slot (aw, w) = ((s.itemTaken a w).delivered slot aw w).bump Item.DEV.PARAM_WR_CNT := by
  have hcap : s.capWrite aw w = (s, w) := by
    have hprofile : Item.group a ≠ 0x11 := fun h => by rw [h] at hgroup; exact absurd hgroup (by decide)
    have hreference : a ≠ Item.LOOP.SETPT_A 6 := windowGroups_ne hgroup (by decide)
    unfold State.capWrite
    simp only [haw, hprofile, hreference, decide_false, Bool.false_and, Bool.or_self, Bool.false_eq_true, if_false]
    split <;> rfl
  have hdeliver : s.deliver aw w = s.setReg a w := by
    have hshell : s.blockRunning (s.blockOf a) = false := by rw [State.blockOf_window hgroup]; rfl
    rw [hc.deliver_eq (by rw [haw]; exact hfind) (.inl hcls), haw, hshell, if_neg (by rw [hcls]; decide), if_neg (by decide),
      State.tookEffect_window hgroup]
  unfold State.deliverItem State.itemTaken
  simp only [hcap, haw, hdeliver]

/-- No sheaf takes a compare word from such a write. -/
theorem State.hostBatches_window {aw w : Word} (haw : bitsOf aw 23 0 = a) : s.hostBatches [(aw, w)] = s := by
  have hcompare : Item.group a ≠ 0x0B := fun h => by rw [h] at hgroup; exact absurd hgroup (by decide)
  have hsame : ∀ (l : List Nat) (t : State), t.forEach l (fun u _ => u) = t := fun l t => by
    induction l with
    | nil => rfl
    | cons _ l ih => exact ih
  unfold State.hostBatches
  simp only [List.filterMap_cons, List.filterMap_nil, haw, hcompare, false_and, if_false, true_or, if_true]
  exact hsame _ _

/-- The work of such a write: its value, what its delivery sets off, its count, its answer. -/
theorem State.Asked.doWrite {slot : Nat} {m : HostMsg} {w : Word} (hask : s.Asked slot m a w) (hc : s.Calm)
    (hfind : Catalogue.find a = some d) (hcls : d.cls = .L) (index : Nat) :
    ∃ aw, bitsOf aw 23 0 = a ∧ s.doWrite slot index m
      = (((s.itemTaken a w).delivered slot aw w).bump Item.DEV.PARAM_WR_CNT).complete slot index Code.ok Reason.none [] := by
  obtain ⟨hop, hlength, aw, haw, hitems, hpass⟩ := hask
  have hchecks : s.firstFailure slot (writeItems m) (writeItems m) 0 = none := by
    rw [hitems]
    simp only [State.firstFailure, hpass]
  have hurgent : ¬ (Item.group a = 0x0D ∧ Item.num a = 0x00E) := fun h => by
    rw [h.1] at hgroup
    exact absurd hgroup (by decide)
  have hwaits : s.awaited [(aw, w)] = [] := by simp [State.awaited, haw, hfind, hcls]
  refine ⟨aw, haw, ?_⟩
  rw [State.doWrite_passes (by omega) (by omega) (by omega) (.inl (by rw [hitems]; exact Nat.le_refl 1)) slot index hchecks, hitems]
  unfold State.applyWrite
  simp only [haw, if_neg (windowGroups_ne hgroup (b := Item.DEV.MODE_REQ) (by decide)),
    if_neg (windowGroups_ne hgroup (b := Item.DEV.HV_REQ) (by decide)), if_neg hurgent]
  unfold State.finishWrite
  simp only [hwaits, if_true, State.forEach_cons, State.forEach_nil, State.deliverItem_window hgroup hc hfind hcls haw,
    State.hostBatches_window hgroup haw]
  rfl

/-- What such a write leaves that its delivery has made `g`. -/
structure State.WindowOf (s g t : State) : Prop where
  reg : ∀ b, b ≠ Item.DEV.PARAM_WR_CNT → t.reg b = g.reg b
  journal : t.store.journal = g.store.journal
  log : t.store.log = g.store.log
  fwState : t.store.fwState = g.store.fwState
  fwFloor : t.store.fwFloor = max s.store.fwFloor g.store.fwFloor

/-- The row of such a write. -/
theorem State.Asked.row {slot : Fin 8} {index : Fin 64} {r : CmdRec} {w : Word} (hask : s.Asked slot r.msg a w) (hc : s.Calm)
    (hd : s.Due slot index r) (hfind : Catalogue.find a = some d) (hcls : d.cls = .L) {is : HostMsg → Bool} (his : is r.msg = true)
    {g : State} (hg : ∀ aw, bitsOf aw 23 0 = a → (s.itemTaken a w).delivered slot aw w = g) (hw : s.Working g) :
    ∃ t, (.next (s.act (fun t => t.writeRow slot index is)) : Host.Outcome State Fault Refusal) = .next t
      ∧ t.Answers slot index r Code.ok Reason.none [] ∧ s.WindowOf g t := by
  obtain ⟨aw, haw, hwork⟩ := hask.doWrite hgroup hc hfind hcls index
  rw [hg aw haw] at hwork
  have hcounted : s.Working (g.bump Item.DEV.PARAM_WR_CNT) := ⟨hw.recs, hw.status, hw.time, hw.waits, hw.swaps, hw.state⟩
  have hends := (g.bump Item.DEV.PARAM_WR_CNT).completes_complete slot index Code.ok Reason.none []
  have hstore := hends.store
  obtain ⟨-, -, -, -, -, hreg⟩ := hends.leaves
  refine hc.answers_row hd (is := fun m => decide (op m = Op.paramWrite) && is m) (f := fun u m => u.doWrite slot index m)
    (by simp [hask.1, his]) hwork hcounted ⟨fun b hb => ?_, ?_, ?_, ?_, ?_⟩
  · exact (congrFun hreg b).trans (g.reg_setReg_other _ _ b hb)
  · exact (congrArg Store.journal hstore :)
  · exact (congrArg Store.log hstore :)
  · exact (congrArg Store.fwState hstore :)
  · exact congrArg (fun x : Store => max s.store.fwFloor x.fwFloor) hstore

end

theorem State.Asked.asksIn {s : State} {slot a : Nat} {m : HostMsg} {w : Word} (h : s.Asked slot m a w) {g lo hi : Nat}
    (hgroup : Item.group a = g) (hlo : lo ≤ Item.num a) (hhi : Item.num a ≤ hi) : asksIn g lo hi m = true := by
  obtain ⟨-, -, aw, haw, hitems, -⟩ := h
  simp [Machine.asksIn, hitems, haw, hgroup, hlo, hhi]

section
variable {s : State} (hc : s.Calm) {slot : Fin 8} {index : Fin 64} {r : CmdRec} (hd : s.Due slot index r)
include hc hd

/-! ### Controllers (R483, R484, R486) -/

omit hc hd in
theorem canItem_fields (n : Fin 4) {i : Nat} (hi : i < 0x400) :
    Item.group (Item.addr 0x1C n i) = 0x1C ∧ Item.inst (Item.addr 0x1C n i) = n ∧ Item.num (Item.addr 0x1C n i) = i :=
  Item.addr_fields (by decide) (by omega) hi

theorem exec_boRecover_begins (n : Fin 4) (hask : s.Asked slot r.msg (Item.CAN.BO_RECOVER n) 1) :
    ∃ t, exec (.boRecover slot index) s = .next t ∧ t.reg (Item.CAN.STATE n) = 5 ∧ t.Answers slot index r Code.ok Reason.none [] := by
  obtain ⟨hgroup, hinst, hnum⟩ := canItem_fields n (i := 0x014) (by decide)
  have hfind : ∀ n : Fin 4, Catalogue.find (Item.CAN.BO_RECOVER n) = some ⟨0x014, 0x014, .L, .wo, .u 1 1 1, .c 0⟩ := by decide
  have hrequest : ∀ n : Fin 4, requestOnly (Item.CAN.BO_RECOVER n) = true := by decide
  obtain ⟨t, ht, hanswers, hwindow⟩ := hask.row (by rw [hgroup]; decide) hc hd (hfind n) rfl
    (is := asksIn 0x1C 0x014 0x014) (hask.asksIn hgroup (by rw [hnum]) (by rw [hnum])) (g := s.canRecover n)
    (fun aw haw => by simp only [State.itemTaken, hrequest, if_true, State.delivered, haw, hgroup, hinst, hnum])
    ⟨rfl, fun _ => rfl, rfl, rfl, rfl, rfl⟩
  exact ⟨t, ht, (hwindow.reg _ (Item.addr_ne_of_item (by decide))).trans (State.reg_setReg_same ..), hanswers⟩

theorem exec_idclashClear_clears (n : Fin 4) (hask : s.Asked slot r.msg (Item.CAN.IDCLASH n) 0) :
    ∃ t, exec (.idclashClear slot index) s = .next t ∧ t.reg (Item.CAN.IDCLASH n) = 0 ∧ t.Answers slot index r Code.ok Reason.none [] := by
  obtain ⟨hgroup, hinst, hnum⟩ := canItem_fields n (i := 0x019) (by decide)
  have hfind : ∀ n : Fin 4, Catalogue.find (Item.CAN.IDCLASH n) = some ⟨0x019, 0x019, .L, .rw, .u 0 0 1, .c 0⟩ := by decide
  have hrequest : ∀ n : Fin 4, requestOnly (Item.CAN.IDCLASH n) = false := by decide
  obtain ⟨t, ht, hanswers, hwindow⟩ := hask.row (by rw [hgroup]; decide) hc hd (hfind n) rfl
    (is := asksIn 0x1C 0x019 0x019) (hask.asksIn hgroup (by rw [hnum]) (by rw [hnum])) (g := s.setReg (Item.CAN.IDCLASH n) 0)
    (fun aw haw => by simp [State.itemTaken, hrequest, State.delivered, haw, hgroup, hnum]) ⟨rfl, fun _ => rfl, rfl, rfl, rfl, rfl⟩
  exact ⟨t, ht, (hwindow.reg _ (Item.addr_ne_of_item (by decide))).trans (State.reg_setReg_same ..), hanswers⟩

omit hc hd in
theorem Item.addr_injective (g n : Nat) : Function.Injective (Item.addr g n) := fun i j h => by
  unfold Item.addr at h
  omega

/-- The status word of an object (R483). -/
def CanObj.status (o : CanObj) : Word :=
  let b (x : Bool) (k : Nat) : Nat := if x then 2 ^ k else 0
  nw (b o.valid 31 + b o.pending 30 + b o.esi 29 + b o.poisoned 27 + o.clash % 4 * 65536 + o.data.length % 128)

/-- What the window items of a controller show of an object, and of a half of its data (R483). -/
def objectItems (n : Nat) (o : CanObj) : List (Nat × Word) :=
  [(Item.CAN.OBJ_CFG n, o.cfg), (Item.CAN.OBJ_ID n, o.ident), (Item.CAN.OBJ_MASK n, o.mask), (Item.CAN.OBJ_STAT n, o.status),
    (Item.CAN.OBJ_T n, o.stamp), (Item.CAN.OBJ_PERIOD n, nw o.period)]
def objectData (n half : Nat) (data : List Byte) : List (Nat × Word) :=
  (List.range 8).map (fun k => (Item.CAN.OBJ_D n k, nw (beAt (padTo 64 data) (half + 4 * k) 4)))

omit hc hd in
theorem State.showObject_eq (s : State) (n : Nat) (w : Word) :
    s.showObject n w = (s.setRegs (objectItems n ((s.can n).object (bitsOf w 6 0)))).setRegs
      (objectData n (if bitOf w 7 then 32 else 0) ((s.can n).object (bitsOf w 6 0)).data) := rfl

omit hc hd in
theorem objectItems_nodup (n : Nat) (o : CanObj) : ((objectItems n o).map Prod.fst).Nodup :=
  List.Nodup.map (Item.addr_injective 0x1C n) (l := [0x021, 0x022, 0x023, 0x024, 0x025, 0x026]) (by decide)

omit hc hd in
theorem objectData_nodup (n half : Nat) (data : List Byte) : ((objectData n half data).map Prod.fst).Nodup :=
  List.Nodup.map (Item.addr_injective 0x1C n) (l := (List.range 8).map (0x028 + ·)) (by decide)

omit hc hd in
/-- The items before a half of the data read as before it. -/
theorem State.reg_setRegs_objectData (s : State) (n half : Nat) (data : List Byte) {i : Nat} (hi : i < 0x028) :
    (s.setRegs (objectData n half data)).reg (Item.addr 0x1C n i) = s.reg (Item.addr 0x1C n i) := by
  refine State.reg_setRegs_other _ _ fun p hp => ?_
  obtain ⟨k, -, rfl⟩ := List.mem_map.mp hp
  exact Item.addr_ne (by omega)

omit hc hd in
/-- A selection stays beside what it shows. -/
theorem State.showObject_select (s : State) (n : Nat) (w : Word) : (s.showObject n w).reg (Item.CAN.OBJ_SEL n) = s.reg (Item.CAN.OBJ_SEL n) := by
  rw [State.showObject_eq, State.reg_setRegs_objectData _ _ _ _ (by decide)]
  refine State.reg_setRegs_other _ _ fun p hp => ?_
  simp only [objectItems, List.mem_cons, List.not_mem_nil, or_false] at hp
  rcases hp with rfl | rfl | rfl | rfl | rfl | rfl <;> exact Item.addr_ne (by decide)

omit hc hd in
/-- R483: what the window items show of the selected object. -/
theorem State.showObject_shows (s : State) (n : Nat) (w : Word) :
    let o := (s.can n).object (bitsOf w 6 0)
    (s.showObject n w).reg (Item.CAN.OBJ_CFG n) = o.cfg ∧ (s.showObject n w).reg (Item.CAN.OBJ_ID n) = o.ident
      ∧ (s.showObject n w).reg (Item.CAN.OBJ_MASK n) = o.mask ∧ (s.showObject n w).reg (Item.CAN.OBJ_T n) = o.stamp
      ∧ (s.showObject n w).reg (Item.CAN.OBJ_PERIOD n) = nw o.period
      ∧ ∀ k < 8, (s.showObject n w).reg (Item.CAN.OBJ_D n k) = nw (beAt (padTo 64 o.data) ((if bitOf w 7 then 32 else 0) + 4 * k) 4) := by
  intro o
  rw [State.showObject_eq]
  have hshown : ∀ half i v, i < 0x028 → (Item.addr 0x1C n i, v) ∈ objectItems n o →
      ((s.setRegs (objectItems n o)).setRegs (objectData n half o.data)).reg (Item.addr 0x1C n i) = v := fun half i v hi hmem =>
    (State.reg_setRegs_objectData _ n half o.data hi).trans
      (s.reg_setRegs_of_nodup (objectItems_nodup n o) (p := (Item.addr 0x1C n i, v)) hmem)
  refine ⟨hshown _ _ _ (by decide) (by simp [objectItems]), hshown _ _ _ (by decide) (by simp [objectItems]),
    hshown _ _ _ (by decide) (by simp [objectItems]), hshown _ _ _ (by decide) (by simp [objectItems]),
    hshown _ _ _ (by decide) (by simp [objectItems]), fun k hk => ?_⟩
  exact State.reg_setRegs_of_nodup _ (objectData_nodup n _ o.data)
    (p := (Item.CAN.OBJ_D n k, nw (beAt (padTo 64 o.data) ((if bitOf w 7 then 32 else 0) + 4 * k) 4)))
    (List.mem_map.mpr ⟨k, List.mem_range.mpr hk, rfl⟩)

theorem exec_objSel_shows (n : Fin 4) (w : Word) (hask : s.Asked slot r.msg (Item.CAN.OBJ_SEL n) w) :
    ∃ t, exec (.objSel slot index) s = .next t ∧ t.Answers slot index r Code.ok Reason.none [] ∧
      let o := (s.can n).object (bitsOf w 6 0)
      t.reg (Item.CAN.OBJ_SEL n) = w ∧ t.reg (Item.CAN.OBJ_CFG n) = o.cfg ∧ t.reg (Item.CAN.OBJ_ID n) = o.ident
        ∧ t.reg (Item.CAN.OBJ_MASK n) = o.mask ∧ t.reg (Item.CAN.OBJ_T n) = o.stamp ∧ t.reg (Item.CAN.OBJ_PERIOD n) = nw o.period
        ∧ ∀ k < 8, t.reg (Item.CAN.OBJ_D n k) = nw (beAt (padTo 64 o.data) ((if bitOf w 7 then 32 else 0) + 4 * k) 4) := by
  obtain ⟨hgroup, hinst, hnum⟩ := canItem_fields n (i := 0x020) (by decide)
  have hfind : ∀ n : Fin 4, Catalogue.find (Item.CAN.OBJ_SEL n) = some ⟨0x020, 0x020, .L, .rw, .u 0 255 1, .c 0⟩ := by decide
  have hrequest : ∀ n : Fin 4, requestOnly (Item.CAN.OBJ_SEL n) = false := by decide
  let g := (s.setReg (Item.CAN.OBJ_SEL n) w).showObject n w
  have hreports := State.reports_showObject (s.setReg (Item.CAN.OBJ_SEL n) w) (n := n) (by omega) w
  obtain ⟨t, ht, hanswers, hwindow⟩ := hask.row (by rw [hgroup]; decide) hc hd (hfind n) rfl
    (is := asksIn 0x1C 0x020 0x020) (hask.asksIn hgroup (by rw [hnum]) (by rw [hnum])) (g := g)
    (fun aw haw => by simp [State.itemTaken, hrequest, State.delivered, haw, hgroup, hinst, hnum, g])
    ⟨hreports.recs, hreports.status, hreports.time, hreports.waits, hreports.swaps, hreports.state⟩
  have hreg : ∀ i, 0x020 ≤ i → i < 0x030 → t.reg (Item.addr 0x1C n i) = g.reg (Item.addr 0x1C n i) :=
    fun i hlo hhi => hwindow.reg _ (Item.addr_ne_of_item (by omega))
  obtain ⟨hcfg, hident, hmask, hstamp, hperiod, hdata⟩ := (s.setReg (Item.CAN.OBJ_SEL n) w).showObject_shows n w
  refine ⟨t, ht, hanswers, ?_, (hreg _ (by decide) (by decide)).trans hcfg, (hreg _ (by decide) (by decide)).trans hident,
    (hreg _ (by decide) (by decide)).trans hmask, (hreg _ (by decide) (by decide)).trans hstamp,
    (hreg _ (by decide) (by decide)).trans hperiod, fun k hk => (hreg _ (by omega) (by omega)).trans (hdata k hk)⟩
  exact (hreg _ (by decide) (by decide)).trans ((State.showObject_select _ n w).trans (State.reg_setReg_same ..))

/-! ### Journal and service log (R454, R510) -/

omit hc hd in
/-- A window item of the journal reads as a word of the record selected. -/
theorem State.item_journalWord (s : State) (k : Nat) (hk : k ≤ 4) : s.item (Item.FLT.JRN_W k) = s.journalWord k := by
  interval_cases k <;> rfl

omit hc hd in
theorem State.item_logWord (s : State) (k : Nat) (hk : k ≤ 3) : s.item (Item.SVC.LOG_W k) = s.logWord k := by
  interval_cases k <;> rfl

omit hc hd in
theorem State.journalWords (s : State) {j : JournalRec} (h : s.store.journal[s.regN Item.FLT.JRN_SEL]? = some j) :
    s.item (Item.FLT.JRN_W 0) = j.unit ∧ s.item (Item.FLT.JRN_W 1) = nw (j.record.time / 2 ^ 32)
      ∧ s.item (Item.FLT.JRN_W 2) = nw j.record.time ∧ s.item (Item.FLT.JRN_W 3) = j.record.source
      ∧ s.item (Item.FLT.JRN_W 4) = j.record.context := by
  rw [s.item_journalWord 0 (by decide), s.item_journalWord 1 (by decide), s.item_journalWord 2 (by decide), s.item_journalWord 3 (by decide),
    s.item_journalWord 4 (by decide)]
  simp [State.journalWord, h]

omit hc hd in
theorem State.logWords (s : State) {e : Nat × Word × Word} (h : s.store.log[s.regN Item.SVC.LOG_SEL]? = some e) :
    s.item (Item.SVC.LOG_W 0) = nw (e.1 / 2 ^ 32) ∧ s.item (Item.SVC.LOG_W 1) = nw e.1 ∧ s.item (Item.SVC.LOG_W 2) = e.2.1
      ∧ s.item (Item.SVC.LOG_W 3) = e.2.2 := by
  rw [s.item_logWord 0 (by decide), s.item_logWord 1 (by decide), s.item_logWord 2 (by decide), s.item_logWord 3 (by decide)]
  simp [State.logWord, h]

theorem exec_jrnSel_shows (w : Word) (hask : s.Asked slot r.msg Item.FLT.JRN_SEL w) :
    ∃ t, exec (.jrnSel slot index) s = .next t ∧ t.Answers slot index r Code.ok Reason.none [] ∧ ∀ j, s.store.journal[w.toNat]? = some j →
      t.item (Item.FLT.JRN_W 0) = j.unit ∧ t.item (Item.FLT.JRN_W 1) = nw (j.record.time / 2 ^ 32)
        ∧ t.item (Item.FLT.JRN_W 2) = nw j.record.time ∧ t.item (Item.FLT.JRN_W 3) = j.record.source
        ∧ t.item (Item.FLT.JRN_W 4) = j.record.context := by
  have hfind : Catalogue.find Item.FLT.JRN_SEL = some ⟨0x004, 0x004, .L, .rw, .u 0 1023 1, .c 0⟩ := by decide
  obtain ⟨t, ht, hanswers, hwindow⟩ := hask.row (by decide) hc hd hfind rfl (is := asksIn 0x1A 0x004 0x004)
    (hask.asksIn (by decide) (by decide) (by decide)) (g := s.setReg Item.FLT.JRN_SEL w)
    (fun aw haw => by unfold State.delivered; rw [haw]; rfl) ⟨rfl, fun _ => rfl, rfl, rfl, rfl, rfl⟩
  refine ⟨t, ht, hanswers, fun j hj => ?_⟩
  have hsel : t.regN Item.FLT.JRN_SEL = w.toNat :=
    congrArg BitVec.toNat ((hwindow.reg _ (Item.addr_ne_of_item (by decide))).trans (State.reg_setReg_same ..))
  have hselected : t.store.journal[t.regN Item.FLT.JRN_SEL]? = some j := by
    rw [hsel, hwindow.journal]
    exact hj
  exact t.journalWords hselected

theorem exec_logSel_shows (w : Word) (hask : s.Asked slot r.msg Item.SVC.LOG_SEL w) :
    ∃ t, exec (.logSel slot index) s = .next t ∧ t.Answers slot index r Code.ok Reason.none [] ∧ ∀ e, s.store.log[w.toNat]? = some e →
      t.item (Item.SVC.LOG_W 0) = nw (e.1 / 2 ^ 32) ∧ t.item (Item.SVC.LOG_W 1) = nw e.1 ∧ t.item (Item.SVC.LOG_W 2) = e.2.1
        ∧ t.item (Item.SVC.LOG_W 3) = e.2.2 := by
  have hfind : Catalogue.find Item.SVC.LOG_SEL = some ⟨0x021, 0x021, .L, .rw, .u 0 4095 1, .c 0⟩ := by decide
  obtain ⟨t, ht, hanswers, hwindow⟩ := hask.row (by decide) hc hd hfind rfl (is := asksIn 0x1E 0x021 0x021)
    (hask.asksIn (by decide) (by decide) (by decide)) (g := s.setReg Item.SVC.LOG_SEL w)
    (fun aw haw => by unfold State.delivered; rw [haw]; rfl) ⟨rfl, fun _ => rfl, rfl, rfl, rfl, rfl⟩
  refine ⟨t, ht, hanswers, fun e he => ?_⟩
  have hsel : t.regN Item.SVC.LOG_SEL = w.toNat :=
    congrArg BitVec.toNat ((hwindow.reg _ (Item.addr_ne_of_item (by decide))).trans (State.reg_setReg_same ..))
  have hselected : t.store.log[t.regN Item.SVC.LOG_SEL]? = some e := by
    rw [hsel, hwindow.log]
    exact he
  exact t.logWords hselected

/-! ### Firmware (R508) -/

/-- What a choice of firmware may change: the stores. -/
def State.Stores (s t : State) : Prop := t = { s with store := t.store }

omit hc hd in
theorem State.Stores.trans {s t u : State} (h : s.Stores t) (k : t.Stores u) : s.Stores u := by
  unfold State.Stores at *
  rw [k, h]

omit hc hd in
theorem State.Stores.working {s g : State} (h : s.Stores g) : s.Working g := by
  unfold State.Stores at h
  rw [h]
  exact ⟨rfl, fun _ => rfl, rfl, rfl, rfl, rfl⟩

omit hc hd in
theorem State.stores_setFwState (s : State) (k v : Nat) : s.Stores (s.setFwState k v) := rfl

omit hc hd in
theorem State.stores_serviceLog (s : State) (code slot low : Nat) (detail : Word) : s.Stores (s.serviceLog code slot low detail) := rfl

/-- The firmware floor is raised, and the service log says so. -/
def State.raiseFloor (s : State) (floor : Nat) : State :=
  { s with store := { s.store with fwFloor := floor } }.serviceLog 10 0xFF 1 (nw floor)

omit hc hd in
theorem State.stores_raiseFloor (s : State) (floor : Nat) : s.Stores (s.raiseFloor floor) := rfl

omit hc hd in
theorem State.confirmFirmware_store (s : State) (slot : Nat) :
    s.Stores (s.confirmFirmware slot) ∧
    (s.confirmFirmware slot).store.fwState
      = (if s.store.fwState.getD (1 - s.store.fwRun) 0 ∈ [1, 2, 3] then
            (s.store.fwState.set s.store.fwRun 2).set (1 - s.store.fwRun) 1
          else s.store.fwState.set s.store.fwRun 2) ∧
    (s.confirmFirmware slot).store.fwFloor = max s.store.fwFloor (s.fwField s.store.fwRun 0xC 4) := by
  unfold State.confirmFirmware
  extract_lets k other s1 s2 floor s3
  have hchosen : s.Stores s2 ∧ s2.store.fwFloor = s.store.fwFloor ∧
      s2.store.fwState = if s.store.fwState.getD (1 - s.store.fwRun) 0 ∈ [1, 2, 3] then
        (s.store.fwState.set s.store.fwRun 2).set (1 - s.store.fwRun) 1 else s.store.fwState.set s.store.fwRun 2 := by
    unfold s2
    split <;> exact ⟨rfl, rfl, rfl⟩
  obtain ⟨hs2, hs2Floor, hs2State⟩ := hchosen
  have hlogged : s.Stores s3 := hs2.trans (State.stores_serviceLog ..)
  have hs3Floor : s3.store.fwFloor = s.store.fwFloor := hs2Floor
  have hs3State := (show s3.store.fwState = s2.store.fwState from rfl).trans hs2State
  clear_value s3
  rw [hs3Floor]
  split
  · next hlt => exact ⟨hlogged.trans (s3.stores_raiseFloor floor), hs3State, (max_eq_right hlt.le).symm⟩
  · next hge => exact ⟨hlogged, hs3State, hs3Floor.trans (max_eq_left (Nat.not_lt.mp hge)).symm⟩

theorem exec_fwConfirm_confirms (hask : s.Asked slot r.msg Item.SVC.FW_CONFIRM 1) :
    ∃ t, exec (.fwConfirm slot index) s = .next t ∧ t.Answers slot index r Code.ok Reason.none [] ∧
      let k := s.store.fwRun
      t.store.fwState = (if s.store.fwState.getD (1 - k) 0 ∈ [1, 2, 3] then (s.store.fwState.set k 2).set (1 - k) 1
          else s.store.fwState.set k 2)
        ∧ t.store.fwFloor = max s.store.fwFloor (s.fwField k 0xC 4) := by
  have hfind : Catalogue.find Item.SVC.FW_CONFIRM = some ⟨0x016, 0x016, .L, .wo, .u 1 1 1, .c 0⟩ := by decide
  obtain ⟨hstore, hstate, hfloor⟩ := s.confirmFirmware_store slot
  obtain ⟨t, ht, hanswers, hwindow⟩ := hask.row (by decide) hc hd hfind rfl (is := asksIn 0x1E 0x016 0x016)
    (hask.asksIn (by decide) (by decide) (by decide)) (g := s.confirmFirmware slot)
    (fun aw haw => by unfold State.delivered; rw [haw]; rfl) hstore.working
  refine ⟨t, ht, hanswers, hwindow.fwState.trans hstate, hwindow.fwFloor.trans ?_⟩
  rw [hfloor, ← max_assoc, max_self]

theorem exec_fwSelect_selects {k : Nat} (hspare : s.spareSlot = some k) (hask : s.Asked slot r.msg Item.SVC.FW_SELECT 1) :
    ∃ t, exec (.fwSelect slot index) s = .next t ∧ t.Answers slot index r Code.ok Reason.none []
      ∧ t.store.fwState = s.store.fwState.set k 3 ∧ t.store.fwFloor = s.store.fwFloor := by
  have hfind : Catalogue.find Item.SVC.FW_SELECT = some ⟨0x017, 0x017, .L, .wo, .u 1 1 1, .c 0⟩ := by decide
  have hselect : s.selectFirmware slot = (s.setFwState k 3).serviceLog 8 slot 1 (nw (s.store.fwVersion.getD k 0)) := by
    unfold State.selectFirmware
    rw [hspare]
  obtain ⟨t, ht, hanswers, hwindow⟩ := hask.row (by decide) hc hd hfind rfl (is := asksIn 0x1E 0x017 0x017)
    (hask.asksIn (by decide) (by decide) (by decide)) (g := (s.setFwState k 3).serviceLog 8 slot 1 (nw (s.store.fwVersion.getD k 0)))
    (fun aw haw => by rw [← hselect]; unfold State.delivered; rw [haw]; rfl) ⟨rfl, fun _ => rfl, rfl, rfl, rfl, rfl⟩
  exact ⟨t, ht, hanswers, hwindow.fwState, hwindow.fwFloor.trans (max_self _)⟩

end

/-- Settles O48: each of these writes takes effect at once, for no block of their groups runs, and sets off its own work (assumption
log 89). -/
theorem writesOpenWindowsAndChooseFirmware : Obligations.WritesOpenWindowsAndChooseFirmware := by
  intro s slot index r hc hd asked ok
  refine ⟨fun n => exec_boRecover_begins hc hd n, fun n => exec_idclashClear_clears hc hd n, fun n w => exec_objSel_shows hc hd n w,
    exec_jrnSel_shows hc hd, exec_logSel_shows hc hd, exec_fwConfirm_confirms hc hd, fun k hspare => exec_fwSelect_selects hc hd hspare⟩

end Sys2Proof.Machine


namespace Sys2Proof.Machine

/-! ## RESTORE of a measuring unit (R440, R443, R447, R531) -/

/-- What RESTORE of a measuring unit may change: the unit's own status, items, its poisoned words, journal and service log, messages. No
other unit's status moves, and no slot is attached or freed. -/
structure State.Mends (s t : State) (u : Nat) : Prop where
  eq : t = { s with
    units := t.units, regs := t.regs, badWords := t.badWords, store := t.store, slots := t.slots, tx := t.tx, cans := t.cans
    dev := { s.dev with free := t.dev.free } }
  others : ∀ v, v ≠ u → t.unit v = s.unit v
  status : ∀ n, (t.slot n).status = (s.slot n).status

theorem State.Mends.refl (s : State) (u : Nat) : s.Mends s u := ⟨rfl, fun _ _ => rfl, fun _ => rfl⟩

theorem State.Mends.trans {s t v : State} {u : Nat} (h : s.Mends t u) (k : t.Mends v u) : s.Mends v u where
  eq := by rw [k.eq, h.eq]
  others w hw := (k.others w hw).trans (h.others w hw)
  status n := (k.status n).trans (h.status n)

theorem State.Mends.working {s t : State} {u : Nat} (h : s.Mends t u) : s.Working t :=
  ⟨by rw [h.eq], h.status, by rw [h.eq], by rw [h.eq], by rw [h.eq], by rw [h.eq]⟩

theorem State.mends_setUnit (s : State) (u : Nat) (r : UnitRec) : s.Mends (s.setUnit u r) u :=
  ⟨rfl, fun v hv => s.unit_setUnit_other u r v hv, fun _ => rfl⟩

theorem State.mends_setRegs (s : State) (l : List (Nat × Word)) (u : Nat) : s.Mends (s.setRegs l) u := by
  induction l generalizing s with
  | nil => exact .refl s u
  | cons p l ih => exact State.Mends.trans (t := s.setReg p.1 p.2) ⟨rfl, fun _ _ => rfl, fun _ => rfl⟩ (ih _)

theorem State.mends_event (s : State) (code : Nat) (payload : List Byte) (u : Nat) : s.Mends (s.event code payload) u := by
  have htalks := s.talks_event code payload
  have hstatus := (s.tests_event code payload u).status
  generalize s.event code payload = t at htalks hstatus ⊢
  unfold State.Talks at htalks
  exact ⟨by rw [htalks], fun v _ => by rw [htalks]; rfl, hstatus⟩

theorem State.mends_serviceLog (s : State) (code slot low : Nat) (detail : Word) (u : Nat) : s.Mends (s.serviceLog code slot low detail) u :=
  ⟨rfl, fun _ _ => rfl, fun _ => rfl⟩

theorem State.mends_useFree (s : State) (u : Nat) : s.Mends s.useFree u := ⟨rfl, fun _ _ => rfl, fun _ => rfl⟩

theorem State.mends_rewriteWords (s : State) (u : Nat) : s.Mends (s.rewriteWords u) u := ⟨rfl, fun _ _ => rfl, fun _ => rfl⟩

/-- A unit that RESTORE brings back is idle and no longer held; the journal stays (R447, R531). -/
theorem State.broughtBack_spec (s : State) {u : Nat} (hu : unitKind u ≠ Kind.leg) :
    s.Mends (s.broughtBack u) u ∧ ((s.broughtBack u).unit u).state = .idle ∧ ((s.broughtBack u).unit u).commanded = false
      ∧ (s.broughtBack u).store.journal = s.store.journal := by
  have hunforced : ∀ r : UnitRec, r.unforced u = { r with force := 0, forceArmed := 0 } := fun r => if_neg hu
  unfold State.broughtBack
  split
  · extract_lets s1
    have hrecovers : s.Mends s1 u := (((s.mends_rewriteWords u).trans (State.mends_setUnit ..)).trans (State.mends_event ..))
    have hjournal : s1.store.journal = s.store.journal := by
      unfold s1 State.recovered
      extract_lets r t
      have htalks := t.talks_event 3 (beBytes 4 u ++ [0, BitVec.ofNat 8 r.src, 0, 0])
      unfold State.Talks at htalks
      rw [htalks]
      rfl
    have hidle : (s1.unit u).state = .idle := (s.recovered_spec u).1
    clear_value s1
    refine ⟨hrecovers.trans (State.mends_setUnit ..), ?_, ?_, hjournal⟩ <;> rw [State.unit_setUnit_same]
    exact hidle
  · unfold State.restored
    refine ⟨(s.mends_rewriteWords u).trans (State.mends_setUnit ..), ?_, ?_, rfl⟩ <;> rw [State.unit_setUnit_same, hunforced]

/-- A record of class L that makes a unit lasting. -/
theorem State.mends_makeLasting (s : State) {u : Nat} (hu : unitKind u ≠ Kind.leg) (src : Nat) : s.Mends (s.makeLasting u src) u := by
  have hlog : ∀ r, s.legLog u r = s := fun r => if_neg hu
  have hrecord : s.Mends (s.record u .L src false) u := by
    unfold State.record State.faultEvent
    simp only [hlog]
    exact State.Mends.trans (t := s.journalPut _) ⟨rfl, fun _ _ => rfl, fun _ => rfl⟩ (State.mends_event ..)
  exact hrecord.trans (State.mends_setUnit ..)

section
variable {u : Nat} (hkind : unitKind u = Kind.fastInput ∨ unitKind u = Kind.slowInput ∨ unitKind u = Kind.fast)
include hkind

theorem measuringUnit_ne {k : Nat} (hk : k ∉ [Kind.fastInput, Kind.slowInput, Kind.fast]) : unitKind u ≠ k := by
  rintro rfl
  simp only [List.mem_cons, List.not_mem_nil, or_false] at hk
  exact hk hkind

theorem State.serviceUnit_measuring (s : State) : s.serviceUnit u = u :=
  if_neg (measuringUnit_ne hkind (by decide))

theorem State.restoreUnits_measuring (s : State) : s.restoreUnits u = [u] := if_neg (measuringUnit_ne hkind (by decide))

theorem State.unitOut_measuring (s : State) : s.unitOut u = (s.unit u).out := by
  unfold State.unitOut
  rcases hkind with h | h | h <;> simp [h]

theorem State.unitState_measuring {s t : State} (h : t.unit u = s.unit u) : t.unitResult u = s.unitResult u := by
  unfold State.unitResult State.unitState
  rcases hkind with e | e | e <;> simp only [e, h]

theorem State.restoreWaits_measuring (s : State) : s.restoreWaits u = decide ((s.unit u).state = .handling) := by
  have hset : unitKind u ≠ Kind.set := measuringUnit_ne hkind (by decide)
  unfold State.restoreWaits State.proofOn State.unitLegs
  rcases hkind with h | h | h <;> simp [h]

theorem State.restoreAction_measuring (s : State) (slot index : Nat) (integrated : Bool) (presence : Presence) :
    s.restoreAction slot index u u integrated presence = (s.broughtBack u).endRestore slot index u := by
  unfold State.restoreAction State.back
  rcases hkind with h | h | h <;> simp only [h]

/-- The targeted self-test of a measuring unit leaves corrections at most. -/
theorem State.mends_noteTest (s : State) (f : SelftestFinding) :
    s.Mends (s.noteTest u f) u ∧ (s.noteTest u f).unit = s.unit ∧ (s.noteTest u f).store = s.store := by
  unfold State.noteTest
  rcases hkind with h | h | h <;> simp only [h]
  · exact ⟨.refl s u, trivial, trivial⟩
  · exact ⟨.refl s u, trivial, trivial⟩
  · split
    · exact ⟨s.mends_setRegs _ u, rfl, rfl⟩
    · exact ⟨.refl s u, rfl, rfl⟩

/-- The work of a RESTORE of a measuring unit that its handling does not hold up. -/
theorem State.doRestore_measuring (s : State) {m : HostMsg} (hpayload : m.payload = []) (hu : target m = u)
    (hfree : (s.unit u).state ≠ .handling) (slot index : Nat) (f : SelftestFinding) (integrated : Bool) :
    s.doRestore slot index f integrated m =
      if (s.unit u).out = false then s.endRestore slot index u
      else if (s.unit u).state = .resting then (s.broughtBack u).endRestore slot index u
      else if s.targetedOk u f = true then ((s.noteTest u f).broughtBack u).endRestore slot index u
      else (((s.noteTest u f).makeLasting u ((s.noteTest u f).restoreSource u)).useFree).endRestore slot index u := by
  have hleg : unitKind u ≠ Kind.leg := measuringUnit_ne hkind (by decide)
  have hsheaf : unitKind u ≠ Kind.sheaf := measuringUnit_ne hkind (by decide)
  have hsupervisor : unitKind u ≠ Kind.supervisor := measuringUnit_ne hkind (by decide)
  have hbound : s.unboundLeg u = false := by simp [State.unboundLeg, hleg]
  have hrests : s.restoreRests u = decide ((s.unit u).state = .resting) := by
    unfold State.restoreRests
    simp [s.restoreUnits_measuring hkind]
  unfold State.doRestore
  simp only [hpayload, hu, s.serviceUnit_measuring hkind, hbound, hsupervisor, s.restoreWaits_measuring hkind,
    s.unitOut_measuring hkind, hsheaf, hrests, s.restoreUnits_measuring hkind, State.restoreAction_measuring hkind]
  unfold State.restoreFails
  simp [hfree, State.restoreUnits_measuring hkind]

section
variable {s : State} (hc : s.Calm) {slot : Fin 8} {index : Fin 64} {r : CmdRec} (hd : s.Due slot index r) (hu : target r.msg = u)
  {finding : SelftestFinding} {integrated : Bool}
include hc hd hu

omit hu in
/-- A RESTORE of a measuring unit whose work ends in `g`: its answer, and what it leaves. -/
theorem exec_restore_ends (hop : op r.msg = Op.restore) {g : State} (hg : s.Mends g u)
    (hwork : s.doRestore slot index finding integrated r.msg = g.endRestore slot index u) :
    ∃ t, exec (.restore slot index finding integrated) s = .next t ∧ t.sheaf = s.sheaf ∧ t.leg = s.leg ∧ t.out = s.out
      ∧ (∀ v, v ≠ u → t.unit v = s.unit v) ∧ t.Answers slot index r Code.ok Reason.none (t.unitResult u) ∧ t.unit u = g.unit u
      ∧ t.store.journal = g.store.journal := by
  let h := g.serviceLog 4 slot (g.unitState u) (nw u)
  have hmends : s.Mends h u := hg.trans (State.mends_serviceLog ..)
  have hends := h.completes_complete slot index Code.ok Reason.none (g.unitResult u)
  have hstore := hends.store
  obtain ⟨hunit, hsheaf, hleg, -, hout, -⟩ := hends.leaves
  have hrow := hc.answered_row hd (is := fun m => decide (op m = Op.restore)) (f := fun u m => u.doRestore slot index finding integrated m)
    (decide_eq_true hop) hwork hmends.working
  have hanswers := hd.answers hmends.working Code.ok Reason.none (g.unitResult u)
  refine ⟨_, congrArg Host.Outcome.next hrow, ?_, ?_, ?_, fun v hv => ?_, ?_, ?_, ?_⟩
  · exact hsheaf.trans (by rw [hmends.eq]; rfl)
  · exact hleg.trans (by rw [hmends.eq]; rfl)
  · exact hout.trans (by rw [hmends.eq]; rfl)
  · exact (congrFun hunit v).trans (hmends.others v hv)
  · have hresult : State.unitResult (s.keepLive (h.complete slot index Code.ok Reason.none (g.unitResult u))) u = g.unitResult u :=
      State.unitState_measuring hkind (congrFun hunit u)
    rw [hresult]
    exact hanswers
  · exact congrFun hunit u
  · exact (congrArg Store.journal hstore :)

/-- R531: handling is waited for. -/
theorem exec_restore_waits (hop : op r.msg = Op.restore) (hpayload : r.msg.payload = []) (hhandled : (s.unit u).state = .handling) :
    ∃ t, exec (.restore slot index finding integrated) s = .next t ∧ t.sheaf = s.sheaf ∧ t.leg = s.leg ∧ t.out = s.out
      ∧ (∀ v, v ≠ u → t.unit v = s.unit v) ∧ t.cmd slot index = some r ∧ t.unit u = s.unit u := by
  have hleg : unitKind u ≠ Kind.leg := measuringUnit_ne hkind (by decide)
  have hwork : s.doRestore slot index finding integrated r.msg = s := by
    unfold State.doRestore
    simp [hpayload, hu, s.serviceUnit_measuring hkind, State.unboundLeg, hleg,
      measuringUnit_ne hkind (k := Kind.supervisor) (by decide), s.restoreWaits_measuring hkind, hhandled]
  refine hc.next ((hd.hostRow hc.locked (is := fun m => decide (op m = Op.restore)) (decide_eq_true hop)
    (fun u m => u.doRestore slot index finding integrated m)).trans hwork) rfl rfl rfl ?_
  exact ⟨rfl, rfl, rfl, fun _ _ => rfl, hd.cmd, rfl⟩

/-- R447: a unit that is in service has nothing to restore. -/
theorem exec_restore_nothing (hop : op r.msg = Op.restore) (hpayload : r.msg.payload = []) (hfree : (s.unit u).state ≠ .handling)
    (hin : (s.unit u).out = false) :
    ∃ t, exec (.restore slot index finding integrated) s = .next t ∧ t.sheaf = s.sheaf ∧ t.leg = s.leg ∧ t.out = s.out
      ∧ (∀ v, v ≠ u → t.unit v = s.unit v) ∧ t.Answers slot index r Code.ok Reason.none (t.unitResult u) ∧ t.unit u = s.unit u := by
  obtain ⟨t, ht, hsheaf, hleg, hout, hothers, hanswers, hunit, -⟩ := exec_restore_ends hkind hc hd hop (.refl s u)
    ((s.doRestore_measuring hkind hpayload hu hfree slot index finding integrated).trans (if_pos hin))
  exact ⟨t, ht, hsheaf, hleg, hout, hothers, hanswers, hunit⟩

/-- R447, R531: a unit that rests, or whose self-test passes, is back in service. -/
theorem exec_restore_mends (hop : op r.msg = Op.restore) (hpayload : r.msg.payload = []) (hfree : (s.unit u).state ≠ .handling)
    (hout : (s.unit u).out ≠ false) (hpass : (s.unit u).state = .resting ∨ s.targetedOk u finding = true) :
    ∃ t, exec (.restore slot index finding integrated) s = .next t ∧ t.sheaf = s.sheaf ∧ t.leg = s.leg ∧ t.out = s.out
      ∧ (∀ v, v ≠ u → t.unit v = s.unit v) ∧ t.Answers slot index r Code.ok Reason.none (t.unitResult u)
      ∧ (t.unit u).state = .idle ∧ (t.unit u).commanded = false ∧ t.store.journal = s.store.journal := by
  have hleg : unitKind u ≠ Kind.leg := measuringUnit_ne hkind (by decide)
  have hwork := s.doRestore_measuring hkind hpayload hu hfree slot index finding integrated
  rw [if_neg hout] at hwork
  have hmended : ∃ g, s.Mends g u ∧ g.store.journal = s.store.journal ∧
      s.doRestore slot index finding integrated r.msg = (g.broughtBack u).endRestore slot index u := by
    by_cases hrests : (s.unit u).state = .resting
    · exact ⟨s, .refl s u, rfl, hwork.trans (if_pos hrests)⟩
    · obtain ⟨hnote, -, hstore⟩ := s.mends_noteTest hkind finding
      exact ⟨_, hnote, by rw [hstore], hwork.trans ((if_neg hrests).trans (if_pos (hpass.resolve_left hrests)))⟩
  obtain ⟨g, hg, hjournal, hwork⟩ := hmended
  obtain ⟨hback, hidle, hheld, hsame⟩ := g.broughtBack_spec hleg
  obtain ⟨t, ht, hsheaf, htleg, hout, hothers, hanswers, hunit, htjournal⟩ := exec_restore_ends hkind hc hd hop (hg.trans hback) hwork
  exact ⟨t, ht, hsheaf, htleg, hout, hothers, hanswers, by rw [hunit, hidle], by rw [hunit, hheld], htjournal.trans (hsame.trans hjournal)⟩

/-- R440, R447: a failed self-test leaves the unit lasting, with a new record. -/
theorem exec_restore_fails (hop : op r.msg = Op.restore) (hpayload : r.msg.payload = []) (hfree : (s.unit u).state ≠ .handling)
    (hout : (s.unit u).out ≠ false) (hfail : ¬ ((s.unit u).state = .resting ∨ s.targetedOk u finding = true)) :
    ∃ t, exec (.restore slot index finding integrated) s = .next t ∧ t.sheaf = s.sheaf ∧ t.leg = s.leg ∧ t.out = s.out
      ∧ (∀ v, v ≠ u → t.unit v = s.unit v) ∧ t.Answers slot index r Code.ok Reason.none (t.unitResult u)
      ∧ (t.unit u).state = .lasting
      ∧ ((s.unit u).state ≠ .idle → (s.unit u).src < 64 → s.TakesUp t u .lasting .L (s.unit u).src) := by
  have hleg : unitKind u ≠ Kind.leg := measuringUnit_ne hkind (by decide)
  obtain ⟨hrests, hbad⟩ := not_or.mp hfail
  have hwork := s.doRestore_measuring hkind hpayload hu hfree slot index finding integrated
  rw [if_neg hout, if_neg hrests, if_neg hbad] at hwork
  obtain ⟨hnote, hunits, hstore⟩ := s.mends_noteTest hkind finding
  generalize s.noteTest u finding = g at hwork hnote hunits hstore
  have hsource : (s.unit u).state ≠ .idle → g.restoreSource u = (s.unit u).src := fun h => by
    unfold State.restoreSource
    rw [hunits]
    exact if_pos h
  have hlast : ((g.makeLasting u (g.restoreSource u)).unit u).state = .lasting := by simp [State.makeLasting, State.setFault]
  have htaken : (s.unit u).src < 64 → (s.unit u).state ≠ .idle →
      s.TakesUp (g.makeLasting u (g.restoreSource u)) u .lasting .L (s.unit u).src := fun hsrc h => by
    rw [hsource h]
    exact State.makeLasting_takesUp (by rw [hstore]) u (by omega)
  have hlasting := g.mends_makeLasting hleg (g.restoreSource u)
  generalize g.makeLasting u (g.restoreSource u) = v at hwork hlast htaken hlasting
  obtain ⟨t, ht, hsheaf, htleg, hout, hothers, hanswers, hunit, hjournal⟩ :=
    exec_restore_ends hkind hc hd hop ((hnote.trans hlasting).trans (State.mends_useFree ..)) hwork
  have hsame : t.unit u = v.unit u := hunit
  refine ⟨t, ht, hsheaf, htleg, hout, hothers, hanswers, by rw [hsame, hlast], fun h hsrc => ?_⟩
  have hshow := htaken hsrc h
  unfold State.TakesUp State.Shows State.Journals at hshow ⊢
  rw [hsame, hjournal]
  exact hshow

end

end

/-- Settles O44: RESTORE of a measuring unit waits, finds nothing to do, brings the unit back, or leaves it lasting (assumption log 91). -/
theorem restoreBringsUnitsBack : Obligations.RestoreBringsUnitsBack := by
  intro s slot index r finding integrated hc hd hop hpayload u hunits
  have hkind : unitKind u = Kind.fastInput ∨ unitKind u = Kind.slowInput ∨ unitKind u = Kind.fast := by
    obtain ⟨k, ⟨hk, h⟩ | ⟨hk, h⟩ | ⟨hk, h⟩⟩ := hunits <;> rw [h, unitKind_unitOf (by omega)]
    · exact .inl rfl
    · exact .inr (.inl rfl)
    · exact .inr (.inr rfl)
  by_cases hhandled : (s.unit u).state = .handling
  · simp only [if_pos hhandled]
    exact exec_restore_waits hkind hc hd rfl hop hpayload hhandled
  by_cases hin : (s.unit u).out = false
  · simp only [if_neg hhandled, if_pos hin]
    exact exec_restore_nothing hkind hc hd rfl hop hpayload hhandled hin
  by_cases hpass : (s.unit u).state = .resting ∨ s.targetedOk u finding = true
  · simp only [if_neg hhandled, if_neg hin, if_pos hpass]
    exact exec_restore_mends hkind hc hd rfl hop hpayload hhandled hin hpass
  · simp only [if_neg hhandled, if_neg hin, if_neg hpass]
    exact exec_restore_fails hkind hc hd rfl hop hpayload hhandled hin hpass

end Sys2Proof.Machine


namespace Sys2Proof.Machine

/-! ## What the work of a CAN FD controller changes (R471 to R494) -/

/-- A controller's work without a fault: controllers, items, periodic works, device time. -/
structure State.Wires (s g : State) : Prop where
  eq : g = { s with regs := g.regs, cans := g.cans, timers := g.timers, time := g.time, dev := { s.dev with free := g.dev.free } }
  now : s.time.now ≤ g.time.now

theorem State.Wires.refl (s : State) : s.Wires s := ⟨rfl, le_rfl⟩

theorem State.Wires.trans {s g t : State} (h : s.Wires g) (k : g.Wires t) : s.Wires t :=
  ⟨by rw [k.eq, h.eq], h.now.trans k.now⟩

theorem State.Wires.poised {s g : State} (h : s.Wires g) (u : Nat) : s.Poised g u := by
  have hunit : g.unit u = s.unit u := by rw [h.eq]; rfl
  exact ⟨by rw [hunit], by rw [hunit], by rw [h.eq], h.now⟩

theorem State.wires_setReg (s : State) (a : Nat) (w : Word) : s.Wires (s.setReg a w) := ⟨rfl, le_rfl⟩

theorem State.wires_bump (s : State) (a : Nat) : s.Wires (s.bump a) := s.wires_setReg ..

theorem State.wires_setCan (s : State) (n : Nat) (c : Can) : s.Wires (s.setCan n c) := ⟨rfl, le_rfl⟩

theorem State.wires_reach (s : State) (t : Nat) : s.Wires (s.reach t) := ⟨rfl, le_max_left ..⟩

theorem State.wires_every (s : State) (timer period : Nat) : s.Wires (s.every timer period) := ⟨rfl, le_max_left ..⟩

theorem State.wires_canGood (s : State) (n : Nat) : s.Wires (s.canGood n) := by
  unfold State.canGood
  extract_lets c
  split
  · exact State.Wires.trans (g := s.useFree) ⟨rfl, le_rfl⟩ (State.wires_setCan ..)
  · exact s.wires_setCan ..

/-- In a calm state a command that does such work does no more, and device time is as the work left it. -/
theorem State.Wires.next {s g : State} (h : s.Wires g) (hc : s.Calm) {f : State → State} (hf : f s = g) {P : State → Prop}
    (hP : P (s.keepLive g)) : ∃ t, (.next (s.act f) : Host.Outcome State Fault Refusal) = .next t ∧ P t :=
  hc.next hf (by rw [h.eq]) (by rw [h.eq]) (by rw [h.eq]) hP

theorem State.Wires.keepLive_now {s g : State} (h : s.Wires g) : (s.keepLive g).time.now = g.time.now := Nat.max_eq_right h.now

theorem State.Wires.leaves {s g : State} (h : s.Wires g) :
    g.unit = s.unit ∧ g.leg = s.leg ∧ g.slot = s.slot ∧ g.cmd = s.cmd := by
  rw [h.eq]
  exact ⟨rfl, rfl, rfl, rfl⟩

/-! ### Objects -/

theorem Can.object_setObject (c : Can) (k : Nat) (o : CanObj) (j : Nat) : (c.setObject k o).object j = if j = k then o else c.object j :=
  KMap.get_put ..

@[simp] theorem Can.object_setObject_same (c : Can) (k : Nat) (o : CanObj) : (c.setObject k o).object k = o := KMap.get_put_same ..

theorem Can.object_setObject_other (c : Can) {k j : Nat} (o : CanObj) (h : j ≠ k) : (c.setObject k o).object j = c.object j :=
  KMap.get_put_other _ _ o h

theorem Can.object_congr {c d : Can} (h : d.objects = c.objects) (k : Nat) : d.object k = c.object k := by
  unfold Can.object
  rw [h]

theorem Can.match_congr {c d : Can} (h : d.objects = c.objects) (f : CanFrame) : d.match f = c.match f := by
  unfold Can.match
  simp only [Can.object_congr h]

/-! ### A frame stored (R479, R481) -/

/-- A frame received is stored in the object it matches, or counted as unmatched; every other object is as before. -/
def State.Stored (s t : State) (n : Nat) (f : CanFrame) (sof : Nat) : Prop :=
  match (s.can n).match f with
  | some k =>
    ((t.can n).object k).data = f.data ∧ ((t.can n).object k).stamp = canStamp sof ∧ ((t.can n).object k).valid = true
      ∧ ((t.can n).object k).esi = f.esi ∧ (∀ j, j ≠ k → (t.can n).object j = (s.can n).object j)
      ∧ t.reg (Item.CAN.RX_CNT n) = s.reg (Item.CAN.RX_CNT n) + 1
  | none => (∀ j, (t.can n).object j = (s.can n).object j) ∧ t.reg (Item.CAN.RX_UNMATCHED n) = s.reg (Item.CAN.RX_UNMATCHED n) + 1

/-- What the storing of a sound frame leaves: all but the objects of its controller and its two counters. -/
structure State.Receives (s t : State) (n : Nat) : Prop where
  wires : s.Wires t
  others : ∀ j, j ≠ n → t.can j = s.can j
  state : ∀ a, a ≠ Item.CAN.RX_CNT n → a ≠ Item.CAN.RX_UNMATCHED n → t.reg a = s.reg a
  time : t.time = s.time

section
variable {s g : State} {n : Nat} {f : CanFrame} {sof : Nat}
  (hsound : ∀ k, (s.can n).match f = some k → ((s.can n).object k).poisoned = false)
include hsound

theorem State.canStore_receives (hobjects : (g.can n).objects = (s.can n).objects) : g.Receives (g.canStore n f sof) n := by
  unfold State.canStore
  extract_lets c
  rw [Can.match_congr hobjects]
  split
  · exact ⟨g.wires_bump _, fun _ _ => rfl, fun a _ ha => g.reg_setReg_other _ _ a ha, rfl⟩
  · next k hk =>
    extract_lets o
    rw [if_neg (by rw [show o = _ from Can.object_congr hobjects k, hsound k hk]; decide)]
    exact ⟨(g.wires_setCan _ _).trans (State.wires_bump ..), fun j hj => g.can_setCan_other n _ j hj,
      fun a ha _ => State.reg_setReg_other _ _ _ a ha, rfl⟩

theorem State.canStore_stored (hobjects : (g.can n).objects = (s.can n).objects)
    (hcount : g.reg (Item.CAN.RX_CNT n) = s.reg (Item.CAN.RX_CNT n))
    (hunmatched : g.reg (Item.CAN.RX_UNMATCHED n) = s.reg (Item.CAN.RX_UNMATCHED n)) :
    s.Stored (g.canStore n f sof) n f sof := by
  have hobject : ∀ k, (g.can n).object k = (s.can n).object k := Can.object_congr hobjects
  unfold State.Stored State.canStore
  extract_lets c
  rw [Can.match_congr hobjects]
  cases hmatch : (s.can n).match f with
  | none => exact ⟨hobject, (g.reg_setReg_same ..).trans (by rw [hunmatched])⟩
  | some k =>
    have hclean : c.object k = (s.can n).object k := hobject k
    simp only [hclean, hsound k hmatch, Bool.false_eq_true, if_false]
    have hcan : ∀ d, ((g.setCan n d).bump (Item.CAN.RX_CNT n)).can n = d := fun d => g.can_setCan_same n d
    rw [hcan, Can.object_setObject_same]
    refine ⟨rfl, rfl, rfl, rfl, fun j hj => ?_, (State.reg_setReg_same ..).trans ?_⟩
    · rw [Can.object_setObject_other _ _ hj]
      exact hobject j
    · exact congrArg (· + 1) hcount

end

theorem State.canGood_objects (s : State) (n : Nat) : ((s.canGood n).can n).objects = (s.can n).objects := by
  unfold State.canGood
  extract_lets c
  split <;> rw [State.can_setCan_same]

theorem State.canGood_other (s : State) (n : Nat) {j : Nat} (hj : j ≠ n) : (s.canGood n).can j = s.can j := by
  unfold State.canGood
  extract_lets c
  split <;> exact State.can_setCan_other _ n _ j hj

theorem State.canGood_stands (s : State) (n : Nat) : (s.canGood n).reg = s.reg ∧ (s.canGood n).time = s.time := by
  unfold State.canGood
  extract_lets c
  split <;> exact ⟨rfl, rfl⟩

/-- A frame received without error, up to its storing: device time moves on to its start of frame, and in NORMAL the receive error counter
falls (R484). -/
def State.canHeard (s : State) (n sof : Nat) : State := if s.canState n = 3 then (s.reach sof).canGood n else s.reach sof

theorem State.canHeard_spec (s : State) (n sof : Nat) :
    s.Wires (s.canHeard n sof) ∧ ((s.canHeard n sof).can n).objects = (s.can n).objects ∧ (∀ j, j ≠ n → (s.canHeard n sof).can j = s.can j)
      ∧ (s.canHeard n sof).reg = s.reg ∧ (s.canHeard n sof).time.now = max s.time.now sof := by
  unfold State.canHeard
  split
  · obtain ⟨hregs, htime⟩ := (s.reach sof).canGood_stands n
    exact ⟨(s.wires_reach sof).trans (State.wires_canGood ..), State.canGood_objects .., fun j hj => State.canGood_other _ n hj, hregs,
      by rw [htime]; rfl⟩
  · exact ⟨s.wires_reach sof, rfl, fun _ _ => rfl, rfl, rfl⟩

/-! ### What messages leave of a controller -/

/-- The code of the last error of every controller stands. -/
structure State.KeepsErrors (s t : State) : Prop where
  lastError : ∀ n, (t.can n).lastError = (s.can n).lastError

theorem State.KeepsErrors.refl (s : State) : s.KeepsErrors s := ⟨fun _ => rfl⟩

theorem State.KeepsErrors.trans {s t u : State} (h : s.KeepsErrors t) (k : t.KeepsErrors u) : s.KeepsErrors u :=
  ⟨fun n => (k.lastError n).trans (h.lastError n)⟩

theorem State.keepsErrors_of_cans {s t : State} (h : t.cans = s.cans) : s.KeepsErrors t := ⟨fun n => by
  unfold State.can
  rw [h]⟩

theorem State.keepsErrors_setCan (s : State) (n : Nat) {c : Can} (h : c.lastError = (s.can n).lastError) : s.KeepsErrors (s.setCan n c) :=
  ⟨fun j => by
    rw [State.can_setCan]
    split
    · next hj => rw [hj, h]
    · rfl⟩

theorem State.keepsErrors_canLoad (s : State) (n slot : Nat) : s.KeepsErrors (s.canLoad n slot) := by
  unfold State.canLoad
  extract_lets c o
  split
  · exact .refl s
  · split
    · exact .refl s
    · exact s.keepsErrors_setCan n rfl

theorem State.keepsErrors_setSlot (s : State) (n : Nat) (h : HostSlot) : s.KeepsErrors (s.setSlot n h) := State.keepsErrors_of_cans rfl

theorem State.keepsErrors_emit (s : State) (m : OutMsg) : s.KeepsErrors (s.emit m) := by
  have hqueued : s.KeepsErrors (s.setCan (m.port - 3) { s.can (m.port - 3) with queue := (s.can (m.port - 3)).queue ++ [m] }) :=
    s.keepsErrors_setCan _ rfl
  unfold State.emit
  split
  · exact hqueued.trans (State.keepsErrors_canLoad _ _ _)
  · exact State.keepsErrors_of_cans rfl

theorem State.keepsErrors_sendAt (s : State) (slot kind code index opcode reason time : Nat) (port : Option Nat) (payload : List Byte) :
    s.KeepsErrors (s.sendAt slot kind code index opcode reason time port payload) := by
  unfold State.sendAt
  extract_lets h m
  split
  · exact (s.keepsErrors_setSlot slot _).trans (State.keepsErrors_emit _ _)
  · exact .refl s

theorem State.keepsErrors_event (s : State) (code : Nat) (payload : List Byte) : s.KeepsErrors (s.event code payload) := by
  refine State.forEach_rel State.KeepsErrors.refl (fun _ _ _ => State.KeepsErrors.trans) _ (fun t n => ?_) _ s
  unfold State.eventTo
  split
  · exact t.keepsErrors_sendAt ..
  · exact .refl t

theorem State.keepsErrors_note_W (s : State) (u src : Nat) (forced : Bool) (hu : unitKind u ≠ Kind.leg) :
    s.KeepsErrors (s.note u .W src forced) := by
  have hlog : ∀ r, s.legLog u r = s := fun r => if_neg hu
  have hrecord : s.KeepsErrors (s.record u .W src forced) := by
    unfold State.record State.faultEvent
    simp only [hlog]
    split
    · exact State.KeepsErrors.trans (s.keepsErrors_event ..) (State.keepsErrors_of_cans rfl)
    · exact .refl s
  unfold State.note
  split
  · exact .refl s
  · exact hrecord.trans (State.keepsErrors_of_cans rfl)

theorem State.keepsErrors_detect_W (s : State) (u src : Nat) (forced : Bool) (hu : unitKind u ≠ Kind.leg) :
    s.KeepsErrors (s.detect u .W src forced) := by
  have hnote := s.keepsErrors_note_W u src forced hu
  unfold State.detect
  cases (s.unit u).state
  · simp only
    split
    · exact .refl s
    · exact hnote.trans (State.keepsErrors_of_cans rfl)
  · exact .refl s
  · exact hnote
  · exact hnote

/-! ## Frames received and sent (R472, R474, R479 to R482) -/

theorem unitKind_can (n : Fin 4) : unitKind (unitOf Kind.can n) = Kind.can := unitKind_unitOf (by omega)

/-- An error noted: its code and its count (R484). -/
def State.canErred (s : State) (n code : Nat) : State :=
  (s.setCan n { s.can n with lastError := code }).bump (Item.CAN.ERR_FRAME_CNT n)

theorem State.canErred_can (s : State) (n code : Nat) : (s.canErred n code).can n = { s.can n with lastError := code } :=
  s.can_setCan_same n _

theorem State.wires_canErred (s : State) (n code : Nat) : s.Wires (s.canErred n code) :=
  (s.wires_setCan _ _).trans (State.wires_bump _ _)

theorem State.canErred_count (s : State) (n code : Nat) :
    (s.canErred n code).reg (Item.CAN.ERR_FRAME_CNT n) = s.reg (Item.CAN.ERR_FRAME_CNT n) + 1 := State.reg_setReg_same ..

theorem State.canErred_reg (s : State) (n code : Nat) {i : Nat} (hi : i ≠ 0x01F) :
    (s.canErred n code).reg (Item.addr 0x1C n i) = s.reg (Item.addr 0x1C n i) :=
  State.reg_setReg_other _ _ _ _ (Item.addr_ne (by omega))

section
variable {s : State} {n code : Nat} {transmitting after excepted dataPhase dataField : Bool}

theorem State.canErr_detecting (hst : s.canState n = 1) (hcode : code = 1 ∨ code = 2 ∨ code = 6) :
    s.canErr n code transmitting after excepted dataPhase dataField = (s.canErred n code).canNextEntry n := by
  unfold State.canErr
  simp only [hst]
  exact if_pos hcode

theorem State.canErr_listening (hst : s.canState n = 2) :
    s.canErr n code transmitting after excepted dataPhase dataField = (s.canErred n code).canListenError n dataPhase := by
  unfold State.canErr
  simp only [hst]
  rfl

/-- In NORMAL an error counts; only a transmitter's in the data field can be a clash. -/
theorem State.canErr_normal (hst : s.canState n = 3) (hno : transmitting = false ∨ dataField = false) :
    s.canErr n code transmitting after excepted dataPhase dataField
      = ((s.canErred n code).canCount n transmitting after excepted).canPassive n ((s.canErred n code).can n).passive false := by
  have hclash : ∀ c, ¬ (transmitting = true ∧ dataField = true ∧ c) := by
    rintro c ⟨ht, hf, -⟩
    rcases hno with h | h
    · rw [h] at ht
      cases ht
    · rw [h] at hf
      cases hf
  unfold State.canErr
  simp only [hst]
  split
  · exact if_neg (hclash _)
  · rfl

/-- What an error in LISTEN outside the data phase does: the controller goes back to DETECT, or stays. -/
theorem State.canListenError_nominal : s.canListenError n false = if s.regN (Item.CAN.ARD_EN n) ≠ 1 then s else s.canDetect n 0 := by
  unfold State.canListenError
  simp

end

theorem State.wires_canDetect (s : State) (n entry : Nat) : s.Wires (s.canDetect n entry) :=
  ((s.wires_setCan _ _).trans (State.wires_setReg _ _ _)).trans (State.wires_setReg _ _ _)

theorem State.canDetect_can (s : State) (n entry : Nat) : (s.canDetect n entry).can n = { s.can n with entry := entry } :=
  s.can_setCan_same n _

theorem State.canDetect_reg (s : State) (n entry : Nat) {i : Nat} (hlock : i ≠ 0x007) (hstate : i ≠ 0x001) :
    (s.canDetect n entry).reg (Item.addr 0x1C n i) = s.reg (Item.addr 0x1C n i) :=
  (State.reg_setReg_other _ _ _ _ (Item.addr_ne (by omega))).trans (State.reg_setReg_other _ _ _ _ (Item.addr_ne (by omega)))

theorem State.wires_canCount (s : State) (n : Nat) (transmitting after excepted : Bool) :
    s.Wires (s.canCount n transmitting after excepted) ∧ (s.canCount n transmitting after excepted).reg = s.reg
      ∧ s.KeepsErrors (s.canCount n transmitting after excepted) := by
  unfold State.canCount
  extract_lets c
  split
  · exact ⟨.refl s, rfl, .refl s⟩
  · split
    · exact ⟨s.wires_setCan _ _, rfl, s.keepsErrors_setCan _ rfl⟩
    · exact ⟨s.wires_setCan _ _, rfl, s.keepsErrors_setCan _ rfl⟩

/-- What the entry to error passive may change: the warning of its controller. -/
theorem State.canPassive_warns (s : State) (n : Fin 4) (was forced : Bool) :
    s.Warns (s.canPassive n was forced) ∧ s.KeepsErrors (s.canPassive n was forced) := by
  have hkind : unitKind (unitOf Kind.can n) ≠ Kind.leg := by rw [unitKind_can]; decide
  unfold State.canPassive
  extract_lets c
  split
  · exact ⟨s.warns_detect _ _ _ hkind, s.keepsErrors_detect_W _ _ _ hkind⟩
  · exact ⟨.refl s, .refl s⟩

section
variable {s : State} (hc : s.Calm) {n : Fin 4} {f : CanFrame} {sof : Nat}
include hc

/-- R472: an FD frame where only classic ones run is a form error, counted, and nothing is stored. -/
theorem exec_canFrameReceived_foreign (hst : s.regN (Item.CAN.STATE n) = 2 ∨ s.regN (Item.CAN.STATE n) = 3)
    (hforeign : s.canForeign n f = true) :
    ∃ t, exec (.canFrameReceived n f sof) s = .next t ∧ t.reg (Item.CAN.ERR_FRAME_CNT n) = s.reg (Item.CAN.ERR_FRAME_CNT n) + 1
      ∧ t.reg (Item.CAN.RX_CNT n) = s.reg (Item.CAN.RX_CNT n) ∧ (t.can n).lastError = 2 := by
  have herred := (s.wires_reach sof).trans ((s.reach sof).wires_canErred n 2)
  have hcount : ((s.reach sof).canErred n 2).reg (Item.CAN.ERR_FRAME_CNT n) = s.reg (Item.CAN.ERR_FRAME_CNT n) + 1 :=
    (s.reach sof).canErred_count n 2
  have hrx : ((s.reach sof).canErred n 2).reg (Item.CAN.RX_CNT n) = s.reg (Item.CAN.RX_CNT n) :=
    (s.reach sof).canErred_reg n 2 (by decide)
  have hlast : (((s.reach sof).canErred n 2).can n).lastError = 2 := by rw [State.canErred_can]
  have hrow : exec (.canFrameReceived n f sof) s = .next (s.act fun _ => (s.reach sof).canErr n 2 false false false false false) :=
    congrArg Host.Outcome.next (s.act_to _ _ ((if_neg (fun h => hst.elim h.1 h.2)).trans (if_pos hforeign)))
  rw [hrow]
  rcases hst with hst | hst
  · have hlisten := (State.canErr_listening (s := s.reach sof) (code := 2) (transmitting := false) (after := false) (excepted := false)
      (dataPhase := false) (dataField := false) hst).trans State.canListenError_nominal
    generalize (s.reach sof).canErred n 2 = g at *
    by_cases hard : g.regN (Item.CAN.ARD_EN n) ≠ 1
    · exact herred.next hc (hlisten.trans (if_pos hard)) ⟨hcount, hrx, hlast⟩
    · refine (herred.trans (State.wires_canDetect _ n 0)).next hc (hlisten.trans (if_neg hard)) ⟨?_, ?_, ?_⟩
      · exact (State.canDetect_reg _ n 0 (by decide) (by decide)).trans hcount
      · exact (State.canDetect_reg _ n 0 (by decide) (by decide)).trans hrx
      · rw [State.keepLive_can', State.canDetect_can]
        exact hlast
  · have hnormal := State.canErr_normal (s := s.reach sof) (code := 2) (transmitting := false) (after := false) (excepted := false)
      (dataPhase := false) (dataField := false) hst (.inl rfl)
    generalize (s.reach sof).canErred n 2 = g at *
    obtain ⟨hcounted, hregs, herrors⟩ := g.wires_canCount n false false false
    have hwired := herred.trans hcounted
    generalize g.canCount n false false false = v at *
    obtain ⟨hwarns, hkept⟩ := v.canPassive_warns n (g.can n).passive false
    have hlastError := ((hkept.lastError n).trans (herrors.lastError n)).trans hlast
    generalize v.canPassive n (g.can n).passive false = w at *
    unfold State.Warns at hwarns
    have hreg : w.reg = g.reg := by
      rw [hwarns]
      exact hregs
    refine hc.next hnormal (by rw [hwarns, hwired.eq]) (by rw [hwarns, hwired.eq]) (by rw [hwarns, hwired.eq])
      ⟨(congrFun hreg _).trans hcount, (congrFun hreg _).trans hrx, hlastError⟩

/-- R479, R481: a frame that completes without error is stored, or counted as unmatched. -/
theorem exec_canFrameReceived_stores (hst : s.regN (Item.CAN.STATE n) = 2 ∨ s.regN (Item.CAN.STATE n) = 3)
    (hown : s.canForeign n f = false) (hsound : ∀ k, (s.can n).match f = some k → ((s.can n).object k).poisoned = false) :
    ∃ t, exec (.canFrameReceived n f sof) s = .next t ∧ s.Stored t n f sof ∧ sof ≤ t.time.now ∧ t.unit = s.unit ∧ t.leg = s.leg
      ∧ (∀ j < 4, j ≠ n.val → t.can j = s.can j) := by
  obtain ⟨hheard, hobjects, hothers, hregs, hnow⟩ := s.canHeard_spec n sof
  have hreceives := State.canStore_receives (sof := sof) hsound hobjects
  have hstored := State.canStore_stored (sof := sof) hsound hobjects (congrFun hregs _) (congrFun hregs _)
  have hwired := hheard.trans hreceives.wires
  obtain ⟨hunit, hleg, -, -⟩ := hwired.leaves
  refine hwired.next hc ?_ ⟨hstored, ?_, hunit, hleg, fun j _ hj => (hreceives.others j hj).trans (hothers j hj)⟩
  · refine (if_neg (fun h => hst.elim h.1 h.2)).trans ((if_neg (by rw [hown]; decide)).trans ?_)
    unfold State.canHeard
    rcases hst with h | h
    · have hlistens : s.canState n = 2 := h
      rw [if_pos hlistens, if_neg (by omega)]
    · have hnormal : s.canState n = 3 := h
      rw [if_neg (by omega), if_pos hnormal]
  · rw [hwired.keepLive_now, hreceives.time, hnow]
    exact le_max_right ..

omit hc in
/-- The rate entry on trial locked (R474). -/
def State.rateLocked (s : State) (n sof : Nat) (w : Word) : State :=
  ((s.reach sof).setReg (Item.CAN.ARD_LOCK n) w).setCanState n 2

omit hc in
theorem State.rateLocked_spec (s : State) (n sof : Nat) (w : Word) :
    s.Wires (s.rateLocked n sof w) ∧ ((s.rateLocked n sof w).can n).objects = (s.can n).objects
      ∧ (s.rateLocked n sof w).reg (Item.CAN.STATE n) = 2 ∧ (s.rateLocked n sof w).reg (Item.CAN.ARD_LOCK n) = w
      ∧ ∀ i, i ≠ 0x007 → i ≠ 0x001 → (s.rateLocked n sof w).reg (Item.addr 0x1C n i) = s.reg (Item.addr 0x1C n i) := by
  refine ⟨((s.wires_reach sof).trans (State.wires_setReg _ _ _)).trans (State.wires_setReg _ _ _), rfl, State.reg_setReg_same ..,
    (State.reg_setReg_other _ _ _ _ (Item.addr_ne (by decide))).trans (State.reg_setReg_same ..), fun i hlock hstate => ?_⟩
  exact (State.reg_setReg_other _ _ _ _ (Item.addr_ne (by omega))).trans (State.reg_setReg_other (s.reach sof) _ _ _ (Item.addr_ne (by omega)))

/-- R474: a frame received without error in DETECT locks the entry on trial. -/
theorem exec_canRateLock_locks (hst : s.regN (Item.CAN.STATE n) = 1)
    (hown : s.canForeign n f = false) (hsound : ∀ k, (s.can n).match f = some k → ((s.can n).object k).poisoned = false) :
    ∃ t, exec (.canRateLock n f sof) s = .next t ∧ s.Stored t n f sof ∧ t.reg (Item.CAN.STATE n) = 2
      ∧ t.reg (Item.CAN.ARD_LOCK n) = nw (0x80000000 + (if f.brs then 0x40000000 else 0) + (s.can n).entry * 0x10000) := by
  have hrow : exec (.canRateLock n f sof) s = .next (s.act fun _ =>
      (s.rateLocked n sof (nw (0x80000000 + (if f.brs then 0x40000000 else 0) + (s.can n).entry * 0x10000))).canStore n f sof) :=
    congrArg Host.Outcome.next (s.act_to _ _ ((if_neg (fun h => h hst)).trans (if_neg (by rw [hown]; decide))))
  rw [hrow]
  generalize nw (0x80000000 + (if f.brs then 0x40000000 else 0) + (s.can n).entry * 0x10000) = w
  obtain ⟨hwires, hobjects, hstate, hlock, hsame⟩ := s.rateLocked_spec n sof w
  generalize s.rateLocked n sof w = g at *
  have hreceives := State.canStore_receives (sof := sof) hsound hobjects
  have hstored := State.canStore_stored (sof := sof) hsound hobjects (hsame _ (by decide) (by decide)) (hsame _ (by decide) (by decide))
  refine (hwires.trans hreceives.wires).next hc rfl ⟨hstored, ?_, ?_⟩
  · exact (hreceives.state _ (Item.addr_ne (by decide)) (Item.addr_ne (by decide))).trans hstate
  · exact (hreceives.state _ (Item.addr_ne (by decide)) (Item.addr_ne (by decide))).trans hlock

/-! ### The choice among requests (R480) -/

omit hc in
/-- The object chosen wins arbitration, the lowest number where fields are identical; with a request due one is chosen. -/
theorem Can.winner_spec (c : Can) (cycle : Nat) :
    (c.requests cycle = [] → c.winner cycle = none)
    ∧ (c.requests cycle ≠ [] → ∃ k ∈ c.requests cycle, c.winner cycle = some k
      ∧ ∀ j ∈ c.requests cycle, (c.object k).arbitration < (c.object j).arbitration
        ∨ ((c.object k).arbitration = (c.object j).arbitration ∧ k ≤ j)) := by
  have hsorted : (c.requests cycle).Pairwise (· < ·) := List.Pairwise.filter _ List.pairwise_lt_range
  unfold Can.winner
  generalize c.requests cycle = due at hsorted
  refine ⟨fun h => by rw [h]; rfl, fun hdue => ?_⟩
  obtain ⟨m, hm, hleast⟩ := due.toFinset.exists_min_image (fun k => (c.object k).arbitration)
    ((List.exists_mem_of_ne_nil due hdue).imp fun _ => List.mem_toFinset.mpr)
  simp only [List.mem_toFinset] at hm hleast
  obtain ⟨k, hk⟩ : ∃ k, due.find? (fun k => due.all (fun j => decide ((c.object k).arbitration ≤ (c.object j).arbitration))) = some k :=
    Option.isSome_iff_exists.mp (List.find?_isSome.mpr ⟨m, hm, by simpa using hleast⟩)
  obtain ⟨hwins, before, after, hsplit, hfirst⟩ := List.find?_eq_some_iff_append.mp hk
  simp only [List.all_eq_true, decide_eq_true_eq] at hwins
  refine ⟨k, List.mem_of_find?_eq_some hk, hk, fun j hj => (hwins j hj).lt_or_eq.imp_right fun heq => ⟨heq, ?_⟩⟩
  rw [hsplit, List.pairwise_append, List.pairwise_cons] at hsorted
  have hcases : j ∈ before ∨ j = k ∨ j ∈ after := by simpa [hsplit] using hj
  rcases hcases with hbefore | hsame | hafter
  · have hloses := hfirst j hbefore
    simp only [Bool.not_eq_true', List.all_eq_false, decide_eq_true_eq] at hloses
    obtain ⟨i, hi, hless⟩ := hloses
    exact absurd (heq ▸ hwins i hi) hless
  · exact hsame.ge
  · exact (hsorted.2.1.1 j hafter).le

theorem exec_canTxChoice_chooses (time : Nat) (hst : s.regN (Item.CAN.STATE n) = 3) :
    ∃ t, exec (.canTxChoice n time) s = .next t ∧ time ≤ t.time.now ∧ s.time.now ≤ t.time.now ∧
      let due := (s.can n).requests (kernelCycle t.time.now)
      (due = [] → (t.can n).chosen = none)
      ∧ (due ≠ [] → ∃ k ∈ due, (t.can n).chosen = some k
        ∧ ∀ j ∈ due, ((s.can n).object k).arbitration < ((s.can n).object j).arbitration
          ∨ (((s.can n).object k).arbitration = ((s.can n).object j).arbitration ∧ k ≤ j)) := by
  have hwires := (s.wires_reach time).trans
    (State.wires_setCan _ n { s.can n with chosen := (s.can n).winner (kernelCycle (s.reach time).time.now) })
  refine hwires.next hc (if_neg (fun h => h hst)) ?_
  rw [hwires.keepLive_now, State.keepLive_can', State.can_setCan_same]
  exact ⟨le_max_right .., le_max_left .., (s.can n).winner_spec _⟩

/-! ### The frame sent (R481, R485) and the signal that is due (R482) -/

omit hc in
/-- A controller whose chosen frame, of object `k`, has been sent. -/
def Can.sent (c : Can) (k sof : Nat) : Can :=
  { c.setObject k { c.object k with pending := false, stamp := canStamp sof, valid := true, clash := 0
                                    esi := bitOf (c.object k).cfg 28 && c.passive } with
    chosen := none, tec := c.tec - 1 }

theorem exec_canFrameSent_sends {k : Nat} (hst : s.regN (Item.CAN.STATE n) = 3) (hchosen : (s.can n).chosen = some k)
    (hpending : ((s.can n).object k).pending = true) (hforce : s.forceArmed (unitOf Kind.can n) 2 = false) (hmessage : 32 ≤ k ∨ k % 4 ≠ 1) :
    ∃ t, exec (.canFrameSent n sof) s = .next t ∧ (t.can n).chosen = none ∧ ((t.can n).object k).pending = false
      ∧ ((t.can n).object k).stamp = canStamp sof ∧ ((t.can n).object k).data = ((s.can n).object k).data
      ∧ (t.can n).tec = (s.can n).tec - 1 ∧ (∀ j, j ≠ k → (t.can n).object j = (s.can n).object j)
      ∧ t.reg (Item.CAN.TX_CNT n) = s.reg (Item.CAN.TX_CNT n) + 1 ∧ sof ≤ t.time.now := by
  have hno : ¬ (k < 32 ∧ k % 4 = 1) := by omega
  have hsends : ¬ (s.canState n ≠ 3 ∨ (!((s.can n).object k).pending) = true) := by
    rintro (h | h)
    · exact h hst
    · rw [hpending] at h
      cases h
  have hforce' : (s.reach sof).forceArmed (unitOf Kind.can n) 2 = false := hforce
  have hrow : ∃ f, exec (.canFrameSent n sof) s = .next (s.act f)
      ∧ f s = ((s.reach sof).setCan n ((s.can n).sent k sof)).bump (Item.CAN.TX_CNT n) := by
    refine ⟨_, rfl, ?_⟩
    simp only [hchosen, hforce', Bool.false_eq_true, if_false, if_neg hno]
    rw [if_neg hsends]
    rfl
  obtain ⟨f, hexec, hwork⟩ := hrow
  rw [hexec]
  have hwires := ((s.wires_reach sof).trans (State.wires_setCan _ n ((s.can n).sent k sof))).trans
    (State.wires_bump _ (Item.CAN.TX_CNT n))
  have hcan : (((s.reach sof).setCan n ((s.can n).sent k sof)).bump (Item.CAN.TX_CNT n)).can n = (s.can n).sent k sof :=
    (s.reach sof).can_setCan_same n _
  have hobject : ∀ j, ((s.can n).sent k sof).object j = if j = k then { (s.can n).object k with
      pending := false, stamp := canStamp sof, valid := true, clash := 0
      esi := bitOf ((s.can n).object k).cfg 28 && (s.can n).passive } else (s.can n).object j := Can.object_setObject _ k _
  refine hwires.next hc hwork ?_
  rw [hwires.keepLive_now, State.keepLive_can', hcan]
  refine ⟨rfl, ?_, ?_, ?_, rfl, fun j hj => (hobject j).trans (if_neg hj), State.reg_setReg_same .., le_max_right ..⟩ <;>
  rw [hobject, if_pos rfl]

theorem exec_canSignalPeriod_requests (k : Fin 128) (hst : s.regN (Item.CAN.STATE n) = 3) (hsignal : 32 ≤ k.val)
    (henabled : bitOf ((s.can n).object k).cfg 31 = true) (hsends : bitOf ((s.can n).object k).cfg 30 = true)
    (hperiod : ((s.can n).object k).period ≠ 0) :
    let x := s.every (Timer.signal n k) (((s.can n).object k).period * 1000000)
    ∃ t, exec (.canSignalPeriod n k) s = .next t ∧ ((t.can n).object k).pending = true ∧ ((t.can n).object k).valid = true
      ∧ ((t.can n).object k).data = padTo (bitsOf ((s.can n).object k).cfg 6 0)
          ((((s.can n).object k).items.take 16).flatMap (fun a => wordBytes (x.readItem a).2))
      ∧ (∀ j, j ≠ k.val → (t.can n).object j = (s.can n).object j) ∧ t.reg = s.reg
      ∧ s.lastDone (Timer.signal n k) + ((s.can n).object k).period * 1000000 ≤ t.time.now := by
  intro x
  let o := ((s.can n).object k).request (padTo (bitsOf ((s.can n).object k).cfg 6 0)
    ((((s.can n).object k).items.take 16).flatMap (fun a => wordBytes (x.readItem a).2))) x.time.now
  have hdue : ¬ (s.canState n ≠ 3 ∨ k.val < 32 ∨ (!bitOf ((s.can n).object k).cfg 31) = true ∨ (!bitOf ((s.can n).object k).cfg 30) = true
      ∨ ((s.can n).object k).period = 0) := by
    rintro (h | h | h | h | h)
    · exact h hst
    · omega
    · rw [henabled] at h
      cases h
    · rw [hsends] at h
      cases h
    · exact hperiod h
  have hwires : s.Wires (x.setCan n ((s.can n).setObject k o)) := (s.wires_every _ _).trans (State.wires_setCan ..)
  refine hwires.next hc (if_neg hdue) ?_
  rw [hwires.keepLive_now, State.keepLive_can', State.can_setCan_same, Can.object_setObject_same]
  exact ⟨rfl, rfl, rfl, fun j hj => Can.object_setObject_other _ _ hj, rfl, s.every_now ..⟩

end

/-- Settles O49: a frame reaches one object or the count of those that match none; an FD frame where none may run is an error; of the requests
due the one that wins arbitration is chosen (assumption log 49). -/
theorem controllersReceiveAndSendFrames : Obligations.ControllersReceiveAndSendFrames := fun _ _ hc =>
  ⟨fun _ _ hst hown hsound => exec_canFrameReceived_stores hc hst hown hsound,
    fun _ _ hst hforeign => exec_canFrameReceived_foreign hc hst hforeign,
    fun _ _ hst hown hsound => exec_canRateLock_locks hc hst hown hsound,
    fun time hst => exec_canTxChoice_chooses hc time hst,
    fun _ _ hst hchosen hpending hforce hmessage => exec_canFrameSent_sends hc hst hchosen hpending hforce hmessage,
    fun k hst hsignal henabled hsends hperiod => exec_canSignalPeriod_requests hc k hst hsignal henabled hsends hperiod⟩

end Sys2Proof.Machine


namespace Sys2Proof.Machine

/-! ## What a fault of a CAN FD controller does (R477, R484, R487) -/

/-- A controller's fence sets its state and no other item (R477). -/
theorem State.fenceCan_reg (s : State) (n : Nat) : (s.fenceCan n).reg = (s.setReg (Item.CAN.STATE n) 6).reg := by
  unfold State.fenceCan
  extract_lets c lock c1 s1
  rw [State.forEach_detach_eq]
  rfl

/-- A class-F detection of a controller that takes note of it fences the controller; no other item moves. -/
theorem State.detect_F_can_reg (s : State) (n : Fin 4) (src : Nat) (forced : Bool) (h : (s.unit (unitOf Kind.can n)).state = .idle) :
    (s.detect (unitOf Kind.can n) .F src forced).reg = (s.setReg (Item.CAN.STATE n) 6).reg := by
  have hkind := unitKind_can n
  have hindex : unitIndex (unitOf Kind.can n) = n := by unfold unitIndex unitOf; omega
  have hdetect : s.detect (unitOf Kind.can n) .F src forced = s.startHandling (unitOf Kind.can n) .F src forced := by
    unfold State.detect
    rw [h]
  have hnote : (s.note (unitOf Kind.can n) .F src forced).regs = s.regs ∧ (s.note (unitOf Kind.can n) .F src forced).bind = s.bind := by
    have hrecord := s.notes_record (unitOf Kind.can n) .F src forced (by rw [hkind]; decide)
    unfold State.Notes at hrecord
    unfold State.note
    split
    · exact ⟨rfl, rfl⟩
    · rw [hrecord]
      exact ⟨rfl, rfl⟩
  rw [hdetect]
  unfold State.startHandling State.fence
  extract_lets limit s1 st r s2 i
  have hregs : s2.regs = s.regs ∧ s2.bind = s.bind := hnote
  have hi : i = n.val := hindex
  clear_value s2 i
  subst hi
  simp only [hkind]
  rw [State.fenceCan_reg]
  unfold State.setReg State.reg
  rw [hregs.1, hregs.2]

/-- A warning leaves every slot attached, held or free as it was. -/
theorem State.detect_W_status (s : State) {u : Nat} (src : Nat) (forced : Bool) (hu : unitKind u ≠ Kind.leg) (n : Nat) :
    ((s.detect u .W src forced).slot n).status = (s.slot n).status := by
  have hnote := (s.tests_note_W u src forced hu).status n
  unfold State.detect
  cases (s.unit u).state
  · simp only
    split
    · rfl
    · exact hnote
  · rfl
  · exact hnote
  · exact hnote

section
variable {s : State} (hc : s.Calm) {n : Fin 4}
include hc

/-! ## Errors by state (R474, R476, R484) -/

omit hc in
theorem exec_canError (code : Fin 7) (tr af ex dp df : Bool) (hcode : code.val ≠ 0) :
    exec (.canError n code tr af ex dp df) s = .next (s.act fun _ => s.canErr n code tr af ex dp df) :=
  congrArg Host.Outcome.next (s.act_to _ _ (if_neg hcode))

omit hc in
/-- A controller's state as its item holds it. -/
theorem State.canState_reg {k : Nat} (hst : s.regN (Item.CAN.STATE n) = k) : s.reg (Item.CAN.STATE n) = nw k := by
  rw [← hst]
  unfold nw State.regN
  rw [BitVec.ofNat_toNat, BitVec.setWidth_eq]

theorem exec_canError_nextEntry (code : Fin 7) (tr af ex dp df : Bool) (hst : s.regN (Item.CAN.STATE n) = 1)
    (hcode : code.val = 1 ∨ code.val = 2 ∨ code.val = 6) (hnext : s.ardNominal n ((s.can n).entry + 1) ≠ 0) :
    ∃ t, exec (.canError n code tr af ex dp df) s = .next t ∧ (t.can n).entry = (s.can n).entry + 1 ∧ t.reg (Item.CAN.STATE n) = 1
      ∧ t.reg (Item.CAN.ERR_FRAME_CNT n) = s.reg (Item.CAN.ERR_FRAME_CNT n) + 1 := by
  have hentry : ((s.canErred n code).can n).entry = (s.can n).entry := by rw [State.canErred_can]
  have hnominal : (s.canErred n code).ardNominal n ((s.can n).entry + 1) ≠ 0 := by
    have hsame : (s.canErred n code).ardNominal n ((s.can n).entry + 1) = s.ardNominal n ((s.can n).entry + 1) := by
      unfold State.ardNominal
      split
      · rw [show Item.CAN.ARD n ((s.can n).entry + 1) = Item.addr 0x1C n (0x008 + ((s.can n).entry + 1)) from rfl,
          State.canErred_reg s n code (by omega)]
      · rfl
    rw [hsame]
    exact hnext
  have hstate := (s.canErred_reg n code (i := 0x001) (by decide)).trans (State.canState_reg hst)
  have hcount := s.canErred_count n code
  have hwires := s.wires_canErred n code
  rw [exec_canError code tr af ex dp df (by omega), State.canErr_detecting hst hcode]
  generalize s.canErred n code = g at *
  have hwork : g.canNextEntry n = g.setCan n { g.can n with entry := (s.can n).entry + 1 } := by
    unfold State.canNextEntry
    simp only [hentry]
    exact if_neg hnominal
  refine (hwires.trans (State.wires_setCan _ n _)).next hc (f := fun _ => g.canNextEntry n) hwork ⟨?_, hstate, hcount⟩
  rw [State.keepLive_can', State.can_setCan_same]

theorem exec_canError_detects (code : Fin 7) (tr af ex df : Bool) (hst : s.regN (Item.CAN.STATE n) = 2) (hcode : code.val ≠ 0)
    (hard : s.regN (Item.CAN.ARD_EN n) = 1) :
    ∃ t, exec (.canError n code tr af ex false df) s = .next t ∧ t.reg (Item.CAN.STATE n) = 1 ∧ (t.can n).entry = 0
      ∧ t.reg (Item.CAN.ARD_LOCK n) = 0 := by
  have henabled : (s.canErred n code).regN (Item.CAN.ARD_EN n) = 1 :=
    (congrArg BitVec.toNat (s.canErred_reg n code (i := 0x006) (by decide))).trans hard
  have hwires := s.wires_canErred n code
  rw [exec_canError code tr af ex false df hcode, State.canErr_listening hst]
  generalize s.canErred n code = g at *
  have hwork : g.canListenError n false = g.canDetect n 0 := State.canListenError_nominal.trans (if_neg (not_not.mpr henabled))
  refine (hwires.trans (State.wires_canDetect _ n 0)).next hc (f := fun _ => g.canListenError n false) hwork ⟨?_, ?_, ?_⟩
  · exact State.reg_setReg_same ..
  · rw [State.keepLive_can', State.canDetect_can]
  · exact (State.reg_setReg_other _ _ _ _ (Item.addr_ne (by decide))).trans (State.reg_setReg_same ..)

omit hc in
/-- A controller whose counters stay at 127 raises nothing. -/
theorem State.canPassive_active {g : State} (was forced : Bool) (htec : (g.can n).tec ≤ 127) (hrec : (g.can n).rec' ≤ 127) :
    g.canPassive n was forced = g := by
  unfold State.canPassive
  extract_lets c
  have hactive : decide (127 < c.tec ∨ 127 < c.rec') = false := decide_eq_false (by rw [show c = g.can n from rfl]; omega)
  rw [hactive, Bool.and_false, if_neg Bool.false_ne_true]

/-- R484: an error in NORMAL that leaves both counters at 127 or below counts, and no more. -/
theorem exec_canError_counts (code : Fin 7) (tr af dp df : Bool) (hst : s.regN (Item.CAN.STATE n) = 3) (hcode : code.val ≠ 0)
    (hno : tr = false ∨ df = false) {d : Can}
    (hcount : (s.canErred n code).canCount n tr af false = (s.canErred n code).setCan n d) (htec : d.tec ≤ 127) (hrec : d.rec' ≤ 127) :
    ∃ t, exec (.canError n code tr af false dp df) s = .next t ∧ t.can n = d ∧ t.unit = s.unit ∧ t.reg (Item.CAN.STATE n) = 3 := by
  have hstate := (s.canErred_reg n code (i := 0x001) (by decide)).trans (State.canState_reg hst)
  have hwires := s.wires_canErred n code
  rw [exec_canError code tr af false dp df hcode, State.canErr_normal hst hno, hcount]
  generalize s.canErred n code = g at *
  have hcan : (g.setCan n d).can n = d := g.can_setCan_same n d
  have hwork : (g.setCan n d).canPassive n (g.can n).passive false = g.setCan n d :=
    State.canPassive_active _ _ (by rw [hcan]; exact htec) (by rw [hcan]; exact hrec)
  have hwired := hwires.trans (State.wires_setCan g n d)
  exact hwired.next hc (f := fun _ => (g.setCan n d).canPassive n (g.can n).passive false) hwork ⟨hcan, hwired.leaves.1, hstate⟩

theorem exec_canError_receiver (code : Fin 7) (af dp df : Bool) (hst : s.regN (Item.CAN.STATE n) = 3) (hcode : code.val ≠ 0)
    (htec : (s.can n).tec ≤ 127) (hrec : (s.can n).rec' + 8 ≤ 127) :
    ∃ t, exec (.canError n code false af false dp df) s = .next t ∧ (t.can n).rec' = (s.can n).rec' + (if af then 8 else 1)
      ∧ (t.can n).tec = (s.can n).tec ∧ (t.can n).lastError = code.val ∧ t.unit = s.unit ∧ t.reg (Item.CAN.STATE n) = 3 := by
  have hstep : (if af = true then 8 else 1) ≤ 8 := by split <;> omega
  have hmin : Nat.min 255 ((s.can n).rec' + (if af then 8 else 1)) = (s.can n).rec' + (if af then 8 else 1) := Nat.min_eq_right (by omega)
  have hcount : (s.canErred n code).canCount n false af false = (s.canErred n code).setCan n
      { s.can n with lastError := code, rec' := (s.can n).rec' + (if af then 8 else 1) } := by
    unfold State.canCount
    simp only [Bool.false_eq_true, if_false, State.canErred_can, hmin]
  obtain ⟨t, ht, hcan, hunit, hstate⟩ := exec_canError_counts hc code false af dp df hst hcode (.inl rfl) hcount htec
    (show (s.can n).rec' + (if af then 8 else 1) ≤ 127 by omega)
  rw [ht]
  exact ⟨t, rfl, by rw [hcan], by rw [hcan], by rw [hcan], hunit, hstate⟩

theorem exec_canError_transmitter (code : Fin 7) (af dp : Bool) (hst : s.regN (Item.CAN.STATE n) = 3) (hcode : code.val ≠ 0)
    (htec : (s.can n).tec + 8 ≤ 127) (hrec : (s.can n).rec' ≤ 127) :
    ∃ t, exec (.canError n code true af false dp false) s = .next t ∧ (t.can n).tec = (s.can n).tec + 8
      ∧ (t.can n).rec' = (s.can n).rec' ∧ t.unit = s.unit := by
  have hcount : (s.canErred n code).canCount n true af false = (s.canErred n code).setCan n
      { s.can n with lastError := code, tec := (s.can n).tec + 8 } := by
    unfold State.canCount
    simp only [Bool.false_eq_true, if_false, if_true, State.canErred_can]
  obtain ⟨t, ht, hcan, hunit, -⟩ := exec_canError_counts hc code true af dp false hst hcode (.inr rfl) hcount htec hrec
  exact ⟨t, ht, by rw [hcan], by rw [hcan], hunit⟩

/-! ## Bus-off, its end, a dominant bus (R484, R487) -/

omit hc in
/-- A bus-off noted: within 10 s of now, and counted (R484). -/
def State.busOffNoted (s : State) (n : Nat) : State :=
  (s.setCan n { s.can n with
    busOffs := s.time.now :: (s.can n).busOffs.filter (fun x => decide (s.time.now < x + 10000000000)), chosen := none }).bump (Item.CAN.BO_CNT n)

omit hc in
/-- Where a bus-off leads: with BO_AUTO into recovery, else into BUS_OFF. -/
def State.busOffEntered (s : State) (n : Nat) : State :=
  if s.regN (Item.CAN.BO_AUTO n) = 1 then s.canRecover n else s.setCanState n 4

omit hc in
theorem State.busOffEntered_spec (s : State) (n : Nat) :
    s.Wires (s.busOffEntered n)
      ∧ (s.busOffEntered n).reg (Item.CAN.STATE n) = (if s.regN (Item.CAN.BO_AUTO n) = 1 then 5 else 4)
      ∧ ∀ i, i ≠ 0x001 → (s.busOffEntered n).reg (Item.addr 0x1C n i) = s.reg (Item.addr 0x1C n i) := by
  unfold State.busOffEntered
  split
  · exact ⟨(s.wires_setCan n _).trans (State.wires_setReg _ _ _), State.reg_setReg_same ..,
      fun i hi => State.reg_setReg_other (s.setCan n _) _ _ _ (Item.addr_ne (by omega))⟩
  · exact ⟨s.wires_setReg _ _, State.reg_setReg_same .., fun i hi => State.reg_setReg_other _ _ _ _ (Item.addr_ne (by omega))⟩

omit hc in
theorem exec_canBusOff (hst : s.regN (Item.CAN.STATE n) = 3) (htec : 255 < (s.can n).tec) :
    exec (.canBusOff n) s = .next (s.act fun _ =>
      if s.regN (Item.CAN.BO_MAX n) ≤ ((s.can n).busOffs.filter (fun x => decide (s.time.now < x + 10000000000))).length + 1 then
        ((s.busOffNoted n).busOffEntered n).detect (unitOf Kind.can n) .F 1 (s.forced (unitOf Kind.can n) 0)
      else ((s.busOffNoted n).busOffEntered n).detect (unitOf Kind.can n) .W 16 (s.forced (unitOf Kind.can n) 0)) := by
  have hruns : ¬ (s.canState n ≠ 3 ∨ (s.can n).tec ≤ 255) := by
    rintro (h | h)
    · exact h hst
    · omega
  have hmax : (s.busOffNoted n).regN (Item.CAN.BO_MAX n) = s.regN (Item.CAN.BO_MAX n) :=
    congrArg BitVec.toNat (State.reg_setReg_other (s.setCan n _) _ _ _ (Item.addr_ne (by decide)))
  refine congrArg Host.Outcome.next (s.act_to _ _ ((if_neg hruns).trans ?_))
  rw [← hmax]
  rfl

theorem exec_canBusOff_counts (hst : s.regN (Item.CAN.STATE n) = 3) (htec : 255 < (s.can n).tec) (hfault : s.Notices (unitOf Kind.can n) 1)
    (hwarning : s.Notices (unitOf Kind.can n) 16) :
    ∃ t, exec (.canBusOff n) s = .next t ∧ t.reg (Item.CAN.BO_CNT n) = s.reg (Item.CAN.BO_CNT n) + 1 ∧
      if s.regN (Item.CAN.BO_MAX n) ≤ ((s.can n).busOffs.filter (fun x => decide (s.time.now < x + 10000000000))).length + 1 then
        s.TakesUp t (unitOf Kind.can n) .handling .F 1 ∧ t.reg (Item.CAN.STATE n) = 6
      else t.Shows (unitOf Kind.can n) .idle .W 16
        ∧ t.reg (Item.CAN.STATE n) = if s.regN (Item.CAN.BO_AUTO n) = 1 then 5 else 4 := by
  have hnoted : s.Wires (s.busOffNoted n) := (s.wires_setCan _ _).trans (State.wires_bump _ _)
  have hauto : (s.busOffNoted n).regN (Item.CAN.BO_AUTO n) = s.regN (Item.CAN.BO_AUTO n) :=
    congrArg BitVec.toNat (State.reg_setReg_other (s.setCan n _) _ _ _ (Item.addr_ne (by decide)))
  have hcounted : (s.busOffNoted n).reg (Item.CAN.BO_CNT n) = s.reg (Item.CAN.BO_CNT n) + 1 := State.reg_setReg_same ..
  obtain ⟨hentered, hstate, hsame⟩ := (s.busOffNoted n).busOffEntered_spec n
  have hcount := (hsame 0x018 (by decide)).trans hcounted
  rw [hauto] at hstate
  have hwires := hnoted.trans hentered
  have hleg : unitKind (unitOf Kind.can n) ≠ Kind.leg := by rw [unitKind_can]; decide
  have hsheaf : unitKind (unitOf Kind.can n) ≠ Kind.sheaf := by rw [unitKind_can]; decide
  rw [exec_canBusOff hst htec]
  generalize (s.busOffNoted n).busOffEntered n = g at *
  have hposed := hwires.poised (unitOf Kind.can n)
  split
  · have hreg := g.detect_F_can_reg n 1 (s.forced (unitOf Kind.can n) 0) (hposed.notices hfault).1
    have htaken := hposed.takesUp hfault (s.forced (unitOf Kind.can n) 0) (by decide) hsheaf
    have hdetects := g.detects_detect (unitOf Kind.can n) .F 1 (s.forced (unitOf Kind.can n) 0) (fun h => absurd h hsheaf)
    have hcalm := hdetects.calmAs
    refine hc.next rfl (hcalm.waits.trans (by rw [hwires.eq])) (hcalm.swaps.trans (by rw [hwires.eq]))
      (hcalm.state.trans (by rw [hwires.eq])) ⟨?_, htaken, ?_⟩
    · exact (congrFun hreg _).trans ((State.reg_setReg_other _ _ _ _ (Item.addr_ne (by decide))).trans hcount)
    · exact (congrFun hreg _).trans (State.reg_setReg_same ..)
  · have hwarns := g.warns_detect (unitOf Kind.can n) 16 (s.forced (unitOf Kind.can n) 0) hleg
    have hshows := hposed.shows hwarning (s.forced (unitOf Kind.can n) 0)
    generalize g.detect (unitOf Kind.can n) .W 16 (s.forced (unitOf Kind.can n) 0) = t at *
    unfold State.Warns at hwarns
    have hreg : t.reg = g.reg := by rw [hwarns]; rfl
    exact hc.next rfl (by rw [hwarns, hwires.eq]) (by rw [hwarns, hwires.eq]) (by rw [hwarns, hwires.eq])
      ⟨(congrFun hreg _).trans hcount, hshows, (congrFun hreg _).trans hstate⟩

theorem exec_canRecoveryEnd_ends (hst : s.regN (Item.CAN.STATE n) = 5) :
    ∃ t, exec (.canRecoveryEnd n) s = .next t ∧ t.reg (Item.CAN.STATE n) = 3 ∧ (t.can n).tec = 0 ∧ (t.can n).rec' = 0
      ∧ (s.can n).recoverFrom + 128 * 11 * s.bitCycles n * 25 / 2 ≤ t.time.now ∧ ∀ j, (t.can n).object j = (s.can n).object j := by
  have hwires := ((s.wires_reach ((s.can n).recoverFrom + 128 * 11 * s.bitCycles n * 25 / 2)).trans
    (State.wires_setCan _ n { s.can n with tec := 0, rec' := 0 })).trans (State.wires_setReg _ (Item.CAN.STATE n) (nw 3))
  refine hwires.next hc (if_neg (fun h => h hst)) ⟨State.reg_setReg_same .., ?_⟩
  have hcan : (s.keepLive ((((s.reach ((s.can n).recoverFrom + 128 * 11 * s.bitCycles n * 25 / 2)).setCan n
      { s.can n with tec := 0, rec' := 0 })).setReg (Item.CAN.STATE n) (nw 3))).can n = { s.can n with tec := 0, rec' := 0 } :=
    State.can_setCan_same _ n _
  rw [hcan, hwires.keepLive_now]
  exact ⟨rfl, rfl, le_max_right .., fun _ => rfl⟩

theorem exec_canDominantTimeout_fences (us : Nat) (hon : s.regN (Item.CAN.STATE n) ≠ 0) (hfree : s.regN (Item.CAN.STATE n) ≠ 6)
    (hlong : s.regN (Item.CAN.DOM_MAX n) ≤ us) (hnote : s.Notices (unitOf Kind.can n) 2) :
    ∃ t, exec (.canDominantTimeout n us) s = .next t ∧ s.TakesUp t (unitOf Kind.can n) .handling .F 2 ∧ t.reg (Item.CAN.STATE n) = 6 := by
  have hsheaf : unitKind (unitOf Kind.can n) ≠ Kind.sheaf := by rw [unitKind_can]; decide
  have hdue : ¬ (s.canState n = 0 ∨ s.canState n = 6
      ∨ (!(s.forced (unitOf Kind.can n) 3 || decide (s.regN (Item.CAN.DOM_MAX n) ≤ us))) = true) := by
    rintro (h | h | h)
    · exact hon h
    · exact hfree h
    · simp [hlong] at h
  have hcalm := (s.detects_detect (unitOf Kind.can n) .F 2 (s.forced (unitOf Kind.can n) 3) (fun h => absurd h hsheaf)).calmAs
  refine hcalm.next hc (if_neg hdue) ⟨((State.Wires.refl s).poised _).takesUp hnote _ (by decide) hsheaf, ?_⟩
  exact (congrFun (s.detect_F_can_reg n 2 _ hnote.1) _).trans (State.reg_setReg_same ..)

theorem exec_canDominantTimeout_nothing (us : Nat) (hshort : us < s.regN (Item.CAN.DOM_MAX n)) (hforce : s.forced (unitOf Kind.can n) 3 = false) :
    ∃ t, exec (.canDominantTimeout n us) s = .next t ∧ t.unit = s.unit
      ∧ t.reg (Item.CAN.STATE n) = nw (s.regN (Item.CAN.STATE n)) := by
  have hnone : s.canState n = 0 ∨ s.canState n = 6
      ∨ (!(s.forced (unitOf Kind.can n) 3 || decide (s.regN (Item.CAN.DOM_MAX n) ≤ us))) = true :=
    .inr (.inr (by simp [hforce, hshort]))
  exact hc.next (g := s) (if_pos hnone) rfl rfl rfl ⟨rfl, State.canState_reg rfl⟩

/-! ## Heartbeats (R492) -/

theorem exec_canHostHeartbeat_hears (k : Fin 8) {f : CanFrame} {sof : Nat} (hst : s.regN (Item.CAN.STATE n) = 2 ∨ s.regN (Item.CAN.STATE n) = 3)
    (hown : s.canForeign n f = false) (hslot : k.val ∈ s.canSlots n) (hmatch : (s.can n).match f = some (4 * k.val + 2))
    (hsound : ((s.can n).object (4 * k.val + 2)).poisoned = false) (hlong : 6 ≤ f.data.length)
    (hident : s.reg (Item.HOST.IDENT k) = 0 ∨ s.reg (Item.HOST.IDENT k) = nw (beAt f.data 0 4)) :
    ∃ t, exec (.canHostHeartbeat n k f sof) s = .next t ∧ t.reg (Item.CAN.STATE n) = 3
      ∧ KMap.get (fun _ => 0) (t.can n).heard k.val = t.time.now ∧ sof ≤ t.time.now := by
  obtain ⟨hheard, hobjects, -, hregs, hnow⟩ := s.canHeard_spec n sof
  have hreceives := State.canStore_receives (s := s) (g := s.canHeard n sof) (n := n) (f := f) (sof := sof) (fun j hj => by
    rw [hmatch] at hj
    rw [← Option.some.inj hj]
    exact hsound) hobjects
  have hwires := hheard.trans hreceives.wires
  have hpass : ¬ ((s.canState n ≠ 2 ∧ s.canState n ≠ 3) ∨ k.val ∉ s.canSlots n ∨ (s.can n).match f ≠ some (4 * k.val + 2)) := by
    rintro (h | h | h)
    · exact hst.elim h.1 h.2
    · exact h hslot
    · exact h hmatch
  have htaken : ∀ g : State, (s.canHeard n sof).canStore n f sof = g → g.reg (Item.HOST.IDENT k) = s.reg (Item.HOST.IDENT k) →
      exec (.canHostHeartbeat n k f sof) s = .next (s.act fun _ =>
        if (g.setCan n { g.can n with heard := KMap.put (fun _ => 0) (g.can n).heard k.val g.time.now }).canState n = 2 then
          (g.setCan n { g.can n with heard := KMap.put (fun _ => 0) (g.can n).heard k.val g.time.now }).setCanState n 3
        else g.setCan n { g.can n with heard := KMap.put (fun _ => 0) (g.can n).heard k.val g.time.now }) := by
    rintro g rfl hsame
    have haccepts : ¬ (((s.canHeard n sof).canStore n f sof).reg (Item.HOST.IDENT k) ≠ 0
        ∧ ((s.canHeard n sof).canStore n f sof).reg (Item.HOST.IDENT k) ≠ nw (beAt f.data 0 4)) := by
      rw [hsame]
      exact fun h => hident.elim h.1 h.2
    exact congrArg Host.Outcome.next (s.act_to _ _ ((if_neg hpass).trans ((if_neg (by rw [hown]; decide)).trans
      ((if_neg (Nat.not_lt.mpr hlong)).trans (if_neg haccepts)))))
  have hreg : ∀ a, a ≠ Item.CAN.RX_CNT n → a ≠ Item.CAN.RX_UNMATCHED n →
      ((s.canHeard n sof).canStore n f sof).reg a = s.reg a := fun a h h' => (hreceives.state a h h').trans (congrFun hregs a)
  have hstate := hreg (Item.CAN.STATE n) (Item.addr_ne (by decide)) (Item.addr_ne (by decide))
  have hstored : ((s.canHeard n sof).canStore n f sof).time.now = max s.time.now sof := by rw [hreceives.time, hnow]
  rw [htaken _ rfl (hreg _ (Item.addr_ne_of_item (by decide)) (Item.addr_ne_of_item (by decide)))]
  generalize (s.canHeard n sof).canStore n f sof = g at *
  let v := g.setCan n { g.can n with heard := KMap.put (fun _ => 0) (g.can n).heard k.val g.time.now }
  have hv : s.Wires v := hwires.trans (State.wires_setCan ..)
  have hvheard : KMap.get (fun _ => 0) (v.can n).heard k.val = g.time.now := by
    rw [State.can_setCan_same]
    exact KMap.get_put_same ..
  have hvstate : v.canState n = s.canState n := congrArg BitVec.toNat hstate
  have hlate : sof ≤ g.time.now := by rw [hstored]; exact le_max_right ..
  rcases hst with hst | hst
  · have hwork : (if v.canState n = 2 then v.setCanState n 3 else v) = v.setCanState n 3 := if_pos (hvstate.trans hst)
    have hset := hv.trans (State.wires_setReg v (Item.CAN.STATE n) (nw 3))
    refine hset.next hc hwork ⟨State.reg_setReg_same .., ?_, ?_⟩
    · rw [hset.keepLive_now]
      exact hvheard
    · rw [hset.keepLive_now]
      exact hlate
  · have hnormal : s.canState n = 3 := hst
    have hwork : (if v.canState n = 2 then v.setCanState n 3 else v) = v := if_neg (by omega)
    refine hv.next hc hwork ⟨?_, ?_, ?_⟩
    · exact hstate.trans (State.canState_reg hst)
    · rw [hv.keepLive_now]
      exact hvheard
    · rw [hv.keepLive_now]
      exact hlate

theorem exec_canHeartbeatTimeout_detaches (k : Fin 8) (hattached : (s.slot k).status = .attached) (hport : (s.slot k).port = n.val + 3)
    (hnote : s.Notices (unitOf Kind.can n) 19) :
    ∃ t, exec (.canHeartbeatTimeout n k) s = .next t ∧ (t.slot k).status = .held ∧ t.Shows (unitOf Kind.can n) .idle .W 19
      ∧ KMap.get (fun _ => 0) (s.can n).heard k.val + s.regN (Item.CAN.HB_TMO n) * 1000000 ≤ t.time.now
      ∧ (∀ x ∈ t.streams, x.slot ≠ k.val) := by
  have hleg : unitKind (unitOf Kind.can n) ≠ Kind.leg := by rw [unitKind_can]; decide
  let v := s.reach (KMap.get (fun _ => 0) (s.can n).heard k.val + s.regN (Item.CAN.HB_TMO n) * 1000000)
  have hv : s.Wires v := s.wires_reach _
  have hheld : ((v.detachSlot k).slot k).status = .held := by
    rw [State.detachSlot_slot, if_pos ⟨rfl, hattached⟩]
    rfl
  have hstreams : ∀ x ∈ (v.detachSlot k).streams, x.slot ≠ k.val := by
    rw [State.detachSlot_holds (s := v) hattached]
    intro x hx
    simpa using (List.mem_filter.mp hx).2
  have hdetached := v.detachSlot_eq k
  have hposed : s.Poised (v.detachSlot k) (unitOf Kind.can n) := (hv.poised _).trans (by rw [hdetached]; exact ⟨rfl, rfl, rfl, le_rfl⟩)
  have hrow : exec (.canHeartbeatTimeout n k) s = .next (s.act fun _ => (v.detachSlot k).detect (unitOf Kind.can n) .W 19 false) :=
    congrArg Host.Outcome.next (s.act_to _ _ (if_neg (by rintro (h | h); exacts [h hattached, h hport])))
  rw [hrow]
  have hnow : (v.detachSlot k).time = v.time ∧ (v.detachSlot k).waits = s.waits ∧ (v.detachSlot k).swaps = s.swaps
      ∧ (v.detachSlot k).dev.state = s.dev.state := by
    rw [hdetached]
    exact ⟨rfl, rfl, rfl, rfl⟩
  obtain ⟨htime, hwaits, hswaps, hstate⟩ := hnow
  generalize v.detachSlot k = g at *
  have hwarns := g.warns_detect (unitOf Kind.can n) 19 false hleg
  have hstatus := g.detect_W_status 19 false hleg k
  have hshows := hposed.shows hnote false
  generalize g.detect (unitOf Kind.can n) .W 19 false = t at *
  unfold State.Warns at hwarns
  refine hc.next rfl (by rw [hwarns]; exact hwaits) (by rw [hwarns]; exact hswaps) (by rw [hwarns]; exact hstate)
    ⟨hstatus.trans hheld, hshows, ?_, ?_⟩
  · have htnow : t.time = v.time := by rw [hwarns]; exact htime
    show _ ≤ max s.time.now t.time.now
    rw [htnow]
    exact (le_max_right s.time.now _).trans (le_max_right _ _)
  · have hsame : t.streams = g.streams := by rw [hwarns]
    show ∀ x ∈ t.streams, _
    rw [hsame]
    exact hstreams

omit hc in
/-- What the device's heartbeat to a slot says (R492). -/
def State.beatData (s : State) (k seq : Nat) : List Byte :=
  [BitVec.ofNat 8 s.dev.state.code, BitVec.ofNat 8 (s.slot k).status.code] ++ beBytes 2 s.runningIface ++ beBytes 2 seq ++ [0, 0]

omit hc in
/-- The heartbeat in the object of a slot. -/
def State.beatTo (s : State) (n seq k : Nat) : State :=
  s.setCan n ((s.can n).setObject (4 * k + 3) (((s.can n).object (4 * k + 3)).request (s.beatData k seq) s.time.now))

omit hc in
theorem State.beatTo_object (s : State) (n seq k j : Nat) :
    ((s.beatTo n seq k).can n).object j
      = if j = 4 * k + 3 then ((s.can n).object (4 * k + 3)).request (s.beatData k seq) s.time.now else (s.can n).object j := by
  unfold State.beatTo
  rw [State.can_setCan_same, Can.object_setObject]

omit hc in
theorem State.beatTo_beat (s : State) (n seq k : Nat) : ((s.beatTo n seq k).can n).beat = (s.can n).beat := by
  unfold State.beatTo
  rw [State.can_setCan_same]
  rfl

omit hc in
/-- Heartbeats to the slots of a list: each stands in its slot's object, pending. -/
theorem State.forEach_beatTo (n seq : Nat) (l : List Nat) (s : State) :
    s.Wires (s.forEach l (fun u k => u.beatTo n seq k)) ∧ (s.forEach l (fun u k => u.beatTo n seq k)).time = s.time
      ∧ ((s.forEach l (fun u k => u.beatTo n seq k)).can n).beat = (s.can n).beat
      ∧ (∀ j, (∀ k ∈ l, j ≠ 4 * k + 3) → ((s.forEach l (fun u k => u.beatTo n seq k)).can n).object j = (s.can n).object j)
      ∧ ∀ k ∈ l, (((s.forEach l (fun u k => u.beatTo n seq k)).can n).object (4 * k + 3)).pending = true
        ∧ (((s.forEach l (fun u k => u.beatTo n seq k)).can n).object (4 * k + 3)).data = s.beatData k seq := by
  induction l generalizing s with
  | nil => exact ⟨.refl s, rfl, rfl, fun _ _ => rfl, fun k hk => absurd hk List.not_mem_nil⟩
  | cons i l ih =>
    obtain ⟨hwires, htime, hbeat, hothers, hsent⟩ := ih (s.beatTo n seq i)
    rw [State.forEach_cons]
    refine ⟨(s.wires_setCan n _).trans hwires, htime, hbeat.trans (s.beatTo_beat n seq i), fun j hj => ?_, fun k hk => ?_⟩
    · obtain ⟨hi, hl⟩ := List.forall_mem_cons.mp hj
      exact (hothers j hl).trans ((s.beatTo_object n seq i j).trans (if_neg hi))
    · by_cases hl : k ∈ l
      · exact hsent k hl
      · have hki : k = i := (List.mem_cons.mp hk).resolve_right hl
        have hobject : ((State.forEach (s.beatTo n seq i) l (fun u k => u.beatTo n seq k)).can n).object (4 * k + 3)
            = ((s.can n).object (4 * k + 3)).request (s.beatData k seq) s.time.now :=
          (hothers _ (fun m hm h => hl (by rwa [show k = m by omega]))).trans
            (hki ▸ (s.beatTo_object n seq i (4 * i + 3)).trans (if_pos rfl))
        rw [hobject]
        exact ⟨rfl, rfl⟩

omit hc in
/-- The turn of the device's heartbeat, its sequence number taken (R492). -/
def State.beatTaken (s : State) (n : Nat) : State :=
  (s.every (Timer.beat n) (s.regN (Item.CAN.HB_PERIOD n) * 1000000)).setCan n { s.can n with beat := ((s.can n).beat + 1) % 65536 }

theorem exec_canDeviceHeartbeat_beats (hst : s.regN (Item.CAN.STATE n) = 3) :
    ∃ t, exec (.canDeviceHeartbeat n) s = .next t ∧ (t.can n).beat = ((s.can n).beat + 1) % 65536
      ∧ s.lastDone (Timer.beat n) + s.regN (Item.CAN.HB_PERIOD n) * 1000000 ≤ t.time.now
      ∧ ∀ k ∈ s.canSlots n, (s.slot k).status ≠ .free →
        ((t.can n).object (4 * k + 3)).pending = true ∧ ((t.can n).object (4 * k + 3)).data = s.beatData k (s.can n).beat := by
  have hrow : exec (.canDeviceHeartbeat n) s = .next (s.act fun _ =>
      (s.beatTaken n).forEach ((s.canSlots n).filter (fun k => decide ((s.slot k).status ≠ .free)))
        (fun u k => u.beatTo n (s.can n).beat k)) :=
    congrArg Host.Outcome.next (s.act_to _ _ (if_neg (fun h => h hst)))
  have htaken : s.Wires (s.beatTaken n) := (s.wires_every _ _).trans (State.wires_setCan ..)
  have hnow : s.lastDone (Timer.beat n) + s.regN (Item.CAN.HB_PERIOD n) * 1000000 ≤ (s.beatTaken n).time.now := s.every_now ..
  have hbeat : ((s.beatTaken n).can n).beat = ((s.can n).beat + 1) % 65536 := by
    unfold State.beatTaken
    rw [State.can_setCan_same]
  have hdata : ∀ k seq, (s.beatTaken n).beatData k seq = s.beatData k seq := fun _ _ => rfl
  rw [hrow]
  generalize s.beatTaken n = g at *
  obtain ⟨hwires, htime, hsame, -, hsent⟩ :=
    State.forEach_beatTo n (s.can n).beat ((s.canSlots n).filter (fun k => decide ((s.slot k).status ≠ .free))) g
  have hwired := htaken.trans hwires
  refine hwired.next hc rfl ⟨hsame.trans hbeat, ?_, fun k hk hused => ?_⟩
  · rw [hwired.keepLive_now, htime]
    exact hnow
  · rw [← hdata]
    exact hsent k (List.mem_filter.mpr ⟨hk, decide_eq_true hused⟩)

/-! ## Compact messages (R489, R490) -/

omit hc in
/-- What refuses an opcode without a start time looks at rights, mapping and the device's state. -/
theorem State.refusal_congr {t : State} {m : HostMsg} (hrights : ∀ k, t.rights k = s.rights k) (hstate : t.dev.state = s.dev.state)
    (hbind : t.bind = s.bind) (hflags : m.flags.toNat.testBit 0 = false) (k : Nat) : t.refusal k m = s.refusal k m := by
  have hright : ∀ r, t.hasRight k r = s.hasRight k r := fun r => by unfold State.hasRight; rw [hrights]
  have hunit : ∀ op u, t.unitSuits op u = s.unitSuits op u := fun op u => by
    unfold State.unitSuits State.unitExists State.stype State.setCount State.trcSheaf State.actSheaf
    rw [hbind]
  unfold State.refusal
  simp only [hright, hunit, hstate, hflags, Bool.false_eq_true, false_and, if_false]

section
variable {f : CanFrame} {k : Fin 8} (sof : Nat) (hst : s.regN (Item.CAN.STATE n) = 2 ∨ s.regN (Item.CAN.STATE n) = 3)
  (hown : s.canForeign n f = false) (hslot : k.val ∈ s.canSlots n)
  (hident : nw f.ident = nw (bitsOf (s.reg (Item.CAN.MAP_BASE n)) 28 0 + 4 * k.val))
  (hide : f.ide = bitOf (s.reg (Item.CAN.MAP_BASE n)) 31) (hrtr : f.rtr = false)
  (hsound : ∀ j, (s.can n).match f = some j → ((s.can n).object j).poisoned = false)
include hst hown hslot hident hide hrtr

omit hc in
/-- The row of a compact message, its frame stored in `g`. -/
theorem exec_compactMessage {g u : State} (hg : (s.canHeard n sof).canStore n f sof = g)
    (hu : (if compactBad f then g.bump (Item.HOST.LEN_ERR k)
      else
        let m := g.expand k f.data
        if m.kind.toNat = 0x13 then g.collect (n.val + 3) m
        else if m.kind.toNat ≠ 0x10 then g
        else if m.opcode.toNat = Op.hostAttach then
          if beAt m.payload 0 1 = 2 then g.detach (n.val + 3) (some k.val) m
          else
            let u := g.attach (n.val + 3) (some k.val) m
            let c := u.can n
            if (g.slot k).status ≠ .attached ∧ (u.slot k).status = .attached then
              u.setCan n { c with heard := KMap.put (fun _ => 0) c.heard k.val u.time.now }
            else u
        else g.accept (n.val + 3) m) = u) :
    exec (.compactMessage n k f sof) s = .next (s.act fun _ => u) := by
  have hpass : ¬ ((s.canState n ≠ 2 ∧ s.canState n ≠ 3) ∨ k.val ∉ s.canSlots n
      ∨ nw f.ident ≠ nw (bitsOf (s.reg (Item.CAN.MAP_BASE n)) 28 0 + 4 * k.val)
      ∨ f.ide ≠ bitOf (s.reg (Item.CAN.MAP_BASE n)) 31 ∨ f.rtr = true) := by
    rintro (h | h | h | h | h)
    · exact hst.elim h.1 h.2
    · exact h hslot
    · exact h hident
    · exact h hide
    · rw [hrtr] at h
      cases h
  subst hg
  exact congrArg Host.Outcome.next (s.act_to _ _ ((if_neg hpass).trans ((if_neg (by rw [hown]; decide)).trans hu)))

include hsound

theorem exec_compactMessage_bad (hbad : compactBad f = true) :
    ∃ t, exec (.compactMessage n k f sof) s = .next t ∧ t.reg (Item.HOST.LEN_ERR k) = s.reg (Item.HOST.LEN_ERR k) + 1
      ∧ t.slot = s.slot ∧ t.cmd = s.cmd := by
  obtain ⟨hheard, hobjects, -, hregs, -⟩ := s.canHeard_spec n sof
  have hreceives := State.canStore_receives (sof := sof) hsound hobjects
  have hreg := (hreceives.state (Item.HOST.LEN_ERR k) (Item.addr_ne_of_item (by decide)) (Item.addr_ne_of_item (by decide))).trans (congrFun hregs _)
  have hwires := (hheard.trans hreceives.wires).trans (State.wires_bump _ (Item.HOST.LEN_ERR k))
  obtain ⟨-, -, hslots, hcmd⟩ := hwires.leaves
  rw [exec_compactMessage sof hst hown hslot hident hide hrtr rfl (if_pos hbad)]
  exact hwires.next hc rfl ⟨(State.reg_setReg_same ..).trans (by rw [hreg]), hslots, hcmd⟩

theorem exec_compactMessage_taken (hgood : compactBad f = false) (hkind : (s.expand k f.data).kind = 0x10)
    (hop : (s.expand k f.data).opcode.toNat ≠ Op.hostAttach) (hmay : s.MayTake (n.val + 3) (s.expand k f.data)) :
    ∃ t, exec (.compactMessage n k f sof) s = .next t ∧ s.Takes t (s.expand k f.data) := by
  obtain ⟨hheard, hobjects, -, hregs, -⟩ := s.canHeard_spec n sof
  have hreceives := State.canStore_receives (sof := sof) hsound hobjects
  have hwires := hheard.trans hreceives.wires
  have hreg : ∀ a, a ≠ Item.CAN.RX_CNT n → a ≠ Item.CAN.RX_UNMATCHED n →
      ((s.canHeard n sof).canStore n f sof).reg a = s.reg a := fun a h h' => (hreceives.state a h h').trans (congrFun hregs a)
  have hrights : ∀ j, ((s.canHeard n sof).canStore n f sof).rights j = s.rights j := fun j => by
    unfold State.rights State.regN
    rw [hreg _ (Item.addr_ne_of_item (by decide)) (Item.addr_ne_of_item (by decide)),
      hreg _ (Item.addr_ne_of_item (by decide)) (Item.addr_ne_of_item (by decide))]
  obtain ⟨-, -, hslots, hcmd⟩ := hwires.leaves
  have hrest : ((s.canHeard n sof).canStore n f sof).dev.state = s.dev.state ∧ ((s.canHeard n sof).canStore n f sof).bind = s.bind
      ∧ ((s.canHeard n sof).canStore n f sof).dev.nextOrder = s.dev.nextOrder
      ∧ ((s.canHeard n sof).canStore n f sof).expand k f.data = s.expand k f.data := by
    rw [hwires.eq]
    exact ⟨rfl, rfl, rfl, rfl⟩
  obtain ⟨hstate, hbind, horder, hexpand⟩ := hrest
  have hflags : (s.expand k f.data).flags.toNat.testBit 0 = false := by
    show (0 : Byte).toNat.testBit 0 = false
    decide
  have hwork : ∀ g, (s.canHeard n sof).canStore n f sof = g → g.expand k f.data = s.expand k f.data → g.accept (n.val + 3) (s.expand k f.data)
      = g.taking (s.expand k f.data) → exec (.compactMessage n k f sof) s = .next (s.act fun _ => g.taking (s.expand k f.data)) := by
    intro g hg hsame htakes
    refine exec_compactMessage sof hst hown hslot hident hide hrtr hg ((if_neg (by rw [hgood]; decide)).trans ?_)
    rw [hsame]
    exact (if_neg (by rw [hkind]; decide)).trans ((if_neg (by rw [hkind]; decide)).trans ((if_neg hop).trans htakes))
  replace hwork := hwork _ rfl hexpand
  generalize s.expand k f.data = m at *
  generalize (s.canHeard n sof).canStore n f sof = g at *
  have hmay' : g.MayTake (n.val + 3) m := by
    refine ⟨?_, ?_, hmay.short, hmay.length, ?_, ?_, ?_, ?_, ?_⟩
    · rw [hslots]; exact hmay.attached
    · rw [hslots]; exact hmay.port
    · rw [hcmd]; exact hmay.free
    · rw [hslots]; exact hmay.credits
    · rw [hslots]; exact hmay.mac
    · rw [hslots]; exact hmay.fresh
    · exact (State.refusal_congr hrights hstate hbind hflags _).trans hmay.allowed
  have hstart : ∀ v : State, v.startAt m = none := fun v => by
    unfold State.startAt
    rw [hflags]
    exact if_neg Bool.false_ne_true
  have htakes : s.Takes (g.taking m) m := by
    obtain ⟨⟨r, hr, hwaiting, hmsg, hordered, hstarts⟩, hfresh, hcredits⟩ := g.takes_taking m
    exact ⟨⟨r, hr, hwaiting, hmsg, hordered.trans horder, (hstarts.trans (hstart g)).trans (hstart s).symm⟩, hfresh, by rw [hcredits, hslots]⟩
  rw [hwork hmay'.accept]
  refine hc.next rfl ?_ ?_ ?_ htakes
  · show g.waits = s.waits
    rw [hwires.eq]
  · show g.swaps = s.swaps
    rw [hwires.eq]
  · exact hstate

end

end

/-- Settles O50: errors count by state, a bus-off is a fault at BO_MAX and a warning below, heartbeats are kept, and a compact message is taken
as the message it stands for (assumption logs 49, 51 and 53). -/
theorem controllersCountErrorsAndKeepHeartbeats : Obligations.ControllersCountErrorsAndKeepHeartbeats := fun _ _ hc =>
  ⟨fun code tr af ex dp df hst hcode hnext => exec_canError_nextEntry hc code tr af ex dp df hst hcode hnext,
    fun code tr af ex df hst hcode hard => exec_canError_detects hc code tr af ex df hst hcode hard,
    fun code af dp df hst hcode htec hrec => exec_canError_receiver hc code af dp df hst hcode htec hrec,
    fun code af dp hst hcode htec hrec => exec_canError_transmitter hc code af dp hst hcode htec hrec,
    exec_canBusOff_counts hc, exec_canRecoveryEnd_ends hc, exec_canDominantTimeout_fences hc, exec_canDominantTimeout_nothing hc,
    fun k _ _ hst hown hslot hmatch hsound hlong hident => exec_canHostHeartbeat_hears hc k hst hown hslot hmatch hsound hlong hident,
    exec_canHeartbeatTimeout_detaches hc, exec_canDeviceHeartbeat_beats hc,
    fun _ _ sof hst hown hslot hident hide hrtr hsound =>
      ⟨exec_compactMessage_bad hc sof hst hown hslot hident hide hrtr hsound,
        exec_compactMessage_taken hc sof hst hown hslot hident hide hrtr hsound⟩⟩

end Sys2Proof.Machine


namespace Sys2Proof.Machine

/-! ## The words of the auxiliary sheaves (R363 to R366, R373) -/

/-- Device time after a command is no earlier than where its work has it. -/
theorem State.le_keepLive_now (s g : State) : g.time.now ≤ (s.keepLive g).time.now := Nat.le_max_right ..

theorem State.tickTime_le_reachTick (s : State) (tick : Nat) : tickTime tick ≤ (s.reachTick tick).time.now := by
  refine le_trans ?_ (Nat.le_max_right ..)
  unfold fineTime tickTime
  omega

/-- The pulse of a leg, or its previous one, is not that of the next leg. -/
theorem State.pulseAt_ne_next (s : State) (leg : Fin 48) (f : Nat) : s.pulseAt leg f ≠ leg.val + 1 := by
  unfold State.pulseAt previousPulse
  split <;> omega

/-- What a cut of a leg's pulse may do to the other leg (R366): the next leg's pulse is shorter, or AUXI has a cap. -/
structure State.Caps (s t : State) (leg : Nat) : Prop where
  eq : t = { s with pulses := t.pulses, auxI := t.auxI }
  pulse : ∀ k ≠ leg + 1, t.pulse k = s.pulse k
  cut : t.auxI.cut = s.auxI.cut

theorem State.Caps.refl (s : State) (leg : Nat) : s.Caps s leg := ⟨rfl, fun _ _ => rfl, rfl⟩

theorem State.Caps.cut_auxRun {s t : State} {leg : Nat} (h : s.Caps t leg) (buck : Bool) : (t.auxRun buck).cut = (s.auxRun buck).cut := by
  cases buck
  · exact h.cut
  · rw [h.eq]
    rfl

/-- R366: a cut changes nothing but the other leg's on interval. -/
theorem State.capOther_caps (s : State) (n leg len : Nat) : s.Caps (s.capOther n leg len) leg := by
  unfold State.capOther
  split
  · exact .refl s leg
  · split
    · extract_lets o x
      split
      · split
        · exact ⟨rfl, fun k hk => State.pulse_setPulse_other _ _ _ _ hk, rfl⟩
        · exact .refl s leg
      · exact .refl s leg
    · exact ⟨rfl, fun _ _ => rfl, rfl⟩

/-- A pulse cut on a tick (R365): the pulse, the compare item, the period marked as a limited one. -/
def State.pulseCut (s : State) (leg n k tick len : Nat) (buck : Bool) : State :=
  let t := ((s.reachTick tick).setPulse k ((s.pulse k).cutTo len)).setReg (Item.PWM.CMP_NOW n (s.bind.position leg)) (nw len)
  t.setAuxRun buck { t.auxRun buck with cut := true }

theorem State.pulseCut_eq (s : State) (leg n k tick len : Nat) (buck : Bool) :
    let g := s.pulseCut leg n k tick len buck
    g = { s with pulses := g.pulses, regs := g.regs, auxI := g.auxI, auxB := g.auxB, time := g.time } := by
  cases buck <;> rfl

theorem State.pulseCut_cut (s : State) (leg n k tick len : Nat) (buck : Bool) : ((s.pulseCut leg n k tick len buck).auxRun buck).cut = true := by
  cases buck <;> rfl

theorem State.pulseCut_pulse (s : State) (leg n k tick len : Nat) (buck : Bool) :
    (s.pulseCut leg n k tick len buck).pulse k = (s.pulse k).cutTo len := by
  cases buck <;> exact State.pulse_setPulse_same ..

theorem State.pulseCut_reg (s : State) (leg n k tick len : Nat) (buck : Bool) :
    (s.pulseCut leg n k tick len buck).reg (Item.PWM.CMP_NOW n (s.bind.position leg)) = nw len := by
  cases buck <;> exact State.reg_setReg_same ..

theorem State.pulseCut_time (s : State) (leg n k tick len : Nat) (buck : Bool) :
    (s.pulseCut leg n k tick len buck).time = (s.reachTick tick).time := by
  cases buck <;> rfl

/-- R365, R366: the limit word of a leg whose high side is on cuts the pulse to the tick on which it is delivered. -/
theorem exec_cycleLimit_cuts {s : State} (hc : s.Calm) {leg : Fin 48} {tick n : Nat} (hsheaf : s.legSheaf leg = some n)
    (hcarries : s.carries n = true) (hacts : s.limitActs n leg = true) (hon : (s.leg leg).hs.command = true)
    (hstart : (s.pulse (s.pulseAt leg (tick * 32))).start ≤ tick * 32)
    (hshort : tick * 32 - (s.pulse (s.pulseAt leg (tick * 32))).start < (s.pulse (s.pulseAt leg (tick * 32))).cmp.getD 0) :
    ∃ t, exec (.cycleLimit leg tick) s = .next t
      ∧ t.pulse (s.pulseAt leg (tick * 32)) = (s.pulse (s.pulseAt leg (tick * 32))).cutTo (tick * 32 - (s.pulse (s.pulseAt leg (tick * 32))).start)
      ∧ t.reg (Item.PWM.CMP_NOW n (s.bind.position leg)) = nw (tick * 32 - (s.pulse (s.pulseAt leg (tick * 32))).start)
      ∧ (t.auxRun (decide (s.stype n = SType.auxb))).cut = true
      ∧ t.leg = s.leg ∧ t.unit = s.unit ∧ tickTime tick ≤ t.time.now := by
  have hk := s.pulseAt_ne_next leg (tick * 32)
  have hrow : exec (.cycleLimit leg tick) s = .next (s.act fun _ => (s.pulseCut leg n (s.pulseAt leg (tick * 32)) tick
      (tick * 32 - (s.pulse (s.pulseAt leg (tick * 32))).start) (decide (s.stype n = SType.auxb))).capOther n leg
      (tick * 32 - (s.pulse (s.pulseAt leg (tick * 32))).start)) := by
    refine congrArg Host.Outcome.next (s.act_to _ _ ?_)
    simp only [hsheaf]
    exact if_neg (by simp [hcarries, hacts, hon, hstart, hshort])
  rw [hrow]
  generalize s.pulseAt leg (tick * 32) = k at *
  generalize tick * 32 - (s.pulse k).start = len
  generalize decide (s.stype n = SType.auxb) = buck
  have heq := s.pulseCut_eq leg n k tick len buck
  have hcut := s.pulseCut_cut leg n k tick len buck
  have hpulse := s.pulseCut_pulse leg n k tick len buck
  have hreg := s.pulseCut_reg leg n k tick len buck
  have htime := s.pulseCut_time leg n k tick len buck
  have hcaps := (s.pulseCut leg n k tick len buck).capOther_caps n leg len
  generalize s.pulseCut leg n k tick len buck = g at *
  generalize g.capOther n leg len = t at hcaps
  have hall : t = { s with pulses := t.pulses, regs := g.regs, auxI := t.auxI, auxB := g.auxB, time := g.time } := by
    rw [hcaps.eq, heq]
  refine hc.next rfl (by rw [hall]) (by rw [hall]) (by rw [hall]) ⟨(hcaps.pulse k hk).trans hpulse, ?_, (hcaps.cut_auxRun buck).trans hcut, ?_, ?_, ?_⟩
  · rw [← hreg, hcaps.eq]
    rfl
  · rw [hall]
    rfl
  · rw [hall]
    rfl
  · refine (s.tickTime_le_reachTick tick).trans ?_
    rw [← htime, hcaps.eq]
    exact s.le_keepLive_now _

/-- A zero-current word taken on a tick: the period is marked. -/
def State.zeroMarked (s : State) (k tick : Nat) : State := (s.updateEmulation.reachTick tick).setPulse k { s.pulse k with zcd := true }

/-- The low side of a leg turned off by its zero-current word (R373). -/
def State.zeroCrossed (s : State) (leg k tick : Nat) : State :=
  (s.zeroMarked k tick).setLeg leg { s.leg leg with ls := (s.zeroMarked k tick).turnOff leg (s.leg leg).ls }

/-- R373: in diode emulation the zero-current word of an AUXB leg, once its blanking is over, turns the low side off. -/
theorem exec_zeroCurrent_turnsOff {s : State} (hc : s.Calm) {leg : Fin 48} {tick n : Nat} (hsheaf : s.legSheaf leg = some n)
    (hcarries : s.carries n = true) (htype : s.stype n = SType.auxb) (hem : s.updateEmulation.emulates = true)
    (hon : (s.leg leg).ls.command = true)
    (hblank : fineTime ((s.pulse (s.pulseAt leg (tick * 32))).start + (s.pulse (s.pulseAt leg (tick * 32))).cmp.getD 0
      + (s.pulse (s.pulseAt leg (tick * 32))).dtLs) + s.regN Item.AUX.ZCD_BLANK ≤ tickTime tick) :
    ∃ t, exec (.zeroCurrent leg tick) s = .next t ∧ (t.leg leg).ls.command = false ∧ (t.leg leg).hs = (s.leg leg).hs
      ∧ (t.pulse (s.pulseAt leg (tick * 32))).zcd = true ∧ t.reg = s.reg ∧ t.unit = s.unit := by
  have hrow : exec (.zeroCurrent leg tick) s = .next (s.act fun _ => s.zeroCrossed leg (s.pulseAt leg (tick * 32)) tick) := by
    refine congrArg Host.Outcome.next (s.act_to _ _ ?_)
    simp only [hsheaf]
    refine if_neg ?_
    rintro (h | h | h | h | h)
    · exact absurd (h.symm.trans (congrArg not hcarries)) (by decide)
    · exact h htype
    · rw [hem] at h
      cases h
    · exact absurd (h.symm.trans (congrArg not hon)) (by decide)
    · exact absurd (h.symm.trans (congrArg not (decide_eq_true hblank))) (by decide)
  rw [hrow]
  generalize s.pulseAt leg (tick * 32) = k
  have hleg : (s.zeroCrossed leg k tick).leg leg = { s.leg leg with ls := (s.zeroMarked k tick).turnOff leg (s.leg leg).ls } :=
    State.leg_setLeg_same ..
  refine hc.next rfl rfl rfl rfl ⟨(congrArg (fun l => l.ls.command) hleg :), (congrArg Leg.hs hleg :),
    congrArg Pulse.zcd (State.pulse_setPulse_same ..), rfl, rfl⟩

/-! ### SYNCIN -/

/-- A valid interval counted (R363). -/
def State.syncCounted (s : State) (tick e : Nat) : State :=
  let agree := if intervalsAgree (s.regN Item.AUX.SYNC_TOL) (tick - e) s.syncIn.interval then s.syncIn.agree + 1 else 1
  { s.reachTick tick with syncIn := { edge := some tick, interval := tick - e, agree := agree, missed := 0 } }

section
variable {s : State} (hc : s.Calm) {n : Nat} (hsheaf : s.bind.sheafOfType SType.auxb = some n)
include hc hsheaf

section
variable (hfree : s.forced (unitOf Kind.sheaf n) 2 = false) (tick : Nat)
include hfree

/-- R363: the first edge begins an interval. -/
theorem exec_syncinEdge_first (hedge : s.syncIn.edge = none) :
    ∃ t, exec (.syncinEdge tick) s = .next t ∧ t.syncIn = { s.syncIn with edge := some tick } ∧ t.reg = s.reg := by
  refine hc.next (g := { s.reachTick tick with syncIn := { s.syncIn with edge := some tick } }) ?_ rfl rfl rfl ⟨rfl, rfl⟩
  simp only [hsheaf]
  exact (if_neg (by simp [hfree])).trans (by simp only [hedge])

/-- R363: an interval outside the period's range is not counted. -/
theorem exec_syncinEdge_invalid {e : Nat} (hedge : s.syncIn.edge = some e)
    (hbad : (tick - e) * 32 < (periodRange SType.auxb).1 ∨ (periodRange SType.auxb).2 < (tick - e) * 32) :
    ∃ t, exec (.syncinEdge tick) s = .next t ∧ t.syncIn = { s.syncIn with edge := some tick, agree := 0 } ∧ t.reg = s.reg := by
  refine hc.next (g := { s.reachTick tick with syncIn := { s.syncIn with edge := some tick, agree := 0 } }) ?_ rfl rfl rfl ⟨rfl, rfl⟩
  simp only [hsheaf]
  refine (if_neg (by simp [hfree])).trans ?_
  simp only [hedge]
  refine if_pos ?_
  rcases hbad with h | h <;> simp [Nat.not_le.mpr h]

/-- R364: a valid interval that ends in the state of a missed edge brings the lock back. -/
theorem exec_syncinEdge_relocks {e : Nat} (hedge : s.syncIn.edge = some e) (hlow : (periodRange SType.auxb).1 ≤ (tick - e) * 32)
    (hhigh : (tick - e) * 32 ≤ (periodRange SType.auxb).2) (hstate : s.regN Item.AUX.SYNC_STATE = 3) :
    ∃ t, exec (.syncinEdge tick) s = .next t ∧ t.syncIn.edge = some tick ∧ t.syncIn.interval = tick - e ∧ t.syncIn.missed = 0
      ∧ t.reg Item.AUX.SYNC_STATE = 2 ∧ t.unit = s.unit := by
  refine hc.next (g := (s.syncCounted tick e).setReg Item.AUX.SYNC_STATE 2) ?_ rfl rfl rfl ⟨rfl, rfl, rfl, (State.keepLive_reg' ..).trans (State.reg_setReg_same ..), rfl⟩
  simp only [hsheaf]
  refine (if_neg (by simp [hfree])).trans ?_
  simp only [hedge]
  refine (if_neg (by simp [hlow, hhigh])).trans ?_
  unfold State.syncCounted
  simp only [hstate]

end

/-- The lock on SYNCIN lost (R364): the run of agreeing intervals begins anew, and the loss is counted. -/
def State.syncinLost (s : State) (n : Nat) : State :=
  let t := s.reachTick ((s.carrier n).start / 32 + 1)
  ({ t with syncIn := { t.syncIn with agree := 0, missed := 0 } }.setReg Item.AUX.SYNC_STATE 4).bump Item.AUX.SYNC_LOSS_CNT

/-- R364: four periods without an edge lose the lock. -/
theorem exec_syncinLoss_warns (hstate : s.regN Item.AUX.SYNC_STATE = 3) (hmissed : 4 ≤ s.syncIn.missed)
    (hnote : s.Notices (unitOf Kind.sheaf n) 19) :
    ∃ t, exec .syncinLoss s = .next t ∧ t.reg Item.AUX.SYNC_STATE = 4 ∧ t.Shows (unitOf Kind.sheaf n) .idle .W 19
      ∧ t.reg Item.AUX.SYNC_LOSS_CNT = s.reg Item.AUX.SYNC_LOSS_CNT + 1 ∧ t.sheaf = s.sheaf := by
  have hrow : exec .syncinLoss s = .next (s.act fun _ =>
      (s.syncinLost n).detect (unitOf Kind.sheaf n) .W 19 (s.forced (unitOf Kind.sheaf n) 2)) := by
    refine congrArg Host.Outcome.next (s.act_to _ _ ?_)
    simp only [hsheaf]
    exact if_pos ⟨hstate, hmissed⟩
  rw [hrow]
  have hposed : s.Poised (s.syncinLost n) (unitOf Kind.sheaf n) := ⟨rfl, rfl, rfl, le_max_left ..⟩
  have hne : Item.AUX.SYNC_STATE ≠ Item.AUX.SYNC_LOSS_CNT := by decide
  have hstate : (s.syncinLost n).reg Item.AUX.SYNC_STATE = 4 := (State.reg_setReg_other _ _ _ _ hne).trans (State.reg_setReg_same ..)
  have hcount : (s.syncinLost n).reg Item.AUX.SYNC_LOSS_CNT = s.reg Item.AUX.SYNC_LOSS_CNT + 1 :=
    (State.reg_setReg_same ..).trans (congrArg (· + 1) (State.reg_setReg_other _ _ _ _ hne.symm))
  have hsheaves : (s.syncinLost n).sheaf = s.sheaf := rfl
  have hcalm : s.CalmAs (s.syncinLost n) := ⟨rfl, rfl, rfl⟩
  generalize s.syncinLost n = g at *
  have hshows := hposed.shows hnote (s.forced (unitOf Kind.sheaf n) 2)
  have hwarns := g.warns_detect (unitOf Kind.sheaf n) 19 (s.forced (unitOf Kind.sheaf n) 2)
    (unitKind_sheaf_ne_leg (Bind.sheafOfType_lt hsheaf))
  generalize g.detect (unitOf Kind.sheaf n) .W 19 (s.forced (unitOf Kind.sheaf n) 2) = v at *
  have hregs : v.reg = g.reg := by
    rw [hwarns]
    rfl
  refine (hcalm.trans hwarns.engages.calmAs).next hc rfl ⟨?_, hshows, ?_, hwarns.engages.sheaf.trans hsheaves⟩
  · exact (congrFun hregs _).trans hstate
  · exact (congrFun hregs _).trans hcount

end

/-- Settles O26: each word acts on the tick of its delivery, and the loss of SYNCIN is a warning that leaves the sheaf (assumption log 45). -/
theorem auxWordsActOnTheTickOfDelivery : Obligations.AuxWordsActOnTheTickOfDelivery := fun _ hc =>
  ⟨fun _ _ _ hsheaf hcarries hacts hon hstart hshort => exec_cycleLimit_cuts hc hsheaf hcarries hacts hon hstart hshort,
    fun _ _ _ hsheaf hcarries htype hem hon hblank => exec_zeroCurrent_turnsOff hc hsheaf hcarries htype hem hon hblank,
    fun tick _ hsheaf hfree => ⟨fun hedge => exec_syncinEdge_first hc hsheaf hfree tick hedge,
      fun _ hedge hbad => exec_syncinEdge_invalid hc hsheaf hfree tick hedge hbad,
      fun _ hedge hlow hhigh hstate => exec_syncinEdge_relocks hc hsheaf hfree tick hedge hlow hhigh hstate,
      fun hstate hmissed hnote => exec_syncinLoss_warns hc hsheaf hstate hmissed hnote⟩⟩

end Sys2Proof.Machine


namespace Sys2Proof.Machine

/-! ## A lane output read on its own engine cycle (R279, R361) -/

/-- A device in STANDBY at device time 0. Both sources of lane 12 are output 0 of lane 0, a 1.0 published on the present engine cycle over
a 0: a read on that cycle still gives the 0 (R279). The efficiency of AUXI is 1.0. -/
def freshOutput : State :=
  ({ State.reset with
     dev := { State.reset.dev with state := .standby, fwRunning := true }
     lanes := [(0, { Lane.init with published := some 0, valid := true })] }).setRegs
    [(Item.LOOP.SRC 12 0, 0x30000000), (Item.LOOP.SRC 12 1, 0x30000000), (Item.LOOP.IN_SCALE 12 0, F32.one),
      (Item.LOOP.IN_SCALE 12 1, F32.one), (Item.LOOP.Y 0 0, F32.one), (Item.AUX.EFF_I, F32.one)]

theorem freshOutput_calm : freshOutput.Calm := ⟨by decide, rfl, rfl, by decide, by decide⟩

/-- A millisecond on, the estimate is made of the published 1.0. -/
theorem freshOutput_estimate {t : State} (h : exec .auxPowerLimit freshOutput = .next t) : t.reg Item.AUX.P_IN_EST = 1 := by
  cases h
  decide +kernel

/-- Refutes O27: its estimate reads the sources of lane 12 at the device time before the row. The row comes a millisecond after the last one:
a lane output that was published on the engine cycle before it is its newest value by then (R279), and the estimate is made of that. -/
theorem not_auxSetpointsFollowRampAndLimit : ¬ Obligations.AuxSetpointsFollowRampAndLimit := by
  intro h
  obtain ⟨hlimit, -⟩ := h freshOutput freshOutput_calm
  obtain ⟨t, ht, hest, -⟩ := hlimit (by decide)
  have hnewest := freshOutput_estimate ht
  have hformer : iw (max 0 (F32.toInt (F32.div (F32.mul (freshOutput.laneSource 12 0) (freshOutput.laneSource 12 1))
      (freshOutput.reg Item.AUX.EFF_I)))) = 0 := by decide +kernel
  rw [hest, hformer] at hnewest
  exact absurd hnewest (by decide)

end Sys2Proof.Machine


namespace Sys2Proof.Machine

/-! ## Start attempts of the auxiliary sheaves (R368 to R371) -/

/-- A relation that every step of a pass over a list keeps, the pass keeps. -/
theorem State.forEach_rel_mem {α : Type} {R : State → State → Prop} (hr : ∀ s, R s s) (ht : ∀ s t u, R s t → R t u → R s u)
    {f : State → α → State} {l : List α} (hf : ∀ s, ∀ a ∈ l, R s (f s a)) (s : State) : R s (s.forEach l f) := by
  induction l generalizing s with
  | nil => exact hr s
  | cons a l ih =>
    exact ht _ _ _ (hf s a List.mem_cons_self) (ih (fun s b hb => hf s b (List.mem_cons_of_mem a hb)) (f s a))

/-- No integrator item of a lane. -/
def NoIntegrator (a : Nat) : Prop := ∀ m < 32, a ≠ Item.LOOP.INT_A m ∧ a ≠ Item.LOOP.INT_B m

/-- The items of the auxiliary group are no integrators. -/
theorem noIntegrator_aux {i : Nat} (hi : i < 0x400) : NoIntegrator (Item.addr 0x14 0 i) := fun m hm => by
  unfold Item.LOOP.INT_A Item.LOOP.INT_B Item.addr
  omega

/-- What beginning or pausing the lanes of a sheaf changes: lanes, and their integrators. -/
structure State.Rewinds (s t : State) : Prop where
  eq : t = { s with regs := t.regs, lanes := t.lanes }
  reg : ∀ a, NoIntegrator a → t.reg a = s.reg a

theorem State.Rewinds.refl (s : State) : s.Rewinds s := ⟨rfl, fun _ _ => rfl⟩

theorem State.Rewinds.trans {s t u : State} (h : s.Rewinds t) (k : t.Rewinds u) : s.Rewinds u :=
  ⟨by rw [k.eq, h.eq], fun a ha => (k.reg a ha).trans (h.reg a ha)⟩

theorem State.rewinds_setLane (s : State) (m : Nat) (l : Lane) : s.Rewinds (s.setLane m l) := ⟨rfl, fun _ _ => rfl⟩

theorem State.rewinds_integrators (s : State) {m : Nat} (hm : m < 32) (l : Lane) :
    s.Rewinds ((s.setLane m l).setRegs [(Item.LOOP.INT_A m, 0), (Item.LOOP.INT_B m, 0)]) := by
  refine (s.rewinds_setLane m l).trans ?_
  generalize s.setLane m l = t
  exact ⟨rfl, fun a ha => t.reg_setRegs_pair_other 0 0 (ha m hm).1 (ha m hm).2⟩

theorem State.mem_lanesOf {s : State} {n m : Nat} (h : m ∈ s.lanesOf n) : m < 32 :=
  List.mem_range.mp (List.mem_filter.mp h).1

/-- The lanes of a sheaf each begun anew, with their integrators at 0. -/
theorem State.rewinds_lanes {s : State} {n : Nat} (L : State → Nat → Lane) (t : State) :
    t.Rewinds (t.forEach (s.lanesOf n) fun t m =>
      (t.setLane m (L t m)).setRegs [(Item.LOOP.INT_A m, 0), (Item.LOOP.INT_B m, 0)]) :=
  State.forEach_rel_mem State.Rewinds.refl (fun _ _ _ => State.Rewinds.trans)
    (fun t _ hm => t.rewinds_integrators (State.mem_lanesOf hm) _) t

/-- What attempts, pauses and starts of a sheaf may change: items, lanes, groups, pulses, carriers, legs, the books of the auxiliary
sheaves and of traction, device time; no sheaf, no fault status, nothing that waits. -/
structure State.Attempts (s t : State) : Prop where
  eq : t = { s with
    regs := t.regs, lanes := t.lanes, groups := t.groups, pulses := t.pulses, carriers := t.carriers, legs := t.legs
    auxI := t.auxI, auxB := t.auxB, syncIn := t.syncIn, shed := t.shed, trac := t.trac, sup := t.sup, time := t.time }
  now : s.time.now ≤ t.time.now

theorem State.Attempts.refl (s : State) : s.Attempts s := ⟨rfl, le_rfl⟩

theorem State.Attempts.trans {s t u : State} (h : s.Attempts t) (k : t.Attempts u) : s.Attempts u :=
  ⟨by rw [k.eq, h.eq], h.now.trans k.now⟩

theorem State.Attempts.calmAs {s t : State} (h : s.Attempts t) : s.CalmAs t := ⟨by rw [h.eq], by rw [h.eq], by rw [h.eq]⟩
theorem State.Attempts.sheaf {s t : State} (h : s.Attempts t) : t.sheaf = s.sheaf := by rw [h.eq]; rfl
theorem State.Attempts.unit {s t : State} (h : s.Attempts t) : t.unit = s.unit := by rw [h.eq]; rfl
theorem State.Attempts.keepLive_now {s t : State} (h : s.Attempts t) : (s.keepLive t).time.now = t.time.now := Nat.max_eq_right h.now
theorem State.Attempts.poised {s t : State} (h : s.Attempts t) (u : Nat) : s.Poised t u :=
  ⟨by rw [h.unit], by rw [h.unit], by rw [h.eq], h.now⟩

theorem State.Rewinds.attempts {s t : State} (h : s.Rewinds t) : s.Attempts t := ⟨by rw [h.eq], by rw [h.eq]⟩

theorem State.attempts_reach (s : State) (t : Nat) : s.Attempts (s.reach t) := ⟨rfl, le_max_left ..⟩
theorem State.attempts_setReg (s : State) (a : Nat) (w : Word) : s.Attempts (s.setReg a w) := ⟨rfl, le_rfl⟩

theorem State.attempts_setRegs (s : State) (l : List (Nat × Word)) : s.Attempts (s.setRegs l) := by
  induction l generalizing s with
  | nil => exact .refl s
  | cons p l ih => exact (s.attempts_setReg p.1 p.2).trans (ih _)

theorem State.attempts_forEach {α : Type} (f : State → α → State) (hf : ∀ s a, State.Attempts s (f s a)) (l : List α) (s : State) :
    s.Attempts (s.forEach l f) := State.forEach_rel State.Attempts.refl (fun _ _ _ => State.Attempts.trans) f hf l s

theorem State.attempts_setAuxRun (s : State) (buck : Bool) (x : AuxRun) : s.Attempts (s.setAuxRun buck x) := by
  cases buck <;> exact ⟨rfl, le_rfl⟩

theorem State.setAuxRun_auxRun (s : State) (buck : Bool) (x : AuxRun) : (s.setAuxRun buck x).auxRun buck = x := by
  cases buck <;> rfl

theorem State.setAuxRun_reg (s : State) (buck : Bool) (x : AuxRun) : (s.setAuxRun buck x).reg = s.reg := by
  cases buck <;> rfl

theorem State.setAuxRun_time (s : State) (buck : Bool) (x : AuxRun) : (s.setAuxRun buck x).time = s.time := by
  cases buck <;> rfl

/-- Switching legs off changes legs alone. -/
theorem State.legsOff_eq (s : State) (n : Nat) : s.legsOff n = { s with legs := (s.legsOff n).legs } :=
  State.forEach_rel (R := fun s t => t = { s with legs := t.legs }) (fun _ => rfl) (fun _ _ _ h k => by rw [k, h]) _ (fun _ _ => rfl) _ s

theorem State.attempts_legsOff (s : State) (n : Nat) : s.Attempts (s.legsOff n) := by
  rw [s.legsOff_eq]
  exact ⟨rfl, le_rfl⟩

/-! ### Pauses (R370) -/

/-- A pause: no edges, the lanes held with their integrators at 0, the state item at 3, its end noted. -/
theorem State.beginPause_spec (s : State) (n : Nat) (buck : Bool) (e : Option Nat) :
    s.Attempts (s.beginPause n buck e) ∧ (s.beginPause n buck e).reg (auxStateItem buck) = 3
      ∧ ((s.beginPause n buck e).auxRun buck).pauseEnd = e ∧ ((s.beginPause n buck e).time = s.time)
      ∧ ∀ a, NoIntegrator a → a ≠ auxStateItem buck → (s.beginPause n buck e).reg a = s.reg a := by
  unfold State.beginPause
  extract_lets s1 x s2
  have h1 : s.Attempts s1 := (s.attempts_legsOff n).trans (State.attempts_setReg ..)
  have h2 : s.Attempts s2 := h1.trans (s1.attempts_setAuxRun ..)
  have hreg : s2.reg = s1.reg := s1.setAuxRun_reg ..
  have hrun : s2.auxRun buck = { x with pauseEnd := e, limited := 0, consecutive := 0, cut := false } := s1.setAuxRun_auxRun ..
  have htime : s2.time = s.time := (s1.setAuxRun_time ..).trans (by
    show (s.legsOff n).time = s.time
    rw [s.legsOff_eq])
  have hstate : s2.reg (auxStateItem buck) = 3 := (congrFun hreg _).trans (State.reg_setReg_same ..)
  have hothers : ∀ a, a ≠ auxStateItem buck → s2.reg a = s.reg a := fun a ha =>
    ((congrFun hreg a).trans (State.reg_setReg_other _ _ _ _ ha)).trans (by rw [s.legsOff_eq]; rfl)
  clear_value s2
  have h3 := s2.rewinds_lanes (s := s2) (n := n) fun t m => { t.lane m with held := true }
  generalize s2.forEach _ _ = t at *
  have hitem : NoIntegrator (auxStateItem buck) := by
    cases buck <;> exact noIntegrator_aux (by decide)
  have hsame : t.auxRun buck = s2.auxRun buck := by
    rw [h3.eq]
    cases buck <;> rfl
  refine ⟨h2.trans h3.attempts, (h3.reg _ hitem).trans hstate, ?_, ?_, fun a ha hne => (h3.reg a ha).trans (hothers a hne)⟩
  · rw [hsame, hrun]
  · rw [h3.eq, htime]

/-! ### Attempts (R368) -/

/-- The sheaf of an auxiliary converter is one of its type. -/
theorem State.stype_auxSheaf {s : State} {buck : Bool} {n : Nat} (h : s.auxSheaf buck = some n) :
    s.stype n = if buck then SType.auxb else SType.auxi := of_decide_eq_true (List.find?_some h :)

/-- An attempt of a sheaf of any type leaves the sheaves. -/
theorem State.attempts_beginAttempt (s : State) (n : Nat) : s.Attempts (s.beginAttempt n) := by
  unfold State.beginAttempt
  extract_lets lanes s1 v1 _ s2 v2 _ s3
  have h1 : s.Attempts s1 := s.attempts_forEach _ (fun t m => (t.rewinds_setLane m _).attempts) lanes
  clear_value s1
  split
  · have h2 : s1.Attempts s2 := ⟨rfl, le_rfl⟩
    exact (h1.trans h2).trans (s2.attempts_setRegs _)
  · split
    · have h3 : s1.Attempts s3 := ⟨rfl, le_rfl⟩
      exact (h1.trans h3).trans (s3.attempts_setRegs _)
    · exact .refl s

/-- An attempt of an auxiliary sheaf: its state item at 1, its course from now on, no end of a pause. -/
theorem State.beginAttempt_spec (s : State) {n : Nat} {buck : Bool} (htype : s.stype n = if buck then SType.auxb else SType.auxi) :
    (s.beginAttempt n).reg (auxStateItem buck) = 1 ∧ ((s.beginAttempt n).auxRun buck).attemptFrom = s.time.now
      ∧ ((s.beginAttempt n).auxRun buck).pauseEnd = none ∧ (s.beginAttempt n).time = s.time := by
  unfold State.beginAttempt
  extract_lets lanes s1 v1 _ s2 v2 _ s3
  have h1 : s.Rewinds s1 := State.forEach_rel State.Rewinds.refl (fun _ _ _ => State.Rewinds.trans) _ (fun t m => t.rewinds_setLane m _) _ s
  have htime : s1.time = s.time := by
    rw [h1.eq]
  clear_value s1
  cases buck
  · rw [if_pos (show s.stype n = SType.auxi from htype)]
    exact ⟨(State.reg_setRegs_pair _ _ _ (Item.addr_ne_of_item (by decide))).1, rfl, rfl, htime⟩
  · rw [if_neg (by rw [htype]; decide), if_pos (show s.stype n = SType.auxb from htype)]
    exact ⟨(State.reg_setRegs_pair _ _ _ (Item.addr_ne_of_item (by decide))).1, rfl, rfl, htime⟩

theorem State.attempts_setGroup (s : State) (n g : Nat) (x : Group) : s.Attempts (s.setGroup n g x) := ⟨rfl, le_rfl⟩

/-- Unwriting the compares of a sheaf changes its groups alone. -/
theorem State.unwriteCompares_eq (s : State) (n : Nat) :
    let t := s.forEach (List.range 8) fun t g => t.setGroup n g { t.group n g with cmp := [], phase := [] }
    t = { s with groups := t.groups } :=
  State.forEach_rel (R := fun s t => t = { s with groups := t.groups }) (fun _ => rfl) (fun _ _ _ h k => by rw [k, h])
    (fun t g => t.setGroup n g { t.group n g with cmp := [], phase := [] }) (fun _ _ => rfl) _ s

/-- The end of a pause (R370): a start attempt, every compare unwritten. -/
theorem State.endPause_spec (s : State) {n : Nat} {buck : Bool} (htype : s.stype n = if buck then SType.auxb else SType.auxi) :
    s.Attempts (s.endPause n) ∧ (s.endPause n).reg (auxStateItem buck) = 1 ∧ ((s.endPause n).auxRun buck).attemptFrom = s.time.now
      ∧ ((s.endPause n).auxRun buck).pauseEnd = none ∧ (s.endPause n).time = s.time := by
  have hgroups := s.unwriteCompares_eq n
  unfold State.endPause
  generalize State.forEach s _ _ = t at *
  have htype' : t.stype n = if buck then SType.auxb else SType.auxi := by
    rw [← htype, hgroups]
    rfl
  have htime : t.time = s.time := by
    rw [hgroups]
  have hattempts : s.Attempts t := ⟨by rw [hgroups], by rw [htime]⟩
  obtain ⟨hitem, hfrom, hend, hsame⟩ := t.beginAttempt_spec htype'
  exact ⟨hattempts.trans (t.attempts_beginAttempt n), hitem, hfrom.trans (congrArg Time.now htime), hend, hsame.trans htime⟩

/-! ### A start (R87, R378) -/

/-- The pulses of a leg begun anew. -/
theorem State.attempts_pulsesBegun (s : State) (n leg : Nat) :
    s.Attempts (((s.setPulse leg Pulse.init).setPulse (previousPulse leg) Pulse.init).setReg
      (Item.PWM.CMP_NOW n (s.bind.position leg)) 0xFFFFFFFF) := ⟨rfl, le_rfl⟩

theorem State.attempts_beginCarrier (s : State) (n : Nat) : s.Attempts (s.beginCarrier n) := by
  unfold State.beginCarrier
  extract_lets _ s1 s2 s3
  have h2 : s1.Attempts s2 := s1.attempts_forEach _ (fun t g => t.attempts_setGroup n g _) _
  have h3 : s2.Attempts s3 := s2.attempts_forEach _ (fun t l => t.attempts_pulsesBegun n l) _
  have h1 : s.Attempts s1 := ⟨rfl, le_rfl⟩
  exact ((h1.trans h2).trans h3).trans (s3.attempts_setReg ..)

theorem State.attempts_enterOwn (s : State) (n : Nat) : s.Attempts (s.enterOwn n) := by
  unfold State.enterOwn
  extract_lets _ s1 _ _ s2
  split
  · split
    · exact ⟨rfl, le_rfl⟩
    · exact ⟨rfl, le_rfl⟩
  · split
    · have h2 : s.Attempts (s2.setReg Item.AUX.SYNC_STATE 0) := ⟨rfl, le_rfl⟩
      exact h2.trans (State.attempts_beginAttempt ..)
    · exact s.attempts_beginAttempt n

theorem State.attempts_driveHeld (s : State) (n leg : Nat) : s.Attempts (s.driveHeld n leg) := by
  unfold State.driveHeld
  extract_lets l held asc l1 soft
  split
  · exact ⟨rfl, le_rfl⟩
  · split
    · exact ⟨rfl, le_rfl⟩
    · exact ⟨rfl, le_rfl⟩

theorem State.attempts_applySelection (s : State) : s.Attempts s.applySelection := by
  unfold State.applySelection
  split
  · exact .refl s
  · exact s.attempts_forEach _ (fun t l => t.attempts_driveHeld _ l) _

/-- A start of a sheaf: the sheaf in RUN, every other sheaf and every fault status as before. -/
theorem State.startRun_spec (s : State) (n : Nat) :
    (s.setSheaf n { s.sheaf n with state := .run, starting := true, stop := none }).Attempts (s.startRun n) := by
  unfold State.startRun
  extract_lets _ s1 s2 s3
  have h1 : State.Attempts _ s1 := State.attempts_beginCarrier ..
  have h2 : s1.Attempts s2 := (s1.rewinds_lanes (s := s1) (n := n) fun _ _ => Lane.init).attempts
  have h3 : s2.Attempts s3 := s2.attempts_forEach _ (fun t g => t.attempts_setRegs _) _
  exact (((h1.trans h2).trans h3).trans (s3.attempts_enterOwn n)).trans (State.attempts_applySelection _)

end Sys2Proof.Machine


namespace Sys2Proof.Machine

/-! ## A class-F fault of a running sheaf (R76, R440) -/

/-- An idle sheaf that runs is WINNOWED by a class-F detection. -/
theorem State.detect_F_winnows (s : State) {n : Nat} (hn : n < 12) (src : Nat) (forced : Bool)
    (hidle : (s.unit (unitOf Kind.sheaf n)).state = .idle) (hrun : (s.sheaf n).state = .run) :
    ((s.detect (unitOf Kind.sheaf n) .F src forced).sheaf n).state = .winnowed := by
  have hstart : s.detect (unitOf Kind.sheaf n) .F src forced = s.startHandling (unitOf Kind.sheaf n) .F src forced := by
    unfold State.detect
    rw [hidle]
  rw [hstart]
  unfold State.startHandling
  extract_lets limit s1 st r s2
  rw [s2.fence_sheafUnit hn]
  refine (s2.winnowSheaf_spec n).2 (.inr (.inr ?_))
  exact (congrArg Sheaf.state (s.note_sheaf ..)).trans hrun

theorem State.Measures.sheaf {s g : State} (h : s.Measures g) : g.sheaf = s.sheaf := by rw [h.eq]; rfl

/-- A class-F detection of a running sheaf from a state that has its sheaves: taken up, the sheaf WINNOWED. -/
theorem State.Calm.sheaf_winnowed {s g : State} (hc : s.Calm) {n src : Nat} {forced : Bool} {f : State → State}
    (hf : f s = g.detect (unitOf Kind.sheaf n) .F src forced) (hn : n < 12) (hg : s.CalmAs g) (hp : s.Poised g (unitOf Kind.sheaf n))
    (hsheaf : g.sheaf = s.sheaf) (hnote : s.Notices (unitOf Kind.sheaf n) src) (hsrc : src < 256) (hrun : (s.sheaf n).state = .run) :
    ∃ t, (.next (s.act f) : Host.Outcome State Fault Refusal) = .next t ∧ s.TakesUp t (unitOf Kind.sheaf n) .handling .F src
      ∧ (t.sheaf n).state = .winnowed := by
  have hidx : unitIndex (unitOf Kind.sheaf n) < 12 := by
    unfold unitIndex unitOf
    omega
  obtain ⟨hidle, hrank⟩ := hp.notices hnote
  have htakes := s.detect_takesUp_of g (unitOf Kind.sheaf n) src .F forced hp.journal (.inl rfl) (.inl hidle) hsrc (fun _ => hidx)
    (.inl rfl) hrank
  have hout := g.detect_F_winnows hn src forced hidle (by rw [hsheaf]; exact hrun)
  have hcalm := hg.trans (g.detects_detect (unitOf Kind.sheaf n) .F src forced (fun _ => hidx)).calmAs
  generalize g.detect (unitOf Kind.sheaf n) .F src forced = t at *
  refine hcalm.next hc hf ⟨?_, hout⟩
  obtain ⟨⟨hstate, hcls, hsource⟩, r, hjournal, hrecord⟩ := htakes
  exact ⟨⟨hstate, hcls, hsource⟩, r, hjournal, hrecord⟩

namespace Aux

/-- The item that counts the failed starts in a row (R371), and the one that counts them all. -/
abbrev runItem (buck : Bool) : Nat := if buck then Item.AUX.B_FAILSTART_RUN else Item.AUX.I_FAILSTART_RUN
abbrev countItem (buck : Bool) : Nat := if buck then Item.AUX.B_FAILSTART_CNT else Item.AUX.I_FAILSTART_CNT

/-- What a successful start writes (R368): the state, the setpoint, no failed start in a row. -/
def startedItems (buck : Bool) (target : Word) : List (Nat × Word) :=
  [(auxStateItem buck, 2), (Item.LOOP.SETPT_A (auxLane buck), target), (runItem buck, 0)]

theorem startedItems_nodup (buck : Bool) (target : Word) : ((startedItems buck target).map Prod.fst).Nodup := by
  show [auxStateItem buck, Item.LOOP.SETPT_A (auxLane buck), runItem buck].Nodup
  cases buck <;> decide

end Aux

namespace Aux

theorem noIntegrator_run (buck : Bool) : NoIntegrator (runItem buck) := by
  cases buck <;> exact noIntegrator_aux (by decide)

theorem run_ne_state (buck : Bool) : runItem buck ≠ auxStateItem buck := by
  cases buck <;> decide

theorem run_ne_count (buck : Bool) : runItem buck ≠ countItem buck := by
  cases buck <;> decide

theorem started_reg (s : State) (buck : Bool) (target : Word) :
    let t := s.setRegs (startedItems buck target)
    t.reg (auxStateItem buck) = 2 ∧ t.reg (Item.LOOP.SETPT_A (auxLane buck)) = target ∧ t.reg (runItem buck) = 0 :=
  have h : ∀ p ∈ startedItems buck target, (s.setRegs (startedItems buck target)).reg p.1 = p.2 :=
    fun _ hp => State.reg_setRegs_of_nodup _ (startedItems_nodup ..) hp
  ⟨h _ (.head _), h _ (.tail _ (.head _)), h _ (.tail _ (.tail _ (.head _)))⟩

end Aux

/-- A failed start counted (R371): in a row, and of all. -/
def State.failCounted (s : State) (buck : Bool) : State :=
  (s.setReg (Aux.runItem buck) (nw (Nat.min 8 (s.regN (Aux.runItem buck) + 1)))).bump (Aux.countItem buck)

theorem State.attempts_failCounted (s : State) (buck : Bool) : s.Attempts (s.failCounted buck) := ⟨rfl, le_rfl⟩

theorem State.failCounted_reg (s : State) (buck : Bool) :
    (s.failCounted buck).reg (Aux.runItem buck) = nw (Nat.min 8 (s.regN (Aux.runItem buck) + 1)) :=
  (State.reg_setReg_other _ _ _ _ (Aux.run_ne_count buck)).trans (State.reg_setReg_same ..)

theorem State.failedStart_pauses (s : State) (n : Nat) {buck : Bool} (hfew : s.regN (Aux.runItem buck) < 7) :
    s.failedStart n buck = (s.failCounted buck).beginPause n buck (some (s.time.now + s.hiccupOff buck * 1000000)) :=
  if_neg (fun h : Nat.min 8 (s.regN (Aux.runItem buck) + 1) = 8 => by
    have hmin : Nat.min 8 (s.regN (Aux.runItem buck) + 1) ≤ s.regN (Aux.runItem buck) + 1 := Nat.min_le_right ..
    omega)

theorem State.failedStart_faults (s : State) (n : Nat) {buck : Bool} (heighth : s.regN (Aux.runItem buck) = 7) :
    s.failedStart n buck = (s.failCounted buck).detect (unitOf Kind.sheaf n) .F 2 (s.forced (unitOf Kind.sheaf n) 0) :=
  if_pos (show Nat.min 8 (s.regN (Aux.runItem buck) + 1) = 8 by rw [heighth]; rfl)

/-- Without a deferred leg, a deferred step 3 has nothing to do (R76). -/
theorem State.deferredStep_none (s : State) {n : Nat} (h : s.anyDeferred n = false) (checks : List MidCheck) : s.deferredStep n checks = (s, 0) := by
  have hnil : (s.bind.legsOf n).filter (fun l => (s.leg l).deferred) = [] :=
    List.filter_eq_nil_iff.mpr fun l hl => by simpa using List.any_eq_false.mp h l hl
  unfold State.deferredStep State.deferredOn
  rw [hnil]
  exact if_pos rfl

/-- A sheaf that enters RUN (R87). -/
def State.sheafStarted (s : State) (n : Nat) : State := s.setSheaf n { s.sheaf n with state := .run, starting := true, stop := none }

/-! ## The rows of an auxiliary sheaf (R368 to R371, R378, R380, R381) -/

section
variable {s : State} {buck : Bool} {n : Nat} (hc : s.Calm) (haux : s.auxSheaf buck = some n)
include hc haux

section
variable (hrun : (s.sheaf n).state = .run) (hstate : s.auxState n = 1)
include hrun hstate

/-- R368: a ramp that ends near its target is a start. -/
theorem exec_softStartEnd_succeeds (hfew : (s.auxRun buck).limited < s.hiccupN buck)
    (hnear : F32.le (F32.abs (F32.sub (s.laneSource (auxLane buck) 0) (s.auxTarget buck))) (F32.mul 0x3D4CCCCD (s.auxTarget buck)) = true) :
    ∃ t, exec (.softStartEnd buck) s = .next t ∧ (s.auxRun buck).attemptFrom + s.softStartMs buck * 1000000 ≤ t.time.now
      ∧ t.reg (auxStateItem buck) = 2 ∧ t.reg (Item.LOOP.SETPT_A (auxLane buck)) = s.auxTarget buck ∧ t.reg (Aux.runItem buck) = 0
      ∧ t.sheaf = s.sheaf ∧ t.unit = s.unit ∧ t.leg = s.leg := by
  have hrow : exec (.softStartEnd buck) s = .next (s.act fun _ =>
      (s.reach ((s.auxRun buck).attemptFrom + s.softStartMs buck * 1000000)).setRegs (Aux.startedItems buck (s.auxTarget buck))) := by
    refine congrArg Host.Outcome.next (s.act_to _ _ ?_)
    simp only [haux]
    exact (if_neg (by simp [hrun, hstate])).trans ((if_neg (Nat.not_le.mpr hfew)).trans (if_pos hnear))
  rw [hrow]
  generalize (s.auxRun buck).attemptFrom + s.softStartMs buck * 1000000 = ramp
  obtain ⟨hitem, hsetpoint, hcount⟩ := Aux.started_reg (s.reach ramp) buck (s.auxTarget buck)
  have hworks := (s.measures_reach ramp).trans ((s.reach ramp).measures_setRegs (Aux.startedItems buck (s.auxTarget buck)))
  have hnow : ramp ≤ (s.keepLive ((s.reach ramp).setRegs (Aux.startedItems buck (s.auxTarget buck)))).time.now :=
    le_trans (le_max_right ..) (((s.reach ramp).measures_setRegs _).now.trans (s.le_keepLive_now _))
  generalize (s.reach ramp).setRegs (Aux.startedItems buck (s.auxTarget buck)) = g at *
  refine hc.next rfl (by rw [hworks.eq]) (by rw [hworks.eq]) (by rw [hworks.eq])
    ⟨hnow, hitem, hsetpoint, hcount, hworks.sheaf, ?_, ?_⟩
  · rw [hworks.eq]
    rfl
  · rw [hworks.eq]
    rfl

omit hc in
/-- R371: limited periods, or 10 ms after the ramp without the voltage, fail the attempt. -/
theorem exec_softStartEnd_fails (hfail : s.hiccupN buck ≤ (s.auxRun buck).limited
      ∨ F32.le (F32.abs (F32.sub (s.laneSource (auxLane buck) 0) (s.auxTarget buck))) (F32.mul 0x3D4CCCCD (s.auxTarget buck)) = false
        ∧ (s.auxRun buck).attemptFrom + s.softStartMs buck * 1000000 + 10000000 ≤ s.time.now) :
    exec (.softStartEnd buck) s = .next (s.act fun _ => s.failedStart n buck) := by
  refine congrArg Host.Outcome.next (s.act_to _ _ ?_)
  simp only [haux]
  refine (if_neg (by simp [hrun, hstate])).trans ?_
  by_cases hmany : s.hiccupN buck ≤ (s.auxRun buck).limited
  · exact if_pos hmany
  · obtain ⟨hfar, hlate⟩ := hfail.resolve_left hmany
    have hreach : s.reach ((s.auxRun buck).attemptFrom + s.softStartMs buck * 1000000) = s := by
      unfold State.reach
      rw [show Nat.max s.time.now ((s.auxRun buck).attemptFrom + s.softStartMs buck * 1000000) = s.time.now from
        Nat.max_eq_left (by omega)]
    rw [hreach]
    exact (if_neg hmany).trans ((if_neg fun h => absurd (hfar.symm.trans h) (by decide)).trans (if_pos hlate))

/-- R370, R371: one of the first seven failed starts in a row counts, and is followed by a pause. -/
theorem exec_softStartEnd_pauses (hfail : s.hiccupN buck ≤ (s.auxRun buck).limited
      ∨ F32.le (F32.abs (F32.sub (s.laneSource (auxLane buck) 0) (s.auxTarget buck))) (F32.mul 0x3D4CCCCD (s.auxTarget buck)) = false
        ∧ (s.auxRun buck).attemptFrom + s.softStartMs buck * 1000000 + 10000000 ≤ s.time.now) (hfew : s.regN (Aux.runItem buck) < 7) :
    ∃ t, exec (.softStartEnd buck) s = .next t ∧ t.reg (auxStateItem buck) = 3 ∧ t.regN (Aux.runItem buck) = s.regN (Aux.runItem buck) + 1
      ∧ (t.auxRun buck).pauseEnd = some (s.time.now + s.hiccupOff buck * 1000000) ∧ t.sheaf = s.sheaf ∧ t.unit = s.unit := by
  rw [exec_softStartEnd_fails haux hrun hstate hfail, s.failedStart_pauses n hfew]
  have hcounts := s.attempts_failCounted buck
  have hcounted := s.failCounted_reg buck
  have htime : (s.failCounted buck).time = s.time := rfl
  generalize s.failCounted buck = g at *
  obtain ⟨hpauses, hitem, hend, -, hothers⟩ := g.beginPause_spec n buck (some (s.time.now + s.hiccupOff buck * 1000000))
  generalize g.beginPause n buck _ = t at *
  have hworks := hcounts.trans hpauses
  refine hworks.calmAs.next hc rfl ⟨hitem, ?_, hend, hworks.sheaf, hworks.unit⟩
  have hreg : t.reg (Aux.runItem buck) = nw (s.regN (Aux.runItem buck) + 1) := by
    rw [hothers _ (Aux.noIntegrator_run buck) (Aux.run_ne_state buck), hcounted]
    exact congrArg nw (Nat.min_eq_right (by omega))
  show (t.reg (Aux.runItem buck)).toNat = _
  rw [hreg]
  exact Nat.mod_eq_of_lt (by omega)

/-- R371: the eighth failed start in a row is a class-F fault of the sheaf. -/
theorem exec_softStartEnd_winnows (hfail : s.hiccupN buck ≤ (s.auxRun buck).limited
      ∨ F32.le (F32.abs (F32.sub (s.laneSource (auxLane buck) 0) (s.auxTarget buck))) (F32.mul 0x3D4CCCCD (s.auxTarget buck)) = false
        ∧ (s.auxRun buck).attemptFrom + s.softStartMs buck * 1000000 + 10000000 ≤ s.time.now) (heighth : s.regN (Aux.runItem buck) = 7)
    (hnote : s.Notices (unitOf Kind.sheaf n) 2) :
    ∃ t, exec (.softStartEnd buck) s = .next t ∧ s.TakesUp t (unitOf Kind.sheaf n) .handling .F 2 ∧ (t.sheaf n).state = .winnowed := by
  rw [exec_softStartEnd_fails haux hrun hstate hfail]
  have hcounts := s.attempts_failCounted buck
  exact hc.sheaf_winnowed (s.failedStart_faults n heighth) (Bind.sheafOfType_lt haux) hcounts.calmAs (hcounts.poised _) hcounts.sheaf hnote
    (by decide) hrun

end
omit hc in
/-- A warning of an auxiliary sheaf from a state whose sheaves are the same: it shows, and the items and the sheaves stay. -/
theorem State.auxWarning_spec {g : State} {src : Nat} (hg : s.Attempts g) (hnote : s.Notices (unitOf Kind.sheaf n) src) :
    s.CalmAs (g.raise (unitOf Kind.sheaf n) .W src) ∧ (g.raise (unitOf Kind.sheaf n) .W src).Shows (unitOf Kind.sheaf n) .idle .W src
      ∧ g.Warns (g.raise (unitOf Kind.sheaf n) .W src) := by
  have hwarns := g.warns_detect (unitOf Kind.sheaf n) src false (unitKind_sheaf_ne_leg (Bind.sheafOfType_lt haux))
  exact ⟨hg.calmAs.trans hwarns.engages.calmAs, (hg.poised _).shows hnote false, hwarns⟩

/-- R369, R370: limited periods in a row after a start are a hiccup, and pause the sheaf. -/
theorem exec_runningHiccup_pauses (hrun : (s.sheaf n).state = .run) (hstate : s.auxState n = 2)
    (hmany : s.hiccupN buck ≤ (s.auxRun buck).consecutive) (hnote : s.Notices (unitOf Kind.sheaf n) 17) :
    ∃ t, exec (.runningHiccup buck) s = .next t ∧ t.reg (auxStateItem buck) = 3 ∧ t.Shows (unitOf Kind.sheaf n) .idle .W 17
      ∧ (t.auxRun buck).pauseEnd = some (s.time.now + s.hiccupOff buck * 1000000) ∧ t.sheaf = s.sheaf := by
  have hrow : exec (.runningHiccup buck) s = .next (s.act fun _ =>
      ((s.bump (if buck then Item.AUX.B_HICCUP_CNT else Item.AUX.I_HICCUP_CNT)).raise (unitOf Kind.sheaf n) .W 17).beginPause n buck
        (some (s.time.now + s.hiccupOff buck * 1000000))) := by
    refine congrArg Host.Outcome.next (s.act_to _ _ ?_)
    simp only [haux]
    exact if_neg (by simp [hrun, hstate, hmany])
  rw [hrow]
  have hcounts : s.Attempts (s.bump (if buck then Item.AUX.B_HICCUP_CNT else Item.AUX.I_HICCUP_CNT)) := s.attempts_setReg ..
  generalize s.bump _ = g at *
  obtain ⟨hcalm, hshows, hwarns⟩ := State.auxWarning_spec haux hcounts hnote
  generalize g.raise (unitOf Kind.sheaf n) .W 17 = w at *
  obtain ⟨hpauses, hitem, hend, -, -⟩ := w.beginPause_spec n buck (some (s.time.now + s.hiccupOff buck * 1000000))
  generalize w.beginPause n buck _ = t at *
  refine (hcalm.trans hpauses.calmAs).next hc rfl ⟨hitem, ?_, hend, (hpauses.sheaf.trans hwarns.engages.sheaf).trans hcounts.sheaf⟩
  unfold State.Shows
  rw [State.keepLive_unit', hpauses.unit]
  exact hshows

/-- R370: the end of a pause is a new attempt. -/
theorem exec_hiccupPauseEnd_attempts {e : Nat} (hend : (s.auxRun buck).pauseEnd = some e) (hrun : (s.sheaf n).state = .run)
    (hstate : s.auxState n = 3) :
    ∃ t, exec (.hiccupPauseEnd buck) s = .next t ∧ e ≤ t.time.now ∧ t.reg (auxStateItem buck) = 1
      ∧ (t.auxRun buck).attemptFrom = t.time.now ∧ (t.auxRun buck).pauseEnd = none ∧ t.sheaf = s.sheaf ∧ t.unit = s.unit := by
  have hrow : exec (.hiccupPauseEnd buck) s = .next (s.act fun _ => (s.reach e).endPause n) := by
    refine congrArg Host.Outcome.next (s.act_to _ _ ?_)
    simp only [haux, hend]
    exact if_neg (by simp [hrun, hstate])
  rw [hrow]
  have htype : (s.reach e).stype n = if buck then SType.auxb else SType.auxi := State.stype_auxSheaf haux
  have hreach := s.attempts_reach e
  have hpast : e ≤ (s.reach e).time.now := le_max_right ..
  generalize s.reach e = g at *
  obtain ⟨hends, hitem, hfrom, hnone, htime⟩ := g.endPause_spec htype
  generalize g.endPause n = t at *
  have hworks := hreach.trans hends
  have hnow : t.time.now = g.time.now := congrArg Time.now htime
  refine hworks.calmAs.next hc rfl ⟨?_, hitem, ?_, hnone, hworks.sheaf, hworks.unit⟩
  · rw [hworks.keepLive_now, hnow]
    exact hpast
  · rw [hworks.keepLive_now, hnow]
    exact hfrom

/-- R378: a READY auxiliary sheaf whose input has stood for 100 ms starts without a command. -/
theorem exec_auxAutoStart_starts {ms : Nat} (checks : List MidCheck) (hms : 100 ≤ ms) (hready : (s.sheaf n).state = .ready)
    (henabled : s.regN (if buck then Item.AUX.B_AUTO_START else Item.AUX.I_AUTO_START) ≠ 0) (hheld : (s.sheaf n).held = false)
    (hhot : bitOf (s.reg Item.THM.TA_HOLD) (16 + n) = false) (hpermitted : s.runPermitted n false = true)
    (hinput : (s.auxInputMin buck : Int) ≤ s.auxInput buck) (hdeferred : s.anyDeferred n = false) :
    ∃ t, exec (.auxAutoStart buck ms checks) s = .next t ∧ (t.sheaf n).state = .run ∧ t.unit = s.unit := by
  have hrow : exec (.auxAutoStart buck ms checks) s = .next (s.act fun _ => s.startRun n) := by
    refine congrArg Host.Outcome.next (s.act_to _ _ ?_)
    simp only [haux]
    refine (if_neg (by simp [hready, henabled, hheld, hhot, hpermitted, hinput, hms])).trans ?_
    rw [s.deferredStep_none hdeferred]
    exact if_pos ⟨rfl, hready⟩
  rw [hrow]
  have hstarts : (s.sheafStarted n).Attempts (s.startRun n) := s.startRun_spec n
  have hcalm : s.CalmAs (s.sheafStarted n) := ⟨rfl, rfl, rfl⟩
  have hstate : ((s.sheafStarted n).sheaf n).state = .run := congrArg Sheaf.state (State.sheaf_setSheaf_same ..)
  have hunit : (s.sheafStarted n).unit = s.unit := rfl
  generalize s.sheafStarted n = g at *
  generalize s.startRun n = v at *
  refine (hcalm.trans hstarts.calmAs).next hc rfl ⟨?_, hstarts.unit.trans hunit⟩
  rw [State.keepLive_sheaf', hstarts.sheaf]
  exact hstate

/-- R380: an input below its minimum for 1,000 µs stops the running sheaf. -/
theorem exec_auxInputLow_stops {us : Nat} (hus : 1000 ≤ us) (hrun : (s.sheaf n).state = .run)
    (hlow : s.auxInput buck < (s.auxInputMin buck : Int)) (hnote : s.Notices (unitOf Kind.sheaf n) 18) :
    ∃ t, exec (.auxInputLow buck us) s = .next t ∧ t.reg (auxStateItem buck) = 4 ∧ t.Shows (unitOf Kind.sheaf n) .idle .W 18
      ∧ (t.sheaf n).state = .run ∧ ∃ r, (t.sheaf n).stop = some r ∧ r.word = true := by
  have hrow : exec (.auxInputLow buck us) s = .next (s.act fun _ =>
      ((s.setReg (auxStateItem buck) 4).raise (unitOf Kind.sheaf n) .W 18).sendStopWord n false) := by
    refine congrArg Host.Outcome.next (s.act_to _ _ ?_)
    simp only [haux]
    exact if_neg (by simp [hrun, hlow, hus])
  rw [hrow]
  have hmarks := s.attempts_setReg (auxStateItem buck) 4
  have hitem := s.reg_setReg_same (auxStateItem buck) 4
  generalize s.setReg (auxStateItem buck) 4 = g at *
  obtain ⟨hcalm, hshows, hwarns⟩ := State.auxWarning_spec haux hmarks hnote
  generalize g.raise (unitOf Kind.sheaf n) .W 18 = w at *
  have hsheaf : (w.sheaf n).state = .run := by rw [hwarns.engages.sheaf, hmarks.sheaf, hrun]
  have hregs : w.reg = g.reg := by
    rw [hwarns]
    rfl
  have hstop : ∃ r, w.sendStopWord n false = w.setSheaf n { w.sheaf n with stop := some r } ∧ r.word = true := ⟨_, if_pos hsheaf, rfl⟩
  obtain ⟨r, hstop, hword⟩ := hstop
  rw [hstop]
  have hsends : w.CalmAs (w.setSheaf n { w.sheaf n with stop := some r }) := ⟨rfl, rfl, rfl⟩
  refine (hcalm.trans hsends).next hc rfl ⟨(congrFun hregs _).trans hitem, hshows, ?_, r, ?_, hword⟩
  · exact (congrArg Sheaf.state (State.sheaf_setSheaf_same ..)).trans hsheaf
  · exact congrArg Sheaf.stop (State.sheaf_setSheaf_same ..)

/-- R381: an output beyond its limit is a class-F fault of the running sheaf. -/
theorem exec_auxOutputOv_winnows {us : Nat} (hus : 10 ≤ us) (hrun : (s.sheaf n).state = .run)
    (hhigh : (s.regN (if buck then Item.AUX.V12_OV else Item.AUX.V48_OV) : Int) < s.auxOutput buck)
    (hnote : s.Notices (unitOf Kind.sheaf n) 3) :
    ∃ t, exec (.auxOutputOv buck us) s = .next t ∧ s.TakesUp t (unitOf Kind.sheaf n) .handling .F 3 ∧ (t.sheaf n).state = .winnowed := by
  have hused : (s.useForce (unitOf Kind.sheaf n) 3).unit (unitOf Kind.sheaf n) = _ := State.unit_setUnit_same ..
  refine hc.sheaf_winnowed (g := s.useForce (unitOf Kind.sheaf n) 3) (forced := s.forceArmed (unitOf Kind.sheaf n) 3) ?_
    (Bind.sheafOfType_lt haux) (State.engages_useForce ..).calmAs ⟨?_, ?_, rfl, le_rfl⟩ rfl hnote (by decide) hrun
  · simp only [haux]
    exact if_neg (by simp [hrun, hhigh, hus])
  · rw [hused]
  · rw [hused]

end

/-- Settles O28: each row of an auxiliary sheaf's course does one thing to its state item, and the eighth failed start winnows it. -/
theorem auxAttemptsSucceedPauseOrFail : Obligations.AuxAttemptsSucceedPauseOrFail := fun _ _ _ hc haux hidle =>
  ⟨fun hrun hstate hfew hnear => exec_softStartEnd_succeeds hc haux hrun hstate hfew hnear,
    fun hrun hstate hfail hfew => exec_softStartEnd_pauses hc haux hrun hstate hfail hfew,
    fun hrun hstate hfail heighth hrank => exec_softStartEnd_winnows hc haux hrun hstate hfail heighth ⟨hidle, hrank⟩,
    fun hrun hstate hmany hrank => exec_runningHiccup_pauses hc haux hrun hstate hmany ⟨hidle, hrank⟩,
    fun _ hend hrun hstate => exec_hiccupPauseEnd_attempts hc haux hend hrun hstate,
    fun _ checks hms hready henabled hheld hhot hpermitted hinput hdeferred =>
      exec_auxAutoStart_starts hc haux checks hms hready henabled hheld hhot hpermitted hinput hdeferred,
    fun _ hus hrun hlow hrank => exec_auxInputLow_stops hc haux hus hrun hlow ⟨hidle, hrank⟩,
    fun _ hus hrun hhigh hrank => exec_auxOutputOv_winnows hc haux hus hrun hhigh ⟨hidle, hrank⟩⟩

end Sys2Proof.Machine


namespace Sys2Proof.Machine

/-! ## Estimates of leg temperatures (R457 to R459, R463, R465) -/

/-- The items of the estimates lie below this address, all that an estimate reads above it. -/
def aboveLegs : Nat := 0xA0000

theorem tempEst_lt {m : Nat} (hm : m < 48) : Item.LEG.TEMP_EST m < aboveLegs := by
  unfold Item.LEG.TEMP_EST Item.addr aboveLegs
  omega

/-- Two states that agree in what an estimate of a leg reads: the items above those of the legs, the binding, the sheaves, which legs are in
service. -/
structure State.SameGround (s t : State) : Prop where
  reg : ∀ a, aboveLegs ≤ a → t.reg a = s.reg a
  bind : t.bind = s.bind
  sheaf : t.sheaf = s.sheaf
  cause : ∀ l, (t.leg l).cause = (s.leg l).cause

theorem State.SameGround.refl (s : State) : s.SameGround s := ⟨fun _ _ => rfl, rfl, rfl, fun _ => rfl⟩

theorem State.SameGround.trans {s t u : State} (h : s.SameGround t) (k : t.SameGround u) : s.SameGround u :=
  ⟨fun a ha => (k.reg a ha).trans (h.reg a ha), k.bind.trans h.bind, k.sheaf.trans h.sheaf, fun l => (k.cause l).trans (h.cause l)⟩

section
variable {s t : State} (h : s.SameGround t)
include h

theorem State.SameGround.regN {a : Nat} (ha : aboveLegs ≤ a) : t.regN a = s.regN a := congrArg BitVec.toNat (h.reg a ha)

theorem State.SameGround.regI {a : Nat} (ha : aboveLegs ≤ a) : t.regI a = s.regI a := congrArg BitVec.toInt (h.reg a ha)

theorem State.SameGround.stype (n : Nat) : t.stype n = s.stype n := congrArg (fun b => Bind.typeOf b n) h.bind

theorem State.SameGround.lastVolts (k i : Nat) : t.lastVolts k i = s.lastVolts k i := by
  have hitem : ∀ (j m : Nat), aboveLegs ≤ Item.addr 0x0C j m := fun j m => by
    unfold aboveLegs Item.addr
    omega
  unfold State.lastVolts State.codeVolts State.fastCode State.bipolar
  rw [h.reg _ (hitem ..), h.reg _ (hitem ..), h.regI (hitem ..), h.regI (hitem ..)]

theorem State.SameGround.legLink (n leg : Nat) : t.legLink n leg = s.legLink n leg := by
  unfold State.legLink State.dcVolts State.busVolts
  rw [h.stype, h.bind]
  simp only [h.lastVolts]

theorem State.SameGround.legSwitching (leg : Nat) : t.legSwitching leg = s.legSwitching leg := by
  have hitem : ∀ n, aboveLegs ≤ Item.PWM.LEG_EN n := fun n => by
    unfold aboveLegs Item.PWM.LEG_EN Item.addr
    omega
  unfold State.legSwitching State.legActive State.legWinnowed
  simp only [h.bind, h.sheaf, h.cause, h.reg _ (hitem _)]

/-- Legs with the same book warm alike (R458). -/
theorem State.SameGround.heatRise {leg : Nat} (hheat : t.heat leg = s.heat leg) (n : Nat) : t.heatRise n leg = s.heatRise n leg := by
  have hthm : ∀ m, aboveLegs ≤ Item.addr 0x1B 0 m := fun m => by
    unfold aboveLegs Item.addr
    omega
  have hperiod : aboveLegs ≤ Item.PWM.PERIOD_NOW n := by
    unfold aboveLegs Item.PWM.PERIOD_NOW Item.addr
    omega
  unfold State.heatRise
  rw [hheat, h.stype, h.legSwitching, h.legLink, h.regN hperiod]
  simp only [h.reg _ (hthm _), h.regN (hthm _)]

theorem State.SameGround.sensorTemp (v : Int) (low : Bool) : t.sensorTemp v low = s.sensorTemp v low := by
  unfold State.sensorTemp
  rw [h.regN (by decide)]

end

/-! ### The estimate of one leg -/

/-- The newest reading of a leg's sensor that is not too old (R457, R459). -/
def State.newReading (s : State) (leg now : Nat) : Option (Nat × Int × Bool) :=
  (s.heat leg).reading.filter fun r => decide (now ≤ r.1 + s.regN Item.THM.AGE_MAX * 1000000)

/-- The sensor temperature that it gives, the former one where there is none. -/
def State.newTemp (s : State) (leg now : Nat) : Word :=
  match s.newReading leg now with
  | some (_, v, low) => s.sensorTemp v low
  | none => (s.heat leg).ts

/-- Whether the leg's current was read lately (R459). -/
def State.currentRead (s : State) (leg now : Nat) : Bool :=
  match (s.heat leg).csSeen with
  | some x => decide (now ≤ x + s.regN Item.THM.AGE_MAX * 1000000)
  | none => false

/-- Whether the estimate is valid (R459). -/
def State.newValid (s : State) (leg now : Nat) : Bool :=
  (s.newReading leg now).isSome && tempPlausible (s.newTemp leg now) && (!s.legSwitching leg || s.currentRead leg now)

section
variable {s t : State} (h : s.SameGround t) {leg : Nat} (hheat : t.heat leg = s.heat leg) (now : Nat)
include h hheat

theorem State.SameGround.newReading : t.newReading leg now = s.newReading leg now := by
  unfold State.newReading
  rw [hheat, h.regN (by decide)]

theorem State.SameGround.newTemp : t.newTemp leg now = s.newTemp leg now := by
  unfold State.newTemp
  rw [h.newReading hheat, hheat]
  simp only [h.sensorTemp]

theorem State.SameGround.newValid : t.newValid leg now = s.newValid leg now := by
  unfold State.newValid State.currentRead
  rw [h.newReading hheat, h.newTemp hheat, h.legSwitching, hheat, h.regN (by decide)]

end

/-- What estimates of some legs may change: those legs and their books, their items, fault statuses, messages. -/
structure State.Estimates (s t : State) (l : List Nat) : Prop where
  eq : t = { s with
    regs := t.regs, legs := t.legs, units := t.units, slots := t.slots, tx := t.tx, cans := t.cans
    therm := { s.therm with heats := t.therm.heats }, dev := { s.dev with free := t.dev.free } }
  reg : ∀ a, (∀ m ∈ l, a ≠ Item.LEG.TEMP_EST m) → t.reg a = s.reg a
  heat : ∀ m ∉ l, t.heat m = s.heat m
  leg : ∀ m ∉ l, t.leg m = s.leg m
  cause : ∀ m, (t.leg m).cause = (s.leg m).cause

theorem State.Estimates.refl (s : State) (l : List Nat) : s.Estimates s l := ⟨rfl, fun _ _ => rfl, fun _ _ => rfl, fun _ _ => rfl, fun _ => rfl⟩

theorem State.Estimates.trans {s t u : State} {l k : List Nat} (h : s.Estimates t l) (g : t.Estimates u k) : s.Estimates u (l ++ k) where
  eq := by rw [g.eq, h.eq]
  reg a ha := (g.reg a fun m hm => ha m (List.mem_append_right l hm)).trans (h.reg a fun m hm => ha m (List.mem_append_left k hm))
  heat m hm := (g.heat m fun hk => hm (List.mem_append_right l hk)).trans (h.heat m fun hl => hm (List.mem_append_left k hl))
  leg m hm := (g.leg m fun hk => hm (List.mem_append_right l hk)).trans (h.leg m fun hl => hm (List.mem_append_left k hl))
  cause m := (g.cause m).trans (h.cause m)

/-- One more change of the same legs. -/
theorem State.Estimates.next {s t u : State} {l : List Nat} (h : s.Estimates t l) (g : t.Estimates u l) : s.Estimates u l where
  eq := by rw [g.eq, h.eq]
  reg a ha := (g.reg a ha).trans (h.reg a ha)
  heat m hm := (g.heat m hm).trans (h.heat m hm)
  leg m hm := (g.leg m hm).trans (h.leg m hm)
  cause m := (g.cause m).trans (h.cause m)

theorem State.estimates_setHeat (s : State) (leg : Nat) (h : Heat) : s.Estimates (s.setHeat leg h) [leg] :=
  ⟨rfl, fun _ _ => rfl, fun m hm => State.heat_setHeat_other _ _ _ _ (by simpa using hm), fun _ _ => rfl, fun _ => rfl⟩

theorem State.estimates_setLeg (s : State) (leg : Nat) (l : Leg) (h : l.cause = (s.leg leg).cause) : s.Estimates (s.setLeg leg l) [leg] :=
  ⟨rfl, fun _ _ => rfl, fun _ _ => rfl, fun m hm => State.leg_setLeg_other _ _ _ _ (by simpa using hm), fun m => by
    rw [State.leg_setLeg]
    split
    · next heq =>
      subst heq
      exact h
    · rfl⟩

theorem State.estimates_tempEst (s : State) (leg : Nat) (w : Word) : s.Estimates (s.setReg (Item.LEG.TEMP_EST leg) w) [leg] :=
  ⟨rfl, fun _ ha => State.reg_setReg_other _ _ _ _ (ha leg List.mem_cons_self), fun _ _ => rfl, fun _ _ => rfl, fun _ => rfl⟩

theorem State.Talks.estimates {s t : State} (h : s.Talks t) (l : List Nat) : s.Estimates t l := by
  unfold State.Talks at h
  rw [h]
  exact ⟨rfl, fun _ _ => rfl, fun _ _ => rfl, fun _ _ => rfl, fun _ => rfl⟩

/-- What a warning of a leg may change: its log, fault statuses, messages. -/
structure State.LogsOnly (s t : State) (leg : Nat) : Prop where
  eq : t = { s with legs := t.legs, units := t.units, slots := t.slots, tx := t.tx, cans := t.cans, dev := { s.dev with free := t.dev.free } }
  others : ∀ m ≠ leg, t.leg m = s.leg m
  own : ∃ l, t.leg leg = { s.leg leg with log := l }

theorem State.LogsOnly.refl (s : State) (leg : Nat) : s.LogsOnly s leg := ⟨rfl, fun _ _ => rfl, _, rfl⟩

theorem State.LogsOnly.trans {s t u : State} {leg : Nat} (h : s.LogsOnly t leg) (k : t.LogsOnly u leg) : s.LogsOnly u leg := by
  obtain ⟨l, hl⟩ := h.own
  obtain ⟨l', hl'⟩ := k.own
  exact ⟨by rw [k.eq, h.eq], fun m hm => (k.others m hm).trans (h.others m hm), l', by rw [hl', hl]⟩

theorem State.Talks.logsOnly {s t : State} (h : s.Talks t) (leg : Nat) : s.LogsOnly t leg := by
  unfold State.Talks at h
  rw [h]
  exact ⟨rfl, fun _ _ => rfl, _, rfl⟩

theorem State.logsOnly_setUnit (s : State) (u : Nat) (r : UnitRec) (leg : Nat) : s.LogsOnly (s.setUnit u r) leg := ⟨rfl, fun _ _ => rfl, _, rfl⟩

theorem State.LogsOnly.estimates {s t : State} {leg : Nat} (h : s.LogsOnly t leg) : s.Estimates t [leg] := by
  obtain ⟨l, hl⟩ := h.own
  refine ⟨by rw [h.eq], fun _ _ => by rw [h.eq]; rfl, fun m _ => by rw [h.eq]; rfl, fun m hm => h.others m (by simpa using hm), fun m => ?_⟩
  by_cases hm : m = leg
  · rw [hm, hl]
  · rw [h.others m hm]

/-- A record of class W of a leg (R455). -/
theorem State.logsOnly_recordW (s : State) {leg : Nat} (hleg : leg < 48) (src : Nat) (forced : Bool) :
    s.LogsOnly (s.record (unitOf Kind.leg leg) .W src forced) leg := by
  have hkind : unitKind (unitOf Kind.leg leg) = Kind.leg := unitKind_unitOf (by omega)
  have hidx : unitIndex (unitOf Kind.leg leg) = leg := by
    unfold unitIndex unitOf
    omega
  unfold State.record
  extract_lets r s1
  have h1 : s.LogsOnly s1 leg := by
    unfold s1 State.legLog
    rw [if_pos hkind, hidx]
    exact ⟨rfl, fun m hm => State.leg_setLeg_other _ _ _ _ hm, _, State.leg_setLeg_same ..⟩
  show s.LogsOnly (if s1.eventDue (unitOf Kind.leg leg) src then (s1.faultEvent (unitOf Kind.leg leg) .W src).noteEvent
    (unitOf Kind.leg leg) src else s1) leg
  split
  · exact (h1.trans ((s1.talks_faultEvent ..).logsOnly leg)).trans (State.logsOnly_setUnit ..)
  · exact h1

/-- A warning of a leg stops nothing. -/
theorem State.logsOnly_detectW (s : State) {leg : Nat} (hleg : leg < 48) (src : Nat) (forced : Bool) :
    s.LogsOnly (s.detect (unitOf Kind.leg leg) .W src forced) leg := by
  have hnote : s.LogsOnly (s.note (unitOf Kind.leg leg) .W src forced) leg := by
    unfold State.note
    split
    · exact .refl s _
    · exact (s.logsOnly_recordW hleg src forced).trans (State.logsOnly_setUnit ..)
  unfold State.detect
  cases (s.unit (unitOf Kind.leg leg)).state with
  | idle =>
    simp only
    split
    · exact .refl s _
    · exact hnote.trans (State.logsOnly_setUnit ..)
  | handling => exact .refl s _
  | resting => exact hnote
  | lasting => exact hnote

/-- A band that a leg takes is a change of the leg alone, which bears the marks it is given (R164). -/
theorem State.takeBand_spec (s : State) (leg b : Nat) (failsafe : Bool) :
    s.Estimates (s.takeBand leg b failsafe) [leg] ∧ ((s.takeBand leg b failsafe).leg leg).failsafe = failsafe
      ∧ (s.takeBand leg b failsafe).heat = s.heat ∧ (s.takeBand leg b failsafe).reg = s.reg := by
  unfold State.takeBand
  extract_lets src l u band running
  split
  · exact ⟨s.estimates_setLeg leg _ rfl, congrArg Leg.failsafe (State.leg_setLeg_same ..), rfl, rfl⟩
  · split
    · exact ⟨s.estimates_setLeg leg _ rfl, congrArg Leg.failsafe (State.leg_setLeg_same ..), rfl, rfl⟩
    · split
      · exact ⟨s.estimates_setLeg leg _ rfl, congrArg Leg.failsafe (State.leg_setLeg_same ..), rfl, rfl⟩
      · have hset := s.estimates_setLeg leg { l with bandNext := some (band, s.crossTick) } rfl
        exact ⟨hset.next ((State.talks_useFree _).estimates _), congrArg Leg.failsafe (State.leg_setLeg_same s leg _), rfl, rfl⟩

/-- The warning of a leg's estimate (R465) changes of the books at most whether the leg was warned of, and no item. -/
theorem State.heatWarn_spec (s : State) {leg : Nat} (hleg : leg < 48) (est : Int) :
    s.Estimates (s.heatWarn leg est) [leg] ∧ (∃ w, (s.heatWarn leg est).heat leg = { s.heat leg with warned := w })
      ∧ (s.heatWarn leg est).reg = s.reg := by
  have hsame : ∃ w, s.heat leg = { s.heat leg with warned := w } := ⟨_, rfl⟩
  have hset : ∀ w, (s.setHeat leg { s.heat leg with warned := w }).heat leg = { s.heat leg with warned := w } :=
    fun w => State.heat_setHeat_same ..
  unfold State.heatWarn
  extract_lets h warn
  split
  · split
    · exact ⟨s.estimates_setHeat .., ⟨_, hset false⟩, rfl⟩
    · exact ⟨.refl s _, hsame, rfl⟩
  · split
    · have hmark := s.estimates_setHeat leg { h with warned := true }
      have hlogs := State.logsOnly_detectW (s.setHeat leg { h with warned := true }) hleg 19 false
      unfold State.raise
      have hmarked : (s.setHeat leg { h with warned := true }).heat leg = { s.heat leg with warned := true } := hset true
      have hregs : (s.setHeat leg { h with warned := true }).reg = s.reg := rfl
      generalize s.setHeat leg { h with warned := true } = g at *
      generalize g.detect (unitOf Kind.leg leg) .W 19 false = v at *
      refine ⟨hmark.next hlogs.estimates, ⟨true, ?_⟩, ?_⟩
      · rw [← hmarked, hlogs.eq]
        rfl
      · rw [← hregs, hlogs.eq]
        rfl
    · exact ⟨.refl s _, hsame, rfl⟩

/-- The book of a leg after an estimate (R457 to R459). -/
def State.estimated (s : State) (n leg : Nat) : Heat :=
  { s.heat leg with
    dT := s.heatRise n leg, ts := s.newTemp leg s.time.now, valid := s.newValid leg s.time.now, csCount := 0, csAbs := 0, csSq := 0 }

/-- The estimate shown (R458). -/
def State.shownEstimate (s : State) (n leg : Nat) : Int := F32.toIntScaled (F32.add (s.newTemp leg s.time.now) (s.heatRise n leg)) 10 1

/-- The band it gives the leg (R163). -/
def State.newBand (s : State) (n leg : Nat) : Nat :=
  if (s.heat leg).valid then bandFrom (s.leg leg).bandOwn (s.shownEstimate n leg) else bandOf (s.shownEstimate n leg)

theorem State.estimateLeg_eq {s : State} {leg n : Nat} (hsheaf : s.bind.sheafOfLeg leg = some n) :
    s.estimateLeg leg =
      if s.newValid leg s.time.now then
        (((s.setHeat leg (s.estimated n leg)).setReg (Item.LEG.TEMP_EST leg) (iw (s.shownEstimate n leg))).takeBand leg (s.newBand n leg)
          false).heatWarn leg (s.shownEstimate n leg)
      else (s.setHeat leg (s.estimated n leg)).takeBand leg (s.regN (Item.LEG.BAND_FAILSAFE leg)) true := by
  unfold State.estimateLeg
  simp only [hsheaf]
  rfl

end Sys2Proof.Machine


namespace Sys2Proof.Machine

/-! ## The estimates of all legs (R457 to R459, R463, R465) -/

/-- What a leg's estimate comes to (R457 to R459). -/
structure State.Estimated (s t : State) (n leg now : Nat) : Prop where
  dT : (t.heat leg).dT = s.heatRise n leg
  ts : (t.heat leg).ts = s.newTemp leg now
  valid : (t.heat leg).valid = s.newValid leg now
  count : (t.heat leg).csCount = 0
  distance : (t.heat leg).csAbs = 0
  square : (t.heat leg).csSq = 0
  shown : s.newValid leg now = true →
    t.reg (Item.LEG.TEMP_EST leg) = iw (F32.toIntScaled (F32.add (s.newTemp leg now) (s.heatRise n leg)) 10 1)
  invalid : s.newValid leg now = false → (t.leg leg).failsafe = true ∧ t.reg (Item.LEG.TEMP_EST leg) = s.reg (Item.LEG.TEMP_EST leg)

/-- The estimate of a bound leg touches that leg alone, and comes to what its readings say. -/
theorem State.estimateLeg_estimated {s : State} {leg n : Nat} (hleg : leg < 48) (hsheaf : s.bind.sheafOfLeg leg = some n) :
    s.Estimates (s.estimateLeg leg) [leg] ∧ s.Estimated (s.estimateLeg leg) n leg s.time.now := by
  rw [State.estimateLeg_eq hsheaf]
  have hset := s.estimates_setHeat leg (s.estimated n leg)
  have hbook : (s.setHeat leg (s.estimated n leg)).heat leg = s.estimated n leg := State.heat_setHeat_same ..
  have hregs : (s.setHeat leg (s.estimated n leg)).reg = s.reg := rfl
  generalize s.setHeat leg (s.estimated n leg) = g at *
  split
  · next hvalid =>
    have hshows := g.estimates_tempEst leg (iw (s.shownEstimate n leg))
    have hshown : (g.setReg (Item.LEG.TEMP_EST leg) (iw (s.shownEstimate n leg))).reg (Item.LEG.TEMP_EST leg) = iw (s.shownEstimate n leg) :=
      State.reg_setReg_same ..
    have hkeeps : (g.setReg (Item.LEG.TEMP_EST leg) (iw (s.shownEstimate n leg))).heat leg = g.heat leg := rfl
    generalize g.setReg (Item.LEG.TEMP_EST leg) (iw (s.shownEstimate n leg)) = v at *
    obtain ⟨htakes, -, hheat, hreg⟩ := v.takeBand_spec leg (s.newBand n leg) false
    generalize v.takeBand leg (s.newBand n leg) false = w at *
    obtain ⟨hwarns, ⟨x, hx⟩, hwreg⟩ := w.heatWarn_spec hleg (s.shownEstimate n leg)
    generalize w.heatWarn leg (s.shownEstimate n leg) = t at *
    have hbook' : t.heat leg = { s.estimated n leg with warned := x } := by rw [hx, hheat, hkeeps, hbook]
    refine ⟨((hset.next hshows).next htakes).next hwarns, ?_, ?_, ?_, ?_, ?_, ?_, fun _ => ?_, fun h => absurd (hvalid.symm.trans h) (by decide)⟩
    · rw [hbook']; rfl
    · rw [hbook']; rfl
    · rw [hbook']; rfl
    · rw [hbook']; rfl
    · rw [hbook']; rfl
    · rw [hbook']; rfl
    · rw [hwreg, hreg, hshown]; rfl
  · next hinvalid =>
    obtain ⟨htakes, hfail, hheat, hreg⟩ := g.takeBand_spec leg (s.regN (Item.LEG.BAND_FAILSAFE leg)) true
    generalize g.takeBand leg (s.regN (Item.LEG.BAND_FAILSAFE leg)) true = t at *
    have hbook' : t.heat leg = s.estimated n leg := by rw [hheat, hbook]
    refine ⟨hset.next htakes, ?_, ?_, ?_, ?_, ?_, ?_, fun h => absurd h hinvalid, fun _ => ⟨hfail, by rw [hreg, hregs]⟩⟩
    · rw [hbook']; rfl
    · rw [hbook']; rfl
    · rw [hbook']; rfl
    · rw [hbook']; rfl
    · rw [hbook']; rfl
    · rw [hbook']; rfl

/-- A leg without a sheaf has no estimate. -/
theorem State.estimates_estimateLeg (s : State) {leg : Nat} (hleg : leg < 48) : s.Estimates (s.estimateLeg leg) [leg] := by
  cases hsheaf : s.bind.sheafOfLeg leg with
  | none =>
    have hnone : s.estimateLeg leg = s := by
      unfold State.estimateLeg
      simp only [hsheaf]
    rw [hnone]
    exact .refl s _
  | some n => exact (State.estimateLeg_estimated hleg hsheaf).1

theorem State.estimates_legs {l : List Nat} (hl : ∀ m ∈ l, m < 48) (s : State) : s.Estimates (s.forEach l State.estimateLeg) l := by
  induction l generalizing s with
  | nil => exact .refl s _
  | cons m l ih =>
    obtain ⟨hm, hl⟩ := List.forall_mem_cons.mp hl
    exact (s.estimates_estimateLeg hm).trans (ih hl _)

/-- The estimates of some legs leave what the estimate of another reads. -/
theorem State.Estimates.sameGround {s t : State} {l : List Nat} (h : s.Estimates t l) (hl : ∀ m ∈ l, m < 48) : s.SameGround t where
  reg a ha := h.reg a fun m hm heq => absurd (tempEst_lt (hl m hm)) (by rw [← heq]; omega)
  bind := by rw [h.eq]
  sheaf := by rw [h.eq]; rfl
  cause := h.cause

/-- What an estimate came to stands while the leg, its book and its item do. -/
theorem State.Estimated.stands {s t u : State} {n leg now : Nat} (h : s.Estimated t n leg now) (hheat : u.heat leg = t.heat leg)
    (hleg : u.leg leg = t.leg leg) (hreg : u.reg (Item.LEG.TEMP_EST leg) = t.reg (Item.LEG.TEMP_EST leg)) : s.Estimated u n leg now :=
  ⟨by rw [hheat, h.dT], by rw [hheat, h.ts], by rw [hheat, h.valid], by rw [hheat, h.count], by rw [hheat, h.distance],
    by rw [hheat, h.square], fun hv => by rw [hreg, h.shown hv], fun hv => by rw [hreg, hleg]; exact h.invalid hv⟩

/-- What an estimate comes to is the same from two states that agree in what it reads. -/
theorem State.SameGround.estimated {s w t : State} {n leg now : Nat} (h : s.SameGround w) (hheat : w.heat leg = s.heat leg)
    (hreg : w.reg (Item.LEG.TEMP_EST leg) = s.reg (Item.LEG.TEMP_EST leg)) (k : w.Estimated t n leg now) : s.Estimated t n leg now := by
  have hrise := h.heatRise hheat n
  have htemp := h.newTemp hheat now
  have hvalid := h.newValid hheat now
  exact ⟨by rw [k.dT, hrise], by rw [k.ts, htemp], by rw [k.valid, hvalid], k.count, k.distance, k.square,
    fun hv => by rw [k.shown (hvalid.trans hv), htemp, hrise], fun hv => ⟨(k.invalid (hvalid.trans hv)).1, by rw [(k.invalid (hvalid.trans hv)).2, hreg]⟩⟩

theorem tempEst_ne {m leg : Nat} (h : leg ≠ m) : Item.LEG.TEMP_EST leg ≠ Item.LEG.TEMP_EST m := by
  unfold Item.LEG.TEMP_EST Item.addr
  omega

/-- The estimates of all legs, at one device time: each leg's comes to what its readings say (R457 to R459). -/
theorem State.estimateLegs_estimated (s : State) {leg n : Nat} (hleg : leg < 48) (hsheaf : s.bind.sheafOfLeg leg = some n) :
    s.Estimated (s.forEach (List.range 48) State.estimateLeg) n leg s.time.now := by
  obtain ⟨l, k, hsplit⟩ := List.append_of_mem (List.mem_range.mpr hleg)
  have hnodup := List.nodup_range (n := 48)
  have hrange : ∀ m ∈ List.range 48, m < 48 := fun m hm => List.mem_range.mp hm
  rw [hsplit] at hnodup hrange ⊢
  have hl : ∀ m ∈ l, m < 48 := fun m hm => hrange m (List.mem_append_left _ hm)
  have hk : ∀ m ∈ k, m < 48 := fun m hm => hrange m (List.mem_append_right _ (List.mem_cons_of_mem _ hm))
  have hnotl : leg ∉ l := fun hm => (List.nodup_append.mp hnodup).2.2 leg hm leg List.mem_cons_self rfl
  have hnotk : leg ∉ k := (List.nodup_cons.mp (List.nodup_append.mp hnodup).2.1).1
  have hfold : s.forEach (l ++ leg :: k) State.estimateLeg
      = ((s.forEach l State.estimateLeg).estimateLeg leg).forEach k State.estimateLeg := by
    simp only [State.forEach, List.foldl_append, List.foldl_cons]
  rw [hfold]
  have h1 := s.estimates_legs hl
  generalize s.forEach l State.estimateLeg = w at *
  have hground := h1.sameGround hl
  have htime : w.time = s.time := by rw [h1.eq]
  obtain ⟨-, h2⟩ := State.estimateLeg_estimated hleg (by rw [hground.bind]; exact hsheaf : w.bind.sheafOfLeg leg = some n)
  have h3 := State.estimates_legs hk (w.estimateLeg leg)
  rw [htime] at h2
  refine (hground.estimated (h1.heat leg hnotl) ?_ h2).stands (h3.heat leg hnotk) (h3.leg leg hnotk) ?_
  · exact h1.reg _ fun m hm => tempEst_ne fun heq => hnotl (heq ▸ hm)
  · exact h3.reg _ fun m hm => tempEst_ne fun heq => hnotk (heq ▸ hm)

/-! ## The factors (R463) -/

/-- What setting the derating factors changes: items of the traction and charger groups, or above. -/
structure State.Derates (s t : State) : Prop where
  eq : t = { s with regs := t.regs }
  reg : ∀ a < Item.addr 0x12 0 0, t.reg a = s.reg a

theorem State.Derates.refl (s : State) : s.Derates s := ⟨rfl, fun _ _ => rfl⟩

theorem State.Derates.trans {s t u : State} (h : s.Derates t) (k : t.Derates u) : s.Derates u :=
  ⟨by rw [k.eq, h.eq], fun a ha => (k.reg a ha).trans (h.reg a ha)⟩

theorem State.derates_setReg (s : State) {a : Nat} (ha : Item.addr 0x12 0 0 ≤ a) (w : Word) : s.Derates (s.setReg a w) :=
  ⟨rfl, fun _ hb => State.reg_setReg_other _ _ _ _ (by omega)⟩

/-- CHG.DERATE is none of the items that the factors are made of. -/
theorem State.lowestDerating_setReg (s : State) (w : Word) (legs : List Nat) :
    (s.setReg Item.CHG.DERATE w).lowestDerating legs = s.lowestDerating legs := by
  have hone : ∀ l, (s.setReg Item.CHG.DERATE w).derating l = s.derating l := fun l => by
    have hitem : ∀ a, a ≠ Item.CHG.DERATE → (s.setReg Item.CHG.DERATE w).regI a = s.regI a :=
      fun a ha => congrArg BitVec.toInt (State.reg_setReg_other _ _ _ _ ha)
    unfold State.derating State.legEstimate
    rw [hitem _ (by decide), hitem _ (by decide), hitem _ (by decide)]
    rfl
  unfold State.lowestDerating
  simp only [hone]

/-- R463, R468: the factors set, that of the charger from its legs, 0 in a pause. -/
theorem State.setDeratings_spec (s : State) :
    s.Derates s.setDeratings ∧ s.setDeratings.reg Item.CHG.DERATE
      = if s.setDeratings.burstPause then 0 else s.setDeratings.lowestDerating s.setDeratings.chargerLegs := by
  unfold State.setDeratings
  extract_lets s1
  have h1 : s.Derates s1 := State.forEach_rel State.Derates.refl (fun _ _ _ => State.Derates.trans) _ (fun t k => t.derates_setReg (by
    unfold Item.TRC.DERATE Item.addr
    omega) _) _ s
  refine ⟨h1.trans (s1.derates_setReg (by decide) _), (State.reg_setReg_same ..).trans ?_⟩
  rw [State.lowestDerating_setReg]
  rfl

/-! ## The rows (R457, R458, R463, R464, R468) -/

/-- The device at the turn of an estimate: its die temperatures and supply voltages shown (R457). -/
def State.estimateTurn (s : State) (dies : List Int) (vsup vso : Nat) : State :=
  ((s.every Timer.estimate 1000000).forEach ((List.range 5).zip dies) (fun t p => t.setReg (Item.THM.DIE_T p.1) (iw p.2))).setRegs
    [(Item.DEV.VSUP_MV, nw (Nat.min vsup 70000)), (Item.DEV.VSO_MV, nw (Nat.min vso 70000))]

theorem exec_tempEstimate (s : State) (dies : List Int) (vsup vso : Nat) :
    exec (.tempEstimate dies vsup vso) s =
      .next (s.act fun _ => ((s.estimateTurn dies vsup vso).forEach (List.range 48) State.estimateLeg).setDeratings) :=
  congrArg Host.Outcome.next (s.act_to _ _ rfl)

/-- The die temperatures shown. -/
def State.diesShown (s : State) (dies : List Int) : State :=
  s.forEach ((List.range 5).zip dies) fun t p => t.setReg (Item.THM.DIE_T p.1) (iw p.2)

theorem State.measures_diesShown (s : State) (dies : List Int) : s.Measures (s.diesShown dies) :=
  State.forEach_rel (R := State.Measures) (fun _ => ⟨rfl, le_rfl⟩) (fun _ _ _ => State.Measures.trans) (fun (t : State) (p : Nat × Int) => t.setReg (Item.THM.DIE_T p.1) (iw p.2))
    (fun t _ => t.measures_setReg _ _) _ s

theorem State.diesShown_time (s : State) (dies : List Int) : (s.diesShown dies).time = s.time :=
  State.forEach_rel (R := fun s t => t.time = s.time) (fun _ => rfl) (fun _ _ _ h k => k.trans h)
    (fun (t : State) (p : Nat × Int) => t.setReg (Item.THM.DIE_T p.1) (iw p.2)) (fun _ _ => rfl) _ s

/-- The turn of an estimate: device time a period on, the two supply voltages shown. -/
theorem State.estimateTurn_spec (s : State) (dies : List Int) (vsup vso : Nat) :
    s.Measures (s.estimateTurn dies vsup vso)
      ∧ (s.estimateTurn dies vsup vso).time.now = Nat.max s.time.now (s.lastDone Timer.estimate + 1000000)
      ∧ (s.estimateTurn dies vsup vso).reg Item.DEV.VSUP_MV = nw (Nat.min vsup 70000)
      ∧ (s.estimateTurn dies vsup vso).reg Item.DEV.VSO_MV = nw (Nat.min vso 70000) := by
  have hturn : s.estimateTurn dies vsup vso = ((s.every Timer.estimate 1000000).diesShown dies).setRegs
    [(Item.DEV.VSUP_MV, nw (Nat.min vsup 70000)), (Item.DEV.VSO_MV, nw (Nat.min vso 70000))] := rfl
  rw [hturn]
  have h1 := s.measures_every Timer.estimate 1000000
  have h2 := (s.every Timer.estimate 1000000).measures_diesShown dies
  have htime := (s.every Timer.estimate 1000000).diesShown_time dies
  have hnow : (s.every Timer.estimate 1000000).time.now = Nat.max s.time.now (s.lastDone Timer.estimate + 1000000) := rfl
  generalize s.every Timer.estimate 1000000 = g at *
  generalize g.diesShown dies = v at *
  obtain ⟨hsup, hso⟩ := v.reg_setRegs_pair (nw (Nat.min vsup 70000)) (nw (Nat.min vso 70000))
    (show Item.DEV.VSUP_MV ≠ Item.DEV.VSO_MV by decide)
  exact ⟨(h1.trans h2).trans (v.measures_setRegs _), (congrArg Time.now htime).trans hnow, hsup, hso⟩

/-- Without die temperatures, the turn of an estimate leaves what the estimates read. -/
theorem State.estimateTurn_ground (s : State) (vsup vso : Nat) :
    s.SameGround (s.estimateTurn [] vsup vso) ∧ (s.estimateTurn [] vsup vso).heat = s.heat
      ∧ ∀ leg, (s.estimateTurn [] vsup vso).reg (Item.LEG.TEMP_EST leg) = s.reg (Item.LEG.TEMP_EST leg) := by
  have hreg : ∀ a, a ≠ Item.DEV.VSUP_MV → a ≠ Item.DEV.VSO_MV → (s.estimateTurn [] vsup vso).reg a = s.reg a :=
    fun a ha hb => State.reg_setRegs_pair_other _ _ _ ha hb
  refine ⟨⟨fun a ha => hreg a ?_ ?_, rfl, rfl, fun _ => rfl⟩, rfl, fun leg => hreg _ ?_ ?_⟩
  · rintro rfl
    exact absurd ha (by decide)
  · rintro rfl
    exact absurd ha (by decide)
  · exact Item.addr_ne_of_item (by decide)
  · exact Item.addr_ne_of_item (by decide)

/-- R457, R463: the estimates leave sheaves, lanes and outputs, and the factors are as the estimates give them. -/
theorem exec_tempEstimate_derates {s : State} (hc : s.Calm) (dies : List Int) (vsup vso : Nat) :
    ∃ t, exec (.tempEstimate dies vsup vso) s = .next t ∧ t.sheaf = s.sheaf ∧ t.lane = s.lane ∧ t.out = s.out
      ∧ s.lastDone Timer.estimate + 1000000 ≤ t.time.now
      ∧ t.reg Item.DEV.VSUP_MV = nw (Nat.min vsup 70000) ∧ t.reg Item.DEV.VSO_MV = nw (Nat.min vso 70000)
      ∧ t.reg Item.CHG.DERATE = if t.burstPause then 0 else t.lowestDerating t.chargerLegs := by
  rw [exec_tempEstimate]
  obtain ⟨h1, hnow, hsup, hso⟩ := s.estimateTurn_spec dies vsup vso
  generalize s.estimateTurn dies vsup vso = g at *
  have h2 := g.estimates_legs (l := List.range 48) (fun m hm => List.mem_range.mp hm)
  generalize g.forEach (List.range 48) State.estimateLeg = v at *
  obtain ⟨h3, hderate⟩ := v.setDeratings_spec
  generalize v.setDeratings = t at *
  have hlow : ∀ a < Item.LEG.TEMP_EST 0, t.reg a = g.reg a := fun a ha =>
    (h3.reg a (ha.trans (by decide))).trans (h2.reg a fun m _ heq => by
      rw [heq] at ha
      unfold Item.LEG.TEMP_EST Item.addr at ha
      omega)
  have htime : t.time.now = g.time.now := by rw [h3.eq, h2.eq]
  refine hc.next rfl (by rw [h3.eq, h2.eq, h1.eq]) (by rw [h3.eq, h2.eq, h1.eq]) (by rw [h3.eq, h2.eq, h1.eq]) ⟨?_, ?_, ?_, ?_,
    (hlow _ (by decide)).trans hsup, (hlow _ (by decide)).trans hso, hderate⟩
  · rw [h3.eq, h2.eq, h1.eq]
    rfl
  · rw [h3.eq, h2.eq, h1.eq]
    rfl
  · rw [h3.eq, h2.eq, h1.eq]
    rfl
  · refine le_trans ?_ (s.le_keepLive_now t)
    rw [htime, hnow]
    exact le_max_right ..

/-- R457 to R459: the estimate of a bound leg. -/
theorem exec_tempEstimate_estimates {s : State} (hc : s.Calm) (leg : Fin 48) {n : Nat} (vsup vso : Nat)
    (hsheaf : s.bind.sheafOfLeg leg = some n) :
    ∃ t, exec (.tempEstimate [] vsup vso) s = .next t
      ∧ s.Estimated t n leg (Nat.max s.time.now (s.lastDone Timer.estimate + 1000000)) := by
  rw [exec_tempEstimate]
  obtain ⟨h1, hnow, -, -⟩ := s.estimateTurn_spec [] vsup vso
  obtain ⟨hground, hheat, hitems⟩ := s.estimateTurn_ground vsup vso
  rw [← hnow]
  generalize s.estimateTurn [] vsup vso = g at *
  have h2 := g.estimates_legs (l := List.range 48) (fun m hm => List.mem_range.mp hm)
  have hest := g.estimateLegs_estimated (n := n) leg.isLt (by rw [hground.bind]; exact hsheaf)
  generalize g.forEach (List.range 48) State.estimateLeg = v at *
  obtain ⟨h3, -⟩ := v.setDeratings_spec
  generalize v.setDeratings = t at *
  have hheats : t.heat = v.heat := by
    rw [h3.eq]
    rfl
  have hlegs : t.leg = v.leg := by
    rw [h3.eq]
    rfl
  have hfinal := hground.estimated (congrFun hheat _) (hitems _) (hest.stands (congrFun hheats _) (congrFun hlegs _) (h3.reg _ (by
    unfold Item.LEG.TEMP_EST Item.addr
    omega)))
  obtain ⟨hdT, hts, hvalid, hcount, hdist, hsquare, hshown, hinvalid⟩ := hfinal
  exact hc.next rfl (by rw [h3.eq, h2.eq, h1.eq]) (by rw [h3.eq, h2.eq, h1.eq]) (by rw [h3.eq, h2.eq, h1.eq])
    ⟨hdT, hts, hvalid, hcount, hdist, hsquare, hshown, hinvalid⟩

end Sys2Proof.Machine


namespace Sys2Proof.Machine

/-! ## The rates of rise and their factors (R464) -/

/-- The legs of which rates are kept: those a sheaf holds. -/
def State.boundLegs (s : State) : List Nat := (List.range 48).filter fun l => (s.bind.sheafOfLeg l).isSome

/-- Evaluating the rates of some legs, one after the other. -/
def State.ratesEvaluated (s : State) (l : List Nat) : State := s.forEach l fun t l => t.setHeat l (t.heat l).evaluate

/-- Only the books of legs change. -/
theorem State.ratesEvaluated_eq (s : State) (l : List Nat) :
    s.ratesEvaluated l = { s with therm := { s.therm with heats := (s.ratesEvaluated l).therm.heats } } :=
  State.forEach_rel (R := fun s t => t = { s with therm := { s.therm with heats := t.therm.heats } }) (fun _ => rfl)
    (fun _ _ _ h k => by rw [k, h]) (fun (t : State) l => t.setHeat l (t.heat l).evaluate) (fun _ _ => rfl) l s

/-- Each of the legs once. -/
theorem State.ratesEvaluated_heat {l : List Nat} (hl : l.Nodup) (s : State) (m : Nat) :
    (s.ratesEvaluated l).heat m = if m ∈ l then (s.heat m).evaluate else s.heat m := by
  induction l generalizing s with
  | nil => rfl
  | cons a l ih =>
    obtain ⟨ha, hl⟩ := List.nodup_cons.mp hl
    have hstep : s.ratesEvaluated (a :: l) = (s.setHeat a (s.heat a).evaluate).ratesEvaluated l := rfl
    rw [hstep, ih hl, State.heat_setHeat]
    by_cases hm : m = a
    · subst hm
      simp [ha]
    · simp [hm]

/-- The new factor of a set (R464), from the rates of its legs. -/
def State.nextFactor (s : State) (k : Nat) : Word :=
  if (s.setLegs k).any (fun l => F32.lt (F32.ofInt (s.regI Item.THM.DTDT_MAX)) (s.heat l).rate) then
    F32.max (s.reg Item.THM.DTDT_FLOOR) (F32.sub (s.rateFactor k) (s.reg Item.THM.DTDT_STEP))
  else F32.min F32.one (F32.add (s.rateFactor k) (s.reg Item.THM.DTDT_STEP))

/-- Only the factors change. -/
theorem State.stepFactors_eq (s : State) (l : List Nat) :
    s.forEach l State.stepFactor = { s with therm := { s.therm with factors := (s.forEach l State.stepFactor).therm.factors } } :=
  State.forEach_rel (R := fun s t => t = { s with therm := { s.therm with factors := t.therm.factors } }) (fun _ => rfl)
    (fun _ _ _ h k => by rw [k, h]) State.stepFactor (fun _ _ => rfl) l s

theorem State.rateFactor_stepFactor (s : State) (k j : Nat) :
    (s.stepFactor k).rateFactor j = if j = k then s.nextFactor k else s.rateFactor j := KMap.get_put ..

/-- Each of the sets once. -/
theorem State.stepFactors_rateFactor {l : List Nat} (hl : l.Nodup) (s : State) (k : Nat) :
    (s.forEach l State.stepFactor).rateFactor k = if k ∈ l then s.nextFactor k else s.rateFactor k := by
  induction l generalizing s with
  | nil => rfl
  | cons a l ih =>
    obtain ⟨ha, hl⟩ := List.nodup_cons.mp hl
    have hstep : s.forEach (a :: l) State.stepFactor = (s.stepFactor a).forEach l State.stepFactor := rfl
    have hfactor := s.rateFactor_stepFactor a
    have hnext : (s.stepFactor a).nextFactor k = if k = a then (s.stepFactor a).nextFactor k else s.nextFactor k := by
      by_cases hk : k = a
      · simp [hk]
      · rw [if_neg hk]
        unfold State.nextFactor
        rw [hfactor k, if_neg hk]
        rfl
    rw [hstep, ih hl, hnext, hfactor k]
    by_cases hk : k = a
    · subst hk
      simp [ha]
    · simp [hk]

/-- The die's rate of rise noted (R468). -/
def State.dieRated (s : State) : State :=
  let die := s.regI (Item.THM.DIE_T 3)
  let rate : Int := match s.therm.diePast[9]? with | some x => die - x | none => 0
  { s with therm := { s.therm with diePast := (die :: s.therm.diePast).take 10, dieRate := rate } }

/-- The device at the turn of the rates: those of the bound legs and of the die. -/
def State.rateTurn (s : State) : State := ((s.every Timer.rates 100000000).ratesEvaluated s.boundLegs).dieRated

theorem exec_tempRateEval (s : State) :
    exec .tempRateEval s = .next (s.act fun _ => s.rateTurn.forEach (List.range s.setCount) State.stepFactor) := by
  refine congrArg Host.Outcome.next (s.act_to _ _ ?_)
  have hcount : s.rateTurn.setCount = s.setCount := by
    unfold State.rateTurn
    rw [State.ratesEvaluated_eq]
    rfl
  rw [← hcount]
  rfl

theorem State.rateTurn_spec (s : State) :
    s.rateTurn = { s with time := (s.every Timer.rates 100000000).time, timers := (s.every Timer.rates 100000000).timers, therm := s.rateTurn.therm }
      ∧ (∀ l < 48, (s.bind.sheafOfLeg l).isSome = true → s.rateTurn.heat l = (s.heat l).evaluate)
      ∧ s.rateTurn.rateFactor = s.rateFactor := by
  have heq := (s.every Timer.rates 100000000).ratesEvaluated_eq s.boundLegs
  have hheat := (s.every Timer.rates 100000000).ratesEvaluated_heat (l := s.boundLegs) (List.nodup_range.filter _)
  unfold State.rateTurn
  generalize (s.every Timer.rates 100000000).ratesEvaluated s.boundLegs = g at *
  refine ⟨?_, fun l hl hbound => ?_, ?_⟩
  · unfold State.dieRated
    rw [heq]
    rfl
  · have hmem : l ∈ s.boundLegs := List.mem_filter.mpr ⟨List.mem_range.mpr hl, hbound⟩
    exact (hheat l).trans (if_pos hmem)
  · show g.rateFactor = s.rateFactor
    rw [heq]
    rfl

/-- R464: every 100 ms the rates of the bound legs, and the factors of the sets. -/
theorem exec_tempRateEval_rates {s : State} (hc : s.Calm) :
    ∃ t, exec .tempRateEval s = .next t ∧ t.reg = s.reg ∧ t.sheaf = s.sheaf ∧ t.leg = s.leg
      ∧ s.lastDone Timer.rates + 100000000 ≤ t.time.now ∧ (∀ l < 48, (s.bind.sheafOfLeg l).isSome = true → t.heat l = (s.heat l).evaluate)
      ∧ ∀ k < s.setCount, t.rateFactor k
          = if (s.setLegs k).any (fun l => F32.lt (F32.ofInt (s.regI Item.THM.DTDT_MAX)) (t.heat l).rate) = true
            then F32.max (s.reg Item.THM.DTDT_FLOOR) (F32.sub (s.rateFactor k) (s.reg Item.THM.DTDT_STEP))
            else F32.min F32.one (F32.add (s.rateFactor k) (s.reg Item.THM.DTDT_STEP)) := by
  rw [exec_tempRateEval]
  obtain ⟨h1, hheat, hfactor⟩ := s.rateTurn_spec
  generalize s.rateTurn = g at *
  have h2 := g.stepFactors_eq (List.range s.setCount)
  have hstep := State.stepFactors_rateFactor (List.nodup_range (n := s.setCount)) g
  generalize g.forEach (List.range s.setCount) State.stepFactor = t at *
  have hsame : t.heat = g.heat := by
    rw [h2]
    rfl
  refine hc.next rfl (by rw [h2, h1]) (by rw [h2, h1]) (by rw [h2, h1]) ⟨?_, ?_, ?_, ?_, fun l hl hb => ?_, fun k hk => ?_⟩
  · rw [h2, h1]
    rfl
  · rw [h2, h1]
    rfl
  · rw [h2, h1]
    rfl
  · refine le_trans ?_ (s.le_keepLive_now t)
    rw [h2, h1]
    exact le_max_right ..
  · exact (congrFun hsame l).trans (hheat l hl hb)
  · show t.rateFactor k = _
    rw [hstep, if_pos (List.mem_range.mpr hk)]
    unfold State.nextFactor
    rw [hfactor]
    have hreg : g.reg = s.reg := by
      rw [h1]
      rfl
    have hlegs : g.setLegs k = s.setLegs k := by
      rw [h1]
      rfl
    rw [hlegs, hreg]
    show _ = if (s.setLegs k).any (fun l => F32.lt (F32.ofInt (s.regI Item.THM.DTDT_MAX)) (t.heat l).rate) = true then _ else _
    rw [hsame]
    unfold State.regI
    rw [hreg]

/-! ## Pauses (R468) -/

/-- The charger passing between power flow and a pause at an instant. -/
def State.burstTurned (s : State) (paused : Bool) (at' : Nat) : State :=
  let t := s.reach at'
  { t with charge := { t.charge with burst := some (paused, t.time.now) } }

/-- A turn of the charger's bursts whose factors are set: the turn stands, the charger's factor is 0 in a pause. -/
theorem State.burstTurned_spec (s : State) (paused : Bool) (at' : Nat) :
    s.CalmAs (s.burstTurned paused at').setDeratings
      ∧ (s.keepLive (s.burstTurned paused at').setDeratings).charge.burst
          = some (paused, (s.keepLive (s.burstTurned paused at').setDeratings).time.now)
      ∧ at' ≤ (s.keepLive (s.burstTurned paused at').setDeratings).time.now
      ∧ (s.burstTurned paused at').setDeratings.reg Item.CHG.DERATE = if paused then 0 else
          (s.burstTurned paused at').setDeratings.lowestDerating (s.burstTurned paused at').setDeratings.chargerLegs := by
  obtain ⟨hderates, hfactor⟩ := (s.burstTurned paused at').setDeratings_spec
  have hcharge : (s.burstTurned paused at').charge.burst = some (paused, (s.burstTurned paused at').time.now) := rfl
  have hnow : s.time.now ≤ (s.burstTurned paused at').time.now := le_max_left ..
  have hat : at' ≤ (s.burstTurned paused at').time.now := le_max_right ..
  have hcalm : s.CalmAs (s.burstTurned paused at') := ⟨rfl, rfl, rfl⟩
  generalize s.burstTurned paused at' = g at *
  generalize g.setDeratings = t at *
  have hburst : t.charge.burst = some (paused, t.time.now) := by rw [hderates.eq]; exact hcharge
  have htime : (s.keepLive t).time.now = t.time.now := Nat.max_eq_right (by rw [hderates.eq]; exact hnow)
  have hpaused : t.burstPause = paused := by
    unfold State.burstPause
    rw [hburst]
  rw [hpaused] at hfactor
  exact ⟨hcalm.trans ⟨by rw [hderates.eq], by rw [hderates.eq], by rw [hderates.eq]⟩, by rw [htime]; exact hburst,
    by rw [htime, hderates.eq]; exact hat, hfactor⟩

/-- R468: a pause of the charger ends, and the factor is that of its legs. -/
theorem exec_chargeBurstPause_ends {s : State} (hc : s.Calm) {since : Nat} (hburst : s.charge.burst = some (true, since)) :
    ∃ t, exec .chargeBurstPause s = .next t ∧ t.charge.burst = some (false, t.time.now)
      ∧ since + s.regN Item.THM.CHG_PAUSE * 1000000 ≤ t.time.now ∧ t.reg Item.CHG.DERATE = t.lowestDerating t.chargerLegs := by
  have hrow : exec .chargeBurstPause s = .next (s.act fun _ =>
      (s.burstTurned false (since + s.regN Item.THM.CHG_PAUSE * 1000000)).setDeratings) := by
    refine congrArg Host.Outcome.next (s.act_to _ _ ?_)
    simp only [hburst]
    rfl
  rw [hrow]
  obtain ⟨hcalm, hturned, hlate, hfactor⟩ := s.burstTurned_spec false (since + s.regN Item.THM.CHG_PAUSE * 1000000)
  generalize (s.burstTurned false (since + s.regN Item.THM.CHG_PAUSE * 1000000)).setDeratings = t at *
  exact hcalm.next hc rfl ⟨hturned, hlate, hfactor⟩

/-- R468: after its burst of power flow a throttled charger pauses, at factor 0. -/
theorem exec_chargeBurstPause_pauses {s : State} (hc : s.Calm) {since : Nat} (hburst : s.charge.burst = some (false, since))
    (hrunning : s.charge.running = true) (hthrottled : s.throttled s.chargerLegs = true) :
    ∃ t, exec .chargeBurstPause s = .next t ∧ t.charge.burst = some (true, t.time.now) ∧ t.reg Item.CHG.DERATE = 0
      ∧ since + s.regN Item.THM.CHG_BURST * 1000000000 ≤ t.time.now := by
  have hrow : exec .chargeBurstPause s = .next (s.act fun _ =>
      (s.burstTurned true (since + s.regN Item.THM.CHG_BURST * 1000000000)).setDeratings) := by
    refine congrArg Host.Outcome.next (s.act_to _ _ ?_)
    simp only [hburst]
    exact if_neg (by simp [hrunning, hthrottled])
  rw [hrow]
  obtain ⟨hcalm, hturned, hlate, hfactor⟩ := s.burstTurned_spec true (since + s.regN Item.THM.CHG_BURST * 1000000000)
  generalize (s.burstTurned true (since + s.regN Item.THM.CHG_BURST * 1000000000)).setDeratings = t at *
  exact hcalm.next hc rfl ⟨hturned, hfactor, hlate⟩

/-- R468: the pause between image writes is over. -/
theorem exec_nvPauseEnd_clears {s : State} (hc : s.Calm) :
    ∃ t, exec .nvPauseEnd s = .next t ∧ t.commit = { s.commit with pauseUntil := 0 } ∧ s.commit.pauseUntil ≤ t.time.now
      ∧ t.reg = s.reg ∧ t.store = s.store := by
  refine hc.next (g := { s.reach s.commit.pauseUntil with commit := { s.commit with pauseUntil := 0 } }) rfl rfl rfl rfl ⟨rfl, ?_, rfl, ?_⟩
  · exact le_trans (le_max_right s.time.now s.commit.pauseUntil) (le_max_right s.time.now _)
  · have hfloor : Nat.max s.store.floor s.store.floor = s.store.floor := Nat.max_self _
    have hfirmware : Nat.max s.store.fwFloor s.store.fwFloor = s.store.fwFloor := Nat.max_self _
    show { s.store with floor := Nat.max s.store.floor s.store.floor, fwFloor := Nat.max s.store.fwFloor s.store.fwFloor } = s.store
    rw [hfloor, hfirmware]

/-- Settles O30: each leg's estimate rests on its own readings alone, at one device time, and the factors on the estimates and rates
(assumption logs 11, 61, 62 and 109). -/
theorem estimatesGiveTheDeratingFactors : Obligations.EstimatesGiveTheDeratingFactors := by
  intro s hc
  refine ⟨fun dies vsup vso => exec_tempEstimate_derates hc dies vsup vso, fun leg n vsup vso hsheaf => ?_, exec_tempRateEval_rates hc,
    fun _ hburst => exec_chargeBurstPause_ends hc hburst,
    fun _ hburst hrunning hthrottled => exec_chargeBurstPause_pauses hc hburst hrunning hthrottled, exec_nvPauseEnd_clears hc⟩
  obtain ⟨t, hexec, h⟩ := exec_tempEstimate_estimates hc leg vsup vso hsheaf
  exact ⟨t, hexec, h.ts, h.dT, h.count, h.distance, h.square, h.valid, fun hv => h.shown (h.valid.symm.trans hv),
    fun hv => h.invalid (h.valid.symm.trans hv)⟩

end Sys2Proof.Machine


namespace Sys2Proof.Machine

/-! ## A sheaf with more legs than its carry items (R210, R461) -/

/-- A sheaf READY that binds 1,100,000 legs. No binding has such a count, but the statement speaks of every state; the carry item of the
sheaf's leg 1,048,466 has the address of THM.TB_STATE. -/
def longSheaf : State :=
  { State.reset with
    dev := { State.reset.dev with state := .standby, fwRunning := true }
    bind := { types := [2], first := [0], count := [1100000], loopSheaf := [], profSheaf := [] }
    sheaves := [(0, { Sheaf.init with state := .ready })] }

theorem longSheaf_calm : longSheaf.Calm := ⟨by decide, rfl, rfl, by decide, by decide⟩

/-- THM.TB_STATE shows no cut. -/
def State.NoCutShown (s : State) : Prop := s.reg Item.THM.TB_STATE = 0

theorem State.NoCutShown.clearCarry {s : State} (h : s.NoCutShown) (leg : Nat) : (s.clearCarry leg).NoCutShown := by
  unfold State.clearCarry
  split
  · unfold State.NoCutShown
    rw [State.reg_setReg]
    split
    · rfl
    · exact h
  · exact h

theorem State.clearCarry_bind (s : State) (leg : Nat) : (s.clearCarry leg).bind = s.bind := by
  unfold State.clearCarry
  split
  · rfl
  · rfl

/-- The carry of that leg cleared shows no cut. -/
theorem longSheaf_clearCarry {s : State} (hbind : s.bind = longSheaf.bind) : (s.clearCarry 1048466).NoCutShown := by
  have hsheaf : s.bind.sheafOfLeg 1048466 = some 0 := by
    rw [hbind]
    decide
  have hfirst : s.bind.firstOf 0 = 0 := by rw [hbind]; rfl
  have hitem : Item.PWM.CARRY 0 (1048466 - 0) = Item.THM.TB_STATE := by decide
  unfold State.clearCarry
  simp only [hsheaf, hfirst, hitem]
  exact State.reg_setReg_same ..

/-- So after the carries of legs among which it is, whatever the others. -/
theorem longSheaf_clearCarries {l : List Nat} {s : State} (hbind : s.bind = longSheaf.bind) (h : 1048466 ∈ l ∨ s.NoCutShown) :
    (s.forEach l State.clearCarry).NoCutShown := by
  induction l generalizing s with
  | nil => exact h.resolve_left List.not_mem_nil
  | cons m l ih =>
    refine ih ((s.clearCarry_bind m).trans hbind) ?_
    by_cases hm : 1048466 = m
    · exact .inr (hm ▸ longSheaf_clearCarry hbind)
    · rcases h with h | h
      · exact .inl ((List.mem_cons.mp h).resolve_left hm)
      · exact .inr (h.clearCarry m)

/-- What leaves THM.TB_STATE at 0. -/
structure State.ShowsNoMore (s t : State) : Prop where
  shown : s.NoCutShown → t.NoCutShown

theorem State.showsNoMore_winnowLeg (s : State) (leg : Nat) (c : WinnowCause) : s.ShowsNoMore (s.winnowLeg leg c) :=
  ⟨fun h => State.NoCutShown.clearCarry (s := (s.legOff leg).setLeg leg _) h leg⟩

theorem State.showsNoMore_of_regs {s t : State} (hregs : t.regs = s.regs) (hbind : t.bind = s.bind) : s.ShowsNoMore t := ⟨fun h => by
  unfold State.NoCutShown State.reg at *
  rw [hregs, hbind]
  exact h⟩

theorem State.ShowsNoMore.refl (s : State) : s.ShowsNoMore s := ⟨id⟩

theorem State.ShowsNoMore.trans {s t u : State} (h : s.ShowsNoMore t) (k : t.ShowsNoMore u) : s.ShowsNoMore u := ⟨fun hs => k.shown (h.shown hs)⟩

theorem State.showsNoMore_forEach {α : Type} {f : State → α → State} (hf : ∀ s a, State.ShowsNoMore s (f s a)) (l : List α) (s : State) :
    s.ShowsNoMore (s.forEach l f) := State.forEach_rel State.ShowsNoMore.refl (fun _ _ _ => State.ShowsNoMore.trans) f hf l s

theorem State.Warns.showsNoMore {s t : State} (h : s.Warns t) : s.ShowsNoMore t :=
  State.showsNoMore_of_regs (by rw [h]) (by rw [h])

theorem State.Completes.showsNoMore {s t : State} (h : s.Completes t) : s.ShowsNoMore t :=
  State.showsNoMore_of_regs (by rw [h]) (by rw [h])

theorem State.showsNoMore_driveHeld (s : State) (n leg : Nat) : s.ShowsNoMore (s.driveHeld n leg) := by
  unfold State.driveHeld
  extract_lets l held asc l1 soft
  split
  · exact State.showsNoMore_of_regs rfl rfl
  · split
    · exact State.showsNoMore_of_regs rfl rfl
    · exact State.showsNoMore_of_regs rfl rfl

theorem State.showsNoMore_applySelection (s : State) : s.ShowsNoMore s.applySelection := by
  unfold State.applySelection
  split
  · exact .refl s
  · exact State.showsNoMore_forEach (fun t l => t.showsNoMore_driveHeld _ l) _ s

theorem State.showsNoMore_blame (s : State) {n : Nat} (hn : n < 12) (u : Nat) : s.ShowsNoMore (s.blame n u) := by
  unfold State.blame
  extract_lets src s1 s2
  have h1 : s.ShowsNoMore s1 := State.showsNoMore_of_regs rfl rfl
  have h2 : s1.ShowsNoMore s2 := (s1.warns_recordW _ _ _ (unitKind_sheaf_ne_leg hn)).showsNoMore
  split
  · exact (h1.trans h2).trans (State.showsNoMore_of_regs rfl rfl)
  · exact h1.trans h2

/-- The READY sheaf quieted: its carries cleared, that of leg 1,048,466 among them. -/
theorem longSheaf_quietSheaf {s : State} (hbind : s.bind = longSheaf.bind) (hready : (s.sheaf 0).state = .ready) (st : SheafState) :
    (s.quietSheaf 0 st).NoCutShown := by
  have hmem : 1048466 ∈ s.bind.legsOf 0 := by
    rw [hbind]
    exact List.mem_map.mpr ⟨1048466, List.mem_range.mpr (by decide), rfl⟩
  have hoff : (s.legsOff 0).bind = longSheaf.bind := by
    rw [s.legsOff_eq]
    exact hbind
  have hclears := longSheaf_clearCarries hoff (.inl hmem)
  have htype : ((s.legsOff 0).forEach (s.bind.legsOf 0) State.clearCarry).stype 0 ≠ SType.act := by
    have hkept : ((s.legsOff 0).forEach (s.bind.legsOf 0) State.clearCarry).bind = longSheaf.bind :=
      (State.forEach_rel (R := fun s t => t.bind = s.bind) (fun _ => rfl) (fun _ _ _ h k => k.trans h) _
        State.clearCarry_bind _ _).trans hoff
    unfold State.stype
    rw [hkept]
    decide
  unfold State.quietSheaf
  extract_lets s0 s1
  have h0 : (if (s.sheaf 0).state = .run then (s0.leaveRun 0).stopFollowers 0 else s0) = s0 := if_neg (by rw [hready]; decide)
  have h1 : s1 = s0 := by
    unfold s1
    rw [h0]
    exact if_neg htype
  rw [h1]
  exact (State.showsNoMore_of_regs rfl rfl).shown hclears

/-- Winnowed for another unit's sake, it leaves no cut shown. -/
theorem longSheaf_winnowSheaf {s : State} (hbind : s.bind = longSheaf.bind) (hready : (s.sheaf 0).state = .ready) (hproofs : s.proofs = [])
    (u : Nat) : (s.winnowSheaf 0 (some u)).NoCutShown := by
  have habort : s.abortProofs 0 = s := by
    unfold State.abortProofs
    rw [hproofs]
    exact if_pos rfl
  have hquiet := longSheaf_quietSheaf hbind hready .winnowed
  unfold State.winnowSheaf
  rw [habort]
  extract_lets h s1 s2 s3 s4
  rw [if_pos (.inr (.inl hready))]
  have h2 : s1.ShowsNoMore s2 := State.showsNoMore_forEach (fun t l => t.showsNoMore_winnowLeg l _) _ s1
  have h3 : s2.ShowsNoMore s3 := (State.completes_endSequences ..).showsNoMore
  have h4 : s3.ShowsNoMore s4 := (State.completes_endSequences ..).showsNoMore
  exact ((((h2.trans h3).trans h4).trans (s4.showsNoMore_blame (by decide) u)).trans (State.showsNoMore_applySelection _)).shown hquiet

/-- A cut noted in its items (R461). -/
def State.cutNoted (s : State) (k : Nat) : State :=
  (s.setReg Item.THM.TB_STATE (s.reg Item.THM.TB_STATE ||| nw (2 ^ k))).bump Item.THM.TB_CNT

theorem State.cutSheaf_ready {s : State} {n : Nat} (h : (s.sheaf n).state = .ready) (cut : Nat) :
    s.cutSheaf cut n = s.winnowSheaf n (some (unitOf 15 cut)) := if_pos (.inr (.inl h))

/-- Its gate supplies and its release signals off (Table 17-2). -/
def State.cutSwitched (s : State) (k : Nat) : State := ((s.cutNoted k).supplies ((s.cutNoted k).cutLegs k) false).cutSignals k

/-- Its sheaves out of service, and the device's record (R462). -/
def State.cutTaken (s : State) (k : Nat) : State :=
  (((s.cutSwitched k).forEach ((s.cutSwitched k).cutSheaves k) fun t n => t.cutSheaf k n).applySelection).raise (unitOf Kind.device 0) .W 26

/-- R461: a cut that is not in force acts when its die is hot. -/
theorem exec_tbCut {s : State} {cut : Fin 6} {temp : Int} {readings : List Nat} (hnew : bitOf (s.reg Item.THM.TB_STATE) cut = false)
    (hhot : cutHot cut temp readings = true) : exec (.tbCut cut temp readings) s = .next (s.act fun _ => s.cutTaken cut) :=
  congrArg Host.Outcome.next (s.act_to _ _ (if_neg (by simp [hnew, hhot])))

/-- The cut of a die takes the sheaf of a device that has only that one, READY. -/
theorem State.cutTaken_one {s : State} (hlegs : (s.cutNoted 2).cutLegs 2 = []) (hsheaves : (s.cutNoted 2).cutSheaves 2 = [0])
    (hready : (s.sheaf 0).state = .ready) :
    s.cutTaken 2 = (((s.cutNoted 2).winnowSheaf 0 (some (unitOf 15 2))).applySelection).raise (unitOf Kind.device 0) .W 26 := by
  have hkept : ((s.cutNoted 2).sheaf 0).state = .ready := hready
  have hswitched : s.cutSwitched 2 = s.cutNoted 2 := by
    unfold State.cutSwitched
    rw [hlegs]
    exact if_neg (by decide)
  unfold State.cutTaken
  rw [hswitched, hsheaves, State.forEach_cons, State.forEach_nil, State.cutSheaf_ready hkept]

/-- What that cut leaves to do at the end of the row: nothing. -/
theorem State.calmAs_winnowed (s : State) {n : Nat} (hn : n < 12) (k u : Nat) :
    s.CalmAs ((((s.cutNoted k).winnowSheaf n (some u)).applySelection).raise (unitOf Kind.device 0) .W 26) := by
  have h1 : s.CalmAs (s.cutNoted k) := ⟨rfl, rfl, rfl⟩
  have h2 := ((s.cutNoted k).fencesOnly_winnowSheaf n hn (some u)).trans (State.fencesOnly_applySelection _)
  have h3 := State.warns_detect (((s.cutNoted k).winnowSheaf n (some u)).applySelection) (unitOf Kind.device 0) 26 false (by decide)
  exact (h1.trans h2.1.detects.calmAs).trans h3.engages.calmAs

/-- A sheaf winnowed with no cut shown shows none after the row. -/
theorem State.Calm.winnowed_shows {s : State} (hc : s.Calm) {n : Nat} (hn : n < 12) {k u : Nat}
    (h : ((s.cutNoted k).winnowSheaf n (some u)).NoCutShown) :
    (s.act fun _ => (((s.cutNoted k).winnowSheaf n (some u)).applySelection).raise (unitOf Kind.device 0) .W 26).NoCutShown := by
  have hcalm := s.calmAs_winnowed hn k u
  have hkept := (State.showsNoMore_applySelection _).trans
    (State.warns_detect (((s.cutNoted k).winnowSheaf n (some u)).applySelection) (unitOf Kind.device 0) 26 false (by decide)).showsNoMore
  have hshown := hkept.shown h
  unfold State.raise at hcalm ⊢
  generalize State.detect _ _ _ _ _ = g at *
  rw [hc.act g hcalm.waits hcalm.swaps hcalm.state]
  exact hshown

/-- After the cut of the measurement die of that device, THM.TB_STATE shows no cut. -/
theorem longSheaf_tbCut {t : State} (h : exec (.tbCut 2 1651 []) longSheaf = .next t) : t.NoCutShown := by
  have hrow : exec (.tbCut 2 1651 []) longSheaf = .next (longSheaf.act fun _ => longSheaf.cutTaken 2) :=
    exec_tbCut (by decide) (by decide)
  have hready : ((longSheaf.cutNoted 2).sheaf 0).state = .ready := by decide
  have hbind : (longSheaf.cutNoted 2).bind = longSheaf.bind := rfl
  have hproofs : (longSheaf.cutNoted 2).proofs = [] := rfl
  have hsheaves : (longSheaf.cutNoted 2).cutSheaves 2 = [0] := by decide
  rw [State.cutTaken_one rfl hsheaves (by decide)] at hrow
  rw [← Host.Outcome.next.inj (hrow.symm.trans h)]
  exact longSheaf_calm.winnowed_shows (by decide) (longSheaf_winnowSheaf hbind hready hproofs _)

theorem longSheaf_notices : longSheaf.Notices (unitOf Kind.device 0) 26 := ⟨by decide, fun _ _ => rfl⟩

/-- Refutes O31: its clause of TB_CUT has THM.TB_STATE show the cut after the row, whatever the binding. Winnowing a sheaf clears the carry
items of its legs (R210), which for a sheaf of more than a million legs reach the address of THM.TB_STATE. -/
theorem not_hotUnitsStopAndAreHeld : ¬ Obligations.HotUnitsStopAndAreHeld := by
  intro h
  obtain ⟨-, -, -, hcut, -⟩ := h longSheaf longSheaf_calm
  obtain ⟨t, ht, -, -, hshown, -⟩ := hcut 2 1651 [] (by decide) longSheaf_notices (fun _ => by decide) (fun h5 => absurd h5 (by decide))
  rw [show t.reg Item.THM.TB_STATE = 0 from longSheaf_tbCut ht] at hshown
  exact absurd hshown (by decide)

end Sys2Proof.Machine


namespace Sys2Proof.Machine

/-! ## A MOVE whose record another tag reaches (R37, R123, R124, R398) -/

/-- MOVE to detent 0 of actuator 0. -/
def moveMessage : HostMsg :=
  { kind := 0, flags := 0, tag := 64, opcode := BitVec.ofNat 16 Op.move, length := 16, fresh := 0, unit := nw (actUnit 0), timeout := 0,
    atTime := 0, payload := 1 :: List.replicate 15 0, mac := 0 }

/-- The record of that command, waiting. -/
def moveRecord : CmdRec :=
  { state := .waiting, msg := moveMessage, order := 0, accepted := 0, start := none, code := 0, reason := 0, result := [],
    completed := 0, sent := 0 }

/-- Actuator 0 homed, its sheaf in RUN with its lanes closed on a live port and no MOVE in progress, a MOVE waiting in tag 0 of slot 1, and
the sequence of a MOVE that is no more under tag 64 of slot 0. No command gets such a tag, but the statement speaks of every state, and
records are kept by slot * 64 + tag: the stray sequence's record is the MOVE's. -/
def strayMove : State :=
  ({ State.reset with
    dev := { State.reset.dev with state := .standby, fwRunning := true }
    slots := [(1, { HostSlot.init with status := .attached, claims := 0xFFF })]
    recs := [(64, some moveRecord)]
    seqs := [{ kind := .move, units := [actUnit 0], slot := 0, index := 64, arg := 0, started := 0 }]
    sheaves := [(6, { Sheaf.init with state := .run })] }).setRegs
      [(Item.LOOP.CLOSE 28, 1), (Item.LOOP.CLOSE 29, 1), (Item.POS.MODE 1, 3), (Item.ACT.HOME_MODE 0, 1)]
    |>.setActuator 0 { State.reset.actuator 0 with homed := true }

theorem strayMove_calm : strayMove.Calm := ⟨by decide, rfl, rfl, by decide, by decide⟩

theorem strayMove_due : strayMove.Due 1 0 moveRecord where
  cmd := rfl
  waiting := rfl
  may := by decide
  time := .inl rfl
  claim := by decide
  early := by decide
  held := by decide
  alone := rfl
  fresh := by decide

/-- The MOVE takes the stray sequence over, whose completion takes the record of the MOVE with it (slot 0 is free). -/
theorem strayMove_move {t : State} (h : exec (.moveDetent 1 0) strayMove = .next t) : t.cmd 1 0 = none := by
  cases h
  decide

/-- Refutes O36: nothing keeps a running sequence of the actuator from a tag of 64 or more, which reaches the record of another slot. A MOVE
that begins ends such a sequence, and its own record with it, so that it is not in execution after the command. -/
theorem not_movesBeginWhenTheirChecksPass : ¬ Obligations.MovesBeginWhenTheirChecksPass := by
  intro h
  obtain ⟨hdetent, -, -, -⟩ := h strayMove 1 0 moveRecord 0 6 strayMove_calm strayMove_due (by decide) (by decide) (by decide) (by decide)
    (by decide) (fun h4 => absurd h4 (by decide)) (by decide)
  obtain ⟨t, ht, hruns, -⟩ := hdetent (by decide)
  have hnone := strayMove_move ht
  rw [State.Runs, Fin.val_one, Fin.val_zero] at hruns
  exact absurd (hnone.symm.trans hruns) (by simp)

end Sys2Proof.Machine


namespace Sys2Proof.Machine

/-! ## What the firmware's work on actuators and charging changes (R349, R392, R398) -/

/-- The work of a MOVE or of a charge session may change items, periodic turns, the books of actuators, ports, supervisor, outputs, session
and HV connection, stop words of sheaves, commands, messages and device time; it touches no fault status and no leg, and nothing comes to
wait. -/
structure State.Serves (s t : State) : Prop where
  eq : t = { s with
    regs := t.regs, timers := t.timers, acts := t.acts, ports := t.ports, sup := t.sup, outs := t.outs, charge := t.charge, hv := t.hv
    sheaves := t.sheaves, slots := t.slots, tx := t.tx, cans := t.cans, recs := t.recs, seqs := t.seqs, time := t.time
    dev := { s.dev with free := t.dev.free } }
  now : s.time.now ≤ t.time.now

theorem State.Serves.refl (s : State) : s.Serves s := ⟨rfl, le_rfl⟩

theorem State.Serves.trans {s t u : State} (h : s.Serves t) (k : t.Serves u) : s.Serves u := ⟨by rw [k.eq, h.eq], h.now.trans k.now⟩

theorem State.Serves.calmAs {s t : State} (h : s.Serves t) : s.CalmAs t := ⟨by rw [h.eq], by rw [h.eq], by rw [h.eq]⟩
theorem State.Serves.unit {s t : State} (h : s.Serves t) : t.unit = s.unit := by rw [h.eq]; rfl
theorem State.Serves.leg {s t : State} (h : s.Serves t) : t.leg = s.leg := by rw [h.eq]; rfl
theorem State.Serves.bind {s t : State} (h : s.Serves t) : t.bind = s.bind := by rw [h.eq]
theorem State.Serves.keepLive_now {s t : State} (h : s.Serves t) : (s.keepLive t).time.now = t.time.now := Nat.max_eq_right h.now
theorem State.Serves.poised {s t : State} (h : s.Serves t) (u : Nat) : s.Poised t u :=
  ⟨by rw [h.unit], by rw [h.unit], by rw [h.eq], h.now⟩

theorem State.Completes.serves {s t : State} (h : s.Completes t) : s.Serves t := by
  unfold State.Completes at h
  exact ⟨by rw [h], by rw [h]⟩

theorem State.serves_setReg (s : State) (a : Nat) (w : Word) : s.Serves (s.setReg a w) := ⟨rfl, le_rfl⟩
theorem State.serves_bump (s : State) (a : Nat) : s.Serves (s.bump a) := s.serves_setReg ..
theorem State.serves_reach (s : State) (t : Nat) : s.Serves (s.reach t) := ⟨rfl, le_max_left ..⟩
theorem State.serves_every (s : State) (timer period : Nat) : s.Serves (s.every timer period) := ⟨rfl, le_max_left ..⟩
theorem State.serves_setActuator (s : State) (k : Nat) (a : ActRun) : s.Serves (s.setActuator k a) := ⟨rfl, le_rfl⟩
theorem State.serves_setPort (s : State) (n : Nat) (p : Port) : s.Serves (s.setPort n p) := ⟨rfl, le_rfl⟩
theorem State.serves_setCharge (s : State) (c : Charge) : s.Serves (s.setCharge c) := ⟨rfl, le_rfl⟩

theorem State.serves_setRegs (s : State) (l : List (Nat × Word)) : s.Serves (s.setRegs l) := by
  induction l generalizing s with
  | nil => exact .refl s
  | cons p l ih => exact (s.serves_setReg p.1 p.2).trans (ih _)

/-! ## Work that only writes items -/

/-- What only writes items. -/
structure State.WritesItems (s t : State) : Prop where
  eq : t = { s with regs := t.regs }

theorem State.WritesItems.refl (s : State) : s.WritesItems s := ⟨rfl⟩

theorem State.WritesItems.trans {s t u : State} (h : s.WritesItems t) (k : t.WritesItems u) : s.WritesItems u := ⟨by rw [k.eq, h.eq]⟩

theorem State.WritesItems.serves {s t : State} (h : s.WritesItems t) : s.Serves t := ⟨by rw [h.eq], by rw [h.eq]⟩
theorem State.WritesItems.actuator {s t : State} (h : s.WritesItems t) : t.actuator = s.actuator := by rw [h.eq]; rfl
theorem State.WritesItems.time {s t : State} (h : s.WritesItems t) : t.time = s.time := by rw [h.eq]
theorem State.WritesItems.charge {s t : State} (h : s.WritesItems t) : t.charge = s.charge := by rw [h.eq]
theorem State.WritesItems.sheaf {s t : State} (h : s.WritesItems t) : t.sheaf = s.sheaf := by rw [h.eq]; rfl

theorem State.writesItems_setReg (s : State) (a : Nat) (w : Word) : s.WritesItems (s.setReg a w) := ⟨rfl⟩

theorem State.writesItems_setRegs (s : State) (l : List (Nat × Word)) : s.WritesItems (s.setRegs l) := by
  induction l generalizing s with
  | nil => exact .refl s
  | cons p l ih => exact (s.writesItems_setReg p.1 p.2).trans (ih _)

theorem State.writesItems_initGenerator (s : State) (g : Nat) : s.WritesItems (s.initGenerator g) := s.writesItems_setRegs _

theorem State.initGenerator_reg (s : State) {g a : Nat} (hx : a ≠ Item.PROF.X g) (hv : a ≠ Item.PROF.V g) (ha : a ≠ Item.PROF.A g) :
    (s.initGenerator g).reg a = s.reg a :=
  s.reg_setRegs_other _ (by simp [hx, hv, ha])

theorem State.writesItems_driveTo (s : State) (k g : Nat) (m : MoveRun) (w : Word) : s.WritesItems (s.driveTo k g m w) := by
  unfold State.driveTo
  simp only
  split
  · exact (s.writesItems_setRegs _).trans (State.writesItems_initGenerator ..)
  · exact s.writesItems_setRegs _

theorem State.writesItems_driveHome (s : State) (k g : Nat) (m : MoveRun) (forward : Bool) :
    s.WritesItems (s.driveHome k g m forward) := by
  unfold State.driveHome
  simp only
  split
  · exact (s.writesItems_setRegs _).trans (State.writesItems_initGenerator ..)
  · exact s.writesItems_setRegs _

theorem State.writesItems_resync (s : State) (g : Nat) : s.WritesItems (s.resync g) :=
  (s.writesItems_setRegs _).trans (State.writesItems_initGenerator ..)

theorem State.driveTo_target (s : State) (k g : Nat) (m : MoveRun) (w : Word) : (s.driveTo k g m w).reg (Item.PROF.TARGET g) = w := by
  have hset : (s.setRegs [(Item.PROF.VMAX g, m.vmax), (Item.PROF.AMAX g, m.amax), (Item.PROF.DMAX g, m.amax),
      (Item.PROF.JMAX g, s.reg (Item.ACT.JMAX k)), (Item.PROF.TARGET g, w), (Item.PROF.CMD g, 0), (Item.PROF.MODE g, 1),
      (Item.PROF.STATUS g, s.reg (Item.PROF.STATUS g) &&& 0xFFFFFFFE)]).reg (Item.PROF.TARGET g) = w :=
    s.reg_setRegs_of_nodup (by simp [Item.PROF.VMAX, Item.PROF.AMAX, Item.PROF.DMAX, Item.PROF.JMAX, Item.PROF.TARGET, Item.PROF.CMD,
      Item.PROF.MODE, Item.PROF.STATUS, Item.addr]) (p := (Item.PROF.TARGET g, w)) (by simp)
  unfold State.driveTo
  simp only
  split
  · exact (State.initGenerator_reg _ (by simp [Item.PROF.TARGET, Item.PROF.X, Item.addr]) (by simp [Item.PROF.TARGET, Item.PROF.V, Item.addr])
      (by simp [Item.PROF.TARGET, Item.PROF.A, Item.addr])).trans hset
  · exact hset

/-! ## Requests on safety outputs (R419) -/

/-- What a request on safety outputs changes: the outputs and their own items. -/
structure State.Requests (s t : State) : Prop where
  eq : t = { s with regs := t.regs, outs := t.outs }
  reg : ∀ a < Item.addr 0x19 0 0, t.reg a = s.reg a

theorem State.Requests.refl (s : State) : s.Requests s := ⟨rfl, fun _ _ => rfl⟩

theorem State.Requests.trans {s t u : State} (h : s.Requests t) (k : t.Requests u) : s.Requests u :=
  ⟨by rw [k.eq, h.eq], fun a ha => (k.reg a ha).trans (h.reg a ha)⟩

theorem State.Requests.serves {s t : State} (h : s.Requests t) : s.Serves t := ⟨by rw [h.eq], by rw [h.eq]⟩
theorem State.Requests.time {s t : State} (h : s.Requests t) : t.time = s.time := by rw [h.eq]
theorem State.Requests.charge {s t : State} (h : s.Requests t) : t.charge = s.charge := by rw [h.eq]

theorem State.requests_setOut (s : State) (n : Nat) (o : Output) : s.Requests (s.setOut n o) := ⟨rfl, fun _ _ => rfl⟩

theorem State.requests_bump (s : State) {a : Nat} (ha : Item.addr 0x19 0 0 ≤ a) : s.Requests (s.bump a) :=
  ⟨rfl, fun _ hb => s.reg_setReg_other _ _ _ (Nat.ne_of_lt (hb.trans_le ha))⟩

theorem State.requests_outDemand (s : State) (n : Nat) : s.Requests (s.outDemand n) := by
  unfold State.outDemand
  simp only
  split
  · exact (s.requests_bump (by unfold Item.SOUT.TEST_ABORT_CNT Item.addr; omega)).trans (State.requests_setOut ..)
  · exact s.requests_setOut ..

theorem State.requests_outRequest (s : State) (n : Nat) (on : Bool) : s.Requests (s.outRequest n on) := by
  have h := s.requests_outDemand n
  unfold State.outRequest State.outOff
  simp only
  split
  · split
    · split
      · exact h
      · exact (h.trans (State.requests_setOut ..)).trans (State.requests_bump _ (by unfold Item.SOUT.ON_CNT Item.addr; omega))
    · exact .refl s
  · exact h.trans (State.requests_setOut ..)

theorem State.requests_requestAs (s : State) (owner n : Nat) (on : Bool) : s.Requests (s.requestAs owner n on) := by
  unfold State.requestAs
  split
  · exact s.requests_outRequest n on
  · exact .refl s

end Sys2Proof.Machine


namespace Sys2Proof.Machine

/-! ## The ends of a MOVE (R396, R398) -/

theorem State.Completes.actuator {s t : State} (h : s.Completes t) : t.actuator = s.actuator := by rw [h]; rfl
theorem State.Completes.reg {s t : State} (h : s.Completes t) : t.reg = s.reg := by rw [h]; rfl
theorem State.Completes.time {s t : State} (h : s.Completes t) : t.time = s.time := by rw [h]

theorem State.Serves.next {s g : State} (h : s.Serves g) (hc : s.Calm) {f : State → State} {P : State → Prop} (hf : f s = g)
    (hP : P (s.keepLive g)) : ∃ t, (.next (s.act f) : Host.Outcome State Fault Refusal) = .next t ∧ P t := h.calmAs.next hc hf hP

theorem State.onMove_eq {s : State} {k n : Nat} {m : MoveRun} (hs : s.actSheaf k = some n) (hm : (s.actuator k).move = some m)
    (f : State → Nat → MoveRun → State) : s.onMove k f = f s n m := by
  unfold State.onMove
  rw [hs, hm]

theorem State.toStep_move (s : State) (k : Nat) (m : MoveRun) (step : Nat) :
    ((s.toStep k m step).actuator k).move = some { m with step := step, since := s.time.now } := by
  rw [State.toStep, State.setMove, State.actuator_setActuator_same]

theorem State.serves_toStep (s : State) (k : Nat) (m : MoveRun) (step : Nat) : s.Serves (s.toStep k m step) := s.serves_setActuator ..

/-- An actuator whose MOVE has ended. -/
def State.actEnded (s : State) (k n : Nat) : ActRun :=
  { s.actuator k with
    move := none
    pauseEnd := s.time.now + s.regN (Item.ACT.PAUSE_MIN k) * 1000000
    thermEnd := if s.actThrottled n then s.time.now + s.regN Item.THM.ACT_PAUSE * 1000000 else (s.actuator k).thermEnd
    proved := s.parkProved k
    stopAfter := false }

/-- The end of a MOVE for which no stop waits: the actuator's books and the MOVE's command. -/
theorem State.endMove_completes {s : State} {k : Nat} (h : (s.actuator k).stopAfter = false) (n code reason : Nat) (result : List Byte) :
    (s.setActuator k (s.actEnded k n)).Completes (s.endMove k n code reason result) := by
  unfold State.endMove
  simp only [h]
  exact State.completes_endSequences ..

/-- What the end of a MOVE leaves. -/
structure State.EndsMove (s t : State) (k : Nat) : Prop where
  serves : s.Serves t
  move : (t.actuator k).move = none
  homed : (t.actuator k).homed = (s.actuator k).homed
  pause : (t.actuator k).pauseEnd = s.time.now + s.regN (Item.ACT.PAUSE_MIN k) * 1000000
  reg : t.reg = s.reg
  time : t.time = s.time

theorem State.endMove_spec {s : State} {k : Nat} (h : (s.actuator k).stopAfter = false) (n code reason : Nat) (result : List Byte) :
    s.EndsMove (s.endMove k n code reason result) k := by
  have hends := s.endMove_completes h n code reason result
  have hact : (s.endMove k n code reason result).actuator k = s.actEnded k n := by
    rw [hends.actuator, State.actuator_setActuator_same]
  exact ⟨(s.serves_setActuator ..).trans hends.serves, by rw [hact]; rfl, by rw [hact]; rfl, by rw [hact]; rfl, hends.reg, hends.time⟩

/-- A MOVE of a host to a detent or a position that has arrived counts and ends. -/
theorem State.moveDone_spec {s : State} {k : Nat} {m : MoveRun} (h : (s.actuator k).stopAfter = false) (n : Nat) (hop : m.op ≤ 2)
    (hending : m.ending = none) (hauto : m.auto = false) :
    s.Serves (s.moveDone k n m) ∧ ((s.moveDone k n m).actuator k).move = none
      ∧ (s.moveDone k n m).reg (Item.ACT.MOVE_CNT k) = s.reg (Item.ACT.MOVE_CNT k) + 1 ∧ (s.moveDone k n m).time = s.time
      ∧ ((s.moveDone k n m).actuator k).pauseEnd = s.time.now + s.regN (Item.ACT.PAUSE_MIN k) * 1000000 := by
  have hnone : ¬ m.op ≥ 3 := by omega
  have heq : s.moveDone k n m = (s.bump (Item.ACT.MOVE_CNT k)).endMove k n Code.ok Reason.none
      (wordBytes ((s.bump (Item.ACT.MOVE_CNT k)).actPos k)) := by
    unfold State.moveDone
    simp only [hending, hauto, hnone, false_and, if_false]
    rfl
  have hends := State.endMove_spec (s := s.bump (Item.ACT.MOVE_CNT k)) h n Code.ok Reason.none
    (wordBytes ((s.bump (Item.ACT.MOVE_CNT k)).actPos k))
  have hpause : (s.bump (Item.ACT.MOVE_CNT k)).regN (Item.ACT.PAUSE_MIN k) = s.regN (Item.ACT.PAUSE_MIN k) :=
    congrArg BitVec.toNat (s.reg_setReg_other _ _ _ (by simp [Item.ACT.PAUSE_MIN, Item.ACT.MOVE_CNT, Item.addr]))
  rw [heq]
  refine ⟨(s.serves_bump _).trans hends.serves, hends.move, ?_, hends.time, ?_⟩
  · rw [hends.reg]
    exact s.reg_setReg_same ..
  · rw [hends.pause, hpause]
    rfl

/-- The way of a MOVE to a detent or a position begins: its target stands in the generator. -/
theorem State.moveDrive_spec (s : State) {k n : Nat} {m : MoveRun} (hop : m.op ≤ 2) :
    s.Serves (s.moveDrive k n m) ∧ ((s.moveDrive k n m).actuator k).move = some { m with step := 4, since := s.time.now }
      ∧ (s.moveDrive k n m).reg (Item.PROF.TARGET (s.actGen n)) = m.target
      ∧ ((s.moveDrive k n m).actuator k).lifted = (s.actuator k).lifted ∧ (s.moveDrive k n m).time = s.time := by
  have hnone : ¬ m.op ≥ 3 := by omega
  have heq : s.moveDrive k n m = (s.driveTo k (s.actGen n) m m.target).toStep k m 4 := if_neg hnone
  have hdrive := s.writesItems_driveTo k (s.actGen n) m m.target
  have htarget := s.driveTo_target k (s.actGen n) m m.target
  rw [heq]
  generalize s.driveTo k (s.actGen n) m m.target = g at *
  refine ⟨hdrive.serves.trans (g.serves_toStep ..), ?_, htarget, ?_, hdrive.time⟩
  · rw [g.toStep_move, hdrive.time]
  · rw [State.toStep, State.setMove, State.actuator_setActuator_same, hdrive.actuator]

end Sys2Proof.Machine


namespace Sys2Proof.Machine

/-! ## The steps of a MOVE (R392 to R398) -/

section
variable {s : State} {k : Fin 2} {n : Nat} {m : MoveRun} (hc : s.Calm) (hs : s.actSheaf k = some n) (hm : (s.actuator k).move = some m)
include hc hs hm

theorem exec_movePauseEnd_drives (hstep : m.step = 2) (hop : m.op ≤ 2) (hpark : s.parkActuator ≠ some k.val) :
    ∃ t, exec (.movePauseEnd k) s = .next t ∧ (t.actuator k).move = some { m with step := 4, since := t.time.now }
      ∧ t.reg (Item.PROF.TARGET (s.actGen n)) = m.target ∧ t.unit = s.unit ∧ t.leg = s.leg := by
  let w := s.reach (s.pauseFor k (F32.same m.target (s.reg (Item.ACT.POS k 0))))
  have hlatch : w.moveLatch k n m = w.moveDrive k n m := if_neg hpark
  obtain ⟨hserves, hmove, htarget, -, htime⟩ := w.moveDrive_spec (k := k) (n := n) hop
  have hwork := (s.serves_reach _).trans hserves
  refine hwork.next hc ((State.onMove_eq hs hm _).trans ((if_pos hstep).trans hlatch)) ⟨?_, htarget, hwork.unit, hwork.leg⟩
  rw [hwork.keepLive_now, htime]
  exact hmove

theorem exec_movePauseEnd_latches (hstep : m.step = 2) (hpark : s.parkActuator = some k.val) (hlifted : (s.actuator k).lifted = false) :
    ∃ t, exec (.movePauseEnd k) s = .next t ∧ (t.actuator k).move = some { m with step := 3, since := t.time.now }
      ∧ t.unit = s.unit ∧ t.leg = s.leg := by
  let w := s.reach (s.pauseFor k (F32.same m.target (s.reg (Item.ACT.POS k 0))))
  have hdown : ¬ ((w.actuator k).lifted = true ∧ (w.out 5).on = true) := by
    rw [show (w.actuator k).lifted = false from hlifted]
    simp
  have hlatch : w.moveLatch k n m = (w.requestAs 2 5 true).toStep k m 3 := (if_pos hpark).trans (if_neg hdown)
  have hrequest := w.requests_requestAs 2 5 true
  have hwork := ((s.serves_reach _).trans hrequest.serves).trans ((w.requestAs 2 5 true).serves_toStep k m 3)
  refine hwork.next hc ((State.onMove_eq hs hm _).trans ((if_pos hstep).trans hlatch)) ⟨?_, hwork.unit, hwork.leg⟩
  rw [hwork.keepLive_now]
  exact (w.requestAs 2 5 true).toStep_move k m 3

theorem exec_latchWaitEnd_drives (hstep : m.step = 3) (hop : m.op ≤ 2) :
    ∃ t, exec (.latchWaitEnd k) s = .next t ∧ (t.actuator k).lifted = true
      ∧ (t.actuator k).move = some { m with step := 4, since := t.time.now }
      ∧ m.since + s.regN (Item.ACT.LATCH_T k) * 1000000 ≤ t.time.now := by
  let w := s.reach (m.since + s.regN (Item.ACT.LATCH_T k) * 1000000)
  let v := w.setActuator k { w.actuator k with lifted := true }
  have hlifted : (v.actuator k).lifted = true := congrArg ActRun.lifted (w.actuator_setActuator_same k _)
  obtain ⟨hserves, hmove, -, hkept, htime⟩ := v.moveDrive_spec (k := k) (n := n) hop
  have hwork := ((s.serves_reach _).trans (w.serves_setActuator k _)).trans hserves
  refine hwork.next hc ((State.onMove_eq hs hm _).trans (if_pos hstep)) ⟨hkept.trans hlifted, ?_, ?_⟩
  · rw [hwork.keepLive_now, htime]
    exact hmove
  · rw [hwork.keepLive_now, htime]
    exact le_max_right ..

theorem exec_latchWaitEnd_done (hstop : (s.actuator k).stopAfter = false) (hstep : m.step = 6) (hop : m.op ≤ 2) (hending : m.ending = none)
    (hauto : m.auto = false) :
    ∃ t, exec (.latchWaitEnd k) s = .next t ∧ (t.actuator k).move = none
      ∧ t.reg (Item.ACT.MOVE_CNT k) = s.reg (Item.ACT.MOVE_CNT k) + 1 ∧ t.unit = s.unit := by
  let w := s.reach (m.since + s.regN (Item.ACT.LATCH_T k) * 1000000)
  have hnot : m.step ≠ 3 := by omega
  obtain ⟨hserves, hmove, hcount, -, -⟩ := State.moveDone_spec (s := w) hstop n hop hending hauto
  have hwork := (s.serves_reach _).trans hserves
  exact hwork.next hc ((State.onMove_eq hs hm _).trans ((if_neg hnot).trans (if_pos hstep))) ⟨hmove, hcount, hwork.unit⟩

/-- The generator of the actuator's sheaf at its target. -/
def State.genArrived (s : State) (g : Nat) : State :=
  s.setRegs [(Item.PROF.X g, s.reg (Item.PROF.TARGET g)), (Item.PROF.V g, 0), (Item.PROF.A g, 0),
    (Item.PROF.STATUS g, (s.reg (Item.PROF.STATUS g) ||| 1) &&& 0xFFFFFFF5)]

omit hc hs hm in
theorem State.genArrived_reg (s : State) (g : Nat) :
    (s.genArrived g).reg (Item.PROF.X g) = s.reg (Item.PROF.TARGET g) ∧ (s.genArrived g).reg (Item.PROF.V g) = 0
      ∧ (s.genArrived g).reg (Item.PROF.A g) = 0 ∧ bitOf ((s.genArrived g).reg (Item.PROF.STATUS g)) 0 = true := by
  have hnodup : ([(Item.PROF.X g, s.reg (Item.PROF.TARGET g)), (Item.PROF.V g, 0), (Item.PROF.A g, 0),
      (Item.PROF.STATUS g, (s.reg (Item.PROF.STATUS g) ||| 1) &&& 0xFFFFFFF5)].map Prod.fst).Nodup := by
    simp [Item.PROF.X, Item.PROF.V, Item.PROF.A, Item.PROF.STATUS, Item.addr]
  have hread {p : Nat × Word} (hp : p ∈ _) : (s.genArrived g).reg p.1 = p.2 := s.reg_setRegs_of_nodup hnodup hp
  refine ⟨hread (.head _), hread (.tail _ (.head _)), hread (.tail _ (.tail _ (.head _))), ?_⟩
  rw [hread (.tail _ (.tail _ (.tail _ (.head _))))]
  simp [bitOf]

theorem exec_generatorDone_settles {g : Fin 4} (hg : s.bind.profSheaf.getD g 15 = n) (hrun : (s.sheaf n).state = .run)
    (hdone : s.genDone g = true) (htype : s.stype n = SType.act) (hgen : s.actGen n = g) (hof : s.actOf n = k) (hstep : m.step = 4) :
    ∃ t, exec (.generatorDone g) s = .next t ∧ (t.actuator k).move = some { m with step := 5, since := s.time.now }
      ∧ t.reg (Item.PROF.X g) = s.reg (Item.PROF.TARGET g) ∧ t.reg (Item.PROF.V g) = 0 ∧ t.reg (Item.PROF.A g) = 0
      ∧ bitOf (t.reg (Item.PROF.STATUS g)) 0 = true ∧ t.unit = s.unit := by
  have hn : n < 12 := State.actSheaf_lt hs
  have hguard : ¬ (n ≥ 12 ∨ (s.sheaf n).state ≠ .run ∨ (!s.genDone g) = true) := by simp [hrun, hdone, hn]
  have hwork := (s.writesItems_setRegs _).serves.trans ((s.genArrived g).serves_toStep k m 5)
  obtain ⟨hx, hv, ha, hstatus⟩ := s.genArrived_reg g
  refine hwork.next hc (g := (s.genArrived g).toStep k m 5) ?_ ⟨?_, hx, hv, ha, hstatus, hwork.unit⟩
  · simp only [hg]
    rw [if_neg hguard, if_pos ⟨htype, hgen⟩, hof]
    exact (State.onMove_eq (s := s.genArrived g) hs hm _).trans (if_pos hstep)
  · exact (s.genArrived g).toStep_move k m 5

theorem exec_moveSettled_done (hstop : (s.actuator k).stopAfter = false) (hstep : m.step = 5) (hop : m.op ≤ 2) (hending : m.ending = none)
    (hauto : m.auto = false) (hpark : s.parkActuator ≠ some k.val)
    (hband : F32.le (F32.abs (s.reg (Item.LOOP.ERR_A (s.actLane n)))) (s.reg (Item.ACT.POS_BAND k)) = true) :
    ∃ t, exec (.moveSettled k) s = .next t ∧ (t.actuator k).move = none
      ∧ t.reg (Item.ACT.MOVE_CNT k) = s.reg (Item.ACT.MOVE_CNT k) + 1
      ∧ Nat.max m.since ((s.actuator k).bandSince.getD m.since) + s.regN (Item.ACT.SETTLE_T k) * 1000000 ≤ t.time.now
      ∧ (t.actuator k).pauseEnd = t.time.now + s.regN (Item.ACT.PAUSE_MIN k) * 1000000 ∧ t.unit = s.unit := by
  let settled := Nat.max m.since ((s.actuator k).bandSince.getD m.since) + s.regN (Item.ACT.SETTLE_T k) * 1000000
  let w := s.reach ((settled + 999999) / 1000000 * 1000000)
  have htick : s.settleTick k n m = some ((settled + 999999) / 1000000 * 1000000) := if_pos hband
  have harrived : w.moveArrived k n m = w.moveDone k n m := if_neg hpark
  obtain ⟨hserves, hmove, hcount, htime, hpause⟩ := State.moveDone_spec (s := w) hstop n hop hending hauto
  have hwork := (s.serves_reach _).trans hserves
  refine hwork.next hc (g := w.moveDone k n m) ?_ ⟨hmove, hcount, ?_, ?_, hwork.unit⟩
  · refine (State.onMove_eq hs hm _).trans ((if_pos hstep).trans ?_)
    rw [htick]
    exact harrived
  · rw [hwork.keepLive_now, htime]
    have hlate : settled ≤ (settled + 999999) / 1000000 * 1000000 := by omega
    exact hlate.trans (le_max_right ..)
  · rw [hwork.keepLive_now, htime]
    exact hpause

theorem exec_moveTorqueCheck_ends (hstop : (s.actuator k).stopAfter = false) (hstep : m.step = 4 ∨ m.step = 5)
    (hpark : s.parkActuator ≠ some k.val) (htorque : s.shiftTorqueOk k = false) :
    ∃ t, exec (.moveTorqueCheck k) s = .next t ∧ (t.actuator k).move = none ∧ t.reg (Item.PROF.CMD (s.actGen n)) = 1
      ∧ t.unit = s.unit ∧ s.lastDone (Timer.shiftTorque k) + 1000000 ≤ t.time.now := by
  let w := s.every (Timer.shiftTorque k) 1000000
  have hguard : (m.step = 4 ∨ m.step = 5) ∧ w.parkActuator ≠ some k.val ∧ (!w.shiftTorqueOk k) = true :=
    ⟨hstep, hpark, by rw [show w.shiftTorqueOk k = false from htorque]; rfl⟩
  have hends := State.endMove_spec (s := w.genStop (s.actGen n)) hstop n Code.invalid Reason.torque []
  have hwork := ((s.serves_every _ _).trans (w.serves_setReg _ _)).trans hends.serves
  refine hwork.next hc ((State.onMove_eq (s := w) hs hm _).trans (if_pos hguard)) ⟨hends.move, ?_, hwork.unit, ?_⟩
  · exact (congrFun hends.reg _).trans (w.reg_setReg_same ..)
  · rw [hwork.keepLive_now, hends.time]
    exact s.every_now ..

end

/-- Settles O34: each row of a MOVE sets the next step, or ends the MOVE for which no stop waits. -/
theorem movesGoThroughTheirSteps : Obligations.MovesGoThroughTheirSteps := fun _ _ _ _ hc hs hm _ hstop =>
  ⟨exec_movePauseEnd_drives hc hs hm, exec_movePauseEnd_latches hc hs hm, exec_latchWaitEnd_drives hc hs hm,
    exec_latchWaitEnd_done hc hs hm hstop, fun _ => exec_generatorDone_settles hc hs hm, exec_moveSettled_done hc hs hm hstop,
    exec_moveTorqueCheck_ends hc hs hm hstop⟩

end Sys2Proof.Machine


namespace Sys2Proof.Machine

/-! ## What fencing an actuator leaves of its books (R398, R440) -/

/-- What begins no MOVE and keeps what homing found. -/
structure State.BeginsNoMove (s t : State) : Prop where
  homed : ∀ k, (t.actuator k).homed = (s.actuator k).homed
  move : ∀ k, (s.actuator k).move = none → (t.actuator k).move = none

theorem State.BeginsNoMove.refl (s : State) : s.BeginsNoMove s := ⟨fun _ => rfl, fun _ => id⟩

theorem State.BeginsNoMove.trans {s t u : State} (h : s.BeginsNoMove t) (k : t.BeginsNoMove u) : s.BeginsNoMove u :=
  ⟨fun j => (k.homed j).trans (h.homed j), fun j hj => k.move j (h.move j hj)⟩

theorem State.beginsNoMove_of_acts {s t : State} (h : t.acts = s.acts) : s.BeginsNoMove t := by
  have hact : t.actuator = s.actuator := by
    unfold State.actuator
    rw [h]
  exact ⟨fun k => by rw [hact], fun k hk => by rwa [hact]⟩

theorem State.beginsNoMove_forEach {α : Type} {f : State → α → State} (hf : ∀ s a, State.BeginsNoMove s (f s a)) (l : List α) (s : State) :
    s.BeginsNoMove (s.forEach l f) := State.forEach_rel State.BeginsNoMove.refl (fun _ _ _ => State.BeginsNoMove.trans) f hf l s

theorem State.Completes.beginsNoMove {s t : State} (h : s.Completes t) : s.BeginsNoMove t := State.beginsNoMove_of_acts (by rw [h])
theorem State.Warns.beginsNoMove {s t : State} (h : s.Warns t) : s.BeginsNoMove t := State.beginsNoMove_of_acts (by rw [h])
theorem State.WritesItems.beginsNoMove {s t : State} (h : s.WritesItems t) : s.BeginsNoMove t := State.beginsNoMove_of_acts (by rw [h.eq])

theorem State.beginsNoMove_setLeg (s : State) (n : Nat) (l : Leg) : s.BeginsNoMove (s.setLeg n l) := State.beginsNoMove_of_acts rfl
theorem State.beginsNoMove_setSheaf (s : State) (n : Nat) (h : Sheaf) : s.BeginsNoMove (s.setSheaf n h) := State.beginsNoMove_of_acts rfl

theorem State.beginsNoMove_clearCarry (s : State) (leg : Nat) : s.BeginsNoMove (s.clearCarry leg) := by
  unfold State.clearCarry
  split
  · exact State.beginsNoMove_of_acts rfl
  · exact .refl s

theorem State.beginsNoMove_winnowLeg (s : State) (leg : Nat) (c : WinnowCause) : s.BeginsNoMove (s.winnowLeg leg c) :=
  State.BeginsNoMove.trans (t := (s.legOff leg).setLeg leg _) (State.beginsNoMove_of_acts rfl) (State.beginsNoMove_clearCarry ..)

theorem State.beginsNoMove_leaveRun (s : State) (n : Nat) : s.BeginsNoMove (s.leaveRun n) := by
  unfold State.leaveRun
  extract_lets s1 s2 c b
  have h : s.BeginsNoMove s2 :=
    (State.beginsNoMove_forEach (fun t g => (t.writesItems_setRegs _).beginsNoMove) _ s).trans
      (State.beginsNoMove_forEach (fun t leg => t.beginsNoMove_setLeg leg _) _ s1)
  refine h.trans ?_
  split
  · exact State.beginsNoMove_of_acts rfl
  · split
    · exact .refl _
    · exact State.beginsNoMove_of_acts rfl
  · have hb : s2.BeginsNoMove b := by
      unfold b
      split
      · exact .refl _
      · exact State.beginsNoMove_of_acts rfl
    exact hb.trans (State.beginsNoMove_of_acts rfl)
  · exact .refl _

theorem State.beginsNoMove_stopFollowers (s : State) (n : Nat) : s.BeginsNoMove (s.stopFollowers n) :=
  State.beginsNoMove_forEach (fun t m => t.beginsNoMove_setSheaf m _) _ s

theorem State.beginsNoMove_dropMove (s : State) (n : Nat) : s.BeginsNoMove (s.dropMove n) := by
  unfold State.dropMove
  split
  · refine ⟨fun k => ?_, fun k hk => ?_⟩
    · rw [State.actuator_setActuator]
      split
      · next hkn => rw [hkn]
      · rfl
    · rw [State.actuator_setActuator]
      split
      · rfl
      · exact hk
  · exact .refl s

theorem State.beginsNoMove_quietSheaf (s : State) (n : Nat) (st : SheafState) : s.BeginsNoMove (s.quietSheaf n st) := by
  unfold State.quietSheaf
  extract_lets s0 s1
  have h0 : s.BeginsNoMove s0 := (State.beginsNoMove_forEach (f := State.legOff) (fun t n => t.beginsNoMove_setLeg n _) _ s).trans
    (State.beginsNoMove_forEach State.beginsNoMove_clearCarry _ _)
  have h1 : s.BeginsNoMove s1 := by
    unfold s1
    split
    · exact ((h0.trans (s0.beginsNoMove_leaveRun n)).trans (State.beginsNoMove_stopFollowers ..)).trans (State.beginsNoMove_dropMove ..)
    · exact h0.trans (State.beginsNoMove_dropMove ..)
  exact h1.trans (State.beginsNoMove_of_acts rfl)

theorem State.beginsNoMove_supplies (s : State) (legs : List Nat) (on : Bool) : s.BeginsNoMove (s.supplies legs on) :=
  State.beginsNoMove_forEach (fun t n => t.beginsNoMove_setLeg n _) _ s

theorem State.beginsNoMove_abortProofs (s : State) (n : Nat) : s.BeginsNoMove (s.abortProofs n) := by
  unfold State.abortProofs
  extract_lets ps s0 s1
  split
  · exact .refl s
  · have h0 : s.BeginsNoMove s0 := State.beginsNoMove_of_acts rfl
    have h1 : s.BeginsNoMove s1 := by
      unfold s1
      split
      · exact h0.trans (State.beginsNoMove_supplies ..)
      · exact h0
    exact (h1.trans (State.writesItems_setReg ..).beginsNoMove).trans (State.completes_endSequences ..).beginsNoMove

theorem State.beginsNoMove_blame (s : State) {n : Nat} (hn : n < 12) (u : Nat) : s.BeginsNoMove (s.blame n u) := by
  unfold State.blame
  extract_lets src s1 s2
  have h : s.BeginsNoMove s2 :=
    State.BeginsNoMove.trans (t := s1) (State.beginsNoMove_of_acts rfl) (s1.warns_recordW _ _ _ (unitKind_sheaf_ne_leg hn)).beginsNoMove
  split
  · exact h.trans (State.beginsNoMove_of_acts rfl)
  · exact h

theorem State.beginsNoMove_driveHeld (s : State) (n leg : Nat) : s.BeginsNoMove (s.driveHeld n leg) := by
  unfold State.driveHeld
  extract_lets l held asc l1 soft
  split
  · exact State.beginsNoMove_of_acts rfl
  · split
    · exact State.beginsNoMove_of_acts rfl
    · exact State.beginsNoMove_of_acts rfl

theorem State.beginsNoMove_applySelection (s : State) : s.BeginsNoMove s.applySelection := by
  unfold State.applySelection
  split
  · exact .refl s
  · exact State.beginsNoMove_forEach (fun t l => t.beginsNoMove_driveHeld _ l) _ s

theorem State.blame_sheaf_state (s : State) {n : Nat} (hn : n < 12) (u : Nat) : ((s.blame n u).sheaf n).state = (s.sheaf n).state := by
  unfold State.blame
  extract_lets src s1 s2
  have hwarns := s1.warns_recordW (unitOf Kind.sheaf n) 16 false (unitKind_sheaf_ne_leg hn)
  have h : s2.sheaf n = s1.sheaf n := by
    unfold s2
    rw [hwarns]
    rfl
  have h1 : (s1.sheaf n).state = (s.sheaf n).state := by
    unfold s1
    rw [State.sheaf_setSheaf_same]
  split
  · exact (congrArg Sheaf.state h).trans h1
  · exact (congrArg Sheaf.state h).trans h1

/-- A running sheaf winnowed for another unit's sake is WINNOWED. -/
theorem State.winnowSheaf_some_run (s : State) {n : Nat} (hn : n < 12) (u : Nat) (hrun : (s.sheaf n).state = .run) :
    ((s.winnowSheaf n (some u)).sheaf n).state = .winnowed := by
  unfold State.winnowSheaf
  extract_lets h s1 s2 s3 s4
  have haside : s1.Aside s4 := ((State.aside_forEach _ (fun t l => t.aside_winnowLeg l _) _ _).trans
    (State.completes_endSequences ..).aside).trans (State.completes_endSequences ..).aside
  rw [if_pos (.inr (.inr hrun)), (State.aside_applySelection _).sheaf, s4.blame_sheaf_state hn, haside.sheaf,
    ((s.abortProofs n).quietSheaf_spec n .winnowed).2 n, if_pos rfl]

theorem State.beginsNoMove_winnowSheaf (s : State) {n : Nat} (hn : n < 12) (u : Nat) : s.BeginsNoMove (s.winnowSheaf n (some u)) := by
  unfold State.winnowSheaf
  extract_lets h s1 s2 s3 s4
  have hquiet : s.BeginsNoMove s1 := (s.beginsNoMove_abortProofs n).trans (State.beginsNoMove_quietSheaf ..)
  have hlegs : s1.BeginsNoMove s2 := State.beginsNoMove_forEach (fun t l => t.beginsNoMove_winnowLeg l _) _ _
  have hends : s2.BeginsNoMove s4 :=
    (State.completes_endSequences ..).beginsNoMove.trans (t := s3) (State.completes_endSequences ..).beginsNoMove
  split
  · exact (((hquiet.trans hlegs).trans hends).trans (s4.beginsNoMove_blame hn u)).trans (State.beginsNoMove_applySelection _)
  · show s.BeginsNoMove (if h.state = .winnowed then s.setSheaf n { h with causes := insertNew u h.causes } else s)
    split
    · exact s.beginsNoMove_setSheaf ..
    · exact .refl s

/-! ## A class-F fault of an actuator (R440) -/

theorem unitKind_actUnit (k : Fin 2) : unitKind (actUnit k) = Kind.actuator := unitKind_unitOf (by omega)

theorem State.fence_actUnit {s : State} {k : Fin 2} {n : Nat} (hs : s.actSheaf k = some n) :
    s.fence (actUnit k) = s.winnowSheaf n (some (actUnit k)) := by
  have hk : unitKind (actUnit k) = 4 := unitKind_actUnit k
  have hi : unitIndex (actUnit k) = k := by
    unfold unitIndex actUnit unitOf
    omega
  unfold State.fence
  simp only [hk, hi, hs]

theorem State.records_note (s : State) (u : Nat) (cls : FaultClass) (src : Nat) (forced : Bool) : s.Records (s.note u cls src forced) := by
  unfold State.note
  split
  · rfl
  · exact (s.records_record u cls src forced).trans (t := s.record u cls src forced) rfl

/-- A class-F detection of an idle actuator begins no MOVE, and winnows its sheaf where that runs. -/
theorem State.detect_F_actuator {s : State} {k : Fin 2} {n : Nat} (hs : s.actSheaf k = some n) (src : Nat) (forced : Bool)
    (hidle : (s.unit (actUnit k)).state = .idle) :
    s.BeginsNoMove (s.detect (actUnit k) .F src forced)
      ∧ ((s.sheaf n).state = .run → ((s.detect (actUnit k) .F src forced).sheaf n).state = .winnowed) := by
  have hstart : s.detect (actUnit k) .F src forced = s.startHandling (actUnit k) .F src forced := by
    unfold State.detect
    rw [hidle]
  rw [hstart]
  unfold State.startHandling
  extract_lets limit s1 st r s2
  have hn := State.actSheaf_lt hs
  have hnote : s1.acts = s.acts ∧ s1.bind = s.bind := by
    rw [show s.Records s1 from s.records_note ..]
    exact ⟨rfl, rfl⟩
  have hs2 : s2.actSheaf k = some n := by
    show (s1.bind.sheavesOfType SType.act)[k.val]? = some n
    rw [hnote.2]
    exact hs
  rw [State.fence_actUnit hs2]
  have hbegins : s.BeginsNoMove s2 := State.beginsNoMove_of_acts hnote.1
  exact ⟨hbegins.trans (s2.beginsNoMove_winnowSheaf hn _), fun hrun => s2.winnowSheaf_some_run hn _
    ((congrArg Sheaf.state (s.note_sheaf ..)).trans hrun)⟩

end Sys2Proof.Machine


namespace Sys2Proof.Machine

/-! ## Actuators that are watched (R392, R397, R398, R401) -/

theorem State.calmAs_useForce (s : State) (u k : Nat) : s.CalmAs (s.useForce u k) := ⟨rfl, rfl, rfl⟩

/-- A class-F detection of an actuator, made from a poised state at the end of a row: taken up, no MOVE begun, its sheaf WINNOWED where it
ran. -/
theorem State.Calm.actuator_faults {s g : State} (hc : s.Calm) {k : Fin 2} {n src : Nat} {forced : Bool} {f : State → State}
    (hs : g.actSheaf k = some n) (hg : s.CalmAs g) (hp : s.Poised g (actUnit k)) (hnote : s.Notices (actUnit k) src) (hsrc : src < 256)
    (hf : f s = g.detect (actUnit k) .F src forced) :
    ∃ t, (.next (s.act f) : Host.Outcome State Fault Refusal) = .next t ∧ s.TakesUp t (actUnit k) .handling .F src ∧ g.BeginsNoMove t
      ∧ ((g.sheaf n).state = .run → (t.sheaf n).state = .winnowed) ∧ g.time.now ≤ t.time.now := by
  have hdetects := g.detects_detect (actUnit k) .F src forced fun h => absurd ((unitKind_actUnit k).symm.trans h) (by decide)
  have hup := s.act_takesUp _ hc.live (hp.takesUp hnote forced hsrc (by rw [unitKind_actUnit]; decide))
  obtain ⟨hbegins, hwinnowed⟩ := State.detect_F_actuator hs src forced (hp.notices hnote).1
  generalize g.detect (actUnit k) .F src forced = v at *
  have hv := hg.trans hdetects.calmAs
  rw [hc.act v hv.waits hv.swaps hv.state] at hup
  refine hv.next hc hf ⟨hup, hbegins.trans (State.beginsNoMove_of_acts rfl), hwinnowed, ?_⟩
  rw [hdetects]
  exact le_max_right ..

section
variable {s : State} {k : Fin 2} {n : Nat} {m : MoveRun} (hc : s.Calm) (hs : s.actSheaf k = some n)
include hc hs

/-- When a stall began. -/
def State.stallBegun (s : State) (k : Nat) (m : MoveRun) : Nat :=
  if s.forceArmed (actUnit k) 0 then m.since else Nat.max m.since ((s.actuator k).stallSince.getD m.since)

omit hc hs in
theorem State.stallBegun_since (s : State) (k : Nat) (m : MoveRun) : m.since ≤ s.stallBegun k m := by
  unfold State.stallBegun
  split
  · exact le_rfl
  · exact le_max_left ..

/-- A stall that has held for STALL_T, counted and warned of. -/
def State.stallWarned (s : State) (k : Nat) (m : MoveRun) : State :=
  ((s.reach (s.stallBegun k m + s.regN (Item.ACT.STALL_T k) * 1000000)).bump (Item.ACT.STALL_CNT k)).detect (actUnit k) .W 16
    (s.forceArmed (actUnit k) 0)

/-- The actuator backs off from where it stands, against its direction. -/
def State.backOff (s : State) (k g : Nat) (m : MoveRun) (dir : Word) : State :=
  ((s.resync g).driveTo k g m (F32.sub ((s.resync g).reg (Item.PROF.X g)) (F32.mul dir ((s.resync g).reg (Item.ACT.BACKOFF k))))).toStep k
    { m with retries := m.retries + 1 } 12

omit hc hs in
theorem State.backOff_spec (s : State) (k g : Nat) (m : MoveRun) (dir : Word) :
    s.Serves (s.backOff k g m dir)
      ∧ ((s.backOff k g m dir).actuator k).move = some { m with step := 12, since := s.time.now, retries := m.retries + 1 }
      ∧ (s.backOff k g m dir).time = s.time := by
  unfold State.backOff
  have hback := (s.writesItems_resync g).trans ((s.resync g).writesItems_driveTo k g m
    (F32.sub ((s.resync g).reg (Item.PROF.X g)) (F32.mul dir ((s.resync g).reg (Item.ACT.BACKOFF k)))))
  generalize State.driveTo _ _ _ _ _ = t at *
  refine ⟨hback.serves.trans (t.serves_toStep ..), ?_, hback.time⟩
  rw [t.toStep_move, hback.time]

omit hc in
theorem exec_actuatorStall_eq (hm : (s.actuator k).move = some m) (hstep : m.step = 4 ∨ m.step = 12)
    (hstalled : s.stalled k (s.actLane n) = true) (hfew : m.retries < s.regN (Item.ACT.RETRY_N k)) :
    exec (.actuatorStall k) s = .next (s.act fun _ => (s.stallWarned k m).backOff k (s.actGen n) m
      (F32.sgn (F32.sub (s.reg (Item.PROF.TARGET (s.actGen n))) (s.actPos k)))) := by
  have hguard : ¬ ((m.step ≠ 4 ∧ m.step ≠ 12) ∨ (!(s.stalled k (s.actLane n) || s.forceArmed (actUnit k) 0)) = true) := by
    simp [hstalled]
    omega
  exact congrArg Host.Outcome.next (s.act_to _ _ ((State.onMove_eq hs hm _).trans ((if_neg hguard).trans (if_pos hfew))))

omit hc hs in
/-- The warning of a stall shows, no earlier than STALL_T after it began. -/
theorem State.stallWarned_spec (hnote : s.Notices (actUnit k) 16) :
    (s.stallWarned k m).Shows (actUnit k) .idle .W 16 ∧ s.CalmAs (s.stallWarned k m) ∧ s.time.now ≤ (s.stallWarned k m).time.now
      ∧ m.since + s.regN (Item.ACT.STALL_T k) * 1000000 ≤ (s.stallWarned k m).time.now := by
  unfold State.stallWarned
  have hsince := Nat.add_le_add_right (s.stallBegun_since k m) (s.regN (Item.ACT.STALL_T k) * 1000000)
  generalize s.stallBegun k m + s.regN (Item.ACT.STALL_T k) * 1000000 = held at *
  have hmeasures : s.Measures ((s.reach held).bump (Item.ACT.STALL_CNT k)) := (s.measures_reach _).trans (State.measures_setReg ..)
  have hheld : held ≤ ((s.reach held).bump (Item.ACT.STALL_CNT k)).time.now := le_max_right ..
  have hshows := (hmeasures.poised (actUnit k)).shows hnote (s.forceArmed (actUnit k) 0)
  have hcalm : s.CalmAs ((s.reach held).bump (Item.ACT.STALL_CNT k)) := ⟨rfl, rfl, rfl⟩
  generalize (s.reach held).bump (Item.ACT.STALL_CNT k) = g at *
  have hwarns := g.warns_detect (actUnit k) 16 (s.forceArmed (actUnit k) 0) (by rw [unitKind_actUnit]; decide)
  refine ⟨hshows, hcalm.trans hwarns.engages.calmAs, hmeasures.now.trans hwarns.engages.now, (hsince.trans hheld).trans hwarns.engages.now⟩

theorem exec_actuatorStall_retries (hm : (s.actuator k).move = some m) (hstep : m.step = 4 ∨ m.step = 12)
    (hstalled : s.stalled k (s.actLane n) = true) (hfew : m.retries < s.regN (Item.ACT.RETRY_N k)) (hnote : s.Notices (actUnit k) 16) :
    ∃ t, exec (.actuatorStall k) s = .next t ∧ t.Shows (actUnit k) .idle .W 16
      ∧ (t.actuator k).move = some { m with step := 12, since := t.time.now, retries := m.retries + 1 }
      ∧ m.since + s.regN (Item.ACT.STALL_T k) * 1000000 ≤ t.time.now := by
  obtain ⟨hshows, hcalm, hnow, hlate⟩ := State.stallWarned_spec (m := m) hnote
  rw [exec_actuatorStall_eq hs hm hstep hstalled hfew]
  generalize s.stallWarned k m = v at *
  generalize F32.sgn _ = dir
  obtain ⟨hserves, hmove, htime⟩ := v.backOff_spec k (s.actGen n) m dir
  generalize v.backOff k (s.actGen n) m dir = g at *
  have hkeep : (s.keepLive g).time.now = v.time.now := by
    rw [← htime] at hnow ⊢
    exact Nat.max_eq_right hnow
  refine (hcalm.trans hserves.calmAs).next hc rfl ⟨?_, ?_, ?_⟩
  · show (g.unit (actUnit k)).state = _ ∧ (g.unit (actUnit k)).cls = _ ∧ (g.unit (actUnit k)).src = _
    rw [hserves.unit]
    exact hshows
  · rw [hkeep]
    exact hmove
  · rw [hkeep]
    exact hlate

/-- A jam counted, its force bit used up, the generator at the measured position (R397). -/
def State.jamNoted (s : State) (k g : Nat) (m : MoveRun) : State :=
  let t := (((s.reach (s.stallBegun k m + s.regN (Item.ACT.STALL_T k) * 1000000)).bump (Item.ACT.JAM_CNT k)).useForce (actUnit k) 0).resync g
  t.setReg (Item.PROF.TARGET g) (t.reg (Item.PROF.X g))

omit hc hs in
theorem State.jamNoted_spec (s : State) (k g : Nat) (m : MoveRun) :
    s.CalmAs (s.jamNoted k g m) ∧ s.Poised (s.jamNoted k g m) (actUnit k) ∧ (s.jamNoted k g m).actuator = s.actuator
      ∧ (s.jamNoted k g m).bind = s.bind := by
  unfold State.jamNoted
  generalize s.stallBegun k m + s.regN (Item.ACT.STALL_T k) * 1000000 = held
  have hcounted : s.Serves ((s.reach held).bump (Item.ACT.JAM_CNT k)) := (s.serves_reach held).trans (State.serves_bump ..)
  have hbooks : ((s.reach held).bump (Item.ACT.JAM_CNT k)).actuator = s.actuator := rfl
  generalize (s.reach held).bump (Item.ACT.JAM_CNT k) = g1 at *
  have hcalm := hcounted.calmAs.trans (g1.calmAs_useForce (actUnit k) 0)
  have hpoised := (hcounted.poised (actUnit k)).trans (g1.poised_useForce (actUnit k) 0)
  have hbooks : (g1.useForce (actUnit k) 0).actuator = s.actuator := hbooks
  have hbind : (g1.useForce (actUnit k) 0).bind = s.bind := hcounted.bind
  generalize g1.useForce (actUnit k) 0 = g2 at *
  have hwrites := (g2.writesItems_resync g).trans ((g2.resync g).writesItems_setReg (Item.PROF.TARGET g) ((g2.resync g).reg (Item.PROF.X g)))
  exact ⟨hcalm.trans hwrites.serves.calmAs, hpoised.trans (hwrites.serves.poised _), hwrites.actuator.trans hbooks,
    hwrites.serves.bind.trans hbind⟩

theorem exec_actuatorStall_jams (hstop : (s.actuator k).stopAfter = false) (hm : (s.actuator k).move = some m)
    (hstep : m.step = 4 ∨ m.step = 12) (hstalled : s.stalled k (s.actLane n) = true) (hlast : s.regN (Item.ACT.RETRY_N k) ≤ m.retries)
    (hnote : s.Notices (actUnit k) 1) :
    ∃ t, exec (.actuatorStall k) s = .next t ∧ s.TakesUp t (actUnit k) .handling .F 1 ∧ (t.actuator k).move = none := by
  have hguard : ¬ ((m.step ≠ 4 ∧ m.step ≠ 12) ∨ (!(s.stalled k (s.actLane n) || s.forceArmed (actUnit k) 0)) = true) := by
    simp [hstalled]
    omega
  have hrow : exec (.actuatorStall k) s = .next (s.act fun _ => ((s.jamNoted k (s.actGen n) m).endMove k n Code.invalid Reason.jam []).detect
      (actUnit k) .F 1 (s.forceArmed (actUnit k) 0)) :=
    congrArg Host.Outcome.next (s.act_to _ _ ((State.onMove_eq hs hm _).trans ((if_neg hguard).trans (if_neg (Nat.not_lt.mpr hlast)))))
  rw [hrow]
  obtain ⟨hcalm, hpoised, hbooks, hbind⟩ := s.jamNoted_spec k (s.actGen n) m
  generalize s.jamNoted k (s.actGen n) m = v at *
  have hends := State.endMove_spec (s := v) (k := k) (by rw [hbooks]; exact hstop) n Code.invalid Reason.jam []
  generalize v.endMove k n Code.invalid Reason.jam [] = g at *
  have hsheaf : g.actSheaf k = some n := by
    unfold State.actSheaf
    rw [hends.serves.bind, hbind]
    exact hs
  obtain ⟨t, ht, hup, hbegins, -⟩ := hc.actuator_faults hsheaf (hcalm.trans hends.serves.calmAs) (hpoised.trans (hends.serves.poised _)) hnote
    (by decide) (f := fun _ => g.detect (actUnit k) .F 1 (s.forceArmed (actUnit k) 0)) rfl
  exact ⟨t, ht, hup, hbegins.move k hends.move⟩

theorem exec_followingError_faults (hm : (s.actuator k).move = none) (hrun : (s.sheaf n).state = .run)
    (hmode : s.regN (Item.PROF.MODE (s.actGen n)) ≠ 0)
    (hoff : F32.lt (s.reg (Item.ACT.FOLLOW_MAX k)) (F32.abs (F32.sub (s.reg (Item.PROF.X (s.actGen n))) (s.actPos k))) = true)
    (hnote : s.Notices (actUnit k) 2) :
    ∃ t, exec (.followingError k) s = .next t ∧ s.TakesUp t (actUnit k) .handling .F 2 ∧ (t.sheaf n).state = .winnowed := by
  have hrow : exec (.followingError k) s = .next (s.act fun _ => ((s.genStop (s.actGen n)).useForce (actUnit k) 1).detect (actUnit k) .F 2 false) := by
    refine congrArg Host.Outcome.next (s.act_to _ _ ?_)
    simp only [hs, hm]
    exact (if_neg (by simp [hrun, hmode, hoff])).trans (by simp)
  rw [hrow]
  have hstopped := s.serves_setReg (Item.PROF.CMD (s.actGen n)) 1
  have hcalm : s.CalmAs ((s.genStop (s.actGen n)).useForce (actUnit k) 1) := ⟨rfl, rfl, rfl⟩
  have hpoised := (hstopped.poised (actUnit k)).trans (State.poised_useForce _ (actUnit k) 1)
  have hbooks : ((s.genStop (s.actGen n)).useForce (actUnit k) 1).sheaf = s.sheaf
      ∧ ((s.genStop (s.actGen n)).useForce (actUnit k) 1).actSheaf k = some n := ⟨rfl, hs⟩
  change s.Poised ((s.genStop (s.actGen n)).useForce (actUnit k) 1) (actUnit k) at hpoised
  generalize (s.genStop (s.actGen n)).useForce (actUnit k) 1 = g at *
  obtain ⟨t, ht, hup, -, hwinnowed, -⟩ := hc.actuator_faults hbooks.2 hcalm hpoised hnote (by decide)
    (f := fun _ => g.detect (actUnit k) .F 2 false) rfl
  exact ⟨t, ht, hup, hwinnowed (by rw [hbooks.1]; exact hrun)⟩

end

end Sys2Proof.Machine


namespace Sys2Proof.Machine

/-! ## Homing and the park-lock proof (R392, R393, R401) -/

theorem State.serves_assignHome (s : State) (k : Nat) : s.Serves (s.assignHome k) ∧ (s.assignHome k).time = s.time := by
  unfold State.assignHome
  extract_lets p w d r s1 c
  have hport : s.Serves s1 ∧ s1.time = s.time := ⟨s.serves_setPort p _, rfl⟩
  split
  · exact ⟨hport.1.trans ⟨rfl, le_rfl⟩, rfl⟩
  · exact hport

section
variable {s : State} {k : Fin 2} {n : Nat} {m : MoveRun} (hc : s.Calm) (hs : s.actSheaf k = some n)
include hc hs

/-- The first stop of a homing (R392): the generator stopped, HOME_POS assigned, the generator at the measured position. -/
def State.stopFound (s : State) (k g : Nat) (m : MoveRun) : State :=
  (((s.reach (Nat.max m.since ((s.actuator k).errSince.getD m.since) + 10000000)).genStop g).assignHome k).resync g

omit hc hs in
theorem State.stopFound_spec (s : State) (k g : Nat) (m : MoveRun) :
    s.Serves (s.stopFound k g m) ∧ m.since + 10000000 ≤ (s.stopFound k g m).time.now := by
  have hlate : m.since + 10000000 ≤ Nat.max m.since ((s.actuator k).errSince.getD m.since) + 10000000 :=
    Nat.add_le_add_right (le_max_left ..) _
  unfold State.stopFound
  generalize Nat.max m.since ((s.actuator k).errSince.getD m.since) + 10000000 = held at *
  have hstopped : s.Serves ((s.reach held).genStop g) := (s.serves_reach held).trans (State.serves_setReg ..)
  have hnow : held ≤ ((s.reach held).genStop g).time.now := le_max_right ..
  generalize (s.reach held).genStop g = v at *
  obtain ⟨hhome, htime⟩ := v.serves_assignHome k
  have hwrites := (v.assignHome k).writesItems_resync g
  refine ⟨(hstopped.trans hhome).trans hwrites.serves, ?_⟩
  rw [hwrites.time, htime]
  exact hlate.trans hnow

/-- What comes after the first stop: the other way for learning, else the way to the target. -/
def State.afterStop (s : State) (k g : Nat) (m : MoveRun) : State :=
  if m.op = 4 then (s.driveHome k g m (decide (s.regN (Item.ACT.HOME_DIR k) ≠ 1))).toStep k m 11
  else (s.driveTo k g m m.target).toStep k m 4

omit hc hs in
theorem State.afterStop_spec (s : State) (k g : Nat) (m : MoveRun) :
    s.Serves (s.afterStop k g m) ∧ (s.afterStop k g m).time = s.time
      ∧ ((s.afterStop k g m).actuator k).move = some { m with step := (if m.op = 4 then 11 else 4), since := s.time.now } := by
  have hstep {v : State} (hv : s.WritesItems v) (j : Nat) :
      s.Serves (v.toStep k m j) ∧ (v.toStep k m j).time = s.time
        ∧ ((v.toStep k m j).actuator k).move = some { m with step := j, since := s.time.now } :=
    ⟨hv.serves.trans (v.serves_toStep ..), hv.time, by rw [v.toStep_move, hv.time]⟩
  unfold State.afterStop
  split
  · exact hstep (s.writesItems_driveHome ..) 11
  · exact hstep (s.writesItems_driveTo ..) 4

theorem exec_homingStop_goesOn (hm : (s.actuator k).move = some m) (hstep : m.step = 10) (harmed : s.forceArmed (actUnit k) 3 = false)
    (herr : F32.lt (s.reg (Item.ACT.HOME_ERR k)) (F32.abs (s.reg (Item.LOOP.ERR_A (s.actLane n)))) = true) :
    ∃ t, exec (.homingStop k) s = .next t ∧ t.unit = s.unit ∧ t.leg = s.leg
      ∧ (t.actuator k).move = some { m with step := (if m.op = 4 then 11 else 4), since := t.time.now }
      ∧ m.since + 10000000 ≤ t.time.now := by
  have hrow : exec (.homingStop k) s = .next (s.act fun _ => (s.stopFound k (s.actGen n) m).afterStop k (s.actGen n) m) := by
    refine congrArg Host.Outcome.next (s.act_to _ _ ((State.onMove_eq hs hm _).trans ?_))
    refine (if_neg (by simp [hstep, harmed, herr])).trans ?_
    simp only [hstep, if_true, true_and]
    rfl
  rw [hrow]
  obtain ⟨hfound, hlate⟩ := s.stopFound_spec k (s.actGen n) m
  generalize s.stopFound k (s.actGen n) m = v at *
  obtain ⟨hafter, htime, hmove⟩ := v.afterStop_spec k (s.actGen n) m
  generalize v.afterStop k (s.actGen n) m = g at *
  have hwork := hfound.trans hafter
  refine hwork.next hc rfl ⟨hwork.unit, hwork.leg, ?_, ?_⟩
  · rw [hwork.keepLive_now, htime]
    exact hmove
  · rw [hwork.keepLive_now, htime]
    exact hlate

/-- A homing given up (R392): the generator stopped, the actuator not homed. -/
def State.homingGivenUp (s : State) (k g : Nat) (m : MoveRun) : State :=
  let t := ((s.reach (m.since + s.regN (Item.ACT.HOME_TMAX k) * 1000000)).useForce (actUnit k) 3).genStop g
  t.setActuator k { t.actuator k with homed := false }

theorem exec_homingTimeout_faults (hstop : (s.actuator k).stopAfter = false) (hm : (s.actuator k).move = some m)
    (hstep : m.step = 10 ∨ m.step = 11) (hnote : s.Notices (actUnit k) 3) :
    ∃ t, exec (.homingTimeout k) s = .next t ∧ s.TakesUp t (actUnit k) .handling .F 3 ∧ (t.actuator k).homed = false
      ∧ (t.actuator k).move = none ∧ m.since + s.regN (Item.ACT.HOME_TMAX k) * 1000000 ≤ t.time.now := by
  have hrow : exec (.homingTimeout k) s = .next (s.act fun _ => ((s.homingGivenUp k (s.actGen n) m).endMove k n Code.invalid Reason.homeFail
      []).detect (actUnit k) .F 3 (s.forceArmed (actUnit k) 3)) :=
    congrArg Host.Outcome.next (s.act_to _ _ ((State.onMove_eq hs hm _).trans (if_pos hstep)))
  rw [hrow]
  have hcalm : s.CalmAs (s.homingGivenUp k (s.actGen n) m) := ⟨rfl, rfl, rfl⟩
  have hpoised : s.Poised (s.homingGivenUp k (s.actGen n) m) (actUnit k) :=
    (((s.serves_reach _).poised _).trans (State.poised_useForce _ (actUnit k) 3)).trans
      (((State.serves_setReg _ (Item.PROF.CMD (s.actGen n)) 1).trans (State.serves_setActuator ..)).poised _)
  have hbooks : (s.homingGivenUp k (s.actGen n) m).actuator k = { s.actuator k with homed := false } :=
    State.actuator_setActuator_same ..
  have hnow : m.since + s.regN (Item.ACT.HOME_TMAX k) * 1000000 ≤ (s.homingGivenUp k (s.actGen n) m).time.now := le_max_right ..
  have hsheaf : (s.homingGivenUp k (s.actGen n) m).actSheaf k = some n := hs
  generalize s.homingGivenUp k (s.actGen n) m = v at *
  have hends := State.endMove_spec (s := v) (k := k) (by rw [hbooks]; exact hstop) n Code.invalid Reason.homeFail []
  generalize v.endMove k n Code.invalid Reason.homeFail [] = g at *
  have hgsheaf : g.actSheaf k = some n := by
    unfold State.actSheaf
    rw [hends.serves.bind]
    exact hsheaf
  obtain ⟨t, ht, hup, hbegins, -, hlate⟩ := hc.actuator_faults hgsheaf (hcalm.trans hends.serves.calmAs)
    (hpoised.trans (hends.serves.poised _)) hnote (by decide) (f := fun _ => g.detect (actUnit k) .F 3 (s.forceArmed (actUnit k) 3)) rfl
  refine ⟨t, ht, hup, ?_, hbegins.move k hends.move, (hnow.trans hends.serves.now).trans hlate⟩
  rw [hbegins.homed, hends.homed, hbooks]

omit hs

theorem exec_parkProofLost_warns (hpark : s.parkActuator = some k.val) (hm : (s.actuator k).move = none) (hlost : s.parkProved k = false)
    (hproved : (s.actuator k).proved = true) (hstate : s.dev.state ≠ .charge) (hnote : s.Notices (actUnit k) 18) :
    ∃ t, exec (.parkProofLost k) s = .next t ∧ (t.actuator k).proved = false ∧ t.Shows (actUnit k) .idle .W 18 ∧ t.sheaf = s.sheaf
      ∧ t.leg = s.leg := by
  have hrow : exec (.parkProofLost k) s = .next (s.act fun _ => (s.setActuator k { s.actuator k with proved := false }).detect (actUnit k) .W 18
      (s.forced (actUnit k) 2)) := by
    refine congrArg Host.Outcome.next (s.act_to _ _ ((if_neg ?_).trans ((if_neg ?_).trans ((if_neg ?_).trans (if_neg hstate)))))
    · simp [hpark, hm]
    · simp [hlost]
    · simp [hproved]
  rw [hrow]
  have hserves := s.serves_setActuator k { s.actuator k with proved := false }
  have hbooks : ((s.setActuator k { s.actuator k with proved := false }).actuator k).proved = false :=
    congrArg ActRun.proved (s.actuator_setActuator_same k _)
  have hsheaf : (s.setActuator k { s.actuator k with proved := false }).sheaf = s.sheaf := rfl
  have hshows := (hserves.poised (actUnit k)).shows hnote (s.forced (actUnit k) 2)
  generalize s.setActuator k { s.actuator k with proved := false } = g at *
  have hwarns := g.warns_detect (actUnit k) 18 (s.forced (actUnit k) 2) (by rw [unitKind_actUnit]; decide)
  generalize g.detect (actUnit k) .W 18 (s.forced (actUnit k) 2) = v at *
  refine (hserves.calmAs.trans hwarns.engages.calmAs).next hc rfl ⟨?_, hshows, hwarns.engages.sheaf.trans hsheaf,
    hwarns.engages.leg.trans hserves.leg⟩
  have hact : v.actuator = g.actuator := by
    rw [hwarns]
    rfl
  exact (congrArg (fun f => (f k.val).proved) hact).trans hbooks

theorem exec_parkProofLost_proves (hpark : s.parkActuator = some k.val) (hm : (s.actuator k).move = none) (hproved : s.parkProved k = true) :
    ∃ t, exec (.parkProofLost k) s = .next t ∧ (t.actuator k).proved = true ∧ t.unit = s.unit ∧ t.reg = s.reg := by
  have hserves := s.serves_setActuator k { s.actuator k with proved := true }
  refine hserves.next hc (g := s.setActuator k { s.actuator k with proved := true }) ((if_neg ?_).trans (if_pos hproved)) ⟨?_, hserves.unit, rfl⟩
  · simp [hpark, hm]
  · exact congrArg ActRun.proved (s.actuator_setActuator_same k _)

end

/-- Settles O35: a retried stall and a lost proof warn; a jam, a following error and a homing over time are class-F faults of the actuator,
which fence its sheaf. -/
theorem actuatorsAreWatchedWhileTheyMove : Obligations.ActuatorsAreWatchedWhileTheyMove := fun _ _ _ hc hs hidle hstop =>
  ⟨fun _ hm hstep hstalled => ⟨fun hfew hrank => exec_actuatorStall_retries hc hs hm hstep hstalled hfew ⟨hidle, hrank⟩,
      fun hlast hrank => exec_actuatorStall_jams hc hs hstop hm hstep hstalled hlast ⟨hidle, hrank⟩⟩,
    fun hm hrun hmode hoff hrank => exec_followingError_faults hc hs hm hrun hmode hoff ⟨hidle, hrank⟩,
    fun _ hm => exec_homingStop_goesOn hc hs hm,
    fun _ hm hstep hrank => exec_homingTimeout_faults hc hs hstop hm hstep ⟨hidle, hrank⟩,
    fun hpark hm hlost hproved hstate hrank => exec_parkProofLost_warns hc hpark hm hlost hproved hstate ⟨hidle, hrank⟩,
    exec_parkProofLost_proves hc⟩

end Sys2Proof.Machine


namespace Sys2Proof.Machine

/-! ## How a hand-over begins (R349, Table 12-9) -/

theorem State.chargerStop_eq (s : State) : s.chargerStop = { s with sheaves := s.chargerStop.sheaves } := by
  refine State.forEach_rel (R := fun s t => t = { s with sheaves := t.sheaves }) (fun _ => rfl) (fun _ _ _ h k => by rw [k, h]) _
    (fun t n => ?_) _ s
  unfold State.sendStopWord
  simp only
  split
  · split
    · rfl
    · rfl
  · rfl

/-- The release of step 2 and 3. -/
structure State.Releases (s t : State) (h : HandRun) : Prop where
  serves : s.Serves t
  charge : t.charge = { s.charge with cpsw := false, precharge := false, hand := some { h with step := 3, since := s.time.now } }
  target : t.reg Item.CHG.I_TGT = 0
  reg : ∀ a < Item.addr 0x19 0 0, a ≠ Item.CHG.I_TGT → t.reg a = s.reg a
  time : t.time = s.time

theorem State.handRelease_spec (s : State) (h : HandRun) : s.Releases (s.handRelease h) h := by
  unfold State.handRelease
  extract_lets s1 src s2
  have h1 : s1 = { s with sheaves := s1.sheaves } := s.chargerStop_eq
  have h2 : s.Serves s2 ∧ s2.regs = s.regs ∧ s2.bind = s.bind ∧ s2.time = s.time
      ∧ s2.charge = { s.charge with cpsw := false, precharge := false, hand := some { h with step := 3, since := s.time.now } } := by
    have hsrc : src = s.charge := (by rw [h1] : s1.charge = s.charge)
    have hserves : s.Serves s1 := ⟨by rw [h1], by rw [h1]⟩
    refine ⟨hserves.trans (s1.serves_setCharge _), (by rw [h1] : s1.regs = s.regs), (by rw [h1] : s1.bind = s.bind),
      (by rw [h1] : s1.time = s.time), ?_⟩
    unfold s2
    rw [hsrc]
    rfl
  clear_value s2
  obtain ⟨hserves, hregs, hbind, htime, hcharge⟩ := h2
  have hreg : s2.reg = s.reg := by
    unfold State.reg
    rw [hregs, hbind]
  have hrequest := (s2.setReg Item.CHG.I_TGT 0).requests_requestAs 1 4 false
  refine ⟨(hserves.trans (s2.serves_setReg _ _)).trans hrequest.serves, hrequest.charge.trans hcharge, ?_, fun a ha hne => ?_,
    hrequest.time.trans htime⟩
  · rw [hrequest.reg _ (by decide)]
    exact s2.reg_setReg_same ..
  · rw [hrequest.reg a ha, s2.reg_setReg_other _ _ _ hne, hreg]

/-- What the beginning of a hand-over leaves. -/
structure State.HandsOver (s t : State) (cause : Nat) (failure : Option (Nat × Nat)) : Prop where
  serves : s.Serves t
  hand : ∃ h, t.charge.hand = some h ∧ h.cause = cause ∧ h.began = s.time.now ∧ h.failure = failure ∧ (cause ≠ 1 → cause ≠ 2 → h.step = 1)
  running : t.charge.running = false
  arm : t.charge.arm = none
  latch : t.charge.timerLatch = (s.charge.timerLatch || decide (cause = 7))
  shown : t.reg Item.CHG.STOP_CAUSE = nw cause
  time : t.time = s.time

theorem State.handBegin_spec (s : State) (cause : Nat) (failure : Option (Nat × Nat)) :
    s.HandsOver (s.handBegin cause failure) cause failure := by
  unfold State.handBegin
  extract_lets h c s1
  have h1 : s.Serves s1 := (s.serves_setCharge _).trans (State.serves_setReg ..)
  have hshown : s1.reg Item.CHG.STOP_CAUSE = nw cause := State.reg_setReg_same ..
  split
  · next hnow =>
    have hrelease := s1.handRelease_spec h
    refine ⟨h1.trans hrelease.serves, ⟨_, by rw [hrelease.charge], rfl, rfl, rfl, fun hne hne2 => ?_⟩, by rw [hrelease.charge]; rfl,
      by rw [hrelease.charge]; rfl, by rw [hrelease.charge]; rfl, ?_, hrelease.time⟩
    · exact absurd hnow (by simp [hne, hne2])
    · rw [hrelease.reg _ (by decide) (by decide)]
      exact hshown
  · exact ⟨h1, ⟨h, rfl, rfl, rfl, rfl, fun _ _ => rfl⟩, rfl, rfl, rfl, hshown, rfl⟩

/-- A cause ends a session in progress by a hand-over. -/
theorem State.stopSession_running {s : State} (hhand : s.charge.hand = none) (hrun : s.charge.running = true) (harm : s.charge.arm = none)
    (cause : Nat) : s.stopSession cause = s.handBegin cause none := by
  have harmed : s.armed = true := by simp [State.armed, hrun]
  unfold State.stopSession
  simp only [hhand, harmed, harm, if_true]
  rfl

/-! ## Pilot and cable (R327 to R329, R351) -/

theorem State.takePilot_spec (s : State) (state duty : Nat) :
    s.Serves (s.takePilot state duty) ∧ (s.takePilot state duty).charge.hand = s.charge.hand
      ∧ (s.takePilot state duty).charge.running = s.charge.running ∧ (s.takePilot state duty).charge.arm = s.charge.arm :=
  ⟨(s.serves_setRegs _).trans (State.serves_setCharge ..), rfl, rfl, rfl⟩

theorem State.takePilot_reg (s : State) (state duty : Nat) :
    (s.takePilot state duty).reg Item.CHG.PILOT_STATE = nw state ∧ (s.takePilot state duty).reg Item.CHG.PILOT_DUTY = nw duty
      ∧ (s.takePilot state duty).reg Item.CHG.PILOT_I = nw (if state = 1 ∨ state = 2 then pilotCurrent duty else 0) := by
  have hread {p : Nat × Word} (hp : p ∈ _) : (s.takePilot state duty).reg p.1 = p.2 :=
    s.reg_setRegs_of_nodup (l := [(Item.CHG.PILOT_STATE, nw state), (Item.CHG.PILOT_DUTY, nw duty),
      (Item.CHG.PILOT_I, nw (if decide (state = 1 ∨ state = 2) then pilotCurrent duty else 0))])
      (by show [Item.CHG.PILOT_STATE, Item.CHG.PILOT_DUTY, Item.CHG.PILOT_I].Nodup; decide) hp
  refine ⟨hread (.head _), hread (.tail _ (.head _)), (hread (.tail _ (.tail _ (.head _)))).trans ?_⟩
  simp

/-- A cable code that comes into force while the device does not drive. -/
theorem State.takePlug_spec {s : State} (hstate : s.dev.state ≠ .drive) (code : Nat) :
    s.Serves (s.takePlug code) ∧ (s.takePlug code).charge = (if code = 0 then { s.charge with timerLatch := false } else s.charge)
      ∧ (s.takePlug code).reg Item.CHG.PP_I = nw code := by
  unfold State.takePlug
  extract_lets s1 src s2
  have h1 : s.Serves s1 := s.serves_setReg ..
  have h2 : s1.Serves s2 ∧ s2.charge = (if code = 0 then { s.charge with timerLatch := false } else s.charge) ∧ s2.dev.state = s.dev.state
      ∧ s2.reg Item.CHG.PP_I = nw code := by
    have hread : s1.reg Item.CHG.PP_I = nw code := s.reg_setReg_same ..
    unfold s2
    split
    · exact ⟨s1.serves_setCharge _, rfl, rfl, hread⟩
    · exact ⟨.refl s1, rfl, rfl, hread⟩
  clear_value s2
  obtain ⟨hserves, hcharge, hdev, hread⟩ := h2
  rw [if_neg fun h => hstate (hdev.symm.trans h.2)]
  exact ⟨h1.trans hserves, hcharge, hread⟩

end Sys2Proof.Machine


namespace Sys2Proof.Machine

/-! ## Charge sessions and what ends them (R327 to R330, R340 to R351, Table 12-8) -/

section
variable {s : State} (hc : s.Calm)
include hc

theorem exec_handover_releases {h : HandRun} (hhand : s.charge.hand = some h) (hstep : h.step = 1) :
    ∃ t, exec .handover s = .next t ∧ t.charge.hand = some { h with step := 3, since := t.time.now } ∧ t.charge.cpsw = false
      ∧ t.reg Item.CHG.I_TGT = 0 ∧ t.unit = s.unit ∧ t.leg = s.leg := by
  let w := if F32.same (s.reg Item.CHG.I_TGT) 0 then s else s.reach (h.since + s.regN Item.CHG.RAMP_DOWN_T * 1000000)
  have hrow : exec .handover s = .next (s.act fun _ => w.handRelease h) := by
    refine congrArg Host.Outcome.next (s.act_to _ _ ?_)
    simp only [hhand]
    exact if_pos hstep
  have hw : s.Serves w := by
    unfold w
    split
    · exact .refl s
    · exact s.serves_reach _
  rw [hrow]
  clear_value w
  have hrelease := w.handRelease_spec h
  generalize w.handRelease h = g at *
  have hwork := hw.trans hrelease.serves
  refine hwork.next hc rfl ⟨?_, ?_, hrelease.target, hwork.unit, hwork.leg⟩
  · rw [hwork.keepLive_now, hrelease.time]
    exact congrArg Charge.hand hrelease.charge
  · exact congrArg Charge.cpsw hrelease.charge

/-- The pilot state that the next one is compared with. -/
def State.pilotBefore (s : State) : Nat := match s.charge.pilotNext with | some (st, _) => st | none => s.regN Item.CHG.PILOT_STATE

/-- A pilot state and duty that count: latched during a hand-over, else taken, with what they stop. -/
def State.pilotTaken (s : State) (pilot duty : Nat) : State :=
  if s.charge.hand.isSome then
    if pilot = s.pilotBefore ∧ s.charge.pilotNext.isNone then s else s.setCharge { s.charge with pilotNext := some (pilot, duty) }
  else if pilot = 0 then (s.takePilot pilot duty).stopSession 1
  else if 3 ≤ pilot ∧ (s.takePilot pilot duty).armed ∧ (s.takePilot pilot duty).charge.mode ≠ 3 then
    (s.takePilot pilot duty).stopSession 6
  else s.takePilot pilot duty

omit hc in
theorem exec_pilotState_counts (plus minus : Int) (periods : List (Nat × Nat)) (ms : Nat) (hlong : s.regN Item.CHG.PILOT_FILT ≤ ms) :
    exec (.pilotState plus minus periods ms) s
      = .next (s.act fun _ => s.pilotTaken (pilotOf plus minus periods) (pilotDuty plus periods)) := by
  have hcounts : ¬ (pilotOf plus minus periods ≠ s.pilotBefore ∧ ms < s.regN Item.CHG.PILOT_FILT) :=
    fun h => absurd h.2 (Nat.not_lt.mpr hlong)
  exact congrArg Host.Outcome.next (s.act_to _ _ (if_neg hcounts))

theorem exec_pilotState_latches {h : HandRun} (hhand : s.charge.hand = some h) (plus minus : Int) (periods : List (Nat × Nat)) (ms : Nat)
    (hlong : s.regN Item.CHG.PILOT_FILT ≤ ms)
    (hnew : pilotOf plus minus periods ≠ s.regN Item.CHG.PILOT_STATE ∨ s.charge.pilotNext.isSome = true) :
    ∃ t, exec (.pilotState plus minus periods ms) s = .next t
      ∧ t.charge = { s.charge with pilotNext := some (pilotOf plus minus periods, pilotDuty plus periods) } ∧ t.reg = s.reg := by
  rw [exec_pilotState_counts plus minus periods ms hlong]
  generalize pilotOf plus minus periods = pilot at *
  generalize pilotDuty plus periods = duty
  have hfresh : ¬ (pilot = s.pilotBefore ∧ s.charge.pilotNext.isNone = true) := by
    rintro ⟨hsame, hnone⟩
    have hnone := Option.isNone_iff_eq_none.mp hnone
    simp [State.pilotBefore, hnone] at hsame hnew
    exact hnew hsame
  have hlatch : s.pilotTaken pilot duty = s.setCharge { s.charge with pilotNext := some (pilot, duty) } :=
    (if_pos (by rw [hhand]; rfl)).trans (if_neg hfresh)
  rw [hlatch]
  exact (s.serves_setCharge _).next hc rfl ⟨rfl, rfl⟩

theorem exec_pilotState_filters (plus minus : Int) (periods : List (Nat × Nat)) (ms : Nat) (hnone : s.charge.pilotNext = none)
    (hnew : pilotOf plus minus periods ≠ s.regN Item.CHG.PILOT_STATE) (hshort : ms < s.regN Item.CHG.PILOT_FILT) :
    ∃ t, exec (.pilotState plus minus periods ms) s = .next t ∧ t.charge = s.charge ∧ t.reg = s.reg :=
  (State.Serves.refl s).next hc (P := fun t => t.charge = s.charge ∧ t.reg = s.reg)
    (if_pos ⟨by simpa [hnone] using hnew, hshort⟩) ⟨rfl, rfl⟩

theorem exec_proximityChange_latches {h : HandRun} (hhand : s.charge.hand = some h) (mv : Nat) :
    ∃ t, exec (.proximityChange mv) s = .next t ∧ t.charge = { s.charge with plugNext := some (plugCode mv) } ∧ t.reg = s.reg :=
  (s.serves_setCharge _).next hc (P := fun t => t.charge = { s.charge with plugNext := some (plugCode mv) } ∧ t.reg = s.reg)
    (if_pos (by rw [hhand]; rfl)) ⟨rfl, rfl⟩

section
variable (hhand : s.charge.hand = none)
include hhand

theorem exec_pilotState_holds (plus minus : Int) (periods : List (Nat × Nat)) (ms : Nat) (hlong : s.regN Item.CHG.PILOT_FILT ≤ ms)
    (hheld : pilotOf plus minus periods = 1 ∨ pilotOf plus minus periods = 2) :
    ∃ t, exec (.pilotState plus minus periods ms) s = .next t ∧ t.reg Item.CHG.PILOT_STATE = nw (pilotOf plus minus periods)
      ∧ t.reg Item.CHG.PILOT_DUTY = nw (pilotDuty plus periods) ∧ t.reg Item.CHG.PILOT_I = nw (pilotCurrent (pilotDuty plus periods))
      ∧ t.charge.plugSince = some (s.charge.plugSince.getD s.time.now) ∧ t.charge.hand = none ∧ t.unit = s.unit := by
  obtain ⟨hserves, hkept, -, -⟩ := s.takePilot_spec (pilotOf plus minus periods) (pilotDuty plus periods)
  obtain ⟨hstate, hduty, hcurrent⟩ := s.takePilot_reg (pilotOf plus minus periods) (pilotDuty plus periods)
  have hnotA : pilotOf plus minus periods ≠ 0 := by omega
  have hnotD : ¬ 3 ≤ pilotOf plus minus periods := by omega
  have hplug : (s.takePilot (pilotOf plus minus periods) (pilotDuty plus periods)).charge.plugSince
      = some (s.charge.plugSince.getD s.time.now) := if_pos (decide_eq_true hheld)
  rw [if_pos hheld] at hcurrent
  rw [exec_pilotState_counts plus minus periods ms hlong]
  generalize pilotOf plus minus periods = pilot at *
  generalize pilotDuty plus periods = duty at *
  have htaken : s.pilotTaken pilot duty = s.takePilot pilot duty :=
    (if_neg (by rw [hhand]; decide)).trans ((if_neg hnotA).trans (if_neg fun h => hnotD h.1))
  rw [htaken]
  generalize s.takePilot pilot duty = g at *
  exact hserves.next hc rfl ⟨hstate, hduty, hcurrent, hplug, hkept.trans hhand, hserves.unit⟩

omit hc in
theorem exec_proximityChange_counts (mv : Nat) :
    exec (.proximityChange mv) s = .next (s.act fun _ =>
      if plugCode mv = 0 ∨ plugCode mv = 255 then (s.takePlug (plugCode mv)).stopSession 1 else s.takePlug (plugCode mv)) := by
  have hnot : ¬ s.charge.hand.isSome = true := by
    rw [hhand]
    decide
  exact congrArg Host.Outcome.next (s.act_to _ _ (if_neg hnot))

theorem exec_proximityChange_plugs (mv : Nat) (hcable : plugCode mv ≠ 0) (hvalid : plugCode mv ≠ 255) (hstate : s.dev.state ≠ .drive) :
    ∃ t, exec (.proximityChange mv) s = .next t ∧ t.reg Item.CHG.PP_I = nw (plugCode mv) ∧ t.charge = s.charge ∧ t.unit = s.unit := by
  rw [exec_proximityChange_counts hhand, if_neg (by simp [hcable, hvalid])]
  obtain ⟨hserves, hcharge, hread⟩ := State.takePlug_spec hstate (plugCode mv)
  rw [if_neg hcable] at hcharge
  generalize s.takePlug (plugCode mv) = g at *
  exact hserves.next hc rfl ⟨hread, hcharge, hserves.unit⟩

variable (hrun : s.charge.running = true) (harm : s.charge.arm = none)
include hrun harm

omit hc hhand hrun harm in
/-- A session that a cause ends by a hand-over, at the end of a row. -/
theorem State.Calm.session_ends (hc : s.Calm) {w : State} (hw : s.Serves w) (hhand : w.charge.hand = none) (hrun : w.charge.running = true)
    (harm : w.charge.arm = none) {f : State → State} {cause : Nat} (hf : f s = w.stopSession cause) :
    ∃ t, (.next (s.act f) : Host.Outcome State Fault Refusal) = .next t ∧ t.reg Item.CHG.STOP_CAUSE = nw cause
      ∧ t.charge.hand.isSome = true ∧ t.charge.running = false ∧ t.unit = s.unit ∧ t.leg = s.leg
      ∧ t.charge.timerLatch = (w.charge.timerLatch || decide (cause = 7)) := by
  rw [State.stopSession_running hhand hrun harm] at hf
  have hends := w.handBegin_spec cause none
  generalize w.handBegin cause none = g at *
  obtain ⟨h, hh, -⟩ := hends.hand
  have hwork := hw.trans hends.serves
  exact hwork.next hc hf ⟨hends.shown, Option.isSome_iff_exists.mpr ⟨h, hh⟩, hends.running, hwork.unit, hwork.leg, hends.latch⟩

theorem exec_pilotState_unplugs (plus minus : Int) (periods : List (Nat × Nat)) (ms : Nat) (hlong : s.regN Item.CHG.PILOT_FILT ≤ ms)
    (hA : pilotOf plus minus periods = 0) :
    ∃ t, exec (.pilotState plus minus periods ms) s = .next t ∧ t.reg Item.CHG.STOP_CAUSE = 1 ∧ t.charge.hand.isSome = true
      ∧ t.charge.running = false ∧ t.unit = s.unit := by
  obtain ⟨hserves, hhand', hrun', harm'⟩ := s.takePilot_spec (pilotOf plus minus periods) (pilotDuty plus periods)
  rw [exec_pilotState_counts plus minus periods ms hlong]
  generalize pilotOf plus minus periods = pilot at *
  generalize pilotDuty plus periods = duty at *
  have htaken : s.pilotTaken pilot duty = (s.takePilot pilot duty).stopSession 1 := (if_neg (by rw [hhand]; decide)).trans (if_pos hA)
  obtain ⟨t, ht, hcause, hbegun, hstopped, hunit, -⟩ := hc.session_ends hserves (hhand'.trans hhand) (hrun'.trans hrun) (harm'.trans harm)
    (f := fun _ => s.pilotTaken pilot duty) htaken
  exact ⟨t, ht, hcause, hbegun, hstopped, hunit⟩

theorem exec_proximityChange_unplugs (mv : Nat) (hcode : plugCode mv = 0 ∨ plugCode mv = 255) (hstate : s.dev.state ≠ .drive) :
    ∃ t, exec (.proximityChange mv) s = .next t ∧ t.reg Item.CHG.STOP_CAUSE = 1 ∧ t.charge.hand.isSome = true
      ∧ t.charge.running = false ∧ t.unit = s.unit := by
  rw [exec_proximityChange_counts hhand, if_pos hcode]
  obtain ⟨hserves, hcharge, -⟩ := State.takePlug_spec hstate (plugCode mv)
  have hbooks : (s.takePlug (plugCode mv)).charge.hand = none ∧ (s.takePlug (plugCode mv)).charge.running = true
      ∧ (s.takePlug (plugCode mv)).charge.arm = none := by
    rw [hcharge]
    split
    · exact ⟨hhand, hrun, harm⟩
    · exact ⟨hhand, hrun, harm⟩
  generalize s.takePlug (plugCode mv) = g at *
  obtain ⟨t, ht, hcause, hbegun, hstopped, hunit, -⟩ := hc.session_ends hserves hbooks.1 hbooks.2.1 hbooks.2.2
    (f := fun _ => g.stopSession 1) rfl
  exact ⟨t, ht, hcause, hbegun, hstopped, hunit⟩

theorem exec_mainsLoss_ends (n : Nat) (amps : List Nat) (ms : Nat) (hchgf : s.chgf = some n) (hfront : s.runs n = true)
    (hmode : s.charge.mode ≠ 3) (hlong : s.regN Item.CHG.LOSS_T ≤ ms)
    (hlow : ∀ k ∈ s.phasesInUse, (amps.getD k 0) ^ 2 < 2 * (s.regN Item.CHG.VLOSS * 10) ^ 2) :
    ∃ t, exec (.mainsLoss amps ms) s = .next t ∧ t.reg Item.CHG.STOP_CAUSE = 2 ∧ t.charge.hand.isSome = true
      ∧ t.charge.running = false ∧ t.unit = s.unit := by
  have harmed : s.armed = true := by simp [State.armed, hrun]
  have hf : exec (.mainsLoss amps ms) s = .next (s.act fun _ => s.stopSession 2) := by
    refine congrArg Host.Outcome.next (s.act_to _ _ ?_)
    simp only [hchgf]
    exact if_pos ⟨harmed, hfront, hmode, List.all_eq_true.mpr fun k hk => decide_eq_true (hlow k hk), hlong⟩
  rw [hf]
  obtain ⟨t, ht, hcause, hbegun, hstopped, hunit, -⟩ := hc.session_ends (.refl s) hhand hrun harm (f := fun _ => s.stopSession 2) rfl
  exact ⟨t, ht, hcause, hbegun, hstopped, hunit⟩

theorem exec_safetyTimerExpiry_ends (hmode : s.charge.mode = 0) :
    ∃ t, exec .safetyTimerExpiry s = .next t ∧ t.reg Item.CHG.STOP_CAUSE = 7 ∧ t.charge.timerLatch = true ∧ t.charge.hand.isSome = true
      ∧ t.charge.running = false ∧ t.unit = s.unit ∧ t.leg = s.leg := by
  have hf : ∃ w, s.Serves w ∧ w.charge = s.charge ∧ exec .safetyTimerExpiry s = .next (s.act fun _ => w.stopSession 7) := by
    refine ⟨_, ?_, ?_, congrArg Host.Outcome.next (s.act_to _ _ (if_neg (by simp [hrun, hmode])))⟩
    · split
      · exact .refl s
      · exact s.serves_reach _
    · split
      · rfl
      · rfl
  obtain ⟨w, hw, hbooks, hrow⟩ := hf
  rw [hrow]
  obtain ⟨t, ht, hcause, hbegun, hstopped, hunit, hleg, hlatch⟩ := hc.session_ends hw (by rw [hbooks]; exact hhand) (by rw [hbooks]; exact hrun)
    (by rw [hbooks]; exact harm) (f := fun _ => w.stopSession 7) rfl
  exact ⟨t, ht, hcause, by simpa using hlatch, hbegun, hstopped, hunit, hleg⟩

omit hhand harm in
theorem exec_chargerWatchdog_expires (hfresh : s.charge.fallback = false) :
    ∃ t, exec .chargerWatchdog s = .next t ∧ t.charge = { s.charge with fallback := true, ceiling := t.charge.ceiling }
      ∧ t.reg Item.CHG.WDT_CNT = s.reg Item.CHG.WDT_CNT + 1 ∧ s.charge.watchdog + s.regN Item.CHG.WDT * 1000000 ≤ t.time.now
      ∧ t.unit = s.unit ∧ t.sheaf = s.sheaf := by
  have harmed : s.armed = true := by simp [State.armed, hrun]
  have hdue : s.charge.watchdog + s.regN Item.CHG.WDT * 1000000 ≤ s.watchdogDue := by
    unfold State.watchdogDue
    omega
  have hwork : s.Serves (s.reach s.watchdogDue).watchdogExpires :=
    (((s.serves_reach _).trans (State.serves_setCharge ..)).trans (State.serves_setCharge ..)).trans (State.serves_bump ..)
  refine hwork.next hc (if_neg (by simp [harmed, hfresh])) ⟨rfl, State.reg_setReg_same .., ?_, rfl, rfl⟩
  rw [hwork.keepLive_now]
  exact hdue.trans (le_max_right ..)

end
end

/-- Settles O37: a hand-over latches pilot and plug; without one, each cause of Table 12-8 begins it for a session in progress. -/
theorem sessionsEndByTheirCauses : Obligations.SessionsEndByTheirCauses := fun _ hc =>
  ⟨fun _ hhand => ⟨exec_handover_releases hc hhand, exec_pilotState_latches hc hhand, exec_pilotState_filters hc,
      exec_proximityChange_latches hc hhand⟩,
    fun hhand => ⟨exec_pilotState_holds hc hhand, exec_proximityChange_plugs hc hhand⟩,
    fun hhand hrun harm => ⟨exec_pilotState_unplugs hc hhand hrun harm, exec_proximityChange_unplugs hc hhand hrun harm,
      exec_mainsLoss_ends hc hhand hrun harm, exec_safetyTimerExpiry_ends hc hhand hrun harm, exec_chargerWatchdog_expires hc hrun⟩⟩

end Sys2Proof.Machine


namespace Sys2Proof.Machine

/-! ## The settings of a charge (R335, R340, Table 12-6) -/

/-- The items that a settings block can write. -/
def settingAddrs : List Nat :=
  [Item.CHG.SET_I_IN, Item.CHG.SET_I_BAT, Item.CHG.SET_V_BAT, Item.CHG.SET_MODE, Item.CHG.SET_PHASES, Item.CHG.SET_P_EXP,
    Item.CHG.BAT_V_MAX, Item.CHG.BAT_I_MAX, Item.CHG.BAT_I_DIS_MAX, Item.CHG.BAT_TEMP]

theorem sublist_if_item (c : Bool) (a : Nat) (w : Word) : ((if c then [(a, w)] else []).map Prod.fst).Sublist [a] := by
  cases c
  · exact List.nil_sublist _
  · exact .refl _

theorem settingItems_sublist (p : List Byte) : ((settingItems p).map Prod.fst).Sublist settingAddrs := by
  unfold settingItems
  simp only [List.map_append]
  exact ((((((((((sublist_if_item ..).append (sublist_if_item ..)).append (sublist_if_item ..)).append (sublist_if_item ..)).append
    (sublist_if_item ..)).append (sublist_if_item ..)).append (sublist_if_item ..)).append (sublist_if_item ..)).append
    (sublist_if_item ..)).append (sublist_if_item ..))

theorem settingItems_nodup (p : List Byte) : ((settingItems p).map Prod.fst).Nodup := (settingItems_sublist p).nodup (by decide)

/-- An item that no settings block writes. -/
theorem settingItems_ne {p : List Byte} {a : Nat} (ha : a ∉ settingAddrs) : ∀ x ∈ settingItems p, a ≠ x.1 :=
  fun _ hx hax => ha (hax ▸ (settingItems_sublist p).subset (List.mem_map_of_mem hx))

/-- What a restart of the watchdog leaves. -/
structure State.Restarts (s t : State) : Prop where
  eq : t = { s with regs := t.regs, charge := t.charge }
  watchdog : t.charge.watchdog = s.time.now
  fallback : t.charge.fallback = false
  reg : ∀ a, a ≠ Item.CHG.WDT_CNT → t.reg a = s.reg a
  count : t.reg Item.CHG.WDT_CNT = s.reg Item.CHG.WDT_CNT
    + (if s.armed = true ∧ s.charge.fallback = false ∧ s.watchdogDue ≤ s.time.now then 1 else 0)

theorem State.restartWatchdog_spec (s : State) : s.Restarts s.restartWatchdog := by
  unfold State.restartWatchdog
  by_cases hdue : s.armed = true ∧ s.charge.fallback = false ∧ s.watchdogDue ≤ s.time.now
  · have hif : s.armed = true ∧ (!s.charge.fallback) = true ∧ s.watchdogDue ≤ s.time.now := by simpa using hdue
    simp only [if_pos hif]
    refine ⟨rfl, rfl, rfl, fun a ha => ?_, ?_⟩
    · exact State.reg_setReg_other _ _ _ _ ha
    · rw [if_pos hdue]
      exact State.reg_setReg_same ..
  · have hif : ¬ (s.armed = true ∧ (!s.charge.fallback) = true ∧ s.watchdogDue ≤ s.time.now) := by simpa using hdue
    simp only [if_neg hif]
    refine ⟨rfl, rfl, rfl, fun _ _ => rfl, ?_⟩
    rw [if_neg hdue]
    exact (BitVec.add_zero _).symm

theorem State.Restarts.working {s t : State} (h : s.Restarts t) : s.Working t :=
  ⟨by rw [h.eq], fun _ => by rw [h.eq]; rfl, by rw [h.eq], by rw [h.eq], by rw [h.eq], by rw [h.eq]⟩

section
variable {s : State} (hc : s.Calm) {slot : Fin 8} {index : Fin 64} {r : CmdRec} (hd : s.Due slot index r)
include hc hd

theorem exec_chargeSet_writes (hop : op r.msg = Op.chargeSet) (hformed : settingsFormed r.msg.payload = true)
    (hrange : settingsInRange r.msg.payload = true) (hclaim : beAt r.msg.payload 0 2 % 64 = 0 ∨ s.lacksChgf slot = false)
    (hlimits : beAt r.msg.payload 0 2 / 256 = 0 ∨ s.hasRight slot Right.limits = true) :
    ∃ t, exec (.chargeSet slot index) s = .next t ∧ t.Answers slot index r Code.ok Reason.none []
      ∧ (∀ x ∈ settingItems r.msg.payload, t.reg x.1 = x.2)
      ∧ (∀ a, a ≠ Item.CHG.WDT_CNT → (∀ x ∈ settingItems r.msg.payload, x.1 ≠ a) → t.reg a = s.reg a)
      ∧ t.reg Item.CHG.WDT_CNT = s.reg Item.CHG.WDT_CNT
          + (if s.armed = true ∧ s.charge.fallback = false ∧ s.watchdogDue ≤ s.time.now then 1 else 0)
      ∧ t.charge.watchdog = s.time.now ∧ t.charge.fallback = false := by
  generalize hp : r.msg.payload = p at *
  have hwork : s.doChargeSet slot index r.msg = (s.setRegs (settingItems p)).restartWatchdog.complete slot index Code.ok Reason.none [] := by
    unfold State.doChargeSet
    rw [hp]
    refine (if_neg (by simp [hformed])).trans ((if_neg ?_).trans ((if_neg ?_).trans (if_neg (by simp [hrange]))))
    · rcases hclaim with h | h <;> simp [h]
    · rcases hlimits with h | h <;> simp [h]
  have hset := s.writesItems_setRegs (settingItems p)
  have hread : ∀ x ∈ settingItems p, (s.setRegs (settingItems p)).reg x.1 = x.2 := fun _ hx => s.reg_setRegs_of_nodup (settingItems_nodup p) hx
  have hother : ∀ a, (∀ x ∈ settingItems p, a ≠ x.1) → (s.setRegs (settingItems p)).reg a = s.reg a := fun a ha => s.reg_setRegs_other _ ha
  have hcount : (s.setRegs (settingItems p)).reg Item.CHG.WDT_CNT = s.reg Item.CHG.WDT_CNT := hother _ (settingItems_ne (by decide))
  have hdue : (s.setRegs (settingItems p)).watchdogDue = s.watchdogDue := by
    unfold State.watchdogDue State.regN
    rw [hset.charge, hother _ (settingItems_ne (by decide))]
  have harmed : (s.setRegs (settingItems p)).armed = s.armed := by
    unfold State.armed
    rw [hset.charge]
  have hworking : s.Working (s.setRegs (settingItems p)) :=
    ⟨by rw [hset.eq], fun _ => by rw [hset.eq]; rfl, hset.time, by rw [hset.eq], by rw [hset.eq], by rw [hset.eq]⟩
  generalize s.setRegs (settingItems p) = v at *
  have hrestart := v.restartWatchdog_spec
  generalize v.restartWatchdog = u at *
  have hcomp := u.completes_complete slot index Code.ok Reason.none []
  have hshown : (u.complete slot index Code.ok Reason.none []).reg = u.reg := hcomp.reg
  have hbooks : (u.complete slot index Code.ok Reason.none []).charge = u.charge := by rw [hcomp]
  have hne : ∀ x ∈ settingItems p, x.1 ≠ Item.CHG.WDT_CNT := fun x hx => (settingItems_ne (p := p) (by decide) x hx).symm
  have huw : s.Working u := by
    obtain ⟨hrecs, hstatus, htime, hwaits, hswaps, hstate⟩ := hrestart.working
    exact ⟨hrecs.trans hworking.recs, fun n => (hstatus n).trans (hworking.status n), htime.trans hworking.time,
      hwaits.trans hworking.waits, hswaps.trans hworking.swaps, hstate.trans hworking.state⟩
  refine hc.answers_row hd (is := fun m => decide (op m = Op.chargeSet)) (f := fun u m => u.doChargeSet slot index m) (decide_eq_true hop)
    hwork huw ⟨fun x hx => ?_, fun a ha hax => ?_, ?_, ?_, ?_⟩
  · exact (congrFun hshown _).trans ((hrestart.reg _ (hne x hx)).trans (hread x hx))
  · exact (congrFun hshown _).trans ((hrestart.reg a ha).trans (hother a fun x hx => (hax x hx).symm))
  · refine (congrFun hshown _).trans (hrestart.count.trans ?_)
    rw [hcount, harmed, hset.charge, hdue, hworking.time]
  · exact (congrArg Charge.watchdog hbooks).trans (hrestart.watchdog.trans (congrArg Time.now hworking.time))
  · exact (congrArg Charge.fallback hbooks).trans hrestart.fallback

end

end Sys2Proof.Machine


namespace Sys2Proof.Machine

/-! ## CHARGE_ARM (R344, R345, R349, Tables 12-7 and 12-9) -/

/-- An arm in step 1 waits while the plug is not debounced and no other check fails (R346). -/
theorem State.armStep_waits {s : State} {a : ArmRun} (harm : s.charge.arm = some a) (hstep : a.step = 1) (hmode : a.mode ≠ 3)
    (hplug : s.charge.debounced = false) (hcheck : s.armCheck a.mode a.late ≠ Reason.pilot) (checks : Option (List MidCheck)) :
    s.armStep checks = s := by
  unfold State.armStep
  simp only [harm, hstep]
  exact if_pos (.inr ⟨hmode, by simp [hplug], hcheck⟩)

theorem State.armStep_none {s : State} (h : s.charge.arm = none) (checks : Option (List MidCheck)) : s.armStep checks = s := by
  unfold State.armStep
  simp only [h]

/-- An arm whose step waits does not advance. -/
theorem State.armAdvance_fixed {s : State} {checks : Option (List MidCheck)} (h : s.armStep checks = s) : s.armAdvance checks = s := by
  unfold State.armAdvance
  induction List.range 9 with
  | nil => rfl
  | cons _ l ih =>
    rw [List.foldl_cons, h]
    exact ih

theorem State.armAdvance_none {s : State} (h : s.charge.arm = none) (checks : Option (List MidCheck)) : s.armAdvance checks = s :=
  State.armAdvance_fixed (State.armStep_none h checks)

theorem State.serves_addSequence {s : State} {slot index : Nat} {r : CmdRec} (h : s.cmd slot index = some r) (kind : SeqKind)
    (units : List Nat) (arg : Nat) : s.Serves (s.addSequence kind units slot index arg) := by
  rw [State.addSequence_eq h]
  exact ⟨rfl, le_rfl⟩

/-- An arm that has just begun. -/
def State.armBegun (s : State) (late : Bool) : ArmRun :=
  { step := 1, stage := 0, since := s.time.now, late := late, mode := (s.setting Item.CHG.SET_MODE).getD 0
    phases := (s.setting Item.CHG.SET_PHASES).getD 0 }

section
variable {s : State} {slot : Fin 8} {index : Fin 64} {r : CmdRec} (hd : s.Due slot index r)
  (hsome : s.chargerSheaves ≠ []) (hclaims : ∀ n ∈ s.chargerSheaves, s.hasClaim slot n = true)
include hd hsome hclaims

omit hd in
theorem State.chargerSheaves_claimed : ¬ ((!s.chargerSheaves.all (s.hasClaim slot)) = true ∨ s.chargerSheaves = []) := by
  have hall : s.chargerSheaves.all (s.hasClaim slot) = true := List.all_eq_true.mpr hclaims
  simp [hall, hsome]

/-- An arm that may begin begins, and waits for its plug. -/
theorem State.doArm_begins {late : Bool} (hcool : ∀ n ∈ s.chargerSheaves, s.holdBit (16 + n) = false) (hrest : s.charge.running = false)
    (hplug : s.charge.debounced = false) (hmode : (s.setting Item.CHG.SET_MODE).getD 0 ≠ 3)
    (hcheck : s.armCheck ((s.setting Item.CHG.SET_MODE).getD 0) late = 0) :
    s.doArm slot index late = (s.addSequence .arm [unitOf Kind.device 0] slot index (if late then 3 else 1)).setCharge
      { s.charge with arm := some (s.armBegun late) } := by
  have hcold : ¬ s.chargerSheaves.any (fun n => s.holdBit (16 + n)) = true := by
    simpa using hcool
  have hbegun : s.doArm slot index late = ((s.addSequence .arm [unitOf Kind.device 0] slot index (if late then 3 else 1)).setCharge
      { s.charge with arm := some (s.armBegun late) }).armAdvance none := by
    unfold State.doArm
    rw [if_neg (State.chargerSheaves_claimed hsome hclaims), if_neg hcold, if_neg (by simp [hrest]), State.addSequence_eq hd.cmd]
    rfl
  have hsame : ((s.addSequence .arm [unitOf Kind.device 0] slot index (if late then 3 else 1)).setCharge
      { s.charge with arm := some (s.armBegun late) }).armCheck ((s.setting Item.CHG.SET_MODE).getD 0) late = 0 := by
    rw [State.addSequence_eq hd.cmd]
    exact hcheck
  have hwaits (v : State) (hv : v.charge = { s.charge with arm := some (s.armBegun late) })
      (hk : v.armCheck ((s.setting Item.CHG.SET_MODE).getD 0) late = 0) : v.armAdvance none = v :=
    State.armAdvance_fixed (State.armStep_waits (a := s.armBegun late) (by rw [hv]) rfl hmode (by rw [hv]; exact hplug)
      (fun h => absurd (hk.symm.trans h) (by decide)) none)
  rw [hbegun]
  exact hwaits _ rfl hsame

/-- The row of an arm that may begin. -/
theorem State.Calm.arm_begins (hc : s.Calm) {late : Bool} (hcool : ∀ n ∈ s.chargerSheaves, s.holdBit (16 + n) = false)
    (hrest : s.charge.running = false) (hplug : s.charge.debounced = false) (hmode : (s.setting Item.CHG.SET_MODE).getD 0 ≠ 3)
    (hcheck : s.armCheck ((s.setting Item.CHG.SET_MODE).getD 0) late = 0) {f : State → State} (hf : f s = s.doArm slot index late) :
    ∃ t, (.next (s.act f) : Host.Outcome State Fault Refusal) = .next t ∧ t.charge.arm = some (s.armBegun late) ∧ t.Runs slot index r
      ∧ t.out = s.out := by
  rw [State.doArm_begins hd hsome hclaims hcool hrest hplug hmode hcheck] at hf
  have hserves := State.serves_addSequence hd.cmd .arm [unitOf Kind.device 0] (if late then 3 else 1)
  have hruns := State.addSequence_runs hd.cmd .arm [unitOf Kind.device 0] (if late then 3 else 1)
  have hout : (s.addSequence .arm [unitOf Kind.device 0] slot index (if late then 3 else 1)).out = s.out := by
    rw [State.addSequence_eq hd.cmd]
    rfl
  generalize s.addSequence .arm [unitOf Kind.device 0] slot index (if late then 3 else 1) = g at *
  exact (hserves.trans (g.serves_setCharge _)).next hc hf ⟨rfl, hruns.of_recs rfl, hout⟩

end

theorem opByte_of_payload {m : HostMsg} {b : Byte} (hp : m.payload = [b]) : opByte m = b.toNat := by
  unfold opByte
  rw [hp]
  exact Nat.zero_add _

theorem State.doChargeArm_one {s : State} {slot index : Nat} {m : HostMsg} (hp : m.payload = [1]) :
    s.doChargeArm slot index m = s.doArm slot index false := by
  unfold State.doChargeArm
  rw [if_neg (by simp [hp]), opByte_of_payload hp]
  rfl

theorem State.doChargeArm_two {s : State} {slot index : Nat} {m : HostMsg} (hp : m.payload = [2]) :
    s.doChargeArm slot index m = s.doDisarm slot index := by
  unfold State.doChargeArm
  rw [if_neg (by simp [hp]), opByte_of_payload hp]
  rfl

theorem State.doChargeArm_three {s : State} {slot index : Nat} {m : HostMsg} (hp : m.payload = [3]) :
    s.doChargeArm slot index m = s.doArm slot index true := by
  unfold State.doChargeArm
  rw [if_neg (by simp [hp]), opByte_of_payload hp]
  rfl

section
variable {s : State} (hc : s.Calm) {slot : Fin 8} {index : Fin 64} {r : CmdRec} (hd : s.Due slot index r)
  (hop : op r.msg = Op.chargeArm) (hsome : s.chargerSheaves ≠ []) (hclaims : ∀ n ∈ s.chargerSheaves, s.hasClaim slot n = true)
include hc hd hop hsome hclaims

theorem exec_chargeArm_begins (hp : r.msg.payload = [1]) (hcool : ∀ n ∈ s.chargerSheaves, s.holdBit (16 + n) = false)
    (hrest : s.charge.running = false) (hplug : s.charge.debounced = false) (hmode : (s.setting Item.CHG.SET_MODE).getD 0 ≠ 3)
    (hcheck : s.armCheck ((s.setting Item.CHG.SET_MODE).getD 0) false = 0) :
    ∃ t, exec (.chargeArm slot index) s = .next t ∧ t.charge.arm = some (s.armBegun false) ∧ t.Runs slot index r ∧ t.out = s.out := by
  have his : (decide (op r.msg = Op.chargeArm) && (decide (opByte r.msg ≠ 2) && decide (opByte r.msg ≠ 3))) = true := by
    rw [hop, opByte_of_payload hp]
    decide
  exact hc.arm_begins hd hsome hclaims hcool hrest hplug hmode hcheck ((hd.hostRow hc.locked his _).trans (State.doChargeArm_one hp))

theorem exec_chargeArmAfterTimer_begins (hp : r.msg.payload = [3]) (hcool : ∀ n ∈ s.chargerSheaves, s.holdBit (16 + n) = false)
    (hrest : s.charge.running = false) (hplug : s.charge.debounced = false) (hmode : (s.setting Item.CHG.SET_MODE).getD 0 ≠ 3)
    (hcheck : s.armCheck ((s.setting Item.CHG.SET_MODE).getD 0) true = 0) :
    ∃ t, exec (.chargeArmAfterTimer slot index) s = .next t ∧ t.charge.arm = some (s.armBegun true) ∧ t.Runs slot index r
      ∧ t.out = s.out := by
  have his : (decide (op r.msg = Op.chargeArm) && decide (opByte r.msg = 3)) = true := by
    rw [hop, opByte_of_payload hp]
    decide
  exact hc.arm_begins hd hsome hclaims hcool hrest hplug hmode hcheck ((hd.hostRow hc.locked his _).trans (State.doChargeArm_three hp))

section
variable (hp : r.msg.payload = [2]) (harm : s.charge.arm = none) (hhand : s.charge.hand = none)
include hp harm hhand

omit hhand in
theorem exec_chargeDisarm_handsOver (hrun : s.charge.running = true) :
    ∃ t, exec (.chargeDisarm slot index) s = .next t
      ∧ (∃ h, t.charge.hand = some h ∧ h.step = 1 ∧ h.cause = 9 ∧ h.began = s.time.now) ∧ t.charge.running = false
      ∧ t.reg Item.CHG.STOP_CAUSE = 9 ∧ t.Runs slot index r := by
  have his : (decide (op r.msg = Op.chargeArm) && decide (opByte r.msg = 2)) = true := by
    rw [hop, opByte_of_payload hp]
    decide
  have hwork : s.doDisarm slot index = (s.addSequence .disarm [unitOf Kind.device 0] slot index 2).handBegin 9 none := by
    unfold State.doDisarm
    rw [if_neg (State.chargerSheaves_claimed hsome hclaims)]
    simp only [harm, hrun, if_true]
  have hserves := State.serves_addSequence hd.cmd .disarm [unitOf Kind.device 0] 2
  have hruns := State.addSequence_runs hd.cmd .disarm [unitOf Kind.device 0] 2
  have htime : (s.addSequence .disarm [unitOf Kind.device 0] slot index 2).time = s.time := by
    rw [State.addSequence_eq hd.cmd]
    rfl
  have hf := (hd.hostRow hc.locked (is := fun m => decide (op m = Op.chargeArm) && decide (opByte m = 2)) his
    (fun u m => u.doChargeArm slot index m)).trans ((State.doChargeArm_two hp).trans hwork)
  generalize s.addSequence .disarm [unitOf Kind.device 0] slot index 2 = g at *
  have hends := g.handBegin_spec 9 none
  have hkept : (g.handBegin 9 none).recs = g.recs := by
    unfold State.handBegin
    rfl
  generalize g.handBegin 9 none = t at *
  obtain ⟨h, hh, hcause, hbegan, -, hstep⟩ := hends.hand
  exact (hserves.trans hends.serves).next hc hf ⟨⟨h, hh, hstep (by decide) (by decide), hcause, hbegan.trans (congrArg Time.now htime)⟩,
    hends.running, hends.shown, hruns.of_recs hkept⟩

theorem exec_chargeDisarm_answers (hrest : s.charge.running = false) :
    ∃ t, exec (.chargeDisarm slot index) s = .next t ∧ t.Answers slot index r Code.ok Reason.none (wordBytes s.sessionWord)
      ∧ t.charge = s.charge := by
  have his : (decide (op r.msg = Op.chargeArm) && decide (opByte r.msg = 2)) = true := by
    rw [hop, opByte_of_payload hp]
    decide
  have hwork : s.doDisarm slot index = s.complete slot index Code.ok Reason.none (wordBytes s.sessionWord) := by
    unfold State.doDisarm
    rw [if_neg (State.chargerSheaves_claimed hsome hclaims)]
    simp only [harm, hrest, hhand]
    rfl
  have hcomp := s.completes_complete slot index Code.ok Reason.none (wordBytes s.sessionWord)
  refine hc.answers_row hd (is := fun m => decide (op m = Op.chargeArm) && decide (opByte m = 2)) (f := fun u m => u.doChargeArm slot index m)
    his ((State.doChargeArm_two hp).trans hwork) (.refl s) ?_
  show (s.complete slot index Code.ok Reason.none (wordBytes s.sessionWord)).charge = s.charge
  rw [hcomp]

end
end

/-- Settles O41: a settings block is written whole; an arm waits for its plug; a disarm hands a session over, and without one answers. -/
theorem chargesAreSetArmedAndDisarmed : Obligations.ChargesAreSetArmedAndDisarmed := by
  intro s slot index r hc hd
  refine ⟨exec_chargeSet_writes hc hd, fun hop hp ⟨⟨hsome, hclaims⟩, hcool, hrest, _, hplug, hmode, hcheck⟩ => ?_,
    fun hop hp ⟨⟨hsome, hclaims⟩, hcool, hrest, _, hplug, hmode, hcheck⟩ => ?_, fun hop hp ⟨hsome, hclaims⟩ harm hhand => ?_⟩
  · exact exec_chargeArm_begins hc hd hop hsome hclaims hp hcool hrest hplug hmode hcheck
  · exact exec_chargeArmAfterTimer_begins hc hd hop hsome hclaims hp hcool hrest hplug hmode hcheck
  · by_cases hrun : s.charge.running = true
    · obtain ⟨t, ht, hends⟩ := exec_chargeDisarm_handsOver hc hd hop hsome hclaims hp harm hrun
      refine ⟨t, ht, ?_⟩
      rw [if_pos hrun]
      exact hends
    · obtain ⟨t, ht, hanswers⟩ := exec_chargeDisarm_answers hc hd hop hsome hclaims hp harm hhand (Bool.eq_false_iff.mpr hrun)
      refine ⟨t, ht, ?_⟩
      rw [if_neg hrun]
      exact hanswers

end Sys2Proof.Machine


namespace Sys2Proof.Machine

/-! ## The steps of a connection (R326, R345, R346, R352, R420, Tables 12-7 and 12-9) -/

/-- A request of an output's owner to switch it off does so. -/
theorem State.requestAs_off {s : State} {owner n : Nat} (h : s.regN (Item.SOUT.OWNER n) = owner) : s.requestAs owner n false = s.outOff n := by
  unfold State.requestAs
  rw [if_pos h]
  rfl

theorem State.outOff_owner (s : State) (n j : Nat) : (s.outOff n).regN (Item.SOUT.OWNER j) = s.regN (Item.SOUT.OWNER j) := by
  have hne : Item.SOUT.OWNER j ≠ Item.SOUT.TEST_ABORT_CNT n := by
    unfold Item.SOUT.OWNER Item.SOUT.TEST_ABORT_CNT Item.addr
    omega
  have hdemand : (s.outDemand n).reg (Item.SOUT.OWNER j) = s.reg (Item.SOUT.OWNER j) := by
    unfold State.outDemand
    simp only
    split
    · exact s.reg_setReg_other _ _ _ hne
    · rfl
  exact congrArg BitVec.toNat hdemand

theorem State.requests_outOff (s : State) (n : Nat) : s.Requests (s.outOff n) := (s.requests_outDemand n).trans (State.requests_setOut ..)

section
variable {s : State} (hc : s.Calm)
include hc

theorem exec_plugDebounceEnd_debounces {since : Nat} (hplug : s.charge.plugSince = some since) (hfresh : s.charge.debounced = false)
    (hhand : s.charge.hand = none) (harm : s.charge.arm = none) :
    ∃ t, exec .plugDebounceEnd s = .next t ∧ t.charge = { s.charge with debounced := true }
      ∧ since + s.regN Item.CHG.PLUG_DEBOUNCE * 1000000 ≤ t.time.now ∧ t.reg = s.reg := by
  let w := s.reach (since + s.regN Item.CHG.PLUG_DEBOUNCE * 1000000)
  have hrow : exec .plugDebounceEnd s = .next (s.act fun _ => w.setCharge { s.charge with debounced := true }) := by
    refine congrArg Host.Outcome.next (s.act_to _ _ ?_)
    generalize hg : w.setCharge { s.charge with debounced := true } = g
    simp only [hplug]
    refine (if_neg (by simp [hfresh, hhand])).trans ?_
    rw [← hg]
    exact State.armAdvance_none (s := w.setCharge { s.charge with debounced := true }) harm none
  have hserves : s.Serves (w.setCharge { s.charge with debounced := true }) := (s.serves_reach _).trans (w.serves_setCharge _)
  rw [hrow]
  exact hserves.next hc rfl ⟨rfl, (le_max_right ..).trans (le_max_right ..), rfl⟩

theorem exec_relayWaitEnd_matches {h : HandRun} (hhand : s.charge.hand = some h) (hstep : h.step = 3) (hopen : s.contactorsClosed = false) :
    ∃ t, exec .relayWaitEnd s = .next t ∧ t.charge.hand = some { h with step := 4, since := t.time.now }
      ∧ h.since + s.regN Item.CHG.RELAY_T * 1000000 ≤ t.time.now := by
  have hrow : exec .relayWaitEnd s = .next (s.act fun _ => (s.reach (h.since + s.regN Item.CHG.RELAY_T * 1000000)).handMatch h) := by
    refine congrArg Host.Outcome.next (s.act_to _ _ ?_)
    simp only [hhand]
    exact if_pos hstep
  rw [hrow]
  generalize hdue : h.since + s.regN Item.CHG.RELAY_T * 1000000 = due
  have hw := s.serves_reach due
  have hlate : due ≤ (s.reach due).time.now := le_max_right ..
  have hwopen : (s.reach due).contactorsClosed = false := hopen
  generalize s.reach due = w at *
  have hrequests := (w.requests_requestAs 0 1 true).trans (State.requests_requestAs _ 0 2 true)
  have hmatch : w.handMatch h = ((w.requestAs 0 1 true).requestAs 0 2 true).setCharge
      { ((w.requestAs 0 1 true).requestAs 0 2 true).charge with hand := some { h with step := 4, since := w.time.now } } :=
    if_neg (by simp [hwopen])
  rw [hmatch]
  generalize (w.requestAs 0 1 true).requestAs 0 2 true = g at *
  have hwork := (hw.trans hrequests.serves).trans (g.serves_setCharge { g.charge with hand := some { h with step := 4, since := w.time.now } })
  have hnow : (s.keepLive (g.setCharge { g.charge with hand := some { h with step := 4, since := w.time.now } })).time.now = w.time.now :=
    hwork.keepLive_now.trans (congrArg Time.now hrequests.time)
  refine hwork.next hc rfl ⟨?_, ?_⟩
  · rw [hnow]
    rfl
  · rw [hnow]
    exact hlate

section
variable (hhand : s.charge.hand = none) (harm : s.charge.arm = none)
include hhand harm

theorem exec_relayWaitEnd_connects {since : Nat} (hhv : s.hv = some (since, true)) :
    ∃ t, exec .relayWaitEnd s = .next t ∧ t.hv = none ∧ t.unit = s.unit ∧ t.leg = s.leg ∧ t.out = s.out := by
  let w : State := { s.reach (since + s.regN Item.CHG.RELAY_T * 1000000) with hv := none }
  have hends := w.completes_endSequences (fun q => decide (q.kind = SeqKind.hvConnect)) Code.ok Reason.none (fun _ => [])
  have hrow : exec .relayWaitEnd s = .next (s.act fun _ =>
      w.endSequences (fun q => decide (q.kind = SeqKind.hvConnect)) Code.ok Reason.none (fun _ => [])) := by
    refine congrArg Host.Outcome.next (s.act_to _ _ ?_)
    simp only [hhand, harm, hhv]
    rfl
  have hw : s.Serves w := (s.serves_reach _).trans ⟨rfl, le_rfl⟩
  have hnone : w.hv = none ∧ w.out = s.out := ⟨rfl, rfl⟩
  rw [hrow]
  clear_value w
  generalize w.endSequences _ _ _ _ = g at *
  have hwork := hw.trans hends.serves
  have hkept : g.hv = w.hv ∧ g.out = w.out := by
    rw [hends]
    exact ⟨rfl, rfl⟩
  exact hwork.next hc rfl ⟨hkept.1.trans hnone.1, hwork.unit, hwork.leg, hkept.2.trans hnone.2⟩

theorem exec_linkMatch_joins {since : Nat} (hhv : s.hv = some (since, false)) (hmatch : s.linksMatch = true) :
    ∃ t, exec .linkMatch s = .next t ∧ t.hv = some (s.time.now, true) ∧ t.unit = s.unit := by
  have hrow : exec .linkMatch s = .next (s.act fun _ =>
      { (s.requestAs 0 0 true).requestAs 0 2 false with hv := some (s.time.now, true) }) := by
    refine congrArg Host.Outcome.next (s.act_to _ _ ?_)
    simp only [hhand, harm, hhv]
    exact if_pos hmatch
  rw [hrow]
  have hrequests := (s.requests_requestAs 0 0 true).trans (State.requests_requestAs _ 0 2 false)
  generalize (s.requestAs 0 0 true).requestAs 0 2 false = g at *
  have hwork : s.Serves { g with hv := some (s.time.now, true) } := hrequests.serves.trans ⟨rfl, le_rfl⟩
  exact hwork.next hc rfl ⟨rfl, hwork.unit⟩

theorem exec_linkMatch_gives_up {since : Nat} (hhv : s.hv = some (since, false)) (hmatch : s.linksMatch = false)
    (howner : ∀ k < 3, s.regN (Item.SOUT.OWNER k) = 0) :
    ∃ t, exec .linkMatch s = .next t ∧ t.hv = none ∧ (∀ k < 3, (t.out k).on = false)
      ∧ since + s.regN Item.CHG.MATCH_TMAX * 1000000 ≤ t.time.now ∧ t.unit = s.unit := by
  let w := s.reach (since + s.regN Item.CHG.MATCH_TMAX * 1000000)
  have hrow : exec .linkMatch s = .next (s.act fun _ =>
      { ((w.requestAs 0 0 false).requestAs 0 1 false).requestAs 0 2 false with hv := none }.endSequences
        (fun q => decide (q.kind = SeqKind.hvConnect)) Code.invalid Reason.link (fun _ => [])) := by
    refine congrArg Host.Outcome.next (s.act_to _ _ ?_)
    simp only [hhand, harm, hhv]
    exact if_neg (by simp [hmatch])
  have hw : s.Serves w := s.serves_reach _
  have hlate : since + s.regN Item.CHG.MATCH_TMAX * 1000000 ≤ w.time.now := le_max_right ..
  have hwowner : ∀ k < 3, w.regN (Item.SOUT.OWNER k) = 0 := howner
  rw [hrow]
  clear_value w
  rw [State.requestAs_off (hwowner 0 (by decide)), State.requestAs_off ((w.outOff_owner 0 1).trans (hwowner 1 (by decide))),
    State.requestAs_off ((State.outOff_owner _ 1 2).trans ((w.outOff_owner 0 2).trans (hwowner 2 (by decide))))]
  have hoff : ∀ k < 3, ((((w.outOff 0).outOff 1).outOff 2).out k).on = false := by
    intro k hk
    rw [State.outOff_out, State.outOff_out, State.outOff_out]
    split
    · rfl
    · split
      · rfl
      · rw [if_pos (by omega)]
  have hrequests := ((w.requests_outOff 0).trans (State.requests_outOff _ 1)).trans (State.requests_outOff _ 2)
  generalize ((w.outOff 0).outOff 1).outOff 2 = g at *
  have hcut : g.Serves { g with hv := none } := ⟨rfl, le_rfl⟩
  obtain ⟨c, hc'⟩ : ∃ c : State, c = { g with hv := none } := ⟨_, rfl⟩
  have hbooks : c.hv = none ∧ c.out = g.out ∧ c.time = g.time := by
    rw [hc']
    exact ⟨rfl, rfl, rfl⟩
  rw [← hc'] at hcut ⊢
  have hends := c.completes_endSequences (fun q => decide (q.kind = SeqKind.hvConnect)) Code.invalid Reason.link (fun _ => [])
  generalize c.endSequences _ _ _ _ = v at *
  have hwork := ((hw.trans hrequests.serves).trans hcut).trans hends.serves
  have hkept : v.hv = none ∧ v.out = g.out ∧ v.time = g.time := by
    rw [hends]
    exact hbooks
  refine hwork.next hc rfl ⟨hkept.1, fun k hk => ?_, ?_, hwork.unit⟩
  · exact (congrArg (fun f => (f k).on) hkept.2.1).trans (hoff k hk)
  · rw [hwork.keepLive_now, hkept.2.2, hrequests.time]
    exact hlate

end

omit hc in
/-- An arm that fails after its second step hands over (R345). -/
theorem State.armFail_late {s : State} {a : ArmRun} (harm : s.charge.arm = some a) (hlate : 3 ≤ a.step) (code reason : Nat) :
    s.armFail code reason = s.handBegin 0 (some (code, reason)) := by
  unfold State.armFail
  simp only [harm]
  exact (if_neg (by omega)).trans (if_neg (by omega))

/-- An arm given up by its timeout, at the end of a row. -/
theorem State.Calm.arm_timesOut {a : ArmRun} (harm : s.charge.arm = some a) (hlate : 3 ≤ a.step) {due code reason : Nat}
    {f : State → State} (hf : f s = (s.reach due).armFail code reason) :
    ∃ t, (.next (s.act f) : Host.Outcome State Fault Refusal) = .next t ∧ t.charge.arm = none ∧ t.charge.hand.isSome = true
      ∧ t.reg Item.CHG.STOP_CAUSE = 0 ∧ due ≤ t.time.now := by
  rw [State.armFail_late (s := s.reach due) harm hlate] at hf
  have hends := (s.reach due).handBegin_spec 0 (some (code, reason))
  generalize (s.reach due).handBegin 0 (some (code, reason)) = g at *
  obtain ⟨h, hh, -⟩ := hends.hand
  have hwork := (s.serves_reach due).trans hends.serves
  refine hwork.next hc hf ⟨hends.arm, Option.isSome_iff_exists.mpr ⟨h, hh⟩, hends.shown, ?_⟩
  rw [hwork.keepLive_now, hends.time]
  exact le_max_right ..

theorem exec_evseTimeout_ends {a : ArmRun} (harm : s.charge.arm = some a) (hstep : a.step = 5)
    (hmains : s.regN (Item.ADCI.MAINS_STATE 0) = 0) :
    ∃ t, exec .evseTimeout s = .next t ∧ t.charge.arm = none ∧ t.charge.hand.isSome = true ∧ t.reg Item.CHG.STOP_CAUSE = 0
      ∧ a.since + s.regN Item.CHG.EVSE_TMO * 1000000 ≤ t.time.now := by
  refine hc.arm_timesOut harm (by omega) (code := Code.invalid) (reason := Reason.noMains) ?_
  simp only [harm]
  exact if_pos ⟨hstep, hmains⟩

theorem exec_inrushTimeout_ends {a : ArmRun} (harm : s.charge.arm = some a) (hstep : a.step = 6) (hstage : a.stage = 1) :
    ∃ t, exec .inrushTimeout s = .next t ∧ t.charge.arm = none ∧ t.charge.hand.isSome = true ∧ t.reg Item.CHG.STOP_CAUSE = 0
      ∧ a.since + s.regN Item.CHG.INRUSH_T * 1000000 ≤ t.time.now := by
  refine hc.arm_timesOut harm (by omega) (code := Code.invalid) (reason := Reason.inrush) ?_
  simp only [harm]
  exact if_pos ⟨hstep, hstage⟩

end

end Sys2Proof.Machine


namespace Sys2Proof.Machine

/-! ## The charger's turn of 10 ms (R325, R331, R336 to R339, R345, Table 3-6) -/

/-- The turn with its input limit. -/
def State.chargerTurn (s : State) : State :=
  (s.every Timer.charger 10000000).setReg Item.CHG.I_IN_LIM (nw (s.every Timer.charger 10000000).inputCurrent)

/-- What the turn does after that. -/
def State.chargerWork (s : State) (checks : List MidCheck) : State :=
  match s.charge.hand with
  | some h => s.handRamp h 10000000
  | none =>
    if s.charge.running then
      if !((match s.chgf with | some n => s.runs n | none => false) && (s.bridges.any s.runs || s.resyncDue)) then s.stopSession 4
      else if s.driveFast then s.stopSession 3
      else
        let t1 := s.chargeTimer s.batteryAmps
        let t2 := if t1.charge.mode = 0 then t1.chargeStep s.batteryAmps else t1
        if t2.charge.running then t2.setCeiling.chargeTarget 10000000 else t2
    else if s.dev.state = .charge ∧ s.driveFast then s.stopSession 3
    else (s.setReg Item.CHG.ZONE (nw s.zone)).armAdvance (some checks)

theorem exec_chargerUpdate_eq {s : State} {n : Nat} (hchgf : s.chgf = some n) (checks : List MidCheck) :
    exec (.chargerUpdate checks) s = .next (s.act fun _ => s.chargerTurn.chargerWork checks) :=
  congrArg Host.Outcome.next (s.act_to _ _ (if_neg (by simp [hchgf])))

section
variable {s : State}

theorem State.chargerWork_hand {h : HandRun} (hhand : s.charge.hand = some h) (hstep : h.step ≠ 1) (checks : List MidCheck) :
    s.chargerWork checks = s := by
  unfold State.chargerWork
  simp only [hhand]
  exact if_pos hstep

variable (hhand : s.charge.hand = none)
include hhand

theorem State.chargerWork_idle (harm : s.charge.arm = none) (hrest : s.charge.running = false)
    (hslow : s.dev.state = .charge → s.driveFast = false) (checks : List MidCheck) :
    s.chargerWork checks = s.setReg Item.CHG.ZONE (nw s.zone) := by
  have hnot : ¬ (s.dev.state = .charge ∧ s.driveFast = true) := fun h => absurd ((hslow h.1).symm.trans h.2) (by decide)
  have hfixed : (s.setReg Item.CHG.ZONE (nw s.zone)).armAdvance (some checks) = s.setReg Item.CHG.ZONE (nw s.zone) :=
    State.armAdvance_none (s := s.setReg Item.CHG.ZONE (nw s.zone)) harm _
  unfold State.chargerWork
  simp only [hhand]
  exact (if_neg (by simp [hrest])).trans ((if_neg hnot).trans hfixed)

theorem State.chargerWork_fast (hrest : s.charge.running = false) (hstate : s.dev.state = .charge) (hfast : s.driveFast = true)
    (checks : List MidCheck) : s.chargerWork checks = s.stopSession 3 := by
  unfold State.chargerWork
  simp only [hhand]
  exact (if_neg (by simp [hrest])).trans (if_pos ⟨hstate, hfast⟩)

/-- In supply-only mode the turn takes the timer and the target on. -/
theorem State.chargerWork_supplies {n : Nat} (hchgf : s.chgf = some n) (hrun : s.charge.running = true) (hmode : s.charge.mode = 1)
    (hfront : s.runs n = true) (hbridge : s.bridges.any s.runs = true) (hslow : s.driveFast = false) (checks : List MidCheck) :
    s.chargerWork checks = (s.chargeTimer s.batteryAmps).setCeiling.chargeTarget 10000000 := by
  have hbooks : (s.chargeTimer s.batteryAmps).charge.mode = 1 ∧ (s.chargeTimer s.batteryAmps).charge.running = true := ⟨hmode, hrun⟩
  have hcharges : ¬ (s.chargeTimer s.batteryAmps).charge.mode = 0 := by
    rw [hbooks.1]
    decide
  unfold State.chargerWork
  simp only [hhand, hchgf, hfront, hbridge]
  refine (if_pos hrun).trans ((if_neg (by simp)).trans ((if_neg (by simp [hslow])).trans ?_))
  rw [if_neg hcharges]
  exact if_pos hbooks.2

end

/-! ## What the turn's input limit leaves (R331) -/

theorem State.chargerTurn_reg (s : State) {a : Nat} (h : a ≠ Item.CHG.I_IN_LIM) : s.chargerTurn.reg a = s.reg a :=
  (s.every Timer.charger 10000000).reg_setReg_other _ _ _ h

theorem State.chargerTurn_limit (s : State) : s.chargerTurn.reg Item.CHG.I_IN_LIM = nw s.inputCurrent := State.reg_setReg_same ..

theorem State.serves_chargerTurn (s : State) : s.Serves s.chargerTurn := (s.serves_every ..).trans (State.serves_setReg ..)

theorem State.chargerTurn_zone (s : State) : s.chargerTurn.zone = s.zone := by
  have hb (k : Nat) : s.chargerTurn.reg (Item.CHG.ZONE_T k) = s.reg (Item.CHG.ZONE_T k) :=
    s.chargerTurn_reg (by unfold Item.CHG.ZONE_T Item.CHG.I_IN_LIM Item.addr; omega)
  unfold State.zone State.regI State.regN
  simp only [hb, s.chargerTurn_reg (a := Item.CHG.BAT_TEMP) (by decide), s.chargerTurn_reg (a := Item.CHG.ZONE) (by decide),
    s.chargerTurn_reg (a := Item.CHG.ZONE_HYST) (by decide)]

theorem State.chargerTurn_portStatus (s : State) (p : Nat) : s.chargerTurn.portStatus p = s.portStatus p := by
  have hmode : s.chargerTurn.reg (Item.POS.MODE p) = s.reg (Item.POS.MODE p) :=
    s.chargerTurn_reg (by unfold Item.POS.MODE Item.CHG.I_IN_LIM Item.addr; omega)
  have hspeed : s.chargerTurn.reg (Item.POS.SPEED p) = s.reg (Item.POS.SPEED p) :=
    s.chargerTurn_reg (by unfold Item.POS.SPEED Item.CHG.I_IN_LIM Item.addr; omega)
  unfold State.portStatus State.portValid State.portSound State.portMode State.regI State.regN
  simp only [hmode, hspeed]
  rfl

theorem State.chargerTurn_driveFast (s : State) : s.chargerTurn.driveFast = s.driveFast := by
  have hmode (p : Nat) : s.chargerTurn.reg (Item.POS.MODE p) = s.reg (Item.POS.MODE p) :=
    s.chargerTurn_reg (by unfold Item.POS.MODE Item.CHG.I_IN_LIM Item.addr; omega)
  have hspeed (p : Nat) : s.chargerTurn.reg (Item.POS.SPEED p) = s.reg (Item.POS.SPEED p) :=
    s.chargerTurn_reg (by unfold Item.POS.SPEED Item.CHG.I_IN_LIM Item.addr; omega)
  have hsheaf (p : Nat) : s.chargerTurn.reg (Item.POS.SHEAF p) = s.reg (Item.POS.SHEAF p) :=
    s.chargerTurn_reg (by unfold Item.POS.SHEAF Item.CHG.I_IN_LIM Item.addr; omega)
  have htrc : s.chargerTurn.trcSheaf = s.trcSheaf := rfl
  have hport (n : Nat) : s.chargerTurn.portOf n = s.portOf n := by
    unfold State.portOf State.regN
    simp only [hmode, hsheaf]
  unfold State.driveFast State.regI
  simp only [htrc, hport, s.chargerTurn_portStatus, hspeed]

end Sys2Proof.Machine


namespace Sys2Proof.Machine

/-! ## Leaving CHARGE because the vehicle moves (Table 3-6) -/

theorem State.regs_clearForce (s : State) (u : Nat) : (s.clearForce u).regs = s.regs ∧ (s.clearForce u).bind = s.bind := by
  unfold State.clearForce State.bandAgain State.takeBand
  extract_lets r s1 l0 l u band running
  split
  · split
    · exact ⟨rfl, rfl⟩
    · split
      · exact ⟨rfl, rfl⟩
      · split
        · exact ⟨rfl, rfl⟩
        · exact ⟨rfl, rfl⟩
  · exact ⟨rfl, rfl⟩

theorem State.requests_applyOffCauses (s : State) : s.Requests s.applyOffCauses := by
  refine State.forEach_rel State.Requests.refl (fun _ _ _ => State.Requests.trans) _ (fun t n => ?_) _ s
  extract_lets bad t1
  have h1 : t.Requests t1 := by
    unfold t1
    split
    · exact t.requests_outOff n
    · exact .refl t
  exact h1.trans (t1.requests_setOut n _)

/-- A change of state that does not leave SERVICE shows in no item but those of the outputs. -/
theorem State.enterState_reg {s : State} (hstate : s.dev.state ≠ .service) (d : DevState) {a : Nat} (ha : a < Item.addr 0x19 0 0) :
    (s.enterState d).reg a = s.reg a := by
  unfold State.enterState
  split
  · rfl
  · extract_lets old b s0 d0 s1 s2 s3
    have h0 : s0.regs = s.regs ∧ s0.bind = s.bind :=
      State.forEach_rel (R := fun s t => t.regs = s.regs ∧ t.bind = s.bind) (fun _ => ⟨rfl, rfl⟩)
        (fun _ _ _ h k => ⟨k.1.trans h.1, k.2.trans h.2⟩) _ (fun t (p : Nat × UnitRec) => t.regs_clearForce p.1) _ s
    have h2 : s2 = s1 := if_neg hstate
    have h3 : s3.reg = s.reg := by
      unfold s3
      rw [State.talks_event, h2]
      show State.reg s1 = s.reg
      unfold State.reg
      rw [show s1.regs = s.regs from h0.1, show s1.bind = s.bind from h0.2]
    have hoff : s3.applyOffCauses.isoCheck.reg a = s3.applyOffCauses.reg a := by
      unfold State.isoCheck
      split
      · rfl
      · rfl
    rw [hoff, s3.requests_applyOffCauses.reg a ha, h3]

theorem State.stopUnpermitted_eq (s : State) : s.stopUnpermitted = { s with sheaves := s.stopUnpermitted.sheaves } := by
  refine State.forEach_rel (R := fun s t => t = { s with sheaves := t.sheaves }) (fun _ => rfl) (fun _ _ _ h k => by rw [k, h]) _
    (fun t n => ?_) _ s
  unfold State.orderlyStop State.sendStopWord
  simp only
  split
  · split
    · split
      · rfl
      · rfl
    · split
      · rfl
      · rfl
  · rfl

/-- What the exit with cause PARK leaves. -/
structure State.LeavesCharge (s t : State) : Prop where
  state : t.dev.state = .standby
  shown : t.reg Item.DEV.MODE_REASON = nw Reason.exitPark
  waits : t.waits = s.waits
  swaps : t.swaps = s.swaps

theorem State.chargeExit_park {s : State} (hstate : s.dev.state = .charge) : s.LeavesCharge (s.chargeExit 3) := by
  have hexit : s.chargeExit 3 = (((s.setReg Item.DEV.MODE_REASON (nw Reason.exitPark)).enterState .standby).endSequences
      (fun q => decide (q.kind = .mode ∧ q.arg = 2)) Code.ok Reason.none (fun _ => [])).stopUnpermitted := if_pos hstate
  rw [hexit]
  have hreason : (s.setReg Item.DEV.MODE_REASON (nw Reason.exitPark)).reg Item.DEV.MODE_REASON = nw Reason.exitPark := s.reg_setReg_same ..
  have hservice : (s.setReg Item.DEV.MODE_REASON (nw Reason.exitPark)).dev.state ≠ .service :=
    fun h => absurd (hstate.symm.trans h) (by decide)
  have hkept := State.enterState_reg hservice .standby (a := Item.DEV.MODE_REASON) (by decide)
  have hentered := (s.setReg Item.DEV.MODE_REASON (nw Reason.exitPark)).enterState_state .standby
  obtain ⟨hframe, -, -⟩ := (s.setReg Item.DEV.MODE_REASON (nw Reason.exitPark)).enters_enterState .standby
  have hwaits : ((s.setReg Item.DEV.MODE_REASON (nw Reason.exitPark)).enterState .standby).waits = s.waits := by
    rw [hframe]
    rfl
  have hswaps : ((s.setReg Item.DEV.MODE_REASON (nw Reason.exitPark)).enterState .standby).swaps = s.swaps := by
    rw [hframe]
    rfl
  have hshown := hkept.trans hreason
  generalize (s.setReg Item.DEV.MODE_REASON (nw Reason.exitPark)).enterState .standby = g at *
  have hends := g.completes_endSequences (fun q => decide (q.kind = .mode ∧ q.arg = 2)) Code.ok Reason.none (fun _ => [])
  generalize g.endSequences _ _ _ _ = v at *
  have hv : g.LeavesCharge v → s.LeavesCharge v.stopUnpermitted := fun h =>
    ⟨by rw [v.stopUnpermitted_eq]; exact h.state, by rw [v.stopUnpermitted_eq]; exact h.shown,
      by rw [v.stopUnpermitted_eq]; exact h.waits.trans hwaits, by rw [v.stopUnpermitted_eq]; exact h.swaps.trans hswaps⟩
  refine hv ⟨?_, (congrFun hends.reg _).trans hshown, ?_, ?_⟩
  · rw [hends]
    exact hentered
  · rw [hends]
  · rw [hends]

theorem State.stopSession_idle {s : State} (hhand : s.charge.hand = none) (hrest : s.charge.running = false) (harm : s.charge.arm = none)
    (cause : Nat) : s.stopSession cause = s.chargeExit cause := by
  have harmed : s.armed = false := by simp [State.armed, hrest, harm]
  unfold State.stopSession
  simp only [hhand, harmed]
  rfl

/-! ## The rows of the charger's turn -/

theorem State.chargeTimer_spec (s : State) (amps : Nat) :
    s.Serves (s.chargeTimer amps) ∧ (s.chargeTimer amps).sheaf = s.sheaf ∧ (s.chargeTimer amps).time = s.time
      ∧ (s.chargeTimer amps).charge.running = s.charge.running ∧ (s.chargeTimer amps).charge.hand = s.charge.hand
      ∧ (s.chargeTimer amps).charge.mode = s.charge.mode
      ∧ (s.chargeTimer amps).reg Item.CHG.TIMER_WALL = nw ((s.time.now - s.charge.stepAt) / 1000000000) := by
  unfold State.chargeTimer
  extract_lets c ns limiting add w
  have hset := s.writesItems_setRegs [(Item.CHG.TIMER_NOM, nw (w / 1000000000)),
    (Item.CHG.TIMER_WALL, nw ((s.time.now - c.stepAt) / 1000000000))]
  exact ⟨hset.serves.trans (State.serves_setCharge ..), hset.sheaf, hset.time, rfl, rfl, rfl, (s.reg_setRegs_pair _ _ (by decide)).2⟩

/-- In supply-only mode nothing is requested, and the turn writes items below and beside the timers. -/
theorem State.chargeTarget_supplies {s : State} (hmode : s.charge.mode = 1) (ns : Nat) :
    s.WritesItems (s.chargeTarget ns) ∧ (s.chargeTarget ns).reg Item.CHG.I_REQ = 0
      ∧ (s.chargeTarget ns).reg Item.CHG.TIMER_WALL = s.reg Item.CHG.TIMER_WALL := by
  unfold State.chargeTarget
  extract_lets c pmax expo req want up tgt down t s1
  have hreq : req = 0 := by
    have hexpo : expo = false := by
      unfold expo c
      rw [hmode]
      decide
    have hcharges : ¬ c.mode = 0 := fun h => absurd (hmode.symm.trans h) (by decide)
    exact (if_neg (by simp [hexpo])).trans (if_neg hcharges)
  have h1 : s.WritesItems s1 := s.writesItems_setRegs _
  have hread : s1.reg Item.CHG.I_REQ = 0 := (s.reg_setRegs_pair _ _ (by decide)).1.trans hreq
  have hwall : s1.reg Item.CHG.TIMER_WALL = s.reg Item.CHG.TIMER_WALL := s.reg_setRegs_pair_other _ _ (by decide) (by decide)
  clear_value s1
  have hlanes := State.forEach_rel_mem
    (R := fun u v : State => u.WritesItems v ∧ v.reg Item.CHG.I_REQ = u.reg Item.CHG.I_REQ
      ∧ v.reg Item.CHG.TIMER_WALL = u.reg Item.CHG.TIMER_WALL)
    (f := fun u l => u.setReg (Item.LOOP.SETPT_A l) (if expo then F32.neg t else t))
    (l := s1.bridges.flatMap fun m => (s1.lanesOf m).filter fun l => decide (s1.regN (Item.LOOP.TYPE l) = 7))
    (fun u => ⟨.refl u, rfl, rfl⟩)
    (fun _ _ _ h k => ⟨h.1.trans k.1, k.2.1.trans h.2.1, k.2.2.trans h.2.2⟩)
    (fun u l hl => by
      obtain ⟨m, -, hm⟩ := List.mem_flatMap.mp hl
      have hlt : l < 32 := State.mem_lanesOf (List.mem_filter.mp hm).1
      refine ⟨u.writesItems_setReg _ _, u.reg_setReg_other _ _ _ ?_, u.reg_setReg_other _ _ _ ?_⟩
      · unfold Item.CHG.I_REQ Item.LOOP.SETPT_A Item.addr
        omega
      · unfold Item.CHG.TIMER_WALL Item.LOOP.SETPT_A Item.addr
        omega) s1
  exact ⟨h1.trans hlanes.1, hlanes.2.1.trans hread, hlanes.2.2.trans hwall⟩

section
variable {s : State} (hc : s.Calm) {n : Nat} (hchgf : s.chgf = some n)
include hc hchgf

theorem exec_chargerUpdate_hand {h : HandRun} (hhand : s.charge.hand = some h) (hstep : h.step ≠ 1) (checks : List MidCheck) :
    ∃ t, exec (.chargerUpdate checks) s = .next t ∧ t.reg Item.CHG.I_IN_LIM = nw s.inputCurrent ∧ t.charge = s.charge ∧ t.unit = s.unit := by
  rw [exec_chargerUpdate_eq hchgf, State.chargerWork_hand (s := s.chargerTurn) hhand hstep]
  exact s.serves_chargerTurn.next hc rfl ⟨s.chargerTurn_limit, rfl, s.serves_chargerTurn.unit⟩

variable (hhand : s.charge.hand = none) (harm : s.charge.arm = none)
include hhand harm

theorem exec_chargerUpdate_idles (hrest : s.charge.running = false) (hslow : s.dev.state = .charge → s.driveFast = false)
    (checks : List MidCheck) :
    ∃ t, exec (.chargerUpdate checks) s = .next t ∧ t.reg Item.CHG.I_IN_LIM = nw s.inputCurrent ∧ t.reg Item.CHG.ZONE = nw s.zone
      ∧ t.charge = s.charge ∧ t.unit = s.unit ∧ s.lastDone Timer.charger + 10000000 ≤ t.time.now := by
  have hwork : s.chargerTurn.chargerWork checks = s.chargerTurn.setReg Item.CHG.ZONE (nw s.zone) := by
    rw [← s.chargerTurn_zone]
    exact State.chargerWork_idle (s := s.chargerTurn) hhand harm hrest (fun h => s.chargerTurn_driveFast.trans (hslow h)) checks
  rw [exec_chargerUpdate_eq hchgf, hwork]
  have hserves := s.serves_chargerTurn.trans (s.chargerTurn.serves_setReg Item.CHG.ZONE (nw s.zone))
  refine hserves.next hc rfl ⟨?_, State.reg_setReg_same .., rfl, hserves.unit, ?_⟩
  · exact (s.chargerTurn.reg_setReg_other _ _ _ (by decide)).trans s.chargerTurn_limit
  · rw [hserves.keepLive_now]
    exact s.every_now ..

theorem exec_chargerUpdate_exits (hrest : s.charge.running = false) (hstate : s.dev.state = .charge) (hfast : s.driveFast = true)
    (checks : List MidCheck) :
    ∃ t, exec (.chargerUpdate checks) s = .next t ∧ t.dev.state = .standby ∧ t.reg Item.DEV.MODE_REASON = nw Reason.exitPark := by
  rw [exec_chargerUpdate_eq hchgf, State.chargerWork_fast (s := s.chargerTurn) hhand hrest hstate (s.chargerTurn_driveFast.trans hfast),
    State.stopSession_idle (s := s.chargerTurn) hhand hrest harm]
  have hleaves := State.chargeExit_park (s := s.chargerTurn) hstate
  have hwaits : s.chargerTurn.waits = [] := hc.waits
  have hswaps : s.chargerTurn.swaps = [] := hc.swaps
  generalize s.chargerTurn.chargeExit 3 = g at *
  refine ⟨_, rfl, ?_, ?_⟩
  · rw [State.act_eq s (fun _ => g) hc.live (hleaves.waits.trans hwaits) (hleaves.swaps.trans hswaps) (by rw [hleaves.state]; decide)
      (by rw [hleaves.state]; decide), State.keepLive_devState _ _ hc.locked]
    exact hleaves.state
  · rw [State.act_eq s (fun _ => g) hc.live (hleaves.waits.trans hwaits) (hleaves.swaps.trans hswaps) (by rw [hleaves.state]; decide)
      (by rw [hleaves.state]; decide)]
    exact hleaves.shown

omit harm in
theorem exec_chargerUpdate_supplies (hrun : s.charge.running = true) (hmode : s.charge.mode = 1) (hfront : s.runs n = true)
    (hbridge : s.bridges.any s.runs = true) (hslow : s.driveFast = false) (checks : List MidCheck) :
    ∃ t, exec (.chargerUpdate checks) s = .next t ∧ t.reg Item.CHG.I_REQ = 0
      ∧ t.reg Item.CHG.TIMER_WALL = nw ((t.time.now - s.charge.stepAt) / 1000000000)
      ∧ t.charge.running = true ∧ t.charge.hand = none ∧ t.unit = s.unit ∧ t.sheaf = s.sheaf := by
  rw [exec_chargerUpdate_eq hchgf, State.chargerWork_supplies (s := s.chargerTurn) hhand hchgf hrun hmode hfront hbridge
    (s.chargerTurn_driveFast.trans hslow)]
  have hturn := s.serves_chargerTurn
  have hbooks : s.chargerTurn.charge = s.charge ∧ s.chargerTurn.sheaf = s.sheaf := ⟨rfl, rfl⟩
  generalize s.chargerTurn = w at *
  obtain ⟨hserves, hsheaf, htime, hruns, hhands, hmodes, hwall⟩ := w.chargeTimer_spec w.batteryAmps
  generalize w.chargeTimer w.batteryAmps = v at *
  have hceiling := v.serves_setCharge { v.charge with ceiling := v.chargeCeiling }
  have hcbooks : v.setCeiling.charge.mode = v.charge.mode ∧ v.setCeiling.charge.running = v.charge.running
      ∧ v.setCeiling.charge.hand = v.charge.hand ∧ v.setCeiling.time = v.time ∧ v.setCeiling.sheaf = v.sheaf
      ∧ v.setCeiling.reg = v.reg := ⟨rfl, rfl, rfl, rfl, rfl, rfl⟩
  change v.Serves v.setCeiling at hceiling
  generalize v.setCeiling = u at *
  obtain ⟨humode, hurun, huhand, hutime, husheaf, hureg⟩ := hcbooks
  obtain ⟨hwrites, hreq, htimer⟩ := State.chargeTarget_supplies (s := u) (humode.trans (hmodes.trans (by rw [hbooks.1]; exact hmode))) 10000000
  generalize u.chargeTarget 10000000 = g at *
  have hwork := ((hturn.trans hserves).trans hceiling).trans hwrites.serves
  refine hwork.next hc rfl ⟨hreq, ?_, ?_, ?_, hwork.unit, ?_⟩
  · rw [hwork.keepLive_now, hwrites.time, hutime, htime, ← hbooks.1]
    exact htimer.trans ((congrFun hureg _).trans hwall)
  · show g.charge.running = true
    rw [hwrites.charge, hurun, hruns, hbooks.1, hrun]
  · show g.charge.hand = none
    rw [hwrites.charge, huhand, hhands, hbooks.1, hhand]
  · show g.sheaf = s.sheaf
    rw [hwrites.sheaf, husheaf, hsheaf, hbooks.2]

end

end Sys2Proof.Machine


namespace Sys2Proof.Machine

/-! ## CHGD1 starts again alone (R326) -/

/-- What leaves the deferred steps of every leg, and the binding. -/
structure State.KeepsDeferred (s t : State) : Prop where
  leg : ∀ l, (t.leg l).deferred = (s.leg l).deferred
  bind : t.bind = s.bind

theorem State.KeepsDeferred.refl (s : State) : s.KeepsDeferred s := ⟨fun _ => rfl, rfl⟩

theorem State.KeepsDeferred.trans {s t u : State} (h : s.KeepsDeferred t) (k : t.KeepsDeferred u) : s.KeepsDeferred u :=
  ⟨fun l => (k.leg l).trans (h.leg l), k.bind.trans h.bind⟩

theorem State.KeepsDeferred.anyDeferred {s t : State} (h : s.KeepsDeferred t) (n : Nat) : t.anyDeferred n = s.anyDeferred n := by
  unfold State.anyDeferred
  rw [h.bind]
  simp only [h.leg]

theorem State.keepsDeferred_setLeg (s : State) (n : Nat) (l : Leg) (h : l.deferred = (s.leg n).deferred) : s.KeepsDeferred (s.setLeg n l) := by
  refine ⟨fun m => ?_, rfl⟩
  rw [State.leg_setLeg]
  split
  · next hm => rw [h, hm]
  · rfl

theorem State.keepsDeferred_forEach {α : Type} {f : State → α → State} (hf : ∀ s a, State.KeepsDeferred s (f s a)) (l : List α) (s : State) :
    s.KeepsDeferred (s.forEach l f) := State.forEach_rel State.KeepsDeferred.refl (fun _ _ _ => State.KeepsDeferred.trans) f hf l s

theorem State.WritesItems.keepsDeferred {s t : State} (h : s.WritesItems t) : s.KeepsDeferred t :=
  ⟨fun _ => by rw [h.eq]; rfl, by rw [h.eq]⟩

theorem State.keepsDeferred_clearCarry (s : State) (leg : Nat) : s.KeepsDeferred (s.clearCarry leg) := by
  unfold State.clearCarry
  split
  · exact (s.writesItems_setReg ..).keepsDeferred
  · exact .refl s

theorem State.keepsDeferred_leaveRun (s : State) (n : Nat) : s.KeepsDeferred (s.leaveRun n) := by
  unfold State.leaveRun
  extract_lets s1 s2 c b
  have h1 : s.KeepsDeferred s1 := State.keepsDeferred_forEach (fun t g => (t.writesItems_setRegs _).keepsDeferred) _ s
  have h2 : s1.KeepsDeferred s2 := by
    refine State.keepsDeferred_forEach (fun t leg => ?_) _ s1
    exact t.keepsDeferred_setLeg leg _ rfl
  refine (h1.trans h2).trans ?_
  split
  · exact ⟨fun _ => rfl, rfl⟩
  · split
    · exact .refl _
    · exact (s2.writesItems_setReg ..).keepsDeferred
  · have hb : s2.KeepsDeferred b := by
      unfold b
      split
      · exact .refl _
      · exact (s2.writesItems_setReg ..).keepsDeferred
    clear_value b
    exact hb.trans ⟨fun _ => rfl, rfl⟩
  · exact .refl _

theorem State.keepsDeferred_stopFollowers (s : State) (n : Nat) : s.KeepsDeferred (s.stopFollowers n) := by
  refine State.keepsDeferred_forEach (fun t m => ?_) _ s
  exact ⟨fun _ => rfl, rfl⟩

/-- A carrier that stops. -/
theorem State.stopCarrier_spec (s : State) (n : Nat) :
    s.KeepsDeferred (s.stopCarrier n) ∧ s.CalmAs (s.stopCarrier n) ∧ (s.stopCarrier n).charge = s.charge
      ∧ (s.stopCarrier n).time = s.time := by
  unfold State.stopCarrier
  extract_lets s1
  have hoff : s.FencesOnly s1 := ((s.fencesOnly_legsOff n).trans (State.fencesOnly_forEach _ State.fencesOnly_clearCarry _ _)).trans
    (State.fencesOnly_leaveRun _ n)
  have hkept : s.KeepsDeferred s1 := ((State.keepsDeferred_forEach (f := State.legOff) (fun t l => t.keepsDeferred_setLeg l _ rfl) _ s).trans
    (State.keepsDeferred_forEach State.keepsDeferred_clearCarry _ _)).trans (State.keepsDeferred_leaveRun _ n)
  clear_value s1
  obtain ⟨v, hv⟩ : ∃ v : State, v = { s1 with writes := s1.writes.filter fun w => decide (w.sheaf ≠ n) } := ⟨_, rfl⟩
  rw [← hv]
  have hfollow := v.fencesOnly_stopFollowers n
  have hvkept : s1.KeepsDeferred v := by
    rw [hv]
    exact ⟨fun _ => rfl, rfl⟩
  have hbooks : v.waits = s1.waits ∧ v.swaps = s1.swaps ∧ v.dev = s1.dev ∧ v.charge = s1.charge ∧ v.time = s1.time := by
    rw [hv]
    exact ⟨rfl, rfl, rfl, rfl, rfl⟩
  obtain ⟨hwaits, hswaps, hdev, hcharge, htime⟩ := hbooks
  have h1 := hoff.1
  have h2 := hfollow.1
  refine ⟨(hkept.trans hvkept).trans (v.keepsDeferred_stopFollowers n), ⟨?_, ?_, ?_⟩, ?_, ?_⟩
  · rw [h2, hwaits, h1]
  · rw [h2, hswaps, h1]
  · rw [h2, hdev, h1]
  · rw [h2, hcharge, h1]
  · rw [h2, htime, h1]

/-- CHGD1 stopped, READY, on its own carrier with the period that CHGD0 had. -/
def State.retimed (s : State) (d0 d1 : Nat) : State :=
  let t1 := (s.stopCarrier d1).setSheaf d1 { s.sheaf d1 with state := .ready, stop := none, starting := false }
  let t2 := t1.setRegs [(Item.PWM.SYNC_SHEAF d1, 15), (Item.PWM.PERIOD d1, s.reg (Item.PWM.PERIOD_NOW d0))]
  t2.setCharge { t2.charge with alone := true, sync := some (t2.charge.sync.getD (s.reg (Item.PWM.SYNC_SHEAF d1))) }

theorem State.retimed_spec (s : State) (d0 d1 : Nat) :
    s.CalmAs (s.retimed d0 d1) ∧ (s.retimed d0 d1).anyDeferred d1 = s.anyDeferred d1 ∧ ((s.retimed d0 d1).sheaf d1).state = .ready
      ∧ (s.retimed d0 d1).charge.alone = true ∧ (s.retimed d0 d1).charge.sync.isSome = true ∧ (s.retimed d0 d1).time = s.time := by
  unfold State.retimed
  obtain ⟨hkept, hcalm, -, htime⟩ := s.stopCarrier_spec d1
  generalize s.stopCarrier d1 = v at *
  extract_lets h t1 t2 c
  have h1 : v.KeepsDeferred t1 ∧ v.CalmAs t1 ∧ (t1.sheaf d1).state = .ready ∧ t1.time = v.time :=
    ⟨⟨fun _ => rfl, rfl⟩, ⟨rfl, rfl, rfl⟩, congrArg Sheaf.state (v.sheaf_setSheaf_same d1 _), rfl⟩
  have h2 : t1.WritesItems t2 := t1.writesItems_setRegs _
  clear_value t1 t2
  obtain ⟨hdeferred, hcalm1, hready, htime1⟩ := h1
  refine ⟨((hcalm.trans hcalm1).trans h2.serves.calmAs).trans ⟨rfl, rfl, rfl⟩,
    ((hkept.trans hdeferred).trans h2.keepsDeferred).anyDeferred d1, ?_, rfl, rfl, h2.time.trans (htime1.trans htime)⟩
  show (t2.sheaf d1).state = .ready
  rw [h2.sheaf]
  exact hready

/-- A READY sheaf without deferred steps starts. -/
theorem State.chargerStart_starts {s : State} {n : Nat} (hready : (s.sheaf n).state = .ready) (hnone : s.anyDeferred n = false)
    (checks : List MidCheck) : s.chargerStart n (s.bind.legsOf n) checks = (s.startRun n, 0) := by
  have hrests : s.runs n = false := by simp [State.runs, hready]
  have hpassed : s.deferredOn n (s.bind.legsOf n) checks = (s, 0) := s.deferredStep_none hnone checks
  unfold State.chargerStart
  rw [if_neg (by simp [hrests]), if_neg (by simp [hready]), hpassed]
  rfl

theorem exec_chgd0StopResync_starts {s : State} (hc : s.Calm) {d0 d1 : Nat} {rest : List Nat} (hbridges : s.bridges = d0 :: d1 :: rest)
    (hdue : s.resyncDue = true) (hnone : s.anyDeferred d1 = false) (checks : List MidCheck) :
    ∃ t, exec (.chgd0StopResync checks) s = .next t ∧ t.charge.alone = true ∧ t.charge.sync.isSome = true ∧ (t.sheaf d1).state = .run
      ∧ s.time.now + 2000000 ≤ t.time.now := by
  have hrow : exec (.chgd0StopResync checks) s = .next (s.act fun _ => (((s.retimed d0 d1).reach
      ((s.retimed d0 d1).time.now + 2000000)).chargerStart d1 ((s.retimed d0 d1).bind.legsOf d1) checks).1) := by
    refine congrArg Host.Outcome.next (s.act_to _ _ ?_)
    simp only [hbridges]
    exact if_neg (by simp [hdue])
  rw [hrow]
  obtain ⟨hcalm, hdeferred, hready, halone, hsync, htime⟩ := s.retimed_spec d0 d1
  generalize s.retimed d0 d1 = w at *
  have hlate : s.time.now + 2000000 ≤ (w.reach (w.time.now + 2000000)).time.now := by
    rw [← htime]
    exact le_max_right ..
  have hstart := State.chargerStart_starts (s := w.reach (w.time.now + 2000000)) (n := d1) hready (hdeferred.trans hnone) checks
  have hreached : w.CalmAs (w.reach (w.time.now + 2000000)) ∧ (w.reach (w.time.now + 2000000)).charge = w.charge := ⟨⟨rfl, rfl, rfl⟩, rfl⟩
  change (w.reach (w.time.now + 2000000)).chargerStart d1 (w.bind.legsOf d1) checks = _ at hstart
  rw [hstart]
  generalize w.reach (w.time.now + 2000000) = v at *
  have hstarts := v.startRun_spec d1
  have hrun : ((v.startRun d1).sheaf d1).state = .run := by
    rw [hstarts.sheaf, State.sheaf_setSheaf_same]
  have hcharge : (v.startRun d1).charge = w.charge := by
    rw [hstarts.eq]
    exact hreached.2
  have hnow : v.time.now ≤ (v.startRun d1).time.now := hstarts.now
  have hstarted : v.CalmAs (v.startRun d1) := ⟨hstarts.calmAs.waits, hstarts.calmAs.swaps, hstarts.calmAs.state⟩
  generalize v.startRun d1 = g at *
  refine ((hcalm.trans hreached.1).trans hstarted).next hc rfl ⟨?_, ?_, hrun, (hlate.trans hnow).trans (s.le_keepLive_now g)⟩
  · exact (congrArg Charge.alone hcharge).trans halone
  · exact (congrArg (fun c => c.sync.isSome) hcharge).trans hsync

/-- Settles O38: each step waits its time and goes on, or ends with its timeout; the charger's turn does what session and vehicle ask. -/
theorem connectionsGoThroughTheirSteps : Obligations.ConnectionsGoThroughTheirSteps := fun _ hc =>
  ⟨fun _ => exec_plugDebounceEnd_debounces hc, fun _ => exec_relayWaitEnd_matches hc,
    fun _ hhand harm hhv => exec_relayWaitEnd_connects hc hhand harm hhv,
    fun _ hhand harm hhv => ⟨exec_linkMatch_joins hc hhand harm hhv, exec_linkMatch_gives_up hc hhand harm hhv⟩,
    fun _ _ harm => ⟨exec_evseTimeout_ends hc harm, exec_inrushTimeout_ends hc harm⟩,
    fun checks _ hchgf => ⟨fun _ hhand hstep => exec_chargerUpdate_hand hc hchgf hhand hstep checks,
      fun hhand harm hrest hslow => exec_chargerUpdate_idles hc hchgf hhand harm hrest hslow checks,
      fun hhand harm hrest hstate hfast => exec_chargerUpdate_exits hc hchgf hhand harm hrest hstate hfast checks,
      fun hhand _ hrun hmode hfront hbridge hslow => exec_chargerUpdate_supplies hc hchgf hhand hrun hmode hfront hbridge hslow checks⟩,
    fun checks _ _ _ hbridges hdue hnone => exec_chgd0StopResync_starts hc hbridges hdue hnone checks⟩

end Sys2Proof.Machine
